-- ==== Sys2Proof/Word.lean ====
section
/-!
DEFINITION. The word types of the FX6 module and the index arithmetic of its fixed layout (R4, R13 to R15).

Register contents, memory words, instruction words and everything the manual numbers bit by bit are bit vectors.
Indices, clock counts and lengths are natural numbers.
-/

namespace Sys2Proof

abbrev Byte := BitVec 8
abbrev Word32 := BitVec 32
abbrev Word64 := BitVec 64
/-- A stored design-memory word: data in [63:0], check bits in [77:64] (R155). -/
abbrev Word78 := BitVec 78
/-- A stored course row (R48). -/
abbrev Row := BitVec 4184
/-- A stored bundle entry: data in [31:0], its seven check bits in [38:32] (R42). -/
abbrev Bundle := BitVec 39
/-- A truss control word (R81). -/
abbrev Ctl := BitVec 576
/-- An instruction word (R70). -/
abbrev Ins := BitVec 48

/-- A sparse memory: address and value pairs, addresses rising, nothing listed that equals the value an unlisted
address reads as. `Machine.Store.wf` states that form. -/
abbrev Store (α : Type) := List (Nat × α)

/-- Field [hi:lo] of a bit vector as a number. -/
def fld {w : Nat} (v : BitVec w) (hi lo : Nat) : Nat := (v.extractLsb' lo (hi + 1 - lo)).toNat

/-- Bit n of a bit vector. -/
def bit {w : Nat} (v : BitVec w) (n : Nat) : Bool := v.getLsbD n

/-- `v` with field [hi:lo] replaced by the low bits of `x`. -/
def setFld {w : Nat} (v : BitVec w) (hi lo : Nat) (x : Nat) : BitVec w :=
  let m : BitVec w := BitVec.ofNat w ((2 ^ (hi + 1 - lo) - 1) * 2 ^ lo)
  (v &&& ~~~ m) ||| (BitVec.ofNat w (x * 2 ^ lo) &&& m)

/-- `v` with bit n set to `b`. -/
def setBit {w : Nat} (v : BitVec w) (n : Nat) (b : Bool) : BitVec w :=
  if b then v ||| BitVec.ofNat w (2 ^ n) else v &&& ~~~ BitVec.ofNat w (2 ^ n)

/-- The vector whose bit i is `f i`. -/
def ofBits (w : Nat) (f : Nat → Bool) : BitVec w :=
  BitVec.ofNat w ((List.range w).foldr (fun i acc => (if f i then 1 else 0) + 2 * acc) 0)

/-- Little-endian bytes of a number (R4). -/
def bytesOf (n v : Nat) : List Byte := (List.range n).map fun i => BitVec.ofNat 8 (v / 256 ^ i)

/-- The number that little-endian bytes spell (R4). -/
def ofBytes (bs : List Byte) : Nat := bs.foldr (fun b acc => b.toNat + 256 * acc) 0

/-- Module index of die-local truss t of die d (R13). -/
def trussIx (d t : Nat) : Nat := d * 512 + t

/-- Die-local bay of die-local truss t (R14). -/
def bayOf (t : Nat) : Nat := (t / 32 / 4) * 4 + (t % 32) / 8

/-- Home truss of die-local bank j: truss (j div 4, 8·(j mod 4) + 3) (R159). -/
def homeTruss (j : Nat) : Nat := (j / 4) * 32 + 8 * (j % 4) + 3

/-- A count that stops at `top`. -/
def satAdd (top a b : Nat) : Nat := min top (a + b)

end Sys2Proof
end

