-- ==== Sys2Proof/Syntax/Operands.lean ====
section
/-!
DEFINITION. The operands of commands: what the world outside the module brings with an event.
-/

namespace Sys2Proof

/-- A path of the static fabric that FABRIC_DELIVERY serves. -/
inductive FabricPath where
  | batten (d t n : Nat)
  | purlin (d t p : Nat)
  | bridge (d : Nat) (flips : BitVec 384) (parity : BitVec 12)
deriving DecidableEq, Repr

/-- A master as its Announce describes it: the data set that the best master clock algorithm compares, and the port that
sends (R292, R294). -/
structure PtpMaster where
  priority1 : BitVec 8
  clockClass : BitVec 8
  accuracy : BitVec 8
  variance : BitVec 16
  priority2 : BitVec 8
  grandmaster : BitVec 64
  stepsRemoved : BitVec 16
  sender : BitVec 80
deriving DecidableEq, Repr

/-- How a frame on the time port carries PTP (Table 10.1). -/
inductive PtpTransport where
  | ethernet | ipv4 | ipv6
deriving DecidableEq, Repr

/-- A completed exchange with a master, by the end-to-end or the peer-to-peer mechanism at the master's rates (R292). Times and
correctionFields are in 2^-16 ns; `syncAge`, `reqAge` and `respAge` say how long ago the PHY stamped the Sync, the delay request and the
peer's response. -/
structure PtpExchange where
  sender : BitVec 80
  peer : Bool
  logSync : Int
  logDelay : Int
  /-- The Sync is a two-step one, whose Follow_Up has brought `sent` and a correctionField of its own. -/
  twoStep : Bool
  sent : Nat
  syncCorr : Int
  followCorr : Int
  syncAge : Nat
  reqAge : Nat
  /-- When the other end received the delay request; with the peer mechanism also when it answered, and how long ago that came. -/
  reqHeard : Nat
  respSent : Nat
  respAge : Nat
  respCorr : Int
deriving DecidableEq, Repr

/-- The offset of the master from network time `now`, with every correctionField applied and zero asymmetry (R292, R295; the formulas
are those of IEEE 1588: PRESUMED, log entry 63). -/
def PtpExchange.offset (x : PtpExchange) (now : Int) : Int :=
  let sent := x.sent + x.syncCorr + (if x.twoStep then x.followCorr else 0)
  let heard := now - x.syncAge
  let asked := now - x.reqAge
  let path : Int :=
    if x.peer then ((now - x.respAge - asked) - ((x.respSent : Int) - x.reqHeard) - x.respCorr) / 2
    else ((heard - sent) + (x.reqHeard - x.respCorr - asked)) / 2
  sent + path - heard

/-- What a frame on the time port brings: an Announce with its UTC offset; the last message of an exchange; a PTP message of another
kind; or a frame that is not PTP (R292). -/
inductive PtpBody where
  | announce (master : PtpMaster) (utc : Option (BitVec 16))
  | exchange (x : PtpExchange)
  | unsupported
  | notPtp
deriving DecidableEq, Repr

/-- A frame that arrives at the time port (R292). -/
structure PtpMsg where
  tenGig : Bool
  transport : PtpTransport
  multicast : Bool
  domain : BitVec 8
  body : PtpBody
deriving DecidableEq, Repr

/-- What a message of a link says (R242). The manual gives the fragments that carry a message, and no code for its
meaning. -/
inductive LinkMsg where
  /-- A command for another module, with its input stream (R443), from slot `slot` of module `origin`; `conf` marks the share
  of a configuration command. -/
  | command (origin slot code : Nat) (conf : Bool) (args input : List Byte)
  /-- The end of such a command, with its output stream. -/
  | reply (slot origin status : Nat) (payload output : List Byte)
  | dispatchRecord (w addr : Nat) (bytes : List Byte)
  | segmentEnd (origin : Nat)
  | snapPoint (slot id frame : Nat)
  | snapDrained (slot origin : Nat) (late : Bool)
  | snapComplete (slot : Nat) (failed : Bool)
  | logNotice (origin : Nat) (pending : Bool)
  /-- A member asks its head for a halt at frame end (R269). -/
  | haltRequest (origin : Nat)
  /-- Discovery: what a port of a module has reported, with its partner and the partner's port (R230, R442). -/
  | topo (device port : Nat) (partner : Option Nat) (far : Nat) (active training : Bool)
  /-- What RUN_CTRL does not carry of a start: steps, first grid point and period (R143, R311). -/
  | runParams (steps first period : Nat)
  /-- CONFIG_FORM reaches a member: its head with the number of the command there, the head's configuration clock count with
  the tree distance between them, its tree ports, the port of its uplink, its ports with crossings, the links between it and
  the head, and the head's level, level request and throttle (R32, R33, R148, R238, R255). -/
  | join (head slot count distance : Nat) (tree : List Nat) (uplink : Nat) (cross : List Nat) (above : List (Nat × Nat))
      (level request : Nat) (throttled : Bool)
  /-- CONFIG_FORM has found the margin of a port of this module too small (R112). -/
  | mismatch (port : Nat)
  /-- A member's host worker w has advanced COMP_TAIL: the head reads the record at that address (R324, R327). -/
  | recordRequest (origin w addr : Nat)
  /-- The completion record that the head has read for a member (R327). -/
  | completionRecord (w : Nat) (bytes : List Byte)
  /-- A member that woke alone wakes the head, and the head its members (R389). -/
  | wake
deriving DecidableEq, Repr

/-- A completion record that the module has read: its 64 bytes, and the member whose ring they come from (R324, R327). -/
structure RingRecord where
  bytes : List Byte
  origin : Option Nat
deriving DecidableEq, Repr

/-- What the module receives for a read of host memory (R441). -/
inductive HostRead where
  | data (bytes : List Byte)
  /-- An Unsupported Request or Completer Abort completion. -/
  | aborted
  /-- No completion within 50 ms. -/
  | late
  /-- Poisoned data, or a failed ECRC. -/
  | poisoned
deriving DecidableEq, Repr

/-- What host memory gives a command that has descriptors: the descriptor list and the input stream (R440). -/
structure HostIo where
  list : HostRead
  input : HostRead
deriving DecidableEq, Repr

/-- A crossing of a configuration, by its receiving port (R110 to R112): L_X as the images of the receiving and of the
transmitting module state it, and the measured latency. -/
structure CrossFacts where
  device : Nat
  port : Nat
  lx : Nat
  sent : Nat
  measured : Nat
deriving DecidableEq, Repr

/-- What a module that CONFIG_FORM names reports to the head (Table 18.5). -/
structure MemberFacts where
  device : Nat
  /-- It belongs to another configuration. -/
  foreign : Bool
  hasImage : Bool
  busy : Bool
  schedLen : Nat
  vecSource : Bool
  horizon : Nat
deriving DecidableEq, Repr

/-- What the modules report to CONFIG_FORM once every named module is reachable: the reports, a device index that occurs
twice, the crossings that members receive, and L_X as the images of the partners of the head's own ports state it (by
port). -/
structure FormFacts where
  members : List MemberFacts
  twice : Option Nat
  crossings : List CrossFacts
  partnerLx : List (Nat × Nat)
deriving DecidableEq, Repr

/-- A register named by its address in the internal map (R472), or by its offset in BAR0 (R433). -/
inductive RegLoc where
  | internal (addr : Nat)
  | bar0 (off : Nat)
deriving DecidableEq, Repr

/-- Where a command comes from: a mailbox slot of this module, or a link, with the module that sent it and its slot there
(R442, R443). -/
inductive CmdSrc where
  | slot (s : Nat)
  | link (origin s : Nat)
deriving DecidableEq, Repr

/-- A ridge access that times out (R23): a BAR2 access, a memory command or a register command after a number of words, or the
far-memory access of a call that the MP serves, after a number of words. -/
inductive RidgeAccess where
  | bar2Read (off len : Nat)
  | bar2Write (off : Nat) (bytes : List (Option Byte))
  | memory (src : CmdSrc) (io : HostIo) (words : Nat)
  | register (src : CmdSrc) (io : HostIo) (words : Nat)
  | call (slot words : Nat)
deriving DecidableEq, Repr

/-- Number that names a waiting command of this module in messages to its members. -/
def CmdSrc.tag : CmdSrc → Nat
  | .slot s => s
  | .link o s => 64 + 8 * o + s

/-- What fails in a wake: the units that needed their one retry, and the unit that failed again (R405, R406). Numbers are
FAIL_REASON codes. -/
structure WakeFaults where
  retried : List Nat
  failed : Option Nat
deriving DecidableEq, Repr

/-- A wake source that arrives during an entry: the step at whose end the entry stops, the source of Table 15.8 with the port of a
lane wake, and what fails in the wake that follows (R396). -/
structure EntryCut where
  step : Nat
  src : Nat
  port : Nat
  faults : WakeFaults
deriving DecidableEq, Repr

end Sys2Proof
end

