-- ==== Sys2Proof/Syntax.lean ====
section
/-!
DEFINITION. The commands of the module: one constructor for each row of the opcode table, with its operands.
-/

namespace Sys2Proof

/-- The commands. An event, a write of a register, an Ovset command from a mailbox slot or a link, or an operation of the
array. The operands that the world outside brings are described in `Sys2Proof.Syntax.Operands`. -/
inductive Instr where
  /-- POWER_ON (R451). -/
  | powerOn (straps : BitVec 6) (intact : BitVec 2)
  /-- INPUT_UNDERVOLTAGE (R488). -/
  | inputUndervoltage
  /-- INPUT_OVERVOLTAGE (R488). -/
  | inputOvervoltage
  /-- BROWN_OUT (R21). -/
  | brownOut
  /-- PERST_ASSERT (R428). -/
  | perstAssert
  /-- PERST_RELEASE (R431). -/
  | perstRelease
  /-- HOT_RESET (R429). -/
  | hotReset
  /-- BUS_MASTER_ENABLE (R429). -/
  | busMasterEnable
  /-- DESC_BME_TIMEOUT (R429). -/
  | descBmeTimeout (slot : Nat)
  /-- CONFIG_REQUEST (R431). -/
  | configRequest (off : Nat) (wr : Option Word32)
  /-- FIRMWARE_READY (R431). -/
  | firmwareReady (bootMs tapFs : BitVec 16)
  /-- THERMAL_SHUTDOWN (R500). -/
  | thermalShutdown
  /-- JUNCTION_HOT (R152). -/
  | junctionHot
  /-- THROTTLE_RECOVER (R152). -/
  | throttleRecover
  /-- SLOT_WRITE (R437). -/
  | slotWrite (slot off : Nat) (bytes : List (Option Byte))
  /-- MBX_RING (R437). -/
  | mbxRing (slot : Nat)
  /-- MBX_TAKE (R438). -/
  | mbxTake (io : HostIo)
  /-- HELD_FORWARD (R443). -/
  | heldForward (slot : Nat) (io : HostIo)
  /-- HELD_COMMAND_TIMEOUT (R443). -/
  | heldCommandTimeout (slot : Nat)
  /-- DISCOVERY_SETTLED (R442). -/
  | discoverySettled
  /-- IDENTIFY (R455). -/
  | identify (src : CmdSrc) (io : HostIo)
  /-- STATUS (R455). -/
  | status (src : CmdSrc) (io : HostIo)
  /-- PORT_STATUS (R455). -/
  | portStatus (src : CmdSrc) (io : HostIo)
  /-- IMAGE_BEGIN (R264). -/
  | imageBegin (src : CmdSrc) (io : HostIo)
  /-- IMAGE_BLOCK (R266). -/
  | imageBlock (src : CmdSrc) (io : HostIo)
  /-- IMAGE_COMMIT (R268). -/
  | imageCommit (src : CmdSrc) (io : HostIo)
  /-- IMAGE_STATUS (R286). -/
  | imageStatus (src : CmdSrc) (io : HostIo)
  /-- LOAD_TIMEOUT (R267). -/
  | loadTimeout
  /-- IMAGE_APPLY (R270). -/
  | imageApply
  /-- BAY_ISOLATION (R276). -/
  | bayIsolation
  /-- BAY_WRITE_DONE (R276). -/
  | bayWriteDone
  /-- BAY_INIT_START (R276). -/
  | bayInitStart
  /-- BAY_INIT_DONE (R276). -/
  | bayInitDone
  /-- BAY_ACTIVATION (R276). -/
  | bayActivation
  /-- CONFIG_FORM (R459). -/
  | configForm (src : CmdSrc) (io : HostIo) (f : FormFacts)
  /-- CONFIG_LEAVE (R32). -/
  | configLeave (src : CmdSrc) (io : HostIo)
  /-- RUN_START (R460). -/
  | runStart (src : CmdSrc) (io : HostIo)
  /-- RUN_HALT (R461). -/
  | runHalt (src : CmdSrc) (io : HostIo)
  /-- BAR2_MAP (R444). -/
  | bar2Map (src : CmdSrc) (io : HostIo)
  /-- MEM_READ (R462). -/
  | memRead (src : CmdSrc) (io : HostIo)
  /-- MEM_WRITE (R462). -/
  | memWrite (src : CmdSrc) (io : HostIo)
  /-- POOL_ALLOC (R463). -/
  | poolAlloc (src : CmdSrc) (io : HostIo)
  /-- POOL_FREE (R463). -/
  | poolFree (src : CmdSrc) (io : HostIo)
  /-- SNAP_TAKE (R376). -/
  | snapTake (src : CmdSrc) (io : HostIo)
  /-- SNAP_RESTORE (R383). -/
  | snapRestore (src : CmdSrc) (io : HostIo)
  /-- READBACK (R464). -/
  | readback (src : CmdSrc) (io : HostIo)
  /-- LINK_RETRAIN (R465). -/
  | linkRetrain (src : CmdSrc) (io : HostIo)
  /-- LINK_ENABLE (R465). -/
  | linkEnable (src : CmdSrc) (io : HostIo)
  /-- TIME_STATUS (R313). -/
  | timeStatus (src : CmdSrc) (io : HostIo)
  /-- TIME_PHASE (R295). -/
  | timePhase (src : CmdSrc) (io : HostIo)
  /-- TIME_SET (R300). -/
  | timeSet (src : CmdSrc) (io : HostIo)
  /-- CALL_CANCEL (R333). -/
  | callCancel (src : CmdSrc) (io : HostIo)
  /-- CALL_STATUS (R336). -/
  | callStatus (src : CmdSrc) (io : HostIo)
  /-- ACQ_ARM (R466). -/
  | acqArm (src : CmdSrc) (io : HostIo)
  /-- ACQ_STOP (R466). -/
  | acqStop (src : CmdSrc) (io : HostIo)
  /-- ACQ_STATUS (R358). -/
  | acqStatus (src : CmdSrc) (io : HostIo)
  /-- POWER_STATE (R467). -/
  | powerState (src : CmdSrc) (io : HostIo)
  /-- LEVEL_REQ (R468). -/
  | levelReq (src : CmdSrc) (io : HostIo)
  /-- PAD_RELEASE (R398). -/
  | padRelease (src : CmdSrc) (io : HostIo)
  /-- EVENT_READ (R412). -/
  | eventRead (src : CmdSrc) (io : HostIo)
  /-- EVENT_CLEAR (R7). -/
  | eventClear (src : CmdSrc) (io : HostIo)
  /-- LOG_READ (R418). -/
  | logRead (src : CmdSrc) (io : HostIo)
  /-- LOG_ACK (R419). -/
  | logAck (src : CmdSrc) (io : HostIo)
  /-- FW_BLOCK (R477). -/
  | fwBlock (src : CmdSrc) (io : HostIo)
  /-- FW_VERIFY (R478). -/
  | fwVerify (src : CmdSrc) (io : HostIo)
  /-- FW_ACTIVATE (R479). -/
  | fwActivate (src : CmdSrc) (io : HostIo)
  /-- FW_STATUS (R487). -/
  | fwStatus (src : CmdSrc) (io : HostIo)
  /-- ACCESS_CHALLENGE (R485). -/
  | accessChallenge (src : CmdSrc) (io : HostIo)
  /-- ACCESS_RESPONSE (R484). -/
  | accessResponse (src : CmdSrc) (io : HostIo)
  /-- ACCESS_CLOSE (R486). -/
  | accessClose (src : CmdSrc) (io : HostIo)
  /-- REG_READ (R470). -/
  | regRead (src : CmdSrc) (io : HostIo)
  /-- REG_WRITE (R471). -/
  | regWrite (src : CmdSrc) (io : HostIo)
  /-- NONCE_EXPIRY (R485). -/
  | nonceExpiry
  /-- LOCKOUT_END (R485). -/
  | lockoutEnd
  /-- SESSION_EXPIRY (R486). -/
  | sessionExpiry
  /-- FW_SWITCH (R481). -/
  | fwSwitch
  /-- FW_NEW_READY (R481). -/
  | fwNewReady (ok : Bool)
  /-- REGISTER_WRITE (R6). -/
  | registerWrite (loc : RegLoc) (v : Word32)
  /-- CLK_SRC_WRITE (R19). -/
  | clkSrcWrite (v : Word32)
  /-- BANK_OWNER_WRITE (R172). -/
  | bankOwnerWrite (d j : Nat) (v : Word32)
  /-- SCR_OWNER_WRITE (R447). -/
  | scrOwnerWrite (k : Nat) (v : Word32)
  /-- OWNER_HANDOVER (R172). -/
  | ownerHandover (ref : Nat)
  /-- TRUSSCFG_CLEAR_COUNTS (R68). -/
  | trusscfgClearCounts (d : Nat) (v : Word32)
  /-- BANK_CLEAR_COUNTS (R175). -/
  | bankClearCounts (d : Nat) (v : Word32)
  /-- FAR_CLEAR_COUNTS (R194). -/
  | farClearCounts (d : Nat) (v : Word32)
  /-- SCRUB_CLEAR_COUNTS (R288). -/
  | scrubClearCounts (d : Nat) (v : Word32)
  /-- CALLS_CLEAR_COUNTS (R336). -/
  | callsClearCounts (v : Word32)
  /-- PROBE_CLEAR_COUNTS (R358). -/
  | probeClearCounts (v : Word32)
  /-- TRACE_CLEAR_COUNTS (R370). -/
  | traceClearCounts (v : Word32)
  /-- TIME_CLEAR_COUNTS (R313). -/
  | timeClearCounts (v : Word32)
  /-- PORT_RETRAIN (R223). -/
  | portRetrain (p : Nat) (v : Word32)
  /-- PORT_ENABLE_WRITE (R217). -/
  | portEnableWrite (p : Nat) (v : Word32)
  /-- SLEEP_CTRL_WRITE (R252). -/
  | sleepCtrlWrite (p : Nat) (v : Word32)
  /-- TRACE_EN_WRITE (R371). -/
  | traceEnWrite (v : Word32)
  /-- TRACE_SINK_CFG_WRITE (R371). -/
  | traceSinkCfgWrite (o : Nat) (v : Word32)
  /-- SYNC_REQ (R363). -/
  | syncReq (v : Word32)
  /-- ACQ_CTRL_STOP (R355). -/
  | acqCtrlStop (v : Word32)
  /-- TE_REARM (R305). -/
  | teRearm (k o : Nat) (v : Word32)
  /-- CAPTURE_FLUSH (R313). -/
  | captureFlush (k : Nat) (v : Word32)
  /-- CAPTURE_RECORD_READ (R310). -/
  | captureRecordRead (k : Nat)
  /-- CANCEL_WRITE (R333). -/
  | cancelWrite (v : Word32)
  /-- DISP_HEAD_WRITE (R326). -/
  | dispHeadWrite (w : Nat) (v : Word32)
  /-- COMP_TAIL_WRITE (R326). -/
  | compTailWrite (w : Nat) (v : Word32)
  /-- LOG_VALID_WRITE (R419). -/
  | logValidWrite (k : Nat) (v : Word32)
  /-- POISON_STAT_WRITE (R425). -/
  | poisonStatWrite (v : Word32)
  /-- ACCESS_KEY_WRITE (R487). -/
  | accessKeyWrite (k : Nat) (v : Word32)
  /-- VSEL_WRITE (R494). -/
  | vselWrite (b : Nat) (v : Word32)
  /-- VCCO_READY (R494). -/
  | vccoReady (b : Nat)
  /-- BAR2_READ (R445). -/
  | bar2Read (off len : Nat)
  /-- BAR2_WRITE (R446). -/
  | bar2Write (off : Nat) (bytes : List (Option Byte))
  /-- RIDGE_TIMEOUT (R23). -/
  | ridgeTimeout (acc : RidgeAccess)
  /-- SCRATCH_TEST_SLICE (R448). -/
  | scratchTestSlice (k : Nat) (ok : Bool)
  /-- MP_LOCKSTEP_MISMATCH (R415). -/
  | mpLockstepMismatch (attributed : Bool)
  /-- FRAME_TICK (R28). -/
  | frameTick
  /-- CALL_RELEASE (R318). -/
  | callRelease
  /-- EVAL (R74). -/
  | eval (d t i : Nat)
  /-- LOFT (R75). -/
  | loft (d t i : Nat)
  /-- PORT (R76). -/
  | port (d t i : Nat)
  /-- NOP (R78). -/
  | nop (d t i : Nat)
  /-- KEEP (R79). -/
  | keep (d t i : Nat)
  /-- MARK (R80). -/
  | mark (d t i : Nat)
  /-- LOFT_READ (R83). -/
  | loftRead (d t : Nat)
  /-- LOFT_READ_DELIVER (R60). -/
  | loftReadDeliver (d t : Nat)
  /-- LOFT_WRITE (R83). -/
  | loftWrite (d t : Nat)
  /-- LOFT_RMW_COMMIT (R63). -/
  | loftRmwCommit (d t : Nat)
  /-- LOFT_WRITEBACK (R66). -/
  | loftWriteback (d t : Nat)
  /-- FMQ_PUSH (R178). -/
  | fmqPush (d q : Nat)
  /-- FMQ_PULL (R184). -/
  | fmqPull (d q : Nat)
  /-- FMQ_WAIT_PULL (R185). -/
  | fmqWaitPull (d q : Nat)
  /-- IO_OUT (R87). -/
  | ioOut (d n : Nat)
  /-- IO_IN (R85). -/
  | ioIn (d n : Nat)
  /-- IO_PATH_DELIVER (R16). -/
  | ioPathDeliver (samples : List (Nat × Word32))
  /-- CALL_ARG (R86). -/
  | callArg (d n : Nat)
  /-- CALL_PULL (R331). -/
  | callPull (d n : Nat)
  /-- CALL_WAIT_PULL (R331). -/
  | callWaitPull (d n : Nat)
  /-- PROBE_WORD (R337). -/
  | probeWord (d n : Nat)
  /-- BANK_READ (R163). -/
  | bankRead (d j : Nat)
  /-- BANK_READ_DELIVER (R163). -/
  | bankReadDeliver (d j : Nat)
  /-- BANK_WRITE (R162). -/
  | bankWrite (d j : Nat)
  /-- BANK_MASKED_WRITE (R164). -/
  | bankMaskedWrite (d j : Nat)
  /-- BANK_MASKED_COMMIT (R164). -/
  | bankMaskedCommit (d j : Nat)
  /-- BANK_WRITEBACK (R168). -/
  | bankWriteback (d j : Nat)
  /-- FABRIC_DELIVERY (R96). -/
  | fabricDelivery (p : FabricPath)
  /-- DEV_CAPTURE (R125). -/
  | devCapture
  /-- WAIT_TEST (R130). -/
  | waitTest (d : Nat)
  /-- STALL_RELEASE (R131). -/
  | stallRelease
  /-- WAIT_LIMIT_REACHED (R134). -/
  | waitLimitReached
  /-- DROOP_DETECT (R140). -/
  | droopDetect (d0 d1 : Bool)
  /-- FRAME_GO (R137). -/
  | frameGo (origin arg : Nat)
  /-- STALL_REQ (R131). -/
  | stallReq (origin arg : Nat)
  /-- RELEASE (R131). -/
  | release (origin arg : Nat)
  /-- STRETCH (R140). -/
  | stretch (origin arg : Nat)
  /-- HALT_NOW (R209). -/
  | haltNow (origin arg : Nat)
  /-- HALT_AT_END (R240). -/
  | haltAtEnd (origin arg : Nat)
  /-- XTRIG (R346). -/
  | xtrig (origin arg : Nat)
  /-- THROTTLE (R152). -/
  | throttle (origin arg : Nat)
  /-- RUN_CTRL (R237). -/
  | runCtrl (origin arg : Nat)
  /-- LEVEL_LOCKED (R149). -/
  | levelLocked (gapUs : Nat)
  /-- LEVEL_LOCK_TIMEOUT (R151). -/
  | levelLockTimeout
  /-- LEVEL_RETURN_LOCKED (R151). -/
  | levelReturnLocked (ok : Bool)
  /-- FMQ_REQ_READ (R180). -/
  | fmqReqRead (Q : Nat)
  /-- FMQ_REQ_WRITE (R180). -/
  | fmqReqWrite (Q : Nat)
  /-- FMQ_REQ_MASKED_WRITE (R193). -/
  | fmqReqMaskedWrite (Q : Nat)
  /-- FMQ_RESPONSE_COMPLETE (R181). -/
  | fmqResponseComplete (Q : Nat)
  /-- FAR_WRITEBACK (R193). -/
  | farWriteback (d a : Nat)
  /-- REFRESH (R188): controller c serves pseudo-channel c / 2 of die c mod 2. -/
  | refresh (c : Nat)
  /-- FORCED_REFRESH (R188). -/
  | forcedRefresh (c : Nat) (pairs : List Nat)
  /-- SCRUB_SLOT (R281). -/
  | scrubSlot (d : Nat)
  /-- CALL_RAISE (R316). -/
  | callRaise
  /-- CALL_DISPATCH (R322). -/
  | callDispatch (w : Nat)
  /-- COMPLETION_RECORD (R324). -/
  | completionRecord (w : Nat) (rec : RingRecord)
  /-- CALL_DELIVER (R330). -/
  | callDeliver (slot : Nat)
  /-- ECHO (R328). -/
  | echo (slot : Nat)
  /-- FAR_READ (R328). -/
  | farRead (slot : Nat)
  /-- FAR_WRITE (R328). -/
  | farWrite (slot : Nat)
  /-- TIME_READ (R328). -/
  | timeRead (slot : Nat)
  /-- WORD_SAMPLE (R340). -/
  | wordSample (k : Nat) (v : BitVec 16)
  /-- TRIGGER_EVAL (R347). -/
  | triggerEval
  /-- TRIGGER_TIMER_EXPIRY (R347). -/
  | triggerTimerExpiry (k : Nat)
  /-- ACQ_SEGMENT_ARM (R356). -/
  | acqSegmentArm
  /-- ACQ_WRITE (R343). -/
  | acqWrite
  /-- SEGMENT_END (R353). -/
  | segmentEnd
  /-- AUTO_TRIGGER (R357). -/
  | autoTrigger
  /-- TRACE_PACKET (R367). -/
  | tracePacket
  /-- TRACE_SINK_WRITE (R366). -/
  | traceSinkWrite
  /-- SNAP_DRAIN_DONE (R380). -/
  | snapDrainDone
  /-- PORT_START (R218). -/
  | portStart (p : Nat)
  /-- SIGNAL_DETECT_RISE (R217). -/
  | signalDetectRise (p : Nat) (lanes : BitVec 19)
  /-- SIGNAL_DETECT_FALL (R219). -/
  | signalDetectFall (p : Nat) (lanes : BitVec 19)
  /-- COEFF_BLOCK (R224): the sync header and the scrambled payload of the block on lane l. -/
  | coeffBlock (p l : Nat) (head : BitVec 2) (word : Word64) (accept : Bool) (req : BitVec 7)
  /-- TRAIN_TIMEOUT (R220). -/
  | trainTimeout (p : Nat)
  /-- ALIGN_TIMEOUT (R217). -/
  | alignTimeout (p : Nat)
  /-- CALIBRATE_TIMEOUT (R217). -/
  | calibrateTimeout (p : Nat)
  /-- RETRY_WAIT_END (R217). -/
  | retryWaitEnd (p : Nat)
  /-- LINK_ID (R230). -/
  | linkId (p : Nat) (blks : List (BitVec 66))
  /-- MARKER (R250): the sync headers and the scrambled payloads of its blocks, and the part of the present course clock that
  has passed when it arrives, in thirds of 2^-16 ns. -/
  | marker (p : Nat) (heads : List (BitVec 2)) (words : List Word64) (part : Nat)
  /-- MARKER_DUE (R229), with the part of the present course clock that has passed. -/
  | markerDue (p part : Nat)
  /-- MARKER_TIMEOUT (R254). -/
  | markerTimeout (p : Nat)
  /-- DATA_BLOCK_SET (R233). -/
  | dataBlockSet (p : Nat) (blks : List (BitVec 66))
  /-- SLOT_GROUP_DELIVER (R235). -/
  | slotGroupDeliver (p : Nat)
  /-- CAPTURE (R241). -/
  | capture (p : Nat) (blks : List (BitVec 66))
  /-- MSG (R242). -/
  | msg (p : Nat) (blks : List (BitVec 66)) (meaning : LinkMsg)
  /-- ACK (R242). -/
  | ack (p : Nat) (blks : List (BitVec 66))
  /-- MSG_RESEND (R242). -/
  | msgResend (p : Nat) (lost : Option (Nat × Nat))
  /-- SPARE_REQ (R247). -/
  | spareReq (p : Nat) (blks : List (BitVec 66))
  /-- SPARE_COMPARE_PASS (R247). -/
  | spareComparePass (p : Nat)
  /-- SPARE_DONE (R247). -/
  | spareDone (p : Nat) (blks : List (BitVec 66))
  /-- SPARE_TIMEOUT (R249). -/
  | spareTimeout (p : Nat)
  /-- LANE_QUIET (R252). -/
  | laneQuiet (p : Nat) (blks : List (BitVec 66))
  /-- LANE_WAKE (R253). -/
  | laneWake (p lanes : Nat)
  /-- PTP_MESSAGE (R296). -/
  | ptpMessage (m : PtpMsg)
  /-- PPS_EDGE (R300). -/
  | ppsEdge (sub : Nat)
  /-- PPS_TIMEOUT (R300). -/
  | ppsTimeout
  /-- ANNOUNCE_TIMEOUT (R294). -/
  | announceTimeout (d : Nat)
  /-- PRIMARY_RETURN (R297). -/
  | primaryReturn
  /-- PHASE_NORMAL (R295). -/
  | phaseNormal
  /-- REF10M_LOSS (R290). -/
  | ref10mLoss
  /-- REF10M_RETURN (R290). -/
  | ref10mReturn
  /-- PPS_OUT (R301). -/
  | ppsOut
  /-- TIME_EVENT_FIRE (R306). -/
  | timeEventFire (k : Nat)
  /-- CAPTURE_EDGE (R309). -/
  | captureEdge (k : Nat) (falling : Bool) (sub : Nat)
  /-- IDLE_TIMER (R390). -/
  | idleTimer
  /-- DOZE_TIMER (R390). -/
  | dozeTimer
  /-- SLEEP_TIMER (R390). -/
  | sleepTimer
  /-- ENTER_IDLE (R393). -/
  | enterIdle
  /-- ENTER_DOZE (R394). -/
  | enterDoze (cut : Option EntryCut)
  /-- ENTER_SLEEP (R395). -/
  | enterSleep (cut : Option EntryCut)
  /-- PCIE_WAKE (R401). -/
  | pcieWake
  /-- WAKE_PIN (R401). -/
  | wakePin
  /-- WAKE_ALARM (R308). -/
  | wakeAlarm
  /-- WAKE_FROM_SLEEP (R403). -/
  | wakeFromSleep (f : WakeFaults)
  /-- WAKE_FROM_DOZE (R403). -/
  | wakeFromDoze (f : WakeFaults)
  /-- EVENT_RAISE (R418). -/
  | eventRaise
  /-- FRAME_GO_SEND (R137). -/
  | frameGoSend
  /-- BLOCK_SET_SEND (R243), with the part of the present course clock that has passed. -/
  | blockSetSend (p part : Nat)
  /-- HOST_READ_TIMEOUT (R441). -/
  | hostReadTimeout (slot : Nat)
  /-- WORD_CHANNEL_FRAME_LOCK (R498). -/
  | wordChannelFrameLock (k : Nat)
  /-- WORD_CHANNEL_LOCK_LOSS (R498). -/
  | wordChannelLockLoss (k : Nat)
  /-- THERMAL_RESTART (R500). -/
  | thermalRestart
  /-- UART_RECOVERY_IMAGE (R483). -/
  | uartRecoveryImage (bytes : List Byte)
deriving DecidableEq, Repr

end Sys2Proof
end

