-- ==== Sys2Proof/Config.lean ====
section
/-!
DEFINITION. What an implementation fixes and the manual does not state, and the free values of the model. Every
constant here is opaque: no proof can see a value of it, so a claim about it holds whatever the value is.
Each is named in a row of the assumption log.
-/

namespace Sys2Proof.Config

/-- A fresh value for the n-th use of something the manual leaves open (log entry 3). -/
opaque freeValue : Nat → Word64

/-- A fresh 256-bit nonce (R485, log entry 3). -/
opaque freshNonce : Nat → BitVec 256

/-- SHA-256 of a byte list (R475), a function named but not defined by the manual (log entry 4). -/
opaque sha256 : List Byte → BitVec 256

/-- HMAC-SHA-256 under a 256-bit key (R484), named but not defined by the manual (log entry 4). -/
opaque hmacSha256 : BitVec 256 → List Byte → BitVec 256

/-- ECDSA P-256 verification of a signature over a digest with vendor key number k (R475, R484, log entry 4). -/
opaque ecdsaVerify : Nat → BitVec 256 → BitVec 512 → Bool

/-- How many refreshes the HBM3E standard lets a controller pull in ahead of schedule (R188, log entry 5). -/
opaque refreshPullIn : Nat

/-- How many refreshes the HBM3E standard lets a controller postpone (R188, log entry 5). -/
opaque refreshPostpone : Nat

/-- How many records more than one may wait at the acquisition writer before it has fallen behind (R343, log entry 50). -/
opaque writerRoom : Nat

/-- The pseudo-channel of die d that serves a far-memory word address (R187, R188, log entry 5). -/
opaque pseudoChannel : Nat → Nat → Nat

/-- Phase of the user I/O bit-time boundaries in network time, in thirds of 2^-16 ns (chapter 20, Pin timing: the
pin clock has no fixed phase relation to the course clock; log entry 6). -/
opaque bitPhase : Nat

/-- A message of a link in bytes: R242 gives the fragments that carry them, and no code for what they say (log entry 35). -/
opaque msgBytes : LinkMsg → List Byte

end Sys2Proof.Config
end

