-- ==== Sys2Proof/Machine/Codes.lean ====
section
/-!
DEFINITION. The error codes of the module: the row SEC-DED code (R49, R50), the row CRC-16 (R51), the DEC code of
design memory (R156, R157) and the stored forms built from them. The codes of images and links are in
Machine/LinkCodes.lean.
-/

namespace Sys2Proof.Machine

/-! ## The extended Hamming code of course rows and bundle entries -/

/-- Whether a Hamming position holds a check bit: the powers of two (R49). -/
def isPow2 (p : Nat) : Bool := (List.range 8).any fun i => p == 2 ^ i

/-- The Hamming positions of the data bits, from data bit 0 upward (R49). -/
def hamPositions (k r : Nat) : List Nat :=
  ((List.range (k + r + 1)).filter fun p => p != 0 && !isPow2 p).take k

/-- Check bit j for j below r: the XOR of the data bits whose position has bit j set (R49). -/
def hamCheck {k : Nat} (r : Nat) (data : BitVec k) (j : Nat) : Bool :=
  (hamPositions k r).zipIdx.foldl (fun acc pi => acc ^^ (pi.1.testBit j && bit data pi.2)) false

/-- XOR of all the bits of a vector. -/
def parity {w : Nat} (v : BitVec w) : Bool := (List.range w).foldl (fun acc i => acc ^^ bit v i) false

/-- The check field of a word of the SEC-DED code: r Hamming bits and the overall parity bit r (R49). -/
def secdedCheck {k : Nat} (r : Nat) (data : BitVec k) : BitVec (r + 1) :=
  let low : BitVec (r + 1) := ofBits (r + 1) fun j => decide (j < r) && hamCheck r data j
  setBit low r (parity data ^^ parity low)

/-- What the decoder of R50 finds. -/
inductive Found where
  | clean | corrected | bad
deriving DecidableEq, Repr

/-- The decoder of R50. `chk` holds check bits 0 to r. The data is meaningful unless the finding is `bad`. -/
def secdedDecode {k : Nat} (r : Nat) (data : BitVec k) (chk : BitVec (r + 1)) : BitVec k × Found :=
  let syn := (List.range r).foldl (fun acc j => acc + (if hamCheck r data j ^^ bit chk j then 2 ^ j else 0)) 0
  let wrong := parity data ^^ parity chk
  if syn = 0 then (data, if wrong then .corrected else .clean)
  else if !wrong then (data, .bad)
  else if syn > k + r then (data, .bad)
  else match (hamPositions k r).idxOf? syn with
    | some i => (setBit data i (!bit data i), .corrected)
    | none => (data, .corrected)

/-! ## The DEC code of design memory -/

/-- One step of the encoder of R156. -/
def decStep (chk : BitVec 14) (b : Bool) : BitVec 14 :=
  let fb := b ^^ bit chk 13
  let s := chk <<< (1 : Nat)
  if fb then s ^^^ 0x0377#14 else s

/-- Check bits of 64 data bits (R156): the data bits are taken from bit 63 down to bit 0. -/
def decCheck (data : Word64) : BitVec 14 :=
  (List.range 64).foldl (fun chk i => decStep chk (bit data (63 - i))) 0

/-- The stored word of 64 data bits (R155). -/
def decEncode (data : Word64) : Word78 := decCheck data ++ data

/-- Data bits of a stored word (R155). -/
def decData (w : Word78) : Word64 := w.extractLsb' 0 64

/-- Powers of α, a root of x^7 + x^3 + 1 in GF(2^7) (R157). -/
def alphaPow : Nat → BitVec 7
  | 0 => 1
  | n + 1 =>
    let p := alphaPow n
    if bit p 6 then (p <<< (1 : Nat)) ^^^ 0b0001001#7 else p <<< (1 : Nat)

/-- The power of x at which bit i of a stored word stands: check bit j is the coefficient of x^j and data bit k of
x^(14+k) (R156), while the word is written with its data low (R155). -/
def decExp (i : Nat) : Nat := if i < 64 then 14 + i else i - 64

/-- The syndrome of a stored word at α^e (R157). -/
def decSyndrome (e : Nat) (w : Word78) : BitVec 7 :=
  (List.range 78).foldl (fun acc i => if bit w i then acc ^^^ alphaPow (e * decExp i % 127) else acc) 0

/-- The bit position, among 0 to 77, of the single error that the two syndromes locate. -/
def decSingle (s1 s3 : BitVec 7) : Option Nat :=
  (List.range 78).find? fun i => alphaPow (decExp i) = s1 && alphaPow (3 * decExp i % 127) = s3

/-- The two bit positions, among 0 to 77, of the double error that the two syndromes locate. -/
def decDouble (s1 s3 : BitVec 7) : Option (Nat × Nat) :=
  (List.range 78).findSome? fun i =>
    match decSingle (s1 ^^^ alphaPow (decExp i)) (s3 ^^^ alphaPow (3 * decExp i % 127)) with
    | some j => if j = i then none else some (i, j)
    | none => none

/-- The decoder of Table 6.1: the data, and what was found. An uncorrectable word gives 0. -/
def decDecode (w : Word78) : Word64 × Found :=
  let s1 := decSyndrome 1 w
  let s3 := decSyndrome 3 w
  if s1 = 0 ∧ s3 = 0 then (decData w, .clean)
  else match decSingle s1 s3 with
    | some i => (decData (setBit w i (!bit w i)), .corrected)
    | none => match decDouble s1 s3 with
      | some (i, j) =>
        let v := setBit w i (!bit w i)
        (decData (setBit v j (!bit v j)), .corrected)
      | none => (0, .bad)

/-! ## Course rows and bundle entries -/

/-- Stored instruction word i of a row: data and check bits (R48). -/
def rowWord (row : Row) (i : Nat) : Ins × BitVec 7 :=
  (row.extractLsb' (55 * i) 48, row.extractLsb' (55 * i + 48) 7)

/-- Stored control segment s of a row: data and check bits (R48). -/
def rowSeg (row : Row) (s : Nat) : Word64 × BitVec 8 :=
  (row.extractLsb' (3520 + 72 * s) 64, row.extractLsb' (3520 + 72 * s + 64) 8)

/-- Instruction word i as the execution path reads it (R50, R53). -/
def rowIns (row : Row) (i : Nat) : Ins × Found :=
  let w := rowWord row i
  secdedDecode 6 w.1 w.2

/-- Control segment s as the execution path reads it (R50, R53). -/
def rowSegD (row : Row) (s : Nat) : Word64 × Found :=
  let w := rowSeg row s
  secdedDecode 7 w.1 w.2

/-- The 576 control bits of a list of segments, segment 0 lowest (R48). -/
def ctlOfSegs (segs : List Word64) : Ctl :=
  BitVec.ofNat 576 (segs.foldr (fun s acc => s.toNat + 2 ^ 64 * acc) 0)

/-- The control word of a row after correction, and the lowest uncorrectable segment if there is one. -/
def rowCtl (row : Row) : Ctl × Option Nat :=
  let ds := (List.range 9).map (rowSegD row)
  (ctlOfSegs (ds.map (·.1)), (List.range 9).find? fun s => (rowSegD row s).2 = .bad)

/-- One bit of the row CRC (R51). -/
def crc16Step (crc : BitVec 16) (b : Bool) : BitVec 16 :=
  let fb := b ^^ bit crc 15
  let s := crc <<< (1 : Nat)
  if fb then s ^^^ 0x1021#16 else s

/-- CRC-16 of a bit list from a given start value (R51). -/
def crc16 (start : BitVec 16) (bs : List Bool) : BitVec 16 := bs.foldl crc16Step start

/-- The bits of a vector from bit 0 upward. -/
def bitsOf {w : Nat} (v : BitVec w) : List Bool := (List.range w).map (bit v)

/-- The row CRC over the data bits: instruction words 0 to 63, then control bits 0 to 575 (R51). -/
def rowCrc (ins : List Ins) (ctl : Ctl) : BitVec 16 :=
  crc16 0xFFFF#16 (ins.flatMap bitsOf ++ bitsOf ctl)

/-- The stored row of 64 instruction words and a control word: the module generates every check bit and the row CRC
(R48, R52). -/
def rowEncode (ins : List Ins) (ctl : Ctl) : Row :=
  let ws := (List.range 64).foldr (fun i acc =>
    let d := ins.getD i 0
    d.toNat + 2 ^ 48 * (secdedCheck 6 d).toNat + 2 ^ 55 * acc) 0
  let cs := (List.range 9).foldr (fun s acc =>
    let d : Word64 := ctl.extractLsb' (64 * s) 64
    d.toNat + 2 ^ 64 * (secdedCheck 7 d).toNat + 2 ^ 72 * acc) 0
  BitVec.ofNat 4184 (ws + 2 ^ 3520 * cs + 2 ^ 4168 * (rowCrc ins ctl).toNat)

/-- The NOP instruction word (R70). -/
def nopIns : Ins := 0xC00000000000#48

/-- The stored row whose 64 instructions are NOP and whose control word is zero, written out; `nopRow_encode`
proves that it is that row's encoding. -/
def nopRow : Row :=
  0x8b41000000000000000000000000000000000000000000000000000000000000000000000000000000000000000000000000000000000000000000000000000000000000000000000000000000000000000000078000000000000f0000000000001e0000000000003c00000000000078000000000000f0000000000001e0000000000003c00000000000078000000000000f0000000000001e0000000000003c00000000000078000000000000f0000000000001e0000000000003c00000000000078000000000000f0000000000001e0000000000003c00000000000078000000000000f0000000000001e0000000000003c00000000000078000000000000f0000000000001e0000000000003c00000000000078000000000000f0000000000001e0000000000003c00000000000078000000000000f0000000000001e0000000000003c00000000000078000000000000f0000000000001e0000000000003c00000000000078000000000000f0000000000001e0000000000003c00000000000078000000000000f0000000000001e0000000000003c00000000000078000000000000f0000000000001e0000000000003c00000000000078000000000000f0000000000001e0000000000003c00000000000078000000000000f0000000000001e0000000000003c00000000000078000000000000f0000000000001e0000000000003c00000000000#4184

/-- The stored bundle entry of a truth table (R42). -/
def bundleEncode (t : Word32) : Bundle := secdedCheck 6 t ++ t

/-- A bundle entry as stage 3 reads it (R42, R50). -/
def bundleDecode (b : Bundle) : Word32 × Found :=
  secdedDecode 6 (b.extractLsb' 0 32) (b.extractLsb' 32 7)

/-- The support mask of a truth table: bit k is 1 when some pair of indices that differ only in operand k gives
different outputs (R43). -/
def supportMask (t : Word32) : BitVec 5 :=
  ofBits 5 fun k => (List.range 32).any fun n => bit t n != bit t (n ^^^ 2 ^ k)

end Sys2Proof.Machine
end

