-- ==== Sys2Proof/Machine/Events.lean ====
section
/-!
DEFINITION. Event IDs (R410, R411), event kinds and reset escalation levels (R417).
-/

namespace Sys2Proof.Machine

/-- Event ID of position e of group g (R410). -/
def evId (g e : Nat) : Nat := g * 16 + e

/-! Module groups (Table 16.1). -/
def evFrameFault : Nat := evId 0 0
def evConfigBroken : Nat := evId 0 1
def evLatencyMismatch : Nat := evId 0 2
def evFrameStretch : Nat := evId 0 3
def evFrameOverrun : Nat := evId 0 4
def evTickMissed : Nat := evId 0 5
def evDevLate : Nat := evId 0 6
def evLevelChanged : Nat := evId 0 7
def evThermalThrottle : Nat := evId 0 8
def evDroopLag : Nat := evId 0 9
def evLogOverflow : Nat := evId 0 10
def evRefLost : Nat := evId 1 0
def evTimeJumpRefused : Nat := evId 1 1
def evTimeStepped : Nat := evId 1 2
def evTimeDomainSwitched : Nat := evId 1 3
def evTimeLocked : Nat := evId 1 4
def evTimeHoldover : Nat := evId 1 5
def evCallPortOff : Nat := evId 2 0
def evCallOverflow : Nat := evId 2 1
def evCallNoWorker : Nat := evId 2 2
def evCallStale : Nat := evId 2 3
def evCallEmptyPull : Nat := evId 2 4
def evCallRingFault : Nat := evId 2 5
def evProbeDrop : Nat := evId 3 0
def evProbeMatchOverflow : Nat := evId 3 1
def evTriggerDuringRearm : Nat := evId 3 2
def evAcqDone : Nat := evId 3 3
def evAcqAborted : Nat := evId 3 4
def evTraceDrop : Nat := evId 4 0
def evSnapDone : Nat := evId 4 1
def evSnapFailed : Nat := evId 4 2
def evSnapDamaged : Nat := evId 4 3
def evPowerQueuesDropped : Nat := evId 5 0
def evWakeRetry : Nat := evId 5 1
def evWakeDone : Nat := evId 5 2
def evBrownOutReset : Nat := evId 5 3
def evThermalReset : Nat := evId 5 4
def evSettingsDefaulted : Nat := evId 6 0
def evFwActivated : Nat := evId 6 1
def evFwVerifyFailed : Nat := evId 6 2
def evAccessOpened : Nat := evId 6 3
def evAccessFailed : Nat := evId 6 4
def evAccessLockout : Nat := evId 6 5
def evLockstepMismatch : Nat := evId 7 0
def evLockstepLost : Nat := evId 7 1
def evScratchTestFail : Nat := evId 7 2

/-! Die groups. -/
def evPlanFault (d : Nat) : Nat := evId (8 + 8 * d) 0
def evWaitStall (d : Nat) : Nat := evId (8 + 8 * d) 1
def evWaitTimeout (d : Nat) : Nat := evId (8 + 8 * d) 2
def evWaitUnguarded (d : Nat) : Nat := evId (8 + 8 * d) 3
def evDroopStretch (d : Nat) : Nat := evId (8 + 8 * d) 4
def evHazard (d : Nat) : Nat := evId (8 + 8 * d) 5
def evBundleUncorrectable (d : Nat) : Nat := evId (9 + 8 * d) 0
def evCourseUncorrectable (d : Nat) : Nat := evId (9 + 8 * d) 1
def evLoftCorrected (d : Nat) : Nat := evId (9 + 8 * d) 2
def evLoftUncorrectable (d : Nat) : Nat := evId (9 + 8 * d) 3
def evScrubCorrected (d : Nat) : Nat := evId (10 + 8 * d) 0
def evScrubUncorrectable (d : Nat) : Nat := evId (10 + 8 * d) 1
def evRowCrcFail (d : Nat) : Nat := evId (10 + 8 * d) 2
def evScrubMarkOverflow (d : Nat) : Nat := evId (10 + 8 * d) 3
def evBankCorrected (d : Nat) : Nat := evId (11 + 8 * d) 0
def evBankUncorrectable (d : Nat) : Nat := evId (11 + 8 * d) 1
def evBankNotOwned (d : Nat) : Nat := evId (11 + 8 * d) 2
def evBankFirstRead (d : Nat) : Nat := evId (11 + 8 * d) 3
def evFarCorrected (d : Nat) : Nat := evId (12 + 8 * d) 0
def evFarUncorrectable (d : Nat) : Nat := evId (12 + 8 * d) 1
def evFmqOverflow (d : Nat) : Nat := evId (12 + 8 * d) 2
def evFmqBadRequest (d : Nat) : Nat := evId (12 + 8 * d) 3
def evFmqRange (d : Nat) : Nat := evId (12 + 8 * d) 4
def evFmqEmptyPull (d : Nat) : Nat := evId (12 + 8 * d) 5
def evRefreshIntruded (d : Nat) : Nat := evId (12 + 8 * d) 6
def evFarFirstRead (d : Nat) : Nat := evId (12 + 8 * d) 7
def evBridgeParity (d : Nat) : Nat := evId (13 + 8 * d) 0

/-! Eave port groups. -/
def evLinkLost (p : Nat) : Nat := evId (24 + p) 0
def evLinkAbsent (p : Nat) : Nat := evId (24 + p) 1
def evLaneErased (p : Nat) : Nat := evId (24 + p) 2
def evLaneSpared (p : Nat) : Nat := evId (24 + p) 3
def evSpareFailed (p : Nat) : Nat := evId (24 + p) 4
def evEaveUncorrectable (p : Nat) : Nat := evId (24 + p) 5
def evSlotMissing (p : Nat) : Nat := evId (24 + p) 6
def evSymbolLost (p : Nat) : Nat := evId (24 + p) 7
def evLinkDrift (p : Nat) : Nat := evId (24 + p) 8
def evLinkMsgFailed (p : Nat) : Nat := evId (24 + p) 9
def evPortLatencyMismatch (p : Nat) : Nat := evId (24 + p) 10

/-- BAY_ACTIVATED of module bay b. -/
def evBayActivated (b : Nat) : Nat := evId (40 + b / 16) (b % 16)
/-- TIME_EVENT_LATE of generator k. -/
def evTimeEventLate (k : Nat) : Nat := evId (42 + k / 16) (k % 16)
/-- CAPTURE_OVERFLOW of capture unit k. -/
def evCaptureOverflow (k : Nat) : Nat := evId (44 + k / 16) (k % 16)

/-- How many events group g holds (Table 16.1); positions at or above it are reserved (R411). -/
def evCount (g : Nat) : Nat :=
  if g = 0 then 11 else if g = 1 then 6 else if g = 2 then 6 else if g = 3 then 5 else if g = 4 then 4
  else if g = 5 then 5 else if g = 6 then 6 else if g = 7 then 3
  else if g = 8 ∨ g = 16 then 6 else if g = 9 ∨ g = 17 then 4 else if g = 10 ∨ g = 18 then 4
  else if g = 11 ∨ g = 19 then 4 else if g = 12 ∨ g = 20 then 8 else if g = 13 ∨ g = 21 then 1
  else if 24 ≤ g ∧ g ≤ 35 then 11
  else if 40 ≤ g ∧ g ≤ 45 then 16 else 0

/-- Errors whose reset level is INTERRUPT (Table 16.4). -/
def errorsInterrupt : List Nat :=
  [evConfigBroken, evLatencyMismatch, evDroopLag, evCallPortOff, evCallOverflow, evLockstepLost] ++
  [0, 1].flatMap (fun d => [evPlanFault d, evWaitTimeout d, evWaitUnguarded d, evHazard d, evBundleUncorrectable d,
    evCourseUncorrectable d, evLoftUncorrectable d, evRowCrcFail d, evScrubMarkOverflow d, evBankUncorrectable d,
    evBankNotOwned d, evFarUncorrectable d, evFmqOverflow d, evFmqBadRequest d, evFmqRange d, evBridgeParity d]) ++
  (List.range 12).flatMap (fun p => [evLinkLost p, evSlotMissing p, evSymbolLost p, evPortLatencyMismatch p])

/-- Errors whose reset level is LOG (Table 16.4). -/
def errorsLog : List Nat :=
  [evFrameOverrun, evTickMissed, evDevLate, evRefLost, evTimeJumpRefused, evCallNoWorker, evCallStale, evCallRingFault,
   evProbeMatchOverflow, evSnapFailed, evSnapDamaged, evPowerQueuesDropped, evWakeRetry, evBrownOutReset,
   evThermalReset, evFwVerifyFailed, evAccessFailed, evAccessLockout, evLockstepMismatch, evScratchTestFail] ++
  [0, 1].map evScrubUncorrectable ++
  (List.range 12).flatMap (fun p => [evEaveUncorrectable p, evLaneErased p, evSpareFailed p, evLinkAbsent p,
    evLinkDrift p, evLinkMsgFailed p])

/-- Notices whose reset level is INTERRUPT (Table 16.4). -/
def noticesInterrupt : List Nat :=
  [evAcqDone, evSnapDone, evWakeDone, evFwActivated] ++ (List.range 32).map evBayActivated

/-- Whether an event is an error (Table 16.4). -/
def evIsError (id : Nat) : Bool := id == evFrameFault || errorsInterrupt.contains id || errorsLog.contains id

/-- Reset escalation level of an event (Table 16.4): 0 LOG, 1 INTERRUPT, 2 HALT_AT_FRAME_END. -/
def evResetLevel (id : Nat) : Nat :=
  if id = evFrameFault then 2
  else if errorsInterrupt.contains id || noticesInterrupt.contains id then 1 else 0

/-- The level a written level acts as: FRAME_FAULT has a minimum, and notices never halt (R417). -/
def evEffLevel (id lvl : Nat) : Nat :=
  if id = evFrameFault then max lvl 2 else if evIsError id then lvl else min lvl 1

/-- Reset value of FAULT.ESC_g (R425). -/
def escReset (g : Nat) : Word32 :=
  BitVec.ofNat 32 ((List.range 16).foldr (fun e acc =>
    (if e < evCount g then evResetLevel (evId g e) else 0) + 4 * acc) 0)

end Sys2Proof.Machine
end

