-- ==== Sys2Proof/Machine/Hw.lean ====
section
/-!
DEFINITION. The state of the block beside its command queue: every register, memory, buffer, counter, mode and pin the
manual gives one FX6 module, as plain data. Chapter numbers are those of the manual's files.
-/

namespace Sys2Proof.Machine

/-! ## Trusses (R44), their fabric outputs and their lofts -/

/-- A word on its way to a loft read bus: a loft read (R60) or a bank read (R163). -/
structure BusRead where
  pos : Nat
  word : Word64
  bank : Bool
deriving DecidableEq, Repr

/-- A masked loft write that has not yet completed (R63). -/
structure LoftRmw where
  addr : Nat
  merged : Word64
  pos : Nat
deriving DecidableEq, Repr

/-- A corrected word that waits to be written back (R66, R168, R193). -/
structure WriteBack where
  addr : Nat
  data : Word64
  pos : Nat
deriving DecidableEq, Repr

/-- One truss beside its memories: slate rings, output vector, the results of the course in progress, the histories
of its switch-box outputs and purlin drives, its incoming battens and its loft pipeline. -/
@[ext] structure Truss where
  /-- Slate vectors, age 1 first: bit i belongs to BP i (R35, R36). At most 112. -/
  slate : List Word64 := []
  /-- The truss output vector of this course (R71). -/
  outv : Word64 := 0
  /-- Results of the BPs that have executed in this course. -/
  res : Word64 := 0
  /-- Drive bits of the BPs that have executed in this course. -/
  drv : Word64 := 0
  /-- The BPs that have executed in this course. -/
  bpDone : Word64 := 0
  /-- Switch-box outputs of the earlier positions of this frame, newest first, at most 32 (R98, R105). -/
  sb : List (BitVec 48) := []
  /-- Purlin drives of the earlier positions of this frame, newest first, at most 2 (R102). -/
  purl : List Byte := []
  /-- Values delivered on the incoming battens (R96): select 64 + j reads bit j. -/
  inb : BitVec 48 := 0
  /-- Values delivered by purlins 0 to 7 (R102). -/
  pin : Byte := 0
  /-- Words on their way to the loft read bus. -/
  reads : List BusRead := []
  /-- The loft read bus (R60, R166). -/
  bus : Word64 := 0
  rmw : List LoftRmw := []
  /-- The position whose loft slot a masked write of the position before blocks (R63). -/
  blocked : Option Nat := none
  wb : List WriteBack := []
  /-- Switch-box outputs and purlin drives of the last executed course of any frame: what HOLD keeps (R274). -/
  lastSb : BitVec 48 := 0
  lastPurl : Byte := 0
deriving DecidableEq, Repr

/-- A bank write that is not yet committed (R163, R164): a full write has the mask of all ones and needs no old word. -/
structure BankRmw where
  addr : Nat
  data : Word64
  /-- The mask, once the next executed course's output vector has given it (R162). -/
  mask : Option Word64
  /-- The old word as the internal read gave it; none when it was uncorrectable (R169). -/
  old : Option Word64
  pos : Nat
deriving DecidableEq, Repr

/-- One design memory bank beside its words: pending masked writes, the blocked slot and the write-backs. -/
@[ext] structure Bank where
  rmw : List BankRmw := []
  blocked : Option Nat := none
  wb : List WriteBack := []
deriving DecidableEq, Repr

/-! ## Far-memory queue pairs (R178 to R185) -/

structure FmqReq where
  words : List Word64
  /-- Course clock of the push with LAST = 1, as the pad counts them (R181). -/
  pushed : Nat
  /-- Course position count of the push, for EARLY_PULL (R208). -/
  pushPos : Nat
  /-- A forced refresh has delayed this request (R190). -/
  delayed : Bool
deriving DecidableEq, Repr

structure FmqResp where
  words : List Word64
  pushed : Nat
  pushPos : Nat
  complete : Bool
  delayed : Bool
deriving DecidableEq, Repr

@[ext] structure QPair where
  asm : Store Word64 := []
  reqs : List FmqReq := []
  resps : List FmqResp := []
deriving DecidableEq, Repr

/-! ## Frames (chapter 5) -/

inductive RunState where
  | empty | held | running | halting | stoppedMid | levelChange
deriving DecidableEq, Repr

inductive RunMode where
  | none | free | timed | step
deriving DecidableEq, Repr

/-- What the current course clock is (R117). -/
inductive ClockKind where
  | exec | stall | stretch
deriving DecidableEq, Repr

/-- One taken block of a die's resolved frame (R122). -/
structure Seg where
  pos : Nat
  block : Nat
  row : Nat
  len : Nat
  kind : Nat
  cap : Nat
  wset : Nat
  quiet : Bool
deriving DecidableEq, Repr

/-- A stall request in force or on its way (R131). -/
structure StallReq where
  origin : Nat
  num : Nat
  /-- The position it holds back. -/
  hold : Nat
  /-- Own requests: the die and the wait set, and the course clock t0 of the test. -/
  own : Option (Nat × Nat)
  t0 : Nat
  /-- The release has been sent. -/
  sent : Bool
  /-- The release has taken effect. -/
  released : Bool
deriving DecidableEq, Repr

/-- Symbol kinds of Table 8.8. -/
inductive SymKind where
  | frameGo | stallReq | release | stretch | haltNow | haltAtEnd | trigger | throttle | runCtrl
deriving DecidableEq, Repr

/-- A configuration symbol on its way to its effect clock (R127, R237). -/
structure Sym where
  kind : SymKind
  arg : Nat
  origin : Nat
  /-- Configuration clock count of its effect. -/
  eff : Nat
  /-- Configuration clock count of its sending, as far as EFFECT tells it. -/
  sent : Nat
deriving DecidableEq, Repr

/-- A CAPTURE on its way to its effect clock (R126, R241). -/
structure CapSym where
  dev : Option Word64
  alt : Option Nat
  eff : Nat
deriving DecidableEq, Repr

/-- A halt at frame end that waits for its tick (R240, R423). -/
structure PendHalt where
  reason : Nat
  origin : Nat
  sent : Nat
  eff : Nat
deriving DecidableEq, Repr

/-- A level change in progress (R148 to R151). -/
structure LevelChg where
  fromRunning : Bool
  old : Nat
  new : Nat
  /-- 0 waiting for lock at the new level, 1 returning to the earlier level. -/
  phase : Nat
  /-- The change comes from a throttle symbol. -/
  throttle : Bool
deriving DecidableEq, Repr

/-- Everything the sequencers hold that is not a stored plan (R117 to R152). -/
@[ext] structure Seq where
  run : RunState := .empty
  mode : RunMode := .none
  checked : Bool := false
  level : Nat := 0
  levelReq : Nat := 0
  throttled : Bool := false
  haltReason : Nat := 0
  frame : Word64 := 0
  schedLen : Nat := 0
  horizon : Nat := 8
  /-- The vector source: die and capture truss, when this module is the source (R124). -/
  vecSource : Option (Nat × Nat) := none
  vecTruss : Nat := 0
  dev : Word64 := 0xFFFFFFFFFFFFFFFF#64
  alt : Nat := 0
  devNext : Word64 := 0xFFFFFFFFFFFFFFFF#64
  altNext : Nat := 0
  stepCount : Nat := 0
  /-- Configuration clock count (R238). -/
  clk : Nat := 0
  /-- A frame is in progress: its course clocks are being counted. -/
  inFrame : Bool := false
  /-- Course clock of the frame, from its tick. -/
  fclk : Nat := 0
  /-- Course clocks since the last tick, whatever the module does meanwhile (R362). -/
  tagClk : Nat := 0
  pos : Nat := 0
  /-- This course clock is a stretch clock (R140). -/
  stretchNow : Bool := false
  allowance : Nat := 0
  goSent : Bool := false
  /-- The next FRAME_GO has taken effect. -/
  goEff : Bool := false
  stalls : Nat := 0
  stretches : Nat := 0
  gapUs : Nat := 0
  /-- Stretch clocks still to be inserted. -/
  stretchDue : Nat := 0
  /-- Course clocks of the frame in which this module stretched, within the last H (R141). -/
  lagClks : List Nat := []
  /-- Guards that have already stretched this course clock (R140). -/
  stretchedNow : Bool := false
  /-- Resolved path of each die. -/
  path : List (List Seg) := [[], []]
  poisoned : Bool := false
  stallReqs : List StallReq := []
  reqNum : Nat := 0
  /-- Positions of the last course clocks, newest first, at most 1,023 (R131). -/
  posHist : List Nat := []
  halts : List PendHalt := []
  /-- Actions 2 to 6 of a boundary that a halt deferred (R28). -/
  deferred : Bool := false
  levelChg : Option LevelChg := none
  /-- A level that the next tick brings into force, and whether a throttle asks for it (R148, R152). -/
  levelDue : Option (Nat × Bool) := none
  /-- A PLL that did not return to the earlier level (R151). -/
  pllDead : Bool := false
  /-- TIMED grid: the period, and the grid point that the next tick serves, in units of network time (R311). -/
  gridPeriod : Nat := 0
  gridNext : Nat := 0
  /-- Credits of the last 16 positions per die, newest first (R203). -/
  credits : List (List Nat) := [[], []]
  /-- Symbols, and captures, that wait for their effect clock (R127). -/
  syms : List Sym := []
  caps : List CapSym := []
  /-- Queues from which the current WAIT block has removed a response (R129). -/
  waitTaken : List Nat := []
  /-- The next frame waits for its first tick: 0 a fresh start, 1 a boundary that a halt deferred (R28), 2 the end of a
  level-change gap (R149). -/
  starting : Option Nat := none
  /-- Stretches counted in this course clock (R140). -/
  noted : Nat := 0
  /-- A level-change gap has passed, and the next FRAME_GO re-aligns the clock count (R238). -/
  realign : Bool := false
  /-- A change of HUB.CLK_CTRL.SRC that waits for the next halt (R19). -/
  srcPending : Option Nat := none
  /-- Course clocks of this module so far, and those of them that the pad of a far-memory response counts (R181). -/
  ticks : Nat := 0
  padClk : Nat := 0
  /-- The last level change has failed (R151). -/
  levelFail : Bool := false
  /-- Stretches of the last 2H course clocks: the module that stretched, and its configuration clock count there (R140, R141). -/
  stretchLog : List (Nat × Nat) := []
deriving DecidableEq, Repr

/-! ## Events (chapter 16) -/

/-- An event on its way to the FAULT block (R409). -/
structure EvRec where
  id : Nat
  detail : Word32
  frame : Word64
  poison : Bool
  /-- Course clock of the raise. -/
  clk : Nat
deriving DecidableEq, Repr

/-- The FAULT block beside its status registers (R418 to R423). -/
@[ext] structure FaultSt where
  path : List EvRec := []
  next : Nat := 0
  seq : Nat := 0
  overflow : Nat := 0
  /-- FAULT.IRQ.VECTOR has been signalled in this cycle (R416). -/
  irqDone : Bool := false
deriving DecidableEq, Repr

/-! ## Eave ports (chapter 8) -/

inductive PortState where
  | disabled | detect | train | align | calibrate | active | retryWait | absent
deriving DecidableEq, Repr

/-- One physical lane of a port: both its transmitter and its receiver. -/
structure Lane where
  /-- Scrambler registers of the transmitter and of the receiver (R226). -/
  scr : BitVec 59 := 0
  descr : BitVec 59 := 0
  /-- The validity of the last 64 headers, newest first, and how many have been valid in a row, up to 64 (R227). -/
  hdrs : List Bool := []
  good : Nat := 0
  /-- The lane is ready at this receiver, and at the partner's (R220, R224). -/
  ready : Bool := false
  partnerReady : Bool := false
  /-- Status of the partner's last requests (Table 8.4). -/
  statPre : Nat := 0
  statPost : Nat := 0
  /-- The receiver's standing requests to the partner, as REQ_PRE, REQ_POST and REQ_PRESET, and the statuses that the
  partner last gave (R224). -/
  req : BitVec 7 := 0
  seenPre : Nat := 0
  seenPost : Nat := 0
  /-- Block-set counts of the columns corrected at this lane within the last 2^20 block sets, newest first (R246). -/
  errs : List Nat := []
  /-- The transmitter of this lane is at electrical idle after SPARE_DONE (R247). -/
  idle : Bool := false
deriving DecidableEq, Repr

/-- The spare sequence of a receive direction (R247). -/
structure Spare where
  role : Nat
  /-- Lane 18 is ready, so a copy of the role arrives on it. -/
  ready : Bool
  matched : Nat
  passed : Bool
deriving DecidableEq, Repr

/-- A slot group, keyed by frame number bits and position (R233). -/
structure Group where
  frm : Nat
  pos : Nat
  bits : BitVec 96
deriving DecidableEq, Repr

/-- A message of a MSG block set (R242). -/
structure MsgBody where
  chan : Nat
  dst : Nat
  first : Bool
  last : Bool
  data : List Byte
deriving DecidableEq, Repr

structure SentMsg where
  seq : Nat
  body : MsgBody
  resends : Nat
  sent : Bool
  /-- The waiting command of this module that the message belongs to, by its number, and the module concerned (R443). -/
  own : Option (Nat × Nat)
deriving DecidableEq, Repr

/-- A LANE, ACK or LINK_ID block set that waits to be sent: TYPE, type field and body (R241). -/
structure CtlMsg where
  type : Nat
  field : Nat
  body : Nat
deriving DecidableEq, Repr

@[ext] structure EavePort where
  state : PortState := .disabled
  /-- The start time of R218 has been reached. -/
  started : Bool := false
  lanes : List Lane := List.replicate 19 {}
  spare : Option Spare := none
  /-- The spare may not be used again until the port next trains (R249). -/
  spareDead : Bool := false
  /-- Role whose copy this transmitter sends on lane 18, and whether lane 18 is still under COEFF (R247). -/
  txSpare : Option (Nat × Bool) := none
  /-- Physical lane that carries each transmit role (R213). -/
  txRole : List Nat := List.range 18
  deskewed : Bool := false
  linkIdSeen : Bool := false
  linkIdSent : Bool := false
  mcount : Nat := 0
  /-- Sent markers with their departure ticks, newest first (R250). -/
  mSent : List (Nat × Nat) := []
  /-- Last marker received: its count and arrival tick. -/
  mLast : Option (Nat × Nat) := none
  /-- Twice the one-way samples of R250 without the 13 courses added, newest first: at most 256 in CALIBRATE, 16 in
  ACTIVE. -/
  samples : List Int := []
  driftFlag : Bool := false
  /-- Block sets since the last marker sent, and since the last marker received. -/
  sinceTx : Nat := 0
  sinceRx : Nat := 0
  /-- Block sets received so far (R246) and consecutive uncorrectable ones (R254). -/
  rxCount : Nat := 0
  badRun : Nat := 0
  sseqTx : Nat := 0
  sseqRx : Nat := 0
  mseqTx : Nat := 0
  mseqRx : Nat := 0
  ackDue : Bool := false
  unacked : List SentMsg := []
  rxGroups : List Group := []
  /-- The group that the port delivers in this course position (R110, R235). -/
  arrived : Option Group := none
  txGroups : List Group := []
  txSyms : List Sym := []
  txCaps : List CapSym := []
  txCtl : List CtlMsg := []
  /-- Which of the last 1,023 sent block sets were control or markers (R243). -/
  share : List Bool := []
  /-- A sleep that has been announced: block sets still to be sent before it, and the state (R252). -/
  sleepAfter : Option (Nat × Nat) := none
  txSleep : Nat := 0
  /-- The same for the receive direction, counted in received block sets. -/
  rxSleepAfter : Option (Nat × Nat) := none
  rxSleep : Nat := 0
  /-- Marker samples that still have to confirm MEASURED after an L-QUIET wake (Table 8.12). -/
  confirm : Nat := 0
  /-- Transmit coefficients by lane, kept over L-OFF for the retraining (Table 8.12). -/
  savedTaps : Option (List (Nat × Nat)) := none
  /-- Signal detect has fallen below 12 lanes since ABSENT was entered (R223). -/
  sigFell : Bool := false
  /-- The partner's identity code and configuration ID of its LINK_ID (R230). -/
  partnerIdent : Nat := 0
  partnerConfig : Word64 := 0
deriving DecidableEq, Repr

/-! ## Images and bays (chapter 9) -/

/-- Load phases of HUB.IMG_STAT.LOAD (R286). -/
inductive LoadPhase where
  | receiving | checking | applying
deriving DecidableEq, Repr

/-- What a slot of the scrubber has read in clock 0, the clock it has come to, and what it writes back in clock 4 (R281). -/
structure ScrubRead where
  clk : Nat
  truss : Nat
  row : Nat
  again : Bool
  /-- The stored row, where one has been written, and the bundle entry. -/
  stored : Option Row
  bundle : Bundle
  rowFix : Option Row
  entryFix : Option Bundle
deriving DecidableEq, Repr

/-- The open load (R264 to R267). -/
structure ImgLoad where
  kind : Nat
  bay : Nat
  length : Nat
  /-- Bytes 0x0000 to 0x00FF as IMAGE_BEGIN carried them. -/
  head : List Byte
  /-- Received blocks by block number (R266). -/
  blocks : Store (List Byte)
  phase : LoadPhase
  /-- MiB of each die's POOL that the staging room takes (R265). -/
  staged : List Nat
deriving DecidableEq, Repr

/-- A bay reload in progress (R276). -/
structure BayReload where
  bay : Nat
  image : List Byte
  /-- 0 waiting for isolation, 1 writing, 2 writes ended, 3 initialising, 4 awaiting activation. -/
  phase : Nat
  /-- Course clock in which the phase was entered: a boundary takes a phase that was entered before it. -/
  since : Nat
deriving DecidableEq, Repr

/-- The loaded image, as far as later rules refer to it (R262, R268, R270). -/
structure Loaded where
  head : List Byte
  configId : Word64
deriving DecidableEq, Repr

@[ext] structure ImgSt where
  load : Option ImgLoad := none
  loaded : Option Loaded := none
  /-- A complete image has been replaced or loaded since CONFIG_FORM last formed the configuration (R269). -/
  unformed : Bool := true
  bay : Option BayReload := none
  /-- An image that passed its tests and is not wholly applied: it waits for a halt at frame end, or its actions run (R269,
  R270). -/
  applyPending : Bool := false
  /-- Actions of Table 9.6 that have been performed on it. -/
  actions : Nat := 0
  lastStatus : Nat := 0
  lastCheck : Nat := 0
  /-- SCRUB_MARK_OVERFLOW has been raised since the last image load (R283). -/
  markOverflow : Bool := false
deriving DecidableEq, Repr

/-- A part of POOL that the MP has allocated, in MiB: kind 1 a snapshot area, 2 the acquisition buffer, 3 the gutter (R177,
R463). -/
structure PoolArea where
  kind : Nat
  slot : Nat
  die : Nat
  base : Nat
  size : Nat
deriving DecidableEq, Repr

/-- A value on the I/O path to the output registers of one port (R16, R87). -/
structure IoOut where
  /-- Course clocks that remain. -/
  left : Nat
  bank : Nat
  mask : Word32
  value : Word32
deriving DecidableEq, Repr

/-! ## Configuration membership (R28 to R34, R459) -/

/-- A link of the configuration's tree, as the head knows it: the module nearer the head with its port, and the module beyond
with its own. -/
structure TreeLink where
  parent : Nat
  port : Nat
  child : Nat
  uplink : Nat
deriving DecidableEq, Repr

@[ext] structure ConfSt where
  /-- The module belongs to a formed configuration. -/
  formed : Bool := false
  /-- Device index of the head module. -/
  head : Nat := 0
  /-- Device indices of the members, the head excluded. -/
  members : List Nat := []
  /-- Ports of this module that carry tree links, and the one through which FRAME_GO reaches it. -/
  treePorts : List Nat := []
  uplink : Option Nat := none
  /-- Ports of this module that carry a crossing of the configuration. -/
  crossPorts : List Nat := []
  /-- A partner has been lost since the configuration was formed (R255). -/
  broken : Bool := false
  /-- On the head, the links of the tree (R33). -/
  links : List TreeLink := []
  /-- On a member, the tree distance from the head (R128, R238). -/
  distance : Nat := 0
  /-- The ports of the tree as CONFIG_FORM made it, on which messages go whether or not a partner was lost since (R34, R242). -/
  branches : List Nat := []
  /-- On a member, the links between it and the head, each as the module nearer the head with its port (R255). -/
  above : List (Nat × Nat) := []
deriving DecidableEq, Repr

/-! ## Sequence trace (chapter 13) -/

/-- A packet that a source offers to the trace unit. -/
structure TraceOffer where
  src : Nat
  pkt : BitVec 128
deriving DecidableEq, Repr

@[ext] structure TraceSt where
  offers : List TraceOffer := []
  staging : List (BitVec 128) := []
  /-- Packets refused from SRC 0 to 3 and not yet reported by a GAP (R367). -/
  refused : List Nat := [0, 0, 0, 0]
  /-- A sequencer source that has dropped path packets resumes at the next SEQ 0 (R368). -/
  resync : List Bool := [false, false]
  /-- A SYNC of REASON 2 is due before the next packet of a sequencer source (R363). -/
  syncDue : List Bool := [false, false]
  /-- A global time stamp is due, with the time of its tick (R364). -/
  stamp : Option Nat := none
deriving DecidableEq, Repr

/-! ## Snapshots (chapter 14) -/

/-- An allocated snapshot area: its base byte address on each die and its scope (R374). -/
structure SnapArea where
  base : List Nat
  far : Bool
  sizeMib : List Nat
deriving DecidableEq, Repr

/-- The capture in progress (R376 to R380). -/
structure Capture where
  slot : Nat
  id : Nat
  /-- The frame whose end is the snapshot point. -/
  frame : Nat
  /-- The point has been taken, at this course clock as the pad counts them. -/
  point : Option Nat
  /-- The dies whose drain has ended. -/
  drained : List Bool
  /-- Members that have reported their drain; on a member, unused. -/
  reported : List Nat
  failed : Bool
  /-- ALT and the QUIET and POISONED flags of the descriptor, and the words stored as zero on each die. -/
  alt : Nat
  quiet : Bool
  poisoned : Bool
  damage : List Nat
deriving DecidableEq, Repr

@[ext] structure SnapSt where
  areas : Store (Option SnapArea) := []
  capture : Option Capture := none
  /-- Snapshot planes with their COPIED bits: old words by the key of the live word (R378). -/
  loftPlane : Store (Option Word78) := []
  bankPlane : Store (Option (Word78 × Bool)) := []
  /-- Marked 4 KiB pages by die × 2^24 + page (R379). -/
  pages : Store Bool := []
  /-- Bay activations since the image was applied (Table 14.2). -/
  bayGen : Nat := 0
  /-- The restore in progress: its slot and the step of R383 that comes next. -/
  restore : Option (Nat × Nat) := none
deriving DecidableEq, Repr

/-! ## The call scheduler (chapter 11) -/

/-- Where a stored call stands. -/
inductive CallState where
  /-- Released, its dependence counter above 0. -/
  | waiting
  /-- In the delay list (R318). -/
  | delayed
  | ready (w : Nat)
  | running (w : Nat)
  /-- Complete and not yet delivered (R330). -/
  | held
  | delivered
deriving DecidableEq, Repr

/-- A call in its slot (R316, R317). -/
@[ext] structure Call where
  gen : Nat
  port : Nat
  cls : Nat
  flow : Nat
  inFlow : Bool
  resultEn : Bool
  args : BitVec 256
  /-- Frame and position of the raise. -/
  frame : Word64
  pos : Nat
  /-- Release frame (R318). -/
  release : Nat
  /-- Slots of the predecessors that are not yet complete: the dependence counter is their number. -/
  deps : List Nat
  depFail : Bool
  depCancel : Bool
  state : CallState
  /-- Status of the completion: 0 OK, 1 FAILED. -/
  status : Nat
  /-- Worker that took it, 63 for none. -/
  worker : Nat
  result : BitVec 256
deriving DecidableEq, Repr

/-- A raise that the scheduler has not yet accepted, with the port's configuration at the raise (R314, R315). -/
structure Raise where
  frame : Word64
  pos : Nat
  port : Nat
  cfg : Word32
  mask : Word64
  args : BitVec 256
deriving DecidableEq, Repr

@[ext] structure CallsSt where
  /-- Argument words being assembled, by module port × 4 + word (R86). -/
  asm : Store Word64 := []
  raises : List Raise := []
  slots : Store (Option Call) := []
  /-- 4-bit generation of each slot (R316). -/
  gens : Store Nat := []
  /-- Ready list of each worker, head first (R319, R321). -/
  ready : Store (List Nat) := []
  /-- Result queue of each port: slots in delivery order (R331). -/
  results : Store (List Nat) := []
  /-- Slot and class of a call that the MP still serves although it was cancelled (R333). -/
  mpLost : Option (Nat × Nat) := none
deriving DecidableEq, Repr

/-! ## Probes, triggers and acquisition (chapter 12) -/

/-- A record on its way to the acquisition writer, with the tag that orders it: frame, course clock, and group, 256 +
channel, or 1,000 for the TRIGGER record (R343). `gap` counts the records lost before it (R339, R341). -/
structure AcqRec where
  frame : Nat
  clock : Nat
  ord : Nat
  body : BitVec 128
  gap : Nat
deriving DecidableEq, Repr

/-- A threshold crossing with its trigger point (R345, R349, R350). -/
structure Cross where
  thr : Nat
  chan : Nat
  frame : Nat
  clock : Nat
  frac : Nat
  seq0 : Nat
deriving DecidableEq, Repr

/-- An instant that the trigger sequencer has not yet evaluated (R347). Bit 4s + c of `truth` says that slot c of state s
is true there, for every kind that does not depend on the sequencer's counters and timers. -/
structure TrigInst where
  frame : Nat
  clock : Nat
  pos : Nat
  truth : Word64
  cross : List Cross
  /-- Pattern results that changed, by die (R344). -/
  changes : Nat × Nat
  /-- Timers that reach 0 at the instant, once they have been counted down. -/
  timers : Option (BitVec 4)
  /-- The sequencer starts anew at this instant (R348). -/
  rearm : Bool
deriving DecidableEq, Repr

/-- The last tested sample of a word channel (R345). -/
structure Samp where
  value : BitVec 16
  frame : Nat
  clock : Nat
  /-- Course clock of its arrival. -/
  abs : Nat
  seq : Nat
deriving DecidableEq, Repr

@[ext] structure AcqSt where
  /-- Values of the 256 probe groups (R337), and groups whose record was dropped (R339). -/
  groups : Store Word64 := []
  force : Store Bool := []
  /-- Record queues of the dies and of the hub, and the records lost since the last one placed. -/
  pq : List (List AcqRec) := [[], []]
  plost : List Nat := [0, 0]
  sq : List AcqRec := []
  slost : Nat := 0
  /-- Last results of the pattern comparators. -/
  patLast : BitVec 16 := 0
  /-- Those results as the hub knows them, which lost changes do not reach (R344). -/
  patHub : BitVec 16 := 0
  /-- Samples that have reached their registers in this course clock and are still to be stamped (R340). -/
  inbox : List (Nat × BitVec 16) := []
  insts : List TrigInst := []
  /-- State of the trigger sequencer, counters that have just reached their LIMIT, and timers that run. -/
  tstate : Nat := 0
  cntHit : BitVec 4 := 0
  tmrOn : BitVec 4 := 0
  /-- Last tested sample and next sequence number of each channel. -/
  prev : Store (Option Samp) := []
  next : Store Nat := []
  /-- TRIGGER codes and crossings of the present course clock. -/
  xnow : List Nat := []
  crossNow : List Cross := []
  /-- Modules of the trigger domain, and those whose 0xFF the lead has seen (R356). -/
  members : List Nat := []
  ended : List Nat := []
  /-- Frame and clock at which the segment was armed. -/
  armTag : Nat × Nat := (0, 0)
  rearmNow : Bool := false
  /-- Course clock from which the dead time is measured. -/
  deadFrom : Nat := 0
  /-- Course clocks of a running frame since the segment was armed, and the forced instant (R357). -/
  autoClks : Nat := 0
  autoAt : Option (Nat × Nat × Nat) := none
  /-- The segment was armed in this course clock. -/
  autoSkip : Bool := false
  /-- The TRIGGER record that waits for its place, and its ring index once placed. -/
  trig : Option AcqRec := none
  trigIndex : Option Nat := none
  /-- Records written to the segment, those that count for PRE and POST, and POST records still to come. -/
  written : Nat := 0
  counted : Nat := 0
  postLeft : Nat := 0
  /-- Frame of the last record, and records since the last FRAME_BASE (R342). -/
  lastFrame : Nat := 0
  sinceBase : Nat := 0
  /-- Records that the writer has dropped and not yet told of, and the tag of the earliest of them (R343). -/
  wlost : Nat := 0
  wtag : Nat × Nat := (0, 0)
deriving DecidableEq, Repr

/-! ## Network time (chapter 10). Times count thirds of 2^-16 ns, so that a course clock of every level is a whole
number of them. -/

/-- A time-event generator beside its registers (R305 to R308). -/
@[ext] structure TeSt where
  /-- An instant or a frame is pending: TE_k.STAT.ARMED. -/
  armed : Bool := false
  /-- The next instant in units of time, or the next frame number. -/
  next : Nat := 0
  /-- When the pulse that runs ends, by the length of time that has run, and on which pin (R306). -/
  fall : Option (Nat × Nat) := none
deriving DecidableEq, Repr

/-- A record of a capture unit (R309). -/
structure CapRec where
  time : Nat
  falling : Bool
deriving DecidableEq, Repr

/-- The servo of the fast timebase (R290, R296): the frequency correction and the slew in parts per 10^9, the length still to
be slewed in 10^-9 units of time, and the part of a unit, in 10^-9, that network time has not yet advanced by. -/
structure Servo where
  rate : Int := 0
  slew : Int := 0
  left : Nat := 0
  frac : Nat := 0
deriving DecidableEq, Repr

@[ext] structure TimeSt where
  now : Nat := 0
  servo : Servo := {}
  /-- Network time of the last frame tick (R364). -/
  lastTick : Nat := 0
  /-- Absolute offsets of the last accepted measurements, newest first, at most 16 (R299, R304). -/
  last16 : List Nat := []
  /-- The next measurement is the first since the phase was entered (R297). -/
  first : Bool := true
  /-- Consecutive refusals (R296). -/
  refused : Nat := 0
  /-- Offsets of the primary and of the shadow domain's master from network time. -/
  offs : List Int := [0, 0]
  /-- Best master of the primary and of the shadow domain, and the UTC offset it announces (R289, R294). -/
  best : List (Option PtpMaster) := [none, none]
  utc : List (Option (BitVec 16)) := [none, none]
  /-- The 10 MHz input has been present for 1 s (R290). -/
  ref10m : Bool := false
  /-- UNCERT at entry to HOLDOVER, in nanoseconds, and the length of the holdover since (R304). -/
  uncertBase : Nat := 0xFFFFFFFF
  holdLen : Nat := 0
  /-- The length of network time that has run, which no step changes; pulses end by it (R301, R306). -/
  run : Nat := 0
  /-- Second that the 1PPS output last served, and the end of its pulse (R301). -/
  ppsSec : Nat := 0
  ppsFall : Option Nat := none
  te : Store TeSt := []
  /-- Generators that have fired in this course clock (R346). -/
  fired : Word32 := 0
  /-- Generators that have fired since the wake from DOZE was last tested (R308). -/
  rung : Word32 := 0
  /-- Frame-mode firings on the I/O path: clocks that remain and generator (R306). -/
  tePath : List (Nat × Nat) := []
  /-- Values of the pins that generators name (R306). -/
  tePins : Store Bool := []
  tc : Store (List CapRec) := []
  /-- Network time and the AON counter as recorded on entry to SLEEP, with UNCERT (R303). -/
  sleepNow : Nat := 0
  sleepCount : Nat := 0
  sleepUncert : Nat := 0
  /-- The 48-bit AON counter at 32.768 kHz, and the part of its period of 6·10^9 units of time that has passed (R303). -/
  aon : Nat := 0
  aonFrac : Nat := 0
  /-- Frequency of the recovered clock that the PLL last followed, in parts per 10^9 beyond nominal (R32). -/
  linkRate : Int := 0
deriving DecidableEq, Repr

/-! ## The host interface (chapters 17 and 18) -/

/-- A command that has come over a link and has not begun. `conf` marks a configuration command's share, which the head
sends (R454). -/
structure FwdCmd where
  origin : Nat
  slot : Nat
  code : Nat
  conf : Bool
  args : List Byte
  input : List Byte
deriving DecidableEq, Repr

/-- A running command whose reply waits: for its own end, and for members that have not acted (R454). -/
structure Wait where
  src : CmdSrc
  code : Nat
  args : List Byte
  /-- The reply as far as it is already known. -/
  reply : List Byte
  left : List Nat
  /-- 0 while the modules test, 1 once they act. -/
  phase : Nat
  /-- The first module that failed, with its status. -/
  fail : Option (Nat × Nat)
deriving DecidableEq, Repr

/-- What discovery has reported of one port of one module (R442). -/
structure TopoPort where
  device : Nat
  port : Nat
  partner : Option Nat
  /-- Port of the partner at the other end (R230). -/
  far : Nat
  active : Bool
  training : Bool
deriving DecidableEq, Repr

/-- A slice of the background test: its bank, whether the March test passes, and the units of time that it still takes (R448). -/
structure SliceTest where
  bank : Nat
  ok : Bool
  left : Nat
deriving DecidableEq, Repr

@[ext] structure HostSt where
  /-- The PCIe link is trained; PERST# is asserted; ASPM L1 is enabled. -/
  linkUp : Bool := false
  perst : Bool := true
  aspmL1 : Bool := false
  /-- Base address registers by configuration offset (R426, R429). -/
  bars : Store Word32 := []
  /-- BAR0.STATUS.READY, FW_SWITCH and MP_RESTART, and BAR0.BOOT.MS (Table 17.4). -/
  ready : Bool := false
  fwSwitch : Bool := false
  mpRestart : Bool := false
  /-- The firmware has become ready since the cold start (R417). -/
  booted : Bool := false
  /-- One MP core runs alone: the other has failed its self-check (R415). -/
  mpAlone : Bool := false
  bootMs : Nat := 0
  /-- Mailbox slots: byte b of slot s at 256 × s + b (Table 17.5). BUSY of slot s is STATE 1 to 4. -/
  slots : Store Byte := []
  /-- Rung slots that the MP has not taken, in the order of their rings (R438). -/
  ring : List Nat := []
  waits : List Wait := []
  fwd : List FwdCmd := []
  topo : List TopoPort := []
  /-- MSI-X table entries in 32-bit words, and the pending-bit array (R426, R429). -/
  msixTable : Store Word32 := []
  pba : Word64 := 0
  /-- Slices that the background test has completed, by scratch bank (R448). -/
  slices : Store Nat := []
  /-- The slice of the background test that holds a bank (R448). -/
  slice : Option SliceTest := none
  /-- Value of `calib` at the last access of each scratch bank, and at the beginning of the last slice (R448). -/
  scrUsed : Store Nat := []
  sliceFrom : Option Nat := none
  /-- Dispatch records of members that the head has not written yet, by address, oldest first (R327). -/
  recs : List (Nat × List Byte) := []
  /-- Completion records that the head has to read for members: module, worker and address, oldest first (R327). -/
  asks : List (Nat × Nat × Nat) := []
deriving DecidableEq, Repr

/-! ## Power (chapter 15) -/

@[ext] structure PowerSt where
  /-- The module has power: the input is valid (R488). -/
  powered : Bool := false
  /-- A thermal shutdown waits for its cold start (R500). -/
  hot : Bool := false
  /-- PERST# or the return of the input has asked for that cold start. -/
  asked : Bool := false
  /-- A low-power state whose entry is asked for and not complete: 1 IDLE, 2 DOZE, 3 SLEEP (R391, R392). -/
  goal : Option Nat := none
  /-- Members whose entry the head still awaits: it completes its own last (R389). -/
  left : List Nat := []
  /-- A wake source that has arrived in DOZE or SLEEP, or during an entry, and whose wake has not run. -/
  source : Option Nat := none
  /-- An expired timer has asked for the goal, and how long the condition of the present state's timer has held, in units of time
  (R390). -/
  byTimer : Bool := false
  idleFor : Nat := 0
  /-- Registers in retention SRAM (R399). -/
  saved : Store Word32 := []
  /-- What each latched pin has held since SLEEP was entered: a driven level, or high impedance (R397). -/
  pads : Store (Option Bool) := []
  /-- WAKE# and ALERT# (R401, R493). -/
  wakePin : Bool := false
  alertPin : Bool := false
deriving DecidableEq, Repr

/-! ## Firmware and service access (chapter 19) -/

/-- One firmware bank: its 4 KiB sectors by number, and the header fields of the image last booted or verified there. `boots` says that
a bank of which no sector has been written holds the image that it was delivered with, and `decayed` that the flash no longer holds
the bank as it was programmed (R473, R481, R483). -/
structure FwBank where
  sectors : Store (List Byte) := []
  version : Nat := 0
  counter : Nat := 0
  layout : Nat := 0
  boots : Bool := false
  decayed : Bool := false
deriving DecidableEq, Repr

@[ext] structure FwSt where
  active : Nat := 0
  bankA : FwBank := { boots := true }
  bankB : FwBank := {}
  /-- The open transfer: LENGTH and the sectors received (R477). -/
  transfer : Option (Nat × List Nat) := none
  verified : Bool := false
  /-- The pending activation: configuration clock count of the switch, and its network time (R479, R480). -/
  pending : Option (Nat × BitVec 112) := none
  /-- Blown fuses (R474). -/
  fuses : Nat := 0
  /-- The settings store: layout version, password key, failure count and lockout length in seconds (R474). -/
  layout : Nat := 0
  key : BitVec 256 := 0
  failures : Nat := 0
  lockLen : Nat := 0
  /-- Words of ACCESS_KEY written since word 7 was last written (R487). -/
  keyWords : BitVec 256 := 0
  /-- What remains of a lockout, in units of time. -/
  lockLeft : Nat := 0
  nonce : Option (BitVec 256) := none
  nonces : Nat := 0
  /-- Method that opened the session. -/
  session : Option Nat := none
  /-- Neither bank boots: the boot ROM waits for an image over the UART (R483). -/
  stuck : Bool := false
deriving DecidableEq, Repr

/-! ## What the module emits -/

/-- What the module sends to the world outside it: to host memory, to the host, to partner modules and to its pins. -/
inductive Out where
  /-- A configuration symbol on the tree links. -/
  | symbol (kind : SymKind) (arg : Nat) (clk : Nat)
  /-- A CAPTURE of the vector source. -/
  | capture (c : CapSym)
  /-- A message to a module. -/
  | message (dst : Nat) (m : LinkMsg)
  /-- A block set of a port: its 19 lane blocks. -/
  | blockSet (port : Nat) (blk : List (BitVec 66))
  /-- A block of one lane alone: a COEFF block (R224). -/
  | laneBlock (port lane : Nat) (blk : BitVec 66)
  /-- A write to host memory. -/
  | hostWrite (addr : Nat) (bytes : List Byte)
  /-- An MSI-X message on a vector. -/
  | msix (vector : Nat)
  /-- A completion of a configuration request: Configuration Request Retry Status or the data. -/
  | configReply (retry : Bool) (data : Word32)
  /-- Data returned to a host read. -/
  | readData (bytes : List Byte)
  /-- A level driven on a named pin. -/
  | pin (name : String) (index : Nat) (level : Bool)
  /-- An edge of a user I/O pin or of the 1PPS output (512), placed at a network time (R301, R306). -/
  | edge (pin : Nat) (level : Bool) (time : Nat)
deriving DecidableEq, Repr

/-- Operations that one course clock performs at most once each. -/
inductive OpTag where
  /-- The control word has been checked (R54). -/
  | ctl (d t : Nat)
  /-- A bundle entry has been found uncorrectable (R42). -/
  | bundle (t e : Nat)
  | loft (d t : Nat) | busDeliver (d t : Nat) | writeback (d t : Nat) | mark (d t : Nat)
  /-- The supplying or receiving operation of a port (R88). -/
  | port (d kind n : Nat) (supply : Bool)
  | bank (d j : Nat) | bankWb (d j : Nat) | dev | waitTest (d : Nat) | scrub (d : Nat)
  | bridge (d : Nat) | slotGroup (p : Nat) | io
  /-- A capture register took a location in this course clock: bit 31 of the word at `a` is its VALID (R69, R210). -/
  | cap (a : Nat)
  /-- Hardware has set W1C bit n of the word at `a` in this course clock (R7). -/
  | w1c (a n : Nat)
  /-- A lane hazard has been raised (R82). -/
  | lane (d t j : Nat)
  /-- The hazards of the course that belong to no BP have been tested. -/
  | haz (d : Nat) | probe (d : Nat)
  /-- The clock's symbols have been applied. -/
  | syms
  /-- A generator in FRAME_EVERY has fired (R305). -/
  | teFrame (k : Nat)
deriving DecidableEq, Repr

/-- The stepping of the array dies, a property of the part (R1, R2). -/
inductive Stepping where
  | a1 | b0
deriving DecidableEq, Repr

/-- Everything but the queue of waiting commands. -/
@[ext] structure Hw where
  /-- Both array dies are of one stepping (R2). -/
  stepping : Stepping := .a1
  /-- Device index, read from the six ID straps (R29). -/
  devIndex : Nat := 0
  /-- Uses of free values so far: the n-th use reads `Config.freeValue n` (the model's own field). -/
  free : Nat := 0
  /-- Internal registers by address, in 32-bit words (R5); an unlisted word reads its reset value. -/
  regs : Store Word32 := []
  /-- Pending values of RWF fields by address (R8). -/
  rwf : Store (Option Word32) := []
  /-- Words captured by the read of a low word, by address (R5). -/
  captured : Store (Option Word32) := []
  /-- Course rows by module truss × 2,048 + row (R48); an unlisted row is the stored NOP row. -/
  rows : Store Row := []
  /-- Bundle entries by module truss × 256 + index (R40). -/
  bundles : Store Bundle := []
  /-- Support masks of the bundle entries, as computed when each was written (R43). -/
  support : Store (BitVec 5) := []
  /-- Loft words by module truss × 2,048 + address (R57). -/
  lofts : Store Word78 := []
  /-- Bank words by module bank × 32,768 + address (R155), and the words that have been written (R170). -/
  bankMem : Store Word78 := []
  bankValid : Store Bool := []
  /-- Far-memory words by die × 2^33 + word address (R176), and the written lines of the DESIGN region by
  die × 2^30 + line (R191). -/
  farMem : Store Word78 := []
  farValid : Store Bool := []
  /-- Scratch-bank words by bank × 8,192 + word. -/
  scratch : Store Word78 := []
  /-- Frame plan: block entries by die × 256 + b, plan tables by die × 16 + e, wait sets by die × 32 + w (R154). -/
  plan : Store Word64 := []
  ptable : Store Nat := []
  waitSets : Store (BitVec 256) := []
  /-- Flashing-cell settings and held values by cell (R274). -/
  flash : Store Nat := []
  flashHeld : Store Bool := []
  trusses : Store Truss := []
  banks : Store Bank := []
  qpairs : Store QPair := []
  seq : Seq := {}
  conf : ConfSt := {}
  done : List OpTag := []
  /-- Port words delivered in this course by die × 4,096 + port × 16 + operation (R77). -/
  portWords : Store Word64 := []
  /-- Bits that arrived wrong on the die bridge in this course, by receiving die (R107). -/
  bridgeErr : Store (BitVec 384) := []
  /-- Contributions of this course by module probe group: the bits contributed to, and their OR (R72, R337). -/
  probeIn : Store (Word64 × Word64) := []
  fault : FaultSt := {}
  trace : TraceSt := {}
  snap : SnapSt := {}
  time : TimeSt := {}
  calls : CallsSt := {}
  acq : AcqSt := {}
  /-- Bus Master Enable of the endpoint (R429). -/
  bme : Bool := false
  host : HostSt := {}
  power : PowerSt := {}
  fw : FwSt := {}
  /-- The module serial number of the FRU data (R492). -/
  serial : Word64 := 0
  ports : Store EavePort := []
  img : ImgSt := {}
  /-- Time of the calibration counters of the ports, in thirds of 2^-16 ns (R250). -/
  calib : Nat := 0
  /-- Allocated parts of POOL (R177). -/
  pool : List PoolArea := []
  /-- Course clocks since the last scrub slot, by die (R280). -/
  scrubSince : Store Nat := []
  /-- Scrub slots in progress, by die (R281). -/
  scrubSlots : Store (Option ScrubRead) := []
  /-- I/O path: values on their way to output registers, and the last 20 clocks of the input registers (R16). -/
  ioOut : List IoOut := []
  ioIn : List (List Word32) := []
  /-- Refreshes pulled in ahead of schedule, and postponed ones, by die + 2 × pseudo-channel (R188). -/
  refreshAhead : Store Nat := []
  refreshLate : Store Nat := []
  /-- Corrected far-memory words that wait to be written back, by die × 2^33 + word address (R193). -/
  farWb : Store (Option Word64) := []
  /-- What the module has emitted, oldest first. -/
  out : List Out := []
deriving DecidableEq, Repr

end Sys2Proof.Machine
end

