-- ==== Sys2Proof/Machine/RegTable.lean ====
section
/-!
DEFINITION. The register table of the internal address map: every register that a table of the manual defines, one row
for each 32-bit word of it (R5), with the bits of each access code of Table 0.3 (R6) and the reset value (R10). A row
covers all the instances of its register. Bits that no mask names are RO or reserved, and read zero after reset unless
the reset value gives them one (R9). Values that depend on the stepping or on the instance are those of
`Machine.regReset`.
-/

namespace Sys2Proof.Machine

/-- One word of one register, with its instances: instance (i, j) lies at addr + i·s1 + j·s2. -/
structure RegRow where
  name : String
  word : Nat
  addr : Nat
  n1 : Nat
  s1 : Nat
  n2 : Nat
  s2 : Nat
  rw : Word32
  rwf : Word32
  w1c : Word32
  wo : Word32
  reset : Word32
deriving DecidableEq, Repr

/-- A row from numbers, in the order of the fields of `RegRow`. -/
def row (name : String) (word addr n1 s1 n2 s2 rw rwf w1c wo reset : Nat) : RegRow :=
  ⟨name, word, addr, n1, s1, n2, s2, rw, rwf, w1c, wo, reset⟩

def regRows0 : List RegRow := [
  row "HUB.CLK_CTRL" 0 0x44 1 0x0 1 0x0 0x3F 0x0 0x0 0x0 0x0,
  row "HUB.RIDGE_TIMEOUT" 0 0x40 1 0x0 1 0x0 0xFFFF 0x0 0x0 0x0 0x14,
  row "TRUSSCFG.ECC_CTRL" 0 0x1400000 2 0x800000 1 0x0 0x3 0x0 0x0 0x4 0x1,
  row "TRUSSCFG.LOFT_CE_COUNT" 0 0x1400004 2 0x800000 1 0x0 0x0 0x0 0x0 0x0 0x0,
  row "TRUSSCFG.UE_COUNT" 0 0x1400008 2 0x800000 1 0x0 0x0 0x0 0x0 0x0 0x0,
  row "TRUSSCFG.UE_LOC" 0 0x140000C 2 0x800000 1 0x0 0x0 0x0 0x80000000 0x0 0x0,
  row "BRIDGE.LAT" 0 0x1300000 2 0x800000 1 0x0 0x0 0x0 0x0 0x0 0x909,
  row "BRIDGE.PAR_ERR" 0 0x1300004 2 0x800000 1 0x0 0x0 0x0 0x80000000 0x0 0x0,
  row "EAVE.XLAT" 0 0x2000100 12 0x10000 1 0x0 0x0 0x0 0x0 0x0 0xA0,
  row "SEQ.RUN_CTRL" 0 0x1000000 2 0x800000 1 0x0 0x20 0x0 0x0 0x0 0x0,
  row "SEQ.RUN_STAT" 0 0x1000004 2 0x800000 1 0x0 0x0 0x0 0x0 0x0 0x0,
  row "SEQ.FRAME_NUM" 0 0x1000008 2 0x800000 1 0x0 0x0 0x0 0x0 0x0 0x0,
  row "SEQ.FRAME_NUM" 1 0x100000C 2 0x800000 1 0x0 0x0 0x0 0x0 0x0 0x0,
  row "SEQ.FRAME_LEN" 0 0x1000010 2 0x800000 1 0x0 0x0 0xFFFFFF 0x0 0x0 0x0,
  row "SEQ.PLAN_CFG" 0 0x1000014 2 0x800000 1 0x0 0x0 0x0 0x0 0x0 0x80000,
  row "SEQ.VEC_CAP_SRC" 0 0x1000018 2 0x800000 1 0x0 0x0 0x0 0x0 0x0 0x0,
  row "SEQ.VEC_DEV" 0 0x100001C 2 0x800000 1 0x0 0x0 0x0 0x0 0x0 0xFFFFFFFF,
  row "SEQ.VEC_DEV" 1 0x1000020 2 0x800000 1 0x0 0x0 0x0 0x0 0x0 0xFFFFFFFF,
  row "SEQ.VEC_ALT" 0 0x1000024 2 0x800000 1 0x0 0x0 0x0 0x0 0x0 0x0,
  row "SEQ.WAIT_LIMIT" 0 0x1000030 2 0x800000 1 0x0 0xFFFFFFFF 0x0 0x0 0x0 0xF4240,
  row "SEQ.STEP_COUNT" 0 0x1000034 2 0x800000 1 0x0 0x0 0x0 0x0 0x0 0x0,
  row "SEQ.LAST_FRAME" 0 0x1000040 2 0x800000 1 0x0 0x0 0x0 0x0 0x0 0x0,
  row "SEQ.LAST_SLACK" 0 0x1000044 2 0x800000 1 0x0 0x0 0x0 0x0 0x0 0x0,
  row "SEQ.CNT" 0 0x1000048 2 0x800000 4 0x4 0x0 0x0 0x0 0x0 0x0,
  row "BANK.OWNER" 0 0x1100000 2 0x800000 64 0x4 0x7 0x0 0x0 0x0 0x22,
  row "BANK.LAT" 0 0x1100100 2 0x800000 1 0x0 0x0 0x0 0x0 0x0 0x100C100C,
  row "BANK.ECC_CTRL" 0 0x1100104 2 0x800000 1 0x0 0x7 0x0 0x0 0x8 0x1,
  row "BANK.CE_COUNT" 0 0x1100108 2 0x800000 1 0x0 0x0 0x0 0x0 0x0 0x0,
  row "BANK.FRU_COUNT" 0 0x110010C 2 0x800000 1 0x0 0x0 0x0 0x0 0x0 0x0,
  row "BANK.UE_COUNT" 0 0x1100110 2 0x800000 1 0x0 0x0 0x0 0x0 0x0 0x0,
  row "BANK.UE_LOC" 0 0x1100114 2 0x800000 1 0x0 0x0 0x0 0x80000000 0x0 0x0,
  row "FAR.LAT" 0 0x1200000 2 0x800000 1 0x0 0x0 0x0 0x0 0x0 0xA000A0,
  row "FAR.MAP" 0 0x1200008 2 0x800000 1 0x0 0x0 0x0 0x0 0x0 0xBCA00000,
  row "FAR.CTRL" 0 0x120000C 2 0x800000 1 0x0 0x7 0x0 0x0 0x8 0x0,
  row "FAR.CNT" 0 0x1200010 2 0x800000 8 0x4 0x0 0x0 0x0 0x0 0x0,
  row "FAR.UE_LOC" 0 0x1200040 2 0x800000 1 0x0 0x0 0x0 0x0 0x0 0x0,
  row "FAR.UE_LOC" 1 0x1200044 2 0x800000 1 0x0 0x0 0x0 0x80000000 0x0 0x0,
  row "FAR.QSTAT" 0 0x1200100 2 0x800000 128 0x4 0x0 0x0 0x0 0x0 0x0,
  row "SEQ.HAZ_LOC" 0 0x1000080 2 0x800000 1 0x0 0x0 0x0 0x0 0x0 0x0,
  row "SEQ.HAZ_LOC" 1 0x1000084 2 0x800000 1 0x0 0x0 0x0 0x80000000 0x0 0x0]

def regRows1 : List RegRow := [
  row "SEQ.HAZ_COUNT" 0 0x1000088 2 0x800000 1 0x0 0x0 0x0 0x0 0x0 0x0,
  row "SEQ.CREDIT_OBS" 0 0x100008C 2 0x800000 1 0x0 0x0 0x0 0x0 0x0 0x0,
  row "EAVE.CTRL" 0 0x2000000 12 0x10000 1 0x0 0xFF05 0x0 0x0 0x2 0xA05,
  row "EAVE.STAT" 0 0x2000004 12 0x10000 1 0x0 0x0 0x0 0x0 0x0 0x0,
  row "EAVE.TRAIN_STAT" 0 0x2000008 12 0x10000 1 0x0 0x0 0x0 0x0 0x0 0x0,
  row "EAVE.LANE_STAT" 0 0x200000C 12 0x10000 1 0x0 0x0 0x0 0x0 0x0 0x0,
  row "EAVE.SIGDET" 0 0x2000010 12 0x10000 1 0x0 0x0 0x0 0x0 0x0 0x0,
  row "EAVE.ERR_LIMIT" 0 0x2000014 12 0x10000 1 0x0 0xFFFF 0x0 0x0 0x0 0x40,
  row "EAVE.CNT" 0 0x2000020 12 0x10000 8 0x4 0x0 0x0 0x0 0x0 0x0,
  row "EAVE.ROLE" 0 0x2000040 12 0x10000 18 0x4 0x0 0x0 0x0 0x0 0x0,
  row "EAVE.TXFFE" 0 0x2000200 12 0x10000 19 0x4 0x0 0x0 0x0 0x0 0x340804,
  row "EAVE.DRIFT" 0 0x2000104 12 0x10000 1 0x0 0x0 0x0 0x0 0x0 0x0,
  row "EAVE.SLEEP_CTRL" 0 0x2000108 12 0x10000 1 0x0 0x3 0x0 0x0 0x0 0x0,
  row "HUB.IMG_STAT" 0 0x80 1 0x0 1 0x0 0x0 0x0 0x0 0x0 0x0,
  row "HUB.IMG_RECV" 0 0x84 1 0x0 1 0x0 0x0 0x0 0x0 0x0 0x0,
  row "HUB.IMG_ID" 0 0x88 1 0x0 1 0x0 0x0 0x0 0x0 0x0 0x0,
  row "HUB.IMG_ID" 1 0x8C 1 0x0 1 0x0 0x0 0x0 0x0 0x0 0x0,
  row "TRUSSCFG.BAY_STAT" 0 0x1400100 2 0x800000 1 0x0 0x0 0x0 0x0 0x0 0x0,
  row "SCRUB.CTRL" 0 0x1500000 2 0x800000 1 0x0 0xF 0x0 0x0 0x10 0x1,
  row "SCRUB.POS" 0 0x1500004 2 0x800000 1 0x0 0x0 0x0 0x0 0x0 0x0,
  row "SCRUB.SWEEPS" 0 0x1500008 2 0x800000 1 0x0 0x0 0x0 0x0 0x0 0x0,
  row "SCRUB.CNT" 0 0x1500010 2 0x800000 4 0x4 0x0 0x0 0x0 0x0 0x0,
  row "SCRUB.UE_LOC" 0 0x1500020 2 0x800000 1 0x0 0x0 0x0 0x80000000 0x0 0x0,
  row "SCRUB.BAD_ROW" 0 0x1500040 2 0x800000 16 0x4 0x0 0x0 0x0 0x0 0x0,
  row "TIME.NOW" 0 0x10000 1 0x0 1 0x0 0x0 0x0 0x0 0x0 0x0,
  row "TIME.NOW" 1 0x10004 1 0x0 1 0x0 0x0 0x0 0x0 0x0 0x0,
  row "TIME.NOW" 2 0x10008 1 0x0 1 0x0 0x0 0x0 0x0 0x0 0x0,
  row "TIME.NOW" 3 0x1000C 1 0x0 1 0x0 0x0 0x0 0x0 0x0 0x0,
  row "TIME.STAT" 0 0x10010 1 0x0 1 0x0 0x0 0x0 0x0 0x0 0x0,
  row "TIME.CFG" 0 0x10014 1 0x0 1 0x0 0x7FFFFF 0x0 0x0 0x800000 0x60201A,
  row "TIME.JUMP_THRESHOLD" 0 0x10018 1 0x0 1 0x0 0xFFFFFFFF 0x0 0x0 0x0 0x3E8,
  row "TIME.UNCERT" 0 0x1001C 1 0x0 1 0x0 0x0 0x0 0x0 0x0 0xFFFFFFFF,
  row "TIME.OFFSET_0" 0 0x10020 1 0x0 1 0x0 0x0 0x0 0x0 0x0 0x0,
  row "TIME.OFFSET_1" 0 0x10024 1 0x0 1 0x0 0x0 0x0 0x0 0x0 0x0,
  row "TIME.UTC_OFFSET" 0 0x10028 1 0x0 1 0x0 0x0 0x0 0x0 0x0 0x0,
  row "TIME.PPS_OUT" 0 0x1002C 1 0x0 1 0x0 0x7FF 0x0 0x0 0x0 0xC8,
  row "TIME.CNT" 0 0x10030 6 0x4 1 0x0 0x0 0x0 0x0 0x0 0x0,
  row "TIME.TICK_PERIOD" 0 0x10050 1 0x0 1 0x0 0x0 0x0 0x0 0x0 0x0,
  row "TIME.TICK_PERIOD" 1 0x10054 1 0x0 1 0x0 0x0 0x0 0x0 0x0 0x0,
  row "TIME.TICK_ERR" 0 0x10058 1 0x0 1 0x0 0x0 0x0 0x0 0x0 0x0]

def regRows2 : List RegRow := [
  row "TE.CTRL" 0 0x10100 32 0x20 1 0x0 0xFFFFFFFF 0x0 0x0 0x0 0x17FE0,
  row "TE.AT" 0 0x10104 32 0x20 1 0x0 0xFFFFFFFF 0x0 0x0 0x0 0x0,
  row "TE.AT" 1 0x10108 32 0x20 1 0x0 0xFFFFFFFF 0x0 0x0 0x0 0x0,
  row "TE.AT" 2 0x1010C 32 0x20 1 0x0 0xFFFFFFFF 0x0 0x0 0x0 0x0,
  row "TE.AT" 3 0x10110 32 0x20 1 0x0 0xFFFF 0x0 0x0 0x0 0x0,
  row "TE.PERIOD" 0 0x10114 32 0x20 1 0x0 0xFFFFFFFF 0x0 0x0 0x0 0x0,
  row "TE.PERIOD" 1 0x10118 32 0x20 1 0x0 0xFFFF 0x0 0x0 0x0 0x0,
  row "TE.STAT" 0 0x1011C 32 0x20 1 0x0 0x0 0x0 0x2 0x0 0x0,
  row "TC.CTRL" 0 0x10800 32 0x20 1 0x0 0x1FFF 0x0 0x0 0x2000 0x1FFA,
  row "TC.STAT" 0 0x10804 32 0x20 1 0x0 0x0 0x0 0x0 0x0 0x0,
  row "TC.RECORD" 0 0x10810 32 0x20 1 0x0 0x0 0x0 0x0 0x0 0x0,
  row "TC.RECORD" 1 0x10814 32 0x20 1 0x0 0x0 0x0 0x0 0x0 0x0,
  row "TC.RECORD" 2 0x10818 32 0x20 1 0x0 0x0 0x0 0x0 0x0 0x0,
  row "TC.RECORD" 3 0x1081C 32 0x20 1 0x0 0x0 0x0 0x0 0x0 0x0,
  row "CALLS.CTRL" 0 0x20000 1 0x0 1 0x0 0x1FF 0x0 0x0 0x200 0x8,
  row "CALLS.STAT" 0 0x20004 1 0x0 1 0x0 0x0 0x0 0x0 0x0 0x0,
  row "CALLS.CANCEL" 0 0x20008 1 0x0 1 0x0 0x0 0x0 0x0 0xFFFF 0x0,
  row "CALLS.CANCEL_STAT" 0 0x2000C 1 0x0 1 0x0 0x0 0x0 0x0 0x0 0x0,
  row "CALLS.CNT" 0 0x20010 8 0x4 1 0x0 0x0 0x0 0x0 0x0 0x0,
  row "CALLS.PORT_CFG" 0 0x20100 64 0x10 1 0x0 0x0 0x1FFFFFF 0x0 0x0 0x1000000,
  row "CALLS.PORT_DEP_MASK" 0 0x20104 64 0x10 1 0x0 0x0 0xFFFFFFFF 0x0 0x0 0x0,
  row "CALLS.PORT_DEP_MASK" 1 0x20108 64 0x10 1 0x0 0x0 0xFFFFFFFF 0x0 0x0 0x0,
  row "CALLS.PORT_STAT" 0 0x2010C 64 0x10 1 0x0 0x0 0x0 0x0 0x0 0x0,
  row "CALLS.CLASS_WORKERS" 0 0x20800 256 0x8 1 0x0 0xFFFFFFFF 0x0 0x0 0x0 0x0,
  row "CALLS.CLASS_MISC" 0 0x20804 256 0x8 1 0x0 0x1 0x0 0x0 0x0 0x7E,
  row "CALLS.WQ_CTRL" 0 0x21000 32 0x40 1 0x0 0xFFFF 0x0 0x0 0x0 0x4400,
  row "CALLS.WQ_DISP_BASE" 0 0x21008 32 0x40 1 0x0 0xFFFFFFC0 0x0 0x0 0x0 0x0,
  row "CALLS.WQ_DISP_BASE" 1 0x2100C 32 0x40 1 0x0 0xFFFFFFFF 0x0 0x0 0x0 0x0,
  row "CALLS.WQ_COMP_BASE" 0 0x21010 32 0x40 1 0x0 0xFFFFFFC0 0x0 0x0 0x0 0x0,
  row "CALLS.WQ_COMP_BASE" 1 0x21014 32 0x40 1 0x0 0xFFFFFFFF 0x0 0x0 0x0 0x0,
  row "CALLS.WQ_DISP_TAIL" 0 0x21018 32 0x40 1 0x0 0x0 0x0 0x0 0x0 0x0,
  row "CALLS.WQ_DISP_HEAD" 0 0x2101C 32 0x40 1 0x0 0x1FFF 0x0 0x0 0x0 0x0,
  row "CALLS.WQ_COMP_TAIL" 0 0x21020 32 0x40 1 0x0 0x1FFF 0x0 0x0 0x0 0x0,
  row "CALLS.WQ_COMP_HEAD" 0 0x21024 32 0x40 1 0x0 0x0 0x0 0x0 0x0 0x0,
  row "CALLS.WQ_STAT" 0 0x21028 32 0x40 1 0x0 0x0 0x0 0x0 0x0 0x0,
  row "PROBE.CTRL" 0 0x30000 1 0x0 1 0x0 0x1 0x0 0x0 0x2 0x0,
  row "PROBE.GROUP_EN" 0 0x30010 1 0x0 1 0x0 0xFFFFFFFF 0x0 0x0 0x0 0x0,
  row "PROBE.GROUP_EN" 1 0x30014 1 0x0 1 0x0 0xFFFFFFFF 0x0 0x0 0x0 0x0,
  row "PROBE.GROUP_EN" 2 0x30018 1 0x0 1 0x0 0xFFFFFFFF 0x0 0x0 0x0 0x0,
  row "PROBE.GROUP_EN" 3 0x3001C 1 0x0 1 0x0 0xFFFFFFFF 0x0 0x0 0x0 0x0]

def regRows3 : List RegRow := [
  row "PROBE.GROUP_EN" 4 0x30020 1 0x0 1 0x0 0xFFFFFFFF 0x0 0x0 0x0 0x0,
  row "PROBE.GROUP_EN" 5 0x30024 1 0x0 1 0x0 0xFFFFFFFF 0x0 0x0 0x0 0x0,
  row "PROBE.GROUP_EN" 6 0x30028 1 0x0 1 0x0 0xFFFFFFFF 0x0 0x0 0x0 0x0,
  row "PROBE.GROUP_EN" 7 0x3002C 1 0x0 1 0x0 0xFFFFFFFF 0x0 0x0 0x0 0x0,
  row "PROBE.CNT" 0 0x30040 4 0x4 1 0x0 0x0 0x0 0x0 0x0 0x0,
  row "PROBE.PAT_CFG" 0 0x30100 16 0x20 1 0x0 0x1FF 0x0 0x0 0x0 0x0,
  row "PROBE.PAT_MASK" 0 0x30108 16 0x20 1 0x0 0xFFFFFFFF 0x0 0x0 0x0 0x0,
  row "PROBE.PAT_MASK" 1 0x3010C 16 0x20 1 0x0 0xFFFFFFFF 0x0 0x0 0x0 0x0,
  row "PROBE.PAT_VALUE" 0 0x30110 16 0x20 1 0x0 0xFFFFFFFF 0x0 0x0 0x0 0x0,
  row "PROBE.PAT_VALUE" 1 0x30114 16 0x20 1 0x0 0xFFFFFFFF 0x0 0x0 0x0 0x0,
  row "PROBE.THR_CFG" 0 0x30300 8 0x10 1 0x0 0x7F 0x0 0x0 0x0 0x20,
  row "PROBE.THR_LEVEL" 0 0x30304 8 0x10 1 0x0 0xFFFF 0x0 0x0 0x0 0x0,
  row "PROBE.WCH_CFG" 0 0x30400 32 0x10 1 0x0 0x7 0x0 0x0 0x0 0x0,
  row "PROBE.WCH_DECIM" 0 0x30404 32 0x10 1 0x0 0xFFFF 0x0 0x0 0x0 0x0,
  row "PROBE.WCH_LAST" 0 0x30408 32 0x10 1 0x0 0x0 0x0 0x0 0x0 0x0,
  row "PROBE.WCH_SEQ" 0 0x3040C 32 0x10 1 0x0 0x0 0x0 0x0 0x0 0x0,
  row "PROBE.SLOT_COND" 0 0x30800 16 0x20 4 0x8 0xFFFFFF 0x0 0x0 0x0 0x4000,
  row "PROBE.SLOT_ACTION" 0 0x30804 16 0x20 4 0x8 0x7FFFFF 0x0 0x0 0x0 0x0,
  row "PROBE.CNT_VALUE" 0 0x30A00 4 0x10 1 0x0 0x0 0x0 0x0 0x0 0x0,
  row "PROBE.CNT_VALUE" 1 0x30A04 4 0x10 1 0x0 0x0 0x0 0x0 0x0 0x0,
  row "PROBE.CNT_LIMIT" 0 0x30A08 4 0x10 1 0x0 0xFFFFFFFF 0x0 0x0 0x0 0x0,
  row "PROBE.CNT_LIMIT" 1 0x30A0C 4 0x10 1 0x0 0xFFFF 0x0 0x0 0x0 0x0,
  row "PROBE.TMR_VALUE" 0 0x30A40 4 0x10 1 0x0 0x0 0x0 0x0 0x0 0x0,
  row "PROBE.TMR_VALUE" 1 0x30A44 4 0x10 1 0x0 0x0 0x0 0x0 0x0 0x0,
  row "PROBE.TMR_LIMIT" 0 0x30A48 4 0x10 1 0x0 0xFFFFFFFF 0x0 0x0 0x0 0x0,
  row "PROBE.TMR_LIMIT" 1 0x30A4C 4 0x10 1 0x0 0xFFFF 0x0 0x0 0x0 0x0,
  row "ACQ.CTRL" 0 0x30C00 1 0x0 1 0x0 0x0 0x0 0x0 0x400 0x0,
  row "ACQ.BASE" 0 0x30C08 1 0x0 1 0x0 0x0 0x0 0x0 0x0 0x0,
  row "ACQ.BASE" 1 0x30C0C 1 0x0 1 0x0 0x0 0x0 0x0 0x0 0x0,
  row "ACQ.SIZE" 0 0x30C10 1 0x0 1 0x0 0x0 0x0 0x0 0x0 0x0,
  row "ACQ.PRE" 0 0x30C14 1 0x0 1 0x0 0x0 0x0 0x0 0x0 0x0,
  row "ACQ.POST" 0 0x30C18 1 0x0 1 0x0 0x0 0x0 0x0 0x0 0x0,
  row "ACQ.AUTO_TIMEOUT" 0 0x30C1C 1 0x0 1 0x0 0xFFFFFFFF 0x0 0x0 0x0 0x30D400,
  row "ACQ.DOMAIN" 0 0x30C20 1 0x0 1 0x0 0x0 0x0 0x0 0x0 0x1,
  row "ACQ.STAT" 0 0x30C24 1 0x0 1 0x0 0x0 0x0 0x0 0x0 0x0,
  row "ACQ.PRE_DEPTH" 0 0x30C28 1 0x0 1 0x0 0x0 0x0 0x0 0x0 0x0,
  row "ACQ.DEAD" 0 0x30C2C 1 0x0 1 0x0 0x0 0x0 0x0 0x0 0x0,
  row "ACQ.TRIG_FRAME" 0 0x30C30 1 0x0 1 0x0 0x0 0x0 0x0 0x0 0x0,
  row "ACQ.TRIG_FRAME" 1 0x30C34 1 0x0 1 0x0 0x0 0x0 0x0 0x0 0x0,
  row "ACQ.TRIG_POINT" 0 0x30C38 1 0x0 1 0x0 0x0 0x0 0x0 0x0 0x0]

def regRows4 : List RegRow := [
  row "ACQ.TRIG_POINT" 1 0x30C3C 1 0x0 1 0x0 0x0 0x0 0x0 0x0 0x0,
  row "TRACE.CTRL" 0 0x40000 1 0x0 1 0x0 0x3F 0x0 0x0 0xC0 0x3E,
  row "TRACE.SINK" 0 0x40004 1 0x0 1 0x0 0x3 0x0 0x0 0x0 0x0,
  row "TRACE.BASE" 0 0x40008 1 0x0 1 0x0 0xFFFFFFF0 0x0 0x0 0x0 0x0,
  row "TRACE.BASE" 1 0x4000C 1 0x0 1 0x0 0xFFFFFFFF 0x0 0x0 0x0 0x0,
  row "TRACE.SIZE" 0 0x40010 1 0x0 1 0x0 0xFFFFFFFF 0x0 0x0 0x0 0x1000000,
  row "TRACE.WR_INDEX" 0 0x40014 1 0x0 1 0x0 0x0 0x0 0x0 0x0 0x0,
  row "TRACE.RD_INDEX" 0 0x40018 1 0x0 1 0x0 0xFFFFFFFF 0x0 0x0 0x0 0x0,
  row "TRACE.STAT" 0 0x4001C 1 0x0 1 0x0 0x0 0x0 0x0 0x0 0x0,
  row "TRACE.CNT" 0 0x40020 7 0x4 1 0x0 0x0 0x0 0x0 0x0 0x0,
  row "HUB.SNAP_STAT" 0 0x200 1 0x0 1 0x0 0x0 0x0 0x0 0x0 0x0,
  row "HUB.SNAP_LEFT" 0 0x204 2 0x4 1 0x0 0x0 0x0 0x0 0x0 0x0,
  row "HUB.SNAP_CNT" 0 0x20C 1 0x0 1 0x0 0x0 0x0 0x0 0x0 0x0,
  row "HUB.SNAP_SLOT_CFG" 0 0x240 16 0x10 1 0x0 0x0 0x0 0x0 0x0 0x0,
  row "HUB.SNAP_SLOT_ID" 0 0x244 16 0x10 1 0x0 0x0 0x0 0x0 0x0 0x0,
  row "HUB.SNAP_SLOT_FRAME" 0 0x248 16 0x10 1 0x0 0x0 0x0 0x0 0x0 0x0,
  row "HUB.SNAP_SLOT_FRAME" 1 0x24C 16 0x10 1 0x0 0x0 0x0 0x0 0x0 0x0,
  row "POWER.STATE" 0 0x50000 1 0x0 1 0x0 0x0 0x0 0x0 0x0 0x0,
  row "POWER.TIMER_CTRL" 0 0x50004 1 0x0 1 0x0 0xF 0x0 0x0 0x0 0x7,
  row "POWER.IDLE_TIMEOUT" 0 0x50008 1 0x0 1 0x0 0xFFFFFFFF 0x0 0x0 0x0 0x32,
  row "POWER.DOZE_TIMEOUT" 0 0x5000C 1 0x0 1 0x0 0xFFFFFFFF 0x0 0x0 0x0 0x1388,
  row "POWER.SLEEP_TIMEOUT" 0 0x50010 1 0x0 1 0x0 0xFFFFFFFF 0x0 0x0 0x0 0x12C,
  row "POWER.WAKE_EN" 0 0x50014 1 0x0 1 0x0 0xFFFF 0x0 0x0 0x0 0xFFFF,
  row "POWER.WAKE_LEAD" 0 0x50018 1 0x0 1 0x0 0xFFFF 0x0 0x0 0x0 0x190,
  row "POWER.CNT" 0 0x5001C 1 0x0 1 0x0 0x0 0x0 0x0 0x0 0x0,
  row "POWER.AON_STAT_0" 0 0x50020 1 0x0 1 0x0 0x0 0x0 0x0 0x0 0x0,
  row "POWER.AON_STAT_1" 0 0x50024 1 0x0 1 0x0 0x0 0x0 0x0 0x0 0x0,
  row "POWER.PAD_STAT" 0 0x50028 1 0x0 1 0x0 0x0 0x0 0x0 0x0 0x0,
  row "FAULT.GRP_STAT" 0 0x60000 72 0x4 1 0x0 0x0 0x0 0xFFFF 0x0 0x0,
  row "FAULT.GRP_MASK" 0 0x60200 72 0x4 1 0x0 0xFFFF 0x0 0x0 0x0 0x0,
  row "FAULT.ESC" 0 0x60400 72 0x4 1 0x0 0xFFFFFFFF 0x0 0x0 0x0 0x0,
  row "FAULT.SUMMARY" 0 0x60600 1 0x0 1 0x0 0x0 0x0 0x0 0x0 0x0,
  row "FAULT.IRQ" 0 0x60604 1 0x0 1 0x0 0x7F 0x0 0x0 0x0 0x41,
  row "FAULT.LOG_STAT" 0 0x60608 1 0x0 1 0x0 0x0 0x0 0x0 0x0 0x0,
  row "FAULT.POISON" 0 0x6060C 1 0x0 1 0x0 0x0 0x0 0x0 0x0 0x0,
  row "FAULT.POISON" 1 0x60610 1 0x0 1 0x0 0x0 0x0 0x0 0x0 0x0,
  row "FAULT.POISON_STAT" 0 0x60614 1 0x0 1 0x0 0x0 0x0 0x80000000 0x0 0x0,
  row "FAULT.MEMBER" 0 0x60618 1 0x0 1 0x0 0x0 0x0 0x0 0x0 0x0,
  row "FAULT.MEMBER" 1 0x6061C 1 0x0 1 0x0 0x0 0x0 0x0 0x0 0x0,
  row "FAULT.LOG" 0 0x60800 32 0x10 1 0x0 0x0 0x0 0x8000 0x0 0x0]

def regRows5 : List RegRow := [
  row "FAULT.LOG" 1 0x60804 32 0x10 1 0x0 0x0 0x0 0x0 0x0 0x0,
  row "FAULT.LOG" 2 0x60808 32 0x10 1 0x0 0x0 0x0 0x0 0x0 0x0,
  row "FAULT.LOG" 3 0x6080C 32 0x10 1 0x0 0x0 0x0 0x0 0x0 0x0,
  row "HOSTIF.MBX_CFG" 0 0x70000 8 0x4 1 0x0 0x7F 0x0 0x0 0x0 0x40,
  row "HOSTIF.BAR2_MAP" 0 0x70040 4 0x8 1 0x0 0x0 0x0 0x0 0x0 0x0,
  row "HOSTIF.BAR2_MAP" 1 0x70044 4 0x8 1 0x0 0x0 0x0 0x0 0x0 0x0,
  row "HOSTIF.BAR2_ERR" 0 0x70060 1 0x0 1 0x0 0x0 0x0 0x0 0x0 0x0,
  row "HOSTIF.BAR2_ERR" 1 0x70064 1 0x0 1 0x0 0x0 0x0 0x80000000 0x0 0x0,
  row "HOSTIF.BAR2_ERR_CNT" 0 0x70068 1 0x0 1 0x0 0xFFFFFFFF 0x0 0x0 0x0 0x0,
  row "HOSTIF.MBX_CNT" 0 0x70070 1 0x0 1 0x0 0xFFFFFFFF 0x0 0x0 0x0 0x0,
  row "HOSTIF.TOPO" 0 0x70080 1 0x0 1 0x0 0x0 0x0 0x0 0x0 0x0,
  row "HOSTIF.KNOWN" 0 0x70088 1 0x0 1 0x0 0x0 0x0 0x0 0x0 0x0,
  row "HOSTIF.KNOWN" 1 0x7008C 1 0x0 1 0x0 0x0 0x0 0x0 0x0 0x0,
  row "HOSTIF.SCR_OWNER" 0 0x70100 16 0x4 1 0x0 0x7 0x0 0x0 0x0 0x22,
  row "HOSTIF.SCR_TEST" 0 0x70140 1 0x0 1 0x0 0xFFFFFFFF 0x0 0x0 0x0 0x6407D1,
  row "HOSTIF.SCR_STAT" 0 0x70144 1 0x0 1 0x0 0x0 0x0 0x0 0x0 0x0,
  row "HUB.FW_STAT" 0 0x380 1 0x0 1 0x0 0x0 0x0 0x0 0x0 0x0,
  row "HUB.ACCESS_STAT" 0 0x384 1 0x0 1 0x0 0x0 0x0 0x0 0x0 0x0,
  row "MPDBG.ACCESS_KEY" 0 0x90100 8 0x4 1 0x0 0x0 0x0 0x0 0xFFFFFFFF 0x0,
  row "USERIO.BANK_CFG" 0 0x80000 16 0x4 1 0x0 0x1F 0x0 0x0 0x0 0x14,
  row "USERIO.DIR" 0 0x80040 16 0x4 1 0x0 0xFFFFFFFF 0x0 0x0 0x0 0x0,
  row "USERIO.OUT" 0 0x80080 16 0x4 1 0x0 0x0 0x0 0x0 0x0 0x0,
  row "USERIO.IN" 0 0x800C0 16 0x4 1 0x0 0x0 0x0 0x0 0x0 0x0,
  row "USERIO.DELAY_CAL" 0 0x80100 1 0x0 1 0x0 0x0 0x0 0x0 0x0 0x1324,
  row "USERIO.WCH_STAT" 0 0x80104 1 0x0 1 0x0 0x0 0x0 0x0 0x0 0x0,
  row "USERIO.DELAY" 0 0x80400 512 0x4 1 0x0 0x3FF 0x0 0x0 0x0 0x0,
  row "HUB.SENSE" 0 0x400 1 0x0 1 0x0 0x0 0x0 0x0 0x0 0x0,
  row "HUB.SENSE" 1 0x404 1 0x0 1 0x0 0x0 0x0 0x0 0x0 0x0]

/-- Every register word of the module (Tables 1.4 to 20.6). The read-only copies of a loaded frame plan (R154) are
views of `Hw.view` and have no row. -/
def regRows : List RegRow :=
  regRows0 ++ regRows1 ++ regRows2 ++ regRows3 ++ regRows4 ++ regRows5

/-- Whether address `a` is an instance of row `r`. -/
def RegRow.covers (r : RegRow) (a : Nat) : Bool :=
  let i := if r.n1 ≤ 1 then 0 else (a - r.addr) / r.s1
  let b := r.addr + i * r.s1
  decide (r.addr ≤ a) && decide (i < r.n1) &&
    (if r.n2 ≤ 1 then a == b else decide (a < b + r.n2 * r.s2) && (a - b) % r.s2 == 0)

/-- The row that holds an address. -/
def regRowAt (a : Nat) : Option RegRow := regRows.find? fun r => r.covers a

end Sys2Proof.Machine
end

