-- ==== Sys2Proof/Machine/Store.lean ====
section
/-!
DEFINITION. Sparse memories in one canonical form: keys strictly rising, and no entry equal to what an unlisted key
reads as, so that equal memories are equal lists.
-/

namespace Sys2Proof.Machine

/-- What key `a` holds, `d` being what an unlisted key reads as. -/
def Store.get {α : Type} (d : α) : Store α → Nat → α
  | [], _ => d
  | (k, v) :: m, a => if a = k then v else Store.get d m a

/-- Key `a` no longer listed. -/
def Store.erase {α : Type} : Store α → Nat → Store α
  | [], _ => []
  | (k, v) :: m, a => if a = k then Store.erase m a else (k, v) :: Store.erase m a

/-- Key `a` listed with `v`, in its place. -/
def Store.put {α : Type} : Store α → Nat → α → Store α
  | [], a, v => [(a, v)]
  | (k, w) :: m, a, v =>
    if a = k then (k, v) :: m
    else if a < k then (a, v) :: (k, w) :: m
    else (k, w) :: Store.put m a v

/-- Key `a` set to `v`; setting the value an unlisted key reads as removes the entry. -/
def Store.set {α : Type} [DecidableEq α] (d : α) (m : Store α) (a : Nat) (v : α) : Store α :=
  if v = d then Store.erase m a else Store.put m a v

/-- Key `a` changed by `f`. -/
def Store.modify {α : Type} [DecidableEq α] (d : α) (m : Store α) (a : Nat) (f : α → α) : Store α :=
  Store.set d m a (f (Store.get d m a))

/-- Several keys set in turn. -/
def Store.setAll {α : Type} [DecidableEq α] (d : α) (m : Store α) (kvs : List (Nat × α)) : Store α :=
  kvs.foldl (fun m kv => Store.set d m kv.1 kv.2) m

/-- The entries whose key satisfies `p`; every other key reads the default again. -/
def Store.keep {α : Type} (p : Nat → Bool) (m : Store α) : Store α := m.filter fun kv => p kv.1

/-- Keys strictly rising. -/
def Store.rising {α : Type} : Store α → Bool
  | [] => true
  | [_] => true
  | (a, _) :: (b, y) :: m => decide (a < b) && Store.rising ((b, y) :: m)

/-- The canonical form where key k unlisted reads as `d k`. -/
def Store.wfBy {α : Type} [DecidableEq α] (d : Nat → α) (m : Store α) : Bool :=
  Store.rising m && m.all fun kv => decide (kv.2 ≠ d kv.1)

/-- The canonical form. -/
def Store.wf {α : Type} [DecidableEq α] (d : α) (m : Store α) : Bool := Store.wfBy (fun _ => d) m

end Sys2Proof.Machine
end

