-- ==== Sys2Proof/Machine/Ops.lean ====
section
/-!
DEFINITION. The named operations over the state: registers and their fields (R5 to R10), the stored memories, trusses,
banks and queues, configuration symbols (R127), events on their way to the FAULT block (R409) and poisoned frames
(R423).
-/

namespace Sys2Proof.Machine

/-! ## Register addresses -/

/-- Base of the register blocks of array die d (R12). -/
def dieBase (d : Nat) : Nat := 0x01000000 + d * 0x00800000
def seqA (d o : Nat) : Nat := dieBase d + o
def bankA (d o : Nat) : Nat := dieBase d + 0x00100000 + o
def farA (d o : Nat) : Nat := dieBase d + 0x00200000 + o
def bridgeA (d o : Nat) : Nat := dieBase d + 0x00300000 + o
def trussA (d o : Nat) : Nat := dieBase d + 0x00400000 + o
def scrubA (d o : Nat) : Nat := dieBase d + 0x00500000 + o
def eaveA (p o : Nat) : Nat := 0x02000000 + p * 0x00010000 + o
def timeA (o : Nat) : Nat := 0x00010000 + o
def callsA (o : Nat) : Nat := 0x00020000 + o
def probeA (o : Nat) : Nat := 0x00030000 + o
def traceA (o : Nat) : Nat := 0x00040000 + o
def powerA (o : Nat) : Nat := 0x00050000 + o
def faultA (o : Nat) : Nat := 0x00060000 + o
def hostifA (o : Nat) : Nat := 0x00070000 + o
def userioA (o : Nat) : Nat := 0x00080000 + o

/-! ## Registers -/

/-- Native latencies of a stepping: bridge, bank, masked bank write, far memory (R106, R163, R181). -/
def nativeLat : Stepping → Nat × Nat × Nat × Nat
  | .a1 => (9, 12, 16, 160)
  | .b0 => (7, 10, 14, 140)

/-- Reset value of a register word (R10), with the values that depend on the stepping or the instance. -/
def regReset (st : Stepping) (a : Nat) : Word32 :=
  let (lb, lm, lw, lf) := nativeLat st
  if a = bridgeA 0 0 ∨ a = bridgeA 1 0 then BitVec.ofNat 32 (lb + 256 * lb)
  else if a = bankA 0 0x100 ∨ a = bankA 1 0x100 then
    BitVec.ofNat 32 (lm + 2 ^ 8 * lw + 2 ^ 16 * lm + 2 ^ 24 * lw)
  else if a = farA 0 0 ∨ a = farA 1 0 then BitVec.ofNat 32 (lf + 2 ^ 16 * lf)
  else match regRowAt a with
    | none => 0
    | some r =>
      if r.name = "EAVE.ROLE" then BitVec.ofNat 32 ((a % 0x10000 - 0x40) / 4)
      else if r.name = "CALLS.CLASS_MISC" then
        setBit r.reset 0 (decide (0xF0 ≤ (a - callsA 0x804) / 8 ∧ (a - callsA 0x804) / 8 ≤ 0xF3))
      else if r.name = "HOSTIF.SCR_OWNER" then setBit r.reset 7 (decide (a < hostifA 0x108))
      else if r.name = "FAULT.ESC" then escReset ((a - faultA 0x400) / 4)
      else r.reset

/-- The stored value of a register word. -/
def Hw.reg (h : Hw) (a : Nat) : Word32 := Store.get (regReset h.stepping a) h.regs a

/-- Store a register word whatever its access codes: what the hardware itself does. -/
def Hw.setReg (h : Hw) (a : Nat) (v : Word32) : Hw :=
  { h with regs := Store.set (regReset h.stepping a) h.regs a v }

/-- Field [hi:lo] of a register of one word. -/
def Hw.fget (h : Hw) (a hi lo : Nat) : Nat := fld (h.reg a) hi lo

/-- Bit n of a register. -/
def Hw.bget (h : Hw) (a n : Nat) : Bool := bit (h.reg a) n

/-- Set field [hi:lo] of a register. -/
def Hw.fset (h : Hw) (a hi lo v : Nat) : Hw := h.setReg a (setFld (h.reg a) hi lo v)

/-- Two words of a register, low word first (R5). -/
def Hw.reg64 (h : Hw) (a : Nat) : Word64 := h.reg (a + 4) ++ h.reg a

def Hw.setReg64 (h : Hw) (a : Nat) (v : Word64) : Hw :=
  (h.setReg a (v.extractLsb' 0 32)).setReg (a + 4) (v.extractLsb' 32 32)

/-- Add one to the counter in field [hi:lo], which saturates at its largest value. -/
def Hw.bump (h : Hw) (a hi lo : Nat) (n : Nat := 1) : Hw :=
  h.fset a hi lo (satAdd (2 ^ (hi + 1 - lo) - 1) (h.fget a hi lo) n)

/-- Counter of a whole word. -/
def Hw.count (h : Hw) (a : Nat) : Hw := h.bump a 31 0

/-- Set several words to zero. -/
def Hw.clearRegs (h : Hw) (as : List Nat) : Hw := as.foldl (fun h a => h.setReg a 0) h

/-! ## Memories -/

def Hw.row (h : Hw) (t r : Nat) : Row := Store.get nopRow h.rows (t * 2048 + r)
def Hw.setRow (h : Hw) (t r : Nat) (v : Row) : Hw := { h with rows := Store.set nopRow h.rows (t * 2048 + r) v }
def Hw.bundle (h : Hw) (t e : Nat) : Bundle := Store.get 0 h.bundles (t * 256 + e)

/-- A bundle entry is written, and its support mask is computed (R43). -/
def Hw.setBundle (h : Hw) (t e : Nat) (v : Bundle) : Hw :=
  { h with bundles := Store.set 0 h.bundles (t * 256 + e) v
           support := Store.set 0 h.support (t * 256 + e) (supportMask (v.setWidth 32)) }

/-- Support mask of a bundle entry (R43). -/
def Hw.supportOf (h : Hw) (t e : Nat) : BitVec 5 := Store.get 0 h.support (t * 256 + e)

def Hw.loft (h : Hw) (t a : Nat) : Word78 := Store.get 0 h.lofts (t * 2048 + a)
def Hw.setLoft (h : Hw) (t a : Nat) (v : Word78) : Hw := { h with lofts := Store.set 0 h.lofts (t * 2048 + a) v }
def Hw.bankWord (h : Hw) (b a : Nat) : Word78 := Store.get 0 h.bankMem (b * 32768 + a)
def Hw.bankWritten (h : Hw) (b a : Nat) : Bool := Store.get false h.bankValid (b * 32768 + a)

/-- A bank word written with fresh check bits; a write sets the valid bit (R170). -/
def Hw.setBankWord (h : Hw) (b a : Nat) (v : Word64) : Hw :=
  { h with bankMem := Store.set 0 h.bankMem (b * 32768 + a) (decEncode v)
           bankValid := Store.set false h.bankValid (b * 32768 + a) true }

def farKey (d a : Nat) : Nat := d * 2 ^ 33 + a
def lineKey (d a : Nat) : Nat := d * 2 ^ 30 + a / 8
def Hw.farWord (h : Hw) (d a : Nat) : Word78 := Store.get 0 h.farMem (farKey d a)

/-- DESIGN_MIB of die d (R177). -/
def Hw.designMib (h : Hw) (d : Nat) : Nat := h.fget (farA d 8) 15 0

/-- Whether a word address lies in die d's DESIGN region (Table 6.9). -/
def Hw.inDesign (h : Hw) (d a : Nat) : Bool := decide (a < h.designMib d * 2 ^ 17)

/-- Whether a far-memory word has been written: words outside the DESIGN region always count as written (R191). -/
def Hw.farWritten (h : Hw) (d a : Nat) : Bool := !h.inDesign d a || Store.get false h.farValid (lineKey d a)

/-- A far-memory word written with fresh check bits. The first write to an unwritten line of the DESIGN region fills
the line's other words with 0 and sets its valid bit (R192). -/
def Hw.setFarWord (h : Hw) (d a : Nat) (v : Word64) : Hw :=
  let h :=
    if h.farWritten d a then h
    else { h with
      farMem := (List.range 8).foldl (fun m i => Store.set 0 m (farKey d (a / 8 * 8 + i)) 0) h.farMem
      farValid := Store.set false h.farValid (lineKey d a) true }
  { h with farMem := Store.set 0 h.farMem (farKey d a) (decEncode v) }

def Hw.truss (h : Hw) (t : Nat) : Truss := Store.get {} h.trusses t
def Hw.setTruss (h : Hw) (t : Nat) (v : Truss) : Hw := { h with trusses := Store.set {} h.trusses t v }
def Hw.bank (h : Hw) (b : Nat) : Bank := Store.get {} h.banks b
def Hw.setBank (h : Hw) (b : Nat) (v : Bank) : Hw := { h with banks := Store.set {} h.banks b v }
def Hw.qpair (h : Hw) (q : Nat) : QPair := Store.get {} h.qpairs q
def Hw.setQpair (h : Hw) (q : Nat) (v : QPair) : Hw := { h with qpairs := Store.set {} h.qpairs q v }
def Hw.port (h : Hw) (p : Nat) : EavePort := Store.get {} h.ports p
def Hw.setPort (h : Hw) (p : Nat) (v : EavePort) : Hw := { h with ports := Store.set {} h.ports p v }

/-- The Eave port whose recovered clock the course-clock PLL uses when SRC is LINK: PORT 12 to 15 are treated as 0 (Table 1.4). -/
def Hw.clkPort (h : Hw) : Nat := let p := h.fget 0x44 5 2; if p < 12 then p else 0

/-- The course-clock PLL locks to its selected reference (R18): at once, the manual giving no time for it, unless the
reference is the recovered clock of a port that is not ACTIVE, or the PLL moves to another level or has failed to (R149, R151). -/
def Hw.lockPll (h : Hw) : Hw :=
  h.fset 0x44 6 6 (if (h.fget 0x44 1 0 = 2 && (h.port h.clkPort).state != .active) || h.seq.run = .levelChange || h.seq.pllDead
    then 0 else 1)

/-! ## Free values and outputs -/

/-- The next free value, and the state that has used it. -/
def Hw.takeFree (h : Hw) : Word64 × Hw := (Config.freeValue h.free, { h with free := h.free + 1 })

def Hw.emit (h : Hw) (o : Out) : Hw := { h with out := h.out ++ [o] }

/-- What word k of the MSI-X table reads as before it is written: every vector is masked, bit 0 of an entry's fourth word. -/
def msixDefault (k : Nat) : Word32 := if k % 4 = 3 then 1 else 0

def Hw.msixWord (h : Hw) (k : Nat) : Word32 := Store.get (msixDefault k) h.host.msixTable k

/-- Signal an MSI-X vector: the message is sent, or its pending bit is set while Bus Master Enable is 0, the link is down or
the vector is masked (R429). -/
def Hw.msix (h : Hw) (v : Nat) : Hw :=
  if h.bme && h.host.linkUp && !bit (h.msixWord (4 * v + 3)) 0 then h.emit (.msix v)
  else { h with host := { h.host with pba := setBit h.host.pba v true } }

def Hw.markDone (h : Hw) (t : OpTag) : Hw := { h with done := t :: h.done }

/-- The marks of what hardware has set in this course clock outlast whatever else forgets the course's marks (R7). -/
def keepMarks (l : List OpTag) : List OpTag := l.filter fun t => match t with | .w1c _ _ | .cap _ => true | _ => false

/-- Perform `f` once in this course clock when `c` holds. -/
def Hw.once (h : Hw) (t : OpTag) (c : Bool) (f : Hw → Hw) : Hw :=
  if c && !h.done.contains t then (f h).markDone t else h

/-- The sequencer changed by a function. -/
def Hw.updSeq (h : Hw) (f : Seq → Seq) : Hw := { h with seq := f h.seq }

/-- Power state of the module: 0 RUN, 1 IDLE, 2 DOZE, 3 SLEEP, 4 WAKE_FAILED (Table 15.11). -/
def Hw.pstate (h : Hw) : Nat := h.fget (powerA 0) 2 0

/-- The HUB domain is on (Table 1.5). -/
def Hw.hubOn (h : Hw) : Bool := h.power.powered && !h.power.hot && decide (h.pstate < 3)

/-- The routers of the array dies are closed: an access receives POWERED_DOWN (R25, R407). -/
def Hw.diesShut (h : Hw) : Bool := decide (2 ≤ h.pstate)

/-- A port may send and receive: in RUN, and an ACTIVE one in IDLE and DOZE too, whose directions sleep or wake on their own. The
lanes of every other port are then in L-QUIET, and in SLEEP every lane is off (Table 1.5, R252). -/
def Hw.portRuns (h : Hw) (p : Nat) : Bool := h.pstate == 0 || (decide (h.pstate < 3) && (h.port p).state == .active)

/-- Units of time in one course clock of a level (R17). -/
def courseUnits (level : Nat) : Nat :=
  if level = 0 then 61440 else if level = 1 then 81920 else if level = 2 then 122880 else 245760

/-! ## The servo and the AON counter (R290, R296, R303) -/

/-- The rate of advance beyond nominal, in parts per 10^9: the frequency correction, and the slew while it lasts, within
±200 ppm (R290, R296). -/
def Servo.total (s : Servo) : Int := max (-200000) (min 200000 (s.rate + if s.left = 0 then 0 else s.slew))

/-- What remains to be slewed after a course clock of p units: what the rate of advance leaves room for is removed (R290, R296). -/
def Servo.slewed (s : Servo) (p : Nat) : Servo :=
  { s with left := s.left - p * (s.total - max (-200000) (min 200000 s.rate)).natAbs }

/-- Network time that a course clock of p nominal units takes, and the servo after it. -/
def Servo.step (s : Servo) (p : Nat) : Nat × Servo :=
  let n := p * (10 ^ 9 + s.total).toNat + s.frac
  (n / 10 ^ 9, { s.slewed p with frac := n % 10 ^ 9 })

/-- Course clocks from `now` to the edge nearest the grid point g, the earlier of two (R311); at most `fuel`. -/
def Servo.toEdge (p g : Nat) : Nat → Servo → Nat → Nat
  | 0, _, _ => 0
  | fuel + 1, s, now =>
    let (n, s) := s.step p
    if 2 * g ≤ 2 * now + n then 0 else Servo.toEdge p g fuel s (now + n) + 1

/-- The course clock comes from the oscillator, so that network time advances by the servo's rate (R18, R312). -/
def Hw.localClock (h : Hw) : Bool := h.fget 0x44 1 0 == 0 || h.fget 0x44 1 0 == 3

/-- Units of time in one period of the AON counter. -/
def aonUnits : Nat := 6 * 10 ^ 9

/-- The AON counter counts a length of time, in units (R303). -/
def Hw.aonPass (h : Hw) (n : Nat) : Hw :=
  let f := h.time.aonFrac + n
  { h with time := { h.time with aon := (h.time.aon + f / aonUnits) % 2 ^ 48, aonFrac := f % aonUnits } }

/-- Periods that the AON counter has counted since it read c. -/
def Hw.aonSince (h : Hw) (c : Nat) : Nat := (h.time.aon + 2 ^ 48 - c) % 2 ^ 48

/-! ## Run state -/

/-- A start has been sent and waits for its effect clock: the RUN_CTRL symbols that do so, by their operation. -/
def Hw.startSent (h : Hw) (op : Nat → Bool) : Bool :=
  h.seq.run == .held && h.seq.syms.any fun s => s.kind == .runCtrl && op (s.arg % 8)

/-- RUN_START has been accepted, and its RUN_CTRL has not yet taken effect. -/
def Hw.startWaits (h : Hw) : Bool := h.startSent fun n => decide (n ≤ 2)

/-- RUNNING, HALTING or LEVEL_CHANGE: the states in which the configuration's frames count as running (R172, R243), from the
acceptance of the RUN_START on (Table 5.4). -/
def Hw.busy (h : Hw) : Bool :=
  h.seq.run = .running || h.seq.run = .halting || h.seq.run = .levelChange || h.startWaits

/-- Frames run, from the acceptance of the RUN_START on (Table 5.4): not in a LEVEL_CHANGE entered from HELD (R19, R298). -/
def Hw.framesOn (h : Hw) : Bool :=
  h.seq.run = .running || h.seq.run = .halting || h.startWaits ||
    (h.seq.run = .levelChange && (match h.seq.levelChg with | some l => l.fromRunning | none => false))

/-- This course clock belongs to a frame: from a tick to the next, stalls and stretches included (R340). -/
def Hw.frameClock (h : Hw) : Bool := h.seq.inFrame && (h.seq.run = .running || h.seq.run = .halting)

/-- A frame is running in the sense of chapter 16: findings poison it. The gap of a level change belongs to the frame that
begins after it, up to course clock 0 (R149). -/
def Hw.frameRuns (h : Hw) : Bool :=
  ((h.seq.inFrame || h.seq.starting == some 2) && (h.seq.run = .running || h.seq.run = .halting)) ||
    (h.seq.run = .levelChange && (match h.seq.levelChg with | some l => l.fromRunning | none => false))

/-- Send a configuration symbol: it takes effect H course clocks later on every module, the sender included (R127). In EMPTY
and while an image is being applied no symbol is sent (R271, Table 9.7). -/
def Hw.sendSym (h : Hw) (k : SymKind) (arg : Nat) : Hw :=
  if h.seq.run = .empty then h else
  let s : Sym := ⟨k, arg, h.devIndex, h.seq.clk + h.seq.horizon, h.seq.clk⟩
  { h with seq := { h.seq with syms := h.seq.syms ++ [s] }
           ports := h.ports.map fun kv =>
             if h.conf.treePorts.contains kv.1 then (kv.1, { kv.2 with txSyms := kv.2.txSyms ++ [s] }) else kv
           out := h.out ++ [.symbol k arg h.seq.clk] }

/-- Whether halting symbols have an effect (R416). -/
def Hw.canHalt (h : Hw) : Bool := h.busy

def Hw.sendHaltAtEnd (h : Hw) (reason : Nat) : Hw := if h.canHalt then h.sendSym .haltAtEnd reason else h
def Hw.sendHaltNow (h : Hw) (reason : Nat) : Hw := if h.canHalt then h.sendSym .haltNow reason else h

/-! ## Events and poisoned frames -/

/-- Raise an event: it sets out on the event path (R409). `detail` is the low word of the capture register that the
raising rule names, else 0 (R425). In SLEEP and WAKE_FAILED the path is off with the HUB (Table 1.5). -/
def Hw.raiseWith (h : Hw) (id : Nat) (detail : Word32) (poison : Bool) : Hw :=
  { h with fault := { h.fault with
      path := if h.pstate < 3 then h.fault.path ++ [⟨id, detail, h.seq.frame, poison, h.seq.ticks⟩] else h.fault.path } }

def Hw.raise (h : Hw) (id : Nat) : Hw := h.raiseWith id 0 false

/-- Poison the frame that runs: FRAME_FAULT is raised and HALT_AT_END with HALT_REASON 3 is sent in the same clock
(R423). Outside a running frame nothing happens (chapter 16, Poisoned frames and halts). -/
def Hw.poison (h : Hw) : Hw :=
  if h.frameRuns then
    (({ h with seq := { h.seq with poisoned := true } } : Hw).raise evFrameFault).sendHaltAtEnd 3
  else h

/-- Raise an event whose rule poisons the frame. -/
def Hw.raisePoison (h : Hw) (id : Nat) (detail : Word32 := 0) : Hw :=
  (h.raiseWith id detail h.frameRuns).poison

/-- Capture a location in a register whose bit 31 is VALID, only while VALID is 0. Among findings of one course clock
the one of lowest rank is kept (R69, R210). -/
def Hw.capture32 (h : Hw) (a : Nat) (v : Word32) (rank : Word32 → Nat := fun _ => 0) : Hw :=
  if !h.bget a 31 then (h.setReg a (setBit v 31 true)).markDone (.cap a)
  else if h.done.contains (.cap a) && decide (rank v < rank (h.reg a)) then h.setReg a (setBit v 31 true)
  else h

/-- Capture a location in a two-word register whose bit 63 is VALID. -/
def Hw.capture64 (h : Hw) (a : Nat) (v : Word64) (rank : Word64 → Nat := fun _ => 0) : Hw :=
  if !bit (h.reg64 a) 63 then (h.setReg64 a (setBit v 63 true)).markDone (.cap (a + 4))
  else if h.done.contains (.cap (a + 4)) && decide (rank v < rank (h.reg64 a)) then h.setReg64 a (setBit v 63 true)
  else h

/-! ## W1C bits (R6, R7) -/

/-- Hardware sets W1C bit n of a register. -/
def Hw.setW1c (h : Hw) (a n : Nat) : Hw := (h.setReg a (setBit (h.reg a) n true)).markDone (.w1c a n)

/-- The bits of a register that hardware has set in this course clock: a write in the same clock leaves them set (R7). -/
def Hw.setNow (h : Hw) (a : Nat) : Word32 :=
  ofBits 32 fun n => h.done.contains (.w1c a n) || (n == 31 && h.done.contains (.cap a))

/-- A write clears the W1C bits of `m`, but for those that hardware has set in this course clock (R7). -/
def Hw.clearW1c (h : Hw) (a : Nat) (m : Word32) : Hw := h.setReg a (h.reg a &&& ~~~ (m &&& ~~~ h.setNow a))

/-! ## Hazards (R208 to R210) -/

/-- The location word of SEQ.HAZ_LOC (Table 7.5). -/
def hazLoc (code pos truss : Nat) (bp : Option Nat) (detail : Nat) : Word64 :=
  BitVec.ofNat 64 (code + 2 ^ 4 * (pos % 65536) + 2 ^ 20 * truss + 2 ^ 29 * bp.getD 0 +
    2 ^ 35 * (if bp.isSome then 1 else 0) + 2 ^ 36 * detail)

/-- A hazard found in checked mode: count, capture, raise and send HALT_NOW (R209, R210). Nothing in normal mode. Of two
hazards of one course with the same code, truss and BP, or with BP 0 and with no BP, the first one tested is captured
(DESIGN CHOICE: R210 does not order them; log entry 61). -/
def Hw.hazard (h : Hw) (d code truss : Nat) (bp : Option Nat) (detail : Nat) : Hw :=
  if !h.seq.checked then h else
  let h := h.bump (seqA d 0x88) 15 0
  let h := h.capture64 (seqA d 0x80) (hazLoc code h.seq.pos truss bp detail)
    fun x => fld x 3 0 * 2 ^ 16 + fld x 28 20 * 2 ^ 7 + fld x 34 29
  let h := h.raiseWith (evHazard d) (h.reg (seqA d 0x80)) false
  h.sendHaltNow 6

end Sys2Proof.Machine
end

