-- ==== Sys2Proof/Machine/Route.lean ====
section
/-!
DEFINITION. Where messages go: the links that discovery knows, the paths along them, and a module's own messages as the
fragments that a port sends (R34, R230, R242, R442, R443).
-/

namespace Sys2Proof.Machine

def Hw.eget (h : Hw) (p o hi lo : Nat) : Nat := h.fget (eaveA p o) hi lo
def Hw.eset (h : Hw) (p o hi lo v : Nat) : Hw := h.fset (eaveA p o) hi lo v
def Hw.ecount (h : Hw) (p n : Nat) (k : Nat := 1) : Hw := h.bump (eaveA p (0x20 + 4 * n)) 31 0 k
def Hw.updPort (h : Hw) (p : Nat) (f : EavePort → EavePort) : Hw := h.setPort p (f (h.port p))

/-- The module heads its configuration, or belongs to none (R30, R31). -/
def Hw.isHead (h : Hw) : Bool := !h.conf.formed || h.conf.head == h.devIndex

/-- The module is a member of a configuration (R30). -/
def Hw.isMember (h : Hw) : Bool := h.conf.formed && h.conf.head != h.devIndex

/-- The configuration has more than one module (R136). -/
def Hw.multi (h : Hw) : Bool := h.conf.formed && (h.isMember || h.conf.members != [])

/-! ## Links and paths (R230, R442) -/

/-- Ports of this module that have a partner, as discovery entries. -/
def Hw.ownPorts (h : Hw) : List TopoPort :=
  (List.range 12).filterMap fun p =>
    if h.bget (eaveA p 4) 18 then
      some ⟨h.devIndex, p, some (h.eget p 4 13 8), h.eget p 4 17 14, (h.port p).state == .active, false⟩
    else none

def Hw.allPorts (h : Hw) : List TopoPort := h.ownPorts ++ h.host.topo

/-- The links that leave module d for the modules of `ok`, lowest port first. -/
def linksFrom (ts : List TopoPort) (d : Nat) (ok : Nat → Bool) : List TopoPort :=
  (List.range 12).filterMap fun p => ts.find? fun t => t.device == d && t.port == p && t.active &&
    (match t.partner with | some q => ok q | none => false)

/-- One step of the search for the paths of fewest links: the modules that `front` reaches and that are not yet in the tree,
each by the lowest port number (R442). -/
def growTree (ts : List TopoPort) (ok : Nat → Bool) (front : List Nat) (tree : List TreeLink) (root : Nat) : List TreeLink :=
  front.foldl (fun acc d =>
    (linksFrom ts d ok).foldl (fun acc t =>
      match t.partner with
      | some q =>
        if q == root || acc.any (fun l => l.child == q) then acc else acc ++ [⟨d, t.port, q, t.far⟩]
      | none => acc) acc) tree

/-- The tree of paths of fewest links from a root over ACTIVE links, in at most n steps. -/
def pathTree (ts : List TopoPort) (ok : Nat → Bool) (root : Nat) : Nat → List Nat → List TreeLink → List TreeLink
  | 0, _, tree => tree
  | n + 1, front, tree =>
    let tree' := growTree ts ok front tree root
    pathTree ts ok root n ((tree'.drop tree.length).map (·.child)) tree'

/-- The paths from this module to every module that ACTIVE links reach. -/
def Hw.paths (h : Hw) : List TreeLink := pathTree h.allPorts (fun _ => true) h.devIndex 64 [h.devIndex] []

/-- The links of the path from the root to module d, the last one first. -/
def pathTo (tree : List TreeLink) : Nat → Nat → List TreeLink
  | 0, _ => []
  | n + 1, d => match tree.find? fun l => l.child == d with
    | some l => l :: pathTo tree n l.parent
    | none => []

/-- A link of the tree is ACTIVE. -/
def Hw.linkActive (h : Hw) (l : TreeLink) : Bool :=
  h.allPorts.any fun t => t.device == l.parent && t.port == l.port && t.active && t.partner == some l.child

/-- Every link on the path to a module is ACTIVE: the tree of the configuration for a member of it, else the path of fewest
links (R34, R442, R443). -/
def Hw.pathActive (h : Hw) (d : Nat) : Bool :=
  if h.conf.formed && h.isHead && h.conf.members.contains d then
    let path := pathTo h.conf.links 64 d
    path != [] && path.all h.linkActive
  else (h.paths.any fun l => l.child == d)

/-- Ports of this module on which a message for module d leaves: in a configuration the links of its tree, whether or not a partner
was lost on one since, and towards a module outside it the first link of the path (R34, R242, R442). -/
def Hw.msgPorts (h : Hw) (d : Nat) : List Nat :=
  if h.conf.branches ≠ [] && (h.isMember || h.conf.members.contains d) then h.conf.branches
  else match (pathTo h.paths 64 d).getLast? with
    | some l => [l.port]
    | none => []

/-! ## Messages of this module (R242) -/

/-- The data of a message in fragments of at most 108 bytes. -/
def fragments : Nat → List Byte → List (List Byte)
  | 0, bs => [bs]
  | n + 1, bs => if bs.length ≤ 108 then [bs] else bs.take 108 :: fragments n (bs.drop 108)

/-- The MSG bodies of one message on a channel, FIRST and LAST marked. -/
def msgBodies (dst chan : Nat) (bs : List Byte) : List MsgBody :=
  let fs := fragments bs.length bs
  fs.zipIdx.map fun f => ⟨chan, dst, f.2 == 0, f.2 + 1 == fs.length, f.1⟩

/-- A fragment joins the queue of a port and takes its MSEQ (R242). -/
def Hw.queueMsg (h : Hw) (p : Nat) (b : MsgBody) (own : Option (Nat × Nat)) : Hw :=
  h.updPort p fun pt => { pt with
    unacked := pt.unacked ++ [⟨pt.mseqTx, b, 0, false, own⟩], mseqTx := (pt.mseqTx + 1) % 256 }

/-- Channel of a message: 0 for commands, their ends and the records of calls, 3 for what concerns the configuration. -/
def msgChan : LinkMsg → Nat
  | .command .. | .reply .. | .dispatchRecord .. | .recordRequest .. | .completionRecord .. => 0
  | _ => 3

/-- Channel on which the streams of a command travel (R443). -/
def streamChan (code : Nat) : Nat :=
  if code / 256 = 2 then 1 else if code = 0x0406 ∨ code = 0x0407 then 2 else if code / 256 = 0x0B then 4 else 0

/-- The waiting command that a message belongs to: a command sent to a module, or the form of a configuration (R443). -/
def msgOwner (dst : Nat) : LinkMsg → Option (Nat × Nat)
  | .command _ slot _ _ _ _ => some (slot, dst)
  | .join _ slot _ _ _ _ _ _ _ _ _ => some (slot, dst)
  | _ => none

/-- The fragments of a message: its meaning in bytes, and a stream on the channel of its command. -/
def msgBodiesOf (dst code : Nat) (m : LinkMsg) : List MsgBody :=
  let stream := match m with
    | .command _ _ _ _ _ input => input
    | .reply _ _ _ _ output => output
    | _ => []
  msgBodies dst (msgChan m) (Config.msgBytes m) ++ (if stream.isEmpty then [] else msgBodies dst (streamChan code) stream)

/-- Queue a message on one port. -/
def Hw.sendOn (h : Hw) (p dst code : Nat) (m : LinkMsg) : Hw :=
  (msgBodiesOf dst code m).foldl (fun h b => h.queueMsg p b (msgOwner dst m)) h

/-- Send a message to a module: its fragments wait at the ports that lead there. `code` is the command whose stream it
carries, if it carries one. -/
def Hw.sendMsg (h : Hw) (dst : Nat) (m : LinkMsg) (code : Nat := 0) : Hw :=
  (h.msgPorts dst).foldl (fun h p => h.sendOn p dst code m) (h.emit (.message dst m))

/-! ## The known set (R442) -/

/-- Modules that discovery has found. -/
def Hw.found (h : Hw) : List Nat :=
  h.allPorts.flatMap fun t => t.device :: (match t.partner with | some d => [d] | none => [])

/-- The module heads a formed configuration. -/
def Hw.heads (h : Hw) : Bool := h.conf.formed && h.isHead

/-- The known set, this module excluded: its members when it heads a configuration, else what discovery has found (R442). -/
def Hw.known (h : Hw) : List Nat :=
  let ks := if h.heads then h.conf.members else h.found
  (ks.eraseDups).filter fun d => d != h.devIndex

/-- Discovery is no longer settled when a module has become known since (R442). -/
def Hw.noteKnown (h : Hw) (before : List Nat) : Hw :=
  if h.known.any fun d => !before.contains d then h.fset (hostifA 0x80) 0 0 0 else h

/-! ## Reports of discovery (R442) -/

/-- The report of a port of this module. -/
def Hw.portRecord (h : Hw) (p : Nat) : LinkMsg :=
  let st := (h.port p).state
  .topo h.devIndex p (if h.bget (eaveA p 4) 18 then some (h.eget p 4 13 8) else none) (h.eget p 4 17 14) (st == .active)
    (st == .train || st == .align || st == .calibrate)

/-- Ports that lead to a neighbour. -/
def Hw.activePorts (h : Hw) : List Nat :=
  (List.range 12).filter fun p => (h.port p).state == .active && h.bget (eaveA p 4) 18

/-- Send a message to every neighbour but the one at `except`. -/
def Hw.tellNeighbours (h : Hw) (except : Option Nat) (m : LinkMsg) : Hw :=
  (h.activePorts.filter fun q => some q != except).foldl (fun h q =>
    let d := h.eget q 4 13 8
    (h.emit (.message d m)).sendOn q d 0 m) h

/-- A record of port p has changed: the module reports it. -/
def Hw.reportPort (h : Hw) (p : Nat) : Hw := h.tellNeighbours none (h.portRecord p)

/-- A new neighbour at port p learns every record that the module holds. -/
def Hw.reportAll (h : Hw) (p : Nat) : Hw :=
  let d := h.eget p 4 13 8
  let own := ((List.range 12).filter fun q => h.bget (eaveA q 4) 18).map h.portRecord
  let known := h.host.topo.map fun t => LinkMsg.topo t.device t.port t.partner t.far t.active t.training
  (own ++ known).foldl (fun h m => (h.emit (.message d m)).sendOn p d 0 m) h

end Sys2Proof.Machine
end

