-- ==== Sys2Proof/Machine/Course.lean ====
section
/-!
DEFINITION. What one course presents to a truss: the row the sequencer names, the corrected control word and
instructions, incoming battens and purlins, truss lanes and operands (R37, R45 to R56, R83 to R92, R95 to R105, R273,
R274). Everything here reads the state; nothing changes it.
-/

namespace Sys2Proof.Machine

/-! ## Rows -/

/-- What the present course clock is: a stretch clock that has been inserted (R140), a stall clock while a request whose
position has come is not released (R131, R132), else an executing one. -/
def Hw.kindNow (h : Hw) : ClockKind :=
  if h.seq.stretchNow then .stretch
  else if h.seq.stallReqs.any fun r => !r.released && decide (r.hold ≤ h.seq.pos) then .stall
  else .exec

/-- The course clock executes a position: frames run, and the clock is no stall or stretch clock (R117). -/
def Hw.execClock (h : Hw) : Bool :=
  h.seq.inFrame && (h.seq.run = .running || h.seq.run = .halting) && h.kindNow = .exec

/-- The block of die d that holds a course position, if the die is not in slack there. -/
def Hw.segAt (h : Hw) (d pos : Nat) : Option Seg :=
  (h.seq.path.getD d []).find? fun s => decide (s.pos ≤ pos) && decide (pos < s.pos + s.len)

/-- The row address that die d executes at a position. -/
def Hw.rowAt (h : Hw) (d pos : Nat) : Option Nat := (h.segAt d pos).map fun s => s.row + (pos - s.pos)

/-- The row address that die d executes in this course clock. -/
def Hw.execRow (h : Hw) (d : Nat) : Option Nat := if h.execClock then h.rowAt d h.seq.pos else none

/-- Phase of die-local bay b (R287). -/
def Hw.bayPhase (h : Hw) (d b : Nat) : Nat := h.fget (trussA d 0x100) (2 * b + 1) (2 * b)

/-- Whether truss t of die d lies in an isolated bay (R273). -/
def Hw.isolated (h : Hw) (d t : Nat) : Bool := h.bayPhase d (bayOf t) != 0

/-- Whether a row is marked in SCRUB.BAD_ROW (R283). -/
def Hw.marked (h : Hw) (d t r : Nat) : Bool :=
  (List.range 16).any fun k =>
    let v := h.reg (scrubA d (0x40 + 4 * k))
    bit v 31 && fld v 8 0 == t && fld v 19 9 == r

/-- A course row that no listed entry replaces is the NOP row, whose control word is zero. -/
def Hw.rowListed (h : Hw) (t r : Nat) : Option Row := (h.rows.find? fun kv => kv.1 = t * 2048 + r).map (·.2)

/-! ## Control word and instructions -/

/-- Uncorrectable control segments of a stored row. -/
def badSegs (row : Row) : List Nat := (List.range 9).filter fun s => (rowSegD row s).2 = .bad

/-- The control word that truss t of die d obeys in this course; none when the truss does not execute or its control
word is inert (R54, R273, R283). -/
def Hw.ctl (h : Hw) (d t : Nat) : Option Ctl :=
  match h.execRow d with
  | none => none
  | some r =>
    if h.isolated d t || h.marked d t r then none
    else match h.rowListed (trussIx d t) r with
      | none => some 0
      | some row => if badSegs row = [] then some (rowCtl row).1 else none

/-- The instruction of BP i in this course after correction, and whether it was uncorrectable. A BP of an isolated bay
or of a marked row executes NOP (R54, R273, R283). -/
def Hw.ins (h : Hw) (d t i : Nat) : Option (Ins × Bool) :=
  match h.execRow d with
  | none => none
  | some r =>
    if h.isolated d t || h.marked d t r then some (nopIns, false)
    else match h.rowListed (trussIx d t) r with
      | none => some (nopIns, false)
      | some row =>
        let x := rowIns row i
        some (x.1, x.2 = .bad)

/-! ## Fields of the control word (R81) -/

def laneSel (c : Ctl) (j : Nat) : Nat := fld c (7 * j + 6) (7 * j)
def sbSel (c : Ctl) (m : Nat) : Nat := fld c (152 + 7 * m + 6) (152 + 7 * m)
def purlEn (c : Ctl) (p : Nat) : Bool := bit c (488 + p)
def purlSrc (c : Ctl) (p : Nat) : Nat := fld c (496 + 6 * p + 5) (496 + 6 * p)

inductive LoftOp where
  | none | read | write
deriving DecidableEq, Repr

/-- The loft operation and word address of a control word; a reserved OP or a non-zero reserved bit gives no operation
(Tables 3.10 and 3.17). -/
def loftField (c : Ctl) : LoftOp × Nat :=
  let a := fld c 122 112
  if fld c 127 125 ≠ 0 then (.none, a)
  else if fld c 124 123 = 1 then (.read, a) else if fld c 124 123 = 2 then (.write, a) else (.none, a)

/-- A port operation: OP, PORT, WORD and LAST (Table 3.11). -/
structure PortOp where
  op : Nat
  port : Nat
  word : Nat
  last : Bool
deriving DecidableEq, Repr

/-- Largest PORT number of an operation (Table 3.13). -/
def portMax (op : Nat) : Nat :=
  if op = 4 then 3 else if op = 5 then 7 else if op = 6 ∨ op = 7 ∨ op = 8 then 31 else 127

/-- Whether the PORT field is a reserved encoding (Table 3.17, row 8). -/
def portReserved (c : Ctl) : Bool :=
  let op := fld c 131 128; let port := fld c 138 132; let word := fld c 140 139; let last := bit c 141
  decide (op ≥ 10) || fld c 151 142 != 0 ||
  (if op = 0 then port != 0 || word != 0 || last
   else decide (port > portMax op) || ((op == 4 || op == 5 || op == 9) && (word != 0 || last)))

/-- The port operation of a control word; none for NONE and for every reserved encoding (R93). -/
def portField (c : Ctl) : Option PortOp :=
  if portReserved c || fld c 131 128 == 0 then none
  else some ⟨fld c 131 128, fld c 138 132, fld c 140 139, bit c 141⟩

/-- The operation that pairs with a SUBOP (Table 3.6). -/
def subopPairs (subop op : Nat) : Bool :=
  (subop == 0 && op == 1) || (subop == 1 && op == 2) || (subop == 2 && (op == 3 || op == 8)) ||
  (subop == 3 && op == 4) || (subop == 4 && op == 5) || (subop == 5 && op == 6) || (subop == 6 && op == 7) ||
  (subop == 7 && op == 9)

/-- Whether a port operation supplies its port (Table 3.12). -/
def opSupplies (op : Nat) : Bool := op == 1 || op == 4 || op == 6 || op == 9

/-- The unit that an operation reaches: 0 far-memory queue, 1 user I/O, 2 call port, 3 probe group. -/
def opUnit (op : Nat) : Nat := if op ≤ 3 then 0 else if op ≤ 5 then 1 else if op ≤ 8 then 2 else 3

/-! ## Slates, battens and purlins -/

/-- BP i's result of age a; 0 when the age reaches before the frame (R37). -/
def Hw.age (h : Hw) (T i a : Nat) : Bool :=
  decide (a ≤ h.seq.pos) && bit ((h.truss T).slate.getD (a - 1) 0) i

/-- Pinned latency L_B of the bridge into die d (R105, R199). -/
def Hw.bridgeLat (h : Hw) (d : Nat) : Nat := h.fget (bridgeA d 0) 12 8

/-- Switch-box output m of a truss as it stood `lat` positions ago in this frame. -/
def Hw.sbPast (h : Hw) (T m lat : Nat) : Bool := bit ((h.truss T).sb.getD (lat - 1) 0) m

/-- The Eave port and slot of an edge batten: side 0 north, 1 east, 2 south, 3 west (Table 4.5). -/
def eaveSlot (d t side j : Nat) : Option (Nat × Nat) :=
  let r := t / 32; let k := t % 32
  if side = 3 ∧ k = 0 then some (6 * d + r / 8, (r % 8) * 12 + j)
  else if side = 1 ∧ k = 31 then some (6 * d + 2 + r / 8, (r % 8) * 12 + j)
  else if d = 0 ∧ side = 0 ∧ r = 0 ∧ j < 6 then some (4 + k / 16, (k % 16) * 6 + j)
  else if d = 1 ∧ side = 2 ∧ r = 15 ∧ j < 6 then some (10 + k / 16, (k % 16) * 6 + j)
  else none

/-- Where incoming batten `side`, j of truss t comes from: the sending truss and its switch-box output, and whether the
die bridge carries it (R98, R105). -/
def battenFrom (d t side j : Nat) : Option (Nat × Nat × Nat × Bool) :=
  let r := t / 32; let k := t % 32
  if side = 0 then
    if r > 0 then some (d, t - 32, 24 + j, false) else if d = 1 then some (0, 480 + k, 24 + j, true) else none
  else if side = 1 then (if k < 31 then some (d, t + 1, 36 + j, false) else none)
  else if side = 2 then
    if r < 15 then some (d, t + 32, j, false) else if d = 0 then some (1, k, j, true) else none
  else (if k > 0 then some (d, t - 1, 12 + j, false) else none)

/-- Key of the flashing cell on incoming batten n of a truss. -/
def battenCell (d t n : Nat) : Nat := trussIx d t * 48 + n
/-- Key of the flashing cell on the transmit side of an Eave slot. -/
def eaveCell (p s : Nat) : Nat := 2 ^ 20 + p * 96 + s
/-- Key of a bay's flashing cell on a purlin segment, named by the segment's first truss in that bay. -/
def purlCell (d t p : Nat) : Nat := 2 ^ 21 + (trussIx d t) * 8 + p

/-- What a flashing cell delivers in place of an isolated bay's contribution (R274). -/
def Hw.cellValue (h : Hw) (cell : Nat) : Bool :=
  match Store.get 0 h.flash cell with
  | 0 => false
  | 1 => true
  | _ => Store.get false h.flashHeld cell

/-- The trusses of the segment of purlin p that truss t reaches, lowest first (Table 4.2). -/
def purlSegment (t p : Nat) : List Nat :=
  let r := t / 32; let k := t % 32
  let lo : Nat → Nat → Nat × Nat := fun x n =>
    if p % 4 < 2 then (8 * (x / 8), 8)
    else if x < 4 then (0, 4) else if x ≥ n - 4 then (n - 4, 4) else (8 * ((x - 4) / 8) + 4, 8)
  if p < 4 then
    let (a, n) := lo k 32
    (List.range n).map fun i => r * 32 + a + i
  else
    let (a, n) := lo r 16
    (List.range n).map fun i => (a + i) * 32 + k

/-- The slot group of a frame and position that the port delivers or still keeps (R235). -/
def EavePort.groupFor (pt : EavePort) (frm pos : Nat) : Option Group :=
  (pt.arrived.toList ++ pt.rxGroups).find? fun g => g.pos == pos && g.frm == frm

/-- What incoming batten n (0 to 47 as select 64 + n) of truss t delivers in this course (R96 to R100, R105, R109). -/
def Hw.inBatten (h : Hw) (d t n : Nat) : Bool :=
  let side := n / 12; let j := n % 12
  match battenFrom d t side j with
  | some (sd, st, m, bridge) =>
    if h.isolated sd st && !(sd == d && bayOf st == bayOf t) then h.cellValue (battenCell d t n)
    else if bridge then
      h.sbPast (trussIx sd st) m (h.bridgeLat d) ^^ bit (Store.get 0 h.bridgeErr d) ((t % 32) * 12 + j)
    else h.sbPast (trussIx sd st) m 1
  | none =>
    match eaveSlot d t side j with
    | none => false
    | some (p, s) =>
      let lx := h.fget (eaveA p 0x100) 8 0
      if h.conf.crossPorts.contains p && (h.port p).state = .active && decide (lx ≤ h.seq.pos) then
        match (h.port p).groupFor (h.seq.frame.toNat % 16) (h.seq.pos - lx) with
        | some g => bit g.bits s
        | none => false
      else false

/-- What purlin p delivers to truss t in this course: the OR of its drivers two courses ago, an isolated bay's
contribution replaced by its cell (R102, R103, R274). -/
def Hw.inPurlin (h : Hw) (d t p : Nat) : Bool :=
  let seg := purlSegment t p
  let heads := seg.filter fun u => h.isolated d u && !(seg.any fun v => decide (v < u) && bayOf v == bayOf u)
  (seg.any fun u => !h.isolated d u && bit ((h.truss (trussIx d u)).purl.getD 1 0) p) ||
  (heads.any fun u => (seg.any fun v => bayOf v != bayOf u) && h.cellValue (purlCell d u p))

/-! ## Lanes, switch box and operands -/

/-- Truss lane j of a control word (Table 2.3, R46, R47). -/
def Hw.lane (h : Hw) (d t : Nat) (c : Ctl) (j : Nat) : Bool :=
  let s := laneSel c j
  if s < 64 then h.age (trussIx d t) s 1
  else if s < 112 then h.inBatten d t (s - 64)
  else if s < 120 then h.inPurlin d t (s - 112)
  else s == 121

/-- An operand selector of BP i (R37, R45); every lane of an inert control word carries 0 (R54). -/
def Hw.operand (h : Hw) (d t i : Nat) (sel : Nat) : Bool :=
  if sel < 112 then h.age (trussIx d t) i (sel + 1)
  else match h.ctl d t with
    | some c => h.lane d t c (sel - 112)
    | none => false

/-- Switch-box output m of this course (R89, R99); an inert control word drives 0 (R54). -/
def Hw.sbOut (h : Hw) (d t m : Nat) : Bool :=
  match h.ctl d t with
  | none => false
  | some c =>
    let s := sbSel c m
    if s < 64 then bit (h.truss (trussIx d t)).outv s
    else if s < 112 then h.inBatten d t (s - 64)
    else if s < 120 then h.inPurlin d t (s - 112)
    else s == 121

/-- The purlins that truss t drives in this course, as enable and value (R90). -/
def Hw.purlDrive (h : Hw) (d t p : Nat) : Bool × Bool :=
  match h.ctl d t with
  | none => (false, false)
  | some c => (purlEn c p, purlEn c p && bit (h.truss (trussIx d t)).outv (purlSrc c p))

/-! ## Instruction fields -/

def insClass (x : Ins) : Nat := fld x 47 46
def insDrive (x : Ins) : Bool := bit x 1
def insTap (x : Ins) : Bool := bit x 0

/-- Operand selectors a to e of an EVAL (Table 3.3). -/
def evalSels (x : Ins) : List Nat := [fld x 37 31, fld x 30 24, fld x 23 17, fld x 16 10, fld x 9 3]

/-- n = e·16 + d·8 + c·4 + b·2 + a (R40). -/
def truthIndex (vs : List Bool) : Nat := vs.foldr (fun b acc => (if b then 1 else 0) + 2 * acc) 0

/-- The function of a bundle entry on five operand values, inverted when inv is 1 (R40). -/
def evalTable (table : Word32) (vs : List Bool) (inv : Bool) : Bool := bit table (truthIndex vs) ^^ inv

/-- Whether BP i takes part in the port operation of its truss's control word (R76). -/
def Hw.takesPart (h : Hw) (d t i : Nat) : Bool :=
  match h.ctl d t, h.ins d t i with
  | some c, some (x, false) =>
    insClass x == 2 && (match portField c with | some o => subopPairs (fld x 45 42) o.op | none => false)
  | _, _ => false

/-- Trusses of die d whose control word names resource n of a unit with a supplying or receiving operation, lowest
first, with the operation (R88). -/
def Hw.portUsers (h : Hw) (d unit n : Nat) (supply : Bool) : List (Nat × PortOp) :=
  (List.range 512).filterMap fun t =>
    match h.ctl d t with
    | some c =>
      match portField c with
      | some o => if opUnit o.op == unit && o.port == n && opSupplies o.op == supply then some (t, o) else none
      | none => none
    | none => none

/-- The port word that the supplying trusses of a resource form: the OR of their words (R77, R88). -/
def Hw.supplyWord (h : Hw) (d : Nat) (users : List (Nat × PortOp)) : Word64 :=
  users.foldl (fun acc u => acc ||| ofBits 64 fun i =>
    h.takesPart d u.1 i && (match h.ins d u.1 i with | some (x, _) => h.operand d u.1 i (fld x 41 35) | none => false)) 0

/-- The bits for which some supplying BP takes part (R87). -/
def Hw.supplyMask (h : Hw) (d : Nat) (users : List (Nat × PortOp)) : Word64 :=
  users.foldl (fun acc u => acc ||| ofBits 64 fun i => h.takesPart d u.1 i) 0

end Sys2Proof.Machine
end

