-- ==== Sys2Proof/Machine/Trace.lean ====
section
/-!
DEFINITION. The sequence trace (chapter 13): packets, the staging buffer with its refusals and gaps, synchronisation,
and the gutter.
-/

namespace Sys2Proof.Machine

/-! ## Time fields (R289, R360) -/

/-- Thirds of 2^-16 ns in one second. -/
def unitsPerSec : Nat := 3 * 2 ^ 16 * 10 ^ 9

/-- Seconds, nanoseconds and 2^-16 ns of a time. -/
def timeParts (t : Nat) : Nat × Nat × Nat :=
  (t / unitsPerSec, t % unitsPerSec / (3 * 2 ^ 16), t / 3 % 2 ^ 16)

/-- The 96-bit time field SEC[47:0], NS, FRAC (R360). -/
def timeField (t : Nat) : Nat :=
  let (s, n, f) := timeParts t
  (s % 2 ^ 48) * 2 ^ 48 + n * 2 ^ 16 + f

/-! ## Packets (Table 13.2) -/

def pkt (type src rest : Nat) : BitVec 128 := BitVec.ofNat 128 (type * 2 ^ 124 + src * 2 ^ 120 + rest)

def Hw.frameLo (h : Hw) : Nat := h.seq.frame.toNat % 65536

/-- Whether trace source s is enabled (R359). -/
def Hw.srcOn (h : Hw) (s : Nat) : Bool := h.bget (traceA 0) 0 && (s == 4 || h.bget (traceA 0) (s + 1))

/-- A source offers a packet. -/
def Hw.offer (h : Hw) (src : Nat) (p : BitVec 128) : Hw :=
  if h.srcOn src then { h with trace := { h.trace with offers := h.trace.offers ++ [⟨src, p⟩] } } else h

/-- The PATH packets of a frame's bit stream (R361). -/
def pathPackets (d frameLo : Nat) (fault : Bool) (bits : List Bool) : List (BitVec 128) :=
  let n := max 1 ((bits.length + 87) / 88)
  (List.range n).map fun i =>
    let bs := (bits.drop (88 * i)).take 88
    let last := i + 1 == n
    pkt 1 d (frameLo * 2 ^ 104 + bs.length * 2 ^ 97 + (if last then 2 ^ 96 else 0) + (i % 128) * 2 ^ 89 +
      (if last && fault then 2 ^ 88 else 0) + truthIndex bs)

/-- The MARK packet of R80. -/
def markPacket (d frameLo code t q : Nat) : BitVec 128 :=
  pkt 2 d (frameLo * 2 ^ 104 + code * 2 ^ 97 + t * 2 ^ 88 + (q % 65536) * 2 ^ 72)

/-- TAG of a CALL packet, or CLOCK of a FLOW packet: course clocks since the last tick, saturating (R362). -/
def Hw.clockTag (h : Hw) : Nat := min h.seq.tagClk 0xFFFFFF

def callPacket (frameLo event status worker port gen slot tag : Nat) : BitVec 128 :=
  pkt 3 2 (frameLo * 2 ^ 104 + event * 2 ^ 101 + status * 2 ^ 99 + worker * 2 ^ 93 + port * 2 ^ 87 + gen * 2 ^ 83 +
    slot * 2 ^ 71 + tag * 2 ^ 47)

/-- A FLOW packet: 0 branch, 1 exception entry, 2 exception return. -/
def flowPacket (frameLo kind clock dest origin : Nat) : BitVec 128 :=
  pkt 4 3 (frameLo * 2 ^ 104 + kind * 2 ^ 100 + clock * 2 ^ 64 + dest * 2 ^ 32 + origin)

def syncPacket (frame : Word64) (reason : Nat) : BitVec 128 := pkt 5 4 (reason * 2 ^ 64 + frame.toNat)

def timePacket (frameLo : Nat) (now : Bool) (t : Nat) : BitVec 128 :=
  pkt 6 4 (frameLo * 2 ^ 104 + (if now then 2 ^ 96 else 0) + timeField t)

def gapPacket (frameLo reason which rest : Nat) : BitVec 128 :=
  pkt 7 4 (frameLo * 2 ^ 104 + reason * 2 ^ 100 + which * 2 ^ 96 + rest)

/-! ## Staging (R367, R368) -/

def Hw.stage (h : Hw) (p : BitVec 128) : Hw :=
  let h := { h with trace := { h.trace with staging := h.trace.staging ++ [p] } }
  let ty := fld p 127 124
  if ty = 7 then h.count (traceA 0x30) else if ty = 5 then h.count (traceA 0x34) else h

/-- A TIME packet: the time of the last tick while frames run, else the present time (R364). -/
def Hw.stageTime (h : Hw) : Hw :=
  h.stage (timePacket h.frameLo (!h.seq.inFrame) (if h.seq.inFrame then h.time.lastTick else h.time.now))

/-- SYNC followed at once by TIME (R363). -/
def Hw.stageSync (h : Hw) (reason : Nat) : Hw := (h.stage (syncPacket h.seq.frame reason)).stageTime

/-- SYNC and TIME when the unit is enabled. -/
def Hw.syncIfOn (h : Hw) (reason : Nat) : Hw := if h.bget (traceA 0) 0 then h.stageSync reason else h

/-- Staging entries below which a source is accepted (R367). -/
def stageLimit (src : Nat) : Nat := if src = 3 then 4096 else if src = 2 then 6144 else if src ≤ 1 then 8128 else 8193

/-- The GAP of a source that has been refused packets, before its next accepted one or an entry to a low-power state, with TRACE_DROP;
the next packet of a sequencer source then has a SYNC before it (R363, R367, R369). -/
def Hw.stageGap (h : Hw) (src : Nat) : Hw :=
  let n := h.trace.refused.getD src 0
  if n = 0 then h else
  let h := h.stage (gapPacket h.frameLo 0 src (min n 0xFFFFFFFF))
  ({ h with trace := { h.trace with refused := h.trace.refused.set src 0, syncDue := h.trace.syncDue.set src true } } : Hw).raise
    evTraceDrop

/-- The SYNC that a sequencer source's GAP has made due (R363). -/
def Hw.stageDueSync (h : Hw) (src : Nat) : Hw :=
  if h.trace.syncDue.getD src false then
    ({ h with trace := { h.trace with syncDue := h.trace.syncDue.set src false } } : Hw).stageSync 2
  else h

/-- Refuse a packet: count it (R367). -/
def Hw.refusePkt (h : Hw) (src : Nat) (path : Bool) : Hw :=
  let h := h.count (traceA (0x20 + 4 * src))
  { h with trace := { h.trace with
      refused := h.trace.refused.set src (h.trace.refused.getD src 0 + 1)
      resync := if src ≤ 1 && path then h.trace.resync.set src true else h.trace.resync } }

/-- Accept or refuse one offered packet (R367, R368). -/
def Hw.takeOffer (h : Hw) (o : TraceOffer) : Hw :=
  let isPath := fld o.pkt 127 124 == 1
  let first := isPath && fld o.pkt 95 89 == 0
  let waits := h.trace.resync.getD o.src false && !first
  if waits || decide (h.trace.staging.length ≥ stageLimit o.src) then h.refusePkt o.src isPath
  else
    let h := if o.src ≤ 1 then { h with trace := { h.trace with resync := h.trace.resync.set o.src false } } else h
    ((h.stageGap o.src).stageDueSync o.src).stage o.pkt

/-- The source that offered first has its packet accepted or refused (R367). -/
def Hw.takeFirst (h : Hw) : Hw :=
  match h.trace.offers with
  | [] => h
  | o :: rest => ({ h with trace := { h.trace with offers := rest } } : Hw).takeOffer o

/-- TRACE_PACKET. In IDLE and DOZE packets wait for the SYNC with which the module leaves that state (R363, R369). -/
def execTracePacket (h : Hw) : Hw := if h.pstate = 0 then h.takeFirst else h

/-- Every packet that waits is accepted or refused, in the order in which the sources offered (R367). -/
def Hw.takeOffers (h : Hw) : Hw := (List.range h.trace.offers.length).foldl (fun h _ => h.takeFirst) h

/-- The global time stamp that a tick has made due is written, after what else of SRC 4 falls due with it (R364, R369). -/
def Hw.stageStamp (h : Hw) : Hw :=
  match h.trace.stamp with
  | some t => ({ h with trace := { h.trace with stamp := none } } : Hw).stage (timePacket h.frameLo false t)
  | none => h

/-- The firmware takes a branch or an exception in this clock, or none: the manual gives the MP no program, so that a free value says
which (R359; log entry 64). -/
def Hw.flowClock (h : Hw) : Hw :=
  if !(h.srcOn 3 && h.host.ready) then h
  else
    let (v, h) := h.takeFree
    if !bit v 0 then h
    else
      let (w, h) := h.takeFree
      h.offer 3 (flowPacket h.frameLo (fld v 2 1 % 3) h.clockTag (fld w 63 32) (fld w 31 0))

/-! ## The gutter (R366) -/

/-- The gutter lies in host memory: KIND 1, which only the head has; a member writes far memory (R365). -/
def Hw.sinkHost (h : Hw) : Bool := h.bget (traceA 4) 0 && !h.isMember

/-- Ring size in packets: a power of two from 4,096 to 2^28; other values act as 4,096 (R370). -/
def Hw.gutterSize (h : Hw) : Nat :=
  let n := (h.reg (traceA 0x10)).toNat
  if (List.range 17).any fun i => n == 2 ^ (12 + i) then n else 4096

/-- The sink has room for one more packet (R366); host memory cannot be written without Bus Master Enable and a link
(R429). -/
def Hw.sinkRoom (h : Hw) : Bool :=
  (!h.sinkHost || (h.bme && h.host.linkUp)) && (!h.bget (traceA 4) 1 || (h.reg (traceA 0x14) - h.reg (traceA 0x18)).toNat != h.gutterSize)

/-- Write one packet at entry WR_INDEX mod SIZE and advance WR_INDEX (R366). -/
def Hw.gutterWrite (h : Hw) (p : BitVec 128) : Hw :=
  let ix := (h.reg (traceA 0x14)).toNat
  let base := h.reg64 (traceA 8)
  let off := ix % h.gutterSize * 16
  let h :=
    if h.sinkHost then h.emit (.hostWrite ((base.toNat / 16 * 16) + off) (bytesOf 16 p.toNat))
    else
      let d := fld base 36 36
      let w := (fld base 35 4 * 16 + off) / 8
      (h.setFarWord d w (p.extractLsb' 0 64)).setFarWord d (w + 1) (p.extractLsb' 64 64)
  let h := h.setReg (traceA 0x14) (BitVec.ofNat 32 (ix + 1))
  if !h.bget (traceA 4) 1 && (ix + 1) % h.gutterSize == 0 then h.count (traceA 0x38) else h

/-- The oldest staged packet goes to the gutter ring when the sink has room (R366). -/
def Hw.sinkOne (h : Hw) : Hw :=
  match h.trace.staging with
  | [] => h
  | p :: rest =>
    if h.sinkRoom then ({ h with trace := { h.trace with staging := rest } } : Hw).gutterWrite p else h

/-- TRACE_SINK_WRITE: one packet leaves the staging buffer while the unit is enabled; with EN 0 it writes nothing more
(R366, R371). Far memory cannot be reached in DOZE (R407). -/
def execTraceSinkWrite (h : Hw) : Hw :=
  if h.bget (traceA 0) 0 && (h.sinkHost || decide (h.pstate < 2)) then h.sinkOne else h

/-- Flush what waits and what is staged to the sink (R369, R371). -/
def Hw.flushTrace (h : Hw) : Hw :=
  let h := h.takeOffers
  (List.range h.trace.staging.length).foldl (fun h _ => h.sinkOne) h

/-- Entry to a low-power state: pending GAPs, the LOW_POWER GAP, and the flush (R369). What has waited through an earlier state comes
after the SYNC that ends it; the flush on entry to SLEEP reaches the gutter from DOZE, as R395 and R369 have it. -/
def Hw.traceLowPower (h : Hw) (state : Nat) : Hw :=
  if !h.bget (traceA 0) 0 then h else
  let h := if h.pstate = 0 || h.trace.offers.isEmpty then h else h.stageSync 1
  let h := (List.range 4).foldl (fun h s => h.stageGap s) h.takeOffers
  (h.stage (gapPacket h.frameLo 1 state (timeField h.time.now))).flushTrace

end Sys2Proof.Machine
end

