-- ==== Sys2Proof/Machine/Bp.lean ====
section
/-!
DEFINITION. The Boolean processors: EVAL, LOFT, PORT, NOP, KEEP and MARK (R35 to R43, R54, R70 to R80), with the hazards
that belong to one BP (R82, R93, R208).
-/

namespace Sys2Proof.Machine

/-! ## Uncorrectable stored words (R42, R54, R67 to R69) -/

/-- Order in which one course's findings compete for TRUSSCFG.UE_LOC: lowest truss, then control segment, instruction
word by BP, bundle entry, loft word (R69). Of several control segments of one truss the lowest is captured, and of several
bundle entries the first that is read, in the order of the BPs (DESIGN CHOICE: R69 does not order them; log entry 61). -/
def ueRank (v : Word32) : Nat :=
  let kind := fld v 21 20
  let o := if kind = 1 then 0 else if kind = 0 then 1 else if kind = 3 then 2 else 3
  fld v 8 0 * 1024 + o * 64 + fld v 27 22

/-- An uncorrectable word of a truss: count it in the byte of UE_COUNT at `lo`, capture the location, raise the event and
poison the frame. -/
def Hw.trussUe (h : Hw) (d t addr kind unit lo id : Nat) : Hw :=
  let h := h.bump (trussA d 8) (lo + 7) lo
  let h := h.capture32 (trussA d 0xC) (BitVec.ofNat 32 (t + 2 ^ 9 * addr + 2 ^ 20 * kind + 2 ^ 22 * unit)) ueRank
  h.raisePoison id (h.reg (trussA d 0xC))

/-- Once per truss and course: a marked row, or a row with uncorrectable control segments, makes the control word
inert and raises COURSE_UNCORRECTABLE (R54, R283). -/
def Hw.checkCtl (h : Hw) (d t : Nat) : Hw :=
  match h.execRow d with
  | none => h
  | some r =>
    if h.isolated d t then h else
    h.once (.ctl d t) true fun h =>
      if h.marked d t r then
        (h.bump (trussA d 8) 15 8).raisePoison (evCourseUncorrectable d)
      else match h.rowListed (trussIx d t) r with
        | none => h
        | some row => (badSegs row).foldl (fun h s => h.trussUe d t r 1 s 8 (evCourseUncorrectable d)) h

/-! ## Hazards of consumed selectors (R82, R208) -/

/-- Test one consumed selector of BP i. A lane's own hazard is raised once for the lane (R82). -/
def Hw.consume (h : Hw) (d t i sel : Nat) : Hw :=
  if sel < 112 then
    if sel + 1 > h.seq.pos then h.hazard d 2 t (some i) sel else h
  else match h.ctl d t with
    | none => h
    | some c =>
      let s := laneSel c (sel - 112)
      h.once (.lane d t (sel - 112)) true fun h =>
        if s < 64 && h.seq.pos == 0 then h.hazard d 2 t none s
        else if s ≥ 122 then h.hazard d 8 t none 5
        else h

def Hw.consumeAll (h : Hw) (d t i : Nat) (sels : List Nat) : Hw := sels.foldl (fun h s => h.consume d t i s) h

/-- A use of a reserved encoding of BP i's instruction: row of Table 3.17 (R93). -/
def Hw.reservedIns (h : Hw) (d t i row : Nat) : Hw := h.hazard d 8 t (some i) row

/-! ## The result of one course -/

/-- A BP's result of the course: it waits to enter the slate ring and the output vector (R35, R71), and a tap
contributes it to the selected probe group (R72). -/
def Hw.result (h : Hw) (d t i : Nat) (v drive tap : Bool) : Hw :=
  let T := trussIx d t
  let k := h.truss T
  let h := h.setTruss T { k with
    res := setBit k.res i v, drv := setBit k.drv i drive, bpDone := setBit k.bpDone i true }
  match h.ctl d t with
  | some c =>
    if tap && bit c 551 then
      let g := d * 128 + fld c 550 544
      let w := Store.get (0, 0) h.probeIn g
      { h with probeIn := Store.set (0, 0) h.probeIn g (setBit w.1 i true, if v then setBit w.2 i true else w.2) }
    else h
  | none => h

/-- Whether BP i of truss t has still to execute in this course. -/
def Hw.bpDue (h : Hw) (d t i : Nat) : Bool :=
  decide (i < 64) && decide (t < 512) && (h.execRow d).isSome && !bit (h.truss (trussIx d t)).bpDone i

/-- Word on the loft read bus in this course: the OR of the words due now (R60, R166). -/
def Truss.busWord (k : Truss) (pos : Nat) : Word64 :=
  (k.reads.filter fun r => r.pos == pos).foldl (fun acc r => acc ||| r.word) 0

/-- EVAL of a bundle entry: an uncorrectable entry makes its readers produce 0 (R42, R74). The operands within the support
mask that was computed when the entry was written are tested also when the entry reads uncorrectable (DESIGN CHOICE: R43 and
R82 name no exception, and R42 says nothing of the test; log entry 61). -/
def Hw.evalBp (h : Hw) (d t i : Nat) (x : Ins) : Hw :=
  let T := trussIx d t
  let e := fld x 45 38
  let (table, f) := bundleDecode (h.bundle T e)
  let sup := h.supportOf T e
  let sels := evalSels x
  let v := f != .bad && evalTable table (sels.map (h.operand d t i)) (bit x 2)
  let h := if f = .bad then
      h.once (.bundle T e) true fun h => h.trussUe d t e 3 0 16 (evBundleUncorrectable d)
    else h
  let h := h.consumeAll d t i ((sels.zipIdx.filter fun s => bit sup s.2).map (·.1))
  h.result d t i v (insDrive x) (insTap x)

/-- LOFT: a read takes bit i of the word on the bus (R60); a write supplies and keeps its write source (R61). A write that an
inert control word leaves without its operation takes part in nothing and produces 0 (R54). -/
def Hw.loftBp (h : Hw) (d t i : Nat) (x : Ins) : Hw :=
  let h := if fld x 36 2 ≠ 0 then h.reservedIns d t i 2 else h
  let k := h.truss (trussIx d t)
  if bit x 45 then
    if (h.ctl d t).isNone then h.result d t i false (insDrive x) (insTap x) else
    let v := h.operand d t i (fld x 44 38)
    (h.consume d t i (fld x 44 38)).result d t i v (insDrive x) (insTap x)
  else h.result d t i (bit (k.busWord h.seq.pos) i) (insDrive x) (insTap x)

/-- Key of a port word delivered in this course. -/
def portKey (d unit n : Nat) : Nat := d * 4096 + unit * 1024 + n

/-- PORT: a supplying BP keeps its source, a receiving one takes bit i of the delivered word, and one that does not take
part produces 0 (R76, R77). `recv` performs the receiving operation of the port first when it is still due. A reserved SUBOP
is one hazard, of row 3 of Table 3.17, although it pairs with no operation either (DESIGN CHOICE: R93 does not say which of
rows 3 and 4 it is; log entry 61). -/
def Hw.portBp (recv : Hw → Nat → PortOp → Hw) (h : Hw) (d t i : Nat) (x : Ins) : Hw :=
  let h := if fld x 34 2 ≠ 0 then h.reservedIns d t i 2 else h
  let sub := fld x 45 42
  let h := if sub ≥ 8 then h.reservedIns d t i 3 else h
  match h.ctl d t with
  | none => h.result d t i false (insDrive x) (insTap x)
  | some c =>
    let unpaired (h : Hw) : Hw := if sub ≥ 8 then h else h.reservedIns d t i 4
    match portField c with
    | none => (unpaired h).result d t i false (insDrive x) (insTap x)
    | some o =>
      if !subopPairs sub o.op then (unpaired h).result d t i false (insDrive x) (insTap x)
      else if opSupplies o.op then
        let v := h.operand d t i (fld x 41 35)
        (h.consume d t i (fld x 41 35)).result d t i v (insDrive x) (insTap x)
      else
        let h := recv h d o
        h.result d t i (bit (Store.get 0 h.portWords (portKey d (opUnit o.op) o.port)) i) (insDrive x) (insTap x)

/-- CTRL: NOP, KEEP, MARK, and the reserved OP that acts as NOP (R78, R79). -/
def Hw.ctrlBp (h : Hw) (d t i : Nat) (x : Ins) : Hw :=
  let op := fld x 45 44
  let h := if op = 3 then h.reservedIns d t i 1 else h
  let h := if fld x 43 2 ≠ 0 then h.reservedIns d t i 2 else h
  let v := op == 1 && h.age (trussIx d t) i 1
  let h := if op = 1 && h.seq.pos == 0 then h.hazard d 2 t (some i) 0 else h
  let h := match h.ctl d t with
    | some c =>
      if op = 2 && bit c 567 then
        h.once (.mark d t) true fun h => h.offer d (markPacket d h.frameLo (fld c 566 560) t h.seq.pos)
      else h
    | none => h
  h.result d t i v (insDrive x) (insTap x)

/-- An uncorrectable instruction word executes as NOP with no drive or tap (R54). -/
def Hw.badIns (h : Hw) (d t i : Nat) : Hw :=
  let r := (h.execRow d).getD 0
  (h.trussUe d t r 0 i 8 (evCourseUncorrectable d)).result d t i false false false

/-- The classes of Table 3.1, with CTRL divided by its OP (Table 3.8). -/
inductive BpClass where
  | eval | loft | port | nop | keep | mark
deriving DecidableEq, Repr

/-- Class of an instruction word (R70, R78). -/
def bpClass (x : Ins) : BpClass :=
  match insClass x with
  | 0 => .eval
  | 1 => .loft
  | 2 => .port
  | _ => match fld x 45 44 with
    | 1 => .keep
    | 2 => .mark
    | _ => .nop

/-- BP i executes its instruction of this course, once (R35). -/
def Hw.bpExec (recv : Hw → Nat → PortOp → Hw) (h : Hw) (d t i : Nat) : Hw :=
  match h.ins d t i with
  | none => h
  | some (x, bad) =>
    let h := h.checkCtl d t
    if bad then h.badIns d t i
    else match bpClass x with
      | .eval => h.evalBp d t i x
      | .loft => h.loftBp d t i x
      | .port => h.portBp recv d t i x
      | _ => h.ctrlBp d t i x

/-- The command of one class: BP i executes when it is due and its instruction is of that class. An uncorrectable word
has the class its data bits spell, and it is a NOP as well (R54). -/
def Hw.bpCommand (recv : Hw → Nat → PortOp → Hw) (c : BpClass) (h : Hw) (d t i : Nat) : Hw :=
  match h.ins d t i with
  | some (x, bad) => if h.bpDue d t i && (bpClass x = c || (bad && c = .nop)) then h.bpExec recv d t i else h
  | none => h

end Sys2Proof.Machine
end

