-- ==== Sys2Proof/Machine/SnapHold.lean ====
section
/-!
DEFINITION. Snapshot planes and pages: what a capture in progress keeps of a word before it is first written (R378,
R379).
-/

namespace Sys2Proof.Machine

/-- A capture whose point has been taken and whose drain on die d has not ended. -/
def Hw.draining (h : Hw) (d : Nat) : Bool :=
  match h.snap.capture with
  | some c => c.point.isSome && !c.drained.getD d false
  | none => false

/-- A capture or a restore goes on: a full image load ends BUSY (R381). -/
def Hw.snapHolds (h : Hw) : Bool := h.snap.capture.isSome || h.snap.restore.isSome

/-- Before the first write to a loft word since the point, its old word goes to the plane (R378). -/
def Hw.holdLoft (h : Hw) (T a : Nat) : Hw :=
  let k := T * 2048 + a
  if h.draining (T / 512) && (Store.get none h.snap.loftPlane k).isNone then
    { h with snap := { h.snap with loftPlane := Store.set none h.snap.loftPlane k (some (h.loft T a)) } }
  else h

/-- Before the first write to a bank word since the point, its old word and valid bit go to the plane (R378). -/
def Hw.holdBank (h : Hw) (b a : Nat) : Hw :=
  let k := b * 32768 + a
  if h.draining (b / 64) && (Store.get none h.snap.bankPlane k).isNone then
    { h with snap := { h.snap with
        bankPlane := Store.set none h.snap.bankPlane k (some (h.bankWord b a, h.bankWritten b a)) } }
  else h

/-- The area of the capture in progress when its scope includes FAR. -/
def Hw.farArea (h : Hw) : Option SnapArea :=
  match h.snap.capture with
  | some c => match Store.get none h.snap.areas c.slot with
    | some a => if a.far then some a else none
    | none => none
  | none => none

/-- Byte offset of the far-memory part of an area (Table 14.1). -/
def areaFarOff : Nat := 0x1841000

def hubA (o : Nat) : Nat := o
def snapStatA : Nat := hubA 0x200
def snapSlotA (k o : Nat) : Nat := hubA (0x240 + 16 * k + o)

/-- Store one word of an area, as data with fresh check bits; a corrected older word is no longer to be written back (R193, R375). -/
def Hw.areaWord (h : Hw) (d base off : Nat) (v : Word64) : Hw :=
  let k := farKey d ((base + off) / 8)
  { h with farMem := Store.set 0 h.farMem k (decEncode v), farWb := Store.set none h.farWb k none }

/-- Data of one word of an area. -/
def Hw.areaRead (h : Hw) (d base off : Nat) : Word64 := (decDecode (h.farWord d ((base + off) / 8))).1

/-- A drain of die d has met an uncorrectable word: DAMAGE is incremented, FLAGS.DAMAGED set in the descriptor and in SNAP_SLOT_k.CFG,
and SNAP_DAMAGED raised (R380, Table 14.2, Table 14.4). -/
def Hw.noteDamage (h : Hw) (c : Capture) (d base : Nat) : Hw :=
  let n := c.damage.getD d 0 + 1
  let h : Hw := { h with snap := { h.snap with capture := some { c with damage := c.damage.set d n } } }
  let h := h.areaWord d base 0x18 (setBit (h.areaRead d base 0x18) 26 true)
  ((h.areaWord d base 0x60 (BitVec.ofNat 64 (n % 2 ^ 32))).fset (snapSlotA c.slot 0) 6 6 1).raise evSnapDamaged

/-- One word of a drain: an uncorrectable word is stored as zero and noted (R380). -/
def Hw.drainWord (h : Hw) (d base off : Nat) (w : Word78) : Hw :=
  match decDecode w, h.snap.capture with
  | (_, .bad), some c => (h.areaWord d base off 0).noteDamage c d base
  | (_, .bad), none => h
  | (v, _), _ => h.areaWord d base off v

/-- Byte offset of the valid map of die d in an area with scope FAR (Table 14.1). -/
def Hw.areaValidOff (h : Hw) (d : Nat) : Nat := areaFarOff + h.designMib d * 2 ^ 20

/-- Bit of a valid map at which the valid bit of die line l stands: stack lines run by bits, and the two stacks interleave in runs of 256
bytes of their maps, as of all their bytes (R176, R191). -/
def mapBit (l : Nat) : Nat :=
  let i := l / 8 * 4 + l % 4
  8 * (i / 8 / 256 * 512 + l / 4 % 2 * 256 + i / 8 % 256) + i % 8

/-- Die line whose valid bit stands at bit n of a valid map. -/
def mapLine (n : Nat) : Nat :=
  let b := n / 8
  let i := 8 * (b / 512 * 256 + b % 256) + n % 8
  i / 4 * 8 + b / 256 % 2 * 4 + i % 4

/-- Store valid bits of die lines in the valid map of an area. -/
def Hw.areaValid (h : Hw) (d base : Nat) (bits : List (Nat × Bool)) : Hw :=
  bits.foldl (fun h x =>
    let off := h.areaValidOff d + mapBit x.1 / 64 * 8
    h.areaWord d base off (setBit (h.areaRead d base off) (mapBit x.1 % 64) x.2)) h

/-- Valid bits of the 64 lines of page n of die d. -/
def Hw.pageValid (h : Hw) (d n : Nat) : List (Nat × Bool) :=
  (List.range 64).map fun i => (64 * n + i, Store.get false h.farValid (d * 2 ^ 30 + 64 * n + i))

/-- Copy page n of die d's DESIGN region and its valid bits into the area and mark it; an uncorrectable word is stored as zero
and counted (R379, R380). -/
def Hw.copyPage (h : Hw) (d n : Nat) : Hw :=
  match h.farArea with
  | none => h
  | some ar =>
    let b := ar.base.getD d 0
    let h := (List.range 512).foldl (fun h i =>
      let a := n * 512 + i
      h.drainWord d b (areaFarOff + 8 * a) (if h.farWritten d a then h.farWord d a else 0)) h
    let h := h.areaValid d b (h.pageValid d n)
    { h with snap := { h.snap with pages := Store.set false h.snap.pages (d * 2 ^ 24 + n) true } }

/-- Before a far-memory write: a write pushed after the point first copies its unmarked page (R379). -/
def Hw.holdFar (h : Hw) (d a : Nat) (afterPoint : Bool) : Hw :=
  if h.draining d && h.farArea.isSome && afterPoint && h.inDesign d a && !Store.get false h.snap.pages (d * 2 ^ 24 + a / 512) then
    h.copyPage d (a / 512)
  else h

/-- After a far-memory write pushed before the point: a page that is already marked takes the bits of v that m enables as well, with the
line valid. Bits of a write pushed later stay out of the snapshot (R373). -/
def Hw.lateFar (h : Hw) (d a : Nat) (v m : Word64) (afterPoint : Bool) : Hw :=
  match h.farArea with
  | some ar =>
    if h.draining d && !afterPoint && Store.get false h.snap.pages (d * 2 ^ 24 + a / 512) then
      let b := ar.base.getD d 0
      let off := areaFarOff + 8 * a
      (h.areaWord d b off ((h.areaRead d b off &&& ~~~ m) ||| (v &&& m))).areaValid d b [(a / 8, true)]
    else h
  | none => h

/-- Whether a course clock lies after the snapshot point. -/
def Hw.afterPoint (h : Hw) (clk : Nat) : Bool :=
  match h.snap.capture with
  | some c => match c.point with | some p => decide (p ≤ clk) | none => true
  | none => true

end Sys2Proof.Machine
end

