-- ==== Sys2Proof/Machine/Loft.lean ====
section
/-!
DEFINITION. Loft operations of the control word: reads, direct and masked writes, their commits and write-backs (R57 to
R67).
-/

namespace Sys2Proof.Machine

/-- The loft operation that truss t's control word names in this course. -/
def Hw.loftOp (h : Hw) (d t : Nat) : LoftOp × Nat :=
  match h.ctl d t with
  | some c => loftField c
  | none => (.none, 0)

/-- Whether the slot of this course is blocked by a masked write of the course before (R63). -/
def Hw.loftBlocked (h : Hw) (T : Nat) : Bool := (h.truss T).blocked == some h.seq.pos

/-- The word as a read issued now sees it: the merged data of an incomplete masked write of the word, else the stored
word through the decoder (R63, R65). -/
def Hw.loftSees (h : Hw) (T a : Nat) : Word64 × Found :=
  match ((h.truss T).rmw.filter fun r => r.addr == a).getLast? with
  | some r => (r.merged, .clean)
  | none => decDecode (h.loft T a)

/-- Count, capture and raise what a loft read found (R66, R67). -/
def Hw.loftFinding (h : Hw) (d t a : Nat) (f : Found) : Hw :=
  match f with
  | .clean => h
  | .corrected =>
    let h := h.count (trussA d 4)
    if h.bget (trussA d 0) 1 then h.raise (evLoftCorrected d) else h
  | .bad => h.trussUe d t a 2 0 0 (evLoftUncorrectable d)

/-- A masked write to a word commits before any later full write of it (R65). -/
def Hw.flushRmw (h : Hw) (T : Nat) (p : LoftRmw → Bool) : Hw :=
  let k := h.truss T
  let h := (k.rmw.filter p).foldl (fun h r => (h.holdLoft T r.addr).setLoft T r.addr (decEncode r.merged)) h
  h.setTruss T { h.truss T with rmw := k.rmw.filter fun r => !p r }

/-- A write of a word drops its pending write-back (R66). -/
def Hw.dropWb (h : Hw) (T a : Nat) : Hw :=
  let k := h.truss T
  h.setTruss T { k with wb := k.wb.filter fun w => w.addr != a }

/-- A loft operation in the slot that a masked write blocks is discarded (R64). -/
def Hw.loftDiscard (h : Hw) (d t : Nat) : Hw := h.hazard d 3 t none 0

/-- LOFT_READ: the word, corrected on the way, sets out to arrive in executed course q + 3 (R60, R66, R83). -/
def execLoftRead (h : Hw) (d t : Nat) : Hw :=
  let op := h.loftOp d t
  h.once (.loft d t) (op.1 = .read) fun h =>
    let T := trussIx d t
    if h.loftBlocked T then h.loftDiscard d t else
    let (v, f) := h.loftSees T op.2
    let h := h.loftFinding d t op.2 f
    let k := h.truss T
    let wb := if f = .corrected && h.bget (trussA d 0) 0 then k.wb ++ [⟨op.2, v, h.seq.pos⟩] else k.wb
    h.setTruss T { k with reads := k.reads ++ [⟨h.seq.pos + 3, v, false⟩], wb := wb }

/-- LOFT_READ_DELIVER: the words due in this course stand on the loft read bus (R60, R166). -/
def execLoftReadDeliver (h : Hw) (d t : Nat) : Hw :=
  let T := trussIx d t
  let k := h.truss T
  let due := k.reads.filter fun r => r.pos == h.seq.pos
  h.once (.busDeliver d t) ((h.execRow d).isSome && due != []) fun h =>
    let h := if due.any (·.bank) && due.any (fun r => !r.bank) then h.hazard d 3 t none 1 else h
    h.setTruss T { h.truss T with bus := k.busWord h.seq.pos }

/-- Bit enables and data of a loft write: the BPs that execute LOFT with DIR 1 and WEN 1, and their write sources
(R61). -/
def Hw.loftWriteBits (h : Hw) (d t : Nat) : Word64 × Word64 :=
  let on (i : Nat) : Option Ins := match h.ins d t i with
    | some (x, false) => if bpClass x = .loft && bit x 45 && bit x 37 then some x else none
    | _ => none
  (ofBits 64 fun i => (on i).isSome,
   ofBits 64 fun i => match on i with | some x => h.operand d t i (fld x 44 38) | none => false)

/-- LOFT_WRITE: 64 enables write the word at once (R62); fewer perform the hidden read-modify-write, which blocks the
next slot and completes by course q + 4 (R63); none change nothing. -/
def execLoftWrite (h : Hw) (d t : Nat) : Hw :=
  let op := h.loftOp d t
  h.once (.loft d t) (op.1 = .write) fun h =>
    let T := trussIx d t
    if h.loftBlocked T then h.loftDiscard d t else
    let (en, v) := h.loftWriteBits d t
    if en = 0 then h
    else if en = 0xFFFFFFFFFFFFFFFF#64 then
      (((h.flushRmw T fun r => r.addr == op.2).dropWb T op.2).holdLoft T op.2).setLoft T op.2 (decEncode v)
    else
      let (old, f) := h.loftSees T op.2
      let h := h.loftFinding d t op.2 f
      let h := h.dropWb T op.2
      let k := h.truss T
      let merged := (old &&& ~~~ en) ||| (v &&& en)
      h.setTruss T { k with
        blocked := some (h.seq.pos + 1)
        rmw := if f = .bad then k.rmw else k.rmw ++ [⟨op.2, merged, h.seq.pos + 4⟩] }

/-- LOFT_RMW_COMMIT: a masked write whose fourth course has come stores its merged word (R63). -/
def execLoftRmwCommit (h : Hw) (d t : Nat) : Hw :=
  h.flushRmw (trussIx d t) fun r => decide (r.pos ≤ h.seq.pos)

/-- LOFT_WRITEBACK: a corrected word is written back in the first later course in which the control word names no loft
operation and no masked write is pending (R66). Outside the executed courses no control word names one. DESIGN CHOICE (log
64): a masked write whose read was uncorrectable is pending no longer, so another word's write-back may use the course that
this write still blocks. -/
def execLoftWriteback (h : Hw) (d t : Nat) : Hw :=
  let T := trussIx d t
  let k := h.truss T
  let later (w : WriteBack) : Bool := w.pos != h.seq.pos
  h.once (.writeback d t)
    (h.execClock && (h.loftOp d t).1 = .none && k.rmw == [] && k.wb.any later) fun h =>
    match k.wb.find? later with
    | none => h
    | some w => (h.setTruss T { k with wb := k.wb.erase w }).setLoft T w.addr (decEncode w.data)

end Sys2Proof.Machine
end

