-- ==== Sys2Proof/Machine/FarQueue.lean ====
section
/-!
DEFINITION. Far-memory queue pairs as the design reaches them, and the user I/O path: FMQ_PUSH, FMQ_PULL,
FMQ_WAIT_PULL, IO_OUT, IO_IN and IO_PATH_DELIVER (R16, R84 to R88, R129, R135, R178 to R185).
-/

namespace Sys2Proof.Machine

/-- Once-per-course operation of a port on one side (R88). -/
def Hw.portOnce (h : Hw) (d unit n : Nat) (supply : Bool) (f : List (Nat × PortOp) → PortOp → Hw → Hw) : Hw :=
  match h.portUsers d unit n supply with
  | [] => h
  | (t, o) :: rest => h.once (.port d unit n supply) true (f ((t, o) :: rest) o)

/-! ## Requests (Table 6.10) -/

def reqOp (w : Word64) : Nat := fld w 1 0
def reqLen (w : Word64) : Nat := fld w 3 2 + 1
def reqAck (w : Word64) : Bool := bit w 4
def reqAddr (w : Word64) : Nat := fld w 40 8

/-- A malformed request (R183): OP 0b11, a LENM1 or ACK that Table 6.10 does not allow, or a reserved bit set. -/
def reqBad (w : Word64) : Bool :=
  reqOp w == 3 || fld w 7 5 != 0 || fld w 63 41 != 0 ||
  (reqOp w == 0 && reqAck w) || (reqOp w == 1 && reqLen w == 4) || (reqOp w == 2 && reqLen w != 1)

/-- Word address of the k-th addressed word: upward, wrapping within the aligned group of four (R179). -/
def reqWordAddr (w : Word64) (k : Nat) : Nat := reqAddr w / 4 * 4 + (reqAddr w + k) % 4

/-- Outstanding requests of a pair (R182). -/
def QPair.outstanding (q : QPair) : Nat := q.reqs.length + q.resps.length

/-- Course positions counted across frames, each frame up to S (R208, EARLY_PULL). -/
def Hw.absPos (h : Hw) : Nat := h.seq.frame.toNat * h.seq.schedLen + min h.seq.pos h.seq.schedLen

/-- FMQ_PUSH on die-local pair q: word WORD of the entry, and with LAST the enqueue (R178, R182, R183). A malformed request
that would exceed 256 is discarded under R182 alone (DESIGN CHOICE: the manual does not order the tests of R182 and R183;
log entry 61). -/
def execFmqPush (h : Hw) (d q : Nat) : Hw :=
  h.portOnce d 0 q true fun users o h =>
    let v := h.supplyWord d users
    let pr := h.qpair (d * 128 + q)
    let asm := Store.set 0 pr.asm o.word v
    if !o.last then h.setQpair (d * 128 + q) { pr with asm := asm }
    else if pr.outstanding ≥ 256 then
      (h.count (farA d 0x20)).raisePoison (evFmqOverflow d)
    else
      let w0 := Store.get 0 asm 0
      if reqBad w0 then (h.setQpair (d * 128 + q) { pr with asm := [] }).raisePoison (evFmqBadRequest d)
      else
        let r : FmqReq := ⟨(List.range 4).map (Store.get 0 asm), h.seq.padClk, h.absPos, false⟩
        h.setQpair (d * 128 + q) { pr with asm := [], reqs := pr.reqs ++ [r] }

/-! ## Pulls (R184, R185) -/

/-- Deliver a word to the receiving trusses of a port. -/
def Hw.deliverWord (h : Hw) (d unit n : Nat) (w : Word64) : Hw :=
  { h with portWords := Store.set 0 h.portWords (portKey d unit n) w }

/-- Whether a wait-pull of key k (pairs 0 to 127, call ports from 0x80) keeps R129: it lies in a taken WAIT block, at
least H after the test course, names a queue of the wait set, and removes at most one response. -/
def Hw.waitGuarded (h : Hw) (d k : Nat) (last : Bool) : Bool :=
  match h.segAt d h.seq.pos with
  | some s =>
    s.kind == 1 && decide (s.pos + h.seq.horizon ≤ h.seq.pos) &&
      bit (Store.get 0 h.waitSets (d * 32 + s.wset)) k && !(last && h.seq.waitTaken.contains (d * 256 + k))
  | none => false

def Hw.noteTaken (h : Hw) (d k : Nat) : Hw :=
  { h with seq := { h.seq with waitTaken := (d * 256 + k) :: h.seq.waitTaken } }

/-- The head response of a pair when it is complete (R181). -/
def QPair.head (q : QPair) : Option FmqResp :=
  match q.resps with
  | r :: _ => if r.complete then some r else none
  | [] => none

/-- A plain pull of pair q: the word of the head response, removed after the read with LAST; 0 and a count when there is
no complete response (R184). -/
def Hw.plainPull (h : Hw) (d q : Nat) (o : PortOp) : Hw :=
  let pr := h.qpair (d * 128 + q)
  match pr.head with
  | some r =>
    let h := h.deliverWord d 0 q (r.words.getD o.word 0)
    if o.last then h.setQpair (d * 128 + q) { pr with resps := pr.resps.tail } else h
  | none =>
    let h := (h.deliverWord d 0 q 0).count (farA d 0x1C)
    if h.bget (farA d 0xC) 2 then h.raise (evFmqEmptyPull d) else h

/-- The request has a response: a READ, or a write with ACK (R180). -/
def FmqReq.answers (r : FmqReq) : Bool := reqOp (r.words.headD 0) == 0 || reqAck (r.words.headD 0)

/-- EARLY_PULL: the response's push lies fewer than L_F positions back (Table 7.3, code 6). DESIGN CHOICE (log 64): a push in
the pull's own course counts when its truss has the lower number, since trusses act in that order. -/
def Hw.earlyPull (h : Hw) (d q t : Nat) : Hw :=
  let pr := h.qpair (d * 128 + q)
  let pushed := (pr.resps.head?.map (·.pushPos)).or ((pr.reqs.find? FmqReq.answers).map (·.pushPos))
  match pushed with
  | some p => if h.absPos - p < h.fget (farA d 0) 24 16 then h.hazard d 6 t none q else h
  | none => h

/-- The receiving operation of pair q in this course: FMQ_PULL, or FMQ_WAIT_PULL, which acts as a plain pull when it
breaks R129 and then raises WAIT_UNGUARDED on an empty queue (R135, R185). -/
def Hw.fmqReceive (h : Hw) (d q : Nat) : Hw :=
  h.portOnce d 0 q false fun users o h =>
    let t := (users.headD (0, o)).1
    let h := h.earlyPull d q t
    if o.op = 2 then h.plainPull d q o
    else
      let empty := (h.qpair (d * 128 + q)).head.isNone
      if h.waitGuarded d q o.last then
        if empty then h.deliverWord d 0 q 0
        else
          let h := h.plainPull d q o
          if o.last then h.noteTaken d q else h
      else
        let h := (h.hazard d 9 t none q).plainPull d q o
        if empty then h.raisePoison (evWaitUnguarded d) else h

/-- The operation that the lowest-numbered receiving truss names on a resource. -/
def Hw.recvOp (h : Hw) (d unit n : Nat) : Option Nat := (h.portUsers d unit n false).head?.map (·.2.op)

/-- FMQ_PULL. -/
def execFmqPull (h : Hw) (d q : Nat) : Hw := if h.recvOp d 0 q = some 2 then h.fmqReceive d q else h

/-- FMQ_WAIT_PULL. -/
def execFmqWaitPull (h : Hw) (d q : Nat) : Hw := if h.recvOp d 0 q = some 3 then h.fmqReceive d q else h

/-! ## User I/O (R16, R85, R87) -/

/-- IO_OUT on port n of die d: the bits whose BPs take part set out for the output registers of two banks. -/
def execIoOut (h : Hw) (d n : Nat) : Hw :=
  h.portOnce d 1 n true fun users _ h =>
    let v := h.supplyWord d users
    let m := h.supplyMask d users
    let b := 8 * d + 2 * n
    { h with ioOut := h.ioOut ++
        [⟨20, b, m.extractLsb' 0 32, v.extractLsb' 0 32⟩, ⟨20, b + 1, m.extractLsb' 32 32, v.extractLsb' 32 32⟩] }

/-- The input registers as they stood 20 course clocks ago: user I/O banks 0 to 15, then word channels two to a word. -/
def Hw.inputsPast (h : Hw) (k : Nat) : Word32 := (h.ioIn.getD 19 []).getD k 0

/-- IO_IN on port n of die d (Table 3.13). -/
def execIoIn (h : Hw) (d n : Nat) : Hw :=
  h.portOnce d 1 n false fun _ _ h =>
    let k := if n < 4 then 8 * d + 2 * n else 16 + 8 * d + 2 * (n - 4)
    h.deliverWord d 1 n (h.inputsPast (k + 1) ++ h.inputsPast k)

/-- Store what has completed its 20 course clocks into the output registers; pins whose BPs took no part keep their
values (R87). -/
def Hw.ioDeliver (h : Hw) : Hw :=
  let (due, rest) := h.ioOut.partition fun x => x.left == 0
  due.foldl (fun h x =>
    let a := userioA (0x80 + 4 * x.bank)
    h.setReg a ((h.reg a &&& ~~~ x.mask) ||| (x.value &&& x.mask))) { h with ioOut := rest }

/-- The present input registers (R16, R85). Word-channel samples are those of PROBE.WCH_k.LAST. -/
def Hw.inputsNow (h : Hw) : List Word32 :=
  (List.range 16).map (fun b => h.reg (userioA (0xC0 + 4 * b))) ++
  (List.range 16).map fun k =>
    BitVec.ofNat 32 (h.fget (probeA (0x408 + 32 * k)) 15 0 + 65536 * h.fget (probeA (0x418 + 32 * k)) 15 0)

/-- One course clock of the I/O path. -/
def Hw.ioClock (h : Hw) : Hw :=
  { h with ioOut := h.ioOut.map fun x => { x with left := x.left - 1 }
           ioIn := (h.inputsNow :: h.ioIn).take 20 }

end Sys2Proof.Machine
end

