-- ==== Sys2Proof/Machine/BankOps.lean ====
section
/-!
DEFINITION. Design memory banks as the design reaches them: the sampled command, reads, writes, masked writes, commits and
write-backs (R158 to R171, R174).
-/

namespace Sys2Proof.Machine

/-- The 17-bit command that bank j of die d samples in this course (R160). -/
def Hw.bankCmd (h : Hw) (d j : Nat) : BitVec 17 :=
  ofBits 17 fun n => h.sbOut d (homeTruss j) (24 + n)

def cmdOp (c : BitVec 17) : Nat := fld c 1 0
def cmdAddr (c : BitVec 17) : Nat := fld c 16 2

/-- Owner in force of bank j (R171). -/
def Hw.bankOwner (h : Hw) (d j : Nat) : Nat := h.fget (bankA d (4 * j)) 2 0

/-- L_M and L_W of the loaded image (R163). -/
def Hw.latFull (h : Hw) (d : Nat) : Nat := h.fget (bankA d 0x100) 20 16
def Hw.latMasked (h : Hw) (d : Nat) : Nat := h.fget (bankA d 0x100) 28 24

/-- Capture in BANK.UE_LOC; in one course the lowest bank is kept (Table 6.8). -/
def Hw.bankLoc (h : Hw) (d j a kind : Nat) (ridge : Bool) : Hw :=
  h.capture32 (bankA d 0x114)
    (BitVec.ofNat 32 (j + 2 ^ 6 * a + 2 ^ 21 * kind + (if ridge then 2 ^ 22 else 0))) fun v => fld v 5 0

/-- The old word as the internal read or a read sees it, with its finding, and whether it is unwritten: an incomplete
masked write of the word comes first (R165), then the stored word (R158). -/
def Hw.bankSees (h : Hw) (d j a : Nat) : Option Word64 × Found × Bool :=
  let B := d * 64 + j
  match ((h.bank B).rmw.filter fun r => r.addr == a).getLast? with
  | some r => (r.old.map fun o => (o &&& ~~~ (r.mask.getD 0)) ||| (r.data &&& r.mask.getD 0),
               if r.old.isNone then .bad else .clean, false)
  | none =>
    if !h.bankWritten B a then (some 0, .clean, true)
    else match decDecode (h.bankWord B a) with
      | (_, .bad) => (none, .bad, false)
      | (v, f) => (some v, f, false)

/-- Count, capture and raise what a bank read of the design found (R158, R168, R169). `first` says that the read counts
as a first read of an unwritten word. -/
def Hw.bankFinding (h : Hw) (d j a : Nat) (f : Found) (first : Bool) : Hw :=
  let h := if first && h.bget (bankA d 0x104) 2 then (h.count (bankA d 0x10C)).raise (evBankFirstRead d) else h
  match f with
  | .clean => h
  | .corrected =>
    let h := h.count (bankA d 0x108)
    if h.bget (bankA d 0x104) 1 then h.raise (evBankCorrected d) else h
  | .bad =>
    let h := (h.bump (bankA d 0x110) 7 0).bankLoc d j a 0 false
    h.raisePoison (evBankUncorrectable d) (h.reg (bankA d 0x114))

/-- A corrected word waits for its write-back when WB_EN is 1 (R168). -/
def Hw.bankWbAdd (h : Hw) (d j a : Nat) (v : Word64) (f : Found) : Hw :=
  let B := d * 64 + j
  if f = .corrected && h.bget (bankA d 0x104) 0 then
    h.setBank B { h.bank B with wb := (h.bank B).wb ++ [⟨a, v, h.seq.pos⟩] }
  else h

def Hw.bankWbDrop (h : Hw) (B a : Nat) : Hw :=
  h.setBank B { h.bank B with wb := (h.bank B).wb.filter fun w => w.addr != a }

/-- Complete the writes in flight that satisfy p: merge, write with new check bits, set the valid bit (R162, R164, R170). An
uncorrectable old word lets nothing be written (R169). -/
def Hw.bankCommit (h : Hw) (B : Nat) (p : BankRmw → Bool) : Hw :=
  let k := h.bank B
  let h := (k.rmw.filter p).foldl (fun h r => match r.old with
    | none => h
    | some o =>
      let m := r.mask.getD 0
      (h.holdBank B r.addr).setBankWord B r.addr ((o &&& ~~~ m) ||| (r.data &&& m))) h
  h.setBank B { h.bank B with rmw := k.rmw.filter fun r => !p r }

/-- The writes in flight that are complete at a position, in command order: those whose courses have passed, and every earlier one of a
word that such a write takes (R165, R199). -/
def dueRmw (pos : Nat) : List BankRmw → List BankRmw
  | [] => []
  | r :: rs => if decide (r.pos ≤ pos) || (dueRmw pos rs).any (fun x => x.addr == r.addr) then r :: dueRmw pos rs else dueRmw pos rs

/-- What every design command meets first: the slot after a MASKED_WRITE discards it (R164), and a bank that DESIGN does
not own refuses it (R174). `f` is the command's own effect. -/
def Hw.bankCommand (h : Hw) (d j op : Nat) (f : Nat → Hw → Hw) : Hw :=
  let c := h.bankCmd d j
  h.once (.bank d j) ((h.execRow d).isSome && decide (j < 64) && cmdOp c == op) fun h =>
    let B := d * 64 + j
    if (h.bank B).blocked == some h.seq.pos then h.hazard d 4 (homeTruss j) none j
    else if h.bankOwner d j ≠ 0 then
      let h := (h.bump (bankA d 0x110) 15 8).bankLoc d j (cmdAddr c) 1 false
      h.raisePoison (evBankNotOwned d) (h.reg (bankA d 0x114))
    else f (cmdAddr c) h

/-- BANK_READ: the word as it stands after every earlier write sets out for the home truss's loft read bus (R163,
R165). -/
def execBankRead (h : Hw) (d j : Nat) : Hw :=
  h.bankCommand d j 1 fun a h =>
    let (v, f, first) := h.bankSees d j a
    let h := h.bankFinding d j a f first
    let h := h.bankWbAdd d j a (v.getD 0) f
    let T := trussIx d (homeTruss j)
    let k := h.truss T
    h.setTruss T { k with reads := k.reads ++ [⟨h.seq.pos + h.latFull d, v.getD 0, true⟩] }

/-- BANK_READ_DELIVER: bank words due in this course stand on the home truss's loft read bus (R163, R166). -/
def execBankReadDeliver (h : Hw) (d j : Nat) : Hw :=
  let T := trussIx d (homeTruss j)
  if (h.truss T).reads.any fun r => r.bank && r.pos == h.seq.pos then execLoftReadDeliver h d (homeTruss j) else h

/-- BANK_WRITE: the truss output vector is the word, which is committed in course q + L_M (R162, R163): a write in flight
whose mask is all ones and which needs no old word. -/
def execBankWrite (h : Hw) (d j : Nat) : Hw :=
  h.bankCommand d j 2 fun a h =>
    let B := d * 64 + j
    let h := h.bankWbDrop B a
    let k := h.bank B
    h.setBank B { k with
      rmw := k.rmw ++ [⟨a, (h.truss (trussIx d (homeTruss j))).outv, some 0xFFFFFFFFFFFFFFFF#64, some 0, h.seq.pos + h.latFull d⟩] }

/-- BANK_MASKED_WRITE: the old word is read and the slot of the next course is taken; the next executed course's output
vector is the mask, or zero when the frame ends first (R162, R164). -/
def execBankMaskedWrite (h : Hw) (d j : Nat) : Hw :=
  h.bankCommand d j 3 fun a h =>
    let B := d * 64 + j
    let (v, f, _) := h.bankSees d j a
    let h := (h.bankFinding d j a f false).bankWbDrop B a
    let k := h.bank B
    h.setBank B { k with
      blocked := some (h.seq.pos + 1)
      rmw := k.rmw ++ [⟨a, (h.truss (trussIx d (homeTruss j))).outv, none, v, h.seq.pos + h.latMasked d⟩] }

/-- BANK_MASKED_COMMIT: writes whose L_W or L_M courses have passed are committed (R163, R164). -/
def execBankMaskedCommit (h : Hw) (d j : Nat) : Hw :=
  h.bankCommit (d * 64 + j) (dueRmw h.seq.pos (h.bank (d * 64 + j)).rmw).contains

/-- BANK_WRITEBACK: a corrected word is written back in the first later course in which the command is NONE and no write
to the word is in flight (R168). -/
def execBankWriteback (h : Hw) (d j : Nat) : Hw :=
  let B := d * 64 + j
  let k := h.bank B
  let ready (w : WriteBack) : Bool := w.pos != h.seq.pos && !(k.rmw.any fun r => r.addr == w.addr)
  h.once (.bankWb d j) (h.execClock && cmdOp (h.bankCmd d j) == 0 && k.wb.any ready) fun h =>
    match k.wb.find? ready with
    | none => h
    | some w => (h.setBank B { k with wb := k.wb.erase w }).setBankWord B w.addr w.data

end Sys2Proof.Machine
end

