-- ==== Sys2Proof/Machine/FarServe.lean ====
section
/-!
DEFINITION. The HBM controllers: serving far-memory requests, completing responses, write-backs and refresh (R176 to
R193).
-/

namespace Sys2Proof.Machine

/-- Location word of FAR.UE_LOC (Table 6.14). -/
def farLocWord (a q kind : Nat) (ridge : Bool) : Word64 :=
  BitVec.ofNat 64 (a % 2 ^ 33 + 2 ^ 33 * q + 2 ^ 40 * kind + (if ridge then 2 ^ 41 else 0))

def Hw.farLoc (h : Hw) (d a q kind : Nat) (ridge : Bool) : Hw :=
  h.capture64 (farA d 0x40) (farLocWord a q kind ridge)

/-- An uncorrectable far-memory word (R193). A ridge access poisons no frame. -/
def Hw.farUe (h : Hw) (d a q : Nat) (ridge : Bool) : Hw :=
  let h := (h.count (farA d 0x14)).farLoc d a (if ridge then 0 else q) 0 ridge
  let det := h.reg (farA d 0x40)
  if ridge then h.raiseWith (evFarUncorrectable d) det false else h.raisePoison (evFarUncorrectable d) det

/-- One far-memory word read: unwritten words and corrected words are counted and raised (R158, R192, R193); `first`
says that an unwritten word counts. The value is none when the word is uncorrectable. -/
def Hw.farRead (h : Hw) (d a q : Nat) (ridge first : Bool) : Option Word64 × Hw :=
  if !h.farWritten d a then
    (some 0, if first && h.bget (farA d 0xC) 1 then (h.count (farA d 0x18)).raise (evFarFirstRead d) else h)
  else match decDecode (h.farWord d a) with
    | (v, .clean) => (some v, h)
    | (v, .corrected) =>
      let h := h.count (farA d 0x10)
      let h := if h.bget (farA d 0xC) 0 then h.raise (evFarCorrected d) else h
      (some v, { h with farWb := Store.set none h.farWb (farKey d a) (some v) })
    | (_, .bad) => (none, h.farUe d a q ridge)

/-- A far-memory write of the design, whose mask m has let v come of the old word, with the pages of a capture kept (R373, R379),
dropping a pending write-back. -/
def Hw.farDesignWrite (h : Hw) (d a : Nat) (v m : Word64) (after : Bool) : Hw :=
  let h := (h.holdFar d a after).setFarWord d a v
  { h.lateFar d a v m after with farWb := Store.set none h.farWb (farKey d a) none }

/-- The first addressed word outside the DESIGN region, if there is one (R183). -/
def Hw.reqOut (h : Hw) (d : Nat) (w : Word64) : Option Nat :=
  ((List.range (reqLen w)).map (reqWordAddr w)).find? fun a => !h.inDesign d a

/-- FMQ_RANGE: counted, captured and poisoning (R183). -/
def Hw.farRange (h : Hw) (d q a : Nat) : Hw :=
  let h := (h.count (farA d 0x24)).farLoc d a q 1 false
  h.raisePoison (evFmqRange d) (h.reg (farA d 0x40))

/-- Take the request at the head of module pair Q when its operation is `op` and serve it (R186): `f` gives the response
words, if there is a response. -/
def Hw.serve (h : Hw) (Q op : Nat) (f : Nat → Nat → FmqReq → Hw → Option (List Word64) × Hw) : Hw :=
  let pr := h.qpair Q
  match pr.reqs with
  | [] => h
  | r :: rest =>
    if Q ≥ 256 || reqOp (r.words.headD 0) != op then h else
    let (ans, h) := f (Q / 128) (Q % 128) r (h.setQpair Q { pr with reqs := rest })
    match ans with
    | none => h
    | some ws =>
      let pr := h.qpair Q
      h.setQpair Q { pr with resps := pr.resps ++ [⟨ws, r.pushed, r.pushPos, false, r.delayed⟩] }

/-- FMQ_REQ_READ: word k of the response holds the k-th addressed word (R179, R180). -/
def execFmqReqRead (h : Hw) (Q : Nat) : Hw :=
  h.serve Q 0 fun d q r h =>
    let w := r.words.headD 0
    match h.reqOut d w with
    | some a => (some (List.replicate (reqLen w) 0), h.farRange d q a)
    | none =>
      let (vs, h) := (List.range (reqLen w)).foldl (fun (acc : List Word64 × Hw) k =>
        let (v, h) := acc.2.farRead d (reqWordAddr w k) q false true
        (acc.1 ++ [v.getD 0], h)) ([], h)
      (some vs, h)

/-- The ACK response of a write (R180). -/
def ackOf (w : Word64) : Option (List Word64) := if reqAck w then some [1] else none

/-- FMQ_REQ_WRITE: words 1 to LEN of the entry are stored (R179). -/
def execFmqReqWrite (h : Hw) (Q : Nat) : Hw :=
  h.serve Q 1 fun d q r h =>
    let w := r.words.headD 0
    match h.reqOut d w with
    | some a => (ackOf w, h.farRange d q a)
    | none =>
      let after := h.afterPoint r.pushed
      (ackOf w, (List.range (reqLen w)).foldl (fun h k =>
        h.farDesignWrite d (reqWordAddr w k) (r.words.getD (k + 1) 0) (-1) after) h)

/-- FMQ_REQ_MASKED_WRITE: the enabled bits merge into the old word, corrected when it needs to be; an uncorrectable old
word lets nothing be written (R179, R193). The internal read of an unwritten word is not counted (R158). -/
def execFmqReqMaskedWrite (h : Hw) (Q : Nat) : Hw :=
  h.serve Q 2 fun d q r h =>
    let w := r.words.headD 0
    match h.reqOut d w with
    | some a => (ackOf w, h.farRange d q a)
    | none =>
      let a := reqAddr w
      let (old, h) := h.farRead d a q false false
      match old with
      | none => (ackOf w, h)
      | some o =>
        let m := r.words.getD 2 0
        (ackOf w, h.farDesignWrite d a ((o &&& ~~~ m) ||| (r.words.getD 1 0 &&& m)) m (h.afterPoint r.pushed))

/-- Whether the pad of R181 has ended for a response: L_F course clocks since its push, level-change gaps not counted. -/
def Hw.padEnded (h : Hw) (d : Nat) (r : FmqResp) : Bool :=
  decide (r.pushed + h.fget (farA d 0) 24 16 ≤ h.seq.padClk)

/-- FMQ_RESPONSE_COMPLETE: the responses of pair Q whose pad has ended become complete (R181). -/
def execFmqResponseComplete (h : Hw) (Q : Nat) : Hw :=
  let pr := h.qpair Q
  let ended (r : FmqResp) : FmqResp := if h.padEnded (Q / 128) r then { r with complete := true } else r
  h.setQpair Q { pr with resps := pr.resps.map ended }

/-- FAR_WRITEBACK: a corrected word is written back when no write to it is queued (R193). -/
def execFarWriteback (h : Hw) (d a : Nat) : Hw :=
  let queued := (List.range 128).any fun q => (h.qpair (d * 128 + q)).reqs.any fun r =>
    let w := r.words.headD 0
    reqOp w != 0 && (List.range (reqLen w)).any fun k => reqWordAddr w k == a
  match Store.get none h.farWb (farKey d a) with
  | some v =>
    if queued then h else
    { h with farWb := Store.set none h.farWb (farKey d a) none, farMem := Store.set 0 h.farMem (farKey d a) (decEncode v) }
  | none => h

/-- A memory-quiet position of die d's resolved frame, or slack (R188). -/
def Hw.quietPos (h : Hw) (d : Nat) : Bool :=
  match h.segAt d h.seq.pos with
  | some s => s.quiet
  | none => true

/-- Key of pseudo-channel ch of die d. -/
def refreshKey (d ch : Nat) : Nat := d + 2 * ch

/-- REFRESH: in memory-quiet and slack positions the controller of pseudo-channel ch of die d makes up a postponed refresh, or
refreshes ahead of schedule up to what the standard allows (R188). -/
def execRefresh (h : Hw) (d ch : Nat) : Hw :=
  let k := refreshKey d ch
  if !h.quietPos d then h
  else if Store.get 0 h.refreshLate k ≠ 0 then { h with refreshLate := Store.modify 0 h.refreshLate k fun n => n - 1 }
  else { h with refreshAhead := Store.modify 0 h.refreshAhead k fun n => min Config.refreshPullIn (n + 1) }

/-- The request addresses a word of pseudo-channel ch of die d. -/
def FmqReq.touches (r : FmqReq) (d ch : Nat) : Bool :=
  let w := r.words.headD 0
  (List.range (reqLen w)).any fun k => Config.pseudoChannel d (reqWordAddr w k) == ch

/-- A forced refresh of pseudo-channel ch delays the request at the head of pair q, when it addresses that pseudo-channel
(R188, R190). -/
def Hw.delayHead (h : Hw) (d ch q : Nat) : Hw :=
  let pr := h.qpair (d * 128 + q)
  match pr.reqs with
  | [] => h
  | r :: rest =>
    if q < 128 && r.touches d ch then h.setQpair (d * 128 + q) { pr with reqs := { r with delayed := true } :: rest } else h

/-- FORCED_REFRESH: outside those positions a refresh of pseudo-channel ch falls due. One that has been pulled in covers it;
else it is postponed, up to the number the standard allows; else it is issued at once and counted. It can delay only requests
to the pseudo-channel it refreshes (R188): those at the head of the named pairs (R190). -/
def execForcedRefresh (h : Hw) (d ch : Nat) (pairs : List Nat) : Hw :=
  let k := refreshKey d ch
  if h.quietPos d then h
  else if Store.get 0 h.refreshAhead k ≠ 0 then { h with refreshAhead := Store.modify 0 h.refreshAhead k fun n => n - 1 }
  else if Store.get 0 h.refreshLate k < Config.refreshPostpone then
    { h with refreshLate := Store.modify 0 h.refreshLate k fun n => n + 1 }
  else pairs.foldl (fun h q => h.delayHead d ch q) (h.count (farA d 0x28))

/-! ## The priority of queues (R187) -/

/-- The request at the head of module pair Q is served. -/
def Hw.serveHead (h : Hw) (Q : Nat) : Hw :=
  match (h.qpair Q).reqs with
  | [] => h
  | r :: _ =>
    let op := reqOp (r.words.headD 0)
    if op = 0 then execFmqReqRead h Q else if op = 1 then execFmqReqWrite h Q else execFmqReqMaskedWrite h Q

/-- Pair Q serves its requests in order until none of them addresses pseudo-channel ch; at most n of them. -/
def Hw.drainPair (h : Hw) (d ch Q : Nat) : Nat → Hw
  | 0 => h
  | n + 1 => if (h.qpair Q).reqs.any fun r => r.touches d ch then (h.serveHead Q).drainPair d ch Q n else h

/-- A ridge access to a far-memory word waits while a design request for its pseudo-channel is queued: those requests are
performed before it (R187). -/
def Hw.ridgeWaits (h : Hw) (d a : Nat) : Hw :=
  (h.qpairs.filter fun kv => kv.1 / 128 == d).foldl
    (fun h kv => h.drainPair d (Config.pseudoChannel d a) kv.1 kv.2.reqs.length) h

/-- A far-memory read over the ridge network (R187, R192, R193). -/
def Hw.farRidgeRead (h : Hw) (d a : Nat) (first : Bool) : Option Word64 × Hw := (h.ridgeWaits d a).farRead d a 0 true first

/-- A far-memory write over the ridge network (R187, R192), with the pages of a capture kept (R379). -/
def Hw.farRidgeWrite (h : Hw) (d a : Nat) (v : Word64) : Hw :=
  let h := ((h.ridgeWaits d a).holdFar d a true).setFarWord d a v
  { h with farWb := Store.set none h.farWb (farKey d a) none }

end Sys2Proof.Machine
end

