-- ==== Sys2Proof/Machine/Fabric.lean ====
section
/-!
DEFINITION. Deliveries of the static fabric, the hazards of a course that belong to no BP, power credits, and the end of a
course position (R36, R71, R95 to R110, R195, R203, R208, R233 to R235).
-/

namespace Sys2Proof.Machine

/-! ## Deliveries -/

/-- Set bit n of truss T's incoming battens. -/
def Hw.setIn (h : Hw) (T n : Nat) (v : Bool) : Hw :=
  let k := h.truss T
  h.setTruss T { k with inb := setBit k.inb n v }

/-- Group of bridge batten j of column k (R107). -/
def bridgeGroup (k j : Nat) : Nat := 3 * (k / 8) + j / 4

/-- The groups whose parity fails when the bits of `flips` and the parity bits of `par` arrive wrong (R107). -/
def failingGroups (flips : BitVec 384) (par : BitVec 12) : List Nat :=
  (List.range 12).filter fun g =>
    bit par g ^^ ((List.range 32).foldl (fun acc k => (List.range 12).foldl (fun acc j =>
      acc ^^ (bridgeGroup k j == g && bit flips (k * 12 + j))) acc) false)

/-- Bridge words arriving at die d in this course, with the bits and parity bits that arrive wrong (R107). PAR_ERR is the
capture register that the rule names, so its word is the event's DETAIL (R425). -/
def Hw.bridgeArrive (h : Hw) (d : Nat) (flips : BitVec 384) (par : BitVec 12) : Hw :=
  h.once (.bridge d) (h.execClock && decide (d < 2)) fun h =>
    let h := { h with bridgeErr := Store.set 0 h.bridgeErr d flips }
    match failingGroups flips par with
    | [] => h
    | g :: gs =>
      let a := bridgeA d 4
      let h := h.bump a 15 0 (gs.length + 1)
      let h := if h.bget a 31 then h else (h.fset a 19 16 g).setW1c a 31
      h.raisePoison (evBridgeParity d) (h.reg a)

/-- A path of the fabric as FABRIC_DELIVERY names it. -/
def Hw.fabricDeliver (h : Hw) : FabricPath → Hw
  | .batten d t n =>
    if (h.execRow d).isSome && decide (t < 512) && decide (n < 48) then h.setIn (trussIx d t) n (h.inBatten d t n) else h
  | .purlin d t p =>
    if (h.execRow d).isSome && decide (t < 512) && decide (p < 8) then
      let k := h.truss (trussIx d t)
      h.setTruss (trussIx d t) { k with pin := setBit k.pin p (h.inPurlin d t p) }
    else h
  | .bridge d flips par => h.bridgeArrive d flips par

/-- FABRIC_DELIVERY (R96). -/
def execFabricDelivery (h : Hw) (p : FabricPath) : Hw := h.fabricDeliver p

/-! ## Eave slots (R109, R234, R235) -/

/-- Die, truss, outgoing switch-box output and incoming select of slot s of port p (Table 4.5). -/
def slotEnds (p s : Nat) : Nat × Nat × Nat × Nat :=
  let d := p / 6
  let q := p % 6
  if q < 2 then (d, ((q % 2) * 8 + s / 12) * 32, 36 + s % 12, 36 + s % 12)
  else if q < 4 then (d, ((q % 2) * 8 + s / 12) * 32 + 31, 12 + s % 12, 12 + s % 12)
  else
    let k := (q % 2) * 16 + s / 6
    if d = 0 then (0, k, s % 6, s % 6) else (1, 480 + k, 24 + s % 6, 24 + s % 6)

/-- L_X of the crossing that leaves port p, from the loaded image; 0 states 160 (Table 7.1). -/
def Hw.txLat (h : Hw) (p : Nat) : Nat :=
  match h.img.loaded with
  | some l =>
    let v := ofBytes ((l.head.drop (0x6C + 2 * p)).take 2)
    if v = 0 then 160 else v
  | none => 160

/-- The 96 slot bits that port p transmits for this position (R234, R274). -/
def Hw.txBits (h : Hw) (p : Nat) : BitVec 96 :=
  ofBits 96 fun s =>
    let (d, t, m, _) := slotEnds p s
    if h.isolated d t then h.cellValue (eaveCell p s) else h.sbOut d t m

/-- The slot group of this position waits in the transmit queue of every crossing port for which q + L_X < S (R234). A port
that is not ACTIVE discards it (R113). -/
def Hw.queueGroups (h : Hw) : Hw :=
  h.conf.crossPorts.foldl (fun h p =>
    if (h.port p).state = .active ∧ h.seq.pos + h.txLat p < h.seq.schedLen then
      let pt := h.port p
      h.setPort p { pt with txGroups := pt.txGroups ++ [⟨h.seq.frame.toNat % 16, h.seq.pos, h.txBits p⟩] }
    else h) h

/-- SLOT_GROUP_DELIVER: the group of position POS arrives at POS + L_X on the attached battens; a group that has not come
delivers 0, is counted, and poisons the frame (R235). -/
def execSlotGroupDeliver (h : Hw) (p : Nat) : Hw :=
  let lx := h.fget (eaveA p 0x100) 8 0
  let due := h.execClock && h.conf.crossPorts.contains p && (h.port p).state = .active &&
    decide (lx ≤ h.seq.pos) && decide (h.seq.pos < h.seq.schedLen)
  h.once (.slotGroup p) due fun h =>
    let found := (h.port p).groupFor (h.seq.frame.toNat % 16) (h.seq.pos - lx)
    let bits := match found with | some g => g.bits | none => 0
    let h := (List.range 96).foldl (fun h s =>
      let (d, t, _, n) := slotEnds p s
      h.setIn (trussIx d t) n (bit bits s)) h
    match found with
    | some g =>
      let pt := h.port p
      h.setPort p { pt with rxGroups := pt.rxGroups.erase g, arrived := some g }
    | none => (h.count (eaveA p 0x2C)).raisePoison (evSlotMissing p)

/-! ## Credits and the hazards of a whole course -/

/-- Credits that die d spends in this course (R195). -/
def Hw.creditsNow (h : Hw) (d : Nat) : Nat :=
  if (h.execRow d).isNone then 0 else
  let perTruss := (List.range 512).foldl (fun n t => match h.ctl d t with
    | some c => n + (if (loftField c).1 = .none then 0 else 1) +
        (match portField c with | some o => if o.op = 1 then 2 else 0 | none => 0)
    | none => n) 0
  perTruss + ((List.range 64).filter fun j => cmdOp (h.bankCmd d j) != 0).length * 4

/-- PEAK and SUM16 that the image declares for die d (R202). -/
def Hw.creditBudget (h : Hw) (d : Nat) : Nat × Nat :=
  match h.img.loaded with
  | some l => (ofBytes ((l.head.drop (0x5C + 2 * d)).take 2), ofBytes ((l.head.drop (0x60 + 2 * d)).take 2))
  | none => (384, 4096)

/-- CREDIT_OVERRUN and SEQ.CREDIT_OBS, while the detector is powered (R208, R212). A position that overruns both budgets is two
hazards, and the window keeps the positions before a halt, a restore or an unchecked run until an image is applied (DESIGN
CHOICE: the manual states neither; log entry 61). -/
def Hw.creditCheck (h : Hw) (d : Nat) : Hw :=
  if !h.seq.checked then h else
  let now := h.creditsNow d
  let win := (now :: h.seq.credits.getD d []).take 16
  let sum := win.foldl (· + ·) 0
  let (peak, s16) := h.creditBudget d
  let h := { h with seq := { h.seq with credits := h.seq.credits.set d win } }
  let a := seqA d 0x8C
  let h := h.fset a 10 0 (max (h.fget a 10 0) now)
  let h := h.fset a 25 11 (max (h.fget a 25 11) sum)
  let h := if now > peak then h.hazard d 5 0 none 0 else h
  if sum > s16 then h.hazard d 5 0 none 1 else h

/-- Reserved encodings of truss t's control word (rows 6 to 10 of Table 3.17). -/
def Hw.ctlHazards (h : Hw) (d t : Nat) : Hw :=
  match h.ctl d t with
  | none => h
  | some c =>
    let h := (List.range 48).foldl (fun h m => if sbSel c m ≥ 122 then h.hazard d 8 t none 6 else h) h
    let h := if fld c 124 123 = 3 ∨ fld c 127 125 ≠ 0 then h.hazard d 8 t none 7 else h
    let h := if portReserved c then h.hazard d 8 t none 8 else h
    let h := if fld c 559 552 ≠ 0 then h.hazard d 8 t none 9 else h
    if fld c 575 568 ≠ 0 then h.hazard d 8 t none 10 else h

/-- Two or more enables on one purlin segment (R103). -/
def Hw.purlHazards (h : Hw) (d p : Nat) : Hw :=
  (List.range 512).foldl (fun h t =>
    let seg := purlSegment t p
    if seg.head? != some t then h else
    match seg.filter fun u => (h.purlDrive d u p).1 with
    | u :: _ :: _ => h.hazard d 1 u none p
    | _ => h) h

/-- Two or more trusses supplying one port (R88). -/
def Hw.portHazards (h : Hw) (d : Nat) : Hw :=
  [(0, 128), (1, 4), (2, 32), (3, 128)].foldl (fun h un =>
    (List.range un.2).foldl (fun h n =>
      match h.portUsers d un.1 n true with
      | u :: _ :: _ => h.hazard d 1 u.1 none (0x80 + n)
      | _ => h) h) h

/-- The hazards of a course that belong to no BP, tested in checked mode only (R207, R208). -/
def Hw.courseHazards (h : Hw) (d : Nat) : Hw :=
  h.once (.haz d) (h.seq.checked && h.execClock) fun h =>
    let h := if (h.execRow d).isNone then h else
      let h := (List.range 512).foldl (fun h t => h.ctlHazards d t) h
      let h := (List.range 8).foldl (fun h p => h.purlHazards d p) h
      h.portHazards d
    h.creditCheck d

/-! ## The end of a position -/

/-- A history with a new value in front, at most n long, and no trailing zeros kept. -/
def pushHist {w : Nat} (n : Nat) (x : BitVec w) (l : List (BitVec w)) : List (BitVec w) :=
  (((x :: l).take n).reverse.dropWhile (· == 0)).reverse

/-- One truss at the end of an executed course: the results enter the slate rings and the output vector (R35, R71), and
what it drove enters the fabric (R98, R102). -/
def Hw.endTruss (h : Hw) (d t : Nat) : Truss :=
  let k := h.truss (trussIx d t)
  let sb := ofBits 48 (h.sbOut d t)
  let purl : Byte := ofBits 8 fun p => (h.purlDrive d t p).2
  { k with
    slate := pushHist 112 k.res k.slate
    outv := k.res &&& k.drv
    res := 0, drv := 0, bpDone := 0
    sb := pushHist 32 sb k.sb, lastSb := sb
    purl := pushHist 2 purl k.purl, lastPurl := purl
    reads := k.reads.filter fun r => decide (h.seq.pos < r.pos)
    inb := 0, pin := 0, bus := 0 }

/-- A truss of a die in slack at this position drives nothing (R96). -/
def slackTruss (pos : Nat) (k : Truss) : Truss :=
  { k with sb := pushHist 32 0 k.sb, purl := pushHist 2 0 k.purl
           reads := k.reads.filter fun r => decide (pos < r.pos), inb := 0, pin := 0, bus := 0 }

/-- The masks that this course's successor gives to masked bank writes: the home truss's next output vector when the die
executes the next position, else zero (R162). -/
def Hw.giveMasks (h : Hw) (d : Nat) : Hw :=
  let next := (h.rowAt d (h.seq.pos + 1)).isSome
  { h with banks := h.banks.map fun kv =>
      if kv.1 / 64 = d then
        let o := (h.truss (trussIx d (homeTruss (kv.1 % 64)))).outv
        let m := if next then o else 0
        (kv.1, { kv.2 with rmw := kv.2.rmw.map fun r => if r.mask.isNone then { r with mask := some m } else r })
      else kv }

/-- The trusses of die d that hold something beside their memories, obey a listed row in this course, or meet a marked one.
Every other truss executes the unlisted NOP row: it produces, drives and changes nothing. -/
def Hw.liveTrusses (h : Hw) (d : Nat) : List Nat :=
  let row := h.execRow d
  (List.range 512).filter fun t =>
    (h.trusses.any fun kv => kv.1 == trussIx d t) ||
    (match row with | some r => (h.rowListed (trussIx d t) r).isSome || h.marked d t r | none => false)

/-- The end of an executed position on both dies. -/
def Hw.endPosition (h : Hw) : Hw :=
  let g := h.queueGroups
  let h := [0, 1].foldl (fun (acc : Hw) d =>
    (g.liveTrusses d).foldl (fun (acc : Hw) t =>
      let T := trussIx d t
      acc.setTruss T (if (g.execRow d).isSome then g.endTruss d t else slackTruss g.seq.pos (g.truss T))) acc) g
  let h := (h.giveMasks 0).giveMasks 1
  let h := h.conf.crossPorts.foldl (fun h p => h.setPort p { h.port p with arrived := none }) h
  { h with portWords := [], bridgeErr := [] }

end Sys2Proof.Machine
end

