-- ==== Sys2Proof/Machine/Calls.lean ====
section
/-!
DEFINITION. The call scheduler (chapter 11): raises, acceptance, readiness, assignment, dispatch, completion, delivery,
pulls and cancellation, and the calls that the MP serves.
-/

namespace Sys2Proof.Machine

/-! ## Slots, lists and status views -/

def Hw.call (h : Hw) (slot : Nat) : Option Call := Store.get none h.calls.slots slot

def Hw.putCall (h : Hw) (slot : Nat) (c : Option Call) : Hw :=
  { h with calls := { h.calls with slots := Store.set none h.calls.slots slot c } }

/-- Stored calls with their slots, by slot. -/
def Hw.callList (h : Hw) : List (Nat × Call) := h.calls.slots.filterMap fun kv => kv.2.map fun c => (kv.1, c)

/-- Waiting, delayed, ready or running: not yet complete (R317, R333). -/
def Call.active (c : Call) : Bool :=
  match c.state with
  | .held | .delivered => false
  | _ => true

/-- Issue order (R315): by frame, then position, then port. -/
def Call.before (a b : Call) : Bool :=
  decide (a.frame < b.frame) || (a.frame == b.frame && (decide (a.pos < b.pos) ||
    (a.pos == b.pos && decide (a.port < b.port))))

def Raise.before (a b : Raise) : Bool :=
  decide (a.frame < b.frame) || (a.frame == b.frame && (decide (a.pos < b.pos) ||
    (a.pos == b.pos && decide (a.port < b.port))))

/-- The first of a list in a given order. -/
def firstBy {α : Type} (lt : α → α → Bool) : List α → Option α
  | [] => none
  | x :: xs => match firstBy lt xs with
    | some y => if lt y x then some y else some x
    | none => some x

def Hw.readyList (h : Hw) (w : Nat) : List Nat := Store.get [] h.calls.ready w

def Hw.setReady (h : Hw) (w : Nat) (l : List Nat) : Hw :=
  { h with calls := { h.calls with ready := Store.set [] h.calls.ready w l } }

def Hw.results (h : Hw) (port : Nat) : List Nat := Store.get [] h.calls.results port

def Hw.setResults (h : Hw) (port : Nat) (l : List Nat) : Hw :=
  { h with calls := { h.calls with results := Store.set [] h.calls.results port l } }

/-- Calls running on a worker. -/
def Hw.runningOn (h : Hw) (w : Nat) : List (Nat × Call) := h.callList.filter fun sc => sc.2.state == .running w

/-- CALLS.STAT (Table 11.4). -/
def Hw.callsStat (h : Hw) : Word32 :=
  let cs := h.callList
  BitVec.ofNat 32 (cs.length + 2 ^ 13 * (cs.filter fun sc => sc.2.state == .delayed).length)

/-- CALLS.PORT_k.STAT (Table 11.5). -/
def Hw.portStat (h : Hw) (k : Nat) : Word32 :=
  BitVec.ofNat 32 ((h.callList.filter fun sc => sc.2.port == k && sc.2.active).length +
    2 ^ 13 * (h.results k).length)

/-- CALLS.WQ_w.STAT (Table 11.7). -/
def Hw.wqStat (h : Hw) (w : Nat) : Word32 :=
  BitVec.ofNat 32 ((h.readyList w).length + 2 ^ 13 * (h.runningOn w).length)

/-- A call event for the sequence trace (R334, R360, R362). -/
def Hw.callEvent (h : Hw) (event status slot : Nat) (c : Call) : Hw :=
  h.offer 2 (callPacket h.frameLo event status c.worker c.port c.gen slot h.clockTag)

/-! ## Raising (R86, R315) -/

/-- CALL_ARG on die-local port n: word WORD of the arguments, and with LAST the raise (R86, R315). -/
def execCallArg (h : Hw) (d n : Nat) : Hw :=
  h.portOnce d 2 n true fun users o h =>
    let k := 32 * d + n
    let asm := Store.set 0 h.calls.asm (k * 4 + o.word) (h.supplyWord d users)
    if !o.last then { h with calls := { h.calls with asm := asm } }
    else
      let w (i : Nat) : Word64 := Store.get 0 asm (k * 4 + i)
      let r : Raise := ⟨h.seq.frame, h.seq.pos, k, h.reg (callsA (0x100 + 16 * k)),
        h.reg64 (callsA (0x104 + 16 * k)), w 3 ++ w 2 ++ w 1 ++ w 0⟩
      { h with calls := { h.calls with
          asm := (List.range 4).foldl (fun m i => Store.set 0 m (k * 4 + i) 0) asm
          raises := h.calls.raises ++ [r] } }

/-! ## Completion (R329, R332) -/

/-- Every call that has the completed one as a predecessor drops it (R329). -/
def dropDep (slot : Nat) (failed cancelled : Bool) (c : Call) : Call :=
  if c.deps.contains slot then
    { c with deps := c.deps.erase slot, depFail := c.depFail || failed, depCancel := c.depCancel || cancelled }
  else c

def Hw.dropDeps (h : Hw) (slot : Nat) (failed cancelled : Bool) : Hw :=
  { h with calls := { h.calls with
      slots := h.calls.slots.map fun kv => (kv.1, kv.2.map (dropDep slot failed cancelled)) } }

/-- A call completes with a status and a result: its port's RESULT decides whether it waits for delivery or frees its
slot (R329, R332). -/
def Hw.completeCall (h : Hw) (slot : Nat) (c : Call) (failed : Bool) (result : BitVec 256) : Hw :=
  let h := if failed then h.count (callsA 0x2C) else h
  let h := h.callEvent 2 (if failed then 1 else 0) slot c
  let h := h.putCall slot (if c.resultEn then
    some { c with state := .held, status := if failed then 1 else 0, result := result } else none)
  h.dropDeps slot failed false

/-! ## Readiness and assignment (R318 to R320) -/

/-- Eligible workers of a class: enabled host workers of WORKERS, and the MP as worker 32 (R319). -/
def Hw.eligible (h : Hw) (cls : Nat) : List Nat :=
  (List.range 33).filter fun w =>
    if w = 32 then h.bget (callsA (0x804 + 8 * cls)) 0
    else h.bget (callsA (0x800 + 8 * cls)) w && h.bget (callsA (0x1000 + 64 * w)) 0

/-- Load of a worker: its ready list and the calls running on it (R319). -/
def Hw.load (h : Hw) (w : Nat) : Nat := (h.readyList w).length + (h.runningOn w).length

/-- The worker that R319 assigns. -/
def Hw.chooseWorker (h : Hw) (cls : Nat) : Option Nat :=
  let el := h.eligible cls
  let last := h.fget (callsA (0x804 + 8 * cls)) 6 1
  if el.contains last && decide ((h.readyList last).length ≤ h.fget (callsA 0) 7 0) then some last
  else firstBy (fun a b => decide (h.load a < h.load b)) el

/-- A call that has become ready joins a worker's ready list, or completes FAILED at once (R319, R320). -/
def Hw.assign (h : Hw) (slot : Nat) (c : Call) : Hw :=
  match h.chooseWorker c.cls with
  | some w =>
    let h := h.putCall slot (some { c with state := .ready w, worker := w })
    let h := h.setReady w (h.readyList w ++ [slot])
    h.fset (callsA (0x804 + 8 * c.cls)) 6 1 w
  | none => ((h.count (callsA 0x1C)).raise evCallNoWorker).completeCall slot c true 0

/-- Released calls whose dependence counter is 0 become ready, in issue order, until none is left. Each round takes one
call out of the waiting state, so as many rounds as slots are enough. -/
def Hw.settle : Nat → Hw → Hw
  | 0, h => h
  | n + 1, h =>
    match firstBy (fun a b : Nat × Call => a.2.before b.2)
        (h.callList.filter fun sc => sc.2.state == .waiting && sc.2.deps.isEmpty) with
    | some (slot, c) => Hw.settle n (h.assign slot c)
    | none => h

def Hw.settleCalls (h : Hw) : Hw := h.settle 4096

/-- CALL_RELEASE: every delayed call whose release frame has begun leaves the delay list (R318). -/
def execCallRelease (h : Hw) : Hw :=
  let free (c : Call) : Call :=
    if c.state == .delayed && decide (c.release ≤ h.seq.frame.toNat) then { c with state := .waiting } else c
  ({ h with calls := { h.calls with slots := h.calls.slots.map fun kv => (kv.1, kv.2.map free) } } : Hw).settleCalls

/-! ## Acceptance (R315 to R317) -/

/-- The lowest free slot (R316). -/
def Hw.freeSlot (h : Hw) : Option Nat := (List.range 4096).find? fun s => (h.call s).isNone

/-- Predecessors of a raise of port k: for each other port of the mask, its latest call that is not yet complete
(R317). -/
def Hw.predecessors (h : Hw) (k : Nat) (mask : Word64) : List Nat :=
  (List.range 64).filterMap fun j =>
    if j ≠ k && bit mask j then
      (firstBy (fun a b : Nat × Call => b.2.before a.2)
        (h.callList.filter fun sc => sc.2.port == j && sc.2.active)).map (·.1)
    else none

/-- Discard a raise: count it, raise the event and poison the frame (R316). -/
def Hw.discardRaise (h : Hw) (counter id : Nat) : Hw := (h.count (callsA counter)).raisePoison id

/-- Store an accepted raise in a slot (R316 to R318). -/
def Hw.storeCall (h : Hw) (r : Raise) (slot : Nat) : Hw :=
  let delay := fld r.cfg 23 16
  let gen := (Store.get 0 h.calls.gens slot + 1) % 16
  let c : Call := {
    gen := gen, port := r.port, cls := fld r.cfg 8 1, flow := fld r.cfg 14 9, inFlow := bit r.cfg 15
    resultEn := bit r.cfg 24, args := r.args, frame := r.frame, pos := r.pos, release := r.frame.toNat + delay
    deps := h.predecessors r.port r.mask, depFail := false, depCancel := false
    state := if delay = 0 then .waiting else .delayed, status := 0, worker := 63, result := 0 }
  let h := (h.count (callsA 0x10)).putCall slot (some c)
  let h := { h with calls := { h.calls with gens := Store.set 0 h.calls.gens slot gen } }
  let h := h.offer 2 (callPacket (r.frame.toNat % 65536) 0 0 63 r.port gen slot r.pos)
  h.settleCalls

/-- CALL_RAISE: the scheduler accepts the raise that is first in issue order (R315, R316). -/
def execCallRaise (h : Hw) : Hw :=
  match firstBy Raise.before h.calls.raises with
  | none => h
  | some r =>
    let h := { h with calls := { h.calls with raises := h.calls.raises.erase r } }
    if !bit r.cfg 0 then h.discardRaise 0x18 evCallPortOff
    else
      let full := fld r.cfg 23 16 != 0 &&
        decide ((h.callList.filter fun sc => sc.2.state == .delayed).length ≥ 1024)
      match h.freeSlot with
      | some slot => if full then h.discardRaise 0x14 evCallOverflow else h.storeCall r slot
      | none => h.discardRaise 0x14 evCallOverflow

/-! ## Dispatch (R321 to R323, R327) -/

/-- Ring size of a LOG2 field: 4 to 12, other values act as 4 (Table 11.7). -/
def ringSize (n : Nat) : Nat := if 4 ≤ n ∧ n ≤ 12 then 2 ^ n else 16

/-- The dispatch record (Table 11.1). -/
def dispatchRecord (h : Hw) (slot : Nat) (c : Call) (phase : Nat) : List Byte :=
  bytesOf 4 (slot + 2 ^ 12 * c.gen + 2 ^ 16 * c.port + (if c.depFail then 2 ^ 22 else 0) +
    (if c.depCancel then 2 ^ 23 else 0) + 2 ^ 31 * phase) ++
  bytesOf 4 (c.cls + 2 ^ 8 * (c.flow + if c.inFlow then 64 else 0) + 2 ^ 16 * (h.devIndex % 64)) ++
  bytesOf 8 c.frame.toNat ++ bytesOf 2 c.pos ++ List.replicate 14 0 ++ bytesOf 32 c.args.toNat

/-- The head writes a member's dispatch record, or keeps it while Bus Master Enable is 0 (R327, R429). -/
def Hw.memberRecord (h : Hw) (addr : Nat) (bytes : List Byte) : Hw :=
  if h.bme then h.emit (.hostWrite addr bytes)
  else { h with host := { h.host with recs := h.host.recs ++ [(addr, bytes)] } }

/-- The dispatch records that waited for Bus Master Enable are written. -/
def Hw.flushRecords (h : Hw) : Hw :=
  if !h.bme || h.host.recs.isEmpty then h
  else h.host.recs.foldl (fun h r => h.emit (.hostWrite r.1 r.2)) { h with host := { h.host with recs := [] } }

/-- Write to host memory: the head and a module on its own write through their own link, a member through its head
(R327). -/
def Hw.workerWrite (h : Hw) (w addr : Nat) (bytes : List Byte) : Hw :=
  if h.isMember then h.sendMsg h.conf.head (.dispatchRecord w addr bytes) else h.emit (.hostWrite addr bytes)

/-- The call that a worker takes: the head of its ready list. -/
def Hw.takeReady (h : Hw) (w : Nat) : Option (Nat × Call × Hw) :=
  match h.readyList w with
  | [] => none
  | slot :: rest => match h.call slot with
    | none => none
    | some c => some (slot, c, (h.setReady w rest).putCall slot (some { c with state := .running w }))

/-- A host worker takes a call: a dispatch record is written at DISP_TAIL and the worker's vector is signalled (R321 to
R323). -/
def Hw.hostTake (h : Hw) (w : Nat) : Hw :=
  let a := callsA (0x1000 + 64 * w)
  let size := ringSize (h.fget a 11 8)
  let tail := h.fget (a + 0x18) 12 0
  let head := h.fget (a + 0x1C) 12 0
  if !h.bget a 0 || decide ((tail + 8192 - head) % 8192 ≥ size) || (!h.bme && !h.isMember) then h else
  match h.takeReady w with
  | none => h
  | some (slot, c, h) =>
    let h := h.callEvent 1 0 slot c
    let h := h.workerWrite w ((h.reg64 (a + 8)).toNat + 64 * (tail % size))
      (dispatchRecord h slot c ((tail / size + 1) % 2))
    let h := h.fset (a + 0x18) 12 0 ((tail + 1) % 8192)
    if h.bget a 7 then h.msix (h.fget a 6 1) else h

/-- Classes that the MP serves (Table 11.3). -/
def mpServes (cls : Nat) : Bool := decide (0xF0 ≤ cls) && decide (cls ≤ 0xF3)

/-- The MP takes a call when its firmware runs and serves none (R321, R481). A class outside Table 11.3 completes FAILED (R321, R328). -/
def Hw.mpTake (h : Hw) : Hw :=
  if !(h.runningOn 32).isEmpty || h.calls.mpLost.isSome || !h.host.ready || h.host.fwSwitch then h else
  match h.takeReady 32 with
  | none => h
  | some (slot, c, h) =>
    let h := h.callEvent 1 0 slot c
    if mpServes c.cls then h else (h.completeCall slot { c with state := .running 32 } true 0).settleCalls

/-- CALL_DISPATCH of worker w (R321). -/
def execCallDispatch (h : Hw) (w : Nat) : Hw := if w < 32 then h.hostTake w else if w = 32 then h.mpTake else h

/-! ## Completion records (R324, R325) -/

/-- A completion of a call that no longer runs is discarded (R325). -/
def Hw.staleCompletion (h : Hw) : Hw := (h.count (callsA 0x24)).raise evCallStale

/-- The record at COMP_HEAD has been read: COMP_HEAD advances, and the record completes the running call it names, or is
discarded (R324, R325). -/
def Hw.takeRecord (h : Hw) (w : Nat) (rec : List Byte) : Hw :=
  let a := callsA (0x1000 + 64 * w)
  let head := h.fget (a + 0x24) 12 0
  if w ≥ 32 || head == h.fget (a + 0x20) 12 0 then h else
  let h := h.fset (a + 0x24) 12 0 ((head + 1) % 8192)
  let w0 : Word32 := BitVec.ofNat 32 (ofBytes (rec.take 4))
  let slot := fld w0 11 0
  match h.call slot with
  | some c =>
    if c.state == .running w && c.gen == fld w0 15 12 then
      (h.completeCall slot c (fld w0 17 16 != 0) (BitVec.ofNat 256 (ofBytes ((rec.drop 32).take 32)))).settleCalls
    else h.staleCompletion
  | none => h.staleCompletion

/-- The oldest record of worker w that module m has asked for goes to it (R327). -/
def Hw.passRecord (h : Hw) (m w : Nat) (rec : List Byte) : Hw :=
  match h.host.asks.find? fun k => k.1 == m && k.2.1 == w with
  | some k => ({ h with host := { h.host with asks := h.host.asks.erase k } } : Hw).sendMsg m (.completionRecord w rec)
  | none => h

/-- COMPLETION_RECORD: a record of a completion ring, as host memory holds it, is read: of a worker of this module, or on the
head of a worker of the member `origin` (R324, R327). A member's own records come as messages. -/
def execCompletionRecord (h : Hw) (w : Nat) (rec : RingRecord) : Hw :=
  if !h.bme then h
  else match rec.origin with
    | some m => h.passRecord m w rec.bytes
    | none => if h.isMember then h else h.takeRecord w rec.bytes

/-! ## The MP as worker (R328) -/

/-- The MP completes the call of a slot that it is running, of the given class; the completion of a cancelled one is stale
(R333). -/
def Hw.mpServe (h : Hw) (slot cls : Nat) (f : Call → Hw → Option (BitVec 256) × Hw) : Hw :=
  if h.calls.mpLost = some (slot, cls) then ({ h with calls := { h.calls with mpLost := none } } : Hw).staleCompletion
  else match h.call slot with
  | some c =>
    if c.state == .running 32 && c.cls == cls then
      let (ans, h) := f c h
      match ans with
      | some v => (h.completeCall slot c false v).settleCalls
      | none => (h.completeCall slot c true 0).settleCalls
    else h
  | none => h

/-- ECHO (Table 11.3). -/
def execEcho (h : Hw) (slot : Nat) : Hw := h.mpServe slot 0xF0 fun c h => (some c.args, h)

/-- Word address of a far-memory class's byte address, when it is aligned and inside the DESIGN region; none too while the
die's routers are closed, since every access then receives POWERED_DOWN (R25, R328, R407). -/
def Hw.mpAddr (h : Hw) (c : Call) : Option (Nat × Nat) :=
  let b := fld c.args 35 0
  let d := c.port / 32
  if b % 32 = 0 ∧ h.inDesign d (b / 8) ∧ h.pstate < 2 then some (d, b / 8) else none

/-- FAR_READ: 4 words in ascending order; a failing word ends it with FAILED (R328). -/
def execFarRead (h : Hw) (slot : Nat) : Hw :=
  h.mpServe slot 0xF1 fun c h =>
    match h.mpAddr c with
    | none => (none, h)
    | some (d, a) =>
      (List.range 4).foldl (fun (acc : Option (BitVec 256) × Hw) i =>
        match acc.1 with
        | none => acc
        | some v =>
          match acc.2.farRidgeRead d (a + i) true with
          | (some x, h) => (some (v ||| BitVec.ofNat 256 (x.toNat * 2 ^ (64 * i))), h)
          | (none, h) => (none, h)) (some 0, h)

/-- Write the first n words of a FAR_WRITE call's arguments. -/
def Hw.mpWrite (h : Hw) (c : Call) (d a n : Nat) : Hw :=
  (List.range n).foldl (fun h i => h.farRidgeWrite d (a + i) (c.args.extractLsb' (64 * (i + 1)) 64)) h

/-- FAR_WRITE: 24 bytes at the address (R328). -/
def execFarWrite (h : Hw) (slot : Nat) : Hw :=
  h.mpServe slot 0xF2 fun c h =>
    match h.mpAddr c with
    | none => (none, h)
    | some (d, a) => (some 0, h.mpWrite c d a 3)

/-- A time value of 112 bits (R289). -/
def timeValue (t : Nat) : BitVec 112 :=
  let (s, n, f) := timeParts t
  BitVec.ofNat 112 (s * 2 ^ 48 + n * 2 ^ 16 + f)

/-- TIME_READ: network time at completion (Table 11.3). -/
def execTimeRead (h : Hw) (slot : Nat) : Hw :=
  h.mpServe slot 0xF3 fun _ h => (some ((timeValue h.time.now).setWidth 256), h)

/-! ## Delivery and pulls (R330 to R332) -/

/-- Whether a complete call may be delivered now: no earlier call of its flow is still undelivered (R330). Cancelled
calls, and complete calls of ports without results, have left their slots. -/
def Hw.deliverable (h : Hw) (c : Call) : Bool :=
  c.state == .held && (!c.inFlow ||
    h.callList.all fun sc => !(sc.2.inFlow && sc.2.flow == c.flow && sc.2.before c) || sc.2.state == .delivered)

/-- CALL_DELIVER: the result of a complete call enters its port's result queue (R330). -/
def execCallDeliver (h : Hw) (slot : Nat) : Hw :=
  match h.call slot with
  | some c =>
    if h.deliverable c then
      let h := (h.putCall slot (some { c with state := .delivered })).setResults c.port (h.results c.port ++ [slot])
      h.callEvent 3 c.status slot c
    else h
  | none => h

/-- Every delivery that is due, in issue order. -/
def Hw.deliverAll : Nat → Hw → Hw
  | 0, h => h
  | n + 1, h =>
    match firstBy (fun a b : Nat × Call => a.2.before b.2) (h.callList.filter fun sc => h.deliverable sc.2) with
    | some (slot, _) => Hw.deliverAll n (execCallDeliver h slot)
    | none => h

/-- Head result of a port. -/
def Hw.headResult (h : Hw) (port : Nat) : Option (Nat × Call) :=
  match h.results port with
  | [] => none
  | s :: _ => (h.call s).map fun c => (s, c)

/-- A plain pull of a call port (R331). -/
def Hw.callPull (h : Hw) (d n : Nat) (o : PortOp) : Hw :=
  let k := 32 * d + n
  match h.headResult k with
  | some (slot, c) =>
    let h := h.deliverWord d 2 n (c.result.extractLsb' (64 * o.word) 64)
    if o.last then (h.setResults k (h.results k).tail).putCall slot none else h
  | none =>
    let h := (h.deliverWord d 2 n 0).count (callsA 0x20)
    if h.bget (callsA 0) 8 then h.raise evCallEmptyPull else h

/-- The receiving operation of die-local call port n: CALL_PULL, or CALL_WAIT_PULL, which acts as a plain pull when it
breaks R129 and then raises WAIT_UNGUARDED on an empty queue (R135). -/
def Hw.callReceive (h : Hw) (d n : Nat) : Hw :=
  h.portOnce d 2 n false fun users o h =>
    if o.op = 7 then h.callPull d n o
    else
      let empty := (h.headResult (32 * d + n)).isNone
      if h.waitGuarded d (0x80 + n) o.last then
        if empty then h.deliverWord d 2 n 0
        else
          let h := h.callPull d n o
          if o.last then h.noteTaken d (0x80 + n) else h
      else
        let h := (h.hazard d 9 (users.headD (0, o)).1 none (0x80 + n)).callPull d n o
        if empty then h.raisePoison (evWaitUnguarded d) else h

/-- CALL_PULL. -/
def execCallPull (h : Hw) (d n : Nat) : Hw := if h.recvOp d 2 n = some 7 then h.callReceive d n else h

/-- CALL_WAIT_PULL. -/
def execCallWaitPull (h : Hw) (d n : Nat) : Hw := if h.recvOp d 2 n = some 8 then h.callReceive d n else h

/-- A call port has nothing outstanding (R331). -/
def Hw.nothingOutstanding (h : Hw) (k : Nat) : Bool :=
  (h.results k).isEmpty && !(h.callList.any fun sc => sc.2.port == k && sc.2.state != .delivered) &&
  !(h.calls.raises.any fun r => r.port == k)

/-! ## Cancellation (R333 to R335) -/

/-- A FAR_WRITE that is cancelled while it runs has written some, all or none of its words: how many is open, and a free
value decides. The MP's later completion is stale (R333). -/
def Hw.cancelRunning (h : Hw) (slot : Nat) (c : Call) : Hw :=
  let h : Hw := if c.state == .running 32 then { h with calls := { h.calls with mpLost := some (slot, c.cls) } } else h
  if c.state == .running 32 && c.cls == 0xF2 then
    match h.mpAddr c with
    | some (d, a) =>
      let (v, h) := h.takeFree
      h.mpWrite c d a (v.toNat % 4)
    | none => h
  else h

/-- A write of CALLS.CANCEL (R333). -/
def Hw.cancelCall (h : Hw) (slot gen : Nat) : Hw :=
  let no := h.setReg (callsA 0xC) 2
  match h.call slot with
  | none => no
  | some c =>
    if !c.active || c.gen != gen then no else
    let h := h.cancelRunning slot c
    let h := match c.state with
      | .ready w => h.setReady w ((h.readyList w).erase slot)
      | _ => h
    let h := (h.count (callsA 0x28)).callEvent 4 2 slot c
    let h := ((h.putCall slot none).dropDeps slot false true).setReg (callsA 0xC) 1
    h.settleCalls

/-- An image load or a snapshot restore cancels every call without status (R335). -/
def Hw.clearCalls (h : Hw) : Hw :=
  let lost := match h.runningOn 32 with
    | (slot, c) :: _ => some (slot, c.cls)
    | [] => h.calls.mpLost
  let h := { h with calls := { h.calls with asm := [], raises := [], slots := [], ready := [], results := [], mpLost := lost } }
  (List.range 256).foldl (fun h c => h.fset (callsA (0x804 + 8 * c)) 6 1 63) h

/-! ## Ring indices (R326) -/

/-- A write of WQ_w.DISP_HEAD. -/
def Hw.writeDispHead (h : Hw) (w : Nat) (v : Nat) : Hw :=
  let a := callsA (0x1000 + 64 * w)
  let x := v % 8192
  let head := h.fget (a + 0x1C) 12 0
  if (x + 8192 - head) % 8192 ≤ (h.fget (a + 0x18) 12 0 + 8192 - head) % 8192 then h.fset (a + 0x1C) 12 0 x
  else h.raise evCallRingFault

/-- A member asks its head for the n records of worker w from an index on (R327). -/
def Hw.askRecords (h : Hw) (w tail n : Nat) : Hw :=
  if !h.isMember then h
  else
    let a := callsA (0x1000 + 64 * w)
    let size := ringSize (h.fget a 15 12)
    (List.range n).foldl (fun h i =>
      h.sendMsg h.conf.head (.recordRequest h.devIndex w ((h.reg64 (a + 0x10)).toNat + 64 * ((tail + i) % 8192 % size)))) h

/-- A write of WQ_w.COMP_TAIL. -/
def Hw.writeCompTail (h : Hw) (w : Nat) (v : Nat) : Hw :=
  let a := callsA (0x1000 + 64 * w)
  let x := v % 8192
  let tail := h.fget (a + 0x20) 12 0
  let limit := h.fget (a + 0x24) 12 0 + ringSize (h.fget a 15 12)
  if (x + 8192 - tail) % 8192 ≤ (limit + 8192 - tail) % 8192 then
    (h.askRecords w tail ((x + 8192 - tail) % 8192)).fset (a + 0x20) 12 0 x
  else h.raise evCallRingFault

/-! ## Receiving operations of every unit -/

/-- The receiving operation that a PORT instruction of this course needs first. -/
def Hw.recvAny (h : Hw) (d : Nat) (o : PortOp) : Hw :=
  match opUnit o.op with
  | 0 => h.fmqReceive d o.port
  | 1 => execIoIn h d o.port
  | 2 => h.callReceive d o.port
  | _ => h

/-- PROBE_WORD: the trusses that name probe group n contribute a 64-bit word to it (R84, R337). -/
def execProbeWord (h : Hw) (d n : Nat) : Hw :=
  h.portOnce d 3 n true fun users _ h =>
    let g := d * 128 + n
    let w := Store.get (0, 0) h.probeIn g
    { h with probeIn := Store.set (0, 0) h.probeIn g (0xFFFFFFFFFFFFFFFF#64, w.2 ||| h.supplyWord d users) }

end Sys2Proof.Machine
end

