-- ==== Sys2Proof/Machine/BpRows.lean ====
section
/-!
DEFINITION. The commands of the six kinds of instruction: BP i of truss t on die d executes in the present course (R70, R74
to R80).
-/

namespace Sys2Proof.Machine

/-- EVAL (R74). -/
def execEval (h : Hw) (d t i : Nat) : Hw := h.bpCommand Hw.recvAny .eval d t i
/-- LOFT (R75). -/
def execLoft (h : Hw) (d t i : Nat) : Hw := h.bpCommand Hw.recvAny .loft d t i
/-- PORT (R76). -/
def execPort (h : Hw) (d t i : Nat) : Hw := h.bpCommand Hw.recvAny .port d t i
/-- NOP (R78). -/
def execNop (h : Hw) (d t i : Nat) : Hw := h.bpCommand Hw.recvAny .nop d t i
/-- KEEP (R79). -/
def execKeep (h : Hw) (d t i : Nat) : Hw := h.bpCommand Hw.recvAny .keep d t i
/-- MARK (R80). -/
def execMark (h : Hw) (d t i : Nat) : Hw := h.bpCommand Hw.recvAny .mark d t i

end Sys2Proof.Machine
end

