-- ==== Sys2Proof/Machine/LinkCodes.lean ====
section
/-!
DEFINITION. The codes of the Ilpol link: the lane scrambler (R226), the CRC of block sets (R236) and the cross-lane
Reed-Solomon code (R244, R245).
-/

namespace Sys2Proof.Machine

/-! ## The scrambler (R226) -/

/-- Scramble payload bits in the order in which they are sent: the scrambled bits and the register after them. -/
def scramble (reg : BitVec 59) : List Bool → List Bool × BitVec 59
  | [] => ([], reg)
  | d :: ds =>
    let s := d ^^ bit reg 39 ^^ bit reg 58
    let (r, reg') := scramble (setBit (reg <<< (1 : Nat)) 0 s) ds
    (s :: r, reg')

/-- Descramble received bits: the data bits and the register after them. -/
def descramble (reg : BitVec 59) : List Bool → List Bool × BitVec 59
  | [] => ([], reg)
  | s :: ss =>
    let d := s ^^ bit reg 39 ^^ bit reg 58
    let (r, reg') := descramble (setBit (reg <<< (1 : Nat)) 0 s) ss
    (d :: r, reg')

/-- The vector of a bit list, bit 0 first. -/
def ofBools (w : Nat) (bs : List Bool) : BitVec w := BitVec.ofNat w (bs.foldr (fun b acc => (if b then 1 else 0) + 2 * acc) 0)

/-! ## The block-set CRC (R236) -/

/-- One bit of the CRC-32. -/
def crc32Step (crc : Word32) (b : Bool) : Word32 :=
  let fb := b ^^ bit crc 31
  let s := crc <<< (1 : Nat)
  if fb then s ^^^ 0x04C11DB7#32 else s

/-- The CRC of a bit list. -/
def crc32 (bs : List Bool) : Word32 := bs.foldl crc32Step 0xFFFFFFFF#32

/-! ## GF(2^8) with the polynomial 0x11D (R244) -/

/-- Multiplication by α. -/
def gfTimes2 (x : Byte) : Byte := if bit x 7 then (x <<< (1 : Nat)) ^^^ 0x1D#8 else x <<< (1 : Nat)

/-- α to the power n. -/
def gfAlpha : Nat → Byte
  | 0 => 1
  | n + 1 => gfTimes2 (gfAlpha n)

/-- Product. -/
def gfMul (x y : Byte) : Byte :=
  ((List.range 8).foldl (fun (acc : Byte × Byte) i => (if bit y i then acc.1 ^^^ acc.2 else acc.1, gfTimes2 acc.2)) (0, x)).1

/-- x to the power n. -/
def gfPow (x : Byte) : Nat → Byte
  | 0 => 1
  | n + 1 => gfMul (gfPow x n) x

/-- Quotient by a divisor that is not 0: the multiplicative group has 255 elements. -/
def gfDiv (x y : Byte) : Byte := gfMul x (gfPow y 254)

/-! ## The cross-lane code. A column is its 18 bytes by role: D0 to D15, C0, C1 -/

/-- The power of x at which a role stands: D0 at 17 down to C1 at 0. -/
def rolePos (r : Nat) : Nat := 17 - r

/-- Check bytes C0 and C1 of sixteen data bytes: the remainder of their polynomial times x^2 by x^2 + 3x + 2. -/
def rsCheck (ds : List Byte) : Byte × Byte :=
  ds.foldl (fun (r : Byte × Byte) d =>
    let top := r.1 ^^^ d
    (r.2 ^^^ gfMul 3 top, gfMul 2 top)) (0, 0)

/-- The syndrome at α^e of a column, erased roles standing at 0. -/
def rsSyndrome (e : Nat) (erased : List Nat) (col : List Byte) : Byte :=
  (List.range 18).foldl (fun acc r =>
    if erased.contains r then acc else acc ^^^ gfMul (col.getD r 0) (gfAlpha (e * rolePos r))) 0

/-- What the column decoder of Table 8.10 answers: the column, and the role it corrected, if it corrected one; none when
the column is uncorrectable. -/
def rsDecode (erased : List Nat) (col : List Byte) : Option (List Byte × Option Nat) :=
  let s0 := rsSyndrome 0 erased col
  let s1 := rsSyndrome 1 erased col
  match erased with
  | [] =>
    if s0 = 0 ∧ s1 = 0 then some (col, none)
    else if s0 = 0 ∨ s1 = 0 then none
    else match (List.range 18).find? fun r => s1 = gfMul s0 (gfAlpha (rolePos r)) with
      | some r => some (col.set r (col.getD r 0 ^^^ s0), some r)
      | none => none
  | [r] => if s1 = gfMul s0 (gfAlpha (rolePos r)) then some (col.set r s0, none) else none
  | [r, q] =>
    let ai := gfAlpha (rolePos r)
    let ak := gfAlpha (rolePos q)
    let bi := gfDiv (s1 ^^^ gfMul s0 ak) (ai ^^^ ak)
    some ((col.set r bi).set q (s0 ^^^ bi), none)
  | _ => none

/-- Byte j of a role word. -/
def wordByte (w : Word64) (j : Nat) : Byte := w.extractLsb' (8 * j) 8

/-- The word of eight bytes. -/
def byteWord (bs : List Byte) : Word64 := BitVec.ofNat 64 (ofBytes bs)

/-- The 18 role words of a 1,024-bit payload (R231, R244). -/
def rsEncode (p : BitVec 1024) : List Word64 :=
  let ds : List Word64 := (List.range 16).map fun m => p.extractLsb' (64 * m) 64
  let chk := (List.range 8).map fun j => rsCheck (ds.map fun w => wordByte w j)
  ds ++ [byteWord (chk.map (·.1)), byteWord (chk.map (·.2))]

/-- Decode 18 role words: the roles after correction, none when a column is uncorrectable, and the role named in each
corrected column, whatever the other columns give (R245). -/
def rsDecodeSet (erased : List Nat) (ws : List Word64) : Option (List Word64) × List Nat :=
  let cols := (List.range 8).map fun j => rsDecode erased (ws.map fun w => wordByte w j)
  let cs := cols.filterMap id
  (if cols.any Option.isNone then none else some ((List.range 18).map fun r => byteWord (cs.map fun c => c.1.getD r 0)),
   cs.filterMap (·.2))

/-- The payload that 18 role words carry. -/
def payloadOf (ws : List Word64) : BitVec 1024 :=
  BitVec.ofNat 1024 ((ws.take 16).foldr (fun w acc => w.toNat + 2 ^ 64 * acc) 0)

/-- The CRC of a payload (R236). -/
def payloadCrc (p : BitVec 1024) : Word32 := crc32 ((List.range 992).map (bit p))

/-- A payload whose CRC is right. -/
def crcOk (p : BitVec 1024) : Bool := p.extractLsb' 992 32 == payloadCrc p

/-- A payload with its CRC. -/
def withCrc (p : BitVec 1024) : BitVec 1024 := setFld p 1023 992 (payloadCrc p).toNat

end Sys2Proof.Machine
end

