-- ==== Sys2Proof/Machine/Eave.lean ====
section
/-!
DEFINITION. Eave ports and the Ilpol link (chapter 8): training, block sets in both directions, configuration symbols,
erasure and the spare lane, calibration and drift, lane sleep, and the loss of a partner.
-/

namespace Sys2Proof.Machine

/-- The port carries a tree link or a crossing of the configuration. -/
def Hw.carries (h : Hw) (p : Nat) : Bool := h.conf.treePorts.contains p || h.conf.crossPorts.contains p

/-- Number of set bits of a register field of n bits. -/
def onesOf {w : Nat} (v : BitVec w) (n : Nat) : Nat := ((List.range n).filter (bit v)).length

/-- Lanes with signal detect. -/
def Hw.sigCount (h : Hw) (p : Nat) : Nat := onesOf (h.reg (eaveA p 0x10)) 19

/-- Physical lane of receive role r, and whether the role is erased. -/
def Hw.roleLane (h : Hw) (p r : Nat) : Nat := h.eget p (0x40 + 4 * r) 4 0
def Hw.roleErased (h : Hw) (p r : Nat) : Bool := h.bget (eaveA p (0x40 + 4 * r)) 5
def Hw.erasedRoles (h : Hw) (p : Nat) : List Nat := (List.range 18).filter (h.roleErased p)
def Hw.setRole (h : Hw) (p r lane : Nat) (erased : Bool) : Hw :=
  h.setReg (eaveA p (0x40 + 4 * r)) (BitVec.ofNat 32 (lane + if erased then 32 else 0))
def Hw.noteErased (h : Hw) (p : Nat) : Hw := h.eset p 4 20 19 (min 2 (h.erasedRoles p).length)

/-- The states in which block sets are sent and received (Table 8.3). -/
def EavePort.carriesSets (pt : EavePort) : Bool := pt.state == .align || pt.state == .calibrate || pt.state == .active

/-! ## Port states (R217 to R223) -/

/-- LOCKED follows the state of the port whose recovered clock the course-clock PLL uses (R18, R32). -/
def Hw.relock (h : Hw) (p : Nat) : Hw := if h.fget 0x44 1 0 = 2 ∧ h.clkPort = p then h.lockPll else h

/-- A lane of a link that trains anew: the scrambler registers alone are not reset (R226). -/
def Lane.forget (l : Lane) : Lane := { ({} : Lane) with scr := l.scr, descr := l.descr }

/-- What every departure from a trained link forgets: lanes, roles, the partner and the measurement. The symbol numbers of
both directions begin again at 0, and messages not yet acknowledged are numbered anew (DESIGN CHOICE: R239 and R242 do not
say how a retrained link numbers; log entries 32 and 61). -/
def Hw.forgetLink (h : Hw) (p : Nat) (st : PortState) : Hw :=
  let old := h.port p
  let h := h.setPort p { (({} : EavePort)) with
    state := st
    started := old.started
    lanes := old.lanes.map Lane.forget
    unacked := old.unacked.zipIdx.map fun m => { m.1 with seq := m.2 % 256, sent := false }
    mseqTx := old.unacked.length % 256 }
  let h := (List.range 18).foldl (fun h r => h.setRole p r r false) h
  let was := h.bget (eaveA p 4) 18
  let h := (h.eset p 4 21 8 0).setReg (eaveA p 0xC) 0
  let h := (((h.eset p 0x100 17 9 0).eset p 0x100 31 31 0).setReg (eaveA p 0x104) 0).relock p
  if was then h.reportPort p else h

/-- Preset n of a transmit lane (Table 8.2, R215). -/
def presetTaps (n : Nat) : Nat × Nat :=
  if n = 0 then (0, 0) else if n = 1 then (0, 8) else if n = 2 then (4, 8) else if n = 3 then (4, 16) else (8, 16)

def Hw.setTaps (h : Hw) (p l pre post : Nat) : Hw :=
  h.setReg (eaveA p (0x200 + 4 * l)) (BitVec.ofNat 32 (pre + 2 ^ 8 * post + 2 ^ 16 * (64 - pre - post)))

/-- Every transmit lane takes its coefficients: preset 2, or those kept over L-OFF (R216, Table 8.12). -/
def Hw.startTaps (h : Hw) (p : Nat) (kept : Option (List (Nat × Nat))) : Hw :=
  (List.range 19).foldl (fun h l => let t := (kept.getD []).getD l (presetTaps 2); h.setTaps p l t.1 t.2) h

/-- DETECT: the lanes send idle blocks at preset 2 (Table 8.3). -/
def Hw.enterDetect (h : Hw) (p : Nat) : Hw := (h.forgetLink p .detect).startTaps p none

/-- The transmit coefficients of a port, by lane. -/
def Hw.tapsOf (h : Hw) (p : Nat) : List (Nat × Nat) :=
  (List.range 19).map fun l => (h.eget p (0x200 + 4 * l) 3 0, h.eget p (0x200 + 4 * l) 12 8)

/-- The transmit coefficients of every lane are saved (Table 15.4, step 3). -/
def Hw.keepTaps (h : Hw) (p : Nat) : Hw :=
  let kept := h.tapsOf p
  h.updPort p fun pt => { pt with savedTaps := some kept }

/-- A wake from L-OFF trains from DETECT with the saved coefficients (Table 8.12). -/
def Hw.offWake (h : Hw) (p : Nat) : Hw :=
  let kept := (h.port p).savedTaps.getD (h.tapsOf p)
  (h.enterDetect p).updPort p fun pt => { pt with savedTaps := some kept }

/-- TRAIN is entered at preset 2, or from L-OFF at the saved coefficients (R216, R252); discovery is then not settled
(R442). -/
def Hw.enterTrain (h : Hw) (p : Nat) : Hw :=
  let kept := (h.port p).savedTaps
  let h := (h.startTaps p kept).updPort p fun pt => { pt with state := .train, savedTaps := none }
  (h.fset (hostifA 0x80) 0 0 0).reportPort p

/-- DETECT is left as soon as 12 lanes detect signal. -/
def Hw.detectClock (h : Hw) (p : Nat) : Hw :=
  if (h.port p).state = .detect && h.portRuns p && decide (h.sigCount p ≥ 12) then h.enterTrain p else h

/-- PORT_START (R218). -/
def execPortStart (h : Hw) (p : Nat) : Hw :=
  if p ≥ 12 || !h.host.ready then h else
  let h := h.updPort p fun pt => { pt with started := true }
  if (h.port p).state = .disabled && h.bget (eaveA p 0) 0 then h.enterDetect p else h

/-- RETRIES and LAST_FAIL when a training phase fails (R222). -/
def Hw.failTraining (h : Hw) (p reason : Nat) : Hw :=
  let n := min 255 (h.eget p 8 7 0 + 1)
  let h := (h.eset p 8 7 0 n).eset p 8 23 16 reason
  if n ≥ max 1 (h.eget p 0 15 8) then (h.forgetLink p .absent).raise (evLinkAbsent p) else h.forgetLink p .retryWait

/-- A departure for DETECT that sets RETRIES back to 0 (R219, R223). -/
def Hw.restartPort (h : Hw) (p : Nat) : Hw := (h.eset p 8 7 0 0).enterDetect p

/-- SIGNAL_DETECT_RISE on some lanes (R217, R223). The AON detectors note it in every power state, and the port acts on it once its
lanes run. -/
def execSignalDetectRise (h : Hw) (p : Nat) (lanes : BitVec 19) : Hw :=
  if p ≥ 12 then h else
  let h := h.eset p 0x10 18 0 (h.eget p 0x10 18 0 ||| lanes.toNat)
  let pt := h.port p
  if pt.state = .absent && pt.sigFell && h.portRuns p && decide (h.sigCount p ≥ 12) then h.restartPort p else h.detectClock p

/-! ## Erasure and the spare lane (R246 to R249) -/

/-- Halt what a lost partner carries: LINK_LOST poisons the frame and HALT_AT_END is sent with reason 4, before that of the
poisoning (R254, R255, Table 16.7). A member that loses the link towards the head no longer hears frame-go, and at the halt
its SRC returns to LOCAL (R32). -/
def Hw.partnerLost (h : Hw) (p : Nat) : Hw :=
  let carried := h.carries p
  let busy := h.framesOn
  let cut := h.conf.uplink = some p
  let h := h.enterDetect p
  if !carried then h.raise (evLinkLost p) else
  let h : Hw := { h with
    conf := { h.conf with
      broken := true
      treePorts := h.conf.treePorts.filter (· != p)
      uplink := if cut then none else h.conf.uplink }
    seq := { h.seq with srcPending := if cut && busy then some 0 else h.seq.srcPending } }
  let h := if cut then (if busy then h.fset 0x44 6 6 0 else (h.fset 0x44 1 0 0).lockPll) else h
  if busy then ((h.sendHaltAtEnd 4).raisePoison (evLinkLost p)).raise evConfigBroken
  else (h.raise (evLinkLost p)).raise evConfigBroken

/-- Start the spare sequence for role r when the direction still has its spare (R247, R249). -/
def Hw.startSpare (h : Hw) (p r : Nat) : Hw :=
  let pt := h.port p
  if h.bget (eaveA p 0) 2 && !pt.spareDead && pt.spare.isNone && !h.bget (eaveA p 4) 21 then
    h.updPort p fun pt => { pt with
      spare := some ⟨r, false, 0, false⟩, txCtl := pt.txCtl ++ [⟨5, 1 + r * 2 ^ 4, 0⟩] }
  else h

/-- Erase receive role r, in ALIGN, CALIBRATE and ACTIVE, and start its repair (R246, R247). A third erased role of an ACTIVE
port is partner loss (R249). -/
def Hw.eraseRole (h : Hw) (p r : Nat) : Hw :=
  if h.roleErased p r || !(h.port p).carriesSets then h else
  let n := (h.erasedRoles p).length
  let h := ((h.setRole p r (h.roleLane p r) true).noteErased p).raise (evLaneErased p)
  let h := h.ecount p 7
  if (h.port p).state = .active && decide (n ≥ 2) then h.partnerLost p else h.startSpare p r

/-- Roles whose lanes have no signal. -/
def Hw.darkRoles (h : Hw) (p : Nat) : List Nat := (List.range 18).filter fun r => !h.bget (eaveA p 0x10) (h.roleLane p r)

/-- Erase the role that physical lane l carries, if it carries one. -/
def Hw.eraseLane (h : Hw) (p l : Nat) : Hw :=
  match (List.range 18).find? fun r => h.roleLane p r = l with
  | some r => h.eraseRole p r
  | none => h

/-- SIGNAL_DETECT_FALL on some lanes (R219, R246, R254). A sleeping direction counts nothing (R253). -/
def execSignalDetectFall (h : Hw) (p : Nat) (lanes : BitVec 19) : Hw :=
  if p ≥ 12 then h else
  let h := h.eset p 0x10 18 0 (h.eget p 0x10 18 0 &&& (2 ^ 19 - 1 - lanes.toNat))
  let pt := h.port p
  let erase (h : Hw) : Hw := (List.range 19).foldl (fun h l => if bit lanes l then h.eraseLane p l else h) h
  let few := decide (h.sigCount p < 12)
  if 3 ≤ h.pstate then h else
  match pt.state with
  | .train => if few then (h.bump (eaveA p 8) 15 8).restartPort p else h
  | .align | .calibrate => if few then (h.bump (eaveA p 8) 15 8).restartPort p else erase h
  | .absent => if few then h.updPort p fun pt => { pt with sigFell := true } else h
  | .active =>
    if pt.rxSleep ≠ 0 then h else
    if (h.darkRoles p).length ≥ 3 then h.partnerLost p else erase h
  | _ => h

/-- The lane of the spare takes its role (R247, step 6), and SPARE_DONE is announced. -/
def Hw.swapSpare (h : Hw) (p : Nat) : Hw :=
  match (h.port p).spare with
  | some s =>
    if !s.passed then h else
    let h := ((h.setRole p s.role 18 false).noteErased p).eset p 4 21 21 1
    let h := h.updPort p fun pt => { pt with spare := none, txCtl := pt.txCtl ++ [⟨5, 2 + s.role * 2 ^ 4, 0⟩] }
    h.raise (evLaneSpared p)
  | none => h

/-- Prepared spare lanes are swapped in at the frame boundary (R28, action 4). -/
def Hw.swapSpares (h : Hw) : Hw := (List.range 12).foldl (fun h p => h.swapSpare p) h

/-- SPARE_COMPARE_PASS: lane 18 has matched the decoded role for 1,024 consecutive block sets; the swap waits for a tick
while the configuration that the port carries runs (R247, R248). -/
def execSpareComparePass (h : Hw) (p : Nat) : Hw :=
  match (h.port p).spare with
  | some s =>
    if s.ready && decide (1024 ≤ s.matched) then
      let h := h.updPort p fun pt => { pt with spare := some { s with passed := true } }
      if h.carries p && h.busy then h else h.swapSpare p
    else h
  | none => h

/-- SPARE_TIMEOUT (R249). -/
def execSpareTimeout (h : Hw) (p : Nat) : Hw :=
  match (h.port p).spare with
  | some s =>
    if s.passed then h else (h.updPort p fun pt => { pt with spare := none, spareDead := true }).raise (evSpareFailed p)
  | none => h

/-! ## Sending on one lane -/

/-- The 66-bit block of a payload on a lane: header 1 for data and 2 for control, payload scrambled (R225, R226). -/
def Lane.block (l : Lane) (ctl : Bool) (w : Word64) : BitVec 66 × Lane :=
  let (bs, reg) := scramble l.scr (bitsOf w)
  (setFld (BitVec.ofNat 66 ((ofBools 64 bs).toNat * 4)) 1 0 (if ctl then 2 else 1), { l with scr := reg })

/-- The header and the descrambled payload of a block, and the lane after it (R225 to R227). -/
def Lane.receive (l : Lane) (b : BitVec 66) : Nat × Word64 × Lane :=
  let (bs, reg) := descramble l.descr (bitsOf (b.extractLsb' 2 64))
  (fld b 1 0, ofBools 64 bs, { l with descr := reg })

def EavePort.lane (pt : EavePort) (l : Nat) : Lane := pt.lanes.getD l {}
def EavePort.setLane (pt : EavePort) (l : Nat) (x : Lane) : EavePort := { pt with lanes := pt.lanes.set l x }

/-- The payload of a COEFF block of lane l, with the standing request for the partner (Table 8.4). -/
def Hw.coeffWord (h : Hw) (p l : Nat) : Word64 :=
  let x := (h.port p).lane l
  let t := h.reg (eaveA p (0x200 + 4 * l))
  BitVec.ofNat 64 (0xC5 + 2 ^ 8 * l + 2 ^ 16 * x.req.toNat + (if x.ready then 2 ^ 23 else 0) +
    2 ^ 24 * x.statPre + 2 ^ 26 * x.statPost + 2 ^ 32 * fld t 3 0 + 2 ^ 36 * fld t 12 8 + 2 ^ 41 * fld t 22 16)

/-- Send a COEFF block on lane l. -/
def Hw.sendCoeff (h : Hw) (p l : Nat) : Hw :=
  let (b, x) := ((h.port p).lane l).block true (h.coeffWord p l)
  (h.updPort p fun pt => pt.setLane l x).emit (.laneBlock p l b)

/-! ## TRAIN (R220, R221, R224) -/

/-- One tap request: the new magnitude and the status (Table 8.4, R215). `other` is the magnitude of the other tap. -/
def tapRequest (req v top other : Nat) : Nat × Nat :=
  if req = 1 then (if v = 0 then (0, 2) else (v - 1, 1))
  else if req = 2 then (if v = top then (v, 2) else if v + 1 + other > 24 then (v, 3) else (v + 1, 1))
  else (v, 0)

/-- Act on the requests of a received COEFF block. A request stands until its status changes, so it acts once, when the
status of its tap reads none. -/
def Hw.coeffRequest (h : Hw) (p l : Nat) (w : Word64) : Hw :=
  let t := h.reg (eaveA p (0x200 + 4 * l))
  let pre := fld t 3 0
  let post := fld t 12 8
  let x := (h.port p).lane l
  let set (h : Hw) (a b sa sb : Nat) : Hw :=
    (h.setTaps p l a b).updPort p fun pt => pt.setLane l { pt.lane l with statPre := sa, statPost := sb }
  let preset := fld w 22 20
  if 1 ≤ preset ∧ preset ≤ 5 then
    if x.statPre = 0 ∧ x.statPost = 0 then
      let (a, b) := presetTaps (preset - 1)
      set h a b 1 1
    else h
  else
    let rp := fld w 17 16 % 3
    let rq := fld w 19 18 % 3
    let (a, sa) := if rp = 0 then (pre, 0) else if x.statPre = 0 then tapRequest rp pre 12 post else (pre, x.statPre)
    let (b, sb) := if rq = 0 then (post, 0) else if x.statPost = 0 then tapRequest rq post 20 a else (post, x.statPost)
    set h a b sa sb

/-- Lanes ready at this receiver and at the partner's. -/
def EavePort.readyLanes (pt : EavePort) : List Nat := (List.range 19).filter fun l => (pt.lane l).ready
def EavePort.partnerLanes (pt : EavePort) : List Nat := (List.range 19).filter fun l => (pt.lane l).partnerReady

/-- Lane of each role when only some lanes are ready: its own, or lane 18 for the lowest that needs it (R221). -/
def roleMap (ready : List Nat) : List (Nat × Bool) :=
  let need := (List.range 18).filter fun r => !ready.contains r
  let sub := if ready.contains 18 then need.head? else none
  (List.range 18).map fun r =>
    if ready.contains r then (r, false) else if sub = some r then (18, false) else (r, true)

/-- The receive map of R221: LANE_ERASED for each role that it leaves without a ready lane and that was not erased yet. -/
def Hw.mapRoles (h : Hw) (p : Nat) : Hw :=
  let ready := (h.port p).readyLanes
  let m := roleMap ready
  let h := (List.range 18).foldl (fun h r =>
    let (l, e) := m.getD r (r, false)
    let was := h.roleErased p r
    let h := h.setRole p r l e
    if e && !was then (h.raise (evLaneErased p)).ecount p 7 else h) h
  let used := m.any fun x => x.1 == 18
  let h := (h.noteErased p).eset p 4 21 21 (if used then 1 else 0)
  h.updPort p fun pt => { pt with spareDead := used || !ready.contains 18 }

/-- ALIGN is entered with role maps for both directions. -/
def Hw.enterAlign (h : Hw) (p : Nat) : Hw :=
  let h := h.mapRoles p
  h.updPort p fun pt => { pt with
    state := .align
    txRole := (roleMap pt.partnerLanes).map (·.1) }

/-- The header of a block on lane l: block lock comes with 64 valid headers in a row, and goes when 16 of the last 64 are
invalid (R227). -/
def Hw.noteHeader (h : Hw) (p l : Nat) (ok : Bool) : Hw :=
  let x := (h.port p).lane l
  let x := { x with hdrs := (ok :: x.hdrs).take 64, good := if ok then min 64 (x.good + 1) else 0 }
  let h := h.updPort p fun pt => pt.setLane l x
  if 16 ≤ (x.hdrs.filter (!·)).length then h.eset p 0xC l l 0
  else if x.good = 64 then h.eset p 0xC l l 1 else h

/-- The receiver's standing request on a lane: it gives way to the next one, `want`, once it asks nothing or the partner's
status for it has changed (R224). -/
def Lane.nextReq (x : Lane) (w : Word64) (want : BitVec 7) : BitVec 7 :=
  let moved (now seen : Nat) : Bool := now != seen
  let preDone := fld x.req 1 0 % 3 == 0 || moved (fld w 25 24) x.seenPre
  let postDone := fld x.req 3 2 % 3 == 0 || moved (fld w 27 26) x.seenPost
  let setDone := fld x.req 6 4 == 0 || moved (fld w 25 24) x.seenPre || moved (fld w 27 26) x.seenPost
  if preDone && postDone && setDone then want
  else setFld (setFld x.req 1 0 (if preDone then 0 else fld x.req 1 0)) 3 2 (if postDone then 0 else fld x.req 3 2)

/-- COEFF_BLOCK: lane l receives a block of COEFF training. Its header counts toward block lock, and once the lane is locked
the receiver obeys its requests and notes the partner's statuses. `accept` says whether this receiver accepts the lane's
coefficients, and `want` what it asks of the partner next: those are findings of its own (R220, R224). On the spare lane
the block serves the sequence of R247. -/
def execCoeffBlock (h : Hw) (p l : Nat) (blk : BitVec 66) (accept : Bool) (want : BitVec 7) : Hw :=
  if p ≥ 12 ∨ l ≥ 19 then h else
  let pt := h.port p
  let spareLane := pt.carriesSets && l == 18 && (pt.spare.isSome || pt.txSpare.isSome)
  if !(pt.state == .train || spareLane) || !h.portRuns p then h else
  let (hd, w, x) := (pt.lane l).receive blk
  let h := (h.updPort p fun pt => pt.setLane l x).noteHeader p l (hd == 1 || hd == 2)
  let lock := h.bget (eaveA p 0xC) l
  let h := h.updPort p fun pt => pt.setLane l { pt.lane l with ready := lock && accept }
  if !lock || hd != 2 || fld w 7 0 != 0xC5 || fld w 12 8 != l then h else
  let h := h.updPort p fun pt => pt.setLane l { pt.lane l with
    partnerReady := bit w 23, req := (pt.lane l).nextReq w want, seenPre := fld w 25 24, seenPost := fld w 27 26 }
  let h := (h.coeffRequest p l w).sendCoeff p l
  let pt := h.port p
  if pt.state = .train then
    if pt.readyLanes.length = 19 ∧ pt.partnerLanes.length = 19 then h.enterAlign p else h
  else
    h.updPort p fun pt => { pt with
      spare := pt.spare.map fun s => { s with ready := s.ready || (lock && accept) }
      txSpare := pt.txSpare.map fun s => (s.1, s.2 && !bit w 23) }

/-- TRAIN_TIMEOUT: 100 ms have passed (R220, R222). A TRAIN that ends with 16 or fewer ready lanes records LAST_FAIL 1, TRAIN
timeout; code 2, too few ready lanes, is recorded when deskew leaves too few (DESIGN CHOICE: Table 8.14 does not say which
code applies here; log entries 31 and 61). -/
def execTrainTimeout (h : Hw) (p : Nat) : Hw :=
  let pt := h.port p
  if pt.state ≠ .train then h
  else if 17 ≤ pt.readyLanes.length ∧ 17 ≤ pt.partnerLanes.length then h.enterAlign p
  else h.failTraining p 1

/-- ALIGN_TIMEOUT (R217, R222). -/
def execAlignTimeout (h : Hw) (p : Nat) : Hw := if (h.port p).state = .align then h.failTraining p 3 else h

/-- CALIBRATE_TIMEOUT (R217, R222). -/
def execCalibrateTimeout (h : Hw) (p : Nat) : Hw := if (h.port p).state = .calibrate then h.failTraining p 4 else h

/-- RETRY_WAIT_END (R217). -/
def execRetryWaitEnd (h : Hw) (p : Nat) : Hw := if (h.port p).state = .retryWait then h.enterDetect p else h

/-! ## Receiving a block set (R228 to R232, R236, R245, R246) -/

/-- What a receiver makes of the blocks that arrived together on its lanes. -/
inductive RxSet where
  | marker (w : Word64)
  | data (p : BitVec 1024)
  | control (p : BitVec 1024)
  /-- Uncorrectable, or of a failing CRC. -/
  | bad
deriving DecidableEq, Repr

/-- An uncorrectable block set: counted and raised; 256 in a row lose the partner of an ACTIVE port whose direction is awake
(R236, R253, R254). -/
def Hw.badSet (h : Hw) (p : Nat) : Hw :=
  let h := (h.ecount p 1).raise (evEaveUncorrectable p)
  let h := h.updPort p fun pt => { pt with badRun := pt.badRun + 1 }
  let pt := h.port p
  if pt.state = .active ∧ pt.rxSleep = 0 ∧ 256 ≤ pt.badRun then h.partnerLost p else h

/-- Headers of one block set, a header that differs from the majority counting as invalid; a lane that loses block lock
loses its role (R227, R232, R246, R253). -/
def Hw.noteHeaders (h : Hw) (p : Nat) (hs : List Nat) (major : Option Nat) : Hw :=
  (List.range 19).foldl (fun h l =>
    let hd := hs.getD l 0
    let carries := (List.range 18).any fun r => h.roleLane p r = l
    let ok := (hd = 1 || hd = 2) && (!carries || major.isNone || major = some hd)
    let was := h.bget (eaveA p 0xC) l
    let h := h.noteHeader p l ok
    if was && !h.bget (eaveA p 0xC) l && (h.port p).rxSleep == 0 then h.eraseLane p l else h) h

/-- A corrected column counts in CNT_0 and against the lane of its role; more than LIMIT within 2^20 block sets erase the
role (R245, R246). -/
def Hw.noteCorrected (h : Hw) (p r : Nat) : Hw :=
  let h := h.ecount p 0
  let l := h.roleLane p r
  let now := (h.port p).rxCount
  let es := (now :: ((h.port p).lane l).errs).filter fun n => decide (now < n + 2 ^ 20)
  let h := h.updPort p fun pt => pt.setLane l { pt.lane l with errs := es }
  if es.length > h.eget p 0x14 15 0 then h.eraseRole p r else h

/-- The comparison of step 5 of Table 8.11: lane 18 against the decoded role. -/
def Hw.compareSpare (h : Hw) (p : Nat) (w18 : Word64) (roles : List Word64) : Hw :=
  h.updPort p fun pt => { pt with spare := pt.spare.map fun s =>
    if !s.ready then s else { s with matched := if roles.getD s.role 0 = w18 then s.matched + 1 else 0 } }

/-- One of the 16 block sets that follow an announced sleep of the partner has arrived; after the last, the direction sleeps
(R252). LANE_STAT.LOCKED keeps what it read (DESIGN CHOICE: no rule says what it reads while the direction sleeps; log entry 64). -/
def EavePort.nearRxSleep (pt : EavePort) : EavePort :=
  match pt.rxSleepAfter with
  | some (n + 1, s) => if n = 0 then { pt with rxSleepAfter := none, rxSleep := s } else { pt with rxSleepAfter := some (n, s) }
  | _ => pt

/-- Receive one block set: its type and payload, and the state after the receiver's own counting. -/
def Hw.rxSet (h : Hw) (p : Nat) (blks : List (BitVec 66)) : RxSet × Hw :=
  let pt := h.port p
  let rx := (List.range 19).map fun l => (pt.lane l).receive (blks.getD l 0)
  let h := h.updPort p fun pt => { pt with
    lanes := rx.map (·.2.2), rxCount := pt.rxCount + 1, sinceRx := pt.sinceRx + 1 }
  let h := h.updPort p EavePort.nearRxSleep
  let erased := h.erasedRoles p
  let live := (List.range 18).filter fun r => !erased.contains r
  let at' (r : Nat) : Nat × Word64 × Lane := rx.getD (h.roleLane p r) (0, 0, {})
  let nd := (live.filter fun r => (at' r).1 = 1).length
  let nc := (live.filter fun r => (at' r).1 = 2).length
  let major := if 2 * nd > live.length then some 1 else if 2 * nc > live.length then some 2 else none
  let codes := live.filter fun r => (at' r).1 = 2 && fld (at' r).2.1 7 0 == 0xE6
  if 2 * codes.length > live.length then
    let h := (h.updPort p fun pt => { pt with badRun := 0 }).noteHeaders p (rx.map (·.1)) (some 2)
    (.marker ((codes.head?.map fun r => (at' r).2.1).getD 0), h)
  else
    let h := h.noteHeaders p (rx.map (·.1)) major
    match major with
    | none => (.bad, h.badSet p)
    | some m =>
      let (found, fixed) := rsDecodeSet erased ((List.range 18).map fun r => (at' r).2.1)
      let h := fixed.foldl (fun h r => h.noteCorrected p r) h
      match found with
      | none => (.bad, h.badSet p)
      | some ws =>
        let v := payloadOf ws
        if !crcOk v || (m = 1 && fld v 3 0 > 9) then (.bad, h.badSet p)
        else
          let h := h.updPort p fun pt => { pt with badRun := 0 }
          let h := h.compareSpare p (rx.getD 18 (0, 0, {})).2.1 ws
          (if m = 1 then .data v else .control v, h)

/-- Block sets are received in ALIGN, CALIBRATE and ACTIVE while the direction is awake (R253). -/
def Hw.rxOpen (h : Hw) (p : Nat) : Bool :=
  decide (p < 12) && (h.port p).carriesSets && (h.port p).rxSleep == 0 && h.portRuns p

/-! ## Symbols (R237 to R239) -/

/-- KIND code of a symbol (Table 8.8). -/
def symCode : SymKind → Nat
  | .frameGo => 1 | .stallReq => 2 | .release => 3 | .stretch => 4 | .haltNow => 5 | .haltAtEnd => 6
  | .trigger => 7 | .throttle => 8 | .runCtrl => 9

def symOfCode (n : Nat) : Option SymKind :=
  if n = 1 then some .frameGo else if n = 2 then some .stallReq else if n = 3 then some .release
  else if n = 4 then some .stretch else if n = 5 then some .haltNow else if n = 6 then some .haltAtEnd
  else if n = 7 then some .trigger else if n = 8 then some .throttle else if n = 9 then some .runCtrl else none

/-- The symbol entry of Table 8.7. -/
def symEntry (s : Sym) : Nat := symCode s.kind + 2 ^ 4 * (s.eff % 1024) + 2 ^ 16 * (s.origin % 64) + 2 ^ 22 * (s.arg % 1024)

/-- The effect clock that an EFFECT field names, and whether it has already passed, by at most 511 clocks (R238). A symbol
that is up to H clocks ahead has not passed (R127). -/
def effectClock (horizon clk e : Nat) : Nat × Bool :=
  let ahead := (e + 1024 - clk % 1024) % 1024
  if ahead ≤ max 512 horizon then (clk + ahead, false) else (clk, true)

/-- The configuration clock count that a FRAME_GO tells a member: the head sent it at EFFECT − H, and it has travelled the
tree distance (R238). `clk` is the present count, to which it is the nearest. -/
def alignedClock (clk horizon distance e : Nat) : Nat :=
  let want := (e + 1024 - horizon % 1024 + distance) % 1024
  let ahead := (want + 1024 - clk % 1024) % 1024
  if ahead ≤ 512 || clk + ahead < 1024 then clk + ahead else clk + ahead - 1024

/-- The first FRAME_GO after a level-change gap re-aligns the count of a member (R238). -/
def Hw.realign (h : Hw) (k : SymKind) (e : Nat) : Hw :=
  if h.seq.realign && k == .frameGo && h.isMember then
    { h with seq := { h.seq with realign := false, clk := alignedClock h.seq.clk h.seq.horizon h.conf.distance e } }
  else h

/-- A symbol that has arrived on port p waits for its effect clock and travels on along the tree (R238). -/
def Hw.takeSymbol (h : Hw) (p : Nat) (e : Word32) : Hw :=
  match symOfCode (fld e 3 0) with
  | none => h.ecount p 4
  | some k =>
    let h := h.realign k (fld e 13 4)
    let (eff, late) := effectClock h.seq.horizon h.seq.clk (fld e 13 4)
    let s : Sym := ⟨k, fld e 31 22, fld e 21 16, eff, eff - h.seq.horizon⟩
    let h := { h with
      seq := { h.seq with syms := h.seq.syms ++ [s] }
      ports := h.ports.map fun kv =>
        if kv.1 ≠ p && h.conf.treePorts.contains kv.1 then (kv.1, { kv.2 with txSyms := kv.2.txSyms ++ [s] }) else kv }
    if late then (h.ecount p 2).poison else h

/-- The symbol entries of a data or control block set (R239). -/
def Hw.takeSymbols (h : Hw) (p : Nat) (v : BitVec 1024) : Hw :=
  let es : List Word32 := ([v.extractLsb' 32 32, v.extractLsb' 64 32]).filter fun e => fld e 3 0 != 0
  let sseq := fld v 31 24
  let gap := (sseq + 256 - (h.port p).sseqRx) % 256
  let h := if gap = 0 then h else (h.ecount p 2 gap).raisePoison (evSymbolLost p)
  let h := h.updPort p fun pt => { pt with sseqRx := (sseq + es.length) % 256 }
  es.foldl (fun h e => h.takeSymbol p e) h

/-! ## Data block sets (R233, R235) -/

/-- The groups of a data block set, kept by frame and position. -/
def Hw.takeGroups (h : Hw) (p : Nat) (v : BitVec 1024) : Hw :=
  let gs := (List.range (fld v 3 0)).map fun g =>
    (⟨fld v 23 20, fld v 19 4 + g, v.extractLsb' (96 + 96 * g) 96⟩ : Group)
  h.updPort p fun pt => { pt with rxGroups := pt.rxGroups ++ gs }

/-- TYPE of a control block set. -/
def ctlType (v : BitVec 1024) : Nat := fld v 7 0

/-- DATA_BLOCK_SET: a data block set; also a block set that is uncorrectable, an IDLE one, and one of a TYPE outside
Table 8.9, which the table of commands gives no row of their own (R233, R236, R241). -/
def execDataBlockSet (h : Hw) (p : Nat) (blks : List (BitVec 66)) : Hw :=
  if !h.rxOpen p then h else
  match h.rxSet p blks with
  | (.data v, g) => (g.takeSymbols p v).takeGroups p v
  | (.bad, g) => g
  | (.control v, g) =>
    if ctlType v = 0 then g.takeSymbols p v else if ctlType v ∉ [2, 3, 4, 5, 6] then g.ecount p 4 else h
  | (.marker _, _) => h

/-- A control block set of one TYPE: its symbols first, then what the type does. -/
def Hw.rxControl (h : Hw) (p : Nat) (blks : List (BitVec 66)) (ty : Nat) (ok : BitVec 1024 → Bool)
    (f : BitVec 1024 → Hw → Hw) : Hw :=
  if !h.rxOpen p then h else
  match h.rxSet p blks with
  | (.control v, g) => if ctlType v = ty && ok v then f v (g.takeSymbols p v) else h
  | _ => h

/-- CAPTURE: the values wait for their effect clock and travel on along the tree (R126, R241). -/
def execCapture (h : Hw) (p : Nat) (blks : List (BitVec 66)) : Hw :=
  h.rxControl p blks 2 (fun _ => true) fun v h =>
    let (eff, late) := effectClock h.seq.horizon h.seq.clk (fld v 23 14)
    let c : CapSym := ⟨if bit v 12 then some (v.extractLsb' 96 64) else none,
      if bit v 13 then some (fld v 11 8) else none, eff⟩
    let h := { h with
      seq := { h.seq with caps := h.seq.caps ++ [c] }
      ports := h.ports.map fun kv =>
        if kv.1 ≠ p && h.conf.treePorts.contains kv.1 then (kv.1, { kv.2 with txCaps := kv.2.txCaps ++ [c] }) else kv }
    if late then (h.ecount p 2).poison else h

/-! ## ALIGN and calibration (R228 to R230, R250, R251) -/

/-- CALIBRATE follows once deskew is done and LINK_ID has been exchanged. -/
def Hw.alignDone (h : Hw) (p : Nat) : Hw :=
  let pt := h.port p
  if pt.state = .align && pt.deskewed && pt.linkIdSeen && pt.linkIdSent then
    h.updPort p fun pt => { pt with state := .calibrate, samples := [] }
  else h

/-- LINK_ID of this module on port p (R230). -/
def Hw.linkIdMsg (h : Hw) (p : Nat) : CtlMsg :=
  ⟨6, (if h.stepping = .a1 then 0x11 else 0x20) + 2 ^ 8 * (h.devIndex % 64),
   p + 2 ^ 4 * (match h.img.loaded with | some l => l.configId.toNat | none => 0)⟩

/-- Deskew by the first marker: once up to 8 blocks of skew have been removed, a lane that does not carry the marker of the
same MCOUNT counts as not ready (R228, R229). `ws` holds each lane's header and payload, `mcount` the marker's count. -/
def Hw.deskew (h : Hw) (p : Nat) (ws : List (Nat × Word64)) (mcount : Nat) : Hw :=
  if (h.port p).deskewed then h else
  let late (l : Nat) : Bool :=
    match ws.getD l (0, 0) with
    | (hd, w) => !(hd == 2 && fld w 7 0 == 0xE6 && fld w 31 16 == mcount)
  let wrong := ((h.port p).readyLanes).any late
  let h := h.updPort p fun pt => { pt with
    deskewed := true
    lanes := pt.lanes.zipIdx.map fun x => if late x.2 then { x.1 with ready := false } else x.1 }
  let h := if wrong then h.mapRoles p else h
  if (h.port p).readyLanes.length < 17 then h.failTraining p 2
  else h.updPort p fun pt => { pt with txCtl := pt.txCtl ++ [h.linkIdMsg p] }

/-- LINK_ID (R230). -/
def execLinkId (h : Hw) (p : Nat) (blks : List (BitVec 66)) : Hw :=
  h.rxControl p blks 6 (fun _ => true) fun v h =>
    let before := h.known
    let h := h.eset p 4 18 8 (fld v 21 16 + 2 ^ 6 * fld v 99 96 + 2 ^ 10)
    let h := h.noteKnown before
    ((h.updPort p fun pt => { pt with
      linkIdSeen := true, partnerIdent := fld v 15 8, partnerConfig := v.extractLsb' 100 64 }).alignDone p).reportPort p

/-- Half-ticks rounded up to whole courses, with the 13 courses of R250. -/
def measuredOf (s : Int) : Nat := ((s + 1) / 2 + 13).toNat

/-- The drift of R251: the mean of the last samples minus MEASURED, rounded down, and LINK_DRIFT with its hysteresis. Before 16
samples have come, it is the mean of those there are (DESIGN CHOICE: R251 names the last 16; log entry 64). -/
def Hw.noteDrift (h : Hw) (p : Nat) : Hw :=
  let ss := (h.port p).samples
  let m : Int := h.eget p 0x100 17 9
  let cur : Int := (ss.foldl (· + ·) 0 + (26 - 2 * m) * ss.length) / (2 * ss.length)
  let h := h.eset p 0x104 9 0 ((cur % 1024).toNat)
  let pt := h.port p
  if 16 < cur.natAbs ∧ !pt.driftFlag then
    ((h.updPort p fun pt => { pt with driftFlag := true }).ecount p 6).raise (evLinkDrift p)
  else if cur.natAbs ≤ 8 then h.updPort p fun pt => { pt with driftFlag := false }
  else h

/-- A transmit direction that is not in L-OFF wakes: an announcement still waiting, or under way, is dropped (R252). -/
def EavePort.wakeTx (pt : EavePort) : EavePort :=
  { pt with
    txSleep := 0, sleepAfter := none
    txCtl := pt.txCtl.filter fun m => !(m.type == 5 && (m.field % 16 == 3 || m.field % 16 == 4)) }

/-- A sleep request of SLEEP_CTRL acts on an ACTIVE port that carries no configuration: the announcement is queued, or a
sleeping direction wakes. L-OFF is left through DETECT, after which the request acts anew (R252, Table 8.12). -/
def Hw.applySleep (h : Hw) (p : Nat) : Hw :=
  let pt := h.port p
  if pt.state ≠ .active || h.carries p then h else
  let r := h.eget p 0x108 1 0 % 3
  if pt.txSleep = 2 && r != 2 then h.offWake p
  else if r = 0 then h.updPort p EavePort.wakeTx
  else if pt.txSleep = r then h
  else h.updPort p fun pt => { pt.wakeTx with txCtl := pt.wakeTx.txCtl ++ [⟨5, 2 + r, 0⟩] }

/-- ACTIVE is entered: the counters start at 0 (R256), a PLL that uses the port's clock locks (R18), the neighbour learns what
this module knows (R442), and a kept sleep request takes effect (R252). A port that comes with three roles erased, or three lanes
in use without signal, has lost its partner at once (R254). -/
def Hw.enterActive (h : Hw) (p : Nat) : Hw :=
  let h := h.clearRegs ((List.range 8).map fun n => eaveA p (0x20 + 4 * n))
  let h := h.updPort p fun pt => { pt with state := .active, samples := [], driftFlag := false, sinceRx := 0, badRun := 0 }
  if (h.erasedRoles p).length ≥ 3 || (h.darkRoles p).length ≥ 3 then h.partnerLost p
  else (((h.relock p).tellNeighbours (some p) (h.portRecord p)).reportAll p).applySleep p

/-- One sample of the one-way time (R250, R251). A MEASURED above 511 is stored as 511 (DESIGN CHOICE: R114 gives the field 9 bits,
and R250 no limit; log entry 64). -/
def Hw.takeSampleMark (h : Hw) (p : Nat) (s : Int) : Hw :=
  let pt := h.port p
  if pt.state = .calibrate then
    let ss := (s :: pt.samples).take 256
    let h := h.updPort p fun pt => { pt with samples := ss }
    if ss.length < 256 then h else
    let m := measuredOf (ss.foldl max s)
    ((h.eset p 0x100 17 9 (min 511 m)).eset p 0x100 31 31 1).enterActive p
  else if pt.state = .active then
    (h.updPort p fun pt => { pt with samples := (s :: pt.samples).take 16, confirm := pt.confirm - 1 }).noteDrift p
  else h

/-- The calibration counter of the ports, 3.2 GHz whatever the level, once `part` of the present course clock has passed
(R250). -/
def Hw.calTick (h : Hw) (part : Nat) : Nat := (h.calib + min part (courseUnits h.seq.level - 1)) / courseUnits 0

/-- Blocks of their sync headers and payloads: the header is sent first. -/
def setBlocks (heads : List (BitVec 2)) (words : List Word64) : List (BitVec 66) := List.zipWith (fun w hd => w ++ hd) words heads

/-- MARKER: a marker arrives, at the tick that the calibration counter then reads. Its blocks lie as they do once up to 8 blocks of
skew have been removed (R228, R250, R251). -/
def execMarker (h : Hw) (p : Nat) (blks : List (BitVec 66)) (part : Nat) : Hw :=
  if !h.rxOpen p then h else
  let ws := (List.range 19).map fun l => let r := ((h.port p).lane l).receive (blks.getD l 0); (r.1, r.2.1)
  let tick := h.calTick part
  match h.rxSet p blks with
  | (.marker w, g) =>
    let g := if (g.port p).state = .align then g.deskew p ws (fld w 31 16) else g
    if !g.rxOpen p then g else
    let g := g.updPort p fun pt => { pt with sinceRx := 0, mLast := some (fld w 31 16, tick) }
    let g := match (g.port p).mSent.find? fun m => m.1 % 4096 = fld w 43 32 with
      | some (_, dep) => g.takeSampleMark p ((tick : Int) - dep - fld w 63 44)
      | none => g
    g.alignDone p
  | _ => h

/-- MARKER_TIMEOUT: no marker for 8,192 block sets on an awake direction of an ACTIVE port (R254). -/
def execMarkerTimeout (h : Hw) (p : Nat) : Hw :=
  if (h.port p).state = .active && (h.port p).rxSleep = 0 then h.partnerLost p else h

/-! ## LANE and ACK block sets (R242, R247, R252) -/

def laneOp (v : BitVec 1024) : Nat := fld v 11 8

/-- SPARE_REQ: COEFF blocks start on lane 18 at preset 2 (R247, step 3). -/
def execSpareReq (h : Hw) (p : Nat) (blks : List (BitVec 66)) : Hw :=
  h.rxControl p blks 5 (fun v => laneOp v == 1 && decide (fld v 16 12 < 18)) fun v h =>
    let h := (h.setTaps p 18 4 8).updPort p fun pt => { pt with
      txSpare := some (fld v 16 12, true)
      lanes := pt.lanes.set 18 { pt.lane 18 with idle := false, partnerReady := false, statPre := 0, statPost := 0 } }
    h.sendCoeff p 18

/-- SPARE_DONE: the failed lane goes to electrical idle, and lane 18 carries the role (R247, step 7). -/
def execSpareDone (h : Hw) (p : Nat) (blks : List (BitVec 66)) : Hw :=
  h.rxControl p blks 5 (fun v => laneOp v == 2 && decide (fld v 16 12 < 18)) fun v h =>
    let r := fld v 16 12
    h.updPort p fun pt =>
      let l := pt.txRole.getD r r
      { pt with txSpare := none, txRole := pt.txRole.set r 18, lanes := pt.lanes.set l { pt.lane l with idle := true } }

/-- LANE_QUIET: the partner's transmit direction goes to sleep after 16 further block sets (R252). -/
def execLaneQuiet (h : Hw) (p : Nat) (blks : List (BitVec 66)) : Hw :=
  h.rxControl p blks 5 (fun v => laneOp v == 3 || laneOp v == 4) fun v h =>
    h.updPort p fun pt => { pt with rxSleepAfter := some (16, laneOp v - 2) }

/-- LANE_WAKE of an awake module: from L-QUIET the direction resumes, and 16 marker samples confirm MEASURED; from L-OFF the
port retrains (Table 8.12). -/
def Hw.laneWakePort (h : Hw) (p : Nat) : Hw :=
  let pt := h.port p
  if pt.rxSleep = 1 then
    h.updPort p fun pt => { pt with rxSleep := 0, sinceRx := 0, badRun := 0, samples := [], confirm := 16 }
  else if pt.rxSleep = 2 then h.offWake p else h

/-- Messages that an ACKSEQ acknowledges: the oldest ones up to it. -/
def ackList (seq : Nat) : List SentMsg → List SentMsg
  | [] => []
  | m :: ms => if m.seq = seq then ms else ackList seq ms

/-- ACK (R242). -/
def execAck (h : Hw) (p : Nat) (blks : List (BitVec 66)) : Hw :=
  h.rxControl p blks 4 (fun _ => true) fun v h =>
    let seq := fld v 15 8
    h.updPort p fun pt =>
      if pt.unacked.any fun m => m.seq = seq && m.sent then { pt with unacked := ackList seq pt.unacked } else pt

/-- The oldest message of a port has gone 20 µs without acknowledgement: every sent one is sent again, or after 8 resends it
is dropped, with the command that it belongs to (R242, R443). The later ones keep their MSEQ, so that a receiver which never took
the dropped one does not take them either until the port trains anew (DESIGN CHOICE: R242 does not say how numbering continues;
log entry 64). -/
def Hw.resendMsgs (h : Hw) (p : Nat) : Hw × Option (Nat × Nat) :=
  let pt := h.port p
  match pt.unacked with
  | [] => (h, none)
  | m :: ms =>
    if p ≥ 12 || !m.sent then (h, none)
    else if m.resends ≥ 8 then ((h.updPort p fun pt => { pt with unacked := ms }).raise (evLinkMsgFailed p), m.own)
    else
      let n := (pt.unacked.filter (·.sent)).length
      ((h.ecount p 5 n).updPort p fun pt => { pt with unacked := pt.unacked.map fun m =>
        if m.sent then { m with sent := false, resends := m.resends + 1 } else m }, none)

/-- The fragment of a MSG block set (R242). -/
def msgBody (v : BitVec 1024) : MsgBody :=
  let b (i : Nat) : Byte := v.extractLsb' (96 + 8 * i) 8
  let n := min 108 ((b 2).toNat + 256 * (b 3).toNat)
  ⟨fld v 23 16, (b 0).toNat, bit (b 1) 0, bit (b 1) 1, (List.range n).map fun i => b (4 + i)⟩

/-- MSG, as the transport treats it: in sequence it is taken and acknowledged; a fragment for another module goes on along
the tree. The answer says whether the last fragment of a message for this module has come (R242). One that has come before is dropped
and not acknowledged again (DESIGN CHOICE: R242 does not say whether it is; log entry 64). -/
def Hw.takeMsg (h : Hw) (p : Nat) (blks : List (BitVec 66)) : Hw × Bool :=
  if !h.rxOpen p then (h, false) else
  match h.rxSet p blks with
  | (.control v, g) =>
    if ctlType v ≠ 3 then (h, false) else
    let g := g.takeSymbols p v
    if fld v 15 8 ≠ (g.port p).mseqRx then (g, false) else
    let g := g.updPort p fun pt => { pt with mseqRx := (pt.mseqRx + 1) % 256, ackDue := true }
    let b := msgBody v
    if b.dst ≠ h.devIndex then
      ((g.msgPorts b.dst).foldl (fun h q => if q = p then h else h.queueMsg q b none) g, false)
    else (g, b.last)
  | _ => (h, false)

/-! ## Sending a block set (R229, R231, R233, R243) -/

def Hw.markerEvery (h : Hw) (p : Nat) : Nat := if (h.port p).state = .active then 1024 else 64

/-- A marker is due: the interval of Table 8.3 has passed since the last. -/
def Hw.markerDue (h : Hw) (p : Nat) : Bool := decide (h.markerEvery p ≤ (h.port p).sinceTx + 1)

/-- Send one block on each lane: `f l` gives the control flag and the payload of lane l, none for a lane that carries
nothing of the set. Lane 18 then carries a copy under R247 or an idle block, whose payload the manual does not state. An
electrically idle lane is shown as a block of header 0. -/
def Hw.sendLanes (h : Hw) (p : Nat) (f : Nat → Option (Bool × Word64)) : Hw :=
  let (bs, h) := (List.range 19).foldl (fun (acc : List (BitVec 66) × Hw) l =>
    let x := (acc.2.port p).lane l
    if x.idle then (acc.1 ++ [0], acc.2)
    else match f l with
      | some (c, w) =>
        let (b, x) := x.block c w
        (acc.1 ++ [b], acc.2.updPort p fun pt => pt.setLane l x)
      | none =>
        let (w, g) := acc.2.takeFree
        let (b, x) := x.block true w
        (acc.1 ++ [b], g.updPort p fun pt => pt.setLane l x)) ([], h)
  h.emit (.blockSet p bs)

/-- Count a sent block set against the share of R243 and towards an announced sleep. -/
def Hw.sentSet (h : Hw) (p : Nat) (control marker : Bool) : Hw :=
  let limited := h.carries p && h.busy
  h.updPort p fun pt =>
    let (after, sleep) := match pt.sleepAfter with
      | some (n + 1, s) => if n = 0 then (none, s) else (some (n, s), pt.txSleep)
      | _ => (none, pt.txSleep)
    { pt with share := if limited then (control :: pt.share).take 1023 else []
              sinceTx := if marker then 0 else pt.sinceTx + 1
              sleepAfter := after, txSleep := sleep }

/-- Send a marker that departs at a tick of the calibration counter (Table 8.5). Before a marker has come from the
partner, ECHO and HOLD are open. -/
def Hw.sendMarker (h : Hw) (p tick : Nat) : Hw :=
  let pt := h.port p
  let (fr, h) := match pt.mLast with | some _ => (0, h) | none => h.takeFree
  let (echo, hold) := match pt.mLast with
    | some (m, t) => (m % 4096, (tick - t) % 2 ^ 20)
    | none => (fld fr 11 0, fld fr 31 12)
  let word (l : Nat) : Word64 := BitVec.ofNat 64 (0xE6 + 2 ^ 8 * l + 2 ^ 16 * pt.mcount + 2 ^ 32 * echo + 2 ^ 44 * hold)
  let h := h.sendLanes p fun l => some (true, word l)
  let h := h.updPort p fun pt => { pt with
    mcount := (pt.mcount + 1) % 65536, mSent := ((pt.mcount, tick) :: pt.mSent).take 1024 }
  h.sentSet p true true

/-- The next two symbols of a port, their entries and the number of the first (R239). -/
def Hw.takeTxSyms (h : Hw) (p : Nat) : Nat × Nat × Nat × Hw :=
  let pt := h.port p
  let ss := pt.txSyms.take 2
  (pt.sseqTx, (ss.head?.map symEntry).getD 0, ((ss.drop 1).head?.map symEntry).getD 0,
   h.updPort p fun pt => { pt with txSyms := pt.txSyms.drop 2, sseqTx := (pt.sseqTx + ss.length) % 256 })

/-- Lane 18 carries COEFF blocks in place of the block set: of a transmitter that follows SPARE_REQ, and of a receiver that sets
the coefficients of its partner's spare, while its own lane 18 carries no role (R247, step 3). -/
def EavePort.spareCoeff (pt : EavePort) : Bool :=
  !pt.txRole.contains 18 && ((match pt.txSpare with | some (_, c) => c | none => false) ||
    (match pt.spare with | some s => !s.ready && pt.txSpare.isNone | none => false))

/-- Send a coded block set whose payload bits outside SSEQ, the symbols and the CRC are `v` (R231, R236, R244). -/
def Hw.sendPayload (h : Hw) (p : Nat) (control : Bool) (v : BitVec 1024) : Hw :=
  let (sseq, s0, s1, h) := h.takeTxSyms p
  let v := withCrc (setFld (setFld (setFld v 31 24 sseq) 63 32 s0) 95 64 s1)
  let ws := rsEncode v
  let pt := h.port p
  let roleOf (l : Nat) : Option Nat := (List.range 18).find? fun r => pt.txRole.getD r r = l
  let copy : Option Nat := match pt.txSpare with | some (r, false) => some r | _ => none
  let coeff := h.coeffWord p 18
  let h := h.sendLanes p fun l =>
    match roleOf l with
    | some r => some (control, ws.getD r 0)
    | none =>
      if l ≠ 18 then none
      else if pt.spareCoeff then some (true, coeff) else copy.map fun r => (control, ws.getD r 0)
  h.sentSet p control false

/-- Slot groups that one data block set takes: up to nine of one frame at consecutive positions (R233). -/
def groupRun : Nat → List Group → List Group
  | _, [] => []
  | 0, _ => []
  | _, [g] => [g]
  | n + 1, g :: g' :: gs =>
    if g'.frm = g.frm ∧ g'.pos = g.pos + 1 then g :: groupRun n (g' :: gs) else [g]

/-- A data block set of some waiting groups (Table 8.6). -/
def Hw.sendData (h : Hw) (p : Nat) : Hw :=
  let gs := groupRun 9 (h.port p).txGroups
  let gs := gs.take 9
  let h := h.updPort p fun pt => { pt with txGroups := pt.txGroups.drop gs.length }
  let hd := match gs with
    | g :: _ => gs.length + 2 ^ 4 * (g.pos % 65536) + 2 ^ 20 * g.frm
    | [] => 0
  let v := gs.zipIdx.foldl (fun (v : BitVec 1024) gi => setFld v (96 * gi.2 + 191) (96 * gi.2 + 96) gi.1.bits.toNat)
    (BitVec.ofNat 1024 hd)
  h.sendPayload p false v

/-- A control block set (R241). -/
def Hw.sendControl (h : Hw) (p : Nat) (m : CtlMsg) : Hw :=
  h.sendPayload p true (BitVec.ofNat 1024 (m.type + 2 ^ 8 * m.field + 2 ^ 96 * m.body))

/-- The MSG block set of a message (R242). -/
def msgCtl (m : SentMsg) : CtlMsg :=
  ⟨3, m.seq + 2 ^ 8 * m.body.chan,
   ofBytes ([BitVec.ofNat 8 m.body.dst, BitVec.ofNat 8 ((if m.body.first then 1 else 0) + if m.body.last then 2 else 0)] ++
     bytesOf 2 m.body.data.length ++ m.body.data)⟩

/-- Send the LANE, ACK, MSG or LINK_ID block set that waits, in that order, if one does (R243, item 4). -/
def Hw.sendWaiting (h : Hw) (p : Nat) : Option Hw :=
  let pt := h.port p
  let lane := pt.txCtl.find? fun m => m.type == 5
  let link := pt.txCtl.find? fun m => m.type == 6
  let msg := (pt.unacked.take 32).find? fun m => !m.sent
  let take (h : Hw) (m : CtlMsg) : Hw := h.updPort p fun pt => { pt with txCtl := pt.txCtl.erase m }
  match lane, pt.ackDue, msg, link with
  | some m, _, _, _ =>
    let h := (take h m).sendControl p m
    let op := m.field % 16
    some (if op = 3 ∨ op = 4 then h.updPort p fun pt => { pt with sleepAfter := some (16, op - 2) } else h)
  | none, true, _, _ =>
    some ((h.updPort p fun pt => { pt with ackDue := false }).sendControl p ⟨4, (pt.mseqRx + 255) % 256, 0⟩)
  | none, false, some m, _ =>
    let h := h.updPort p fun pt => { pt with unacked := pt.unacked.map fun x =>
      if x.seq = m.seq then { x with sent := true } else x }
    some (h.sendControl p (msgCtl m))
  | none, false, none, some m =>
    some ((((take h m).sendControl p m).updPort p fun pt => { pt with linkIdSent := true }).alignDone p)
  | _, _, _, none => none

/-- A control block set keeps within the share of R243, where the share is limited: of 1,024 consecutive block sets one is a
marker, which the interval of R229 makes due. -/
def Hw.shareOk (h : Hw) (p : Nat) : Bool :=
  !(h.carries p && h.busy) || decide (((h.port p).share.filter id).length < 255)

/-- The CAPTURE block set of R241. -/
def capCtl (c : CapSym) : CtlMsg :=
  ⟨2, (c.alt.getD 0) + (if c.dev.isSome then 2 ^ 4 else 0) + (if c.alt.isSome then 2 ^ 5 else 0) + 2 ^ 6 * (c.eff % 1024),
   (c.dev.getD 0).toNat⟩

/-- A transmitter sends block sets in ALIGN, CALIBRATE and ACTIVE while its direction is awake. -/
def Hw.txOpen (h : Hw) (p : Nat) : Bool :=
  decide (p < 12) && (h.port p).carriesSets && (h.port p).txSleep == 0 && h.portRuns p

/-- MARKER_DUE (R229). -/
def execMarkerDue (h : Hw) (p part : Nat) : Hw :=
  if h.txOpen p && h.markerDue p then h.sendMarker p (h.calTick part) else h

/-- One block set of an open transmitter, chosen in the order of R243. Where the share is spent, a CAPTURE waits too, and a data
block set without groups takes the place of IDLE. -/
def Hw.sendSet (h : Hw) (p part : Nat) : Hw :=
  let pt := h.port p
  if h.markerDue p then h.sendMarker p (h.calTick part)
  else match (if h.shareOk p then pt.txCaps else []) with
    | c :: cs => (h.updPort p fun pt => { pt with txCaps := cs }).sendControl p (capCtl c)
    | [] =>
      if pt.txGroups != [] then h.sendData p
      else match (if h.shareOk p then h.sendWaiting p else none) with
        | some h => h
        | none => if pt.txSyms != [] || !h.shareOk p then h.sendData p else h.sendControl p ⟨0, 0, 0⟩

/-- BLOCK_SET_SEND: one block-set time of a transmitter. In TRAIN every lane carries a COEFF block; in DETECT, RETRY_WAIT and
ABSENT an idle block, whose payload the manual does not state (Table 8.3, R224, R243). Lanes that are in L-QUIET or L-OFF with the
power state send nothing (Table 1.5). -/
def execBlockSetSend (h : Hw) (p part : Nat) : Hw :=
  if p ≥ 12 || !h.portRuns p then h else
  match (h.port p).state with
  | .disabled => h
  | .detect | .retryWait | .absent => h.sendLanes p fun _ => none
  | .train => (List.range 19).foldl (fun h l => h.sendCoeff p l) h
  | .align | .calibrate | .active =>
    if h.txOpen p then h.sendSet p part else h

/-! ## Port registers (R217, R223, R252) -/

/-- A write of EAVE_p.CTRL: RW fields at once, then ENABLE and RETRAIN act. -/
def Hw.writePortCtrl (h : Hw) (p : Nat) (v : Word32) : Hw :=
  if p ≥ 12 then h else
  let h := h.setReg (eaveA p 0) (v &&& 0xFF05#32)
  let pt := h.port p
  if !bit v 0 then (if pt.state = .disabled then h else h.forgetLink p .disabled)
  else if pt.state = .disabled then (if pt.started then h.enterDetect p else h)
  else if bit v 1 then h.restartPort p else h

/-- PORT_RETRAIN. -/
def execPortRetrain (h : Hw) (p : Nat) (v : Word32) : Hw := if bit v 1 then h.writePortCtrl p v else h

/-- PORT_ENABLE_WRITE. -/
def execPortEnableWrite (h : Hw) (p : Nat) (v : Word32) : Hw := h.writePortCtrl p v

/-- SLEEP_CTRL_WRITE. -/
def execSleepCtrlWrite (h : Hw) (p : Nat) (v : Word32) : Hw :=
  if p ≥ 12 then h else (h.setReg (eaveA p 0x108) (v &&& 3#32)).applySleep p

/-- A port enters L-OFF at the end of the SLEEP entry: an awake transmitter sends its LANE OFF and 16 further block sets
before the domain switches off, and the coefficients are kept (R252, Table 15.4, Table 8.12). -/
def Hw.portOff (h : Hw) (p : Nat) : Hw :=
  let h := if h.txOpen p then
      (List.range 16).foldl (fun h _ => h.sendControl p ⟨0, 0, 0⟩) (h.sendControl p ⟨5, 4, 0⟩)
    else h
  (h.keepTaps p).updPort p fun pt => { pt.wakeTx with txSleep := 2, rxSleep := 2, rxSleepAfter := none }

/-- A port has no transmit direction that is awake and stays so: it is not ACTIVE, sleeps, or has announced that it will. -/
def EavePort.quietSoon (pt : EavePort) : Bool :=
  pt.state != .active || pt.txSleep != 0 || pt.sleepAfter.isSome ||
    pt.txCtl.any fun m => m.type == 5 && (m.field % 16 == 3 || m.field % 16 == 4)

/-- Every ACTIVE port goes to sleep level s with a power state: L-QUIET is announced, and L-OFF comes with SLEEP (R252, R393
to R395). -/
def Hw.portsSleep (h : Hw) (s : Nat) : Hw :=
  (List.range 12).foldl (fun h p =>
    if s = 2 then (if (h.port p).state = .active then h.portOff p else h.keepTaps p)
    else if (h.port p).quietSoon then h
    else h.updPort p fun pt => { pt with txCtl := pt.txCtl ++ [⟨5, 2 + s, 0⟩] }) h

/-- Sleep requests of SLEEP_CTRL act again once a power state no longer holds the lanes asleep (R252). -/
def Hw.applySleeps (h : Hw) : Hw := (List.range 12).foldl (fun h p => h.applySleep p) h

/-- Wake the transmit direction of every port that the configuration uses, as before the first FRAME_GO of a run (R252). -/
def Hw.wakePorts (h : Hw) (ps : List Nat) : Hw :=
  ps.foldl (fun h p => if (h.port p).txSleep = 2 then h.offWake p else h.updPort p EavePort.wakeTx) h

end Sys2Proof.Machine
end

