-- ==== Sys2Proof/Machine/TimeUnit.lean ====
section
/-!
DEFINITION. Network time and timed events (chapter 10): the fast timebase, measurements, phases and status, the 1PPS
output, time-event generators, capture units, and the edges of user I/O pins (R306, R496, R497).
-/

namespace Sys2Proof.Machine

/-- Units of time in one nanosecond and in one bit time of 625 ps. -/
def nsUnits : Nat := 3 * 2 ^ 16
def bitTime : Nat := 122880

/-! ## Fields of TIME.STAT (Table 10.6) -/

def Hw.tStatus (h : Hw) : Nat := h.fget (timeA 0x10) 1 0
def Hw.tPhase (h : Hw) : Nat := h.fget (timeA 0x10) 3 2
def Hw.tDomain (h : Hw) : Nat := h.fget (timeA 0x10) 4 4
def Hw.tArmed (h : Hw) : Bool := h.bget (timeA 0x10) 5
def Hw.tValid (h : Hw) (d : Nat) : Bool := h.bget (timeA 0x10) (6 + d)

def Hw.setTStat (h : Hw) (n : Nat) (b : Bool) : Hw := h.setReg (timeA 0x10) (setBit (h.reg (timeA 0x10)) n b)

/-- Measurements are treated under R296: in NORMAL, and on the head of a TIMED run, from the acceptance of its start on (R298). -/
def Hw.strictTime (h : Hw) : Bool :=
  h.tPhase == 1 || (h.isHead && (if h.startWaits then h.startSent fun n => n == 1 else h.framesOn && h.seq.mode == .timed))

/-- JUMP_THRESHOLD in units of time; 0 acts as 1 ns. -/
def Hw.jumpLimit (h : Hw) : Nat := max 1 (h.reg (timeA 0x18)).toNat * nsUnits

/-! ## Uncertainty (R304) -/

/-- Nanoseconds of a length, rounded up. -/
def nsUp (t : Nat) : Nat := (t + nsUnits - 1) / nsUnits

/-- TIME.UNCERT (R304). -/
def Hw.uncert (h : Hw) : Nat :=
  min 0xFFFFFFFF (match h.tStatus with
    | 0 => 0xFFFFFFFF
    | 3 => h.time.uncertBase + nsUp (h.time.holdLen * 2 / 10 ^ 6)
    | _ => nsUp (h.time.last16.foldl max 0))

/-- STATUS becomes HOLDOVER, from LOCKING or LOCKED (R299). -/
def Hw.holdover (h : Hw) : Hw :=
  if h.tStatus = 1 ∨ h.tStatus = 2 then
    let u := h.uncert
    let h := (h.fset (timeA 0x10) 1 0 3).raise evTimeHoldover
    { h with time := { h.time with uncertBase := u, holdLen := 0 } }
  else h

/-- A phase is entered (R295, R297). -/
def Hw.enterPhase (h : Hw) (p : Nat) : Hw :=
  let h := h.fset (timeA 0x10) 3 2 p
  { h with time := { h.time with first := true } }

/-! ## Time-event generators (R305 to R308) -/

def teA (k o : Nat) : Nat := timeA (0x100 + 32 * k + o)
def Hw.te (h : Hw) (k : Nat) : TeSt := Store.get {} h.time.te k
def Hw.setTe (h : Hw) (k : Nat) (t : TeSt) : Hw := { h with time := { h.time with te := Store.set {} h.time.te k t } }

def Hw.teMode (h : Hw) (k : Nat) : Nat := h.fget (teA k 0) 2 1
def Hw.tePin (h : Hw) (k : Nat) : Nat := h.fget (teA k 0) 14 5
/-- The generator names a user I/O pin (R306). -/
def Hw.teNames (h : Hw) (k : Nat) : Bool := h.bget (teA k 0) 0 && decide (h.tePin k < 512)

/-- TE_k.AT as an instant in units of time (R289). -/
def Hw.teAt (h : Hw) (k : Nat) : Nat :=
  let sec := fld (h.reg (teA k 8)) 31 16 + 2 ^ 16 * (h.reg (teA k 0xC)).toNat + 2 ^ 48 * h.fget (teA k 0x10) 15 0
  let ns := h.fget (teA k 4) 31 16 + 2 ^ 16 * h.fget (teA k 8) 15 0
  ((sec * 10 ^ 9 + ns) * 2 ^ 16 + h.fget (teA k 4) 15 0) * 3

/-- PERIOD of a time mode in units; a value below 65,536 acts as 65,536. -/
def Hw.tePeriod (h : Hw) (k : Nat) : Nat := max 65536 (h.reg64 (teA k 0x14)).toNat * 3

/-- Frame and position of a frame mode, and N (R305). -/
def Hw.teFrame (h : Hw) (k : Nat) : Nat := (h.reg64 (teA k 4)).toNat
def Hw.tePos (h : Hw) (k : Nat) : Nat := h.fget (teA k 0xC) 15 0
def Hw.teStep (h : Hw) (k : Nat) : Nat := max 1 (h.reg (teA k 0x14)).toNat

/-- Position p of frame f lies behind the present course clock. -/
def Hw.posPassed (h : Hw) (f p : Nat) : Bool :=
  let n := h.seq.frame.toNat
  decide (f < n) || (f == n && (h.seq.deferred || (h.seq.inFrame && decide (p < h.seq.pos))))

/-- First member of base + n·step that is not below lo. -/
def firstFrom (base step lo : Nat) : Nat := if base ≥ lo then base else base + (lo - base + step - 1) / step * step

/-- Re-arm generator k from its registers: it serves no instant that lies before the write (Table 10.8). -/
def Hw.teArm (h : Hw) (k : Nat) : Hw :=
  let t := h.te k
  if !h.bget (teA k 0) 0 then h.setTe k { t with armed := false } else
  match h.teMode k with
  | 0 => h.setTe k { t with armed := decide (h.time.now ≤ h.teAt k), next := h.teAt k }
  | 1 => h.setTe k { t with armed := true, next := firstFrom (h.teAt k) (h.tePeriod k) h.time.now }
  | 2 => h.setTe k { t with armed := !h.posPassed (h.teFrame k) (h.tePos k), next := h.teFrame k }
  | _ => h.setTe k { t with armed := true, next := h.teFrame k }

/-! ### Pins -/

/-- Measured delay of a pin in units of time (R497). -/
def Hw.pinDelay (h : Hw) (n : Nat) : Nat :=
  if n < 512 then h.fget (userioA (0x400 + 4 * n)) 9 0 * h.fget (userioA 0x100) 15 0 * nsUnits / 10 ^ 6 else 0

/-- Bit n of the output registers. -/
def Hw.outBit (h : Hw) (n : Nat) : Bool := h.bget (userioA (0x80 + 4 * (n / 32))) (n % 32)

/-- Some generator names pin n. -/
def Hw.pinNamed (h : Hw) (n : Nat) : Bool := (List.range 32).any fun k => h.teNames k && h.tePin k == n

/-- Value that pin n takes from its generator, or from its output register (R306). -/
def Hw.pinValue (h : Hw) (n : Nat) : Bool :=
  if h.pinNamed n then Store.get false h.time.tePins n else h.outBit n

/-- Whether pin n drives: direction output, bank supplied and not latched, and no restore in
progress (R383, R397, R495). -/
def Hw.pinDrives (h : Hw) (n : Nat) : Bool :=
  decide (n < 512) && h.bget (userioA (0x40 + 4 * (n / 32))) (n % 32) && h.bget (userioA (4 * (n / 32))) 5 &&
    !h.bget (powerA 0x28) (n / 32) && h.snap.restore.isNone

/-- Level of pin n, none for high impedance: in a latched bank what it held when SLEEP was entered (R397). -/
def Hw.pinLevel (h : Hw) (n : Nat) : Option Bool :=
  if h.bget (powerA 0x28) (n / 32) then Store.get none h.power.pads n
  else if h.pinDrives n then some (h.pinValue n) else none

/-- An edge of a driving pin. -/
def Hw.pinEdge (h : Hw) (n : Nat) (v : Bool) (t : Nat) : Hw :=
  if h.pinDrives n then h.emit (.edge n v (t + h.pinDelay n)) else h

/-- First bit-time boundary at or after a time, and the boundary nearest it, the earlier of two. -/
def boundaryAfter (t : Nat) : Nat :=
  let p := Config.bitPhase % bitTime
  let u := t + bitTime - p
  (u + bitTime - 1) / bitTime * bitTime + p - bitTime

def boundaryNear (t : Nat) : Nat :=
  let p := Config.bitPhase % bitTime
  let u := t + bitTime - p
  let lo := u / bitTime * bitTime
  (if 2 * (u - lo) ≤ bitTime then lo else lo + bitTime) + p - bitTime

/-- The present time's boundary for a value that reaches an output register in this course (R496). -/
def Hw.outTime (h : Hw) : Nat := boundaryAfter (h.time.now + courseUnits h.seq.level) + 3 * nsUnits

/-- The instant at which so much time will have run, and the length that will have run at an instant: pulses end by the latter, which
no step of network time moves (R301, R306). -/
def Hw.atRun (h : Hw) (r : Nat) : Nat := r + h.time.now - h.time.run

def Hw.runAt (h : Hw) (t : Nat) : Nat := h.time.run + t - h.time.now

/-- A generator drives pin p from a time on. -/
def Hw.tePut (h : Hw) (p : Nat) (v : Bool) (t : Nat) : Hw :=
  ({ h with time := { h.time with tePins := Store.set false h.time.tePins p v } } : Hw).pinEdge p v t

/-- The pulse of generator k ends, if its end is no later than t: the pin of the pulse becomes 0 while some generator still
names it (R306). -/
def Hw.teFall (h : Hw) (t k : Nat) : Hw :=
  match (h.te k).fall with
  | some (e, p) =>
    if h.atRun e ≤ t then
      let h := h.setTe k { h.te k with fall := none }
      if h.pinNamed p then h.tePut p false (h.atRun e) else h
    else h
  | none => h

/-- All generators by falling number, so that of two that name one pin the lower acts last (R306). -/
def Hw.allTe (h : Hw) (f : Hw → Nat → Hw) : Hw := (List.range 32).reverse.foldl f h

/-- Generator k performs its action, n times, on its pin at a time, after the pulses that have ended by then. A PULSE while
the generator's last one still runs begins anew (R306; DESIGN CHOICE: log entry 62). -/
def Hw.teAct (h : Hw) (k n t : Nat) : Hw :=
  let h := h.setW1c (teA k 0x1C) 1
  if !h.teNames k then h else
  let h := h.allTe fun h j => h.teFall t j
  let p := h.tePin k
  let old := h.pinValue p
  match h.fget (teA k 0) 4 3 with
  | 0 => (h.setTe k { h.te k with fall := some (h.runAt (t + max 1 (h.fget (teA k 0) 31 16) * bitTime), p) }).tePut p true t
  | 1 => h.tePut p true t
  | 2 => h.tePut p false t
  | _ => h.tePut p (if n % 2 = 1 then !old else old) t

/-- Whether a time-mode generator's instant has come. -/
def Hw.teDue (h : Hw) (k : Nat) : Bool :=
  (h.te k).armed && h.bget (teA k 0) 0 && decide (h.teMode k < 2) && decide ((h.te k).next ≤ h.time.now)

/-- Frame n is the frame of FRAME_ONCE, or one of the frames of FRAME_EVERY (R305). -/
def Hw.teFrameOf (h : Hw) (k n : Nat) : Bool :=
  if h.teMode k = 2 then n == h.teFrame k
  else decide (h.teFrame k ≤ n) && (n - h.teFrame k) % h.teStep k == 0

/-- Whether a frame-mode generator's position executes in this course clock, which it has not served yet. -/
def Hw.teFrameDue (h : Hw) (k : Nat) : Bool :=
  (h.te k).armed && h.bget (teA k 0) 0 && decide (2 ≤ h.teMode k) && h.execClock &&
    h.teFrameOf k h.seq.frame.toNat && h.tePos k == h.seq.pos && !h.done.contains (.teFrame k)

/-- Note that generator k has fired in this course clock: a trigger condition, and a wake source of DOZE (R308, R346). -/
def Hw.noteFired (h : Hw) (k : Nat) : Hw :=
  { h with time := { h.time with fired := setBit h.time.fired k true, rung := setBit h.time.rung k true } }

/-- Generator k fires for the instant or the position that has come (R305, R306). -/
def Hw.teFire (h : Hw) (k : Nat) : Hw :=
  let t := h.te k
  if h.teDue k then
    let h := h.setTe k (if h.teMode k = 0 then { t with armed := false } else { t with next := t.next + h.tePeriod k })
    (h.noteFired k).teAct k 1 (boundaryNear t.next)
  else if h.teFrameDue k then
    let h := (h.setTe k { t with armed := h.teMode k == 3 }).markDone (.teFrame k)
    { h.noteFired k with time := { (h.noteFired k).time with tePath := h.time.tePath ++ [(20, k)] } }
  else h

/-- TIME_EVENT_FIRE of generator k. -/
def execTimeEventFire (h : Hw) (k : Nat) : Hw := if k < 32 then h.teFire k else h

/-- A forward step of network time has passed over instants: each time-mode generator serves them at once, counts them
as missed and raises TIME_EVENT_LATE (R307, R308). -/
def Hw.teLate (h : Hw) (k : Nat) : Hw :=
  if !h.teDue k then h else
  let t := h.te k
  let n := if h.teMode k = 0 then 1 else (h.time.now - t.next) / h.tePeriod k + 1
  let h := h.setTe k (if h.teMode k = 0 then { t with armed := false }
    else { t with next := t.next + n * h.tePeriod k })
  let h := (h.bump (teA k 0x1C) 15 8 n).raise (evTimeEventLate k)
  (h.noteFired k).teAct k n (boundaryNear h.time.now)

/-- TE_REARM: a write of CTRL, AT or PERIOD, word o of generator k (Table 10.8). A pin that a generator begins to name
keeps its present value; a pin that none names any longer takes its output register's value from the next boundary
(R306). -/
def execTeRearm (h : Hw) (k o : Nat) (v : Word32) : Hw :=
  if k ≥ 32 || o ≥ 0x1C || o % 4 != 0 then h else
  let m := (regRowAt (teA k o)).elim 0 (·.rw)
  let oldPin := h.tePin k
  let oldNamed := h.teNames k
  let newPin := if o = 0 then fld (v &&& m) 14 5 else oldPin
  let held := h.pinValue newPin
  let wasNamed := h.pinNamed newPin
  let h := h.setReg (teA k o) ((h.reg (teA k o) &&& ~~~ m) ||| (v &&& m))
  let h := if h.teNames k && !wasNamed then
      { h with time := { h.time with tePins := Store.set false h.time.tePins newPin held } }
    else h
  let h := if oldNamed && !h.pinNamed oldPin then
      let t := boundaryAfter h.time.now
      ({ h with time := { h.time with tePins := Store.set false h.time.tePins oldPin false } } : Hw).pinEdge oldPin
        (h.outBit oldPin) t
    else h
  h.teArm k

/-! ## Steps and measurements (R295 to R300) -/

/-- Network time is set to a new value in one step: passed instants are served late (R307), the seconds that the step
passes over give no 1PPS pulse, and nothing remains to be slewed. -/
def Hw.stepTime (h : Hw) (new : Nat) : Hw :=
  let h := { h with time := { h.time with
    now := new, ppsSec := new / unitsPerSec, servo := { h.time.servo with left := 0 } } }
  h.allTe Hw.teLate

/-- Apply an offset as a step (R297); CNT_2 counts steps. -/
def Hw.applyStep (h : Hw) (off : Int) : Hw := h.stepTime ((h.time.now : Int) + off).toNat

/-- A counted step, with TIME_STEPPED (R297). -/
def Hw.countedStep (h : Hw) (off : Int) : Hw := ((h.count (timeA 0x38)).raise evTimeStepped).applyStep off

/-- The servo takes an accepted measurement into its frequency correction, a free value within ±200 ppm (R290, R296). -/
def Hw.correctRate (h : Hw) : Hw :=
  let (v, h) := h.takeFree
  { h with time := { h.time with servo := { h.time.servo with rate := (v.toNat % 400001 : Nat) - 200000 } } }

/-- The servo removes an offset by slewing, at a free rate of at most 100 ppm (R296). -/
def Hw.slewTo (h : Hw) (off : Int) : Hw :=
  let (v, h) := h.takeFree
  { h with time := { h.time with servo := { h.time.servo with
    slew := off.sign * (v.toNat % 100000 + 1 : Nat), left := off.natAbs * 10 ^ 9 } } }

/-- An accepted measurement: frequency, count, list and STATUS (R296, R299, R304). -/
def Hw.acceptMeasure (h : Hw) (off : Int) : Hw :=
  let a := off.natAbs
  let h := h.correctRate
  let h := h.count (timeA 0x30)
  let l := (a :: h.time.last16).take 16
  let h := { h with time := { h.time with last16 := l, refused := 0, first := false } }
  match h.tStatus with
  | 1 =>
    if l.length = 16 ∧ l.all (fun x => decide (x ≤ 100 * nsUnits)) then
      (h.fset (timeA 0x10) 1 0 2).raise evTimeLocked
    else h
  | 2 => if a > 100 * nsUnits then h.fset (timeA 0x10) 1 0 1 else h
  | _ => h.fset (timeA 0x10) 1 0 1

/-- One measurement of the selected source (R296, R297). -/
def Hw.measure (h : Hw) (off : Int) : Hw :=
  let big := decide (off.natAbs > h.jumpLimit)
  if h.strictTime then
    if !big then (h.acceptMeasure off).slewTo off
    else
      let n := h.time.refused + 1
      let h := h.count (timeA 0x34)
      let h := { h with time := { h.time with refused := n } }
      let h := if n = 1 then h.raise evTimeJumpRefused else h
      if n = 16 then h.holdover else h
  else if h.time.first || big then (h.acceptMeasure off).countedStep off
  else (h.acceptMeasure off).slewTo off

/-- TIME.UTC_OFFSET for what the selected master announces (R289). -/
def utcReg (u : Option (BitVec 16)) : Word32 :=
  match u with
  | some s => BitVec.ofNat 32 (s.toNat + 2 ^ 16)
  | none => 0

/-- The time unit selects the other domain (R297). -/
def Hw.selectDomain (h : Hw) (d : Nat) : Hw :=
  let h := ((h.fset (timeA 0x10) 4 4 d).count (timeA 0x40)).raise evTimeDomainSwitched
  h.setReg (timeA 0x28) (utcReg (h.time.utc.getD d none))

/-- The time unit selects the other domain, and steps to it when its offset exceeds the threshold (R297). -/
def Hw.switchDomain (h : Hw) (d : Nat) : Hw :=
  let h := h.selectDomain d
  let off := h.time.offs.getD d 0
  if off.natAbs > h.jumpLimit then h.countedStep off else h

/-- The number of a domain as CFG gives it: 0 primary, 1 shadow, which is tracked while SHADOW_EN is 1 and the numbers differ
(R294). -/
def Hw.domainNum (h : Hw) (d : Nat) : Option Nat :=
  let c := h.reg (timeA 0x14)
  if d = 0 then some (fld c 12 5)
  else if bit c 21 && fld c 20 13 != fld c 12 5 then some (fld c 20 13) else none

/-- The tracked domain of a number. -/
def Hw.domainOf (h : Hw) (n : BitVec 8) : Option Nat := [0, 1].find? fun d => h.domainNum d == some n.toNat

/-- Nanoseconds of an offset as OFFSET_0 and OFFSET_1 hold them: toward zero, saturating (Table 10.7). -/
def offsetReg (off : Int) : Word32 :=
  let n := (off.natAbs / nsUnits : Nat)
  if off < 0 then BitVec.ofInt 32 (-(min n (2 ^ 31) : Nat)) else BitVec.ofNat 32 (min n (2 ^ 31 - 1))

/-- The latest offset of a domain's master, in units of time (R294). -/
def Hw.setOffset (h : Hw) (d : Nat) (off : Int) : Hw :=
  let h := h.setReg (timeA (0x20 + 4 * d)) (offsetReg off)
  { h with time := { h.time with offs := h.time.offs.set d off } }

/-- Domain d has no best master: it is not valid (R294). -/
def Hw.dropMaster (h : Hw) (d : Nat) : Hw :=
  let h := h.setTStat (6 + d) false
  { h with time := { h.time with best := h.time.best.set d none, utc := h.time.utc.set d none } }

/-- A valid domain d has stopped being valid: the selection changes outside R296, or holdover begins (R296, R297). In DOZE the servo
stands, and nothing is selected (R302). -/
def Hw.masterLost (h : Hw) (d : Nat) : Hw :=
  if h.bget (timeA 0x14) 0 || h.tDomain != d || decide (2 ≤ h.pstate) then h
  else if !h.strictTime && h.tValid (1 - d) then h.switchDomain (1 - d)
  else h.holdover

/-! ### Masters (R292, R294) -/

/-- The first of two lists of equal length in lexicographic order. -/
def lexBefore : List Nat → List Nat → Bool
  | a :: as, b :: bs => decide (a < b) || (a == b && lexBefore as bs)
  | _, _ => false

/-- What the best master clock algorithm compares, in its order (PRESUMED from IEEE 1588: log entry 63). -/
def ptpRank (m : PtpMaster) : List Nat :=
  [m.priority1.toNat, m.clockClass.toNat, m.accuracy.toNat, m.variance.toNat, m.priority2.toNat, m.grandmaster.toNat,
   m.stepsRemoved.toNat, m.sender.toNat]

/-- Whether an Announce of m makes m the best master of domain d: there is none, m is it already, or m is better. -/
def Hw.winsDomain (h : Hw) (d : Nat) (m : PtpMaster) : Bool :=
  match h.time.best.getD d none with
  | none => true
  | some b => b.sender == m.sender || lexBefore (ptpRank m) (ptpRank b)

/-- An Announce from the best master of domain d, which may be a new one: its offset is not known yet (R294). -/
def Hw.takeMaster (h : Hw) (d : Nat) (m : PtpMaster) (utc : Option (BitVec 16)) : Hw :=
  let h := match h.time.best.getD d none with
    | some b => if b.sender = m.sender then h else h.setOffset d 0
    | none => h.setOffset d 0
  let h := h.setTStat (6 + d) true
  let h : Hw := { h with time := { h.time with best := h.time.best.set d (some m), utc := h.time.utc.set d utc } }
  if h.tDomain = d then h.setReg (timeA 0x28) (utcReg utc) else h

/-- The frame is one that the time port receives and Table 10.1 supports: its line rate, its transport and its addressing
(R292). -/
def Hw.ptpHeard (h : Hw) (m : PtpMsg) : Bool :=
  let c := h.reg (timeA 0x14)
  let t := if fld c 4 3 = 0 then 3 else fld c 4 3
  m.tenGig == bit c 1 && m.multicast &&
    (match m.transport with
    | .ethernet => t % 2 == 1
    | .ipv4 => t / 2 == 1
    | .ipv6 => false)

/-- The mechanism of an exchange is the one selected, and its rates are supported (Table 10.1). -/
def Hw.ptpMech (h : Hw) (x : PtpExchange) : Bool :=
  x.peer == h.bget (timeA 0x14) 2 && decide (-7 ≤ x.logSync ∧ x.logSync ≤ 1) && decide (-7 ≤ x.logDelay ∧ x.logDelay ≤ 4)

/-- The measurement that an exchange gives, in units of time: what the PHY has stamped, in 2^-16 ns of network time, against the
master's times (R292, R295). -/
def Hw.ptpOffset (h : Hw) (x : PtpExchange) : Int := x.offset ((h.time.now / 3 : Nat) : Int) * 3

/-- PTP_MESSAGE: a frame at the time port (R292 to R297). A selected domain that is not valid, because it never was or because its loss
found no other valid one, gives way to the other at that one's next Announce (DESIGN CHOICE: R297 speaks of a domain that stops being
valid alone; log entry 64). -/
def execPtpMessage (h : Hw) (m : PtpMsg) : Hw :=
  if h.pstate ≥ 2 || m.body == .notPtp then h
  else if !h.tArmed then h.count (timeA 0x3C)
  else match h.ptpHeard m, h.domainOf m.domain with
    | true, some d =>
      match m.body with
      | .announce a utc =>
        if !h.winsDomain d a then h else
        let h := h.takeMaster d a utc
        if h.bget (timeA 0x14) 0 || h.strictTime || h.tValid h.tDomain || h.tDomain = d then h else h.switchDomain d
      | .exchange x =>
        if (h.time.best.getD d none).all (fun b => b.sender != x.sender) || !h.ptpMech x then h else
        let off := h.ptpOffset x
        let h := h.setOffset d off
        if h.bget (timeA 0x14) 0 || h.tDomain != d || !h.tValid d then h else h.measure off
      | _ => h
    | _, _ => h

/-- ANNOUNCE_TIMEOUT of domain d: it becomes invalid; the selection changes outside R296, or holdover begins (R294,
R296, R297). -/
def execAnnounceTimeout (h : Hw) (d : Nat) : Hw :=
  if d ≥ 2 || h.pstate ≥ 3 || !h.tValid d then h else (h.dropMaster d).masterLost d

/-- PRIMARY_RETURN: the primary domain has been valid for 10 s (R297), in DOZE without a change of selection (R302). -/
def execPrimaryReturn (h : Hw) : Hw :=
  if decide (h.pstate < 2) && h.tValid 0 && h.tDomain == 1 && !h.strictTime && !h.bget (timeA 0x14) 0 then h.switchDomain 0 else h

/-- PHASE_NORMAL: STATUS has been LOCKED for 10 s in START_UP or RECOVERY (Table 10.2). -/
def execPhaseNormal (h : Hw) : Hw :=
  if h.tStatus = 2 ∧ (h.tPhase = 0 ∨ h.tPhase = 3) then h.enterPhase 1 else h

/-- PPS_EDGE: a rising 1PPS edge `sub` thirds of 2^-16 ns into the present course clock is stamped; with SRC_SEL 1 its
offset from the nearest whole second is the measurement (R300), but for DOZE, in which the servo stands (R302). -/
def execPpsEdge (h : Hw) (sub : Nat) : Hw :=
  if h.pstate ≥ 3 then h else
  let h := h.setTStat 9 true
  if h.pstate = 2 || !h.bget (timeA 0x14) 0 || !h.tArmed then h else
  let t := h.time.now + sub % courseUnits h.seq.level
  let sec := (t + unitsPerSec / 2) / unitsPerSec * unitsPerSec
  h.measure ((sec : Int) - t)

/-- PPS_TIMEOUT: no edge has arrived for 2 s (R300). -/
def execPpsTimeout (h : Hw) : Hw :=
  if h.pstate ≥ 3 then h else
  let h := h.setTStat 9 false
  if h.bget (timeA 0x14) 0 then h.holdover else h

/-- REF10M_LOSS (R290). -/
def execRef10mLoss (h : Hw) : Hw :=
  let h := { h with time := { h.time with ref10m := false } }
  if h.bget (timeA 0x10) 8 then (h.setTStat 8 false).raise evRefLost else h

/-- REF10M_RETURN: the input has been present for 1 s (R290). -/
def execRef10mReturn (h : Hw) : Hw :=
  let h := { h with time := { h.time with ref10m := true } }
  if h.bget (timeA 0x14) 22 then h.setTStat 8 true else h

/-- Domain d is no longer the one it was: nothing of its master is kept (R294; OFFSET is cleared by DESIGN CHOICE: log entry
63). -/
def Hw.forgetDomain (h : Hw) (d : Nat) : Hw := (h.dropMaster d).setOffset d 0

/-- After a write of CFG: without a source STATUS is HOLDOVER (Table 10.3), unless R297 lets the other domain be selected. The time stays
as it is, and the next measurement decides about a step (R313). -/
def Hw.sourceAfterCfg (h : Hw) : Hw :=
  if h.bget (timeA 0x14) 0 then (if h.bget (timeA 0x10) 9 then h else h.holdover)
  else if h.tValid h.tDomain then h
  else if !h.strictTime && decide (h.pstate < 2) && h.tValid (1 - h.tDomain) then h.selectDomain (1 - h.tDomain)
  else h.holdover

/-- TIME_CLEAR_COUNTS: a write of TIME.CFG with CLEAR_COUNTS (R313). The other fields of the write take effect at once; a
domain whose number changes, or which is no longer tracked, loses its master (R294). -/
def Hw.writeTimeCfg (h : Hw) (v : Word32) : Hw :=
  let old := h
  let h := h.setReg (timeA 0x14) (v &&& 0x007FFFFF#32)
  let h := h.setTStat 8 (bit v 22 && h.time.ref10m)
  let gone := [0, 1].filter fun d => h.domainNum d != old.domainNum d
  let h := gone.foldl Hw.forgetDomain h
  let h := h.sourceAfterCfg
  if bit v 23 then h.clearRegs ((List.range 6).map fun n => timeA (0x30 + 4 * n)) else h

def execTimeClearCounts (h : Hw) (v : Word32) : Hw := if bit v 23 then h.writeTimeCfg v else h

/-- The time unit is armed in START_UP when the firmware becomes ready (R293, R295). -/
def Hw.armTime (h : Hw) : Hw :=
  if h.tArmed then h else ((h.setTStat 5 true).fset (timeA 0x10) 1 0 0).enterPhase 0

/-! ## The 1PPS output (R301) -/

/-- Pulse width in units: 0 acts as 1 ms, 1,000 or more as 999 ms. -/
def Hw.ppsWidth (h : Hw) : Nat := min 999 (max 1 (h.fget (timeA 0x2C) 10 1)) * 10 ^ 6 * nsUnits

/-- PPS_OUT: network time has reached a whole second that the output has not served. -/
def execPpsOut (h : Hw) : Hw :=
  let s := h.time.now / unitsPerSec
  if s > h.time.ppsSec then
    let h := { h with time := { h.time with ppsSec := s } }
    if h.bget (timeA 0x2C) 0 then
      let t := boundaryNear (s * unitsPerSec)
      ({ h with time := { h.time with ppsFall := some (h.runAt (s * unitsPerSec + h.ppsWidth)) } } : Hw).emit (.edge 512 true t)
    else h
  else h

def Hw.ppsFallDue (h : Hw) : Hw :=
  match h.time.ppsFall with
  | some e =>
    if e ≤ h.time.run then
      ({ h with time := { h.time with ppsFall := none } } : Hw).emit (.edge 512 false (boundaryNear (h.atRun e)))
    else h
  | none => h

/-- The HUB switches off: the 1PPS output stops, and a pulse that runs ends (R301). -/
def Hw.ppsStop (h : Hw) : Hw :=
  match h.time.ppsFall with
  | some _ => ({ h with time := { h.time with ppsFall := none } } : Hw).emit (.edge 512 false (boundaryNear h.time.now))
  | none => h

/-! ## Captures (R309, R310) -/

def tcA (k o : Nat) : Nat := timeA (0x800 + 32 * k + o)
def Hw.tcBuf (h : Hw) (k : Nat) : List CapRec := Store.get [] h.time.tc k
def Hw.setTc (h : Hw) (k : Nat) (l : List CapRec) : Hw := { h with time := { h.time with tc := Store.set [] h.time.tc k l } }

/-- CAPTURE_EDGE at unit k: an edge on the input it watches, first sampled `sub` into the present course clock. -/
def execCaptureEdge (h : Hw) (k : Nat) (falling : Bool) (sub : Nat) : Hw :=
  let c := h.reg (tcA k 0)
  let pin := fld c 12 3
  let sel := fld c 2 1
  if k ≥ 32 || !bit c 0 || pin > 512 || h.pstate ≥ 3 || sel / (if falling then 2 else 1) % 2 == 0 then h
  else
    let t := boundaryAfter (h.time.now + sub % courseUnits h.seq.level - (bitTime - 1)) - h.pinDelay pin
    let l := h.tcBuf k
    if l.length ≥ 16 then
      ((h.bump (tcA k 4) 15 8).count (timeA 0x44)).raise (evCaptureOverflow k)
    else h.setTc k (l ++ [⟨t, falling⟩])

/-- CAPTURE_FLUSH: a write of TC_k.CTRL with FLUSH; the other fields of the write take effect as well. -/
def Hw.writeTcCtrl (h : Hw) (k : Nat) (v : Word32) : Hw :=
  let h := h.setReg (tcA k 0) (v &&& 0x1FFF#32)
  if bit v 13 then h.setTc k [] else h

def execCaptureFlush (h : Hw) (k : Nat) (v : Word32) : Hw := if k < 32 && bit v 13 then h.writeTcCtrl k v else h

/-- Word i of TC_k.RECORD (Table 10.9). -/
def Hw.tcRecord (h : Hw) (k i : Nat) : Word32 :=
  match h.tcBuf k with
  | [] => 0
  | r :: _ =>
    let v := (timeValue r.time).toNat + (if r.falling then 2 ^ 112 else 0) + 2 ^ 127
    BitVec.ofNat 32 (v / 2 ^ (32 * i))

/-- TC_k.STAT: LEVEL beside the stored OVERFLOW. -/
def Hw.tcStat (h : Hw) (k : Nat) : Word32 := setFld (h.reg (tcA k 4)) 4 0 (h.tcBuf k).length

/-- The read of the fourth word removes the oldest record (R310). -/
def Hw.tcPop (h : Hw) (k : Nat) : Hw := h.setTc k (h.tcBuf k).tail

/-! ## One course clock of time -/

/-- Network time that one course clock takes: the nominal course period when the course clock follows the disciplined rate; with the
oscillator, and in DOZE, the servo's rate; and with the clock of another module a free rate within ±200 ppm, which the PLL keeps within
1 ppm once that clock is lost (R32, R290, R293, R296, R302, R312). -/
def Hw.clockUnits (h : Hw) : Nat × Hw :=
  let p := courseUnits h.seq.level
  let put (h : Hw) (s : Servo) : Hw := { h with time := { h.time with servo := s } }
  if h.fget 0x44 1 0 = 1 then (p, put h (h.time.servo.slewed p))
  else if h.localClock || h.pstate = 2 then (h.time.servo.step p).map id (put h)
  else
    let (v, h) := h.takeFree
    let locked := h.bget 0x44 6
    let base : Int := if locked then (v.toNat % 400001 : Nat) - 200000 else h.time.linkRate
    let rate : Int := if locked then base else base + (v.toNat % 2001 : Nat) - 1000
    let n := p * (10 ^ 9 + rate).toNat + h.time.servo.frac
    (n / 10 ^ 9, { h with time := { h.time with linkRate := base, servo := { h.time.servo.slewed p with frac := n % 10 ^ 9 } } })

/-- Frame-mode firings that reach their pins. -/
def Hw.tePathClock (h : Hw) : Hw :=
  let due := h.time.tePath.filter fun x => x.1 == 0
  let rest := (h.time.tePath.filter fun x => x.1 != 0).map fun x => (x.1 - 1, x.2)
  let h := { h with time := { h.time with tePath := rest } }
  (h.allTe fun h k => if due.any fun x => x.2 == k then h.teAct k 1 h.outTime else h)

/-- The position of a FRAME_ONCE generator has passed without its firing: nothing is pending any longer (Table 10.8). -/
def Hw.teMissed (h : Hw) (k : Nat) : Bool :=
  (h.te k).armed && h.teMode k == 2 && h.posPassed (h.teFrame k) (h.tePos k)

/-- Frame-mode firings of this course clock. -/
def Hw.teFrameClock (h : Hw) : Hw :=
  h.allTe fun h k =>
    if h.teFrameDue k then h.teFire k else if h.teMissed k then h.setTe k { h.te k with armed := false } else h

/-- What generator k is to do with its pin by now: its instant has come, or its pulse has ended; with the time of the edge. -/
def Hw.teActs (h : Hw) (k : Nat) : List (Nat × Nat × Bool) :=
  (match (h.te k).fall with
    | some (e, _) => if h.atRun e ≤ h.time.now then [(h.atRun e, k, false)] else []
    | none => []) ++ (if h.teDue k then [(boundaryNear (h.te k).next, k, true)] else [])

/-- The order in which edges are made: by their times, and at one time the generator with the lower number acts last (R306). -/
def actBefore (a b : Nat × Nat × Bool) : Bool := decide (a.1 < b.1) || (a.1 == b.1 && decide (b.2.1 < a.2.1))

/-- At most n of the edges that fall due, one after another. -/
def Hw.teRun (h : Hw) : Nat → Hw
  | 0 => h
  | n + 1 => match firstBy actBefore ((List.range 32).flatMap h.teActs) with
    | none => h
    | some (t, k, fire) => (if fire then h.teFire k else h.teFall t k).teRun n

/-- Instants and pulse ends that the clock has reached; at P3 one clock may hold two instants of a period of 1 ns, and the ends of both
pulses. -/
def Hw.teTimeClock (h : Hw) : Hw := h.teRun 160

/-- Network time advances by a length, and what falls due is performed. -/
def Hw.advanceTime (h : Hw) (n : Nat) : Hw :=
  let h := { h with time := { h.time with
    now := h.time.now + n, run := h.time.run + n
    holdLen := if h.tStatus = 3 then h.time.holdLen + n else 0 } }
  (execPpsOut h.teTimeClock).ppsFallDue

end Sys2Proof.Machine
end

