-- ==== Sys2Proof/Machine/Acq.lean ====
section
/-!
DEFINITION. Probe groups, word channels, the trigger sequencer and the acquisition writer (chapter 12).
-/

namespace Sys2Proof.Machine

/-! ## Registers -/

def acqA (o : Nat) : Nat := probeA (0xC00 + o)
def patA (k o : Nat) : Nat := probeA (0x100 + 32 * k + o)
def thrA (k o : Nat) : Nat := probeA (0x300 + 16 * k + o)
def wchA (k o : Nat) : Nat := probeA (0x400 + 16 * k + o)
def slotA (s c o : Nat) : Nat := probeA (0x800 + 32 * s + 8 * c + o)

/-- State of Table 12.4. -/
def Hw.acqState (h : Hw) : Nat := h.fget (acqA 0x24) 2 0
def Hw.setAcqState (h : Hw) (s : Nat) : Hw := h.fset (acqA 0x24) 2 0 s
def Hw.acqSegment (h : Hw) : Nat := h.fget (acqA 0x24) 10 3
def Hw.acqMode (h : Hw) : Nat := h.fget (acqA 0) 1 0
def Hw.acqSegments (h : Hw) : Nat := h.fget (acqA 0) 9 2 + 1

/-- An acquisition goes on: ARMING, PRE, READY or POST. -/
def Hw.acqActive (h : Hw) : Bool := decide (1 ≤ h.acqState) && decide (h.acqState ≤ 4)

/-! ## Records (Table 12.1) -/

/-- A record body with TYPE and its fields; FDELTA comes when it is placed. -/
def recBody (type rest : Nat) : BitVec 128 := BitVec.ofNat 128 (type * 2 ^ 124 + rest)

def AcqRec.before (a b : AcqRec) : Bool :=
  decide (a.frame < b.frame) || (a.frame == b.frame && (decide (a.clock < b.clock) ||
    (a.clock == b.clock && decide (a.ord < b.ord))))

/-! ## Probe groups (R337 to R339) -/

def Hw.group (h : Hw) (g : Nat) : Word64 := Store.get 0 h.acq.groups g

/-- A PROBE record of group g enters its die's queue, or is dropped (R338, R339). -/
def Hw.probeRecord (h : Hw) (g : Nat) (v : Word64) : Hw :=
  let d := g / 128
  let q := h.acq.pq.getD d []
  if q.length ≥ 4096 then
    let h := (h.count (probeA 0x40)).raise evProbeDrop
    { h with acq := { h.acq with
        plost := h.acq.plost.set d (h.acq.plost.getD d 0 + 1)
        force := Store.set false h.acq.force g true } }
  else
    let r : AcqRec := ⟨h.seq.frame.toNat, h.seq.fclk, g,
      recBody 1 (v.toNat + g * 2 ^ 64 + (h.seq.pos % 65536) * 2 ^ 72), h.acq.plost.getD d 0⟩
    { h with acq := { h.acq with
        pq := h.acq.pq.set d (q ++ [r])
        plost := h.acq.plost.set d 0
        force := Store.set false h.acq.force g false } }

/-- Sample one group in an executed course (R337, R338). -/
def Hw.sampleGroup (h : Hw) (g : Nat) (mask val : Word64) : Hw :=
  if mask = 0 then h else
  let old := h.group g
  let new := (old &&& ~~~ mask) ||| (val &&& mask)
  let h := { h with acq := { h.acq with groups := Store.set 0 h.acq.groups g new } }
  if h.bget (probeA 0) 0 && h.bget (probeA (0x10 + g / 32 * 4)) (g % 32) &&
      (new != old || Store.get false h.acq.force g) then h.probeRecord g new
  else h

/-- The groups that this course's contributions sample. -/
def Hw.sampleGroups (h : Hw) : Hw :=
  { h.probeIn.foldl (fun h kv => h.sampleGroup kv.1 kv.2.1 kv.2.2) h with probeIn := [] }

/-- Whether pattern comparator k is true for the present group values (R344). -/
def Hw.patTrue (h : Hw) (k : Nat) : Bool :=
  let c := h.reg (patA k 0)
  let m := h.reg64 (patA k 8)
  ((h.group (fld c 7 0) &&& m) == (h.reg64 (patA k 0x10) &&& m)) ^^ bit c 8

/-! ## Word channels (R340, R341, R345, R350, R498) -/

/-- WORD_CHANNEL_FRAME_LOCK. -/
def execWordChannelFrameLock (h : Hw) (k : Nat) : Hw :=
  if k < 32 then h.setReg (userioA 0x104) (setBit (h.reg (userioA 0x104)) k true) else h

/-- WORD_CHANNEL_LOCK_LOSS. -/
def execWordChannelLockLoss (h : Hw) (k : Nat) : Hw :=
  if k < 32 then h.setReg (userioA 0x104) (setBit (h.reg (userioA 0x104)) k false) else h

/-- A sample as its channel's FORMAT reads it. -/
def sampleInt (signed : Bool) (v : BitVec 16) : Int := if signed then v.toInt else v.toNat

/-- Whether threshold comparator k crosses between two samples (R345). -/
def crosses (dir : Nat) (s0 s1 t : Int) : Bool :=
  (dir % 2 == 1 && decide (s0 < t) && decide (s1 ≥ t)) || (dir / 2 == 1 && decide (s0 > t) && decide (s1 ≤ t))

/-- The trigger point of a crossing (R349, R350). The clock count runs on from the tick of s0's frame; a point at or
after the tick of s1's frame is told in that frame. -/
def Hw.crossing (h : Hw) (k chan : Nat) (p : Samp) (s1 : Int) : Cross :=
  let signed := h.bget (wchA chan 0) 1
  let s0 := sampleInt signed p.value
  let t := sampleInt signed ((h.reg (thrA k 4)).setWidth 16)
  let f := min 255 ((256 * (t - s0)).fdiv (s1 - s0)).toNat
  let gap := h.seq.ticks - p.abs
  let fwd := f * gap / 256
  if gap ≤ h.seq.fclk + fwd && p.frame != h.seq.frame.toNat then
    ⟨k, chan, h.seq.frame.toNat, h.seq.fclk + fwd - gap, f, p.seq⟩
  else ⟨k, chan, p.frame, p.clock + fwd, f, p.seq⟩

/-- A numbered sample is offered to the comparators and, when its number is a multiple of N, recorded. -/
def Hw.takeSample (h : Hw) (k : Nat) (v : BitVec 16) : Hw :=
  let seq := Store.get 0 h.acq.next k
  let h := h.setReg (wchA k 0xC) (BitVec.ofNat 32 seq)
  let signed := h.bget (wchA k 0) 1
  let cross := match Store.get none h.acq.prev k with
    | none => []
    | some p => (List.range 8).filterMap fun j =>
      let c := h.reg (thrA j 0)
      if fld c 4 0 = k ∧ crosses (fld c 6 5) (sampleInt signed p.value) (sampleInt signed v)
          (sampleInt signed ((h.reg (thrA j 4)).setWidth 16)) then some (h.crossing j k p (sampleInt signed v))
      else none
  let s : Samp := ⟨v, h.seq.frame.toNat, h.seq.fclk, h.seq.ticks, seq⟩
  let h := { h with acq := { h.acq with
    next := Store.set 0 h.acq.next k (seq + 1)
    prev := Store.set none h.acq.prev k (some s)
    crossNow := h.acq.crossNow ++ cross } }
  if h.bget (wchA k 0) 2 && seq % (h.fget (wchA k 4) 15 0 + 1) == 0 then
    if h.acq.sq.length ≥ 1024 then
      let h := h.count (probeA 0x44)
      { h with acq := { h.acq with slost := h.acq.slost + 1 } }
    else
      let r : AcqRec := ⟨s.frame, s.clock, 256 + k,
        recBody 2 (v.toNat + k * 2 ^ 16 + (s.clock % 2 ^ 24) * 2 ^ 24 + (seq % 2 ^ 32) * 2 ^ 48), h.acq.slost⟩
      { h with acq := { h.acq with sq := h.acq.sq ++ [r], slost := 0 } }
  else h

/-- A sample of an enabled channel between the frames of a run, which is numbered alone: the next one that is stamped has no predecessor
to be compared with (R340, R345). -/
def Hw.numberSample (h : Hw) (k : Nat) : Hw :=
  let seq := Store.get 0 h.acq.next k
  let h := h.setReg (wchA k 0xC) (BitVec.ofNat 32 seq)
  { h with acq := { h.acq with next := Store.set 0 h.acq.next k (seq + 1), prev := Store.set none h.acq.prev k none } }

/-- The configuration is RUNNING, HALTING or in LEVEL_CHANGE. -/
def Hw.inRun (h : Hw) : Bool := h.framesOn || h.seq.run = .levelChange

/-- WORD_SAMPLE: a complete sample of channel k reaches its register. An enabled channel numbers it while the configuration runs, and
stamps, tests and records it when the course clock turns out to belong to a frame (R340). -/
def execWordSample (h : Hw) (k : Nat) (v : BitVec 16) : Hw :=
  if k ≥ 32 || !h.bget (userioA 0x104) k then h else
  let h := h.setReg (wchA k 8) (v.setWidth 32)
  if h.inRun && h.bget (wchA k 0) 0 then { h with acq := { h.acq with inbox := h.acq.inbox ++ [(k, v)] } } else h

/-- The samples of this course clock, by channel (R340, R343). -/
def Hw.takeSamples (h : Hw) : Hw :=
  let all := (List.range 32).flatMap fun k => h.acq.inbox.filter fun x => x.1 == k
  all.foldl (fun h x => if h.frameClock then h.takeSample x.1 x.2 else h.numberSample x.1)
    { h with acq := { h.acq with inbox := [] } }

/-- A write of WCH_k.CFG: EN going to 1 starts the numbering at 0 (R340). -/
def Hw.writeWchCfg (h : Hw) (k : Nat) (v : Word32) : Hw :=
  let on := !h.bget (wchA k 0) 0 && bit v 0
  let h := h.setReg (wchA k 0) (v &&& 7)
  if on then { h with acq := { h.acq with next := Store.set 0 h.acq.next k 0, prev := Store.set none h.acq.prev k none } }
  else h

/-! ## Instants (R346, R347) -/

/-- Whether the condition of slot c of state s holds in this course clock, for kinds 1 to 5 and 8 (Table 12.2). -/
def Hw.slotNow (h : Hw) (s c : Nat) : Bool :=
  let x := h.reg (slotA s c 0)
  let ix := fld x 13 4
  match fld x 3 0 with
  | 1 => decide (ix < 16) && (h.execRow (h.fget (patA ix 0) 7 7)).isSome && bit h.acq.patHub ix
  | 2 => decide (ix < 8) && h.acq.crossNow.any fun y => y.thr == ix
  | 3 => decide (ix < 32) && bit h.time.fired ix
  | 4 =>
    let new := bit ((h.inputsNow).getD (ix / 32) 0) (ix % 32)
    let old := bit ((h.ioIn.headD []).getD (ix / 32) 0) (ix % 32)
    decide (ix < 512) && ((bit x 14 && !old && new) || (bit x 15 && old && !new))
  | 5 => h.acq.xnow.contains (fld x 23 16)
  | 8 => true
  | _ => false

/-- Whether any slot holds a condition, or a timer runs. -/
def Hw.trigUsed (h : Hw) : Bool :=
  h.acq.tmrOn != 0 || (List.range 16).any fun s => (List.range 4).any fun c => h.fget (slotA s c 0) 3 0 != 0

/-- Pattern results of this course, by comparator: a comparator of a die that executes no course keeps its result. -/
def Hw.patNow (h : Hw) : BitVec 16 :=
  ofBits 16 fun k => if (h.execRow (h.fget (patA k 0) 7 7)).isSome then h.patTrue k else bit h.acq.patLast k

/-- Comparators of one die whose results change in this course. -/
def Hw.patChanges (h : Hw) (now : BitVec 16) (d : Nat) : List Nat :=
  (List.range 16).filter fun k => h.fget (patA k 0) 7 7 == d && bit now k != bit h.acq.patLast k

/-- Result changes of one die that wait to be evaluated (R344). -/
def Hw.queuedChanges (h : Hw) (d : Nat) : Nat :=
  h.acq.insts.foldl (fun n i => n + if d = 0 then i.changes.1 else i.changes.2) 0

/-! ## The acquisition buffer (R351) -/

/-- Records of one segment's ring: R. -/
def Hw.acqRing (h : Hw) : Nat := (h.reg (acqA 0x10)).toNat / h.acqSegments - 4

/-- Far-memory word address of the current segment. -/
def Hw.segBase (h : Hw) : Nat :=
  (fld (h.reg64 (acqA 8)) 35 0 + h.acqSegment * ((h.reg (acqA 0x10)).toNat / h.acqSegments) * 16) / 8

def Hw.acqDie (h : Hw) : Nat := fld (h.reg64 (acqA 8)) 36 36

/-- Place one record in the ring with its FDELTA (R342). -/
def Hw.place (h : Hw) (body : BitVec 128) (frame : Nat) (base : Bool) : Hw :=
  let delta := if base then 0 else frame - h.acq.lastFrame
  let v := setFld body 123 88 delta
  let w := h.segBase + 8 + 2 * (h.acq.written % max 1 h.acqRing)
  let h := (h.farRidgeWrite h.acqDie w (v.extractLsb' 0 64)).farRidgeWrite h.acqDie (w + 1) (v.extractLsb' 64 64)
  { h with acq := { h.acq with
      written := h.acq.written + 1, lastFrame := frame, sinceBase := if base then 0 else h.acq.sinceBase + 1 } }

/-- A record that counts for PRE and POST has been placed (R352, R353). -/
def Hw.countPlaced (h : Hw) : Hw :=
  if h.acq.trigIndex.isSome then { h with acq := { h.acq with postLeft := h.acq.postLeft - 1 } }
  else
    let n := h.acq.counted + 1
    let h := { h with acq := { h.acq with counted := n } }
    if h.acqState = 2 ∧ n ≥ (h.reg (acqA 0x14)).toNat then h.setAcqState 3 else h

def Hw.placeBase (h : Hw) (frame : Nat) : Hw := (h.place (recBody 3 (frame % 2 ^ 64)) frame true).countPlaced

/-- The descriptor of the current segment (R351). -/
def Hw.writeDescriptor (h : Hw) (state : Nat) : Hw :=
  let t := h.acq.trigIndex
  let bytes := (if t.isSome then bytesOf 8 (h.reg64 (acqA 0x30)).toNat ++ bytesOf 8 (h.reg64 (acqA 0x38)).toNat ++
      bytesOf 4 (h.reg (acqA 0x28)).toNat else List.replicate 20 0) ++
    bytesOf 4 (t.getD 0) ++
    bytesOf 4 (if h.acq.written ≤ h.acqRing then 0 else h.acq.written % max 1 h.acqRing) ++
    bytesOf 4 (h.reg (acqA 0x2C)).toNat ++ bytesOf 1 state
  (List.range 8).foldl (fun h i =>
    h.farRidgeWrite h.acqDie (h.segBase + i) (BitVec.ofNat 64 (ofBytes ((bytes.drop (8 * i)).take 8)))) h

/-- Image load, STOP, a match overflow, and entry to DOZE or SLEEP end the acquisition as ABORTED (R344, R355). The descriptor
is written where far memory can be reached (R407). -/
def Hw.acqAbort (h : Hw) : Hw :=
  if !h.acqActive then h else
  let h := if h.pstate < 2 then h.writeDescriptor 6 else h
  let h := { h with acq := { h.acq with trig := none } }
  (h.setAcqState 6).raise evAcqAborted

/-- ACQ_CTRL_STOP: a write of 1 to ACQ.CTRL.STOP. -/
def execAcqCtrlStop (h : Hw) (v : Word32) : Hw := if bit v 10 then h.acqAbort else h

/-- Course positions of the resolved frame of die d. -/
def Hw.pathEnd (h : Hw) (d : Nat) : Nat := (h.seq.path.getD d []).foldl (fun n s => max n (s.pos + s.len)) 0

/-- The last position executed at or before this course clock (R349): a stalled or stretched clock has not executed its own, and in slack
no die executes a course (R117). -/
def Hw.lastPos (h : Hw) : Nat :=
  min (if h.execClock then h.seq.pos else h.seq.pos - 1) (max (h.pathEnd 0) (h.pathEnd 1) - 1)

/-- The changes of die d that its queue of 1,024 still takes, the comparators of lower number first (R344). -/
def Hw.takenChanges (h : Hw) (now : BitVec 16) (d : Nat) : List Nat := (h.patChanges now d).take (1024 - h.queuedChanges d)

/-- A result change that finds the queue full is lost, and ends an acquisition that goes on (R344). -/
def Hw.loseChange (h : Hw) : Hw := ((h.raise evProbeMatchOverflow).count (probeA 0x4C)).acqAbort

/-- The instant of this course clock joins those that the sequencer has still to evaluate, with the pattern results as the changes that
have not been lost make them (R344, R347). -/
def Hw.pushInstant (h : Hw) : Hw :=
  if !h.frameClock || !h.trigUsed then { h with acq := { h.acq with xnow := [], crossNow := [] } } else
  let now := h.patNow
  let t0 := h.takenChanges now 0
  let t1 := h.takenChanges now 1
  let lost := (h.patChanges now 0).length + (h.patChanges now 1).length - (t0.length + t1.length)
  let hub := (t0 ++ t1).foldl (fun v k => setBit v k (bit now k)) h.acq.patHub
  let h : Hw := { h with acq := { h.acq with patLast := now, patHub := hub } }
  let i : TrigInst := ⟨h.seq.frame.toNat, h.seq.fclk, h.lastPos, ofBits 64 fun n => h.slotNow (n / 4) (n % 4),
    h.acq.crossNow, (t0.length, t1.length), none, h.acq.rearmNow⟩
  let h := { h with acq := { h.acq with insts := h.acq.insts ++ [i], xnow := [], crossNow := [], rearmNow := false } }
  (List.range lost).foldl (fun h _ => h.loseChange) h

/-! ## Triggers (R349, R353) -/

/-- The tag of a trigger's point lies in the segment that is armed. -/
def Hw.inSegment (h : Hw) (frame clock : Nat) : Bool :=
  decide (h.acq.armTag.1 < frame) || (h.acq.armTag.1 == frame && decide (h.acq.armTag.2 ≤ clock))

/-- A TRIGGER action at an instant (Table 12.4): in PRE and READY it is accepted, and its TRIGGER record waits for its
place; while the acquisition is ARMING it is counted. -/
def Hw.trigger (h : Hw) (source index frac frame clock pos : Nat) (inSeg : Bool) : Hw :=
  let s := h.acqState
  if s = 1 ∨ ((s = 2 ∨ s = 3) ∧ !inSeg) then (h.count (probeA 0x48)).raise evTriggerDuringRearm
  else if s = 2 ∨ s = 3 then
    let h := h.setReg64 (acqA 0x30) (BitVec.ofNat 64 frame)
    let h := h.setReg64 (acqA 0x38) (BitVec.ofNat 64 (clock % 2 ^ 24 + frac * 2 ^ 24 + (pos % 65536) * 2 ^ 32 +
      source * 2 ^ 48 + index * 2 ^ 52))
    let h := h.fset (acqA 0x24) 11 11 (if source = 9 then 1 else 0)
    let r : AcqRec := ⟨frame, clock, 1000, recBody 4 (source + index * 2 ^ 4 + frac * 2 ^ 14 + (clock % 2 ^ 24) * 2 ^ 22 +
      (pos % 65536) * 2 ^ 46), 0⟩
    { h.setAcqState 4 with acq := { h.acq with trig := some r } }
  else h

/-! ## Evaluation (R347, R348) -/

/-- The sequencer enters state 0, clears its counters and stops its timers (R348). -/
def Hw.trigReset (h : Hw) : Hw :=
  let h := (List.range 4).foldl (fun h k => h.setReg64 (probeA (0xA00 + 16 * k)) 0) h
  { h with acq := { h.acq with tstate := 0, cntHit := 0, tmrOn := 0 } }

/-- Running timers count down by one at the oldest instant, once (R347). -/
def Hw.countTimers (h : Hw) : Hw :=
  match h.acq.insts with
  | [] => h
  | i :: rest =>
    if i.timers.isSome then h else
    let h := if i.rearm then h.trigReset else h
    let hit := ofBits 4 fun k =>
      bit h.acq.tmrOn k && decide ((h.reg64 (probeA (0xA40 + 16 * k))).toNat ≤ 1)
    let h := (List.range 4).foldl (fun h k =>
      if bit h.acq.tmrOn k then
        let a := probeA (0xA40 + 16 * k)
        h.setReg64 a (BitVec.ofNat 64 ((h.reg64 a).toNat - 1))
      else h) h
    { h with acq := { h.acq with
        tmrOn := h.acq.tmrOn &&& ~~~ hit
        insts := { i with timers := some hit, rearm := false } :: rest } }

/-- Whether slot c of the current state is true at an instant. -/
def Hw.slotTrue (h : Hw) (i : TrigInst) (c : Nat) : Bool :=
  let x := h.reg (slotA h.acq.tstate c 0)
  let ix := fld x 13 4
  match fld x 3 0 with
  | 6 => decide (ix < 4) && bit h.acq.cntHit ix
  | 7 => decide (ix < 4) && bit (i.timers.getD 0) ix
  | _ => bit i.truth (4 * h.acq.tstate + c)

/-- The action of slot c, in the order of R347. -/
def Hw.slotAct (h : Hw) (i : TrigInst) (c : Nat) : Hw :=
  let s := h.acq.tstate
  let x := h.reg (slotA s c 0)
  let act := h.reg (slotA s c 4)
  let h := { h with acq := { h.acq with cntHit := 0 } }
  let ca := probeA (0xA00 + 16 * fld act 16 15)
  let h := match fld act 18 17 with
    | 1 =>
      let n := min (2 ^ 48 - 1) ((h.reg64 ca).toNat + 1)
      let hit := n == (h.reg64 (ca + 8)).toNat && n != (h.reg64 ca).toNat
      { h.setReg64 ca (BitVec.ofNat 64 n) with acq := { h.acq with cntHit := setBit h.acq.cntHit (fld act 16 15) hit } }
    | 2 => h.setReg64 ca 0
    | _ => h
  let t := fld act 20 19
  let ta := probeA (0xA40 + 16 * t)
  let h := match fld act 22 21 with
    | 1 => { h.setReg64 ta (h.reg64 (ta + 8)) with acq := { h.acq with tmrOn := setBit h.acq.tmrOn t true } }
    | 2 => { h with acq := { h.acq with tmrOn := setBit h.acq.tmrOn t false } }
    | _ => h
  let h := if bit act 6 && decide (fld act 14 7 ≤ 0xFC) then h.sendSym .trigger (fld act 14 7) else h
  let kind := fld x 3 0
  let h := if !bit act 5 then h else
    let inSeg := h.inSegment i.frame i.clock
    match kind, i.cross.find? fun y => y.thr == fld x 13 4 with
    | 2, some y => h.trigger 2 y.chan y.frac y.frame y.clock (y.seq0 % 65536) inSeg
    | _, _ => h.trigger kind (if kind = 5 ∨ kind = 8 then 0 else fld x 13 4) 0 i.frame i.clock i.pos inSeg
  if bit act 4 then { h with acq := { h.acq with tstate := fld act 3 0 } } else h

/-- AUTO_TRIGGER: the forced instant has been reached and the sequencer has evaluated everything up to it without a
trigger (R357). -/
def execAutoTrigger (h : Hw) : Hw :=
  match h.acq.autoAt with
  | some (f, c, p) =>
    if h.acqMode = 2 ∧ (h.acqState = 2 ∨ h.acqState = 3) ∧
        h.acq.insts.all (fun i => decide (f < i.frame) || (i.frame == f && decide (c < i.clock))) then
      h.trigger 9 0 0 f c p true
    else h
  | none => h

/-- TRIGGER_EVAL: the oldest instant is evaluated: the lowest true slot of the current state acts (R347). A forced trigger that lies
before it comes first (R357). -/
def execTriggerEval (h : Hw) : Hw :=
  let h := (execAutoTrigger h).countTimers
  match h.acq.insts with
  | [] => h
  | i :: rest =>
    let h := { h with acq := { h.acq with insts := rest } }
    match (List.range 4).find? (h.slotTrue i) with
    | some c => h.slotAct i c
    | none => { h with acq := { h.acq with cntHit := 0 } }

/-- TRIGGER_TIMER_EXPIRY of timer k: the countdown at the oldest instant takes it to 0 (R347, Table 12.2). -/
def execTriggerTimerExpiry (h : Hw) (k : Nat) : Hw :=
  if k < 4 && bit h.acq.tmrOn k && decide ((h.reg64 (probeA (0xA40 + 16 * k))).toNat ≤ 1) then h.countTimers else h

/-! ## Arming and the ends of segments (R353 to R356) -/

/-- Nothing of the current segment has been written. -/
def Hw.newSegment (h : Hw) : Hw :=
  { h with acq := { h.acq with
    trig := none, trigIndex := none, written := 0, counted := 0, postLeft := 0, sinceBase := 0, lastFrame := 0 } }

/-- Frame and clock of this course clock, or of the tick that begins the next frame. -/
def Hw.nextTag (h : Hw) : Nat × Nat :=
  if h.seq.inFrame then (h.seq.frame.toNat, h.seq.fclk)
  else (if h.seq.deferred then h.seq.frame.toNat + 1 else h.seq.frame.toNat, 0)

/-- The lead's 0xFE takes effect: PRE begins, the dead time is measured and the segment starts with a FRAME_BASE (R342,
R348, R356). -/
def Hw.segmentArm (h : Hw) : Hw :=
  if h.acqState ≠ 1 then h else
  let h := h.setReg (acqA 0x2C) (BitVec.ofNat 32 (min 0xFFFFFFFF (h.seq.ticks - h.acq.deadFrom)))
  let h := h.setAcqState 2
  let h := if h.acq.insts.isEmpty then h.trigReset else { h with acq := { h.acq with rearmNow := true } }
  let h := { h with acq := { h.acq with
    armTag := h.nextTag, autoClks := 0, autoAt := none, autoSkip := true, ended := [] } }
  h.newSegment.placeBase h.seq.frame.toNat

/-- The module is the lead of its trigger domain. -/
def Hw.isLead (h : Hw) : Bool := h.fget (acqA 0x20) 13 8 == h.devIndex

/-- A module of the domain has announced the end of its segment: when all have, the lead sends 0xFE (R356). -/
def Hw.noteEnded (h : Hw) (origin : Nat) : Hw :=
  if !h.isLead || !h.acq.members.contains origin then h else
  let l := if h.acq.ended.contains origin then h.acq.ended else origin :: h.acq.ended
  let h := { h with acq := { h.acq with ended := l } }
  if l.length = h.acq.members.length then
    ({ h with acq := { h.acq with ended := [] } } : Hw).sendSym .trigger 0xFE
  else h

/-- A TRIGGER symbol takes effect (R346, R348, R356). -/
def Hw.triggerSymbol (h : Hw) (origin code : Nat) : Hw :=
  if code = 0xFE then (if origin = h.fget (acqA 0x20) 13 8 then h.segmentArm else h)
  else if code = 0xFF then (if h.fget (acqA 0x20) 6 0 ≤ 4 then h.noteEnded origin else h)
  else if code = 0xFD then h
  else { h with acq := { h.acq with xnow := code :: h.acq.xnow } }

/-- SEGMENT_END: POST records have followed the trigger, so the descriptor is written and MODE decides what follows
(R353, R354, R356). -/
def execSegmentEnd (h : Hw) : Hw :=
  if h.acqState ≠ 4 ∨ h.acq.trigIndex.isNone ∨ h.acq.postLeft ≠ 0 then h else
  let h := (h.writeDescriptor 4).raise evAcqDone
  let seg := h.acqSegment
  let last := seg + 1 ≥ h.acqSegments
  let next (h : Hw) (n : Nat) : Hw :=
    let h := (h.setAcqState 1).fset (acqA 0x24) 10 3 n
    let h := ({ h with acq := { h.acq with deadFrom := h.seq.ticks } } : Hw).newSegment
    if h.fget (acqA 0x20) 6 0 ≤ 4 then h.sendSym .trigger 0xFF
    else if h.isLead then h.noteEnded h.devIndex
    else h.sendMsg (h.fget (acqA 0x20) 13 8) (.segmentEnd h.devIndex)
  match h.acqMode with
  | 1 => if last then h.setAcqState 5 else next h (seg + 1)
  | 2 => next h (if last then 0 else seg + 1)
  | _ => h.setAcqState 5

/-- ACQ_SEGMENT_ARM: the lead's pending 0xFE takes effect (R356). -/
def execAcqSegmentArm (h : Hw) : Hw :=
  let lead := h.fget (acqA 0x20) 13 8
  let due (s : Sym) : Bool := s.kind == .trigger && s.arg == 0xFE && s.origin == lead && decide (s.eff ≤ h.seq.clk)
  match h.seq.syms.find? due with
  | some s => ({ h with seq := { h.seq with syms := h.seq.syms.erase s } } : Hw).segmentArm
  | none => h

/-! ## The acquisition writer (R342, R343) -/

/-- The record that is next in time-tag order, and the state without it. -/
def Hw.nextRec (h : Hw) : Option (AcqRec × Hw) :=
  let heads := (h.acq.pq.map List.head?).filterMap id ++ h.acq.sq.head?.toList ++ h.acq.trig.toList
  match firstBy AcqRec.before heads with
  | none => none
  | some r =>
    let a := h.acq
    some (r, if a.trig = some r then { h with acq := { a with trig := none } }
      else if a.sq.head? = some r then { h with acq := { a with sq := a.sq.tail } }
      else { h with acq := { a with pq := a.pq.map fun q => if q.head? = some r then q.tail else q } })

/-- The same record with its GAP placed. -/
def Hw.clearGap (h : Hw) (r : AcqRec) : Hw :=
  let clr (q : List AcqRec) : List AcqRec := if q.head? = some r then { r with gap := 0 } :: q.tail else q
  { h with acq := { h.acq with sq := clr h.acq.sq, pq := h.acq.pq.map clr } }

/-- The newest of the records that wait, without the TRIGGER record, and the state without it. -/
def Hw.newestRec (h : Hw) : Option (AcqRec × Hw) :=
  let lasts := (h.acq.pq.map List.getLast?).filterMap id ++ h.acq.sq.getLast?.toList
  match firstBy (fun x y => y.before x) lasts with
  | none => none
  | some r =>
    let a := h.acq
    some (r, if a.sq.getLast? = some r then { h with acq := { a with sq := a.sq.dropLast } }
      else { h with acq := { a with pq := a.pq.map fun q => if q.getLast? = some r then q.dropLast else q } })

/-- Records that wait for the writer, without the TRIGGER record. -/
def Hw.waitingRecs (h : Hw) : Nat := (h.acq.pq.map List.length).sum + h.acq.sq.length

/-- The writer has fallen behind when more records wait than it takes: the newest are lost, at most `n` of them, and a GAP
with reason 4 stands for them (R343). -/
def Hw.dropNewest (h : Hw) : Nat → Hw
  | 0 => h
  | n + 1 =>
    if h.waitingRecs ≤ Config.writerRoom + 1 then h
    else match h.newestRec with
      | none => h
      | some (r, h) =>
        Hw.dropNewest { h with acq := { h.acq with wlost := h.acq.wlost + r.gap + 1, wtag := (r.frame, r.clock) } } n

/-- A slot triggers the acquisition on a crossing of a comparator of channel k. -/
def Hw.crossTriggers (h : Hw) (k : Nat) : Bool :=
  (List.range 16).any fun s => (List.range 4).any fun c =>
    let x := h.reg (slotA s c 0)
    fld x 3 0 == 2 && decide (fld x 13 4 < 8) && h.fget (thrA (fld x 13 4) 0) 4 0 == k && h.bget (slotA s c 4) 5

/-- A frame and clock lie before a record's tag. -/
def AcqRec.after (r : AcqRec) (frame clock : Nat) : Bool := decide (frame < r.frame) || (frame == r.frame && decide (clock < r.clock))

/-- A TRIGGER record could still come before a record: the point of a crossing lies between the last sample of its channel and the next
one, whose arrival decides; one that has come waits for its evaluation; and so does a forced trigger (R343, R349, R357). -/
def Hw.mayPrecede (h : Hw) (r : AcqRec) : Bool :=
  (h.acqState == 2 || h.acqState == 3) &&
    ((List.range 32).any (fun k =>
      h.bget (wchA k 0) 0 && h.crossTriggers k &&
        match Store.get none h.acq.prev k with
        | some p => r.after p.frame p.clock
        | none => false) ||
    h.acq.insts.any (fun i => i.cross.any fun y => r.after y.frame y.clock) ||
    (h.acqMode == 2 && h.acq.autoAt.any fun x => r.after x.1 x.2.1))

/-- ACQ_WRITE: one record is stored, or a FRAME_BASE or GAP that must come before it. Records that lie before the
segment, or that no segment wants, are passed over. Nothing is stored past an instant that the sequencer has not
evaluated, past a sample whose successor may still place a TRIGGER record, nor once the segment is full. A writer that has
fallen behind drops the newest records first. -/
def execAcqWrite (h : Hw) : Hw :=
  let h := h.dropNewest h.waitingRecs
  match h.nextRec with
  | none => h
  | some (r, without) =>
    let isTrig := r.ord == 1000
    if !(decide (2 ≤ h.acqState) && decide (h.acqState ≤ 4)) ||
        (!isTrig && !h.inSegment r.frame r.clock) then without
    else if h.acqState = 4 ∧ h.acq.trigIndex.isSome ∧ h.acq.postLeft = 0 then h
    else if h.acq.insts.any fun i =>
        decide (i.frame < r.frame) || (i.frame == r.frame && decide (i.clock ≤ r.clock)) then h
    else if !isTrig && h.mayPrecede r then h
    else if h.acq.sinceBase ≥ 4095 ∨ r.frame - h.acq.lastFrame > 2 ^ 36 - 1 then h.placeBase r.frame
    else if h.acq.wlost ≠ 0 && (decide (h.acq.wtag.1 < r.frame) ||
        (h.acq.wtag.1 == r.frame && decide (h.acq.wtag.2 ≤ r.clock))) then
      (({ h with acq := { h.acq with wlost := 0 } } : Hw).place
        (recBody 5 (min h.acq.wlost 0xFFFFFFFF + 4 * 2 ^ 32)) r.frame false).countPlaced
    else if r.gap > 0 then
      ((h.clearGap r).place (recBody 5 (min r.gap 0xFFFFFFFF +
        (if r.ord ≥ 256 then 3 else r.ord / 128 + 1) * 2 ^ 32)) r.frame false).countPlaced
    else if isTrig then
      let ix := h.acq.written % max 1 h.acqRing
      let h := (without.place r.body r.frame false).setReg (acqA 0x28)
        (BitVec.ofNat 32 (min without.acq.counted (without.reg (acqA 0x14)).toNat))
      { h with acq := { h.acq with trigIndex := some ix, postLeft := (h.reg (acqA 0x18)).toNat } }
    else (without.place r.body r.frame false).countPlaced

/-- One course clock of the AUTO timeout, counted from the clock after the one that armed the segment (R357). -/
def Hw.autoClock (h : Hw) : Hw :=
  if h.acq.autoSkip then { h with acq := { h.acq with autoSkip := false } }
  else if h.frameClock && h.acqMode == 2 && (h.acqState == 2 || h.acqState == 3) then
    let n := h.acq.autoClks + 1
    let at' := if h.acq.autoAt.isNone && decide (max 1 (h.reg (acqA 0x1C)).toNat ≤ n) then
        some (h.seq.frame.toNat, h.seq.fclk, h.lastPos)
      else h.acq.autoAt
    { h with acq := { h.acq with autoClks := n, autoAt := at' } }
  else h

/-- PROBE_CLEAR_COUNTS: a write of PROBE.CTRL with CLEAR_COUNTS. -/
def Hw.writeProbeCtrl (h : Hw) (v : Word32) : Hw :=
  let h := h.setReg (probeA 0) (v &&& 1)
  if bit v 1 then h.clearRegs ((List.range 4).map fun n => probeA (0x40 + 4 * n)) else h

def execProbeClearCounts (h : Hw) (v : Word32) : Hw := if bit v 1 then h.writeProbeCtrl v else h

end Sys2Proof.Machine
end

