-- ==== Sys2Proof/Machine/Fault.lean ====
section
/-!
DEFINITION. The FAULT block (chapter 16): raised events reach it, set their status bits, write log entries and escalate.
-/

namespace Sys2Proof.Machine

def grpStatA (g : Nat) : Nat := faultA (4 * g)
def logA (k : Nat) : Nat := faultA (0x800 + 16 * k)

/-- Level of an event (R416, R417). -/
def Hw.evLevel (h : Hw) (id : Nat) : Nat :=
  evEffLevel id (h.fget (faultA (0x400 + 4 * (id / 16))) (2 * (id % 16) + 1) (2 * (id % 16)))

/-- Whether an event is masked (R412). -/
def Hw.evMasked (h : Hw) (id : Nat) : Bool := h.bget (faultA (0x200 + 4 * (id / 16))) (id % 16)

/-- Level of a raise: a masked event goes no further than LOG (R412). -/
def Hw.evOwn (h : Hw) (id : Nat) : Nat := if h.evMasked id then 0 else h.evLevel id

/-- Log entry k is being handled (R419). -/
def Hw.handled (h : Hw) (k : Nat) : Bool := h.bget (logA k) 15

/-- Entries being handled. -/
def Hw.handledList (h : Hw) : List Nat := (List.range 32).filter h.handled

/-- FAULT.LOG_STAT (Table 16.6). -/
def Hw.logStat (h : Hw) : Word32 :=
  BitVec.ofNat 32 (h.fault.next + 2 ^ 5 * h.handledList.length + 2 ^ 16 * h.fault.overflow)

/-- Summary s: the unmasked status bits of its eight groups (R412). -/
def Hw.summaryBit (h : Hw) (s : Nat) : Bool :=
  (List.range 8).any fun i =>
    fld (h.reg (grpStatA (8 * s + i))) 15 0 &&& (0xFFFF - h.fget (faultA (0x200 + 4 * (8 * s + i))) 15 0) != 0

/-- FAULT.SUMMARY. -/
def Hw.summary (h : Hw) : Word32 :=
  let s := ofBits 32 fun k => decide (k < 9) && h.summaryBit k
  setBit s 9 (s != 0)

/-- Signal FAULT.IRQ.VECTOR, at most once in a cycle of the block (R416). -/
def Hw.signalIrq (h : Hw) : Hw :=
  if h.bget (faultA 0x604) 6 && !h.fault.irqDone then
    ({ h with fault := { h.fault with irqDone := true } } : Hw).msix (h.fget (faultA 0x604) 5 0)
  else h

/-- The strictest halting action in progress: 0 none, 2 HALT_AT_END, 3 HALT_NOW (R419). -/
def Hw.haltInProgress (h : Hw) : Nat :=
  if h.seq.syms.any fun s => s.kind == .haltNow then 3
  else if h.seq.run = .halting || !h.seq.halts.isEmpty || h.seq.syms.any fun s => s.kind == .haltAtEnd then 2 else 0

/-- The halting symbol that a raise sends, as a level: that of its applied level when it is stricter than what is in progress, and else
its own, which each raise sends (R418, R419; log entry 30). -/
def Hw.haltSent (h : Hw) (own level : Nat) : Nat := if h.haltInProgress < level then level else own

/-- Perform the actions of a raise at a level of its own and an applied level: the vector from INTERRUPT on, and the halting symbol
(R416). -/
def Hw.act (h : Hw) (own level : Nat) : Hw :=
  let h := if level ≥ 1 then h.signalIrq else h
  if h.haltSent own level = 3 then h.sendHaltNow 6
  else if h.haltSent own level = 2 then h.sendHaltAtEnd 5 else h

/-- Level at which an event is written and acts: at least FRAME_FAULT's when it carries POISON (R418, R419). -/
def Hw.entryLevel (h : Hw) (e : EvRec) : Nat := if e.poison then max (h.evOwn e.id) (h.evOwn evFrameFault) else h.evOwn e.id

/-- The level applied to a new entry: the strictest of its own and of the entries being handled, but LOG for a masked one (R412,
R419). -/
def Hw.appliedLevel (h : Hw) (e : EvRec) : Nat :=
  if h.evMasked e.id && h.entryLevel e == 0 then 0
  else h.handledList.foldl (fun m k => max m (h.fget (logA k) 12 11)) (h.entryLevel e)

/-- Write the entry at LOG_STAT.NEXT (R418, R419); a member tells its head of an entry at INTERRUPT or above (R421). -/
def Hw.writeEntry (h : Hw) (e : EvRec) : Hw :=
  let k := h.fault.next
  let level := h.appliedLevel e
  let nested := !h.handledList.isEmpty
  let w0 : Word32 := BitVec.ofNat 32 (e.id + 2 ^ 11 * level + (if nested then 2 ^ 13 else 0) +
    (if e.poison then 2 ^ 14 else 0) + 2 ^ 15 + 2 ^ 16 * (h.fault.seq % 65536))
  let h := (((h.setReg (logA k) w0).setReg (logA k + 4) e.detail).setReg64 (logA k + 8) e.frame).markDone (.w1c (logA k) 15)
  let h := { h with fault := { h.fault with next := (k + 1) % 32, seq := h.fault.seq + 1 } }
  let h := if h.isMember && decide (level ≥ 1) then h.sendMsg h.conf.head (.logNotice h.devIndex true) else h
  h.act (h.entryLevel e) level

/-- An error whose entry finds every place taken (R420). -/
def Hw.dropEntry (h : Hw) (e : EvRec) : Hw :=
  let h := { h with fault := { h.fault with overflow := min 0xFFFF (h.fault.overflow + 1) } }
  (h.act (h.entryLevel e) (h.appliedLevel e)).raise evLogOverflow

/-- An event reaches the FAULT block (R412, R416, R418 to R420). -/
def Hw.takeEvent (h : Hw) (e : EvRec) : Hw :=
  let a := grpStatA (e.id / 16)
  let was := h.bget a (e.id % 16)
  let h := h.setW1c a (e.id % 16)
  if evIsError e.id && e.id != evFrameFault && !was then
    if h.handled h.fault.next then h.dropEntry e else h.writeEntry e
  else h.act (h.entryLevel e) (h.entryLevel e)

/-- The order in which events reach the block: by course clock of the raise, and in one clock by event ID (R418). -/
def EvRec.before (a b : EvRec) : Bool := decide (a.clk < b.clk) || (a.clk == b.clk && decide (a.id < b.id))

/-- The next event on the path, and the path without it. -/
def Hw.nextEvent (h : Hw) : Option (EvRec × Hw) :=
  match firstBy EvRec.before h.fault.path with
  | none => none
  | some e => some (e, { h with fault := { h.fault with path := h.fault.path.erase e } })

/-- EVENT_RAISE: the next raised event reaches the FAULT block, in a cycle of its own, while the HUB is on (R409). -/
def execEventRaise (h : Hw) : Hw :=
  if h.pstate ≥ 3 then h else
  match h.nextEvent with
  | none => h
  | some (e, h) => ({ h with fault := { h.fault with irqDone := false } } : Hw).takeEvent e

/-- Every event on the path reaches the block, in one cycle. -/
def Hw.takeEvents : Nat → Hw → Hw
  | 0, h => h
  | n + 1, h =>
    match h.nextEvent with
    | none => h
    | some (e, h) => Hw.takeEvents n (h.takeEvent e)

def Hw.drainEvents (h : Hw) : Hw :=
  Hw.takeEvents (2 * h.fault.path.length) { h with fault := { h.fault with irqDone := false } }

/-- A member reports once that no entry is being handled any longer (R421). -/
def Hw.reportHandled (h : Hw) : Hw :=
  if h.isMember && h.handledList.isEmpty then h.sendMsg h.conf.head (.logNotice h.devIndex false) else h

/-- LOG_VALID_WRITE: a write of LOG_k with VALID acknowledges the entry, unless it was written in this cycle (R7, R419). -/
def execLogValidWrite (h : Hw) (k : Nat) (v : Word32) : Hw :=
  if k < 32 && bit v 15 && h.handled k && !bit (h.setNow (logA k)) 15 then (h.setReg (logA k) (setBit (h.reg (logA k)) 15 false)).reportHandled else h

/-- POISON_STAT_WRITE: clearing VALID clears FRAMES (Table 16.6); a VALID set in this cycle remains (R7). -/
def execPoisonStatWrite (h : Hw) (v : Word32) : Hw :=
  if bit v 31 && !bit (h.setNow (faultA 0x614)) 31 then h.setReg (faultA 0x614) 0 else h

/-- A frame that ends poisoned (R423). -/
def Hw.notePoison (h : Hw) : Hw :=
  let a := faultA 0x614
  if h.bget a 31 then h.bump a 15 0
  else ((h.setReg a (BitVec.ofNat 32 (2 ^ 31 + 1))).setReg64 (faultA 0x60C) h.seq.frame).markDone (.w1c a 31)

/-- A member's notice reaches the head (R421). -/
def Hw.memberNotice (h : Hw) (origin : Nat) (pending : Bool) : Hw :=
  let a := faultA 0x618
  let h := h.setReg64 a (setBit (h.reg64 a) origin pending)
  if pending then ({ h with fault := { h.fault with irqDone := false } } : Hw).signalIrq else h

end Sys2Proof.Machine
end

