-- ==== Sys2Proof/Machine/Snapshot.lean ====
section
/-!
DEFINITION. Snapshots (chapter 14): the snapshot point, the drain into the area, its end, and the restore.
-/

namespace Sys2Proof.Machine

/-! ## Areas (R374, R375) -/

/-- MiB that an area takes on die d (R374). -/
def areaMib (far : Bool) (design : Nat) : Nat := if far then 25 + design + (design + 511) / 512 else 25

def Hw.snapArea (h : Hw) (k : Nat) : Option SnapArea := Store.get none h.snap.areas k

/-- Bytes stored from an 8-byte boundary of an area. -/
def Hw.areaBytes (h : Hw) (d base off : Nat) (bs : List Byte) : Hw :=
  (List.range ((bs.length + 7) / 8)).foldl (fun h i =>
    h.areaWord d base (off + 8 * i) (BitVec.ofNat 64 (ofBytes ((bs.drop (8 * i)).take 8)))) h

/-- FLAGS at the point (Table 14.2). -/
def snapFlags (c : Capture) : Nat := (if c.quiet then 1 else 0) + (if c.poisoned then 2 else 0)

/-- Word 0x18 of the descriptor at the point: ALT, SCOPE, STATE capturing, FLAGS and BAY_GEN (Table 14.2). -/
def Hw.snapWord3 (h : Hw) (c : Capture) (far : Bool) : Word64 :=
  BitVec.ofNat 64 (c.alt + (if far then 2 ^ 8 else 0) + 2 ^ 16 + snapFlags c * 2 ^ 24 + h.snap.bayGen % 2 ^ 32 * 2 ^ 32)

/-- STATE of a slot's area, in its descriptors and in SNAP_SLOT_k.CFG: 0 empty, 1 capturing, 2 complete, 3 failed (Table 14.2,
Table 14.4). -/
def Hw.setAreaState (h : Hw) (k state : Nat) : Hw :=
  match h.snapArea k with
  | none => h
  | some ar =>
    let mark (h : Hw) (d : Nat) : Hw :=
      let b := ar.base.getD d 0
      h.areaWord d b 0x18 ((h.areaRead d b 0x18 &&& ~~~ 0xFF0000) ||| BitVec.ofNat 64 (state * 2 ^ 16))
    ((mark h 0).fset (snapSlotA k 0) 3 2 state |> (mark · 1))

/-- CONFIG_ID of the loaded image: HUB.IMG_ID (R286). -/
def Hw.configId (h : Hw) : Word64 := match h.img.loaded with | some l => l.configId | none => 0

/-- The descriptor of die d (Table 14.2) at the point, with STATE capturing. -/
def Hw.writeSnapDesc (h : Hw) (c : Capture) (ar : SnapArea) (frame : Nat) (dev : Word64) (d : Nat) : Hw :=
  let b := ar.base.getD d 0
  let h := (List.range 512).foldl (fun h i => h.areaWord d b (8 * i) 0) h
  let h := ((h.areaWord d b 0 h.configId).areaWord d b 8 (BitVec.ofNat 64 frame)).areaWord d b 0x10 dev
  let h := h.areaWord d b 0x18 (h.snapWord3 c ar.far)
  let h := h.areaWord d b 0x20 (BitVec.ofNat 64 (h.designMib d + c.id * 2 ^ 32))
  let h := h.areaBytes d b 0x28 (bytesOf 16 (timeValue h.time.now).toNat)
  h.areaBytes d b 0x40 ((List.range 8).flatMap fun i => bytesOf 4 (h.reg (userioA (0x80 + 4 * (8 * d + i)))).toNat)

/-! ## The point (R372, R373, R377) -/

/-- No queue pair holds an outstanding request, and no call is waiting, delayed, ready or running (R373). -/
def Hw.snapQuiet (h : Hw) : Bool :=
  (h.qpairs.all fun kv => kv.2.outstanding == 0) && !(h.callList.any fun sc => sc.2.active)

/-- Take the point: `frame` is the number of the frame that begins there, DEV and ALT those latched for it. -/
def Hw.takePoint (h : Hw) (frame : Nat) (dev : Word64) (alt : Nat) : Hw :=
  match h.snap.capture with
  | none => h
  | some c =>
    match h.snapArea c.slot with
    | none => h
    | some ar =>
      let c := { c with point := some h.seq.padClk, alt := alt, quiet := h.snapQuiet, poisoned := h.seq.poisoned
                        drained := [false, false], damage := [0, 0] }
      let h := { h with snap := { h.snap with capture := some c, loftPlane := [], bankPlane := [], pages := [] } }
      let h := (h.writeSnapDesc c ar frame dev 0).writeSnapDesc c ar frame dev 1
      let h := h.setReg snapStatA (BitVec.ofNat 32 (1 + 2 * c.slot))
      let h := [0, 1].foldl (fun h d =>
        h.setReg (hubA (0x204 + 4 * d)) (BitVec.ofNat 32 (areaMib ar.far (h.designMib d)))) h
      let h := h.setReg (snapSlotA c.slot 0) (BitVec.ofNat 32 (1 + (if ar.far then 2 else 0) + 4 + snapFlags c * 16))
      (h.setReg (snapSlotA c.slot 4) (BitVec.ofNat 32 c.id)).setReg64 (snapSlotA c.slot 8) (BitVec.ofNat 64 frame)

/-- Action 3 of the tick that ends frame n (R377). -/
def Hw.pointAtTick (h : Hw) (n : Nat) : Hw :=
  match h.snap.capture with
  | some c => if c.point.isNone && c.frame == n then h.takePoint (n + 1) h.seq.dev h.seq.alt else h
  | none => h

/-- The point of a command accepted in HELD: taken at once. Where a halt deferred the boundary, the frame that begins
next has the next number and the values that wait to be latched (R372, R376). -/
def Hw.pointInHeld (h : Hw) : Hw :=
  if h.seq.deferred then h.takePoint (h.seq.frame.toNat + 1) h.seq.devNext h.seq.altNext
  else h.takePoint h.seq.frame.toNat h.seq.dev h.seq.alt

/-! ## The drain (R378 to R380) -/

/-- Drop the far-memory words whose key satisfies p, and the write-backs still to come to them. -/
def Hw.dropFar (h : Hw) (p : Nat → Bool) : Hw :=
  { h with farMem := Store.keep (fun k => !p k) h.farMem, farWb := Store.keep (fun k => !p k) h.farWb }

/-- Key k lies in the n words of an area from offset `lo`. -/
def inArea (d base lo n k : Nat) : Bool :=
  let k0 := farKey d ((base + lo) / 8)
  decide (k0 ≤ k) && decide (k < k0 + n)

/-- Drop what an area holds from offset `lo`, `n` words long. -/
def Hw.clearArea (h : Hw) (d base lo n : Nat) : Hw := h.dropFar (inArea d base lo n)

/-- What n words of an area hold from offset `lo`: number and data of each listed word. -/
def Hw.areaWords (h : Hw) (d base lo n : Nat) : List (Nat × Word64) :=
  (h.farMem.filter fun kv => inArea d base lo n kv.1).map fun kv => (kv.1 - farKey d ((base + lo) / 8), (decDecode kv.2).1)

/-- Keys of two stores that satisfy p, each once. -/
def keysOf {α β : Type} (p : Nat → Bool) (a : Store α) (b : Store β) : List Nat :=
  let ka := (a.map (·.1)).filter p
  ka ++ (b.map (·.1)).filter fun k => p k && !ka.contains k

/-- Lofts of die d into the area: from the plane where COPIED is set, else from the live memory (R378). -/
def Hw.drainLofts (h : Hw) (d base : Nat) : Hw :=
  let keys := keysOf (fun k => k / 2 ^ 20 == d) h.lofts h.snap.loftPlane
  keys.foldl (fun h k =>
    h.drainWord d base (0x1000 + 8 * (k % 2 ^ 20)) ((Store.get none h.snap.loftPlane k).getD (Store.get 0 h.lofts k)))
    (h.clearArea d base 0x1000 (2 ^ 20))

/-- Banks of die d and their valid bits into the area. -/
def Hw.drainBanks (h : Hw) (d base : Nat) : Hw :=
  let keys := keysOf (fun k => k / 2 ^ 21 == d) h.bankMem h.snap.bankPlane
  let old (h : Hw) (k : Nat) : Word78 × Bool :=
    (Store.get none h.snap.bankPlane k).getD (Store.get 0 h.bankMem k, Store.get false h.bankValid k)
  let h := keys.foldl (fun h k => h.drainWord d base (0x801000 + 8 * (k % 2 ^ 21)) (old h k).1)
    (h.clearArea d base 0x801000 (2 ^ 21))
  let vkeys := keysOf (fun k => k / 2 ^ 21 == d) h.bankValid h.snap.bankPlane
  vkeys.foldl (fun h k =>
    let off := 0x1801000 + (k % 2 ^ 21) / 64 * 8
    let w := h.areaRead d base off
    h.areaWord d base off (setBit w (k % 64) (old h k).2)) (h.clearArea d base 0x1801000 (2 ^ 15))

/-- The DESIGN region of die d and its valid map into the area: pages that are already marked stay (R379). -/
def Hw.drainFar (h : Hw) (d base : Nat) : Hw :=
  let words := h.designMib d * 2 ^ 17
  let marked (page : Nat) : Bool := Store.get false h.snap.pages (d * 2 ^ 24 + page)
  let src := h.farMem.filter fun kv => kv.1 / 2 ^ 33 == d && decide (kv.1 % 2 ^ 33 < words) && !marked (kv.1 % 2 ^ 33 / 512)
  let a0 := farKey d ((base + areaFarOff) / 8)
  let h := h.dropFar fun k => inArea d base areaFarOff words k && !marked ((k - a0) / 512)
  let h := src.foldl (fun h kv =>
    if h.farWritten d (kv.1 % 2 ^ 33) then h.drainWord d base (areaFarOff + 8 * (kv.1 % 2 ^ 33)) kv.2 else h) h
  let h := (h.areaWords d base (h.areaValidOff d) (words / 512)).foldl (fun h kv =>
    h.areaWord d base (h.areaValidOff d + 8 * kv.1)
      (ofBits 64 fun n => bit kv.2 n && marked (mapLine (64 * kv.1 + n) / 64))) h
  h.areaValid d base ((h.farValid.filter fun kv => kv.1 / 2 ^ 30 == d && decide (kv.1 % 2 ^ 30 < words / 8) &&
    !marked (kv.1 % 2 ^ 30 / 64)).map fun kv => (kv.1 % 2 ^ 30, kv.2))

/-- The whole drain of die d. -/
def Hw.drainDie (h : Hw) (ar : SnapArea) (d : Nat) : Hw :=
  let b := ar.base.getD d 0
  let h := (h.drainLofts d b).drainBanks d b
  let h := if ar.far then h.drainFar d b else h
  let h := h.setReg (hubA (0x204 + 4 * d)) 0
  match h.snap.capture with
  | some c => { h with snap := { h.snap with capture := some { c with drained := c.drained.set d true } } }
  | none => h

/-- While a die drains, SNAP_LEFT falls towards its end; how fast is a free value, for R380 gives the rate's bound alone (R386). -/
def Hw.leftClock (h : Hw) (d : Nat) : Hw :=
  if !h.draining d then h
  else
    let (v, h) := h.takeFree
    let n := h.fget (hubA (0x204 + 4 * d)) 23 0
    if bit v 0 && decide (1 < n) then h.fset (hubA (0x204 + 4 * d)) 23 0 (n - 1) else h

/-- The capture ends with a STATE: 2 complete, 3 failed (R380). -/
def Hw.endCapture (h : Hw) (c : Capture) (state : Nat) : Hw :=
  let h := h.setAreaState c.slot state
  let h := (h.setReg snapStatA (BitVec.ofNat 32 (2 * c.slot))).clearRegs [hubA 0x204, hubA 0x208]
  let h := if state = 2 then h.bump (hubA 0x20C) 15 0 else h.bump (hubA 0x20C) 31 16
  { h with snap := { h.snap with capture := none, loftPlane := [], bankPlane := [], pages := [] } }

/-- Far-memory writes pushed before the point that are not yet performed (R373). -/
def Hw.preWrites (h : Hw) (point : Nat) : Bool :=
  h.qpairs.any fun kv => kv.2.reqs.any fun r => reqOp (r.words.headD 0) != 0 && decide (r.pushed < point)

/-- On the head: the snapshot is complete once both dies of every module have drained (R380). -/
def Hw.snapFinish (h : Hw) : Hw :=
  match h.snap.capture with
  | none => h
  | some c =>
    if !(c.drained.all id) || c.point.isNone then h
    else if h.isMember then h.sendMsg h.conf.head (.snapDrained c.slot h.devIndex false)
    else if h.conf.members.all c.reported.contains then
      let h := h.conf.members.foldl (fun h m => h.sendMsg m (.snapComplete c.slot c.failed)) h
      if c.failed then h.endCapture c 3 else (h.endCapture c 2).raise evSnapDone
    else h

/-- SNAP_DRAIN_DONE: both dies have drained (R380). -/
def execSnapDrainDone (h : Hw) : Hw :=
  match h.snap.capture with
  | none => h
  | some c =>
    match h.snapArea c.slot, c.point with
    | some ar, some p =>
      if c.drained.all id || (ar.far && h.preWrites p) then h
      else ((h.drainDie ar 0).drainDie ar 1).snapFinish
    | _, _ => h

/-- A member's report reaches the head: its drain has ended, or it came too late for the point, which fails the snapshot
on every module (R377, R380). -/
def Hw.snapReport (h : Hw) (slot origin : Nat) (late : Bool) : Hw :=
  match h.snap.capture with
  | some c =>
    if c.slot ≠ slot then h else
    let h := { h with snap := { h.snap with
      capture := some { c with reported := origin :: c.reported, failed := c.failed || late } } }
    let h := if late && !c.failed then h.raise evSnapFailed else h
    h.snapFinish
  | none => h

/-- The head's word that a snapshot is complete or failed reaches a member. One that came too late for the point has no capture, and
marks its own area failed (R377). -/
def Hw.snapEnded (h : Hw) (slot : Nat) (failed : Bool) : Hw :=
  match h.snap.capture with
  | some c => if c.slot = slot then h.endCapture c (if failed then 3 else 2) else h
  | none => if failed then (h.setAreaState slot 3).bump (hubA 0x20C) 31 16 else h

/-! ## Owners, and the restore (R382, R383) -/

/-- Every bank of both dies becomes a given owner, with no hand-over pending. -/
def Hw.allBanks (h : Hw) (owner : Nat) : Hw :=
  (List.range 128).foldl (fun h b =>
    h.setReg (bankA (b / 64) (4 * (b % 64))) (BitVec.ofNat 32 (owner + owner * 2 ^ 4))) h

/-- Step 3 of R383 on die d. -/
def Hw.restoreDie (h : Hw) (ar : SnapArea) (d : Nat) : Hw :=
  let b := ar.base.getD d 0
  let lofts := Store.setAll 0 (Store.keep (fun k => k / 2 ^ 20 != d) h.lofts)
    ((h.areaWords d b 0x1000 (2 ^ 20)).map fun kv => (d * 2 ^ 20 + kv.1, decEncode kv.2))
  let bm := Store.setAll 0 (Store.keep (fun k => k / 2 ^ 21 != d) h.bankMem)
    ((h.areaWords d b 0x801000 (2 ^ 21)).map fun kv => (d * 2 ^ 21 + kv.1, decEncode kv.2))
  let bits (kv : Nat × Word64) : List (Nat × Bool) := (List.range 64).map fun i => (64 * kv.1 + i, bit kv.2 i)
  let bv := Store.setAll false (Store.keep (fun k => k / 2 ^ 21 != d) h.bankValid)
    (((h.areaWords d b 0x1801000 (2 ^ 15)).flatMap bits).map fun kv => (d * 2 ^ 21 + kv.1, kv.2))
  let h := { h with lofts := lofts, bankMem := bm, bankValid := bv }
  let h := if !ar.far then h else
    let words := h.designMib d * 2 ^ 17
    let ws := h.areaWords d b areaFarOff words
    let vs := (h.areaWords d b (h.areaValidOff d) (words / 512)).flatMap bits
    { h with
      farMem := Store.setAll 0 (Store.keep (fun k => k / 2 ^ 33 != d || decide (words ≤ k % 2 ^ 33)) h.farMem)
        (ws.map fun kv => (farKey d kv.1, decEncode kv.2))
      farValid := Store.setAll false (Store.keep (fun k => k / 2 ^ 30 != d) h.farValid)
        ((vs.filter fun kv => decide (mapLine kv.1 < words / 8)).map fun kv => (d * 2 ^ 30 + mapLine kv.1, kv.2))
      farWb := Store.keep (fun k => k / 2 ^ 33 != d || decide (words ≤ k % 2 ^ 33)) h.farWb }
  h

/-- Output registers of die d's user I/O banks, from bytes 0x40 to 0x5F of its descriptor (R383, step 4). -/
def Hw.restoreOut (h : Hw) (ar : SnapArea) (d : Nat) : Hw :=
  let b := ar.base.getD d 0
  (List.range 8).foldl (fun h i =>
    h.setReg (userioA (0x80 + 4 * (8 * d + i)))
      ((h.areaRead d b (0x40 + 8 * (i / 2))).extractLsb' (32 * (i % 2)) 32)) h

/-- Run state and its register fields on both dies (Table 5.6). -/
def runCode : RunState → Nat
  | .empty => 0 | .held => 1 | .running => 2 | .halting => 3 | .stoppedMid => 4 | .levelChange => 5

/-- Step 1 of R383: outputs at high impedance, the scrubber stopped, every bank LOADER, and the state of Table 9.7. -/
def Hw.restoreBegin (h : Hw) (k : Nat) : Hw :=
  match h.snapArea k with
  | none => h
  | some _ =>
    let h : Hw := { h.allBanks 1 with ioOut := [], done := keepMarks h.done, scrubSince := [], scrubSlots := []
                                      snap := { h.snap with restore := some (k, 2) } }
    (h.updSeq fun s => { s with
      run := .empty, inFrame := false, poisoned := false, halts := [], stallReqs := [], syms := [], caps := []
      starting := none }).fset snapStatA 5 5 1

/-- Step 2: slate rings are cleared, and whatever a halt in mid-frame left in the fabric (R38, R96). -/
def Hw.restoreClear (h : Hw) : Hw :=
  { h with trusses := [], banks := [], portWords := [], bridgeErr := [], probeIn := [] }

/-- Step 4: the frame number, DEV and ALT, and the output registers. -/
def Hw.restoreNumbers (h : Hw) (ar : SnapArea) : Hw :=
  let b := ar.base.getD 0 0
  let dev := h.areaRead 0 b 0x10
  let alt := fld (h.areaRead 0 b 0x18) 3 0
  ((h.restoreOut ar 0).restoreOut ar 1).updSeq fun s => { s with
    frame := h.areaRead 0 b 8, dev := dev, devNext := dev, alt := alt, altNext := alt, deferred := false }

/-- Steps 6 and 7: every bank is DESIGN, the scrubber and the pins go on, SYNC in the trace, and HELD. -/
def Hw.restoreEnd (h : Hw) : Hw :=
  let h : Hw := { h.allBanks 0 with snap := { h.snap with restore := none } }
  ((h.updSeq fun s => { s with run := .held, haltReason := 0 }).fset snapStatA 5 5 0).syncIfOn 3

/-- Step n of R383 on this module. -/
def Hw.restoreStep (h : Hw) (ar : SnapArea) (n : Nat) : Hw :=
  if n = 2 then h.restoreClear
  else if n = 3 then (h.restoreDie ar 0).restoreDie ar 1
  else if n = 4 then h.restoreNumbers ar
  else if n = 5 then ({ h with qpairs := [] } : Hw).clearCalls
  else h.restoreEnd

/-- A restore in progress performs its next step, one in each clock of the hub (DESIGN CHOICE: R383 gives their order and no times; log
entry 18). -/
def Hw.restoreNext (h : Hw) : Hw :=
  match h.snap.restore with
  | none => h
  | some (k, n) =>
    let h : Hw := { h with snap := { h.snap with restore := some (k, n + 1) } }
    match h.snapArea k with
    | some ar => h.restoreStep ar n
    | none => h.restoreEnd

end Sys2Proof.Machine
end

