-- ==== Sys2Proof/Machine/Frame.lean ====
section
/-!
DEFINITION. The sequencers (chapter 5): resolving the frame plan, waits and the global stall, droop stretch, configuration
symbols, frame-go and the frame tick with the actions of Table 1.9, and the change of performance level.
-/

namespace Sys2Proof.Machine

/-! ## The frame plan (Table 5.1, R122, R123) -/

def eStart (e : Word64) : Nat := fld e 10 0
def eLen (e : Word64) : Nat := fld e 22 11
def eKind (e : Word64) : Nat := fld e 24 23
def eCond (e : Word64) : Nat := fld e 26 25
def eK (e : Word64) : Nat := fld e 32 27
def eCap (e : Word64) : Nat := fld e 34 33
def eWset (e : Word64) : Nat := fld e 39 35
def eQuiet (e : Word64) : Bool := bit e 40
def eEnd (e : Word64) : Bool := bit e 41

/-- A block's condition against the latched vector and select (R122). -/
def eTaken (e : Word64) (dev : Word64) (alt : Nat) : Bool :=
  if eCond e = 0 then true else if eCond e = 1 then bit dev (eK e) else alt == eK e % 16

/-- What resolution gives: the taken blocks, the path bits of R361, the positions used, and whether the visit limit was
passed. -/
structure Resolved where
  segs : List Seg
  bits : List Bool
  len : Nat
  runaway : Bool
deriving DecidableEq, Repr

/-- The pseudocode of R122 with `n` visits left, at block b and position pos. -/
def resolve (plan : Nat → Word64) (ptable : Nat → Nat) (dev : Word64) (alt : Nat) : Nat → Nat → Nat → Resolved
  | 0, _, pos => ⟨[], [], pos, true⟩
  | n + 1, b, pos =>
    let e := plan b
    let taken := eTaken e dev alt
    let tr := if eCond e = 0 then [] else [taken]
    let seg : List Seg := if taken then [⟨pos, b, eStart e, eLen e, eKind e, eCap e, eWset e, eQuiet e⟩] else []
    let pos' := if taken then pos + eLen e else pos
    if taken && eKind e == 2 then
      let t := ptable ((alt + eK e % 16) % 16)
      let r := resolve plan ptable dev alt n t pos'
      ⟨seg ++ r.segs, tr ++ (List.range 8).map (fun i => t.testBit i) ++ r.bits, r.len, r.runaway⟩
    else if eEnd e || b == 255 then ⟨seg, tr, pos', false⟩
    else
      let r := resolve plan ptable dev alt n (b + 1) pos'
      ⟨seg ++ r.segs, tr ++ r.bits, r.len, r.runaway⟩

/-- Resolution of die d's frame plan with the latched vector and select. -/
def Hw.resolved (h : Hw) (d : Nat) : Resolved :=
  resolve (fun b => Store.get 0 h.plan (d * 256 + b)) (fun e => Store.get 0 h.ptable (d * 16 + e)) h.seq.dev h.seq.alt 1024 0 0

/-- Resolution ends in PLAN_FAULT (R122). -/
def Hw.planFault (h : Hw) (d : Nat) : Bool := (h.resolved d).runaway || decide (h.seq.schedLen < (h.resolved d).len)

/-- Die d resolves its frame: its path, its PATH packets, and PLAN_FAULT, after which it executes no course (R122, R123,
R361). -/
def Hw.resolveDie (h : Hw) (d : Nat) : Hw :=
  let r := h.resolved d
  let fault := h.planFault d
  let h := h.updSeq fun s => { s with path := s.path.set d (if fault then [] else r.segs) }
  let h := (pathPackets d h.frameLo fault r.bits).foldl (fun h p => h.offer d p) h
  if fault then h.raisePoison (evPlanFault d) else h

/-! ## Allowance and the grid (R136 to R139, R311) -/

/-- FRAME_LEN acts as the largest of itself, S and H (R138). Where host software has written the two dies' FRAME_LEN
differently, the field of die 0 gives A (DESIGN CHOICE: R138 names one SEQ.FRAME_LEN; log entry 61). -/
def Hw.freeAllowance (h : Hw) : Nat := max (max (h.fget (seqA 0 0x10) 23 0) h.seq.schedLen) h.seq.horizon

/-- The end window ω: H on every module of a configuration of more than one (R136). -/
def Hw.endWindow (h : Hw) : Nat := if h.multi then h.seq.horizon else 0

/-- Course clocks from now to the course edge nearest a grid point, the earlier of two (R311). -/
def nearestEdge (now g p : Nat) : Nat := if 2 * g ≤ 2 * now + p then 0 else (2 * g - 2 * now - p + 2 * p - 1) / (2 * p)

/-- How many grid points from g on have an edge fewer than m course clocks away. -/
def pointsBefore (now g period p m : Nat) : Nat :=
  let r := 2 * now + (2 * m - 1) * p
  if m = 0 ∨ r < 2 * g then 0 else (r - 2 * g) / (2 * max 1 period) + 1

def Hw.clockLen (h : Hw) : Nat := courseUnits h.seq.level

/-- Count n missed grid points on both dies, each with TICK_MISSED (R139). -/
def Hw.missPoints (h : Hw) (n : Nat) : Hw :=
  let h := (h.bump (seqA 0 0x54) 31 0 n).bump (seqA 1 0x54) 31 0 n
  (List.range n).foldl (fun h _ => h.raise evTickMissed) h

/-- Grid points from g on whose edge is fewer than m course clocks away, at the rate in force. -/
def Hw.pointsAhead (h : Hw) (g period m : Nat) : Nat :=
  let sv := h.time.servo
  let k := 10 ^ 9
  if h.localClock then
    pointsBefore (h.time.now * k + sv.frac) (g * k) (period * k) (h.clockLen * (k + sv.total).toNat) m
  else pointsBefore h.time.now g period h.clockLen m

/-- Course clocks from now to the edge nearest the grid point g, exact up to the horizon H and above H beyond it (R311). -/
def Hw.toEdge (h : Hw) (g : Nat) : Nat :=
  if h.localClock then Servo.toEdge h.clockLen g (h.seq.horizon + 1) h.time.servo h.time.now
  else nearestEdge h.time.now g h.clockLen

/-- The allowance of a frame as far as it is known at its tick. In TIMED mode frame-go tells it (R137), except that a member
reckons an allowance below H by its own grid, which RUN_START gave it, for a frame-go of course clock 0 does not carry it
(DESIGN CHOICE: R137 does not say how a member learns such an A; log entry 64). -/
def Hw.firstAllowance (h : Hw) : Nat :=
  if h.seq.mode ≠ .timed then h.freeAllowance else if h.isHead then 0 else min h.seq.horizon (h.toEdge h.seq.gridNext)

/-- The next tick serves the first grid point at least m course clocks from now; the points passed over are missed. -/
def Hw.skipPoints (h : Hw) (m : Nat) : Hw :=
  let n := h.pointsAhead h.seq.gridNext h.seq.gridPeriod m
  (h.missPoints n).updSeq fun s => { s with gridNext := s.gridNext + n * s.gridPeriod }

/-! ## The beginning of a frame (R28, action 6) -/

/-- A truss at a frame tick: the histories and whatever is on its way are discarded (R37, R71, R96), and corrected words
keep waiting for their write-back. -/
def tickTruss (k : Truss) : Truss :=
  { k with outv := 0, res := 0, drv := 0, bpDone := 0, sb := [], purl := [], inb := 0, pin := 0, reads := [], bus := 0
           blocked := none, wb := k.wb.map fun w => { w with pos := 2 ^ 32 } }

def tickBank (b : Bank) : Bank := { b with blocked := none, wb := b.wb.map fun w => { w with pos := 2 ^ 32 } }

/-- A store with every value changed, entries that become the default dropped. -/
def Store.mapVals {α : Type} [DecidableEq α] (d : α) (f : α → α) (m : Store α) : Store α :=
  m.filterMap fun kv => if f kv.2 = d then none else some (kv.1, f kv.2)

/-- The Eave slot buffers at a tick: groups of earlier frames are discarded, those of the frame that begins are kept (R96,
R235). -/
def EavePort.tickSlots (frm : Nat) (pt : EavePort) : EavePort :=
  { pt with txGroups := [], arrived := none, rxGroups := pt.rxGroups.filter fun g => g.frm == frm }

/-- Frame n begins with block 0: the new frame's course clock 0 (R28, R117, R122). A stretch of this same course clock
belongs to the frame that begins, and stretch clocks that are still due are inserted in it (R140). -/
def Hw.beginFrame (h : Hw) : Hw :=
  let h := h.updSeq fun s => { s with
    inFrame := true, fclk := 0, pos := 0, stalls := 0, stretches := s.noted
    goSent := false, goEff := false, stallReqs := [], posHist := [], waitTaken := []
    starting := none }
  let h : Hw := { h with ports := Store.mapVals {} (EavePort.tickSlots (h.seq.frame.toNat % 16)) h.ports }
  let h := h.updSeq fun s => { s with allowance := h.firstAllowance }
  let h := { h with
    trusses := Store.mapVals {} tickTruss h.trusses, banks := Store.mapVals {} tickBank h.banks
    portWords := [], bridgeErr := [], probeIn := [], done := keepMarks h.done }
  (h.resolveDie 0).resolveDie 1

/-- Pending RWF values take effect (R6, R8; R28, action 4). -/
def Hw.applyRwf (h : Hw) : Hw :=
  let h' := h.rwf.foldl (fun h kv =>
    match regRowAt kv.1, kv.2 with
    | some r, some v => h.setReg kv.1 ((h.reg kv.1 &&& ~~~ r.rwf) ||| (v &&& r.rwf))
    | _, _ => h) h
  { h' with rwf := [] }

/-! ## Performance levels (R148 to R152) -/

/-- Level that a request brings into force: P0 and P1 run at P2 in checked mode (R148). -/
def Hw.levelFor (h : Hw) (l : Nat) : Nat := if h.seq.checked then max 2 l else l

/-- LEVEL_CHANGE is entered: no frame runs, the rails and the PLL move to the level asked for, at most P2 in checked mode
(R148, R149). The configuration clock count stands during the gap, and the next FRAME_GO re-aligns it (R238). A stretch of the
clock of the tick counts in the frame that begins after the gap (R140), whose tick this is (R149). -/
def Hw.enterLevelChange (h : Hw) (l : Nat) (fromRunning throttle : Bool) : Hw :=
  (h.fset 0x44 6 6 0).updSeq fun s => { s with
    run := .levelChange, inFrame := false, levelDue := none, realign := true, levelFail := false, stretches := s.noted
    levelChg := some ⟨fromRunning, s.level, h.levelFor l, 0, throttle⟩ }

/-- A level that is asked for takes effect at the next tick while frames run, and at once in HELD, where every accepted request
enters LEVEL_CHANGE (R143, R148). -/
def Hw.askLevel (h : Hw) (l : Nat) (throttle : Bool) : Hw :=
  match h.seq.run with
  | .running | .halting => h.updSeq fun s => { s with levelDue := some (l, throttle) }
  | .held => h.enterLevelChange l false throttle
  | _ => h

/-- A level request of host software (R148). Where a throttle is in force, a request for a faster level is served like any
other, at once or at the next tick (DESIGN CHOICE: R152 does not say how the two meet; log entry 61). -/
def Hw.requestLevel (h : Hw) (l : Nat) : Hw := (h.updSeq fun s => { s with levelReq := l }).askLevel l false

/-- A throttle symbol: one level slower, with THERMAL_THROTTLE, or one level faster toward the requested one (R152). -/
def Hw.throttle (h : Hw) (slower : Bool) : Hw :=
  if slower then
    let h := (h.updSeq fun s => { s with throttled := true }).raise evThermalThrottle
    if h.seq.level < 3 then h.askLevel (h.seq.level + 1) true else h
  else if h.seq.throttled then
    let goal := h.levelFor h.seq.levelReq
    let l := if goal < h.seq.level then h.seq.level - 1 else h.seq.level
    let h := h.updSeq fun s => { s with throttled := decide (goal < l) }
    if l < h.seq.level then h.askLevel l true else h
  else h

/-- JUNCTION_HOT: the module sends a throttle request (R152). With no image no symbol is sent (Table 9.7). -/
def execJunctionHot (h : Hw) : Hw := h.sendSym .throttle 1

/-- THROTTLE_RECOVER: the configuration returns one level toward the requested one (R152). -/
def execThrottleRecover (h : Hw) : Hw := if h.seq.throttled && h.isHead then h.sendSym .throttle 0 else h

/-- A change of SRC that waited takes effect at the halt (R19). -/
def Hw.applySrc (h : Hw) : Hw :=
  match h.seq.srcPending with
  | some v => ((h.updSeq fun s => { s with srcPending := none }).fset 0x44 1 0 v).lockPll
  | none => h

/-- Return to HELD from a level change that failed (R151). -/
def Hw.levelFailed (h : Hw) (old : Nat) : Hw :=
  (h.updSeq fun s => { s with
    run := .held, haltReason := 7, level := old, levelReq := old, levelChg := none, levelFail := true, halts := [] }).applySrc

/-- LEVEL_LOCKED: every module reports lock; `gapUs` is the gap in microseconds. From RUNNING, the head sends the
frame-go after which frame n+1 begins (R148 to R150). -/
def execLevelLocked (h : Hw) (gapUs : Nat) : Hw :=
  match h.seq.levelChg with
  | some c =>
    if c.phase ≠ 0 then h else
    let h := (h.updSeq fun s => { s with level := c.new, levelChg := none }).raise evLevelChanged
    if c.fromRunning then
      let h := h.updSeq fun s => { s with
        run := if s.halts.isEmpty then .running else .halting
        gapUs := min 40 gapUs, starting := some 2, goEff := false, goSent := true }
      (if h.isHead then h.sendSym .frameGo (h.seq.frame.toNat % 1024) else h).lockPll
    else (h.updSeq fun s => { s with run := .held }).applySrc.lockPll
  | none => h

/-- LEVEL_LOCK_TIMEOUT: the change fails, and every module returns to the earlier level (R151). -/
def execLevelLockTimeout (h : Hw) : Hw :=
  match h.seq.levelChg with
  | some c =>
    if c.phase ≠ 0 then h
    else h.updSeq fun s => { s with levelReq := c.old, levelChg := some { c with phase := 1 } }
  | none => h

/-- LEVEL_RETURN_LOCKED: the return ends; a module that does not lock keeps its array clock stopped (R151). -/
def execLevelReturnLocked (h : Hw) (ok : Bool) : Hw :=
  match h.seq.levelChg with
  | some c =>
    if c.phase ≠ 1 then h
    else
      let h := (h.levelFailed c.old).updSeq fun s => { s with pllDead := s.pllDead || !ok }
      if ok then h.lockPll else h
  | none => h

/-- A start in TIMED mode waits for its effect clock. -/
def Hw.timedStart (h : Hw) : Bool := h.startSent fun n => n == 1

/-- The first tick that the head still has to send frame-go for, in TIMED mode. -/
def Hw.firstGo (h : Hw) : Option Nat :=
  if h.timedStart then some (if h.seq.deferred then 1 else 0)
  else if h.seq.mode = .timed then h.seq.starting.filter (· != 2) else none

/-- FRAME_GO_SEND: the head sends frame-go H course clocks before the earliest tick, or in course clock 0 when A is less
than H; in TIMED mode the allowance is the edge nearest the grid point (R137, R139, R311). -/
def execFrameGoSend (h : Hw) : Hw :=
  let s := h.seq
  if !h.isHead || s.goSent || !(s.run = .running || s.run = .halting || h.timedStart) then h else
  let c := h.toEdge s.gridNext
  let send (h : Hw) (n : Nat) : Hw := (h.updSeq fun s => { s with goSent := true }).sendSym .frameGo (n % 1024)
  if s.inFrame then
    if s.mode = .timed then
      if c ≤ s.horizon then send (h.updSeq fun s => { s with allowance := s.fclk + c }) (s.frame.toNat + 1) else h
    else if s.allowance ≤ s.fclk + s.horizon then send h (s.frame.toNat + 1) else h
  else match h.firstGo with
    | some k => if c ≤ s.horizon then send h (if k = 1 then s.frame.toNat + 1 else s.frame.toNat) else h
    | none => h

/-! ## Waits and stalls (R129 to R134, R190) -/

/-- Queue k of die d is ready: pairs from 0, call ports from 0x80 (R130). -/
def Hw.queueReady (h : Hw) (d k : Nat) : Bool :=
  if k < 128 then (h.qpair (d * 128 + k)).head.isSome else (h.headResult (32 * d + (k - 128))).isSome

/-- Queue k of die d has nothing outstanding and no response held (Table 7.3, code 7). -/
def Hw.queueEmpty (h : Hw) (d k : Nat) : Bool :=
  if k < 128 then (h.qpair (d * 128 + k)).outstanding == 0 else h.nothingOutstanding (32 * d + (k - 128))

/-- The queues of a wait set. -/
def Hw.waitQueues (h : Hw) (d w : Nat) : List Nat :=
  (List.range 160).filter (bit (Store.get 0 h.waitSets (d * 32 + w)))

/-- A forced refresh has delayed the request that queue k waits for first (R190). -/
def Hw.headDelayed (h : Hw) (d k : Nat) : Bool :=
  let q := h.qpair (d * 128 + k)
  decide (k < 128) && (match q.resps, q.reqs with
    | r :: _, _ => r.delayed
    | [], r :: _ => r.delayed
    | [], [] => false)

/-- WAIT_TEST: the test course of a WAIT block on die d (R130, R131, R133, R190). -/
def execWaitTest (h : Hw) (d : Nat) : Hw :=
  match h.segAt d h.seq.pos with
  | none => h
  | some s =>
    h.once (.waitTest d) (h.execClock && decide (d < 2) && s.kind == 1 && s.pos == h.seq.pos) fun h =>
      let h := h.updSeq fun q => { q with waitTaken := q.waitTaken.filter fun k => k / 256 != d }
      let qs := h.waitQueues d s.wset
      let h := qs.foldl (fun h k =>
        if h.queueEmpty d k then h.hazard d 7 0 none k else h) h
      if qs.all (h.queueReady d) then h else
      let h := h.count (seqA d 0x48)
      let h := if h.bget (seqA d 0) 5 then h.raise (evWaitStall d) else h
      let h := if (qs.any fun k => !h.queueReady d k && h.headDelayed d k) then
        (h.count (farA d 0x2C)).raise (evRefreshIntruded d) else h
      let n := h.seq.reqNum % 16
      let r : StallReq := ⟨h.devIndex, n, min (h.seq.pos + h.seq.horizon) h.seq.schedLen, some (d, s.wset), h.seq.clk, false, false⟩
      (h.updSeq fun q => { q with stallReqs := q.stallReqs ++ [r], reqNum := q.reqNum + 1 }).sendSym .stallReq n

/-- Send the release of this module's requests that satisfy p. -/
def Hw.sendReleases (h : Hw) (p : StallReq → Bool) : Hw :=
  let due (r : StallReq) : Bool := r.own.isSome && !r.sent && p r
  let rs := h.seq.stallReqs.filter due
  let mark (r : StallReq) : StallReq := if due r then { r with sent := true } else r
  let h := h.updSeq fun s => { s with stallReqs := s.stallReqs.map mark }
  rs.foldl (fun h r => h.sendSym .release r.num) h

/-- Every queue of a request's wait set is ready. -/
def Hw.reqReady (h : Hw) (r : StallReq) : Bool :=
  match r.own with
  | some (d, w) => (h.waitQueues d w).all (h.queueReady d)
  | none => false

/-- STALL_RELEASE: the release is sent in the first course clock in which every queue is ready (R131). -/
def execStallRelease (h : Hw) : Hw := if h.seq.inFrame then h.sendReleases h.reqReady else h

/-- A request has been pending for WAIT_LIMIT course clocks; 0 acts as 1 (R134). -/
def Hw.reqExpired (h : Hw) (r : StallReq) : Bool :=
  match r.own with
  | some (d, _) => decide (max 1 (h.reg (seqA d 0x30)).toNat ≤ h.seq.clk - r.t0)
  | none => false

/-- WAIT_LIMIT_REACHED: the release is forced, and the frame is poisoned (R134). -/
def execWaitLimitReached (h : Hw) : Hw :=
  let rs := h.seq.stallReqs.filter fun r => !r.sent && h.reqExpired r
  let h := h.sendReleases h.reqExpired
  rs.foldl (fun h r => match r.own with
    | some (d, _) => h.raisePoison (evWaitTimeout d)
    | none => h) h

/-! ## Captures (R124 to R126) -/

/-- DEV_CAPTURE: the first course of a taken block with CAP, on the vector source (R125, R126). -/
def execDevCapture (h : Hw) : Hw :=
  match h.seq.vecSource with
  | none => h
  | some (d, t) =>
    match h.segAt d h.seq.pos with
    | none => h
    | some s =>
      h.once .dev (h.execClock && s.pos == h.seq.pos && s.cap != 0) fun h =>
        if h.seq.pos > h.seq.schedLen - h.seq.horizon ∨ h.seq.schedLen < h.seq.horizon then h.raise evDevLate
        else
          let v := (h.truss (trussIx d t)).outv
          let c : CapSym := ⟨if s.cap % 2 = 1 then some v else none, if s.cap ≥ 2 then some (fld v 3 0) else none,
            h.seq.clk + h.seq.horizon⟩
          let h := h.updSeq fun q => { q with caps := q.caps ++ [c] }
          ({ h with ports := h.ports.map fun kv =>
            if h.conf.treePorts.contains kv.1 then (kv.1, { kv.2 with txCaps := kv.2.txCaps ++ [c] }) else kv } : Hw).emit (.capture c)

/-- Captures whose effect clock has come are the values that wait for the tick (R126). -/
def Hw.applyCaps (h : Hw) : Hw :=
  let (due, rest) := h.seq.caps.partition fun c => decide (c.eff ≤ h.seq.clk)
  h.updSeq fun s => due.foldl (fun s c => { s with devNext := c.dev.getD s.devNext, altNext := c.alt.getD s.altNext })
    { s with caps := rest }

/-! ## Droop stretch (R140, R141) -/

/-- The array clock runs: RUN, no level-change gap, and a locked PLL. -/
def Hw.arrayClock (h : Hw) : Bool := h.pstate == 0 && h.seq.run != .levelChange && !h.seq.pllDead

/-- A stretch of this course clock within a frame is counted and told to the other modules (R140, R141). -/
def Hw.countStretch (h : Hw) : Hw :=
  let lag := (h.seq.clk :: h.seq.lagClks).filter fun c => decide (h.seq.clk < c + h.seq.horizon)
  let h := h.updSeq fun s => { s with
    stretches := s.stretches + 1, noted := s.noted + 1, lagClks := lag, stretchLog := (h.devIndex, s.clk) :: s.stretchLog }
  let h := h.sendSym .stretch 0
  if decide (lag.length > 8) && h.multi then h.raisePoison evDroopLag else h

/-- DROOP_DETECT: the guards of the named dies detect in this course clock (R140, R141). -/
def execDroopDetect (h : Hw) (d0 d1 : Bool) : Hw :=
  if !h.arrayClock || !(d0 || d1) then h else
  let h := if d0 then h.raise (evDroopStretch 0) else h
  let h := if d1 then h.raise (evDroopStretch 1) else h
  if h.seq.stretchedNow then h else
  let h := h.updSeq fun s => { s with stretchedNow := true, stretchDue := s.stretchDue + 1 }
  if h.seq.inFrame then h.countStretch else h

/-! ## Configuration symbols (R127, R131, R237, R240, Table 8.8) -/

/-- The level change that a start makes due at its first tick (R148, R149, R207). A request that a halt left due stays due.
Otherwise it is the requested level, at most P2 in checked mode, where another one is in force; while a throttle is in force, only
checked mode changes the level. -/
def Seq.startDue (s : Seq) (checked : Bool) : Option (Nat × Bool) :=
  if s.levelDue.isSome then s.levelDue
  else
    let l := if s.throttled then s.level else s.levelReq
    let l := if checked then max 2 l else l
    if l = s.level then none else some (l, s.throttled)

/-- HAZ_COUNT and CREDIT_OBS of both dies are cleared (R212). -/
def Hw.clearHazards (h : Hw) : Hw := h.clearRegs [seqA 0 0x88, seqA 0 0x8C, seqA 1 0x88, seqA 1 0x8C]

/-- A start under RUN_CTRL, on every module at its effect clock (R127, R142, R143). In TIMED mode the first tick waits for
frame-go. Checked mode begins with HAZ_COUNT and CREDIT_OBS clear (R212). -/
def Hw.runStart (h : Hw) (m : RunMode) (checked : Bool) : Hw :=
  if h.seq.run ≠ .held then h else
  let h := h.updSeq fun s => { s with
    run := .running, mode := m, checked := checked, starting := some (if s.deferred then 1 else 0)
    goSent := m = .timed && s.goSent, goEff := m != .timed, levelDue := s.startDue checked }
  if checked then h.clearHazards else h

/-- A halt at the end of the frame (R143, R461). -/
def Hw.haltAtEnd (h : Hw) (x : PendHalt) : Hw :=
  if h.seq.run = .running || h.seq.run = .halting then
    h.updSeq fun s => { s with run := .halting, halts := s.halts ++ [x] }
  else h

/-- What RUN_CTRL does at its effect clock (Table 8.8). -/
def Hw.runCtrl (h : Hw) (s : Sym) : Hw :=
  let op := s.arg % 8
  let checked := s.arg.testBit 5
  if op = 0 then h.runStart .free checked
  else if op = 1 then h.runStart .timed checked
  else if op = 2 then h.runStart .step checked
  else if op = 3 then h.haltAtEnd ⟨1, s.origin, s.sent, s.eff⟩
  else if op = 4 then h.requestLevel (s.arg / 8 % 4)
  else h

/-- A request for position S that reaches a module in slack beyond S: position S begins only after the release, so the slack
clocks since then were stall clocks, as they were on the module that sent the request (R131, R132). -/
def Seq.holdBack (s : Seq) (hold : Nat) : Seq :=
  if hold < s.pos then { s with stalls := s.stalls + (s.pos - hold), pos := hold } else s

/-- Stretch clocks that a module has inserted before course clock t, of the stretches `arr` that fell due at it: one a clock, the
one due in clock c after it (R140). -/
def stretchesBefore (arr : List Nat) (t : Nat) : Nat :=
  let sorted := (List.range arr.length).filterMap fun i =>
    (arr.zipIdx.find? fun a => (arr.zipIdx.filter fun b => decide (b.1 < a.1) || (b.1 == a.1 && decide (b.2 < a.2))).length == i).map (·.1)
  (sorted.foldl (fun (x : Nat × Nat) a => let d := max x.1 a + 1; (d, if d < t then x.2 + 1 else x.2)) (0, 0)).2

/-- When the stretches of the last 2H clocks fell due at module m: its own at once, another's H course clocks later (R127, R140). -/
def Seq.stretchesAt (s : Seq) (m : Nat) : List Nat := s.stretchLog.map fun x => if x.1 = m then x.2 else x.2 + s.horizon

/-- The position of another module H course clocks ago, in which it sent a stall request: this module's own there, less by how
many more stretch clocks the other had inserted by then (R131, R141). -/
def Seq.posThere (s : Seq) (own other : Nat) : Nat :=
  let t := s.clk - s.horizon
  s.posHist.getD (s.horizon - 1) 0 + stretchesBefore (s.stretchesAt own) t - stretchesBefore (s.stretchesAt other) t

/-- Frame-go tells a member the allowance of the frame, whatever its own FRAME_LEN (R137). One sent in course clock 0 of a TIMED
frame tells only that A is at most H. -/
def Hw.takeGo (h : Hw) : Hw :=
  h.updSeq fun q => { q with
    goEff := true
    allowance := if !q.inFrame || h.isHead then q.allowance
      else if q.mode = .timed && decide (q.fclk ≤ q.horizon) then min q.fclk q.allowance else q.fclk }

/-- A symbol takes effect. -/
def Hw.applySym (h : Hw) (s : Sym) : Hw :=
  match s.kind with
  | .frameGo => h.takeGo
  | .stallReq =>
    if s.origin = h.devIndex || !h.seq.inFrame then h else
    let p := h.seq.posThere h.devIndex s.origin
    let r : StallReq := ⟨s.origin, s.arg % 16, min (p + h.seq.horizon) h.seq.schedLen, none, h.seq.clk, false, false⟩
    h.updSeq fun q => { q.holdBack r.hold with stallReqs := q.stallReqs ++ [r] }
  | .release => h.updSeq fun q => { q with
      stallReqs := q.stallReqs.filter fun r => !(r.origin == s.origin && r.num == s.arg % 16) }
  | .stretch =>
    if s.origin = h.devIndex || !h.seq.inFrame then h
    else h.updSeq fun q => { q with
      stretchDue := q.stretchDue + 1, stretches := q.stretches + 1, noted := q.noted + 1
      stretchLog := (s.origin, s.sent) :: q.stretchLog }
  | .haltNow =>
    if h.seq.run = .running || h.seq.run = .halting then
      (h.updSeq fun q => { q with run := .stoppedMid, haltReason := s.arg % 16, inFrame := false, halts := []
                                  stallReqs := [], starting := none }).applySrc
    else h
  | .haltAtEnd => h.haltAtEnd ⟨s.arg % 16, s.origin, s.sent, s.eff⟩
  | .trigger => h.triggerSymbol s.origin (s.arg % 256)
  | .throttle => h.throttle (s.arg % 2 = 1)
  | .runCtrl => h.runCtrl s

/-- A symbol of one kind from one module takes effect now: the one that waits for its effect clock, or one that the
command itself brings. -/
def Hw.symbolNow (h : Hw) (k : SymKind) (origin arg : Nat) : Hw :=
  match h.seq.syms.find? fun s => s.kind == k && s.origin == origin && s.arg == arg with
  | some s => (h.updSeq fun q => { q with syms := q.syms.erase s }).applySym { s with eff := min s.eff h.seq.clk }
  | none => h.applySym ⟨k, arg, origin, h.seq.clk, h.seq.clk - h.seq.horizon⟩

def execFrameGo (h : Hw) (origin arg : Nat) : Hw := h.symbolNow .frameGo origin arg
def execStallReq (h : Hw) (origin arg : Nat) : Hw := h.symbolNow .stallReq origin arg
def execRelease (h : Hw) (origin arg : Nat) : Hw := h.symbolNow .release origin arg
def execStretch (h : Hw) (origin arg : Nat) : Hw := h.symbolNow .stretch origin arg
def execHaltNow (h : Hw) (origin arg : Nat) : Hw := h.symbolNow .haltNow origin arg
def execHaltAtEnd (h : Hw) (origin arg : Nat) : Hw := h.symbolNow .haltAtEnd origin arg
def execXtrig (h : Hw) (origin arg : Nat) : Hw := h.symbolNow .trigger origin arg
def execThrottle (h : Hw) (origin arg : Nat) : Hw := h.symbolNow .throttle origin arg
def execRunCtrl (h : Hw) (origin arg : Nat) : Hw := h.symbolNow .runCtrl origin arg

/-- Every symbol of the given kinds whose effect clock has come takes effect, oldest first (R127). -/
def Hw.applyKinds (h : Hw) (ok : SymKind → Bool) : Hw :=
  let (due, rest) := h.seq.syms.partition fun s => ok s.kind && decide (s.eff ≤ h.seq.clk)
  due.foldl (fun h s => h.applySym s) (h.updSeq fun q => { q with syms := rest })

/-- What takes effect before the tick of a course clock: the symbols but HALT_NOW, and the captures. -/
def Hw.applySyms (h : Hw) : Hw := (h.applyKinds fun k => k != .haltNow).applyCaps

/-- A boundary has gone into a level change, and its action 6 is still to come. -/
def Hw.inGap (h : Hw) : Bool :=
  h.seq.starting == some 2 || (h.seq.run = .levelChange && (match h.seq.levelChg with | some l => l.fromRunning | none => false))

/-- HALT_NOW follows the tick of its clock: it stops the frame that has begun (R28, R209). Where that tick goes into a level
change, the frame begins after the gap, and HALT_NOW stops it there. -/
def Hw.applyHaltNow (h : Hw) : Hw := if h.inGap then h else h.applyKinds fun k => k == .haltNow

/-! ## The end of a course clock -/

/-- The position of this clock ends when the clock executed it, and the counters of the frame and of the configuration
advance (R117, R133, R238). -/
def Hw.endClock (h : Hw) : Hw :=
  let kind := h.kindNow
  let h := if h.execClock then h.endPosition else h
  h.updSeq fun s =>
    let stretch := decide (0 < s.stretchDue)
    { s with
      posHist := if s.inFrame then (s.pos :: s.posHist).take 1023 else s.posHist
      pos := if s.inFrame && kind = .exec then s.pos + 1 else s.pos
      stalls := if s.inFrame && kind = .stall then s.stalls + 1 else s.stalls
      fclk := s.fclk + 1
      clk := s.clk + 1
      ticks := s.ticks + 1
      padClk := if s.starting = some 2 then s.padClk else s.padClk + 1
      stretchLog := s.stretchLog.filter fun x => decide (s.clk < x.2 + 2 * s.horizon)
      stretchNow := stretch, stretchDue := s.stretchDue - 1, stretchedNow := false, noted := 0 }

end Sys2Proof.Machine
end

