-- ==== Sys2Proof/Machine/Pool.lean ====
section
/-!
DEFINITION. Status codes of commands (Table 18.1), and the allocation of POOL: snapshot areas, the acquisition buffer and
the gutter (R177, R265, R365, R374, R463).
-/

namespace Sys2Proof.Machine

/-! ## Status codes (Table 18.1) -/

def stOk : Nat := 0x00
def stBusy : Nat := 0x01
def stNotReady : Nat := 0x02
def stBadCommand : Nat := 0x03
def stBadArgument : Nat := 0x04
def stLocked : Nat := 0x05
def stRefused : Nat := 0x06
def stMismatch : Nat := 0x07
def stTimeout : Nat := 0x08
def stDeviceAbsent : Nat := 0x09
def stNoResource : Nat := 0x0A
def stIntegrity : Nat := 0x0B

/-! ## POOL -/

/-- First MiB of die d above POOL (Table 6.9). -/
def poolTop : Nat := 48288

/-- Allocated MiB of die d's POOL. -/
def Hw.poolUsed (h : Hw) (d : Nat) : Nat :=
  (h.pool.filter fun a => a.die == d).foldl (fun n a => n + a.size) 0

/-- MiB of die d's POOL that staging takes (R265). -/
def Hw.stagedMib (h : Hw) (d : Nat) : Nat := match h.img.load with | some l => l.staged.getD d 0 | none => 0

/-- MiB of die d's allocated areas that lie at or above `lo`. -/
def Hw.usedAbove (h : Hw) (d lo : Nat) : Nat :=
  (h.pool.filter fun a => a.die == d).foldl (fun n a => n + (a.base + a.size - max a.base lo)) 0

/-- Free MiB of die d's POOL at or above `lo`. -/
def Hw.freeAbove (h : Hw) (d lo : Nat) : Nat := poolTop - lo - h.usedAbove d lo

/-- An allocated area of die d begins below MiB `top`. -/
def Hw.areaBelow (h : Hw) (d top : Nat) : Bool := h.pool.any fun a => a.die == d && decide (a.base < top)

/-- DESIGN_MIB of die d in the header of an image (Table 7.1). -/
def headDesign (head : List Byte) (d : Nat) : Nat := ofBytes ((head.drop (0x58 + 2 * d)).take 2)

/-- Lowest MiB of die d that an area may take: above the DESIGN region, and above that of a full image being loaded
(R265). -/
def Hw.poolFloor (h : Hw) (d : Nat) : Nat :=
  match h.img.load with
  | some l => if l.kind = 0 then max (h.designMib d) (headDesign l.head d) else h.designMib d
  | none => h.designMib d

/-- FAR.MAP.POOL_FREE_MIB follows the allocation (R194). -/
def Hw.noteFree (h : Hw) : Hw :=
  [0, 1].foldl (fun h d => h.fset (farA d 8) 31 16 (poolTop - h.designMib d - h.poolUsed d)) h

/-- Bases at which an area of `size` MiB fits on die d: the floor, and the ends of the allocated areas. -/
def Hw.fits (h : Hw) (d size : Nat) : List Nat :=
  let lo := h.poolFloor d
  let here := h.pool.filter fun a => a.die == d
  let cands := lo :: (here.map fun a => a.base + a.size)
  if poolTop - lo < h.usedAbove d lo + h.stagedMib d + size then []
  else cands.filter fun b => decide (lo ≤ b) && decide (b + size ≤ poolTop) &&
    here.all fun a => decide (b + size ≤ a.base) || decide (a.base + a.size ≤ b)

/-- Allocate an area on die d; where several places fit, which one is left open (a free value). None when none fits. -/
def Hw.allocate (h : Hw) (kind slot d size : Nat) : Option (Nat × Hw) :=
  match h.fits d size with
  | [] => none
  | b :: bs =>
    let (v, h) := h.takeFree
    let base := (b :: bs).getD (v.toNat % (bs.length + 1)) b
    some (base, ({ h with pool := h.pool ++ [⟨kind, slot, d, base, size⟩] } : Hw).noteFree)

/-- Free every area of a kind and slot. -/
def Hw.release (h : Hw) (kind slot : Nat) : Hw :=
  ({ h with pool := h.pool.filter fun a => !(a.kind == kind && a.slot == slot) } : Hw).noteFree

/-- The area is in use (R463). -/
def Hw.areaBusy (h : Hw) (kind slot : Nat) : Bool :=
  if kind = 1 then h.snap.capture.any (fun c => c.slot == slot) || h.snap.restore.any (fun r => r.1 == slot)
  else if kind = 2 then h.acqActive
  else h.bget (traceA 0) 0

def mibBytes (m : Nat) : Nat := m * 2 ^ 20

/-- Registers of an acquisition buffer of `size` MiB; 0 when there is none (R351, R463). -/
def Hw.setAcqBuffer (h : Hw) (d base size : Nat) : Hw :=
  (h.setReg64 (acqA 8) (BitVec.ofNat 64 (mibBytes base + d * 2 ^ 36))).setReg (acqA 0x10)
    (BitVec.ofNat 32 (mibBytes size / 16))

/-- TRACE.SINK.KIND, BASE and SIZE of a far-memory gutter (R365, R463). -/
def Hw.setGutter (h : Hw) (d base size : Nat) : Hw :=
  ((h.fset (traceA 4) 0 0 0).setReg64 (traceA 8) (BitVec.ofNat 64 (mibBytes base + d * 2 ^ 36))).setReg (traceA 0x10)
    (BitVec.ofNat 32 (mibBytes size / 16))

/-- The default gutter: 256 MiB at the top of die 0's POOL (R365). -/
def Hw.defaultGutter (h : Hw) : Hw :=
  ((({ h with pool := h.pool ++ [⟨3, 0, 0, poolTop - 256, 256⟩] } : Hw).noteFree).setGutter 0 (poolTop - 256) 256)

/-- A snapshot area of a slot: its place on both dies, empty (R374). -/
def Hw.allocSnap (h : Hw) (slot : Nat) (far : Bool) : Option (List Nat × Hw) :=
  let n (d : Nat) : Nat := areaMib far (h.designMib d)
  match h.allocate 1 slot 0 (n 0) with
  | none => none
  | some (b0, h) =>
    match h.allocate 1 slot 1 (n 1) with
    | none => none
    | some (b1, h) =>
      let ar : SnapArea := ⟨[mibBytes b0, mibBytes b1], far, [n 0, n 1]⟩
      let h := { h with snap := { h.snap with areas := Store.set none h.snap.areas slot (some ar) } }
      let h := h.setReg (snapSlotA slot 0) (BitVec.ofNat 32 (1 + (if far then 2 else 0)))
      some ([mibBytes b0, mibBytes b1], (h.setReg (snapSlotA slot 4) 0).setReg64 (snapSlotA slot 8) 0)

/-- Free what an allocation of the kind and slot holds, with the registers that name it. The trace settings stay as they
are: R463 names no value for them. -/
def Hw.freeArea (h : Hw) (kind slot : Nat) : Hw :=
  let h := h.release kind slot
  if kind = 1 then
    let h := { h with snap := { h.snap with areas := Store.set none h.snap.areas slot none } }
    ((h.setReg (snapSlotA slot 0) 0).setReg (snapSlotA slot 4) 0).setReg64 (snapSlotA slot 8) 0
  else if kind = 2 then h.setAcqBuffer 0 0 0 else h

/-- POOL_ALLOC of one area, after the test for BUSY: the old area is freed first. None when POOL lacks the space, and then
nothing is performed. A ring is zero where nothing has been written (Table 13.2), so a gutter is allocated zero. -/
def Hw.poolAlloc (h : Hw) (kind die slot : Nat) (far : Bool) (size : Nat) : Option (List Nat × Hw) :=
  let h := h.freeArea kind slot
  if kind = 1 then h.allocSnap slot far
  else match h.allocate kind slot die size with
    | none => none
    | some (b, h) =>
      let bases := if die = 0 then [mibBytes b, 0] else [0, mibBytes b]
      some (bases, if kind = 2 then h.setAcqBuffer die b size
        else (h.clearArea die (mibBytes b) 0 (mibBytes size / 8)).setGutter die b size)

end Sys2Proof.Machine
end

