-- ==== Sys2Proof/Machine/Image.lean ====
section
/-!
DEFINITION. Images: the header and the section directory (R257 to R263), the load (R264 to R267), the commit tests of
Tables 9.5 and 7.2 (R196 to R198, R268) and the apply actions of Table 9.6 (R269 to R272).
-/

namespace Sys2Proof.Machine

/-! ## Fields -/

/-- Little-endian field of n bytes at offset o. -/
def imgField (bs : List Byte) (o n : Nat) : Nat := ofBytes ((bs.drop o).take n)

/-- A directory entry (Table 9.2) with its section's bytes. -/
structure Sect where
  type : Nat
  die : Nat
  rsv : Nat
  param : Nat
  offset : Nat
  size : Nat
  target : Nat
  body : List Byte
deriving DecidableEq, Repr

/-- Directory entry i of an image (R259). -/
def sectAt (bs : List Byte) (i : Nat) : Sect :=
  let o := imgField bs 0x20 4 + 32 * i
  let off := imgField bs (o + 8) 8
  let size := imgField bs (o + 0x10) 8
  ⟨imgField bs o 2, imgField bs (o + 2) 1, imgField bs (o + 3) 1, imgField bs (o + 4) 4, off, size,
    imgField bs (o + 0x18) 8, (bs.drop off).take size⟩

def sectsOf (bs : List Byte) : List Sect := (List.range (imgField bs 0x24 2)).map (sectAt bs)

/-- First truss and count of a truss range (R260). -/
def Sect.t0 (s : Sect) : Nat := s.param % 512
def Sect.n (s : Sect) : Nat := s.param / 2 ^ 16 % 1024

/-! ## Identification (R258) -/

/-- The identification fields hold accepted values. -/
def Hw.identOk (h : Hw) (b : List Byte) : Bool :=
  let kind := imgField b 5 1
  let bay := imgField b 9 1
  let flags := imgField b 0xC 1
  imgField b 0 4 == 0x49365846 && imgField b 4 1 == 0xF6 && decide (kind ≤ 1) && imgField b 6 2 == 0x6400 &&
  imgField b 8 1 == h.devIndex && (if kind = 1 then decide (bay < 32) else bay == 0) && imgField b 0xA 2 == 1 &&
  (if kind = 1 then decide (flags ≤ 1) else flags == 0) && imgField b 0xD 3 == 0 &&
  (if kind = 1 then (match h.img.loaded with | some l => imgField b 0x10 8 == l.configId.toNat | none => false) else true) &&
  decide (0x104 ≤ imgField b 0x18 8) && imgField b 0x18 8 % 4 == 0 &&
  decide (0x100 ≤ imgField b 0x20 4) && imgField b 0x20 4 % 64 == 0 &&
  decide (1 ≤ imgField b 0x24 2) && decide (imgField b 0x24 2 ≤ 4096) &&
  imgField b 0x26 2 == 0 && imgField b 0x30 16 == 0

/-! ## Sections (R259, R260) -/

/-- SIZE of one truss's part of a truss-range section. -/
def trussPart (type : Nat) : Nat := if type = 1 then 933888 else if type = 2 then 1024 else 16384

/-- PARAM, TARGET, SIZE and fixed content of a section of a listed type (Table 9.3). -/
def sectShape (head : List Byte) (s : Sect) : Bool :=
  if s.type = 1 ∨ s.type = 2 ∨ s.type = 3 then
    s.param / 2 ^ 9 % 2 ^ 7 == 0 && decide (s.param < 2 ^ 26) && decide (1 ≤ s.n) && decide (s.n ≤ 512) &&
      decide (s.t0 + s.n ≤ 512) && s.target == 0 && s.size == s.n * trussPart s.type
  else if s.type = 4 then
    decide (s.param < 64) && s.size % 8 == 0 && decide (s.target + s.size / 8 ≤ 32768)
  else if s.type = 5 then
    s.param == 0 && s.target % 64 == 0 && s.size % 64 == 0 &&
      decide (s.target + s.size ≤ headDesign head s.die * 2 ^ 20)
  else if s.param ≠ 0 ∨ s.target ≠ 0 then false
  else if s.type = 6 then s.size == 3136
  else if s.type = 7 then s.size % 4 == 0
  else s.size == 128 && (s.body.drop 64).all (· == 0)

/-- A section meets R259 and R260, given the entries before it. -/
def sectOk (bs : List Byte) (before : List Sect) (i : Nat) (s : Sect) : Bool :=
  let len := imgField bs 0x18 8
  let dirEnd := imgField bs 0x20 4 + 32 * imgField bs 0x24 2
  decide (imgField bs 0x20 4 + 32 * (i + 1) ≤ len - 4) &&
  s.rsv == 0 && decide (s.die ≤ 1) && s.offset % 64 == 0 && decide (dirEnd ≤ s.offset) &&
  decide (s.offset + s.size ≤ len - 4) &&
  (decide (0x8000 ≤ s.type) || (decide (1 ≤ s.type) && decide (s.type ≤ 8) && sectShape bs s)) &&
  before.all fun r => r.size == 0 || s.size == 0 || decide (r.offset + r.size ≤ s.offset) || decide (s.offset + s.size ≤ r.offset)

/-- Index of the first section, with those before it, that fails a test. -/
def firstBad (ok : List Sect → Nat → Sect → Bool) : List Sect → Nat → List Sect → Option Nat
  | _, _, [] => none
  | before, i, s :: rest => if ok before i s then firstBad ok (before ++ [s]) (i + 1) rest else some i

/-! ## Flashing entries (R115, R274, R275, R503) -/

/-- The batten cell on incoming batten (side, j) of truss t of die d, when it has one: its ends lie in different bays, or
an Eave slot or the bridge feeds it (R115). -/
def battenHasCell (d t side j : Nat) : Bool :=
  match battenFrom d t side j with
  | some (sd, st, _, _) => sd != d || bayOf st != bayOf t
  | none => (eaveSlot d t side j).isSome

/-- Cell key that a flashing entry of die d's section names; none when the entry is at fault (R275, R503). -/
def flashCell (d : Nat) (e : Word32) : Option Nat :=
  let kind := fld e 1 0
  let t := fld e 12 4
  let side := fld e 14 13
  let ix := fld e 18 15
  let port := fld e 22 19
  let slot := fld e 29 23
  if kind = 3 ∨ fld e 3 2 = 3 ∨ fld e 31 30 ≠ 0 then none
  else if kind = 2 then
    if t ≠ 0 ∨ side ≠ 0 ∨ ix ≠ 0 ∨ port / 6 ≠ d ∨ 96 ≤ slot then none else some (eaveCell port slot)
  else if port ≠ 0 ∨ slot ≠ 0 then none
  else if kind = 1 then
    if 8 ≤ ix then none else
    let seg := purlinOf t ix
    if seg.any fun u => bayOf u != bayOf t then
      some (purlCell d ((seg.filter fun u => bayOf u == bayOf t).headD t) ix)
    else none
  else if 12 ≤ ix then none
  else
    let rd := if d = 0 ∧ side = 0 ∧ t < 32 then 1 else if d = 1 ∧ side = 2 ∧ 480 ≤ t then 0 else d
    if rd = d ∧ ((d = 1 ∧ side = 0 ∧ t < 32) ∨ (d = 0 ∧ side = 2 ∧ 480 ≤ t)) then none
    else if battenHasCell rd t side ix then some (battenCell rd t (side * 12 + ix)) else none
where
  purlinOf (t p : Nat) : List Nat := purlSegment t p

/-- The module bay whose contribution a cell replaces when it isolates it (R274); none for a cell whose value comes from
another module. -/
def cellBay (key : Nat) : Option Nat :=
  if 2 ^ 21 ≤ key then
    let T := (key - 2 ^ 21) / 8
    some (T / 512 * 16 + bayOf (T % 512))
  else if 2 ^ 20 ≤ key then
    let p := (key - 2 ^ 20) / 96
    let (d, t, _, _) := slotEnds p ((key - 2 ^ 20) % 96)
    some (d * 16 + bayOf t)
  else
    let T := key / 48
    let n := key % 48
    match battenFrom (T / 512) (T % 512) (n / 12) (n % 12) with
    | some (sd, st, _, _) => some (sd * 16 + bayOf st)
    | none => none

/-- Entries of a FLASHING section. -/
def flashEntries (s : Sect) : List Word32 :=
  (List.range (s.size / 4)).map fun i => BitVec.ofNat 32 (imgField s.body (4 * i) 4)

/-- Cells that a section names, as far as its entries are sound. -/
def flashCells (s : Sect) : List Nat := if s.type = 7 then (flashEntries s).filterMap (flashCell s.die) else []

/-- No value stands twice in a list. -/
def noRepeat : List Nat → Bool
  | [] => true
  | x :: xs => !xs.contains x && noRepeat xs

/-- The entries of a FLASHING section meet R275, given the sections before it; in a bay image each cell isolates the bay. -/
def flashOk (before : List Sect) (bay : Option Nat) (s : Sect) : Bool :=
  let cells := (flashEntries s).map (flashCell s.die)
  let earlier := before.flatMap flashCells
  cells.all Option.isSome &&
    (flashCells s).all (fun k => !earlier.contains k && (match bay with | some b => cellBay k == some b | none => true)) &&
    noRepeat (flashCells s)

/-! ## Coverage (R261, R262) -/

/-- Two ranges of first elements a, b and lengths n, m have an element in common. -/
def rangesMeet (a n b m : Nat) : Bool := decide (0 < n) && decide (0 < m) && decide (a < b + m) && decide (b < a + n)

/-- Two sections cover one truss, bank word or far-memory line twice. -/
def coverTwice (r s : Sect) : Bool :=
  r.type == s.type && r.die == s.die &&
    (if s.type ≤ 3 then rangesMeet r.t0 r.n s.t0 s.n
     else if s.type = 4 then r.param == s.param && rangesMeet r.target (r.size / 8) s.target (s.size / 8)
     else s.type == 5 && rangesMeet r.target r.size s.target s.size)

/-- A section of a full image meets R261, given those before it. -/
def fullSectOk (before : List Sect) (_ : Nat) (s : Sect) : Bool :=
  if 0x8000 ≤ s.type then true
  else !before.any (coverTwice · s) &&
    (if s.type = 6 ∨ s.type = 7 ∨ s.type = 8 then !before.any fun r => r.type == s.type && r.die == s.die else true) &&
    (if s.type = 7 then flashOk before none s else true)

def sectTrusses (s : Sect) : List Nat := (List.range s.n).map (s.t0 + ·)

/-- A section of an image of module bay B meets R262, given those before it. -/
def baySectOk (B flags : Nat) (before : List Sect) (_ : Nat) (s : Sect) : Bool :=
  if 0x8000 ≤ s.type then true
  else s.die == B / 16 && !(decide (s.type ≤ 2) && before.any (coverTwice · s)) &&
    (if s.type ≤ 3 then (sectTrusses s).all (fun t => bayOf t == B % 16) && (s.type != 3 || flags == 1)
     else if s.type = 4 then bayOf (homeTruss s.param) == B % 16
     else s.type == 7 && flashOk before (some B) s)

/-- Trusses of die-local bay b. -/
def bayTrusses (b : Nat) : List Nat := (List.range 512).filter fun t => bayOf t == b

/-- The sections together hold what KIND requires. -/
def coverAll (bs : List Byte) (ss : List Sect) : Bool :=
  if imgField bs 5 1 = 0 then
    [0, 1].all fun d => [6, 8].all fun ty => ss.any fun s => s.type == ty && s.die == d
  else [1, 2].all fun ty => (bayTrusses (imgField bs 9 1 % 16)).all fun t =>
    ss.any fun s => s.type == ty && (sectTrusses s).contains t

/-! ## CRC-32 (R263) -/

/-- CRC-32 of the reflected polynomial 0xEDB88320, over bytes. -/
def imgCrc (bs : List Byte) : Word32 :=
  ~~~ (bs.foldl (fun crc v =>
    (List.range 8).foldl (fun (c : Word32) _ => if bit c 0 then (c >>> (1 : Nat)) ^^^ 0xEDB88320#32 else c >>> (1 : Nat))
      (crc ^^^ v.setWidth 32)) (0xFFFFFFFF#32))

/-! ## Checks 2 to 5 (R196 to R198, R120) -/

/-- The fields of Table 7.1 in order: offset, size, and whether a value is accepted given the header. -/
def assumeFields : List (Nat × Nat × (List Byte → Nat → Bool)) :=
  [(0x40, 1, fun _ v => decide (1 ≤ v) && decide (v ≤ 3)),
   (0x41, 1, fun _ v => decide (v < 8)),
   (0x42, 2, fun b v => decide (v ≤ 511) && ((imgField b 0x41 1).testBit 1 || v == 0)),
   (0x44, 2, fun _ v => decide (1 ≤ v)),
   (0x46, 2, fun _ v => decide (8 ≤ v) && decide (v ≤ 1023)),
   (0x48, 4, fun _ v => decide (v < 2 ^ 24)),
   (0x4C, 4, fun _ v => v == 0),
   (0x58, 2, fun _ v => decide (v ≤ 48288)), (0x5A, 2, fun _ v => decide (v ≤ 48288)),
   (0x5C, 2, fun _ v => decide (v ≤ 384)), (0x5E, 2, fun _ v => decide (v ≤ 384)),
   (0x60, 2, fun _ v => decide (v ≤ 4096)), (0x62, 2, fun _ v => decide (v ≤ 4096)),
   (0x64, 1, fun _ v => decide (v ≤ 31)), (0x65, 1, fun _ v => decide (v ≤ 31)), (0x66, 1, fun _ v => decide (v ≤ 31)),
   (0x67, 1, fun _ v => v == 3), (0x68, 1, fun _ v => v == 4), (0x69, 1, fun _ v => v == 0),
   (0x6A, 2, fun _ v => decide (v ≤ 511))] ++
  ((List.range 24).map fun i => (0x6C + 2 * i, 2, fun _ v => decide (v ≤ 511))) ++
  [(0x9C, 36, fun _ v => v == 0)]

/-- Offset of the first field that fails check 3. -/
def rangeFault (b : List Byte) : Option Nat :=
  (assumeFields.find? fun f => !f.2.2 b (imgField b f.1 f.2.1)).map (·.1)

/-- Offset and native value of the first field that fails check 4. -/
def Hw.latencyFault (h : Hw) (b : List Byte) : Option (Nat × Nat) :=
  let (lb, lm, lw, lf) := nativeLat h.stepping
  ([(0x64, 1, lb), (0x65, 1, lm), (0x66, 1, lw), (0x6A, 2, lf)].find? fun f => decide (imgField b f.1 f.2.1 < f.2.2)).map
    fun f => (f.1, f.2.2)

/-- A block entry meets R120. -/
def blockOk (e : Word64) : Bool :=
  let kres := if eCond e = 0 ∧ eKind e ≠ 2 then eK e
    else if eCond e = 2 ∨ (eKind e = 2 ∧ eCond e ≠ 1) then eK e / 16 else 0
  decide (eStart e + eLen e ≤ 2048) && (eLen e != 0 || eKind e == 2) && eKind e != 3 && eCond e != 3 && kres == 0 &&
    fld e 63 42 == 0

/-- A FRAME_PLAN section meets R120. -/
def planOk (s : Sect) : Bool :=
  ((List.range 256).all fun b => blockOk (BitVec.ofNat 64 (imgField s.body (8 * b) 8))) &&
  ((List.range 16).all fun e => decide (imgField s.body (2048 + 4 * e) 4 < 256))

/-! ## The commit tests (R197, R198, R268, R458) -/

/-- What the tests of a commit find: status, LAST_CHECK, and the named field, native value and directory entry. -/
structure Verdict where
  status : Nat
  check : Nat := 0
  off : Nat := 0xFFFF
  native : Nat := 0
  entry : Nat := 0xFFFFFFFF
deriving DecidableEq, Repr

/-- The reply of IMAGE_COMMIT (R458). -/
def Verdict.reply (v : Verdict) : List Byte :=
  bytesOf 2 v.check ++ bytesOf 2 v.off ++ bytesOf 4 v.native ++ bytesOf 4 v.entry

/-- Blocks of an image of a length. -/
def blockCount (len : Nat) : Nat := (len + 65535) / 65536

/-- The whole image, when every block has been received. -/
def ImgLoad.whole (l : ImgLoad) : Option (List Byte) :=
  if (List.range (blockCount l.length)).all fun i => l.blocks.any fun kv => kv.1 == i then
    some (l.blocks.flatMap (·.2))
  else none

/-- The tests of an open load (Tables 9.5 and 7.2). -/
def Hw.verdict (h : Hw) (l : ImgLoad) : Verdict :=
  match l.whole with
  | none => { status := stIntegrity, check := 1 }
  | some bs =>
    let n := l.length - 4
    if (imgCrc (bs.take n)).toNat ≠ imgField bs n 4 then { status := stIntegrity, check := 2 }
    else if bs.take 256 ≠ l.head then { status := stIntegrity, check := 3 }
    else if !h.identOk bs || imgField bs 0xC0 64 != 0 then { status := stRefused, check := 4 }
    else
      let ss := sectsOf bs
      match firstBad (sectOk bs) [] 0 ss with
      | some i => { status := stRefused, check := 5, entry := i }
      | none =>
        let ok := if l.kind = 0 then fullSectOk else baySectOk l.bay (imgField bs 0xC 1)
        match firstBad ok [] 0 ss with
        | some i => { status := stRefused, check := 6, entry := i }
        | none =>
          if !coverAll bs ss then { status := stRefused, check := 6 }
          else if l.kind = 1 && (match h.img.loaded with
              | some o => (o.head.drop 0x40).take 128 != (bs.drop 0x40).take 128 | none => true) then
            { status := stMismatch, check := 7 }
          else if !(imgField bs 0x40 1).testBit (if h.stepping = .a1 then 0 else 1) then { status := stRefused, check := 12 }
          else match rangeFault bs with
          | some o => { status := stRefused, check := 13, off := o }
          | none => match h.latencyFault bs with
            | some (o, v) => { status := stMismatch, check := 14, off := o, native := v }
            | none =>
              if l.kind = 0 && !(ss.filter fun s => s.type == 6).all planOk then { status := stRefused, check := 15 }
              else { status := stOk }

/-! ## The load (R264 to R267) -/

/-- The module cannot provide the staging of an image (R265), given its header and LENGTH. -/
def Hw.noStaging (h : Hw) (head : List Byte) (length : Nat) : Bool :=
  if imgField head 5 1 = 0 then
    let room := 1536 + h.freeAbove 0 (max (h.designMib 0) (headDesign head 0)) +
      h.freeAbove 1 (max (h.designMib 1) (headDesign head 1))
    decide (mibBytes room < length) || h.areaBelow 0 (headDesign head 0) || h.areaBelow 1 (headDesign head 1)
  else
    let d := imgField head 9 1 / 16
    decide (mibBytes (h.freeAbove d (h.designMib d)) < length)

/-- MiB of POOL that the staging takes on each die: a full image first fills the IMAGE_SAVE regions. -/
def Hw.stagingOf (h : Hw) (head : List Byte) (length : Nat) : List Nat :=
  let mib := (length + 2 ^ 20 - 1) / 2 ^ 20
  if imgField head 5 1 = 0 then
    let rest := mib - 1536
    let f0 := h.freeAbove 0 (max (h.designMib 0) (headDesign head 0))
    [min rest f0, rest - f0]
  else if imgField head 9 1 < 16 then [mib, 0] else [0, mib]

/-- IMAGE_BEGIN's own tests and effect (R264): the status, and the load opened. -/
def Hw.imageBegin (h : Hw) (length : Nat) (head : List Byte) : Nat × Hw :=
  let kind := imgField head 5 1
  if h.img.load.isSome || h.img.bay.isSome || (kind == 0 && h.snapHolds) then (stBusy, h)
  else if imgField head 0x18 8 ≠ length then (stBadArgument, h)
  else if !h.identOk head then (stRefused, h)
  else if h.noStaging head length then (stNoResource, h)
  else
    let l : ImgLoad := ⟨kind, imgField head 9 1, length, head, [], .receiving, h.stagingOf head length⟩
    (stOk, { h with img := { h.img with load := some l } })

/-- Bytes that a block at an offset holds (R266). -/
def blockLen (length off : Nat) : Nat := min 65536 (length - off)

/-- IMAGE_BLOCK stores a block of the right length (R266). -/
def Hw.imageBlock (h : Hw) (off : Nat) (bytes : List Byte) : Hw :=
  match h.img.load with
  | some l => { h with img := { h.img with load := some { l with blocks := Store.set [] l.blocks (off / 65536) bytes } } }
  | none => h

/-- Distinct blocks received: IMG_RECV. -/
def Hw.imgRecv (h : Hw) : Nat := match h.img.load with | some l => l.blocks.length | none => 0

/-- OFFSET of the lowest block not yet received; LENGTH when every block is held, 0 when no load is open. -/
def Hw.lowestMissing (h : Hw) : Nat :=
  match h.img.load with
  | some l => match (List.range (blockCount l.length)).find? fun i => !l.blocks.any fun kv => kv.1 == i with
    | some i => i * 65536
    | none => l.length
  | none => 0

/-- HUB.IMG_STAT (R286). -/
def Hw.imgStat (h : Hw) : Word32 :=
  let (ph, kind, bay) := match h.img.load with
    | some l => ((match l.phase with | .receiving => 1 | .checking => 2 | .applying => 3), l.kind, l.bay)
    | none => (0, 0, 0)
  BitVec.ofNat 32 (ph + 2 ^ 2 * kind + 2 ^ 3 * (if kind = 1 then bay else 0) + 2 ^ 8 * h.img.lastStatus +
    2 ^ 16 * h.img.lastCheck + (if h.img.loaded.isSome then 2 ^ 24 else 0))

/-- The load closes, and its staging with it (R265, R267). -/
def Hw.closeLoad (h : Hw) : Hw := { h with img := { h.img with load := none, applyPending := false } }

/-- LOAD_TIMEOUT: 60 s without activity close the load (R267). -/
def execLoadTimeout (h : Hw) : Hw :=
  match h.img.load with
  | some l => if l.phase = .receiving then h.closeLoad else h
  | none => h

/-! ## Applying a full image (R269, R270) -/

/-- Rows of one COURSE_ROWS section, as truss, row and stored row (Table 9.3, R52). -/
def rowsOf (s : Sect) : List (Nat × Nat × Row) :=
  (sectTrusses s).flatMap fun t => (List.range 2048).map fun r =>
    let bytes := (s.body.drop (933888 * (t - s.t0) + 456 * r)).take 456
    let v : BitVec 3648 := BitVec.ofNat 3648 (ofBytes bytes)
    (t, r, rowEncode ((List.range 64).map fun i => v.extractLsb' (48 * i) 48) (v.extractLsb' 3072 576))

/-- Write the course rows and bundle entries of sections (Table 9.6, action 3). -/
def Hw.writeRows (h : Hw) (ss : List Sect) : Hw :=
  ss.foldl (fun h s =>
    if s.type = 1 then (rowsOf s).foldl (fun h x => h.setRow (trussIx s.die x.1) x.2.1 x.2.2) h
    else if s.type = 2 then
      (sectTrusses s).foldl (fun h t => (List.range 256).foldl (fun h e =>
        h.setBundle (trussIx s.die t) e
          (bundleEncode (BitVec.ofNat 32 (imgField s.body (1024 * (t - s.t0) + 4 * e) 4)))) h) h
    else h) h

/-- Write the loft words of the LOFT_INIT sections (action 4). -/
def Hw.writeLofts (h : Hw) (ss : List Sect) : Hw :=
  (ss.filter fun s => s.type == 3).foldl (fun h s =>
    (sectTrusses s).foldl (fun h t => (List.range 2048).foldl (fun h w =>
      h.setLoft (trussIx s.die t) w
        (decEncode (BitVec.ofNat 64 (imgField s.body (16384 * (t - s.t0) + 8 * w) 8)))) h) h) h

/-- Write the words of one bank preload. -/
def Hw.writeBankPre (h : Hw) (s : Sect) : Hw :=
  (List.range (s.size / 8)).foldl (fun h i =>
    h.setBankWord (64 * s.die + s.param) (s.target + i) (BitVec.ofNat 64 (imgField s.body (8 * i) 8))) h

/-- One word of a far-memory preload, which covers whole lines: the line counts as written (R192). -/
def Hw.preloadFar (h : Hw) (d a : Nat) (v : Word64) : Hw :=
  { h with farMem := Store.set 0 h.farMem (farKey d a) (decEncode v)
           farValid := Store.set false h.farValid (lineKey d a) true }

/-- Bank and far-memory preloads (action 5). -/
def Hw.writePreloads (h : Hw) (ss : List Sect) : Hw :=
  ss.foldl (fun h s =>
    if s.type = 4 then h.writeBankPre s
    else if s.type = 5 then (List.range (s.size / 8)).foldl (fun h i =>
      h.preloadFar s.die (s.target / 8 + i) (BitVec.ofNat 64 (imgField s.body (8 * i) 8))) h
    else h) h

/-- One die's frame plan (R154, action 6). Bits [255:160] of a wait set are zero (R121). -/
def Hw.writePlan (h : Hw) (s : Sect) : Hw :=
  let f (o n : Nat) : Nat := imgField s.body o n
  { h with
    plan := (List.range 256).foldl (fun m b => Store.set 0 m (s.die * 256 + b) (BitVec.ofNat 64 (f (8 * b) 8))) h.plan
    ptable := (List.range 16).foldl (fun m e => Store.set 0 m (s.die * 16 + e) (f (2048 + 4 * e) 4)) h.ptable
    waitSets := (List.range 32).foldl (fun m w =>
      Store.set 0 m (s.die * 32 + w) (BitVec.ofNat 256 (f (2112 + 32 * w) 20))) h.waitSets }

/-- Settings of the listed flashing cells. -/
def flashSettings (ss : List Sect) : List (Nat × Nat) :=
  (ss.filter fun s => s.type == 7).flatMap fun s =>
    (flashEntries s).filterMap fun e => (flashCell s.die e).map fun k => (k, fld e 3 2)

/-- Frame plans, flashing settings, pinned latencies and the fields that the header sets (action 6, R199). -/
def Hw.writeHeader (h : Hw) (bs : List Byte) (ss : List Sect) : Hw :=
  let f (o n : Nat) : Nat := imgField bs o n
  let h : Hw := { h with plan := [], ptable := [], waitSets := [], flash := Store.setAll 0 [] (flashSettings ss)
                         flashHeld := [] }
  let h := (ss.filter fun s => s.type == 6).foldl (fun h s => h.writePlan s) h
  let h := [0, 1].foldl (fun h d =>
    (((h.fset (bridgeA d 0) 12 8 (f 0x64 1)).fset (bankA d 0x100) 20 16 (f 0x65 1)).fset (bankA d 0x100) 28 24
      (f 0x66 1)).fset (farA d 0) 24 16 (f 0x6A 2)) h
  let h := (List.range 12).foldl (fun h p =>
    let v := f (0x84 + 2 * p) 2
    h.fset (eaveA p 0x100) 8 0 (if v = 0 then 160 else v)) h
  let h := [0, 1].foldl (fun h d => (h.setReg (seqA d 0x10) (BitVec.ofNat 32 (f 0x48 4))).fset (farA d 8) 15 0 (headDesign bs d))
    { h with rwf := Store.keep (fun a => a != seqA 0 0x10 && a != seqA 1 0x10) h.rwf }
  let src := (f 0x41 1).testBit 1
  let dev : Word64 := BitVec.ofNat 64 (f 0x50 8)
  (h.noteFree).updSeq fun s => { s with
    schedLen := f 0x44 2, horizon := f 0x46 2
    vecSource := if src then some ((if (f 0x41 1).testBit 2 then 1 else 0), f 0x42 2) else none
    vecTruss := f 0x42 2
    dev := dev, devNext := dev, alt := 0, altNext := 0 }

/-- Counters that action 7 and an image load clear, with the marks and the phases of the bays (R153, R175, R194, R336, R358,
R386). -/
def Hw.clearAtLoad (h : Hw) : Hw :=
  let h := h.clearRegs (((List.range 8).map fun n => callsA (0x10 + 4 * n)) ++
    ((List.range 4).map fun n => probeA (0x40 + 4 * n)) ++ [0x20C])
  [0, 1].foldl (fun h d =>
    h.clearRegs (((List.range 4).map fun n => seqA d (0x48 + 4 * n)) ++ [bankA d 0x108, bankA d 0x10C, bankA d 0x110] ++
      ((List.range 8).map fun n => farA d (0x10 + 4 * n)) ++ ((List.range 16).map fun k => scrubA d (0x40 + 4 * k)) ++
      [trussA d 0x100])) h

/-- Directions and initial outputs of PORT_MAP (action 9). -/
def Hw.writePortMap (h : Hw) (s : Sect) : Hw :=
  (List.range 8).foldl (fun h i =>
    let b := 8 * s.die + i
    (h.setReg (userioA (0x40 + 4 * b)) (BitVec.ofNat 32 (imgField s.body (8 * i) 4))).setReg (userioA (0x80 + 4 * b))
      (BitVec.ofNat 32 (imgField s.body (8 * i + 4) 4))) h

/-- Action 1: outputs high impedance, the scrubber stops, every bank LOADER, and the state of Table 9.7, with what a load
clears elsewhere: calls (R335) and acquisitions (R355). -/
def Hw.applyStart (h : Hw) : Hw :=
  let h := ((h.acqAbort.clearCalls).clearRegs ((List.range 16).map fun b => userioA (0x40 + 4 * b))).allBanks 1
  let phase (l : ImgLoad) : ImgLoad := { l with phase := .applying }
  let h : Hw := { h with
    scrubSince := [], scrubSlots := [], ioOut := [], done := keepMarks h.done
    img := { h.img with loaded := none, bay := none, load := h.img.load.map phase } }
  h.updSeq fun s => { s with
    run := .empty, inFrame := false, starting := none, halts := [], stallReqs := [], levelChg := none, levelDue := none
    poisoned := false, path := [[], []], syms := [], caps := [] }

/-- Action 2: the array's contents are gone. -/
def Hw.unloadArray (h : Hw) : Hw :=
  { h with
    trusses := [], banks := [], portWords := [], bridgeErr := [], probeIn := []
    lofts := [], bankMem := [], bankValid := [], farValid := [], farWb := [] }

/-- Action 9: the directions and initial outputs of PORT_MAP, HELD with frame number 0, LOADED, and SYNC in the trace; probe
groups keep nothing of the earlier design (R337). -/
def Hw.applyEnd (h : Hw) (bs : List Byte) (ss : List Sect) : Hw :=
  let h := (ss.filter fun s => s.type == 8).foldl (fun h s => h.writePortMap s) h
  let h := h.updSeq fun s => { s with run := .held, frame := 0, deferred := false, haltReason := 0, credits := [[], []] }
  let l : Loaded := ⟨bs.take 256, BitVec.ofNat 64 (imgField bs 0x10 8)⟩
  let h := { h with
    img := { h.img with loaded := some l, load := none, unformed := true, applyPending := false, actions := 0
                        markOverflow := false }
    acq := { h.acq with groups := [], force := [] }
    snap := { h.snap with bayGen := 0 } }
  h.syncIfOn 4

/-- Action n of Table 9.6 on an image. -/
def Hw.applyAction (h : Hw) (bs : List Byte) (n : Nat) : Hw :=
  let ss := sectsOf bs
  let h : Hw := { h with img := { h.img with actions := n } }
  if n = 1 then h.applyStart
  else if n = 2 then h.unloadArray
  else if n = 3 then ({ h with rows := [], bundles := [], support := [] } : Hw).writeRows ss
  else if n = 4 then h.writeLofts ss
  else if n = 5 then h.writePreloads ss
  else if n = 6 then h.writeHeader bs ss
  else if n = 7 then h.clearAtLoad
  else if n = 8 then
    [0, 1].foldl (fun h d => h.setReg (scrubA d 4) 0) ({ h.allBanks 0 with qpairs := [] } : Hw)
  else h.applyEnd bs ss

/-- The actions that have not been performed. -/
def Hw.applyRest (h : Hw) (bs : List Byte) : Hw :=
  ((List.range 9).drop h.img.actions).foldl (fun h n => h.applyAction bs (n + 1)) h

/-- An image that passed its tests is applied once no frame runs (R269). -/
def Hw.applyWith (h : Hw) (f : List Byte → Hw → Hw) : Hw :=
  match h.img.load with
  | some l =>
    match l.whole with
    | some bs => if h.img.applyPending && !h.busy then f bs h else h
    | none => h
  | none => h

/-- IMAGE_APPLY: the image is applied to its end (R270). -/
def execImageApply (h : Hw) : Hw := h.applyWith fun bs h => h.applyRest bs

/-- The next action of an image that is being applied. -/
def Hw.applyNext (h : Hw) : Hw := h.applyWith fun bs h => h.applyAction bs (h.img.actions + 1)

/-! ## IMAGE_COMMIT (R267 to R270, R276) -/

/-- The tests of IMAGE_COMMIT on the open load, and what follows from them: a refused load closes; a full image begins to be
applied at once, or after a halt that the head makes; a bay image starts its reload. The Boolean says that the reply waits:
for action 9. -/
def Hw.imageCommit (h : Hw) (l : ImgLoad) : Verdict × Bool × Hw :=
  let v := h.verdict l
  let h : Hw := { h with img := { h.img with lastStatus := v.status, lastCheck := v.check } }
  if v.status ≠ stOk then
    let h := if v.check = 14 then h.raise evLatencyMismatch else h
    (v, false, h.closeLoad)
  else match l.whole with
  | none => (v, false, h)
  | some bs =>
    if l.kind = 1 then
      (v, false, { h with img := { h.img with load := none, bay := some ⟨l.bay, bs, 0, h.seq.ticks⟩ } })
    else
      let h : Hw := { h with img := { h.img with applyPending := true, load := some { l with phase := .checking } } }
      (v, true, if !h.busy then h.applyAction bs 1 else if h.isHead then h.sendSym .runCtrl 3 else h.sendMsg h.conf.head (.haltRequest h.devIndex))

end Sys2Proof.Machine
end

