-- ==== Sys2Proof/Machine/Bay.lean ====
section
/-!
DEFINITION. Bay reload (R273 to R279): isolation, the writing and initialising phases, and activation.
-/

namespace Sys2Proof.Machine

/-- TRUSSCFG.BAY_STAT of module bay B (R287). -/
def Hw.setBayPhase (h : Hw) (B ph : Nat) : Hw := h.fset (trussA (B / 16) 0x100) (2 * (B % 16) + 1) (2 * (B % 16)) ph

/-- Frames execute: phases then wait for a tick (R276, R278). -/
def Hw.ticking (h : Hw) : Bool := h.seq.run = .running || h.seq.run = .halting

/-- The first course clock of a frame that began after the phase was entered. -/
def Hw.bayTick (h : Hw) (r : BayReload) : Bool :=
  h.ticking && h.seq.inFrame && h.seq.fclk == 0 && decide (r.since < h.seq.ticks)

/-- A phase that was entered before this course clock takes part in the boundary that `tick` says falls in it. -/
def Hw.bayDue (h : Hw) (r : BayReload) (tick : Bool) : Bool := (tick && decide (r.since < h.seq.ticks)) || h.bayTick r

/-- A phase that waits for a tick goes ahead: at the tick, or at once where no tick comes (R278). -/
def Hw.bayGo (h : Hw) (r : BayReload) (tick : Bool) : Bool := h.bayDue r tick || !h.ticking

def Hw.setReload (h : Hw) (r : Option BayReload) : Hw := { h with img := { h.img with bay := r } }

/-- What module bay B's contribution to a cell was in the last executed course (R274). -/
def Hw.contribution (h : Hw) (key : Nat) : Bool :=
  if 2 ^ 21 ≤ key then
    let T := (key - 2 ^ 21) / 8
    let p := (key - 2 ^ 21) % 8
    let d := T / 512
    ((purlSegment (T % 512) p).filter fun u => bayOf u == bayOf (T % 512)).any fun u =>
      bit (h.truss (trussIx d u)).lastPurl p
  else if 2 ^ 20 ≤ key then
    let (d, t, m, _) := slotEnds ((key - 2 ^ 20) / 96) ((key - 2 ^ 20) % 96)
    bit (h.truss (trussIx d t)).lastSb m
  else
    match battenFrom (key / 48 / 512) (key / 48 % 512) (key % 48 / 12) (key % 12) with
    | some (sd, st, m, _) => bit (h.truss (trussIx sd st)).lastSb m
    | none => false

/-- Isolation of a bay begins: its cells take the settings of its image, or ZERO (R273, R274). -/
def Hw.isolate (h : Hw) (r : BayReload) : Hw :=
  let sets := flashSettings (sectsOf r.image)
  let other (k : Nat) : Bool := cellBay k != some r.bay
  let held := (sets.filter fun kv => kv.2 == 2).map fun kv => (kv.1, h.contribution kv.1)
  let h : Hw := { h with flash := Store.setAll 0 (Store.keep other h.flash) sets
                         flashHeld := Store.setAll false (Store.keep other h.flashHeld) held }
  (h.setBayPhase r.bay 1).setReload (some { r with phase := 1, since := h.seq.ticks })

/-- BAY_ISOLATION: the first tick after the commit (R276, step 2). -/
def execBayIsolation (h : Hw) (tick : Bool := false) : Hw :=
  match h.img.bay with
  | some r => if r.phase = 0 && h.bayGo r tick then h.isolate r else h
  | none => h

/-- BAY_WRITE_DONE: the course rows and bundle entries have been written (R276, step 3). -/
def execBayWriteDone (h : Hw) : Hw :=
  match h.img.bay with
  | some r =>
    if r.phase ≠ 1 then h
    else (h.writeRows (sectsOf r.image)).setReload (some { r with phase := 2, since := h.seq.ticks })
  | none => h

/-! ## Initialisation (R276, steps 4 and 5) -/

/-- BAY_FLAGS.LOFT_INIT of a bay image. -/
def BayReload.loftInit (r : BayReload) : Bool := imgField r.image 0xC 1 == 1

/-- Loft word w of truss t that the image gives; 0 where it covers none. -/
def loftWordOf (ss : List Sect) (t w : Nat) : Word64 :=
  match ss.find? fun s => s.type == 3 && (sectTrusses s).contains t with
  | some s => BitVec.ofNat 64 (imgField s.body (16384 * (t - s.t0) + 8 * w) 8)
  | none => 0

/-- Words of the preload of one bank, in the order in which they are written: address and data. -/
def bankWordsOf (ss : List Sect) (j : Nat) : List (Nat × Word64) :=
  (ss.filter fun s => s.type == 4 && s.param == j).flatMap fun s =>
    (List.range (s.size / 8)).map fun i => (s.target + i, BitVec.ofNat 64 (imgField s.body (8 * i) 8))

/-- Banks with a preload. -/
def preBanks (ss : List Sect) : List Nat := (List.range 64).filter fun j => ss.any fun s => s.type == 4 && s.param == j

/-- Course clocks that the initialising phase takes. -/
def BayReload.initClocks (r : BayReload) : Nat :=
  let ss := sectsOf r.image
  (preBanks ss).foldl (fun n j => max n (bankWordsOf ss j).length) (if r.loftInit then 2048 else 0)

/-- What the loader writes in clock k of the phase: one word of each truss's loft and of each preloaded bank. A write drops
the pending write-back of its word (R66, R168). -/
def Hw.initWords (h : Hw) (r : BayReload) (k : Nat) : Hw :=
  let ss := sectsOf r.image
  let d := r.bay / 16
  let h := if r.loftInit && decide (k < 2048) then
      (bayTrusses (r.bay % 16)).foldl (fun h t =>
        ((h.dropWb (trussIx d t) k).holdLoft (trussIx d t) k).setLoft (trussIx d t) k (decEncode (loftWordOf ss t k))) h
    else h
  (preBanks ss).foldl (fun h j =>
    match (bankWordsOf ss j)[k]? with
    | some (a, v) => ((h.bankWbDrop (64 * d + j) a).holdBank (64 * d + j) a).setBankWord (64 * d + j) a v
    | none => h) h

/-- Owner of the preloaded banks. -/
def Hw.preOwner (h : Hw) (r : BayReload) (o : Nat) : Hw :=
  (preBanks (sectsOf r.image)).foldl (fun h j =>
    h.setReg (bankA (r.bay / 16) (4 * j)) (BitVec.ofNat 32 (o + 16 * o))) h

/-- BAY_INIT_START: the first tick after the writes end. -/
def execBayInitStart (h : Hw) (tick : Bool := false) : Hw :=
  match h.img.bay with
  | some r =>
    if r.phase = 2 && h.bayGo r tick then
      ((h.setBayPhase r.bay 2).preOwner r 1).setReload (some { r with phase := 3, since := h.seq.ticks })
    else h
  | none => h

/-- One course clock of the initialising phase. -/
def Hw.bayInitClock (h : Hw) : Hw :=
  match h.img.bay with
  | some r => if r.phase = 3 then h.initWords r (h.seq.ticks - r.since) else h
  | none => h

/-- BAY_INIT_DONE: every word has been written; the phase becomes awaiting activation. -/
def execBayInitDone (h : Hw) : Hw :=
  match h.img.bay with
  | some r =>
    if r.phase ≠ 3 then h
    else
      let h := (List.range r.initClocks).foldl (fun h k => h.initWords r k) h
      ((h.preOwner r 0).setBayPhase r.bay 3).setReload (some { r with phase := 4, since := h.seq.ticks })
  | none => h

/-- Whether the initialising phase has had its course clocks. -/
def Hw.bayInitOver (h : Hw) : Bool :=
  match h.img.bay with
  | some r => r.phase == 3 && decide (r.initClocks ≤ h.seq.ticks - r.since)
  | none => false

/-- BAY_ACTIVATION: the bay's slates are cleared, its marks with them, and it runs from block 0 of the frame that begins
(R276, step 6; R278). -/
def execBayActivation (h : Hw) (tick : Bool := false) : Hw :=
  match h.img.bay with
  | some r =>
    if r.phase = 4 && h.bayDue r tick then
      let d := r.bay / 16
      let h := (bayTrusses (r.bay % 16)).foldl (fun h t =>
        h.setTruss (trussIx d t) { h.truss (trussIx d t) with slate := [] }) h
      let h := (List.range 16).foldl (fun h k =>
        let a := scrubA d (0x40 + 4 * k)
        if h.bget a 31 && bayOf (h.fget a 8 0) == r.bay % 16 then h.setReg a 0 else h) h
      let h := (h.setBayPhase r.bay 0).setReload none
      ({ h with snap := { h.snap with bayGen := h.snap.bayGen + 1 } } : Hw).raise (evBayActivated r.bay)
    else h
  | none => h

/-- The phases that begin at a frame tick, in action 4 of the boundary (R28, R276). -/
def Hw.bayAtTick (h : Hw) : Hw := execBayActivation (execBayInitStart (execBayIsolation h true) true) true

/-- The phases that begin at once where no tick comes, and the end of an initialising phase that has had its clocks (R278). -/
def Hw.bayAtOnce (h : Hw) : Hw :=
  let h := execBayInitStart (execBayIsolation h)
  if h.bayInitOver then execBayInitDone h else h

/-- The phases that begin by themselves in a course clock: those that need no tick, and the ends of steps that have had
their clocks. -/
def Hw.bayClock (h : Hw) : Hw :=
  let h := execBayIsolation h
  let h := execBayInitStart h
  let h := execBayActivation h
  let h := h.bayInitClock
  if h.bayInitOver then execBayInitDone h else h

end Sys2Proof.Machine
end

