-- ==== Sys2Proof/Machine/Tick.lean ====
section
/-!
DEFINITION. The frame tick (R28, R136 to R150, Table 1.9): halting, the actions of the boundary in their order, hand-overs of
banks, and the first tick of a start or after a level change.
-/

namespace Sys2Proof.Machine

/-! ## Halting (R28, R32, R240, R461) -/

/-- The configuration stops at a frame boundary. `deferred` says whether actions 2 to 6 wait for the next start (R28, action
1). -/
def Hw.holdAt (h : Hw) (reason : Nat) (deferred : Bool := true) : Hw :=
  (h.updSeq fun s => { s with
    run := .held, haltReason := reason, inFrame := false, deferred := deferred, halts := [], goEff := false, goSent := false
    starting := none }).applySrc

/-- Halts whose effect clock has come (R240). -/
def Hw.dueHalts (h : Hw) : List PendHalt := h.seq.halts.filter fun x => decide (x.eff ≤ h.seq.clk)

/-- The reason of the halt that comes first, among those whose effect clock has passed: sending clock, then origin. -/
def haltReasonOf (hs : List PendHalt) : Option Nat :=
  (firstBy (fun (a b : PendHalt) => decide (a.sent < b.sent) || (a.sent == b.sent && decide (a.origin < b.origin))) hs).map
    (·.reason)

/-! ## The end of a frame (R136 to R139, Table 5.12) -/

/-- A member that is cut off from the head ticks without frame-go: its own uplink is lost, or a link above it in the tree, as a report
of either end says (R255). -/
def Hw.cutOff (h : Hw) : Bool :=
  h.isMember && (h.conf.uplink.isNone ||
    h.host.topo.any fun t => !t.active && h.conf.above.contains (t.device, t.port))

/-- The tick falls in this course clock: frame-go has taken effect, A has come, and position S and the end window have
passed (R136, R137). -/
def Hw.tickDue (h : Hw) : Bool :=
  h.seq.inFrame && (h.seq.run = .running || h.seq.run = .halting) && (h.seq.goEff || h.cutOff) &&
    decide (h.seq.allowance ≤ h.seq.fclk) &&
    (decide (h.seq.schedLen + h.endWindow < h.seq.pos) ||
      (decide (h.seq.schedLen + h.endWindow ≤ h.seq.pos) && h.kindNow = .exec))

/-- LAST_FRAME and LAST_SLACK of the frame that ends (Table 5.12). A stretch of the course clock of the tick belongs to the
next frame (R140). -/
def Hw.recordFrame (h : Hw) : Hw :=
  let s := h.seq
  let z := s.stretches - s.noted
  let lf : Word32 := BitVec.ofNat 32 (min 0xFFFFF s.stalls + 2 ^ 20 * min 63 z + 2 ^ 26 * s.gapUs)
  let sl : Word32 := BitVec.ofNat 32 s.allowance - BitVec.ofNat 32 (s.schedLen + s.stalls + z + h.endWindow)
  [0, 1].foldl (fun h d => (h.setReg (seqA d 0x40) lf).setReg (seqA d 0x44) sl) h

/-- A late frame: stretched in FREE and STEP, an overrun in TIMED (R138, R139). -/
def Hw.noteLate (h : Hw) : Hw :=
  if h.seq.fclk ≤ h.seq.allowance then h
  else
    let (n, e) := if h.seq.mode = .timed then (2, evFrameOverrun) else (1, evFrameStretch)
    ((h.count (seqA 0 (0x48 + 4 * n))).count (seqA 1 (0x48 + 4 * n))).raise e

/-- TICK_ERR of a TIMED tick, and the next grid point (R139, R311). -/
def Hw.noteGrid (h : Hw) : Hw :=
  if h.seq.mode ≠ .timed then h else
  let late := decide (h.seq.allowance < h.seq.fclk)
  let err : Int := ((h.time.now : Int) - h.seq.gridNext) / 3
  let h := h.setReg (timeA 0x58) (BitVec.ofInt 32 err)
  let h := h.updSeq fun s => { s with gridNext := s.gridNext + s.gridPeriod }
  if late then h.skipPoints (max h.seq.schedLen h.seq.horizon) else h

/-- What the frame's end leaves: every masked write commits, a bank one without its mask writing nothing new, and words on their
way to a loft read bus are discarded (R60, R63, R162, R167). -/
def Hw.commitAll (h : Hw) : Hw :=
  let h : Hw := { h with
    banks := h.banks.map fun kv => (kv.1, { kv.2 with rmw := kv.2.rmw.map fun r => { r with mask := some (r.mask.getD 0) } })
    trusses := Store.mapVals {} (fun k => { k with reads := [] }) h.trusses }
  let h := (h.trusses.map (·.1)).foldl (fun h T => h.flushRmw T fun _ => true) h
  (h.banks.map (·.1)).foldl (fun h B => h.bankCommit B fun _ => true) h

/-- Everything that belongs to the frame that ends, before action 1. -/
def Hw.endFrame (h : Hw) : Hw :=
  let h := h.noteLate.noteGrid.recordFrame
  let h := if h.seq.poisoned then h.notePoison else h
  (h.commitAll).updSeq fun s => { s with gapUs := 0, stepCount := s.stepCount - 1 }

/-! ## Hand-overs of banks (R172) -/

/-- The current owner has an access of bank register `a` in flight: DESIGN a write of the bank that is not committed, or a read
whose word has not been delivered (R172). -/
def Hw.bankInFlight (h : Hw) (a : Nat) : Bool :=
  let d := if a < dieBase 1 then 0 else 1
  let j := (a - bankA d 0) / 4
  h.fget a 2 0 == 0 && (!(h.bank (64 * d + j)).rmw.isEmpty || (h.truss (trussIx d (homeTruss j))).reads.any (·.bank))

/-- A hand-over of a bank may take effect: no access of the current owner is in flight, frames do not run with DESIGN
concerned, but for the tick itself, and no bay reload loads the bank (R172, R173). -/
def Hw.mayHandOver (h : Hw) (a : Nat) (tick : Bool := false) : Bool :=
  let cur := h.fget a 2 0
  let design := cur == 0 || h.fget a 6 4 == 0
  (!(design && h.busy) || tick) && !(cur == 1 && h.img.bay.isSome) && !h.bankInFlight a

/-- The hand-over of one owner register takes effect. -/
def Hw.handOver (h : Hw) (a : Nat) : Hw := (h.fset a 2 0 (h.fget a 6 4)).fset a 3 3 0

/-- Every hand-over of a design memory bank that may take effect does. -/
def Hw.bankHandOvers (h : Hw) (tick : Bool := false) : Hw :=
  let due := h.regs.filter fun kv =>
    bit kv.2 3 && ((decide (bankA 0 0 ≤ kv.1) && decide (kv.1 < bankA 0 0x100)) ||
      (decide (bankA 1 0 ≤ kv.1) && decide (kv.1 < bankA 1 0x100)))
  due.foldl (fun h kv => if h.mayHandOver kv.1 tick then h.handOver kv.1 else h) h

/-- Action 2: the last vector and select to arrive govern the next frame (R126). -/
def Hw.latchVector (h : Hw) : Hw := h.updSeq fun s => { s with dev := s.devNext, alt := s.altNext }

/-- Action 4: pending RWF values, the phases of a bay reload that wait for a tick, and prepared spare lanes (R8, R28, R247,
R276, R278). -/
def Hw.newContents (h : Hw) : Hw := (h.applyRwf.bayAtTick).swapSpares

/-- Actions 2 to 5, which a start no longer has to make up for (R28). -/
def Hw.boundary (h : Hw) : Hw :=
  (h.latchVector.pointAtTick h.seq.frame.toNat).newContents.updSeq fun s => { s with frame := s.frame + 1, deferred := false }

/-- A frame tick falls in this course clock: its time, and the clocks that count from it (R362, R364). -/
def Hw.noteTick (h : Hw) : Hw :=
  { h.updSeq fun s => { s with tagClk := 0 } with time := { h.time with lastTick := h.time.now } }

/-- At the tick of a frame whose number is a multiple of 4,096 a time stamp is due (R364). -/
def Hw.stampDue (h : Hw) : Hw :=
  if h.seq.frame.toNat % 4096 = 0 && h.bget (traceA 0) 0 then
    { h with trace := { h.trace with stamp := some h.time.lastTick } } else h

/-- Action 6, or the entry to LEVEL_CHANGE that a due level puts before it (R149). A request for the level in force enters no
LEVEL_CHANGE at a tick (DESIGN CHOICE: R148 and R149 do not say whether it does; log entry 27). -/
def Hw.goOn (h : Hw) : Hw :=
  let h := h.stampDue
  match h.seq.levelDue with
  | some (l, th) =>
    if h.levelFor l = h.seq.level then (h.updSeq fun s => { s with levelDue := none }).beginFrame
    else h.enterLevelChange l true th
  | none => h.beginFrame

/-- The boundary that ends a frame. Hand-overs due at the tick follow the commits of the frame (R172). -/
def Hw.tick (h : Hw) : Hw :=
  let due := h.dueHalts
  let stepped := h.seq.mode = .step && h.seq.stepCount == 1
  let h := h.endFrame.noteTick.bankHandOvers true
  match haltReasonOf due with
  | some r => h.holdAt r
  | none => if stepped then h.holdAt 2 else h.boundary.goOn

/-- A start begins with no frame poisoned; until the halt, every frame that ends is (R423). -/
def Hw.unpoison (h : Hw) : Hw := h.updSeq fun s => { s with poisoned := false }

/-- TICK_ERR of the first tick of a TIMED run, and the grid point that follows (R311). -/
def Hw.firstGrid (h : Hw) : Hw :=
  if h.seq.mode ≠ .timed then h else
  let err : Int := ((h.time.now : Int) - h.seq.gridNext) / 3
  (h.setReg (timeA 0x58) (BitVec.ofInt 32 err)).updSeq fun s => { s with gridNext := s.gridNext + s.gridPeriod }

/-- No stretch of a clock outside the frames delays the frame that begins; one of the clock of its tick belongs to it (R140). -/
def Hw.settleStretch (h : Hw) : Hw :=
  h.updSeq fun s => { s with stretchNow := false, stretchDue := if s.stretchedNow then 1 else 0, noted := 0 }

/-- A stretch of the course clock in which the first tick falls counts in the frame that begins, and is told (R140). -/
def Hw.tellStretch (h : Hw) : Hw := if h.seq.stretchedNow then h.countStretch else h

/-- Slot groups that a port still holds from before a halt belong to no frame that begins (R96, R235). -/
def EavePort.dropSlots (pt : EavePort) : EavePort := { pt with txGroups := [], arrived := none, rxGroups := [] }

def Hw.dropGroups (h : Hw) : Hw := { h with ports := Store.mapVals {} EavePort.dropSlots h.ports }

/-- The first tick after a start or after a level-change gap. A frame after a gap skips the grid points that the gap took. A
start whose halt is already due halts again (R28, R143, R149, R150, R240). -/
def Hw.firstTick (h : Hw) (kind : Nat) : Hw :=
  let h := h.settleStretch
  if kind = 2 then
    let z := h.seq.stretches
    let h := if h.seq.mode = .timed then h.skipPoints (max h.seq.schedLen h.seq.horizon) else h
    (h.tellStretch.beginFrame).updSeq fun s => { s with stretches := s.stretches + z }
  else match haltReasonOf h.dueHalts with
    | some r => h.holdAt r (kind == 1)
    | none =>
      let h := (h.firstGrid.noteTick.bankHandOvers true).dropGroups.tellStretch
      if kind = 1 then h.boundary.unpoison.goOn else h.newContents.unpoison.goOn

/-- FRAME_TICK: the boundary of this course clock, if the tick falls in it. A module that is cut off from the tree while it
waits for frame-go halts there (R255). -/
def execFrameTick (h : Hw) : Hw :=
  match h.seq.starting with
  | some k =>
    if h.seq.run = .running || h.seq.run = .halting then
      if h.seq.goEff then h.firstTick k
      else match h.cutOff, haltReasonOf h.dueHalts with
        | true, some r => h.holdAt r (k == 1)
        | _, _ => h
    else h
  | none => if h.tickDue then h.tick else h

end Sys2Proof.Machine
end

