-- ==== Sys2Proof/Machine/Scrub.lean ====
section
/-!
DEFINITION. The course-store scrubber (R280 to R285, R288).
-/

namespace Sys2Proof.Machine

/-- What a read of a course row finds (Table 9.12). -/
inductive RowFind where
  | clean | corrected | badWord | badCrc
deriving DecidableEq, Repr

/-- The 64 instruction words and the control word of a stored row after per-word correction (R50). -/
def rowData (row : Row) : List Ins × Ctl := ((List.range 64).map fun i => (rowIns row i).1, (rowCtl row).1)

/-- The stored row CRC (R48, R51). -/
def rowStoredCrc (row : Row) : BitVec 16 := row.extractLsb' 4168 16

/-- Per-word correction and the row CRC of a stored row (R281, step 2). -/
def rowFind (row : Row) : RowFind :=
  let fs := (List.range 64).map (fun i => (rowIns row i).2) ++ (List.range 9).map fun s => (rowSegD row s).2
  if fs.any (· == .bad) then .badWord
  else
    let x := rowData row
    if rowCrc x.1 x.2 ≠ rowStoredCrc row then .badCrc
    else if fs.any (· == .corrected) then .corrected else .clean

/-- Course clocks per slot (R288). -/
def Hw.scrubRate (h : Hw) (d : Nat) : Nat := 16 * 2 ^ h.fget (scrubA d 0) 2 1

/-- The scrubber of a die takes slots: enabled, the array clock runs, an image is loaded, and no restore
is in progress (R280, R383). -/
def Hw.scrubOn (h : Hw) (d : Nat) : Bool := h.bget (scrubA d 0) 0 && h.arrayClock && h.img.loaded.isSome && h.snap.restore.isNone

/-- SCRUB.UE_LOC keeps the first finding (R288). -/
def Hw.scrubLoc (h : Hw) (d t addr kind : Nat) : Hw :=
  let a := scrubA d 0x20
  if h.bget a 31 then h else (h.setReg a (BitVec.ofNat 32 (t + 2 ^ 9 * addr + 2 ^ 20 * kind + 2 ^ 31))).markDone (.w1c a 31)

/-- The slot is done: the next one reads the next row (R280). -/
def Hw.scrubNext (h : Hw) (d : Nat) : Hw :=
  let c := h.fget (scrubA d 4) 19 0 + 1
  let h := h.setReg (scrubA d 4) (BitVec.ofNat 32 (c % 2 ^ 20))
  if c = 2 ^ 20 then h.count (scrubA d 8) else h

/-- Mark row r of truss t (R283). -/
def Hw.markRow (h : Hw) (d t r : Nat) : Hw :=
  if h.marked d t r then h.raiseWith (evRowCrcFail d) (h.reg (scrubA d 0x20)) false
  else match (List.range 16).find? fun k => !h.bget (scrubA d (0x40 + 4 * k)) 31 with
    | some k =>
      (h.setReg (scrubA d (0x40 + 4 * k)) (BitVec.ofNat 32 (t + 2 ^ 9 * r + 2 ^ 31))).raisePoison (evRowCrcFail d)
        (h.reg (scrubA d 0x20))
    | none =>
      let h := h.raiseWith (evRowCrcFail d) (h.reg (scrubA d 0x20)) false
      ({ h with img := { h.img with markOverflow := true } } : Hw).raisePoison (evScrubMarkOverflow d)

/-- A write-back: counted in SCRUB.CNT_n, with its event (R282). -/
def Hw.scrubFixed (h : Hw) (d n : Nat) : Hw :=
  let h := h.count (scrubA d (0x10 + 4 * n))
  if h.bget (scrubA d 0) 3 then h.raise (evScrubCorrected d) else h

/-- The bundle entry that a slot has read: whether it is uncorrectable, and what is written back (R282). -/
def Hw.scrubBundle (h : Hw) (d : Nat) (x : ScrubRead) : Bool × Option Bundle × Hw :=
  match bundleDecode x.bundle with
  | (_, .clean) => (false, none, h)
  | (v, .corrected) => (false, some (bundleEncode v), h.scrubFixed d 1)
  | (_, .bad) =>
    if x.again then
      let h := h.scrubLoc d x.truss (x.row % 256) 2
      (true, none, h.raiseWith (evScrubUncorrectable d) (h.reg (scrubA d 0x20)) false)
    else (true, none, h)

/-- The course row that a slot has read: whether it is at fault, and what is written back (R282). -/
def Hw.scrubRow (h : Hw) (d : Nat) (x : ScrubRead) : Bool × Option Row × Hw :=
  match x.stored with
  | none => (false, none, h)
  | some row => match rowFind row with
    | .clean => (false, none, h)
    | .corrected =>
      let y := rowData row
      (false, some (rowEncode y.1 y.2), h.scrubFixed d 0)
    | .badWord =>
      if x.again then
        let h := h.scrubLoc d x.truss x.row 0
        (true, none, h.raiseWith (evScrubUncorrectable d) (h.reg (scrubA d 0x20)) false)
      else (true, none, h)
    | .badCrc => if x.again then (true, none, (h.scrubLoc d x.truss x.row 1).markRow d x.truss x.row) else (true, none, h)

def Hw.scrubSlotOf (h : Hw) (d : Nat) : Option ScrubRead := Store.get none h.scrubSlots d

def Hw.setScrubSlot (h : Hw) (d : Nat) (x : Option ScrubRead) : Hw :=
  { h with scrubSlots := Store.set none h.scrubSlots d x }

/-- Clock 0 of a slot: the row and the bundle entry are read; a slot of an isolated bay is skipped (R281, R285). -/
def Hw.scrubRead (h : Hw) (d : Nat) : Hw :=
  let c := h.fget (scrubA d 4) 19 0
  let t := c % 512
  let r := c / 512
  if h.isolated d t then (h.count (scrubA d 0x1C)).scrubNext d
  else
    let T := trussIx d t
    h.setScrubSlot d (some ⟨0, t, r, h.bget (scrubA d 4) 20, h.rowListed T r, h.bundle T (r % 256), none, none⟩)

/-- Clock 3 of a slot: the outcome (R281, R282). DESIGN CHOICE (log 64): a re-read counts in CNT_2 once for the slot, and only
when the row and the bundle entry are both free of fault. -/
def Hw.scrubOutcome (h : Hw) (d : Nat) (x : ScrubRead) : Hw :=
  let (badR, row, h) := h.scrubRow d x
  let (badB, entry, h) := h.scrubBundle d x
  let h := h.setScrubSlot d (some { x with clk := 3, rowFix := row, entryFix := entry })
  if x.again then (if badR || badB then h else h.count (scrubA d 0x18)).scrubNext d
  else if badR || badB then h.fset (scrubA d 4) 20 20 1
  else h.scrubNext d

/-- Clock 4 of a slot: the write-back that the outcome calls for, over whatever has reached the row or the entry since it was
read; the truss's bay may have been isolated for a reload meanwhile (R281, R284). -/
def Hw.scrubBack (h : Hw) (d : Nat) (x : ScrubRead) : Hw :=
  let T := trussIx d x.truss
  let h := h.setScrubSlot d none
  if h.isolated d x.truss then h
  else
    let h := match x.rowFix with | some v => h.setRow T x.row v | none => h
    match x.entryFix with | some v => h.setBundle T (x.row % 256) v | none => h

/-- A slot in progress goes on by one course clock. -/
def Hw.scrubStep (h : Hw) (d : Nat) (x : ScrubRead) : Hw :=
  if x.clk = 2 then h.scrubOutcome d x
  else if x.clk = 3 then h.scrubBack d x
  else h.setScrubSlot d (some { x with clk := x.clk + 1 })

/-- SCRUB_SLOT: the scrubber of die d takes its next slot, when none is in progress. -/
def execScrubSlot (h : Hw) (d : Nat) : Hw :=
  h.once (.scrub d) (decide (d < 2) && h.scrubOn d && (h.scrubSlotOf d).isNone) fun h =>
    ({ h with scrubSince := Store.set 0 h.scrubSince d 0 } : Hw).scrubRead d

/-- The scrubber of die d in one course clock: a slot goes on to its end, whether or not EN is still set, and one begins every RATE
clocks (R280, R281). -/
def Hw.scrubDie (h : Hw) (d : Nat) : Hw :=
  if h.done.contains (.scrub d) then h
  else
    let h := match h.scrubSlotOf d with
      | some x => h.scrubStep d x
      | none => h
    if !h.scrubOn d then h else
    let n := Store.get 0 h.scrubSince d + 1
    if n ≥ h.scrubRate d then execScrubSlot h d
    else { h with scrubSince := Store.set 0 h.scrubSince d n }

def Hw.scrubClock (h : Hw) : Hw := (h.scrubDie 0).scrubDie 1

/-- SCRUB_CLEAR_COUNTS: a write of SCRUB.CTRL with CLEAR_COUNTS, which a closed array die does not take (R25, R288). -/
def execScrubClearCounts (h : Hw) (d : Nat) (v : Word32) : Hw :=
  if d < 2 && bit v 4 && !h.diesShut then
    (h.setReg (scrubA d 0) ((h.reg (scrubA d 0) &&& ~~~ 0xF#32) ||| (v &&& 0xF#32))).clearRegs
      [scrubA d 8, scrubA d 0x10, scrubA d 0x14, scrubA d 0x18, scrubA d 0x1C]
  else h

end Sys2Proof.Machine
end

