-- ==== Sys2Proof/Machine/UserIo.lean ====
section
/-!
DEFINITION. User I/O banks: supply, readiness, pad latches (R397, R398, R494, R495) and the host's wake and alert pins
(R401, R493).
-/

namespace Sys2Proof.Machine

/-- No pin of a bank delivers a level: its input register bits read 0 (R494). -/
def Hw.darkBank (h : Hw) (b : Nat) : Hw := (h.fset (userioA (4 * b)) 5 5 0).setReg (userioA (0xC0 + 4 * b)) 0

/-- A write of USERIO.BANK_b.CFG. VSEL changes only while the configuration is not running; a new supply then has to settle
(R494). -/
def Hw.writeBankCfg (h : Hw) (b : Nat) (v : Word32) : Hw :=
  let a := userioA (4 * b)
  let h' := h.fset a 4 2 (fld v 4 2)
  if h.busy || fld v 1 0 == h.fget a 1 0 then h' else (h'.fset a 1 0 (fld v 1 0)).darkBank b

/-- VSEL_WRITE (R494). -/
def execVselWrite (h : Hw) (b : Nat) (v : Word32) : Hw := if b < 16 then h.writeBankCfg b v else h

/-- VCCO_READY: the supply of a bank whose VSEL is not OFF is in regulation (R494). -/
def execVccoReady (h : Hw) (b : Nat) : Hw :=
  if b < 16 && h.fget (userioA (4 * b)) 1 0 != 0 then h.fset (userioA (4 * b)) 5 5 1 else h

/-- The pins' levels enter the input registers of banks that are ready (R494, R496). -/
def Hw.samplePins (h : Hw) (samples : List (Nat × Word32)) : Hw :=
  samples.foldl (fun h s =>
    if s.1 < 16 && h.bget (userioA (4 * s.1)) 5 then h.setReg (userioA (0xC0 + 4 * s.1)) s.2 else h) h

/-- IO_PATH_DELIVER: values that have had their 20 course clocks reach the output registers, and the pins' samples the
input registers (R16, R85, R496). -/
def execIoPathDeliver (h : Hw) (samples : List (Nat × Word32)) : Hw := (h.ioDeliver).samplePins samples

/-- Release the latch of the banks of a mask: their pins take the levels that their registers give, and those that change make an
edge (R398). -/
def Hw.releasePads (h : Hw) (mask : Nat) : Hw :=
  let v := h.fget (powerA 0x28) 15 0
  let r := h.fset (powerA 0x28) 15 0 (v &&& (0xFFFF - mask % 0x10000))
  (List.range 512).foldl (fun r' n => if h.pinLevel n = r.pinLevel n then r' else r'.pinEdge n (r.pinValue n) r.time.now) r

/-- A pin of the host connector takes a level; both are low when asserted. -/
def Hw.hostPin (h : Hw) (wake assert : Bool) : Hw :=
  let h := { h with power := if wake then { h.power with wakePin := assert } else { h.power with alertPin := assert } }
  h.emit (.pin (if wake then "WAKE#" else "ALERT#") 0 (!assert))

def Hw.wakeLine (h : Hw) (v : Bool) : Hw := if h.power.wakePin = v then h else h.hostPin true v
def Hw.alertLine (h : Hw) (v : Bool) : Hw := if h.power.alertPin = v then h else h.hostPin false v

end Sys2Proof.Machine
end

