-- ==== Sys2Proof/Machine/Reset.lean ====
section
/-!
DEFINITION. Power-up, cold start and the resets of the endpoint (R21, R427 to R431, R451, R481, R483, R485, R488, R500).
-/

namespace Sys2Proof.Machine

/-! ## Cold start -/

/-- Registers of the AON domain: AON_STAT and PAD_STAT (R408), and the ports' signal detectors (R214). -/
def aonReg (a : Nat) : Bool :=
  a == powerA 0x20 || a == powerA 0x24 || a == powerA 0x28 || (List.range 12).any fun p => a == eaveA p 0x10

/-! ## Firmware images (R475, R476) -/

/-- A big-endian number. -/
def ofBytesBe (bs : List Byte) : Nat := ofBytes bs.reverse

/-- Rows 2 to 5 of Table 19.2 on the bytes of an image of a given length: the status of the first failure. COUNTER is held to
the values that Table 19.1 accepts with the other fields. -/
def fwCheck (fuses len : Nat) (bs : List Byte) : Option Nat :=
  let f (o n : Nat) : Nat := imgField bs o n
  let zero (o n : Nat) : Bool := f o n == 0
  if !(f 0 4 == 0x57463646 && f 4 1 == 0xF6 && zero 5 1 && f 6 2 == 0x6400 && f 0x10 4 == len && zero 0x16 10 &&
      decide (f 0xC 4 ≤ 64) && len % 4 == 0 && decide (4096 ≤ len) && decide (len ≤ 33554432)) then some stRefused
  else if !Config.ecdsaVerify 0 (Config.sha256 (bs.take 0x40))
      (BitVec.ofNat 512 (ofBytesBe ((bs.drop 0x40).take 64))) then some stIntegrity
  else if (Config.sha256 ((bs.drop 0x80).take (len - 0x80))).toNat ≠ ofBytesBe ((bs.drop 0x20).take 32) then
    some stIntegrity
  else if f 0xC 4 < fuses then some stRefused
  else none

/-- Bytes of a bank up to a length; an erased byte reads 0xFF. -/
def FwBank.bytes (b : FwBank) (len : Nat) : List Byte :=
  ((List.range ((len + 4095) / 4096)).flatMap fun s =>
    let x := Store.get [] b.sectors s
    x ++ List.replicate (4096 - x.length) 0xFF#8).take len

/-- The bank with the header fields of an image that has passed its tests. -/
def FwBank.verified (b : FwBank) (bs : List Byte) : FwBank :=
  { b with version := imgField bs 8 4, counter := imgField bs 0xC 4, layout := imgField bs 0x14 2 }

/-- The image that the header of a bank names: its LENGTH bytes. -/
def FwBank.image (b : FwBank) : List Byte := b.bytes (min 33554432 (imgField (b.bytes 0x20) 0x10 4))

def FwSt.bank (f : FwSt) (b : Nat) : FwBank := if b = 0 then f.bankA else f.bankB

def FwSt.setBank (f : FwSt) (b : Nat) (x : FwBank) : FwSt := if b = 0 then { f with bankA := x } else { f with bankB := x }

/-- The boot ROM starts a bank under rows 2 to 5 of Table 19.2: those tests on its bytes, or for a bank as delivered its COUNTER, where
the flash still holds what was programmed (R481, R483). -/
def FwSt.bootable (f : FwSt) (b : Nat) : Bool :=
  let x := f.bank b
  !x.decayed && (if x.sectors = [] then x.boots && decide (f.fuses ≤ x.counter)
    else (fwCheck f.fuses x.image.length x.image).isNone)

/-- The bank that the boot ROM has started: its header fields are those of its image. -/
def FwBank.started (b : FwBank) : FwBank := if b.sectors = [] then b else b.verified b.image

/-- The firmware state after a cold start: transfers, activations, nonces and sessions are gone, and a lockout in force
starts anew (R477, R480, R483 to R486). -/
def FwSt.cold (f : FwSt) : FwSt :=
  let a := if f.bootable f.active then f.active else 1 - f.active
  let f := if f.bootable a then f.setBank a (f.bank a).started else f
  { f with active := if f.bootable a then a else f.active, stuck := !f.bootable a
           transfer := none, verified := false, pending := none, nonce := none, session := none, keyWords := 0
           lockLeft := if f.lockLeft = 0 then 0 else f.lockLen * unitsPerSec }

/-- SNAP_SLOT_k.CFG of a slot whose capture an earlier reset ended: STATE failed, and no area (R381). -/
def Hw.lostSlot (h : Hw) (a : Nat) : Bool := h.reg a == 12 && (List.range 16).any fun k => a == snapSlotA k 0

/-- Registers that outlive a cold start. -/
def Hw.coldRegs (h : Hw) : Store Word32 := Store.keep (fun a => aonReg a || h.lostSlot a) h.regs

/-- A cold start of every domain except AON: what AON, the flashes and the fuses hold stays; `last` is the cause that
LAST_RESET reports. A capture in progress leaves its area failed (R381, R428). -/
def Hw.coldStart (h : Hw) (last : Nat) : Hw :=
  let n : Hw := {
    stepping := h.stepping, devIndex := h.devIndex, serial := h.serial, free := h.free, out := h.out
    regs := h.coldRegs
    fw := h.fw.cold
    time := { aon := h.time.aon, aonFrac := h.time.aonFrac }
    host := { perst := h.host.perst, linkUp := !h.host.perst }
    power := { powered := true, pads := h.power.pads, wakePin := h.power.wakePin, alertPin := h.power.alertPin } }
  let n := (n.fset (powerA 0x20) 18 17 last).fset (powerA 0x20) 19 19 0
  let n := match h.snap.capture with | some c => n.setReg (snapSlotA c.slot 0) (BitVec.ofNat 32 (3 * 4)) | none => n
  (n.wakeLine false).alertLine n.fw.stuck

/-- Without the input the standby supply is absent, and no sideband line is driven (R490). -/
def Hw.linesOff (h : Hw) (aon : Bool) : Hw := if aon then h else (h.wakeLine false).alertLine false

/-- A module without power, or in thermal shutdown: nothing but what survives a cold start is left. -/
def Hw.dark (h : Hw) (aon : Bool) : Hw :=
  let c := h.coldStart (h.fget (powerA 0x20) 18 17)
  ({ c with regs := if aon then c.regs else Store.keep (fun a => !aonReg a) c.regs
            time := if aon then { aon := h.time.aon, aonFrac := h.time.aonFrac } else {}
            power := { c.power with powered := aon, pads := if aon then h.power.pads else [], hot := h.power.hot
                                    asked := h.power.asked }
            host := { perst := h.host.perst } } : Hw).linesOff aon

/-- POWER_ON: the input becomes valid, AON reads the six straps, and the module makes a cold start (R451, R488, R491). Bit b
of `intact` is 0 when the flash no longer holds bank b as it was programmed, so that the boot ROM refuses it (R483). A
thermal shutdown still waits for its junctions (R500). -/
def execPowerOn (h : Hw) (straps : BitVec 6) (intact : BitVec 2) : Hw :=
  let age (b : FwBank) (ok : Bool) : FwBank := { b with decayed := b.decayed || !ok }
  let fw := { h.fw with bankA := age h.fw.bankA (bit intact 0), bankB := age h.fw.bankB (bit intact 1) }
  let h : Hw := { h with devIndex := straps.toNat, time := { h.time with aon := 0, aonFrac := 0 }, fw := fw }
  if h.power.hot then ({ h with power := { h.power with powered := true, asked := true } } : Hw).alertLine true
  else ({ h with regs := Store.keep (fun a => !aonReg a) h.regs, power := { h.power with pads := [] } } : Hw).coldStart 0

/-- INPUT_UNDERVOLTAGE: below 38 V for more than 200 µs (R488). -/
def execInputUndervoltage (h : Hw) : Hw := h.dark false

/-- INPUT_OVERVOLTAGE: above 62 V (R488). -/
def execInputOvervoltage (h : Hw) : Hw := h.dark false

/-- The AON rail runs in low-power mode: SLEEP and WAKE_FAILED (R400). -/
def Hw.lowPowerRail (h : Hw) : Bool := h.power.powered && (h.pstate == 3 || h.pstate == 4)

/-- BROWN_OUT: AON resets, reads the straps anew, and the module makes a cold start (R21, R400, R491). What the straps are by then is a
free value: the manual lets them change while the module is powered, and the command does not bring them (log entry 64). -/
def execBrownOut (h : Hw) : Hw :=
  if !h.lowPowerRail then h
  else
    let (v, h) := h.takeFree
    ({ h with devIndex := fld v 5 0, regs := Store.keep (fun a => !aonReg a) h.regs, time := { h.time with aon := 0, aonFrac := 0 }, power := { h.power with pads := [] } } : Hw).coldStart 2

/-- PERST_ASSERT: a cold start of every domain except AON (R428). -/
def execPerstAssert (h : Hw) : Hw :=
  let h : Hw := { h with host := { h.host with perst := true, linkUp := false } }
  if !h.power.powered then h
  else if h.power.hot then { h with power := { h.power with asked := true } }
  else h.coldStart 1

/-- PERST_RELEASE: the link trains (R431, R451). -/
def execPerstRelease (h : Hw) : Hw :=
  let h : Hw := { h with host := { h.host with perst := false, linkUp := h.power.powered && !h.power.hot } }
  if h.host.linkUp then h.wakeLine false else h

/-- THERMAL_SHUTDOWN: every domain except AON switches off, and ALERT# is asserted (R493, R500). -/
def execThermalShutdown (h : Hw) : Hw :=
  if !h.power.powered then h
  else
    let n := h.dark true
    ({ n with power := { n.power with hot := true, asked := false } } : Hw).alertLine true

/-- THERMAL_RESTART: every junction is below 90 °C, and PERST# or the input has asked for the cold start (R500). -/
def execThermalRestart (h : Hw) : Hw :=
  if h.power.powered && h.power.hot && h.power.asked then h.coldStart 3 else h

/-! ## The endpoint (R426 to R431) -/

/-- HOT_RESET, or a link-down reset: only the endpoint's configuration space, BARs, MSI-X table and link are reset (R429). The link is
down until the host's next configuration request, which only a trained link can bring. -/
def execHotReset (h : Hw) : Hw :=
  { h with bme := false, host := { h.host with bars := [], msixTable := [], linkUp := false, aspmL1 := false } }

/-- Send the pending messages whose vectors are not masked (R429). -/
def Hw.sendPending (h : Hw) : Hw :=
  (List.range 64).foldl (fun h v =>
    if bit h.host.pba v && h.bme && h.host.linkUp && !bit (h.msixWord (4 * v + 3)) 0 then
      ({ h with host := { h.host with pba := setBit h.host.pba v false } } : Hw).emit (.msix v)
    else h) h

/-- BUS_MASTER_ENABLE: the module may send memory requests and MSI-X messages again (R429). -/
def execBusMasterEnable (h : Hw) : Hw := if h.host.linkUp then ({ h with bme := true } : Hw).sendPending else h

/-- Identity code: 0x11 on A1, 0x20 on B0 (Table 17.4). -/
def identityCode : Stepping → Nat
  | .a1 => 0x11
  | .b0 => 0x20

/-- Bits of a base address register that the host writes, and the bits that say what it maps: BAR0 64-bit and not prefetchable, of
16 KiB, and BAR2 64-bit and prefetchable, of 1 GiB (R426). Their places are those of PCI Express (PRESUMED; log entry 64). -/
def barBits (off : Nat) : Word32 × Word32 :=
  if off = 0x10 then (0xFFFFC000, 4) else if off = 0x18 then (0xC0000000, 0xC)
  else if off = 0x14 ∨ off = 0x1C then (0xFFFFFFFF, 0) else (0, 0)

/-- Offset of the link control register, whose bit 1 enables ASPM L1 (DESIGN CHOICE: the manual places no capability; log
entry 64). -/
def linkControl : Nat := 0x70

/-- Bits of a configuration register that the manual settles, and their value: the header of R427, BAR0 and BAR2, BAR4 and BAR5, which
are not implemented, a type 0 header of one function, Bus Master Enable, and the ASPM control (R426, R429, R430). -/
def Hw.cfgBits (h : Hw) (off : Nat) : Word32 × Word32 :=
  if off = 0x00 then (0xFFFFFFFF, 0x64001F6D)
  else if off = 0x04 then (4, if h.bme then 4 else 0)
  else if off = 0x08 then (0xFFFFFFFF, BitVec.ofNat 32 (0x12000000 + identityCode h.stepping))
  else if off = 0x0C then (0x00FF0000, 0)
  else if off = 0x2C then (0xFFFFFFFF, 0x64001F6D)
  else if 0x10 ≤ off ∧ off < 0x28 ∧ off % 4 = 0 then (0xFFFFFFFF, Store.get (barBits off).2 h.host.bars off)
  else if off = linkControl then (3, if h.host.aspmL1 then 2 else 0)
  else (0, 0)

/-- A write of a configuration register: the BARs, Bus Master Enable, and the ASPM control. -/
def Hw.cfgWrite (h : Hw) (off : Nat) (v : Word32) : Hw :=
  if off = 0x04 then ({ h with bme := bit v 2 } : Hw).sendPending
  else if off = linkControl then { h with host := { h.host with aspmL1 := bit v 1 } }
  else if 0x10 ≤ off ∧ off < 0x20 ∧ off % 4 = 0 then
    { h with host := { h.host with bars := Store.set (barBits off).2 h.host.bars off ((v &&& (barBits off).1) ||| (barBits off).2) } }
  else h

/-- CONFIG_REQUEST: a configuration read, or a write. It comes over a trained link. Until the firmware is ready the answer is
Configuration Request Retry Status (R431). Bits that the manual does not settle read a free value. -/
def execConfigRequest (h : Hw) (off : Nat) (wr : Option Word32) : Hw :=
  if !h.power.powered || h.power.hot || h.host.perst then h
  else
    let h := (if h.host.linkUp then h else { h with host := { h.host with linkUp := true } }).wakeLine false
    if !h.host.ready then h.emit (.configReply true 0)
    else match wr with
      | some v => (h.cfgWrite off v).emit (.configReply false 0)
      | none =>
        let (m, v) := h.cfgBits off
        if m = 0xFFFFFFFF then h.emit (.configReply false v)
        else
          let (fr, h) := h.takeFree
          h.emit (.configReply false ((fr.extractLsb' 0 32 &&& ~~~ m) ||| v))

/-- A digit in upper-case hexadecimal, as an ASCII byte. -/
def hexByte (n : Nat) : Byte := BitVec.ofNat 8 (if n < 10 then 48 + n else 55 + n)

/-- The serial number field of the FRU EEPROM's board area: 16 characters, the most significant digit first. Its place, and what else
the EEPROM holds, follow another standard; the SMBus that reads it has no command of the block (R492; log entry 64). -/
def Hw.fruSerial (h : Hw) : List Byte := (List.range 16).map fun i => hexByte (h.serial.toNat / 16 ^ (15 - i) % 16)

/-! ## Readiness (R431, R451) -/

/-- Scratch banks read zero with valid check bits (chapter 17, Scratch banks). -/
def Hw.clearScratch (h : Hw) : Hw := { h with scratch := [] }

/-- A settings store of another layout takes the new firmware's layout and its defaults (R483). -/
def Hw.settings (h : Hw) (layout : Nat) : Hw :=
  if h.fw.layout = layout then h
  else ({ h with fw := { h.fw with layout := layout, key := 0, failures := 0, lockLen := 0, lockLeft := 0 } } : Hw).raise
    evSettingsDefaulted

/-- FIRMWARE_READY: `bootMs` milliseconds after the later of PERST# release and 20 ms after the input became valid, with the
measured delay tap in femtoseconds (R365, R431, R451, R497). After a restart of the MP, which may find the module in IDLE or DOZE, what
a cold start does first is not done again (R415, R417). -/
def execFirmwareReady (h : Hw) (bootMs tapFs : BitVec 16) : Hw :=
  if !h.power.powered || h.power.hot || h.host.ready || h.fw.stuck || h.pstate ≥ 3 then h
  else
    let first := !h.host.booted
    let h := if first then ((h.clearScratch.settings (h.fw.bank h.fw.active).layout).defaultGutter).armTime else h
    let h := (h.fset (userioA 0x100) 15 0 tapFs.toNat).lockPll
    let last := h.fget (powerA 0x20) 18 17
    let h : Hw := { h with host := { h.host with ready := true, booted := true, mpRestart := false, bootMs := bootMs.toNat } }
    let h := if first && last == 2 then h.raise evBrownOutReset else h
    if first && last == 3 then h.raise evThermalReset else h

end Sys2Proof.Machine
end

