-- ==== Sys2Proof/Machine/Slots.lean ====
section
/-!
DEFINITION. Mailbox slots as HOSTKEEP holds them (Table 17.5), and the completion of a slot (R432, R439).
-/

namespace Sys2Proof.Machine

/-! ## Slots (Table 17.5) -/

def Hw.slotByte (h : Hw) (s o : Nat) : Byte := Store.get 0 h.host.slots (256 * s + o)
def Hw.slotField (h : Hw) (s o n : Nat) : Nat := ofBytes ((List.range n).map fun i => h.slotByte s (o + i))
def Hw.slotState (h : Hw) (s : Nat) : Nat := (h.slotByte s 9).toNat
/-- MBX_DB_s.BUSY: the slot holds a command not yet DONE. -/
def Hw.slotBusy (h : Hw) (s : Nat) : Bool := decide (1 ≤ h.slotState s) && decide (h.slotState s ≤ 4)

def Hw.setSlotBytes (h : Hw) (s o : Nat) (bs : List Byte) : Hw :=
  { h with host := { h.host with slots := bs.zipIdx.foldl (fun m b => Store.set 0 m (256 * s + o + b.2) b.1) h.host.slots } }

def Hw.setSlotState (h : Hw) (s v : Nat) : Hw := h.setSlotBytes s 9 [BitVec.ofNat 8 v]

/-- HOSTKEEP works: the module has power and is not in thermal shutdown. -/
def Hw.hostOn (h : Hw) : Bool := h.power.powered && !h.power.hot

/-! ## Completion (R432, R439) -/

/-- STATUS, SEQ and STATE of a completion, and its vector. -/
def Hw.closeSlot (h : Hw) (s status replyLen : Nat) : Hw :=
  let h := h.setSlotBytes s 8 ([BitVec.ofNat 8 status, 5, BitVec.ofNat 8 replyLen, 0] ++
    bytesOf 4 (h.slotField s 0xC 4 + 1))
  if (h.slotByte s 6).toNat % 2 = 0 && h.bget (hostifA (4 * s)) 6 then h.msix (h.fget (hostifA (4 * s)) 5 0) else h

/-- HOSTKEEP answers a slot in hardware: the command is not performed (R432). -/
def Hw.hardAnswer (h : Hw) (s status : Nat) : Hw := h.closeSlot s status 0

/-- A command completes with a reply: PAYLOAD beyond it is zero (R439). -/
def Hw.completeSlot (h : Hw) (s status : Nat) (reply : List Byte) : Hw :=
  let r := reply.take 224
  (h.setSlotBytes s 0x20 (r ++ List.replicate (224 - r.length) 0)).closeSlot s status r.length

/-- Every slot that was rung and is not DONE is answered in hardware, and no ring waits (R432). -/
def Hw.answerAll (h : Hw) (status : Nat) : Hw :=
  let h := (List.range 8).foldl (fun h s => if h.slotBusy s then h.hardAnswer s status else h) h
  { h with host := { h.host with ring := [] } }

end Sys2Proof.Machine
end

