-- ==== Sys2Proof/Machine/Power.lean ====
section
/-!
DEFINITION. Power states (chapter 15): the idle timers, entry to IDLE, DOZE and SLEEP, the wake sources, and the wakes.
-/

namespace Sys2Proof.Machine

/-- The module is in a power state, whose timer starts from zero (R390). -/
def Hw.setPstate (h : Hw) (s : Nat) : Hw :=
  ({ h with power := { h.power with idleFor := 0 } } : Hw).fset (powerA 0) 2 0 s

/-- The run state allows a low-power state, and no accepted start is about to take effect (R388). -/
def Hw.lowOk (h : Hw) : Bool :=
  (h.seq.run = .empty || h.seq.run = .held || h.seq.run = .stoppedMid) && !h.startWaits

/-- An entry is deferred (R392). -/
def Hw.deferredEntry (h : Hw) : Bool :=
  h.img.load.isSome || h.img.bay.isSome || h.snapHolds || h.fw.pending.isSome

/-- The host's link binds the head to stay out of SLEEP (R430). -/
def Hw.sleepBarred (h : Hw) : Bool := h.isHead && h.host.linkUp && !h.host.aspmL1

/-- Ask for the entry to a state: ENTERING reads 1 until it is complete (R408). -/
def Hw.askEntry (h : Hw) (s : Nat) (byTimer : Bool := false) : Hw :=
  (({ h with power := { h.power with goal := some s, byTimer := byTimer } } : Hw).fset (powerA 0) 3 3 1)

/-- No entry is asked for any more. -/
def Hw.noEntry (h : Hw) : Hw :=
  (({ h with power := { h.power with goal := none, left := [], byTimer := false } } : Hw).fset (powerA 0) 3 3 0)

/-- Command code of POWER_STATE, with which the head carries an entry to its members (R389). -/
def codePowerState : Nat := 0x0901

/-- The head carries a power state to every member; directions that sleep wake for it (R252, R389). -/
def Hw.carryPower (h : Hw) (slot s : Nat) : Hw :=
  let ms := if h.isHead then h.conf.members else []
  let h := if ms = [] then h else h.wakePorts (h.conf.branches.filter fun p => (h.port p).txSleep != 0)
  let h := ms.foldl (fun h m => h.sendMsg m (.command h.devIndex slot codePowerState true [BitVec.ofNat 8 s] [])) h
  { h with power := { h.power with left := ms } }

/-- The condition of the timer that runs in the present state holds (Table 15.2). A member's own timers are suspended (R389). -/
def Hw.timerRuns (h : Hw) : Bool :=
  !h.isMember && h.lowOk && h.bget (powerA 4) h.pstate &&
    (h.pstate == 0 || h.pstate == 1 || (h.pstate == 2 && (h.seq.mode != .timed || h.bget (powerA 4) 3)))

/-- The timeout of that timer, in units of time; 0 acts as 1 (Table 15.11). -/
def Hw.timeoutLen (h : Hw) : Nat :=
  max 1 (h.reg (powerA (8 + 4 * h.pstate))).toNat * (if h.pstate = 2 then unitsPerSec else 10 ^ 6 * nsUnits)

/-- The timer restarts from zero: its condition has stopped holding, or a doorbell was rung in RUN. What an expired timer asked for is
then asked no more (R390). -/
def Hw.restartTimer (h : Hw) : Hw :=
  let h : Hw := { h with power := { h.power with idleFor := 0 } }
  if h.power.byTimer && h.power.goal.isSome then h.noEntry else h

/-- The timer of the present state counts a course clock of n units of time (R390). -/
def Hw.timerClock (h : Hw) (n : Nat) : Hw :=
  if h.timerRuns then { h with power := { h.power with idleFor := h.power.idleFor + n } } else h.restartTimer

/-- An expired timer asks for the entry to a state (R389, R390). Slot number 255 marks a command of no slot. -/
def Hw.timerEntry (h : Hw) (s : Nat) (ok : Bool) : Hw :=
  if h.pstate + 1 == s && h.timerRuns && decide (h.timeoutLen ≤ h.power.idleFor) && h.power.goal.isNone && ok then
    (h.carryPower 255 s).askEntry s true
  else h

/-- IDLE_TIMER: the run state has allowed entry for IDLE_TIMEOUT without a doorbell. -/
def execIdleTimer (h : Hw) : Hw := h.timerEntry 1 true
/-- DOZE_TIMER. -/
def execDozeTimer (h : Hw) : Hw := h.timerEntry 2 true
/-- SLEEP_TIMER: not after a TIMED run unless SLEEP_IN_TIMED is set, and not while R430 bars it. -/
def execSleepTimer (h : Hw) : Hw := h.timerEntry 3 (!h.sleepBarred)

/-! ## Entries -/

/-- An entry may go ahead: asked for, not deferred, no wake pending, the run state allows it, and every member has entered (R389,
R392, R396). -/
def Hw.mayEnter (h : Hw) (least : Nat) : Bool :=
  (match h.power.goal with | some g => decide (least ≤ g) | none => false) && h.lowOk && !h.deferredEntry &&
    h.power.left.isEmpty && h.power.source.isNone

/-- A state has been entered; the entry is complete when it was the one asked for. -/
def Hw.entered (h : Hw) (s : Nat) : Hw :=
  let h := h.setPstate s
  if h.power.goal = some s then h.noEntry else h

/-- ENTER_IDLE (R393). -/
def execEnterIdle (h : Hw) : Hw :=
  if h.mayEnter 1 && h.power.goal == some 1 && h.pstate == 0 then ((h.traceLowPower 1).portsSleep 1).entered 1 else h

/-- Every queue pair is emptied, with an event when one held something (Table 15.3, step 2). -/
def Hw.dropQueues (h : Hw) : Hw :=
  let held := h.qpairs.any fun kv => !kv.2.reqs.isEmpty || !kv.2.resps.isEmpty
  let h : Hw := { h with qpairs := [] }
  if held then h.raise evPowerQueuesDropped else h

/-- Step n of the DOZE entry (Table 15.3). The save of step 3 keeps what the wake restores, so it changes nothing that a
read could tell. Every event of the array dies reaches the FAULT block before their ports close (R409). -/
def Hw.dozeStep (h : Hw) (n : Nat) : Hw :=
  if n = 1 then h.acqAbort.traceLowPower 2
  else if n = 2 then h.dropQueues
  else if n = 4 then let h := h.drainEvents; { h with portWords := [], done := keepMarks h.done }
  else if n = 5 then h.portsSleep 1
  else if n = 6 then
    let u := h.uncert
    let h := if h.tStatus = 3 then h else h.raise evTimeHoldover
    let h := h.fset (timeA 0x10) 1 0 3
    { h with time := { h.time with uncertBase := u, holdLen := 0, servo := { h.time.servo with left := 0 } } }
  else h

/-- Earliest armed instant of a generator with WAKE_EN in a time mode (R308). -/
def Hw.alarmInstant (h : Hw) : Option Nat :=
  let ks := (List.range 32).filter fun k => h.bget (teA k 0) 15 && decide (h.teMode k < 2) && (h.te k).armed
  match ks.map fun k => (h.te k).next with
  | [] => none
  | t :: ts => some (ts.foldl min t)

/-- WAKE_LEAD in units of time (R408). -/
def Hw.wakeLead (h : Hw) : Nat := max 100 (min 10000 (h.fget (powerA 0x18) 15 0)) * 10 ^ 6 * nsUnits

/-- AON counter value of the time-event alarm, the instant less the lead (R308). -/
def Hw.alarmCount (h : Hw) : Option Nat :=
  h.alarmInstant.map fun t => (h.time.sleepCount + (t - h.wakeLead - h.time.sleepNow) * 32768 / unitsPerSec) % 2 ^ 48

/-- Ports armed for lane wake (R395, R400): at most 10, the lowest numbers first, a member's uplink always. -/
def Hw.armedPorts (h : Hw) : List Nat :=
  let named := ((List.range 12).filter fun p => h.bget (powerA 0x14) (4 + p)).take 10
  match h.conf.uplink with
  | some u => if named.contains u then named else (if named.length = 10 then named.take 9 else named) ++ [u]
  | none => named

/-- Registers that survive SLEEP, by name (R399, R422, R452), and those of domains that stay on (R214, R399, R408). -/
def savedNames : List String :=
  ["HUB.CLK_CTRL", "HUB.RIDGE_TIMEOUT", "TIME.CFG", "TIME.JUMP_THRESHOLD", "TIME.PPS_OUT", "TE.CTRL", "TE.AT", "TE.PERIOD",
   "TC.CTRL", "CALLS.CTRL", "CALLS.PORT_CFG", "CALLS.PORT_DEP_MASK", "CALLS.CLASS_WORKERS", "CALLS.CLASS_MISC",
   "CALLS.WQ_CTRL", "CALLS.WQ_DISP_BASE", "CALLS.WQ_COMP_BASE", "CALLS.WQ_DISP_TAIL", "CALLS.WQ_DISP_HEAD",
   "CALLS.WQ_COMP_TAIL", "CALLS.WQ_COMP_HEAD", "PROBE.CTRL", "PROBE.GROUP_EN", "PROBE.PAT_CFG", "PROBE.PAT_MASK",
   "PROBE.PAT_VALUE", "PROBE.THR_CFG", "PROBE.THR_LEVEL", "PROBE.WCH_CFG", "PROBE.WCH_DECIM", "PROBE.SLOT_COND",
   "PROBE.SLOT_ACTION", "PROBE.CNT_LIMIT", "PROBE.TMR_LIMIT", "ACQ.AUTO_TIMEOUT", "TRACE.CTRL", "TRACE.SINK",
   "TRACE.BASE", "TRACE.SIZE", "TRACE.WR_INDEX", "TRACE.RD_INDEX", "POWER.STATE", "POWER.TIMER_CTRL",
   "POWER.IDLE_TIMEOUT", "POWER.DOZE_TIMEOUT", "POWER.SLEEP_TIMEOUT", "POWER.WAKE_EN", "POWER.WAKE_LEAD",
   "POWER.AON_STAT_0", "POWER.AON_STAT_1", "POWER.PAD_STAT", "SEQ.RUN_CTRL", "SEQ.FRAME_LEN", "SEQ.WAIT_LIMIT",
   "BANK.ECC_CTRL", "FAR.CTRL", "TRUSSCFG.ECC_CTRL", "SCRUB.CTRL", "SCRUB.POS", "EAVE.CTRL", "EAVE.ERR_LIMIT",
   "EAVE.SLEEP_CTRL", "FAULT.GRP_STAT", "FAULT.GRP_MASK", "FAULT.ESC", "FAULT.IRQ", "FAULT.POISON",
   "FAULT.POISON_STAT", "FAULT.LOG", "EAVE.SIGDET", "HOSTIF.MBX_CFG", "HOSTIF.BAR2_MAP", "HOSTIF.SCR_OWNER", "HOSTIF.SCR_TEST",
   "USERIO.BANK_CFG", "USERIO.DIR", "USERIO.OUT", "USERIO.IN", "USERIO.DELAY_CAL", "USERIO.WCH_STAT", "USERIO.DELAY"]

/-- Load-time fields, which come back from IMAGE_SAVE (R399). -/
def loadedNames : List String := ["BRIDGE.LAT", "BANK.LAT", "FAR.LAT", "FAR.MAP", "EAVE.XLAT"]

/-- A register word keeps its value across a state in which its domain is off: SLEEP, or for the array dies alone DOZE. A mark
of the scrubber stays while the course store keeps the row (R283, R399). -/
def keptReg (arrayOnly : Bool) (a : Nat) : Bool :=
  if arrayOnly && (decide (a < 0x01000000) || decide (0x02000000 ≤ a)) then true
  else match regRowAt a with
    | some r => savedNames.contains r.name || loadedNames.contains r.name || (arrayOnly && r.name == "SCRUB.BAD_ROW")
    | none => false

/-- A register of a domain that stays on in SLEEP: AON and UIO (Table 1.5). -/
def aliveReg (a : Nat) : Bool :=
  aonReg a || a == powerA 0 || (decide (userioA 0 ≤ a) && decide (a < userioA 0 + 0x10000))

/-- Every bank latches the present state of its pins; a bank that is latched keeps what it holds (R397). -/
def Hw.latchPads (h : Hw) : Hw :=
  let pads := (List.range 512).foldl (fun m n => Store.set none m n (h.pinLevel n)) []
  ({ h with power := { h.power with pads := pads } } : Hw).setReg (powerA 0x28) 0xFFFF

/-! ## The background test of scratch banks (R448) -/

/-- Units of time in one microsecond. -/
def usUnits : Nat := 1000 * nsUnits

def scrA (k : Nat) : Nat := hostifA (0x100 + 4 * k)

/-- The least number of passes over a bank that has not failed. -/
def Hw.leastPasses (h : Hw) : Nat :=
  (((List.range 16).drop 2).filter fun b => !h.bget (hostifA 0x144) b).foldl
    (fun m b => min m (Store.get 0 h.host.slices b / 32)) (2 ^ 16)

/-- A slice returns its bank with its data restored: a failure is kept and raised, and a sweep ends with the last slice of the bank of the
lowest number of passes. -/
def Hw.endSlice (h : Hw) : Hw :=
  match h.host.slice with
  | none => h
  | some s =>
    let h := ({ h with host := { h.host with slice := none } } : Hw).fset (scrA s.bank) 8 8 0
    if !s.ok then (h.fset (hostifA 0x144) s.bank s.bank 1).raise evScratchTestFail
    else
      let before := h.leastPasses
      let h : Hw := { h with host := { h.host with
        slices := Store.set 0 h.host.slices s.bank (Store.get 0 h.host.slices s.bank + 1) } }
      h.bump (hostifA 0x144) 31 16 (h.leastPasses - before)

/-- A slice goes on by n units of time. -/
def Hw.sliceClock (h : Hw) (n : Nat) : Hw :=
  match h.host.slice with
  | some s => if s.left ≤ n then h.endSlice else { h with host := { h.host with slice := some { s with left := s.left - n } } }
  | none => h

/-- An access reaches scratch bank k: a borrowed one is returned before it is performed, and its idle time begins anew. -/
def Hw.reachBank (h : Hw) (k : Nat) : Hw :=
  let h := if h.host.slice.any (fun s => s.bank == k) then h.endSlice else h
  { h with host := { h.host with scrUsed := Store.set 0 h.host.scrUsed k h.calib } }

/-- Step n of the SLEEP entry (Table 15.4). Every event reaches the FAULT block before its registers are copied (R409,
R422). -/
def Hw.sleepStep (h : Hw) (n : Nat) : Hw :=
  if n = 1 then h.acqAbort.latchPads
  else if n = 2 then
    ({ h with time := { h.time with sleepNow := h.time.now, sleepCount := h.time.aon, sleepUncert := h.uncert } } : Hw).traceLowPower 3
  else if n = 3 then
    let h := h.endSlice.drainEvents
    { h with power := { h.power with saved := Store.keep (keptReg false) h.regs } }
  else if n = 4 then
    h.setReg (powerA 0x24) (BitVec.ofNat 32 (h.armedPorts.foldl (fun n p => n + 2 ^ p) 0))
  else if n = 5 then h.clearCalls
  else if n = 6 then ({ h.ppsStop with host := { h.host with ready := false } } : Hw).portsSleep 2
  else h

/-! ## Wakes (R396, R401 to R406) -/

/-- Step of Table 15.9 in which a unit is started. -/
def failStep (reason : Nat) : Nat := if reason = 1 then 2 else if reason = 2 then 3 else 5

/-- WAKE_FAILED: every lane is off, and every slot that was rung is answered NOT_READY (R406, R432). -/
def Hw.wakeFailed (h : Hw) (reason : Nat) : Hw :=
  let h := ((h.fset (powerA 0x20) 10 7 reason).fset (powerA 0x20) 14 11 (failStep reason)).fset (powerA 0x20) 19 19 1
  let h := (h.setPstate 4).fset (powerA 0) 4 3 0
  (({ h with power := { h.power with goal := none, left := [], source := none, byTimer := false }
             ports := [], host := { h.host with ready := false, waits := [] } } : Hw).answerAll stNotReady).alertLine true

/-- After a wake the firmware measures the delay tap again: a free value within 10 % of 4.9 ps, in femtoseconds (R497). -/
def Hw.measureTap (h : Hw) : Hw :=
  let (v, h) := h.takeFree
  h.fset (userioA 0x100) 15 0 (4410 + v.toNat % 981)

/-- The end of a wake: the delay tap measured, RUN, SYNC in the trace, and WAKE_DONE (Table 15.9, step 9). An entry that a command
asked for during the wake is still to come. -/
def Hw.wakeDone (h : Hw) (f : WakeFaults) : Hw :=
  let h := ((h.setPstate 0).fset (powerA 0) 4 4 0).bump (powerA 0x1C) 15 0
  let h := { h with power := { h.power with source := none, saved := [] } }
  let h := h.measureTap.lockPll.syncIfOn 1
  let h := if f.retried.isEmpty then h else h.raise evWakeRetry
  h.raise evWakeDone

/-- Registers after a wake from SLEEP: those of retention SRAM as step 3 of the entry copied them, and those of domains that
stayed on as they are now (R10, R399). -/
def Hw.wokenRegs (h : Hw) : Store Word32 :=
  (h.regs.filter fun kv => aliveReg kv.1).foldl (fun m kv => Store.set (regReset h.stepping kv.1) m kv.1 kv.2)
    (Store.keep (fun a => !aliveReg a) h.power.saved)

/-- What the array dies lose in DOZE and in SLEEP: the slates and every register not kept (R38, R399, Table 15.9). A kept
register keeps a value that waits for a frame boundary (R8). A loft write-back that still waits when the module enters DOZE is
lost with the rest of the truss state, and so is a far-memory one (DESIGN CHOICE: the spec says nothing of either; log entry
61). HALT_REASON, STEP_COUNT and the throttle flag lie in registers that Table 15.6 does not list. -/
def Hw.arrayBack (h : Hw) (arrayOnly : Bool) : Hw :=
  { h.updSeq fun s => { s with haltReason := 0, stepCount := 0, throttled := false } with
           regs := if arrayOnly then Store.keep (keptReg true) h.regs else h.wokenRegs
           rwf := Store.keep (keptReg arrayOnly) h.rwf
           trusses := [], banks := [], portWords := [], bridgeErr := [], probeIn := [], scrubSince := [], scrubSlots := []
           refreshAhead := [], refreshLate := [], farWb := [] }

/-- The time unit after SLEEP (R303). -/
def Hw.timeBack (h : Hw) : Hw :=
  let len := h.aonSince h.time.sleepCount
  let new := h.time.sleepNow + len * unitsPerSec / 32768
  let base := min 0xFFFFFFFF (h.time.sleepUncert + nsUp (len * unitsPerSec / 32768 * 50 / 10 ^ 6) + 30518)
  let h := (List.range 32).foldl (fun h k => h.teArm k)
    ({ h with time := { h.time with
      te := [], tc := [], now := h.time.sleepNow, tePath := [], last16 := [], refused := 0
      best := [none, none], utc := [none, none], offs := [0, 0] } } : Hw)
  let h := (h.setTStat 5 true).fset (timeA 0x10) 1 0 3
  let h : Hw := { h with time := { h.time with uncertBase := base, holdLen := 0 } }
  (h.stepTime new).enterPhase 3

/-- The wake from SLEEP on its success (Table 15.9). -/
def Hw.sleepBack (h : Hw) : Hw :=
  let gutters := h.pool.filter fun a => a.kind == 3
  let h := h.arrayBack false
  let h : Hw := { h with
    captured := [], pool := gutters, snap := { bayGen := h.snap.bayGen }, acq := {}, trace := {}
    seq := { h.seq with gridPeriod := 0, tagClk := 0xFFFFFF }
    calls := {}
    fw := { h.fw with transfer := none, verified := false, nonce := none, keyWords := 0 }
    fault := { h.fault with path := [] }
    done := []
    host := { h.host with ready := true, mpAlone := false, topo := [] } }
  let h := (h.clearScratch.noteFree).timeBack
  (List.range 12).foldl (fun h p =>
    let h := ((h.eset p 0x100 17 9 0).eset p 0x100 31 31 0)
    if (h.port p).started && h.bget (eaveA p 0) 0 then h.offWake p else h) h

/-- The retries of a wake are counted: the step that failed again was retried too (R405, R406). -/
def Hw.noteRetries (h : Hw) (f : WakeFaults) : Hw :=
  h.fset (powerA 0x20) 16 15 (min 3 (f.retried ++ f.failed.toList).eraseDups.length)

/-- A wake source, with the port of a lane wake. -/
def Hw.noteSource (h : Hw) (src port : Nat) : Hw := (h.fset (powerA 0x20) 2 0 src).fset (powerA 0x20) 6 3 port

/-- Whether a wake source acts in a state: its bit of WAKE_EN, and the states it wakes from (Table 15.8). -/
def Hw.wakesFrom (h : Hw) (st src port : Nat) : Bool :=
  let en (n : Nat) : Bool := h.bget (powerA 0x14) n
  if st = 2 then (src == 1 && en 0) || (src == 3 && en 2) || (src == 4 && en 3) || (src == 5 && en (4 + port))
  else if st = 3 then
    (src == 1 && en 0) || (src == 2 && en 1) || (src == 3 && en 2) || (src == 4 && en 3) ||
      (src == 5 && h.bget (powerA 0x24) port)
  else false

/-- Whether a wake source acts in the present state. -/
def Hw.wakes (h : Hw) (src port : Nat) : Bool := h.wakesFrom h.pstate src port

/-- An entry that is asked for ends with a wake source, and counts as aborted (R396). -/
def Hw.stopEntry (h : Hw) : Hw := if h.power.goal.isSome then h.noEntry.bump (powerA 0x1C) 31 16 else h

/-- A wake begins, or is pending while another is in progress (R401, R404). From SLEEP, a source that does not come from the
host asserts WAKE#. In DOZE on the way to SLEEP it ends that entry (R396). -/
def Hw.wakeBy (h : Hw) (src port : Nat) : Hw :=
  if h.power.source.isSome then h.fset (powerA 0x20) 22 20 src
  else
    let h := (h.stopEntry.noteSource src port).fset (powerA 0) 4 4 1
    let h : Hw := { h with power := { h.power with source := some src } }
    if h.pstate = 3 && src ≥ 3 then h.wakeLine true else h

/-- A member that woke by a source of its own wakes the head, and the head its members (R389). -/
def Hw.spreadWake (h : Hw) : Hw :=
  if h.isMember then h.sendMsg h.conf.head .wake
  else h.conf.members.foldl (fun h m => h.sendMsg m .wake) h

/-- Leaving IDLE: the array clock runs again and the lanes wake, on every module of the configuration (R389, R393, R467). Where
SLEEP_CTRL asks a lane to sleep, it goes to sleep again (R252). -/
def Hw.leaveIdle (h : Hw) : Hw :=
  if h.pstate = 1 then (((h.noEntry.setPstate 0).wakePorts (List.range 12)).applySleeps.syncIfOn 1).spreadWake
  else h

/-- A doorbell of the host, at a slot or a worker: in RUN the idle timer restarts, and IDLE is left (R390, R393). -/
def Hw.doorbell (h : Hw) : Hw := if h.pstate = 0 then h.restartTimer else h.leaveIdle

/-- PCIE_WAKE: the host moves the link out of its low-power state, so that WAKE# has done its work (R401). -/
def execPcieWake (h : Hw) : Hw :=
  let h := if h.host.linkUp then h.wakeLine false else h
  if h.wakes 2 0 then h.wakeBy 2 0 else h
/-- WAKE_PIN: a falling edge of WAKE_IN# held low for 10 µs. -/
def execWakePin (h : Hw) : Hw := if h.wakes 4 0 then h.wakeBy 4 0 else h
/-- Periods from the entry to SLEEP to an alarm value of the AON counter (R303, R308). -/
def Hw.aonLeft (h : Hw) (n : Nat) : Nat := (n + 2 ^ 48 - h.time.sleepCount) % 2 ^ 48
/-- WAKE_ALARM: in SLEEP the AON counter has reached the alarm (R308). -/
def execWakeAlarm (h : Hw) : Hw :=
  match h.alarmCount with
  | some n => if h.pstate = 3 && h.wakes 3 0 && decide (h.aonLeft n ≤ h.aonSince h.time.sleepCount) then h.wakeBy 3 0 else h
  | none => h
/-- LANE_WAKE: idle blocks resume on an L-QUIET direction, or `lanes` of lanes 0 to 3 have left electrical idle for 100 µs,
of which a module in SLEEP needs two (R253, R401). -/
def execLaneWake (h : Hw) (p lanes : Nat) : Hw :=
  if p ≥ 12 then h
  else if h.pstate = 3 then (if h.wakes 5 p && decide (2 ≤ lanes) then h.wakeBy 5 p else h)
  else
    let h := h.laneWakePort p
    if h.pstate = 2 && h.wakes 5 p then h.wakeBy 5 p else h

/-- The wake from DOZE: steps 5 to 9 (R403), and that of the other modules (R389). -/
def Hw.dozeWake (h : Hw) (f : WakeFaults) : Hw :=
  let h := h.noteRetries f
  match f.failed with
  | some r => h.wakeFailed r
  | none => ((((h.arrayBack true).wakePorts (List.range 12)).enterPhase 3).wakeDone f).applySleeps.spreadWake

/-- WAKE_FROM_DOZE. -/
def execWakeFromDoze (h : Hw) (f : WakeFaults) : Hw := if h.pstate = 2 && h.power.source.isSome then h.dozeWake f else h

/-- WAKE_FROM_SLEEP (Table 15.9). -/
def execWakeFromSleep (h : Hw) (f : WakeFaults) : Hw :=
  if h.pstate = 3 && h.power.source.isSome then
    let h := h.noteRetries f
    match f.failed with
    | some r => h.wakeFailed r
    | none => ((h.setPstate 0).sleepBack.wakeDone f).spreadWake
  else h

/-- A wake source arrives at the end of a step of an entry: the entry stops there and is counted, and the module wakes
from that point, with the retries and failures of any wake. While no domain is off, no step of the wake can fail (R396, R405). -/
def Hw.abortEntry (h : Hw) (c : EntryCut) (off : Bool) : Hw :=
  let h := h.stopEntry.noteSource c.src c.port
  if off then h.dozeWake c.faults
  else ((((h.setPstate 0).wakePorts (List.range 12)).applySleeps.syncIfOn 1).raise evWakeDone).spreadWake

/-- The steps 1 to n of an entry. -/
def Hw.steps (h : Hw) (f : Hw → Nat → Hw) (n : Nat) : Hw := (List.range n).foldl (fun h i => f h (i + 1)) h

/-- The cut of an entry that its source makes: a source that wakes from the state entered (R396, R401). -/
def Hw.cutOf (h : Hw) (st : Nat) (cut : Option EntryCut) : Option EntryCut := cut.filter fun c => h.wakesFrom st c.src c.port

/-- ENTER_DOZE (Table 15.3): the whole entry, or the steps up to the one at whose end a wake source has arrived. -/
def execEnterDoze (h : Hw) (cut : Option EntryCut) : Hw :=
  if !(h.mayEnter 2 && decide (h.pstate < 2)) then h
  else match h.cutOf 2 cut with
    | some c => (h.steps Hw.dozeStep (min c.step 6)).abortEntry c (decide (5 ≤ c.step))
    | none => (h.steps Hw.dozeStep 6).entered 2

end Sys2Proof.Machine
end

