-- ==== Sys2Proof/Machine/Mailbox.lean ====
section
/-!
DEFINITION. Mailbox slots and the transport of commands (R432, R436 to R443): rings, header tests, descriptors, forwarding,
completion, and the frame in which every Ovset command runs (R453 to R456).
-/

namespace Sys2Proof.Machine

/-! ## Slot writes (R434, R436, R437) -/

/-- SLOT_WRITE: a host write to a slot, of any size and any byte enables; the fields that the module writes keep their values. While
BUSY is 1 the write is discarded and counted (R434, R436, R437). -/
def execSlotWrite (h : Hw) (s off : Nat) (bytes : List (Option Byte)) : Hw :=
  if !h.hostOn || s ≥ 8 || decide (256 < off + bytes.length) then h
  else if h.slotBusy s then h.bump (hostifA 0x70) 15 0
  else bytes.zipIdx.foldl (fun h b =>
    let o := off + b.2
    match b.1 with
    | some x => if 8 ≤ o ∧ o < 16 then h else h.setSlotBytes s o [x]
    | none => h) h

/-! ## Rings (R402, R432, R437) -/

/-- MBX_RING. A doorbell leaves IDLE, and restarts the timer of RUN, whatever becomes of the slot. -/
def execMbxRing (h : Hw) (s : Nat) : Hw :=
  if !h.hostOn || s ≥ 8 then h
  else if h.slotBusy s then h.bump (hostifA 0x70) 31 16
  else
    let take (h : Hw) : Hw := { h.setSlotState s 1 with host := { (h.setSlotState s 1).host with ring := h.host.ring ++ [s] } }
    if h.pstate = 3 then
      if h.bget (powerA 0x14) 0 then ((take h).wakeBy 1 0) else h.hardAnswer s stNotReady
    else
      let h := h.doorbell
      if h.pstate = 4 || !h.host.ready then h.hardAnswer s stNotReady
      else if h.host.fwSwitch then h.hardAnswer s stBusy
      else
        let h := take h
        if h.wakes 1 0 then h.wakeBy 1 0 else h

/-! ## Descriptors (R440, R441) -/

structure Desc where
  addr : Nat
  len : Nat
  out : Bool
deriving DecidableEq, Repr

/-- One descriptor of 16 bytes; none when it breaks R440. -/
def descOf (bs : List Byte) : Option Desc :=
  let v := ofBytes bs
  let len := v / 2 ^ 64 % 2 ^ 32
  if v % 4 ≠ 0 ∨ len < 4 ∨ 16777216 < len ∨ len % 4 ≠ 0 ∨ 2 ≤ v / 2 ^ 96 then none
  else some ⟨v % 2 ^ 64, len, v / 2 ^ 96 == 1⟩

/-- The descriptors of a list of n; none when one breaks R440. -/
def descList (n : Nat) (bs : List Byte) : Option (List Desc) :=
  (List.range n).mapM fun i => descOf ((bs ++ List.replicate (16 * n) 0).drop (16 * i) |>.take 16)

/-- Descriptors in bytes, as a waiting command keeps them. -/
def descBytes (ds : List Desc) : List Byte :=
  ds.flatMap fun d => bytesOf 16 (d.addr + d.len * 2 ^ 64 + (if d.out then 2 ^ 96 else 0))

def streamLen (out : Bool) (ds : List Desc) : Nat := (ds.filter fun d => d.out == out).foldl (fun n d => n + d.len) 0

/-- Status that a read of host memory gives, or its data (R441). -/
def readResult : HostRead → Except Nat (List Byte)
  | .data bs => .ok bs
  | .aborted => .error stTimeout
  | .late => .error stTimeout
  | .poisoned => .error stIntegrity

/-- The module may issue memory requests (R429). -/
def Hw.dmaOn (h : Hw) : Bool := h.bme && h.host.linkUp

/-- Write an output stream to host memory (R440). -/
def Hw.writeOut (h : Hw) : List Desc → List Byte → Hw
  | [], _ => h
  | d :: ds, bs =>
    if bs.isEmpty then h
    else if d.out then Hw.writeOut (h.emit (.hostWrite d.addr (bs.take d.len))) ds (bs.drop d.len) else Hw.writeOut h ds bs

/-! ## The commands (Tables 18.2 to 18.12) -/

/-- What the tables give for a code: its target (true for C), whether its argument bytes are well formed, the lengths of its
streams, and whether it needs an array die or far memory (R402). RUN_START, REG_READ and REG_WRITE have answers of their own for a
module that is not awake (R404, R470; DEDUCED, log entry 64). -/
structure CmdSpec where
  code : Nat
  conf : Bool
  args : List Byte → Bool
  inLen : List Byte → Nat := fun _ => 0
  outLen : List Byte → Nat := fun _ => 0
  array : List Byte → Bool := fun _ => false

/-- Argument field: little-endian bytes of PAYLOAD (R453). -/
def arg (a : List Byte) (o n : Nat) : Nat := ofBytes ((a.drop o).take n)

/-- A block of Table 18.13: base and size, whether it is a service block, and whether it lies on an array die. -/
def regBlocks : List (Nat × Nat × Bool × Bool) :=
  ((List.range 9).map fun i => (i * 0x10000, 0x10000, false, false)) ++ [(0x90000, 0x10000, true, false)] ++
  ([0, 1].flatMap fun d => ((List.range 6).map fun i => (dieBase d + i * 0x100000, 0x100000, false, true)) ++
    [(dieBase d + 0x600000, 0x200000, true, true)]) ++
  ((List.range 12).flatMap fun p => [(0x02000000 + p * 0x10000, 0x8000, false, false),
    (0x02008000 + p * 0x10000, 0x8000, true, false)])

/-- The block that holds an address. -/
def blockAt (a : Nat) : Option (Nat × Nat × Bool × Bool) :=
  regBlocks.find? fun b => decide (b.1 ≤ a) && decide (a < b.1 + b.2.1)

/-- ADDR and COUNT of a register command lie in one block (R470, R472). -/
def regRange (a : List Byte) : Bool :=
  let ad := arg a 0 4
  let n := arg a 4 1
  arg a 5 3 == 0 && ad % 4 == 0 && decide (1 ≤ n) && decide (n ≤ 54) &&
    (match blockAt ad with | some b => decide (ad + 4 * (n - 1) < b.1 + b.2.1) | none => false)

/-- SPACE, DIE, bank and range of a memory command (R462): a range outside its space is an argument fault. -/
def memRange (a : List Byte) : Bool :=
  let sp := arg a 0 1
  let die := arg a 1 1
  let bank := arg a 2 2
  let ad := arg a 8 8
  let len := arg a 16 4
  let size := if sp = 1 then 48 * 2 ^ 30 else if sp = 2 then 0x40000 else 0x10000
  decide (1 ≤ sp) && decide (sp ≤ 3) && decide (die ≤ 1) && (sp != 3 || die == 0) &&
    (if sp = 1 then bank == 0 else if sp = 2 then decide (bank < 64) else decide (bank < 16)) && arg a 4 4 == 0 &&
    ad % 8 == 0 && len % 8 == 0 && decide (8 ≤ len) && decide (len ≤ 16777216) && arg a 20 4 == 0 &&
    decide (ad + len ≤ size)

/-- Units and their sizes for READBACK (R464): units, first-address limit, bytes of an item. -/
def readbackUnit (kind : Nat) : Nat × Nat × Nat :=
  if kind = 1 then (512, 2048, 8) else if kind = 2 then (64, 32768, 8) else if kind = 3 then (512, 2048, 464) else (512, 256, 8)

def readbackOk (a : List Byte) : Bool :=
  let k := arg a 0 1
  let (u, n, _) := readbackUnit k
  decide (1 ≤ k) && decide (k ≤ 4) && decide (arg a 1 1 ≤ 1) && decide (arg a 2 2 < u) && decide (1 ≤ arg a 8 4) &&
    decide (arg a 4 4 + arg a 8 4 ≤ n) && arg a 12 4 == 0

/-- POOL_ALLOC's arguments (R463). -/
def poolArgs (a : List Byte) : Bool :=
  let k := arg a 0 1
  let size := arg a 4 4
  if k = 1 then arg a 1 1 == 0 && decide (arg a 2 1 < 16) && decide (arg a 3 1 ≤ 1) && size == 0
  else if k = 2 then decide (arg a 1 1 ≤ 1) && arg a 2 2 == 0 && decide (1 ≤ size) && decide (size ≤ 8192)
  else k == 3 && decide (arg a 1 1 ≤ 1) && arg a 2 2 == 0 && (List.range 13).any fun i => size == 2 ^ i

def noArgs (a : List Byte) : Bool := a.isEmpty
def isLen (n : Nat) (a : List Byte) : Bool := a.length == n

def cmdSpecs : List CmdSpec := [
  { code := 0x0101, conf := false, args := noArgs },
  { code := 0x0102, conf := false, args := noArgs },
  { code := 0x0103, conf := false, args := fun a => isLen 1 a && decide (arg a 0 1 < 12) },
  { code := 0x0201, conf := false, args := isLen 8, inLen := fun _ => 256, array := fun _ => true },
  { code := 0x0202, conf := false, args := isLen 8, inLen := fun _ => 1, array := fun _ => true },
  { code := 0x0203, conf := false, args := fun a => isLen 1 a && decide (arg a 0 1 ≤ 1), array := fun _ => true },
  { code := 0x0204, conf := false, args := noArgs },
  { code := 0x0301, conf := true, args := fun a => isLen 16 a && decide (arg a 8 1 ≤ 1) && arg a 9 7 == 0 },
  { code := 0x0302, conf := true, args := noArgs },
  { code := 0x0303, conf := true, args := fun a => isLen 40 a && decide (arg a 1 1 ≤ 1) && arg a 2 2 == 0 && arg a 8 8 == 0 &&
      arg a 30 2 == 0 },
  { code := 0x0304, conf := true, args := noArgs },
  { code := 0x0401, conf := false, args := fun a => isLen 4 a && decide (arg a 0 1 < 4) && decide (arg a 1 1 < 4) &&
      decide (arg a 2 1 ≤ 1) && decide (arg a 3 1 ≤ 191) },
  { code := 0x0402, conf := false, args := fun a => isLen 24 a && memRange a, outLen := fun a => arg a 16 4,
    array := fun a => decide (arg a 0 1 ≤ 2) },
  { code := 0x0403, conf := false, args := fun a => isLen 24 a && memRange a, inLen := fun a => arg a 16 4,
    array := fun a => decide (arg a 0 1 ≤ 2) },
  { code := 0x0404, conf := false, args := fun a => isLen 8 a && poolArgs a, array := fun a => arg a 0 1 == 3 },
  { code := 0x0405, conf := false, args := fun a => isLen 2 a && decide (1 ≤ arg a 0 1) && decide (arg a 0 1 ≤ 3) &&
      decide (arg a 1 1 < 16) },
  { code := 0x0406, conf := true, args := fun a => isLen 16 a && decide (arg a 0 1 < 16) && arg a 1 3 == 0,
    array := fun _ => true },
  { code := 0x0407, conf := true, args := fun a => isLen 1 a && decide (arg a 0 1 < 16), array := fun _ => true },
  { code := 0x0408, conf := false, args := fun a => isLen 16 a && readbackOk a,
    outLen := fun a => arg a 8 4 * (readbackUnit (arg a 0 1)).2.2, array := fun _ => true },
  { code := 0x0501, conf := false, args := fun a => isLen 2 a && decide (arg a 0 2 < 0x1000) },
  { code := 0x0502, conf := false, args := fun a => isLen 4 a && decide (arg a 0 2 < 0x1000) && decide (arg a 2 1 ≤ 1) &&
      arg a 3 1 == 0 },
  { code := 0x0601, conf := false, args := noArgs },
  { code := 0x0602, conf := false, args := fun a => isLen 1 a && decide (1 ≤ arg a 0 1) && decide (arg a 0 1 ≤ 3) },
  { code := 0x0603, conf := false, args := isLen 8 },
  { code := 0x0701, conf := true, args := fun a => isLen 24 a && arg a 2 2 == 0 && arg a 12 4 == 0, array := fun _ => true },
  { code := 0x0702, conf := true, args := isLen 8 },
  { code := 0x0703, conf := false, args := noArgs },
  { code := 0x0801, conf := false, args := fun a => isLen 4 a && decide (arg a 0 2 < 4096) && decide (arg a 2 1 < 16) &&
      arg a 3 1 == 0 },
  { code := 0x0802, conf := false, args := noArgs },
  { code := 0x0901, conf := true, args := fun a => isLen 1 a && decide (arg a 0 1 ≤ 3) },
  { code := 0x0902, conf := true, args := fun a => isLen 1 a && decide (arg a 0 1 ≤ 3), array := fun _ => true },
  { code := 0x0903, conf := false, args := fun a => isLen 4 a && decide (arg a 2 1 ≤ 1) && arg a 3 1 == 0 },
  { code := 0x0A01, conf := false, args := fun a => isLen 2 a && decide (1 ≤ arg a 1 1) && decide (arg a 1 1 ≤ 52) &&
      decide (arg a 0 1 + arg a 1 1 ≤ 72) },
  { code := 0x0A02, conf := false, args := fun a => isLen 4 a && decide (arg a 0 1 < 72) && arg a 1 1 == 0 },
  { code := 0x0A03, conf := false, args := fun a => isLen 2 a && decide (1 ≤ arg a 1 1) && decide (arg a 1 1 ≤ 13) &&
      decide (arg a 0 1 + arg a 1 1 ≤ 32) },
  { code := 0x0A04, conf := false, args := isLen 4 },
  { code := 0x0B01, conf := false, args := fun a => isLen 8 a && arg a 0 4 % 4096 == 0 && arg a 4 4 % 4 == 0 &&
      decide (4096 ≤ arg a 4 4) && decide (arg a 4 4 ≤ 33554432) && decide (arg a 0 4 < arg a 4 4),
    inLen := fun a => min 4096 (arg a 4 4 - arg a 0 4) },
  { code := 0x0B02, conf := false, args := noArgs },
  { code := 0x0B03, conf := true, args := fun a => isLen 20 a && decide (arg a 0 1 ≤ 1) && arg a 1 3 == 0 && arg a 18 2 == 0 },
  { code := 0x0B04, conf := false, args := noArgs },
  { code := 0x0B05, conf := false, args := noArgs },
  { code := 0x0B06, conf := false, args := fun a => isLen 68 a && decide (arg a 0 1 ≤ 1) && arg a 1 3 == 0 &&
      (arg a 0 1 == 0 || arg a 36 32 == 0) },
  { code := 0x0B07, conf := false, args := noArgs },
  { code := 0x0C01, conf := false, args := fun a => isLen 8 a && regRange a },
  { code := 0x0C02, conf := false, args := fun a => a.length == 8 + 4 * arg a 4 1 && regRange a }]

def specOf (code : Nat) : Option CmdSpec := cmdSpecs.find? fun c => c.code == code

/-- The class of R455 that a code belongs to; 0 for none. -/
def classOf (code : Nat) : Nat :=
  if code / 256 = 2 then 1
  else if (0x0301 ≤ code ∧ code ≤ 0x0304) ∨ (0x0901 ≤ code ∧ code ≤ 0x0903) then 2
  else if code = 0x0406 ∨ code = 0x0407 ∨ code = 0x0404 then 3
  else if code = 0x0B01 ∨ code = 0x0B02 ∨ code = 0x0B03 ∨ code = 0x0B05 ∨ code = 0x0B06 ∨ code = 0x0B07 then 4
  else 0

/-- Waiting commands whose code marks them as forwarded hold no class of this module. -/
def forwardedCode : Nat := 0x10000

/-- A slot other than `src` holds a CONFIG_FORM of this module, which waits until its members are reachable (R459). -/
def Hw.formHeld (h : Hw) (src : CmdSrc) : Bool :=
  (List.range 8).any fun s =>
    h.slotState s == 3 && h.slotField s 0 2 == 0x0301 && h.slotField s 4 1 == h.devIndex && src != .slot s

/-- A command of the class already runs here (R455); a pending activation counts as one of the firmware class (R480), and an image that
is being checked or applied as one of the image class, whether or not its command still waits (R270). -/
def Hw.classBusy (h : Hw) (src : CmdSrc) (code : Nat) : Bool :=
  let c := classOf code
  c != 0 && ((h.host.waits.any fun w => decide (w.code < forwardedCode) && classOf w.code == c) ||
    (c == 4 && h.fw.pending.isSome) || (c == 2 && h.formHeld src) ||
    (c == 1 && (match h.img.load with | some l => l.phase != .receiving | none => false)))

/-! ## The known set and its paths (R442) -/

/-- The module forwards commands for its host: its link is trained and it is no member (R442). -/
def Hw.forwards (h : Hw) : Bool := h.host.linkUp && !h.isMember

/-- The first link towards a module, where it sleeps, is woken for a message (R252, R443). -/
def Hw.wakePath (h : Hw) (d : Nat) : Hw := h.wakePorts ((h.msgPorts d).filter fun p => (h.port p).txSleep != 0)

def Hw.settled (h : Hw) : Bool := h.bget (hostifA 0x80) 0

/-- HOSTIF.KNOWN (R452). -/
def Hw.knownSet (h : Hw) : Word64 := ofBits 64 fun i => h.known.contains i

/-- End held commands whose target is still unknown (R443). -/
def Hw.endUnknown (h : Hw) : Hw :=
  (List.range 8).foldl (fun h s =>
    let t := h.slotField s 4 1
    if h.slotState s == 3 && t != h.devIndex && !h.known.contains t then h.completeSlot s stDeviceAbsent [] else h) h

/-- DISCOVERY_SETTLED: 500 ms have passed without a port of this module or of a known one in training (R442). -/
def execDiscoverySettled (h : Hw) : Hw :=
  let training (s : PortState) : Bool := s == .train || s == .align || s == .calibrate
  let quiet := (List.range 12).all (fun p => (h.port p).started && !training (h.port p).state) &&
    !h.host.topo.any fun t => t.training && h.known.contains t.device
  if h.host.ready && quiet then (h.fset (hostifA 0x80) 0 0 1).endUnknown else h

/-! ## The header and forwarding (R438, R443) -/

/-- The header's lengths and reserved bits are in order (R438, test 2). -/
def Hw.headerOk (h : Hw) (s : Nat) : Bool :=
  decide (h.slotField s 5 1 ≤ 224) && decide (h.slotField s 0x18 2 ≤ 256) && h.slotField s 0x10 1 % 16 == 0 &&
    decide (h.slotField s 4 1 < 64) && decide (h.slotField s 6 1 ≤ 1) && h.slotField s 7 1 == 0 && h.slotField s 0x1A 6 == 0

/-- Arguments of a slot's command. -/
def Hw.slotArgs (h : Hw) (s : Nat) : List Byte :=
  (List.range (h.slotField s 5 1)).map fun i => h.slotByte s (0x20 + i)

/-- Read the descriptor list of a slot's command: its descriptors, or the status of a list fault. -/
def Hw.readList (h : Hw) (s : Nat) (io : HostIo) : Except Nat (List Desc) :=
  let n := h.slotField s 0x18 2
  if n = 0 then .ok []
  else match readResult io.list with
    | .error e => .error e
    | .ok bs => match descList n bs with
      | some ds => .ok ds
      | none => .error stBadArgument

/-- The list and the input stream of a command from a slot (R441): the descriptors and the input, a list fault, or `none`
while the list cannot be read, for want of Bus Master Enable or of a trained link (R429). -/
def Hw.streams (h : Hw) (s : Nat) (io : HostIo) (needIn needOut : Nat) : Option (Except Nat (List Desc × List Byte)) :=
  if h.slotField s 0x18 2 = 0 then
    some (if needIn = 0 && needOut = 0 then .ok ([], []) else .error stBadArgument)
  else if needIn = 0 && needOut = 0 then some (.error stBadArgument)
  else if !h.dmaOn then none
  else match h.readList s io with
    | .error e => some (.error e)
    | .ok ds =>
      if streamLen false ds ≠ needIn ∨ streamLen true ds ≠ needOut then some (.error stBadArgument)
      else if needIn = 0 then some (.ok (ds, []))
      else match readResult io.input with
        | .error e => some (.error e)
        | .ok bs => some (.ok (ds, (bs ++ List.replicate needIn 0).take needIn))

/-- The list and the input of an IMAGE_BLOCK that goes to another module, whose own tests give the length of its stream (R266,
R455). -/
def Hw.blockStream (h : Hw) (s : Nat) (io : HostIo) : Option (Except Nat (List Desc × List Byte)) :=
  if h.slotField s 0x18 2 = 0 then some (.ok ([], []))
  else if !h.dmaOn then none
  else match h.readList s io with
    | .error e => some (.error e)
    | .ok ds =>
      if ds.any (·.out) then some (.error stBadArgument)
      else match readResult io.input with
        | .error e => some (.error e)
        | .ok bs => some (.ok (ds, (bs ++ List.replicate (streamLen false ds) 0).take (streamLen false ds)))

/-- Forward a slot's command: the module that has the slot makes the tests of its arguments and of its descriptor list, in that
order, and its input stream is read and travels with it (R441, R443, R453, R455). -/
def Hw.forward (h : Hw) (s : Nat) (io : HostIo) : Hw :=
  let code := h.slotField s 0 2
  let target := h.slotField s 4 1
  let a := h.slotArgs s
  match specOf code with
  | none => h
  | some sp =>
    if !sp.args a then h.completeSlot s stBadArgument []
    else match (if code = 0x0202 then h.blockStream s io else h.streams s io (sp.inLen a) (sp.outLen a)) with
      | none => h
      | some (.error e) => h.completeSlot s e []
      | some (.ok (ds, bs)) =>
        let w : Wait := ⟨.slot s, forwardedCode + code, descBytes ds, [], [target], 1, none⟩
        let h := h.setSlotState s 4
        ({ h with host := { h.host with waits := h.host.waits ++ [w] } } : Hw).sendMsg target
          (.command h.devIndex s code false a bs) code

/-- The codes that a member answers on its own mailbox (R31, R455). -/
def identityCodes : List Nat := [0x0101, 0x0102, 0x0103]

/-- Start a slot's command after its header has passed tests 1 and 2 (R438, R442, R443). -/
def Hw.route (h : Hw) (s : Nat) (io : HostIo) : Hw :=
  let code := h.slotField s 0 2
  let t := h.slotField s 4 1
  if t = h.devIndex then
    if h.isMember && !identityCodes.contains code then h.completeSlot s stLocked [] else h.setSlotState s 2
  else if !h.forwards then h.completeSlot s stDeviceAbsent []
  else if h.known.contains t then
    let h := h.wakePath t
    if h.pathActive t then h.forward s io else h.setSlotState s 3
  else if h.settled then h.completeSlot s stDeviceAbsent []
  else h.setSlotState s 3

/-- MBX_TAKE: the MP takes the slot that was rung first and tests its header (R438). -/
def execMbxTake (h : Hw) (io : HostIo) : Hw :=
  match h.host.ring with
  | [] => h
  | s :: rest =>
    if !h.host.ready || h.host.fwSwitch || h.pstate ≥ 3 then h
    else
      let h : Hw := { h with host := { h.host with ring := rest } }
      let h := h.setSlotState s 2
      if (specOf (h.slotField s 0 2)).isNone then h.completeSlot s stBadCommand []
      else if !h.headerOk s then h.completeSlot s stBadArgument []
      else h.route s io

/-- HELD_FORWARD: the target has become known and its path is ACTIVE, or the descriptor list can be read; a sleeping direction of
the path is woken (R443). -/
def execHeldForward (h : Hw) (s : Nat) (io : HostIo) : Hw :=
  let t := h.slotField s 4 1
  if s < 8 && (h.slotState s == 3 || h.slotState s == 2) && t != h.devIndex && h.known.contains t then
    let h := h.wakePath t
    if h.pathActive t then h.forward s io else h
  else h

/-- Drop the waiting commands of a slot. -/
def Hw.dropWaits (h : Hw) (src : CmdSrc) : Hw :=
  { h with host := { h.host with waits := h.host.waits.filter fun w => w.src != src } }

/-- Code of a wait for Bus Master Enable: the output of a command that is over cannot be written yet (R429). -/
def outputCode : Nat := 0x20000

/-- End a command whose descriptor list, if it has one, could be read just now: its slot completes, its output written, or its reply
goes back over the link (R439, R443). -/
def Hw.endCmd (h : Hw) (src : CmdSrc) (ds : List Desc) (status : Nat) (reply output : List Byte) : Hw :=
  let h := h.dropWaits src
  match src with
  | .slot s => (h.writeOut ds output).completeSlot s status reply
  | .link o s =>
    let code := ((h.host.fwd.find? fun c => c.origin == o && c.slot == s).map (·.code)).getD 0
    ({ h with host := { h.host with fwd := h.host.fwd.filter fun c => !(c.origin == o && c.slot == s) } } : Hw).sendMsg o
      (.reply s h.devIndex status reply output) code

/-- End a command later than its list was read: its output is written once it can be (R429). -/
def Hw.endLater (h : Hw) (src : CmdSrc) (ds : List Desc) (status : Nat) (reply output : List Byte) : Hw :=
  if h.dmaOn || output.isEmpty || !ds.any (·.out) then h.endCmd src ds status reply output
  else
    let w : Wait := ⟨src, outputCode, bytesOf 2 ds.length ++ descBytes ds ++ output, reply, [], 1, some (0, status)⟩
    { h.dropWaits src with host := { (h.dropWaits src).host with waits := (h.dropWaits src).host.waits ++ [w] } }

/-- A CONFIG_FORM that came over a link and has not begun to act: it waits for its members (R459). -/
def Hw.heldForm (h : Hw) (n : Nat) : Option FwdCmd :=
  h.host.fwd.find? fun c => 64 + 8 * c.origin + c.slot == n && c.code == 0x0301 && !c.conf &&
    !h.host.waits.any fun w => w.src == .link c.origin c.slot

/-- HELD_COMMAND_TIMEOUT: held for 30 s, or a port of the path has entered ABSENT (R443, R459). The number names a slot of this
module, or as `CmdSrc.tag` does a CONFIG_FORM that came over a link. -/
def execHeldCommandTimeout (h : Hw) (s : Nat) : Hw :=
  if s < 8 then
    if h.slotState s == 3 then (h.dropWaits (.slot s)).completeSlot s stDeviceAbsent [] else h
  else match h.heldForm s with
    | some c => h.endCmd (.link c.origin c.slot) [] stDeviceAbsent [] []
    | none => h

/-- The output of the slot's command, which is over, waits to be written. -/
def Hw.outputWaits (h : Hw) (s : Nat) : Bool := h.host.waits.any fun w => w.src == .slot s && w.code == outputCode

/-- The slot runs or holds a command that reads a descriptor list, or one whose output waits to be written. -/
def Hw.readsList (h : Hw) (s : Nat) : Bool :=
  decide (s < 8) && (h.slotState s == 2 || h.slotState s == 3 || h.outputWaits s) && h.slotField s 0x18 2 != 0

/-- DESC_BME_TIMEOUT: 1 s without Bus Master Enable, or without a link (R429). -/
def execDescBmeTimeout (h : Hw) (s : Nat) : Hw :=
  if h.readsList s && !h.dmaOn then (h.dropWaits (.slot s)).completeSlot s stTimeout [] else h

/-- HOST_READ_TIMEOUT: no completion of a host read within 50 ms (R441). A command whose output waits has no read left. -/
def execHostReadTimeout (h : Hw) (s : Nat) : Hw :=
  if h.readsList s && !h.outputWaits s then (h.dropWaits (.slot s)).completeSlot s stTimeout [] else h

/-! ## Running a command (R453 to R456) -/

/-- What a command's own rule gives: its end, with reply and output stream, or a wait. -/
inductive Res where
  | done (status : Nat) (reply output : List Byte)
  /-- A reply that waits: for the tests of other modules (phase 0, with the status of this module's own tests), or for the
  end of the command itself (phase 1). -/
  | wait (phase own : Nat) (reply : List Byte) (left : List Nat)
  /-- The command cannot begin yet, and stays as it is. -/
  | later
deriving DecidableEq, Repr

/-- What a command finds when it begins. -/
structure Call0 where
  src : CmdSrc
  code : Nat
  args : List Byte
  /-- A configuration command's share, sent by the head. -/
  share : Bool
  input : List Byte
deriving DecidableEq, Repr

/-- The module can run commands: the firmware is ready and no switch is in progress. -/
def Hw.mpTakes (h : Hw) : Bool := h.power.powered && h.host.ready && !h.host.fwSwitch

/-- The command that a row performs: a slot in state RUNNING or HELD, or a command that came over a link; none when the
source holds no such command. -/
def Hw.pick (h : Hw) (src : CmdSrc) (code : Nat) : Option (List Byte × Bool × List Byte) :=
  match src with
  | .slot s =>
    if s < 8 && (h.slotState s == 2 || h.slotState s == 3) && h.slotField s 0 2 == code && h.slotField s 4 1 == h.devIndex &&
        !h.host.waits.any (fun w => w.src == src) then
      some (h.slotArgs s, false, [])
    else none
  | .link o s =>
    if h.host.waits.any fun w => w.src == src then none
    else (h.host.fwd.find? fun c => c.origin == o && c.slot == s && c.code == code).map fun c => (c.args, c.conf, c.input)

/-- The streams of a command, wherever it comes from. -/
def Hw.gather (h : Hw) (src : CmdSrc) (linkIn : List Byte) (io : HostIo) (needIn needOut : Nat) :
    Option (Except Nat (List Desc × List Byte)) :=
  match src with
  | .slot s => h.streams s io needIn needOut
  | .link _ _ => some (if linkIn.length = needIn then .ok ([], linkIn) else .error stBadArgument)

/-- A command waits with what it already knows of its reply. -/
def Hw.park (h : Hw) (c : Call0) (phase own : Nat) (reply : List Byte) (left : List Nat) : Hw :=
  let fail := if own = stOk then none else some (h.devIndex, own)
  { h with host := { h.host with waits := h.host.waits ++ [⟨c.src, c.code, c.args, reply, left, phase, fail⟩] } }

/-- In DOZE, a command that needs an array die or far memory first wakes the module; any command leaves IDLE (R393, R402). -/
def Hw.wakeFor (h : Hw) (array : Bool) : Hw × Bool :=
  if h.pstate = 1 then (h.leaveIdle, true)
  else if h.pstate = 2 && array then (if h.power.source.isSome then h else h.wakeBy 1 0, false)
  else (h, decide (h.pstate < 3))

/-- The descriptors of the slot, for a command that began. -/
def finishRes (h : Hw) (c : Call0) (ds : List Desc) : Res → Hw
  | .done st reply out => h.endCmd c.src ds st reply out
  | .wait phase own reply left => h.park c phase own reply left
  | .later => h

/-- Run a command from its source: the argument tests, the list tests, the test for its class, and then its own rule (R453 to
R455). `act` is that rule. -/
def Hw.runCmd (h : Hw) (src : CmdSrc) (code : Nat) (io : HostIo) (act : Call0 → Hw → Res × Hw) : Hw :=
  match h.pick src code, specOf code with
  | some (args, share, linkIn), some sp =>
    if !h.mpTakes then h
    else if !share && !sp.args args then h.endCmd src [] stBadArgument [] []
    else
      let (h, go) := h.wakeFor (sp.array args)
      if !go then h
      else match h.gather src linkIn io (sp.inLen args) (sp.outLen args) with
        | none => h
        | some (.error e) => h.endCmd src [] e [] []
        | some (.ok (ds, input)) =>
          if !share && h.classBusy src code then h.endCmd src ds stBusy [] []
          else if sp.conf && !share && h.isMember then h.endCmd src ds stRefused [] []
          else
            let c : Call0 := ⟨src, code, args, share, input⟩
            let (r, h) := act c h
            finishRes h c ds r
  | _, _ => h

/-- Members that must act on a configuration command, unless this is itself a member's share (R454). -/
def Hw.crew (h : Hw) (c : Call0) : List Nat := if c.share || !h.isHead then [] else h.conf.members

/-- Send modules their share of a configuration command: what they test (0) or do (1), and its operands. -/
def Hw.sendShares (h : Hw) (c : Call0) (ms : List Nat) (phase : Byte) (operands : List Byte) : Hw :=
  ms.foldl (fun h m => h.sendMsg m (.command h.devIndex c.src.tag c.code true (phase :: operands) [])) h

/-- The order in which the tests that a configuration command makes on every module decide its status (R454, R455). -/
def testOrder (code : Nat) : List Nat :=
  match code with
  | 0x0303 => [stRefused, stNotReady]
  | 0x0406 => [stBusy, stNotReady, stRefused, stNoResource]
  | 0x0407 => [stRefused, stBusy, stMismatch]
  | 0x0701 => [stBadArgument, stRefused, stNoResource, stBusy]
  | 0x0B03 => [stRefused, stNotReady, stBadArgument, stBusy]
  | _ => []

def testRank (code st : Nat) : Nat := (testOrder code).findIdx fun s => s == st

/-- A configuration command on its own module, or on the head: `own` is the status of this module's tests. The members
that the command concerns test next; without any, or when this module fails the first test, the command acts, or ends. -/
def Hw.crewRun (h : Hw) (c : Call0) (ms : List Nat) (own : Nat) (operands : List Byte) (act : Call0 → Hw → Res × Hw) :
    Res × Hw :=
  if ms = [] || (own != stOk && testRank c.code own == 0) then (if own = stOk then act c h else (.done own [] [], h))
  else (.wait 0 own [] ms, h.sendShares c ms 0 operands)

/-- A member's share: its tests alone, or its part of the command. -/
def memberShare (c : Call0) (test : List Byte → Nat) (act : List Byte → Hw → Hw) (h : Hw) : Res × Hw :=
  match c.args with
  | 0 :: ops => (.done (test ops) [] [], h)
  | _ :: ops => (.done stOk [] [], act ops h)
  | [] => (.done stBadArgument [] [], h)

end Sys2Proof.Machine
end

