-- ==== Sys2Proof/Machine/Ridge.lean ====
section
/-!
DEFINITION. Memory accesses of the host over the ridge network: single words (R169, R171, R174, R191 to R193, R445, R446),
BAR2 (R444 to R446), the owners of scratch banks and of design memory banks (R172, R447), and the background test of scratch
banks (R448).
-/

namespace Sys2Proof.Machine

/-- Why a word of an access fails, in the order of BAR2_ERR.CAUSE (Table 17.8). -/
inductive Failure where
  | none | range | timeout | down | locked | bad
deriving DecidableEq, Repr

def Failure.cause : Failure → Nat
  | .none => 1
  | .range => 2
  | .timeout => 3
  | .down => 4
  | .locked => 5
  | .bad => 6

/-- The status of a memory command whose word fails (R462). A write of a region that only BAR2's rules close ends as a
malformed range. -/
def Failure.status : Failure → Nat
  | .none => stBadArgument
  | .range => stBadArgument
  | .timeout => stTimeout
  | .down => stNotReady
  | .locked => stLocked
  | .bad => stIntegrity

/-- A word that host software reaches: of far memory, of a design memory bank, or of a scratch bank. -/
inductive Place where
  | far (d w : Nat)
  | bank (d j w : Nat)
  | scratch (k w : Nat)
deriving DecidableEq, Repr

/-! ## Far memory (R176, R177, R191) -/

/-- First byte address of IMAGE_SAVE and of VALID_MAP (Table 6.9). -/
def imageSaveBase : Nat := 0xBCA000000
def validMapBase : Nat := 0xBFA000000

/-- Die-local byte address of a stack offset (R176): s is the stack's place on its die. -/
def stackAddr (s o : Nat) : Nat := o / 256 * 512 + s * 256 + o % 256

/-- The valid bit of line i of stack s: 1 outside the DESIGN region, else the kept bit (R191). -/
def Hw.lineBit (h : Hw) (d s i : Nat) : Bool := h.farWritten d (stackAddr s (64 * i) / 8)

/-- A word of the VALID_MAP region: 64 valid bits. -/
def Hw.validMapWord (h : Hw) (d w : Nat) : Word64 :=
  let b := 8 * w
  let o := b / 512 * 256 + b % 256
  let first := (o - (24 * 2 ^ 30 - 48 * 2 ^ 20)) * 8
  ofBits 64 fun n => h.lineBit d (b / 256 % 2) (first + n)

/-- A far-memory word as the host reads it, after the design requests of its pseudo-channel (R187). What the MP saves in IMAGE_SAVE has
no layout in the manual: a free value. -/
def Hw.farHostRead (h : Hw) (d w : Nat) (first : Bool) : Except Failure Word64 × Hw :=
  if validMapBase ≤ 8 * w then
    let h := h.ridgeWaits d w
    (.ok (h.validMapWord d w), h)
  else if imageSaveBase ≤ 8 * w then
    let (v, h) := (h.ridgeWaits d w).takeFree
    (.ok v, h)
  else match h.farRidgeRead d w first with
    | (some v, h) => (.ok v, h)
    | (none, h) => (.error .bad, h)

/-! ## Banks (R158, R168, R169) -/

/-- What a ridge read of a bank word found: counted and raised as for the design, but no frame is poisoned (R169). -/
def Hw.bankRidgeFinding (h : Hw) (d j a : Nat) (f : Found) (first : Bool) : Hw :=
  if f = .bad then
    let h := (h.bump (bankA d 0x110) 7 0).bankLoc d j a 0 true
    h.raiseWith (evBankUncorrectable d) (h.reg (bankA d 0x114)) false
  else h.bankFinding d j a f first

def Hw.bankHostRead (h : Hw) (d j a : Nat) (first : Bool) : Except Failure Word64 × Hw :=
  if h.bankOwner d j ≠ 3 then (.error .locked, h)
  else
    let (v, f, unwritten) := h.bankSees d j a
    let h := (h.bankRidgeFinding d j a f (unwritten && first)).bankWbAdd d j a (v.getD 0) f
    match v with
    | some v => (.ok v, h)
    | none => (.error .bad, h)

/-- A full-word ridge write of a bank. -/
def Hw.bankHostWrite (h : Hw) (d j a : Nat) (v : Word64) : Except Failure Hw :=
  if h.bankOwner d j ≠ 3 then .error .locked
  else
    let B := d * 64 + j
    .ok (((h.bankWbDrop B a).holdBank B a).setBankWord B a v)

/-! ## Scratch banks (R447) -/

def Hw.scrWord (h : Hw) (k w : Nat) : Word78 := Store.get 0 h.scratch (k * 8192 + w)

def Hw.scrHostRead (h : Hw) (k w : Nat) : Except Failure Word64 × Hw :=
  let h := h.reachBank k
  if h.fget (scrA k) 2 0 ≠ 3 then (.error .locked, h)
  else match decDecode (h.scrWord k w) with
    | (_, .bad) => (.error .bad, h)
    | (v, _) => (.ok v, h)

def Hw.scrHostWrite (h : Hw) (k w : Nat) (v : Word64) : Except Failure Hw :=
  let h := h.reachBank k
  if h.fget (scrA k) 2 0 ≠ 3 then .error .locked
  else .ok { h with scratch := Store.set 0 h.scratch (k * 8192 + w) (decEncode v) }

/-! ## One word (R445, R446) -/

/-- The domain of a place is up: in DOZE the array dies are off and the stacks refresh themselves, in SLEEP and WAKE_FAILED
the hub is off as well (Table 1.5, R25). -/
def Hw.placeUp (h : Hw) : Place → Bool
  | .scratch _ _ => decide (h.pstate < 3)
  | _ => decide (h.pstate < 2)

/-- Without a complete image the loader holds the banks and far memory, and ridge accesses to them end with LOCKED (R271). -/
def Hw.placeHeld (h : Hw) : Place → Bool
  | .scratch _ _ => false
  | _ => h.seq.run == .empty

/-- Read one word as owner HOST; `first` counts the read of an unwritten word (R158). -/
def Hw.hostReadWord (h : Hw) (p : Place) (first : Bool) : Except Failure Word64 × Hw :=
  if !h.placeUp p then (.error .down, h)
  else if h.placeHeld p then (.error .locked, h)
  else match p with
    | .far d w => h.farHostRead d w first
    | .bank d j w => h.bankHostRead d j w first
    | .scratch k w => h.scrHostRead k w

/-- Write one whole word as owner HOST. -/
def Hw.hostWriteWord (h : Hw) (p : Place) (v : Word64) : Except Failure Hw :=
  if !h.placeUp p then .error .down
  else if h.placeHeld p then .error .locked
  else match p with
    | .far d w => if imageSaveBase ≤ 8 * w then .error .range else .ok (h.farRidgeWrite d w v)
    | .bank d j w => h.bankHostWrite d j w v
    | .scratch k w => h.scrHostWrite k w v

/-- A place that no write reaches whatever its data. -/
def Hw.writeBarred (h : Hw) (p : Place) : Option Failure :=
  match h.hostWriteWord p 0 with
  | .error e => some e
  | .ok _ => none

/-- Write the enabled bytes of a word, by read-modify-write unless all eight are enabled (R446). The internal read is no
first read. -/
def Hw.hostWriteBytes (h : Hw) (p : Place) (bs : List (Option Byte)) : Except Failure Unit × Hw :=
  let put (h : Hw) (v : Word64) : Except Failure Unit × Hw :=
    match h.hostWriteWord p v with
    | .ok h => (.ok (), h)
    | .error e => (.error e, h)
  if bs.all (·.isSome) then put h (BitVec.ofNat 64 (ofBytes (bs.map (·.getD 0))))
  else match h.writeBarred p with
    | some e => (.error e, h)
    | none =>
      match h.hostReadWord p false with
      | (.error e, h) => (.error e, h)
      | (.ok old, h) => put h (BitVec.ofNat 64 (ofBytes (bs.zipIdx.map fun b => b.1.getD (old.extractLsb' (8 * b.2) 8))))

/-! ## BAR2 (R444 to R446) -/

/-- Where an access of `len` bytes at a BAR2 offset begins, or why it fails as a whole (Table 17.6). -/
def Hw.bar2Target (h : Hw) (off len : Nat) : Except Failure (Nat → Place) :=
  let m := h.reg (hostifA (0x40 + 8 * (off / 2 ^ 28)))
  let d := fld m 2 2
  let x := off % 2 ^ 28
  match fld m 1 0 with
  | 1 =>
    if 2 ^ 28 < x + len then .error .range
    else .ok fun y => .far d ((fld m 15 8 * 2 ^ 28 + y % 2 ^ 28) / 8)
  | 2 =>
    if 0x1000000 < x + len then .error .range
    else .ok fun y => .bank d (y % 2 ^ 28 / 0x40000) (y % 0x40000 / 8)
  | 3 =>
    if 0x100000 < x + len then .error .range
    else .ok fun y => .scratch (y % 2 ^ 28 / 0x10000) (y % 0x10000 / 8)
  | _ => .error .none

/-- An access with a failed word: counted once, and its first failed word captured while VALID is 0 (R445). -/
def Hw.bar2Failed (h : Hw) (off : Nat) (write : Bool) (e : Failure) : Hw :=
  if h.pstate ≥ 3 then h
  else
    let h := h.count (hostifA 0x68)
    if h.bget (hostifA 0x64) 31 then h
    else (h.setReg64 (hostifA 0x60) (BitVec.ofNat 64
      (off % 2 ^ 30 + (if write then 2 ^ 30 else 0) + 2 ^ 32 * e.cause + 2 ^ 63))).markDone (.w1c (hostifA 0x64) 31)

/-- Offsets of the 8-byte words that an access touches. -/
def wordOffs (off len : Nat) : List Nat :=
  if len = 0 then [] else (List.range ((off + len - 1) / 8 + 1 - off / 8)).map fun i => 8 * (off / 8 + i)

/-- The function reaches the module: its link is up, and HOSTKEEP has power. -/
def Hw.reachable (h : Hw) : Bool := h.hostOn && h.host.linkUp

/-- BAR2_READ: every word on its own; a failed word returns 0xFF bytes (R445). `late` makes the ridge access time out. -/
def Hw.bar2Read (h : Hw) (off len : Nat) (late : Bool) : Hw :=
  if !h.reachable || decide (2 ^ 30 < off + len) then h
  else
    let tgt : Except Failure (Nat → Place) := h.bar2Target off len
    let r := (wordOffs off len).foldl (fun (acc : List Byte × Option (Nat × Failure) × Hw) w =>
      let (out, bad, h) := acc
      let fail (e : Failure) (h : Hw) : List Byte × Option (Nat × Failure) × Hw :=
        (out ++ List.replicate 8 0xFF#8, some (bad.getD (max off w, e)), h)
      match tgt with
      | .error e => fail e h
      | .ok pl =>
        if late && h.placeUp (pl w) then fail .timeout h
        else match h.hostReadWord (pl w) true with
          | (.ok v, h) => (out ++ bytesOf 8 v.toNat, bad, h)
          | (.error e, h) => fail e h) ([], none, h)
    let h := match r.2.1 with
      | some (o, e) => r.2.2.bar2Failed o false e
      | none => r.2.2
    h.emit (.readData ((r.1.drop (off % 8)).take len))

def execBar2Read (h : Hw) (off len : Nat) : Hw := h.bar2Read off len false

/-- BAR2_WRITE: each word on its own; bytes that are not enabled keep their value (R445, R446). -/
def Hw.bar2Write (h : Hw) (off : Nat) (bytes : List (Option Byte)) (late : Bool) : Hw :=
  let len := bytes.length
  if !h.reachable || decide (2 ^ 30 < off + len) then h
  else
    let tgt : Except Failure (Nat → Place) := h.bar2Target off len
    let all := List.replicate (off % 8) none ++ bytes ++ List.replicate 8 none
    let r := (wordOffs off len).zipIdx.foldl (fun (acc : Option (Nat × Failure) × Hw) wi =>
      let (bad, h) := acc
      let w := wi.1
      let bs := (all.drop (8 * wi.2)).take 8
      let fail (e : Failure) (h : Hw) : Option (Nat × Failure) × Hw := (some (bad.getD (max off w, e)), h)
      if bs.all (·.isNone) then acc
      else match tgt with
        | .error e => fail e h
        | .ok pl =>
          if late && h.placeUp (pl w) then fail .timeout h
          else match h.hostWriteBytes (pl w) bs with
            | (.ok _, h) => (bad, h)
            | (.error e, h) => fail e h) (none, h)
    match r.1 with
    | some (o, e) => r.2.bar2Failed o true e
    | none => r.2

def execBar2Write (h : Hw) (off : Nat) (bytes : List (Option Byte)) : Hw := h.bar2Write off bytes false

/-! ## Owners (R172, R447) -/

/-- A write of an owner field: a request for a hand-over, or the end of one (R172). -/
def Hw.requestOwner (h : Hw) (a o : Nat) : Hw :=
  if o = h.fget a 2 0 then (h.fset a 6 4 o).fset a 3 3 0 else (h.fset a 6 4 o).fset a 3 3 1

/-- A service-access session is open (R484). -/
def Hw.session (h : Hw) : Bool := h.fw.session.isSome

/-- A write of BANK.OWNER_j, with the status that refuses it (R171, R172, R471). -/
def Hw.writeBankOwner (h : Hw) (d j : Nat) (v : Word32) : Except Nat Hw :=
  let o := fld v 2 0
  if o = 4 && !h.session then .error stLocked
  else .ok (if o ≥ 5 then h else h.requestOwner (bankA d (4 * j)) o)

/-- BANK_OWNER_WRITE, which a closed array die does not take (R25). -/
def execBankOwnerWrite (h : Hw) (d j : Nat) (v : Word32) : Hw :=
  if d < 2 && j < 64 && !h.diesShut then (match h.writeBankOwner d j v with | .ok h => h | .error _ => h) else h

/-- A write of SCR_OWNER_k (R447, R471): pinned banks refuse it, DESIGN and LOADER are no owners of a scratch bank, and TEST
needs a session. -/
def Hw.writeScrOwner (h : Hw) (k : Nat) (v : Word32) : Except Nat Hw :=
  let o := fld v 2 0
  if k < 2 then .error stLocked
  else if o < 2 then .error stBadArgument
  else if o = 4 && !h.session then .error stLocked
  else .ok (if o ≥ 5 then h else h.requestOwner (scrA k) o)

/-- SCR_OWNER_WRITE. -/
def execScrOwnerWrite (h : Hw) (k : Nat) (v : Word32) : Hw :=
  if k < 16 then (match h.writeScrOwner k v with | .ok h => h | .error _ => h) else h

/-- OWNER_HANDOVER of design memory bank `ref` (0 to 127), or of scratch bank `ref` − 128 (R172, R447). -/
def execOwnerHandover (h : Hw) (ref : Nat) : Hw :=
  if ref < 128 then
    let a := bankA (ref / 64) (4 * (ref % 64))
    if h.bget a 3 && h.mayHandOver a then h.handOver a else h
  else if ref < 144 then
    let a := scrA (ref - 128)
    if h.bget a 3 then h.handOver a else h
  else h

/-- Every hand-over that may take effect between ticks does. -/
def Hw.handOvers (h : Hw) : Hw :=
  let h := h.bankHandOvers
  (List.range 16).foldl (fun h k => if h.bget (scrA k) 3 then h.handOver (scrA k) else h) h

/-- The banks that TEST owns are handed to MP when a session ends (R486). -/
def Hw.endTestOwners (h : Hw) : Hw :=
  let h := (List.range 128).foldl (fun h b =>
    let a := bankA (b / 64) (4 * (b % 64))
    if h.fget a 2 0 = 4 then h.requestOwner a 2 else h) h
  (List.range 16).foldl (fun h k => if h.fget (scrA k) 2 0 = 4 then h.requestOwner (scrA k) 2 else h) h

/-! ## The background test (R448) -/

/-- Bank k may be borrowed: no failure, no access for IDLE_US, and GAP_US since the last slice began. -/
def Hw.mayBorrow (h : Hw) (k : Nat) : Bool :=
  h.bget (hostifA 0x140) 0 && !h.bget (hostifA 0x144) k && h.host.slice.isNone &&
    decide (Store.get 0 h.host.scrUsed k + h.fget (hostifA 0x140) 15 1 * usUnits ≤ h.calib) &&
    h.host.sliceFrom.all fun t => decide (t + max 1 (h.fget (hostifA 0x140) 31 16) * usUnits ≤ h.calib)

/-- Bank k is borrowed: its slice is copied into bank 0 or 1, where the manual does not say which words take it, and the test begins. How
long it takes is a free value of at most 3.5 µs. -/
def Hw.borrow (h : Hw) (k : Nat) (ok : Bool) : Hw :=
  let (v, h) := h.takeFree
  let (n, h) := h.takeFree
  let src := k * 8192 + Store.get 0 h.host.slices k % 32 * 256
  let dst := v.toNat % 64 * 256
  ({ h with scratch := Store.setAll 0 h.scratch ((List.range 256).map fun i => (dst + i, Store.get 0 h.scratch (src + i)))
            host := { h.host with slice := some ⟨k, ok, 1 + n.toNat % (3500 * nsUnits)⟩, sliceFrom := some h.calib } } : Hw).fset
    (scrA k) 8 8 1

/-- SCRATCH_TEST_SLICE of bank k: one slice of 256 words is tested and restored. `ok` says whether the March test will pass. -/
def execScratchTestSlice (h : Hw) (k : Nat) (ok : Bool) : Hw :=
  if k < 2 || k ≥ 16 || !h.mpTakes || h.pstate ≥ 3 || !h.mayBorrow k then h else h.borrow k ok

end Sys2Proof.Machine
end

