-- ==== Sys2Proof/Machine/RegIo.lean ====
section
/-!
DEFINITION. Reads and writes of internal registers (R5 to R9, R154, R470, R471): the values that the rest of the state
gives a register, the fields that act when they are written, and the registers of BAR0 (R433 to R435).
-/

namespace Sys2Proof.Machine

/-! ## Values that the state computes -/

/-- The low word of a number, after dropping 32 × i bits. -/
def wordOfNat (v i : Nat) : Word32 := BitVec.ofNat 32 (v / 2 ^ (32 * i))

def natBit (b : Bool) : Nat := if b then 1 else 0

/-- SEQ of die d: the run state, the vector and the plan (R153, R154). -/
def Hw.viewSeq (h : Hw) (d o : Nat) (stored : Word32) : Word32 :=
  let s := h.seq
  let mode := match s.mode with | .none => 0 | .free => 1 | .timed => 2 | .step => 3
  if o = 0 then setFld stored 4 0 (mode + 4 * natBit s.checked + 8 * (s.levelReq % 4))
  else if o = 4 then BitVec.ofNat 32 (runCode s.run + 8 * (s.level % 4) + 32 * natBit s.throttled + 64 * (s.haltReason % 16))
  else if o = 8 ∨ o = 0xC then wordOfNat s.frame.toNat ((o - 8) / 4)
  else if o = 0x14 then
    BitVec.ofNat 32 (s.schedLen + 2 ^ 16 * s.horizon +
      2 ^ 26 * natBit (match s.vecSource with | some (e, _) => e == d | none => false))
  else if o = 0x18 then BitVec.ofNat 32 (s.vecTruss % 512)
  else if o = 0x1C ∨ o = 0x20 then wordOfNat s.dev.toNat ((o - 0x1C) / 4)
  else if o = 0x24 then BitVec.ofNat 32 (s.alt % 16)
  else if o = 0x34 then BitVec.ofNat 32 s.stepCount
  else if 0x1000 ≤ o ∧ o < 0x1800 then wordOfNat (Store.get 0 h.plan (d * 256 + (o - 0x1000) / 8)).toNat (o % 8 / 4)
  else if 0x1800 ≤ o ∧ o < 0x1840 then BitVec.ofNat 32 (Store.get 0 h.ptable (d * 16 + (o - 0x1800) / 4))
  else if 0x2000 ≤ o ∧ o < 0x2400 then
    wordOfNat (Store.get 0 h.waitSets (d * 32 + (o - 0x2000) / 32)).toNat (o % 32 / 4)
  else stored

/-- FAR.QSTAT_q of die d (R182, R194). -/
def Hw.viewQstat (h : Hw) (d q : Nat) : Word32 :=
  let pr := h.qpair (d * 128 + q)
  BitVec.ofNat 32 (pr.outstanding + 2 ^ 9 * pr.resps.length +
    2 ^ 18 * natBit (match pr.resps.head? with | some r => r.complete | none => false))

def portCode : PortState → Nat
  | .disabled => 0
  | .detect => 1
  | .train => 2
  | .align => 3
  | .calibrate => 4
  | .active => 5
  | .retryWait => 6
  | .absent => 7

/-- EAVE_p.STAT (R256). -/
def Hw.viewPort (h : Hw) (p : Nat) : Word32 :=
  let pt := h.port p
  setFld (h.reg (eaveA p 4)) 7 0 (portCode pt.state + 16 * pt.txSleep + 64 * pt.rxSleep)

/-- HUB.FW_STAT (R487). -/
def Hw.fwStat (h : Hw) : Word32 :=
  BitVec.ofNat 32 (natBit h.fw.transfer.isSome + 2 * (match h.fw.transfer with | some (_, l) => l.length | none => 0) +
    2 ^ 15 * natBit h.fw.verified + 2 ^ 16 * natBit h.fw.pending.isSome + 2 ^ 17 * h.fw.fuses)

/-- Seconds of lockout that remain, rounded up. -/
def Hw.lockSeconds (h : Hw) : Nat := (h.fw.lockLeft + unitsPerSec - 1) / unitsPerSec

/-- HUB.ACCESS_STAT (R487). -/
def Hw.accessStat (h : Hw) : Word32 :=
  BitVec.ofNat 32 (natBit h.fw.session.isSome + 2 * h.fw.session.getD 0 + 4 * natBit (h.fw.key != 0) +
    8 * min 255 h.fw.failures + 2 ^ 11 * h.lockSeconds)

/-- TIME block (R313): the clock, its uncertainty, the run's period, generators and capture units. -/
def Hw.viewTime (h : Hw) (o : Nat) (stored : Word32) : Word32 :=
  if o < 0x10 then wordOfNat (timeValue h.time.now).toNat (o / 4)
  else if o = 0x1C then BitVec.ofNat 32 h.uncert
  else if o = 0x50 ∨ o = 0x54 then wordOfNat (h.seq.gridPeriod / 3) ((o - 0x50) / 4)
  else if 0x100 ≤ o ∧ o < 0x500 ∧ o % 32 = 0x1C then setBit stored 0 (h.te ((o - 0x100) / 32)).armed
  else if 0x800 ≤ o ∧ o < 0xC00 then
    let k := (o - 0x800) / 32
    if o % 32 = 4 then h.tcStat k else if 0x10 ≤ o % 32 then h.tcRecord k ((o % 32 - 0x10) / 4) else stored
  else stored

/-- CALLS block (R336). -/
def Hw.viewCalls (h : Hw) (o : Nat) (stored : Word32) : Word32 :=
  if o = 4 then h.callsStat
  else if 0x100 ≤ o ∧ o < 0x500 ∧ o % 16 = 0xC then h.portStat ((o - 0x100) / 16)
  else if 0x1000 ≤ o ∧ o < 0x1800 ∧ o % 64 = 0x28 then h.wqStat ((o - 0x1000) / 64)
  else stored

/-- Offset of an address in the block of an array die. -/
def dieOff (a : Nat) : Nat × Nat := ((a - 0x01000000) / 0x00800000, (a - 0x01000000) % 0x00800000)

/-- The value that a word shows: a pending RWF value (R6), what the state computes, or what is stored. -/
def Hw.view (h : Hw) (a : Nat) : Word32 :=
  let stored := match Store.get none h.rwf a with
    | some v => (h.reg a &&& ~~~ ((regRowAt a).elim 0 (·.rwf))) ||| v
    | none => h.reg a
  if a < 0x10000 then
    if a = 0x80 then h.imgStat
    else if a = 0x84 then BitVec.ofNat 32 h.imgRecv
    else if a = 0x88 ∨ a = 0x8C then wordOfNat h.configId.toNat ((a - 0x88) / 4)
    else if a = 0x380 then h.fwStat
    else if a = 0x384 then h.accessStat
    else stored
  else if a < 0x20000 then h.viewTime (a - 0x10000) stored
  else if a < 0x30000 then h.viewCalls (a - 0x20000) stored
  else if a = traceA 0x1C then
    BitVec.ofNat 32 (h.trace.staging.length + 2 ^ 14 * natBit (h.trace.refused.any (· != 0)))
  else if a = faultA 0x600 then h.summary
  else if a = faultA 0x608 then h.logStat
  else if a = hostifA 0x88 ∨ a = hostifA 0x8C then wordOfNat h.knownSet.toNat ((a - hostifA 0x88) / 4)
  else if 0x01000000 ≤ a ∧ a < 0x02000000 then
    let (d, o) := dieOff a
    if o < 0x100000 then h.viewSeq d o stored
    else if 0x200100 ≤ o ∧ o < 0x200300 then h.viewQstat d ((o - 0x200100) / 4)
    else stored
  else if 0x02000000 ≤ a ∧ a < 0x020C0000 ∧ a % 0x10000 = 4 then h.viewPort ((a - 0x02000000) / 0x10000)
  else stored

/-! ## Reads (R5) -/

/-- Place of a word in its register: 0 for the low word. -/
def wordIndex (a : Nat) : Nat :=
  let o := (dieOff a).2
  if 0x01000000 ≤ a ∧ a < 0x02000000 ∧ 0x1000 ≤ o ∧ o < 0x1800 then o % 8 / 4
  else if 0x01000000 ≤ a ∧ a < 0x02000000 ∧ 0x2000 ≤ o ∧ o < 0x2400 then o % 32 / 4
  else (regRowAt a).elim 0 (·.word)

/-- The higher words of the register whose low word is at an address. -/
def higherWords (a : Nat) : List Nat :=
  (([1, 2, 3, 4, 5, 6, 7].takeWhile fun k => wordIndex (a + 4 * k) == k).map fun k => a + 4 * k)

def Hw.setCaptured (h : Hw) (a : Nat) (v : Option Word32) : Hw := { h with captured := Store.set none h.captured a v }

/-- TC_k.RECORD, fourth word: its address names k. -/
def recordUnit (a : Nat) : Option Nat :=
  let o := a - timeA 0x800
  if timeA 0x800 ≤ a ∧ a < timeA 0xC00 ∧ o % 32 = 0x1C then some (o / 32) else none

/-- HUB.SENSE (R502): what the sensors report is not the model's to say, so each read gives a free value. -/
def Hw.readSense (h : Hw) : Word32 × Hw :=
  let (v, h) := h.takeFree
  (v.extractLsb' 0 32, h.setCaptured 0x404 (some (v.extractLsb' 32 24 |>.setWidth 32)))

/-- A read of one word. The low word captures the others; a captured word is given once (R5). The fourth word of a capture
record removes the record (R310). -/
def Hw.readWord (h : Hw) (a : Nat) : Word32 × Hw :=
  if a = 0x400 then h.readSense
  else if wordIndex a = 0 then
    (h.view a, (higherWords a).foldl (fun h' b => h'.setCaptured b (some (h.view b))) h)
  else
    let r : Word32 × Hw := match Store.get none h.captured a with
      | some v => (v, h.setCaptured a none)
      | none =>
        if a = 0x404 then
          let (v, h) := h.takeFree
          (v.extractLsb' 0 24 |>.setWidth 32, h)
        else (h.view a, h)
    match recordUnit a with
    | some k => (r.1, r.2.tcPop k)
    | none => r

/-- CAPTURE_RECORD_READ of unit k: the fourth word of RECORD is read (R310). -/
def execCaptureRecordRead (h : Hw) (k : Nat) : Hw := if k < 32 then (h.readWord (tcA k 0x1C)).2 else h

/-! ## Registers whose writes act -/

/-- The RW bits of a word: an escalation level is kept only for the positions of events that exist (R425, Table 16.5). -/
def rwMask (a : Nat) (r : RegRow) : Word32 :=
  if r.name = "FAULT.ESC" then r.rw &&& BitVec.ofNat 32 (4 ^ evCount ((a - faultA 0x400) / 4) - 1) else r.rw

/-- A write of a word by its access codes; W1C bits that hardware has set in this clock remain set (R6 to R8). -/
def Hw.plainWrite (h : Hw) (a : Nat) (v : Word32) : Hw :=
  match regRowAt a with
  | none => h
  | some r =>
    let m := rwMask a r
    let h := h.setReg a (((h.reg a &&& ~~~ m) ||| (v &&& m)) &&& ~~~ (v &&& r.w1c &&& ~~~ h.setNow a))
    if r.rwf = 0 then h else { h with rwf := Store.set none h.rwf a (some (v &&& r.rwf)) }

/-- HUB.CLK_CTRL: a change of SRC waits for the next halt while frames run (R19). A PLL that follows a port follows the one that
PORT then names (R18). -/
def Hw.writeClk (h : Hw) (v : Word32) : Hw :=
  let h := h.fset 0x44 5 2 (fld v 5 2)
  let src := fld v 1 0
  if h.framesOn then
    (h.updSeq fun s => { s with srcPending := if src = h.fget 0x44 1 0 then none else some src }).lockPll
  else ((h.updSeq fun s => { s with srcPending := none }).fset 0x44 1 0 src).lockPll

/-- CLK_SRC_WRITE (R18, R19): only while the HUB domain is on. -/
def execClkSrcWrite (h : Hw) (v : Word32) : Hw := if h.hubOn then h.writeClk v else h

def Hw.writeTrussEcc (h : Hw) (d : Nat) (v : Word32) : Hw :=
  let h := h.plainWrite (trussA d 0) v
  if bit v 2 then h.clearRegs [trussA d 4, trussA d 8] else h

/-- TRUSSCFG_CLEAR_COUNTS: a write of ECC_CTRL with CLEAR_COUNTS (R68). -/
def execTrusscfgClearCounts (h : Hw) (d : Nat) (v : Word32) : Hw :=
  if d < 2 && bit v 2 && !h.diesShut then h.writeTrussEcc d v else h

def Hw.writeBankEcc (h : Hw) (d : Nat) (v : Word32) : Hw :=
  let h := h.plainWrite (bankA d 0x104) v
  if bit v 3 then h.clearRegs [bankA d 0x108, bankA d 0x10C, bankA d 0x110] else h

/-- BANK_CLEAR_COUNTS (R175). -/
def execBankClearCounts (h : Hw) (d : Nat) (v : Word32) : Hw :=
  if d < 2 && bit v 3 && !h.diesShut then h.writeBankEcc d v else h

def Hw.writeFarCtrl (h : Hw) (d : Nat) (v : Word32) : Hw :=
  let h := h.plainWrite (farA d 0xC) v
  if bit v 3 then h.clearRegs ((List.range 8).map fun n => farA d (0x10 + 4 * n)) else h

/-- FAR_CLEAR_COUNTS (R194). -/
def execFarClearCounts (h : Hw) (d : Nat) (v : Word32) : Hw :=
  if d < 2 && bit v 3 && !h.diesShut then h.writeFarCtrl d v else h

/-- SCRUB.CTRL (R288). -/
def Hw.writeScrubCtrl (h : Hw) (d : Nat) (v : Word32) : Hw :=
  if bit v 4 then execScrubClearCounts h d v else h.plainWrite (scrubA d 0) v

def Hw.writeCallsCtrl (h : Hw) (v : Word32) : Hw :=
  let h := h.plainWrite (callsA 0) v
  if bit v 9 then h.clearRegs ((List.range 8).map fun n => callsA (0x10 + 4 * n)) else h

/-- CALLS_CLEAR_COUNTS (R336). -/
def execCallsClearCounts (h : Hw) (v : Word32) : Hw := if bit v 9 then h.writeCallsCtrl v else h

/-- A write of TRACE.CTRL: EN starts the unit with SYNC and TIME or flushes it, SYNC_REQ writes SYNC and TIME, and
CLEAR_COUNTS clears the counters. SRC_EN of source 4 stays 1 (R363, R370, R371). -/
def Hw.writeTraceCtrl (h : Hw) (v : Word32) : Hw :=
  let was := h.bget (traceA 0) 0
  let h := h.setReg (traceA 0) ((v &&& 0x3F#32) ||| 0x20#32)
  let h := if bit v 7 then h.clearRegs ((List.range 7).map fun n => traceA (0x20 + 4 * n)) else h
  let h := if !was && bit v 0 then h.stageSync 0 else h
  let h := if bit v 6 then h.syncIfOn 3 else h
  if was && !bit v 0 then h.flushTrace else h

/-- TRACE_EN_WRITE. -/
def execTraceEnWrite (h : Hw) (v : Word32) : Hw := h.writeTraceCtrl v
/-- SYNC_REQ. -/
def execSyncReq (h : Hw) (v : Word32) : Hw := if bit v 6 then h.writeTraceCtrl v else h
/-- TRACE_CLEAR_COUNTS. -/
def execTraceClearCounts (h : Hw) (v : Word32) : Hw := if bit v 7 then h.writeTraceCtrl v else h

/-- TRACE_SINK_CFG_WRITE: word o of SINK, BASE or SIZE, only while EN is 0 (R371). -/
def execTraceSinkCfgWrite (h : Hw) (o : Nat) (v : Word32) : Hw :=
  if h.bget (traceA 0) 0 || !(o == 4 || o == 8 || o == 0xC || o == 0x10) then h else h.plainWrite (traceA o) v

/-- CANCEL_WRITE (R333). -/
def execCancelWrite (h : Hw) (v : Word32) : Hw := h.cancelCall (fld v 11 0) (fld v 15 12)

/-- DISP_HEAD_WRITE of worker w (R326). -/
def execDispHeadWrite (h : Hw) (w : Nat) (v : Word32) : Hw := if w < 32 then h.writeDispHead w (fld v 12 0) else h
/-- COMP_TAIL_WRITE of worker w (R326). -/
def execCompTailWrite (h : Hw) (w : Nat) (v : Word32) : Hw := if w < 32 then h.writeCompTail w (fld v 12 0) else h

/-- ACCESS_KEY_WRITE: word k of the key; word 7 stores the eight words in the settings store (R487). -/
def execAccessKeyWrite (h : Hw) (k : Nat) (v : Word32) : Hw :=
  if k ≥ 8 || !h.session then h
  else
    let ws := setFld h.fw.keyWords (32 * k + 31) (32 * k) v.toNat
    { h with fw := { h.fw with keyWords := ws, key := if k = 7 then ws else h.fw.key } }

/-! ## One word written (R471) -/

/-- A write in the block of an array die. -/
def Hw.writeDie (h : Hw) (d o a : Nat) (v : Word32) : Except Nat Hw :=
  if 0x100000 ≤ o ∧ o < 0x100100 then h.writeBankOwner d ((o - 0x100000) / 4) v
  else .ok (
    if o = 0x100104 then h.writeBankEcc d v
    else if o = 0x20000C then h.writeFarCtrl d v
    else if o = 0x400000 then h.writeTrussEcc d v
    else if o = 0x500000 then h.writeScrubCtrl d v
    else h.plainWrite a v)

/-- A write in the hub's blocks. -/
def Hw.writeHub (h : Hw) (a : Nat) (v : Word32) : Hw :=
  if a = 0x44 then h.writeClk v
  else if a < 0x10000 then h.plainWrite a v
  else if a < 0x20000 then
    let o := a - 0x10000
    if o = 0x14 then h.writeTimeCfg v
    else if 0x100 ≤ o ∧ o < 0x500 ∧ o % 32 ≠ 0x1C then execTeRearm h ((o - 0x100) / 32) ((o - 0x100) % 32) v
    else if 0x800 ≤ o ∧ o < 0xC00 ∧ o % 32 = 0 then h.writeTcCtrl ((o - 0x800) / 32) v
    else h.plainWrite a v
  else if a < 0x30000 then
    let o := a - 0x20000
    if o = 0 then h.writeCallsCtrl v
    else if o = 8 then execCancelWrite h v
    else if 0x1000 ≤ o ∧ o < 0x1800 ∧ o % 64 = 0x1C then execDispHeadWrite h ((o - 0x1000) / 64) v
    else if 0x1000 ≤ o ∧ o < 0x1800 ∧ o % 64 = 0x20 then execCompTailWrite h ((o - 0x1000) / 64) v
    else h.plainWrite a v
  else if a < 0x40000 then
    let o := a - 0x30000
    if o = 0 then h.writeProbeCtrl v
    else if 0x400 ≤ o ∧ o < 0x600 ∧ o % 16 = 0 then h.writeWchCfg ((o - 0x400) / 16) v
    else if o = 0xC00 then execAcqCtrlStop h v
    else h.plainWrite a v
  else if a < 0x50000 then
    let o := a - 0x40000
    if o = 0 then h.writeTraceCtrl v
    else if 4 ≤ o ∧ o < 0x14 then execTraceSinkCfgWrite h o v
    else h.plainWrite a v
  else if 0x60000 ≤ a ∧ a < 0x70000 then
    let o := a - 0x60000
    if o = 0x614 then execPoisonStatWrite h v
    else if 0x800 ≤ o ∧ o < 0xA00 ∧ o % 16 = 0 then execLogValidWrite h ((o - 0x800) / 16) v
    else h.plainWrite a v
  else if 0x80000 ≤ a ∧ a < 0x80040 then h.writeBankCfg ((a - 0x80000) / 4) v
  else h.plainWrite a v

/-- A register of an array die while the die's routers are closed: the access receives POWERED_DOWN (R25, R407). -/
def Hw.arrayShut (h : Hw) (a : Nat) : Bool := decide (0x01000000 ≤ a ∧ a < 0x02000000) && h.diesShut

/-- A write of one internal word, with the status that refuses it (R25, R471). -/
def Hw.writeWord (h : Hw) (a : Nat) (v : Word32) : Except Nat Hw :=
  match blockAt a with
  | none => .error stBadArgument
  | some (_, _, service, _) =>
    if h.arrayShut a then .error stNotReady
    else if service && !h.session then .error stLocked
    else if 0x01000000 ≤ a ∧ a < 0x02000000 then h.writeDie (dieOff a).1 (dieOff a).2 a v
    else if 0x02000000 ≤ a then
      let p := (a - 0x02000000) / 0x10000
      let o := a % 0x10000
      .ok (if o = 0 then h.writePortCtrl p v else if o = 0x108 then execSleepCtrlWrite h p v else h.plainWrite a v)
    else if scrA 0 ≤ a ∧ a < scrA 16 then h.writeScrOwner ((a - scrA 0) / 4) v
    else if 0x90100 ≤ a ∧ a < 0x90120 then .ok (execAccessKeyWrite h ((a - 0x90100) / 4) v)
    else .ok (h.writeHub a v)

/-! ## BAR0 (R433 to R435) -/

/-- A write to BAR0 by an aligned access of 4 bytes with all byte enables; what has a row of its own takes that row's
meaning (R434, R435). -/
def Hw.bar0Write (h : Hw) (off : Nat) (v : Word32) : Hw :=
  if 0x100 ≤ off ∧ off < 0x120 then (if bit v 0 then execMbxRing h ((off - 0x100) / 4) else h)
  else if 0x200 ≤ off ∧ off < 0x300 then
    if !h.hubOn then h
    else
      let h := h.doorbell
      if off % 8 = 0 then execDispHeadWrite h ((off - 0x200) / 8) v else execCompTailWrite h ((off - 0x200) / 8) v
  else if 0x2010 ≤ off ∧ off < 0x2130 then
    if h.hubOn then h.plainWrite (grpStatA ((off - 0x2010) / 4)) v else h
  else if 0x3000 ≤ off ∧ off < 0x3400 then
    let k := (off - 0x3000) / 4
    let v := if k % 4 = 3 then v &&& 1 else v
    ({ h with host := { h.host with msixTable := Store.set (msixDefault k) h.host.msixTable k v } } : Hw).sendPending
  else h

/-- Place of a register that a write names: an internal address, or an offset in BAR0. -/
def Hw.writeLoc (h : Hw) : RegLoc → Word32 → Hw
  | .internal a, v => if !h.hubOn || a % 4 ≠ 0 then h else (match h.writeWord a v with | .ok h => h | .error _ => h)
  | .bar0 off, v => if !h.reachable || off % 4 ≠ 0 then h else h.bar0Write off v

/-- REGISTER_WRITE. -/
def execRegisterWrite (h : Hw) (loc : RegLoc) (v : Word32) : Hw := h.writeLoc loc v

/-- A word of BAR0 as the host reads it (Table 17.4). -/
def Hw.bar0Word (h : Hw) (off : Nat) : Word32 :=
  let hub (v : Word32) : Word32 := if h.hubOn then v else 0
  if off = 0 then BitVec.ofNat 32 (0x640000F6 + 256 * identityCode h.stepping)
  else if off = 4 then BitVec.ofNat 32 (h.devIndex % 64 + 256 * h.fw.active)
  else if off = 8 then
    BitVec.ofNat 32 (natBit h.host.ready + 2 * natBit h.host.fwSwitch + 4 * natBit h.host.mpRestart +
      8 * natBit (h.bget (powerA 0x20) 19) + 16 * (h.pstate % 8) + 128 * runCode h.seq.run +
      2 ^ 10 * natBit h.forwards + 2 ^ 11 * natBit h.isMember + 2 ^ 12 * natBit h.settled)
  else if off = 0xC then (if h.host.ready then BitVec.ofNat 32 (h.fw.bank h.fw.active).version else 0)
  else if off = 0x10 then BitVec.ofNat 32 (h.host.bootMs % 65536)
  else if off = 0x20 then h.view (powerA 0x20)
  else if off = 0x24 then h.view (powerA 0x24)
  else if 0x100 ≤ off ∧ off < 0x120 then BitVec.ofNat 32 (2 * natBit (h.slotBusy ((off - 0x100) / 4)))
  else if 0x200 ≤ off ∧ off < 0x300 then
    hub (h.view (callsA (0x1000 + 64 * ((off - 0x200) / 8) + (if off % 8 = 0 then 0x1C else 0x20))))
  else if 0x1000 ≤ off ∧ off < 0x1800 then BitVec.ofNat 32 (h.slotField ((off - 0x1000) / 256) (off % 256) 4)
  else if off = 0x2000 then hub (h.view (faultA 0x600))
  else if off = 0x2004 then hub (h.view (faultA 0x608))
  else if 0x2010 ≤ off ∧ off < 0x2130 then hub (h.view (grpStatA ((off - 0x2010) / 4)))
  else if off = 0x2200 ∨ off = 0x2204 then hub (h.view (faultA (0x618 + off - 0x2200)))
  else if 0x3000 ≤ off ∧ off < 0x3400 then h.msixWord ((off - 0x3000) / 4)
  else if off = 0x3800 ∨ off = 0x3804 then wordOfNat h.host.pba.toNat ((off - 0x3800) / 4)
  else 0

/-- What a read of 4 or 8 aligned bytes of BAR0 returns (R434). It changes nothing, and no row of the table is such a read. -/
def Hw.bar0Read (h : Hw) (off n : Nat) : Option (List Byte) :=
  if (n = 4 ∨ n = 8) ∧ off % n = 0 then
    some ((List.range (n / 4)).flatMap fun i => bytesOf 4 (h.bar0Word (off + 4 * i)).toNat)
  else none

end Sys2Proof.Machine
end

