-- ==== Sys2Proof/Machine/Access.lean ====
section
/-!
DEFINITION. Firmware banks, their transfer, verification and activation, the firmware switch, and service access (R473 to
R487).
-/

namespace Sys2Proof.Machine

/-! ## Transfers (R477, R478) -/

def FwSt.inactive (f : FwSt) : Nat := 1 - f.active

/-- FW_BLOCK (R477): the sector is erased and programmed; the first block opens a transfer. BAD_ARGUMENT when LENGTH differs
from the transfer's. -/
def Hw.fwBlock (h : Hw) (off len : Nat) (data : List Byte) : Nat × Hw :=
  let f := h.fw
  if (match f.transfer with | some (l, _) => l != len | none => false) then (stBadArgument, h)
  else
    let got := match f.transfer with | some (_, g) => g | none => []
    let s := off / 4096
    let b := f.bank f.inactive
    let b := { b with sectors := Store.set [] b.sectors s data, boots := false, decayed := b.decayed && f.transfer.isSome }
    let f := f.setBank f.inactive b
    (stOk, { h with fw := { f with
      transfer := some (len, if got.contains s then got else got ++ [s])
      verified := if f.transfer.isNone then false else f.verified } })

/-- FW_VERIFY (R478, Table 19.2): its status and reply. -/
def Hw.fwVerify (h : Hw) : Nat × List Byte × Hw :=
  let f := h.fw
  match f.transfer with
  | none => (stIntegrity, [], h.raise evFwVerifyFailed)
  | some (len, got) =>
    if !(List.range ((len + 4095) / 4096)).all got.contains then (stIntegrity, [], h.raise evFwVerifyFailed)
    else
      let b := f.bank f.inactive
      let bs := b.bytes len
      match fwCheck f.fuses len bs with
      | some e => (e, [], ({ h with fw := { f with transfer := none } } : Hw).raise evFwVerifyFailed)
      | none =>
        let f := f.setBank f.inactive (b.verified bs)
        let reply := bytesOf 4 (imgField bs 8 4) ++ bytesOf 4 (imgField bs 0xC 4) ++ bytesOf 8 f.fuses
        (stOk, reply, { h with fw := { f with transfer := none, verified := true } })

/-- FW_STATUS (Table 18.11). -/
def Hw.fwStatus (h : Hw) : List Byte :=
  let f := h.fw
  bytesOf 4 f.bankA.version ++ bytesOf 4 f.bankB.version ++ bytesOf 1 f.active ++
    bytesOf 3 (if f.verified then f.inactive else 0xFF) ++ bytesOf 4 f.fuses ++
    bytesOf 16 (match f.pending with | some (_, t) => t.toNat | none => 0)

/-! ## Activation and the switch (R479 to R483) -/

/-- A time value of R289 in units of time. -/
def timeOf (v : BitVec 112) : Nat := fld v 111 48 * unitsPerSec + fld v 47 16 * nsUnits + fld v 15 0 * 3

/-- Length of n milliseconds in units of time. -/
def msUnits (n : Nat) : Nat := n * 10 ^ 6 * nsUnits

/-- The switch instant in units of network time; none when T lies outside 100 ms to 24 h (R479). -/
def Hw.switchInstant (h : Hw) (atT : Bool) (t : BitVec 112) : Option Nat :=
  let now := h.time.now
  if !atT then some (now + msUnits 100)
  else if now + msUnits 100 ≤ timeOf t ∧ timeOf t ≤ now + msUnits 86400000 then some (timeOf t)
  else none

/-- Configuration clock count of an instant: the first course clock that does not precede it at the present course period. -/
def Hw.instantCount (h : Hw) (t : Nat) : Nat := h.seq.clk + (t - h.time.now + h.clockLen - 1) / max 1 h.clockLen

/-- The activation is pending on this module (R480). -/
def Hw.setSwitch (h : Hw) (count : Nat) (t : BitVec 112) : Hw := { h with fw := { h.fw with pending := some (count, t) } }

/-- End a session: vendor test modes end, and the banks that TEST owns go to MP (R486). -/
def Hw.endSession (h : Hw) : Hw :=
  if h.fw.session.isNone then h else ({ h with fw := { h.fw with session := none } } : Hw).endTestOwners

/-- A command that has not begun to act ends with BUSY: queued, held, taken and not yet performed, or waiting for the tests of the
members (R481, step 2). -/
def Hw.endUnbegun (h : Hw) (status : Nat) : Hw :=
  let tests := h.host.waits.filter fun w => w.phase == 0
  let h := tests.foldl (fun h w => h.endCmd w.src [] status [] []) h
  let h := (List.range 8).foldl (fun h s =>
    let st := h.slotState s
    if decide (1 ≤ st) && decide (st ≤ 3) && !h.host.waits.any (fun w => w.src == .slot s) then h.completeSlot s status []
    else h) h
  let h : Hw := { h with host := { h.host with ring := [] } }
  (h.host.fwd.filter fun c => !h.host.waits.any fun w => w.src == .link c.origin c.slot).foldl
    (fun h c => h.endCmd (.link c.origin c.slot) [] status [] []) h

/-- The MP completes the calls that it is running, a cancelled one among them (R481, step 2). -/
def Hw.endMpCalls (h : Hw) : Hw :=
  let h := match h.calls.mpLost with
    | some _ => ({ h with calls := { h.calls with mpLost := none } } : Hw).staleCompletion
    | none => h
  (h.runningOn 32).foldl (fun h sc =>
    match sc.2.cls with
    | 0xF0 => execEcho h sc.1
    | 0xF1 => execFarRead h sc.1
    | 0xF2 => execFarWrite h sc.1
    | _ => execTimeRead h sc.1) h

/-- The old firmware's hand-over record in scratch bank 1: a word that the manual does not give (R481, step 3; log entry 64). -/
def Hw.handOverRecord (h : Hw) : Hw :=
  let (v, h) := h.takeFree
  { h with scratch := Store.set 0 h.scratch 8192 (decEncode v) }

/-- FW_SWITCH: steps 1 to 4 of Table 19.3, when the configuration clock count has reached the instant. -/
def execFwSwitch (h : Hw) : Hw :=
  match h.fw.pending with
  | some (n, _) =>
    if h.seq.clk < n then h
    else
      let h := ({ h with host := { h.host with fwSwitch := true } } : Hw).endSession
      let h := ((h.endUnbegun stBusy).endMpCalls).handOverRecord
      { h with fw := { h.fw with active := h.fw.inactive, verified := false, pending := none, transfer := none } }
  | none => h

/-- FW_NEW_READY: step 5 of Table 19.3, once the boot ROM has tested the new bank; when the test fails, the old bank runs (R483). `ok` is
false when the flash no longer holds the bank as it was programmed. -/
def execFwNewReady (h : Hw) (ok : Bool) : Hw :=
  if !h.host.fwSwitch then h
  else
    let f := h.fw
    let f := if ok then f else f.setBank f.active { f.bank f.active with decayed := true }
    let h : Hw := { h with fw := f, host := { h.host with fwSwitch := false } }
    if f.bootable f.active then
      let b := (f.bank f.active).started
      let h := ({ h with fw := f.setBank f.active b } : Hw).settings b.layout
      ({ h with fw := { h.fw with fuses := max h.fw.fuses (min 64 b.counter) } } : Hw).raise evFwActivated
    else
      ({ h with fw := { f with active := f.inactive } } : Hw).raise evFwVerifyFailed

/-- UART_RECOVERY_IMAGE: while neither bank boots, the boot ROM accepts a signed image and boots it (R483). -/
def execUartRecoveryImage (h : Hw) (bytes : List Byte) : Hw :=
  if !h.power.powered || h.power.hot || !h.fw.stuck then h
  else match fwCheck h.fw.fuses bytes.length bytes with
    | some _ => h
    | none =>
      let secs := (List.range ((bytes.length + 4095) / 4096)).map fun s => (s, (bytes.drop (4096 * s)).take 4096)
      let b : FwBank := { ((({} : FwBank)).verified bytes) with sectors := Store.setAll [] [] secs }
      ({ h with fw := { h.fw.setBank h.fw.active b with stuck := false } } : Hw).alertLine false

/-! ## Service access (R484 to R486) -/

/-- The message that a response covers (R484). -/
def Hw.accessMessage (h : Hw) (nonce : BitVec 256) : List Byte :=
  bytesOf 32 nonce.toNat ++ bytesOf 8 h.serial.toNat ++ bytesOf 1 h.devIndex

/-- The response verifies: METHOD 0 a vendor signature, METHOD 1 an HMAC under the password key. -/
def Hw.responseOk (h : Hw) (nonce : BitVec 256) (method : Nat) (resp : List Byte) : Bool :=
  let m := h.accessMessage nonce
  if method = 0 then Config.ecdsaVerify 1 (Config.sha256 m) (BitVec.ofNat 512 (ofBytesBe (resp.take 64)))
  else h.fw.key != 0 && (Config.hmacSha256 h.fw.key m).toNat == ofBytesBe (resp.take 32)

def Hw.locked (h : Hw) : Bool := h.fw.lockLeft != 0

/-- ACCESS_CHALLENGE (R469, R485): its status and reply. -/
def Hw.accessChallenge (h : Hw) : Nat × List Byte × Hw :=
  if h.locked then (stLocked, List.replicate 32 0#8 ++ bytesOf 4 h.lockSeconds, h)
  else
    let n := Config.freshNonce h.fw.nonces
    (stOk, bytesOf 32 n.toNat ++ bytesOf 4 0, { h with fw := { h.fw with nonce := some n, nonces := h.fw.nonces + 1 } })

/-- A wrong response (R485). -/
def Hw.accessFailed (h : Hw) : Hw :=
  let n := h.fw.failures + 1
  let h := ({ h with fw := { h.fw with failures := n, nonce := none } } : Hw).raise evAccessFailed
  if n < 5 then h
  else
    let len := if h.fw.lockLen = 0 then 60 else min 86400 (2 * h.fw.lockLen)
    ({ h with fw := { h.fw with lockLen := len, lockLeft := len * unitsPerSec } } : Hw).raise evAccessLockout

/-- ACCESS_RESPONSE (R484, R485): its status and reply. -/
def Hw.accessResponse (h : Hw) (method : Nat) (resp : List Byte) : Nat × List Byte × Hw :=
  if h.locked then (stLocked, [], h)
  else match h.fw.nonce with
    | none => (stRefused, [], h)
    | some n =>
      if h.responseOk n method resp then
        (stOk, bytesOf 4 28800, ({ h with fw := { h.fw with
          nonce := none, failures := 0, lockLen := 0, session := some method } } : Hw).raise evAccessOpened)
      else (stRefused, [], h.accessFailed)

/-- NONCE_EXPIRY: 60 s after the challenge (R485). -/
def execNonceExpiry (h : Hw) : Hw := { h with fw := { h.fw with nonce := none } }

/-- What one step of the passing of time takes: a course clock, or a period of the AON counter. -/
def Hw.clockUnitsLeft (h : Hw) : Nat := if h.pstate ≥ 3 then aonUnits else courseUnits h.seq.level

/-- LOCKOUT_END: no more of the lockout remains than the present course clock (R485). -/
def execLockoutEnd (h : Hw) : Hw := if h.fw.lockLeft ≤ h.clockUnitsLeft then { h with fw := { h.fw with lockLeft := 0 } } else h

/-- SESSION_EXPIRY: 8 h after the opening (R486). -/
def execSessionExpiry (h : Hw) : Hw := h.endSession

/-! ## The MP's two cores (R415) -/

/-- Every slot that was rung and is not DONE ends, with the commands that came over a link; what waited is forgotten. -/
def Hw.endAllSlots (h : Hw) (status : Nat) : Hw :=
  let h := ({ h with host := { h.host with waits := [] } } : Hw).answerAll status
  h.host.fwd.foldl (fun h c => h.endCmd (.link c.origin c.slot) [] status [] []) h

/-- MP_LOCKSTEP_MISMATCH: the cores' outputs differ; `attributed` says that exactly one core's self-check has failed (R415,
R432). -/
def execMpLockstepMismatch (h : Hw) (attributed : Bool) : Hw :=
  if !h.hubOn then h
  else if attributed && !h.host.mpAlone then
    ({ h with host := { h.host with mpAlone := true } } : Hw).raise evLockstepMismatch
  else
    let h := (h.raise evLockstepLost).endAllSlots stNotReady
    let h : Hw := { h with host := { h.host with ready := false, mpRestart := true } }
    h.sendHaltAtEnd 3

end Sys2Proof.Machine
end

