-- ==== Sys2Proof/Machine/OvsetInfo.lean ====
section
/-!
DEFINITION. Ovset commands that read and set registers and status (Tables 18.2, 18.7, 18.8, 18.10 and 18.12): identity and
status, links, time, calls, events and the log, apertures, and register access.
-/

namespace Sys2Proof.Machine

/-- Zero bytes up to a length: a reply byte that no table names is zero (R453). -/
def fit (n : Nat) (bs : List Byte) : List Byte := bs ++ List.replicate (n - bs.length) 0

/-- The bytes of the words that registers show. -/
def Hw.words (h : Hw) (as : List Nat) : List Byte := as.flatMap fun a => bytesOf 4 (h.view a).toNat

/-- Addresses of n consecutive words. -/
def wordsFrom (a n : Nat) : List Nat := (List.range n).map fun i => a + 4 * i

/-- A command that ends at once, performed on the state it finds. -/
def Hw.runNow (h : Hw) (src : CmdSrc) (code : Nat) (io : HostIo) (f : Call0 → Hw → Nat × List Byte × Hw) : Hw :=
  h.runCmd src code io fun c h =>
    let (st, reply, h) := f c h
    (.done st reply [], h)

/-! ## Identity and status (Table 18.2) -/

/-- Device index of the head of the module's configuration, 0xFF when it belongs to none. -/
def Hw.headByte (h : Hw) : Nat := if h.conf.formed then h.conf.head else 0xFF

/-- Reply of IDENTIFY. -/
def Hw.identity (h : Hw) : List Byte :=
  let tag := match h.img.loaded with | some l => imgField l.head 0x28 8 | none => 0
  fit 48 (bytesOf 4 (h.bar0Word 0).toNat ++ bytesOf 1 h.devIndex ++ bytesOf 3 h.fw.active ++ bytesOf 4 (h.bar0Word 0xC).toNat ++
    bytesOf 4 h.imgStat.toNat ++ bytesOf 8 h.configId.toNat ++ bytesOf 8 tag ++ bytesOf 8 h.serial.toNat ++
    bytesOf 1 h.headByte)

/-- IDENTIFY. -/
def execIdentify (h : Hw) (src : CmdSrc) (io : HostIo) : Hw := h.runNow src 0x0101 io fun _ h => (stOk, h.identity, h)

/-- Reply of STATUS. -/
def Hw.statusReply (h : Hw) : List Byte :=
  bytesOf 4 (h.bar0Word 8).toNat ++
    h.words [seqA 0 4, seqA 0 8, seqA 0 0xC, timeA 0x10, faultA 0x600, powerA 0, hostifA 0x88, hostifA 0x8C] ++
    (List.range 12).map fun p => BitVec.ofNat 8 (portCode (h.port p).state)

/-- STATUS. -/
def execStatus (h : Hw) (src : CmdSrc) (io : HostIo) : Hw := h.runNow src 0x0102 io fun _ h => (stOk, h.statusReply, h)

/-- Reply of PORT_STATUS. -/
def Hw.portReply (h : Hw) (p : Nat) : List Byte :=
  fit 64 (h.words ([4, 8, 0xC, 0x10, 0x100, 0x104].map (eaveA p) ++ wordsFrom (eaveA p 0x20) 8 ++ [eaveA p 0x14]))

/-- PORT_STATUS. -/
def execPortStatus (h : Hw) (src : CmdSrc) (io : HostIo) : Hw :=
  h.runNow src 0x0103 io fun c h => (stOk, h.portReply (arg c.args 0 1), h)

/-! ## Links (R465) -/

/-- Ports that a mask names. -/
def portMask (m : Nat) : List Nat := (List.range 12).filter m.testBit

def maskOf (ps : List Nat) : Nat := ps.foldl (fun n p => n + 2 ^ p) 0

/-- A named port carries a tree link or a crossing of a configuration whose frames run. -/
def Hw.linksBusy (h : Hw) (ps : List Nat) : Bool := h.busy && ps.any h.carries

/-- The ports, among those named, that RETRAIN sends to DETECT: enabled, and past their start time. -/
def Hw.retrainable (h : Hw) (ps : List Nat) : List Nat :=
  ps.filter fun p => h.bget (eaveA p 0) 0 && (h.port p).started

/-- LINK_RETRAIN. -/
def execLinkRetrain (h : Hw) (src : CmdSrc) (io : HostIo) : Hw :=
  h.runNow src 0x0501 io fun c h =>
    let ps := portMask (arg c.args 0 2)
    if h.linksBusy ps then (stRefused, [], h)
    else
      let go := h.retrainable ps
      (stOk, bytesOf 2 (maskOf go), go.foldl (fun h p => h.restartPort p) h)

/-- LINK_ENABLE. -/
def execLinkEnable (h : Hw) (src : CmdSrc) (io : HostIo) : Hw :=
  h.runNow src 0x0502 io fun c h =>
    let ps := portMask (arg c.args 0 2)
    let on := arg c.args 2 1 == 1
    if h.linksBusy ps then (stRefused, [], h)
    else
      let changed := ps.filter fun p => h.bget (eaveA p 0) 0 != on
      (stOk, bytesOf 2 (maskOf changed), ps.foldl (fun h p => h.writePortCtrl p (setBit (h.reg (eaveA p 0)) 0 on)) h)

/-! ## Time (R295, R300) -/

/-- TIME_STATUS. -/
def execTimeStatus (h : Hw) (src : CmdSrc) (io : HostIo) : Hw :=
  h.runNow src 0x0601 io fun _ h =>
    (stOk, fit 48 (h.words (wordsFrom (timeA 0) 4 ++ [0x10, 0x1C, 0x20, 0x24, 0x58, 0x28].map timeA)), h)

/-- TIME_PHASE (Table 10.2). -/
def execTimePhase (h : Hw) (src : CmdSrc) (io : HostIo) : Hw :=
  h.runNow src 0x0602 io fun c h =>
    let v := arg c.args 0 1
    let p := if v = 1 then 1 else v
    if v = 1 && h.tPhase != 2 then (stRefused, [], h)
    else
      let h := h.enterPhase p
      (stOk, bytesOf 1 h.tPhase, h)

/-- TIME_SET: the seconds count (R300). -/
def execTimeSet (h : Hw) (src : CmdSrc) (io : HostIo) : Hw :=
  h.runNow src 0x0603 io fun c h =>
    if !(h.tPhase = 0 || h.tPhase = 2) || !h.bget (timeA 0x14) 0 then (stRefused, [], h)
    else (stOk, [], h.stepTime (arg c.args 0 8 * unitsPerSec + h.time.now % unitsPerSec))

/-! ## Calls (R333, R336) -/

/-- CALL_CANCEL. -/
def execCallCancel (h : Hw) (src : CmdSrc) (io : HostIo) : Hw :=
  h.runNow src 0x0801 io fun c h =>
    let h := h.cancelCall (arg c.args 0 2) (arg c.args 2 1)
    (stOk, bytesOf 1 (h.fget (callsA 0xC) 1 0), h)

/-- CALL_STATUS. -/
def execCallStatus (h : Hw) (src : CmdSrc) (io : HostIo) : Hw :=
  h.runNow src 0x0802 io fun _ h => (stOk, h.words (callsA 4 :: wordsFrom (callsA 0x10) 8), h)

/-! ## Acquisition status (R358) -/

/-- ACQ_STATUS. -/
def execAcqStatus (h : Hw) (src : CmdSrc) (io : HostIo) : Hw :=
  h.runNow src 0x0703 io fun _ h =>
    (stOk, fit 48 (h.words (([0x24, 0x28, 0x2C, 0x30, 0x34, 0x38, 0x3C].map acqA) ++ [probeA 0x48])), h)

/-! ## Events and the log (R412, R418, R419) -/

/-- EVENT_READ. -/
def execEventRead (h : Hw) (src : CmdSrc) (io : HostIo) : Hw :=
  h.runNow src 0x0A01 io fun c h =>
    (stOk, h.words (faultA 0x600 :: wordsFrom (grpStatA (arg c.args 0 1)) (arg c.args 1 1)), h)

/-- EVENT_CLEAR. -/
def execEventClear (h : Hw) (src : CmdSrc) (io : HostIo) : Hw :=
  h.runNow src 0x0A02 io fun c h =>
    (stOk, [], h.plainWrite (grpStatA (arg c.args 0 1)) (BitVec.ofNat 32 (arg c.args 2 2)))

/-- LOG_READ. -/
def execLogRead (h : Hw) (src : CmdSrc) (io : HostIo) : Hw :=
  h.runNow src 0x0A03 io fun c h =>
    (stOk, h.words ([0x608, 0x60C, 0x610, 0x614].map faultA ++ wordsFrom (logA (arg c.args 0 1)) (4 * arg c.args 1 1)), h)

/-- LOG_ACK. -/
def execLogAck (h : Hw) (src : CmdSrc) (io : HostIo) : Hw :=
  h.runNow src 0x0A04 io fun c h =>
    let h := ((List.range 32).filter (arg c.args 0 4).testBit).foldl (fun h k => execLogValidWrite h k 0x8000) h
    (stOk, bytesOf 1 h.handledList.length, h)

/-! ## Apertures (R444) -/

/-- BAR2_MAP. -/
def execBar2Map (h : Hw) (src : CmdSrc) (io : HostIo) : Hw :=
  h.runNow src 0x0401 io fun c h =>
    let v := arg c.args 1 1 + 4 * arg c.args 2 1 + 256 * arg c.args 3 1
    (stOk, [], h.setReg (hostifA (0x40 + 8 * arg c.args 0 1)) (BitVec.ofNat 32 v))

/-! ## Register access (R470, R471) -/

/-- The block of an address is a service block outside a session. -/
def Hw.serviceShut (h : Hw) (a : Nat) : Bool :=
  (match blockAt a with | some (_, _, s, _) => s | none => false) && !h.session

/-- Read words in ascending order. -/
def Hw.readWords (h : Hw) : List Nat → List Byte × Hw
  | [] => ([], h)
  | a :: as =>
    let (v, h) := h.readWord a
    let (bs, h) := Hw.readWords h as
    (bytesOf 4 v.toNat ++ bs, h)

/-- What REG_READ does: a block whose domain is off ends it with NOT_READY (R470). -/
def Hw.regRead (h : Hw) (args : List Byte) : Nat × List Byte × Hw :=
  let a := arg args 0 4
  if h.arrayShut a then (stNotReady, [], h)
  else if h.serviceShut a then (stLocked, [], h)
  else
    let (bs, h) := h.readWords (wordsFrom a (arg args 4 1))
    (stOk, bs, h)

/-- REG_READ. -/
def execRegRead (h : Hw) (src : CmdSrc) (io : HostIo) : Hw := h.runNow src 0x0C01 io fun c h => h.regRead c.args

/-- Write words in ascending order up to the first that is refused: its status, and the number of words written before it. -/
def Hw.writeWords (h : Hw) : List (Nat × Word32) → Nat → Nat × Nat × Hw
  | [], n => (stOk, n, h)
  | (a, v) :: ws, n =>
    match h.writeWord a v with
    | .ok h => Hw.writeWords h ws (n + 1)
    | .error e => (e, n, h)

/-- Addresses and words of REG_WRITE. -/
def regWords (args : List Byte) : List (Nat × Word32) :=
  (List.range (arg args 4 1)).map fun i => (arg args 0 4 + 4 * i, (BitVec.ofNat 32 (arg args (8 + 4 * i) 4) : Word32))

/-- What REG_WRITE does. -/
def Hw.regWrite (h : Hw) (args : List Byte) : Nat × List Byte × Hw :=
  let (st, n, h) := h.writeWords (regWords args) 0
  (st, bytesOf 1 n, h)

/-- REG_WRITE. -/
def execRegWrite (h : Hw) (src : CmdSrc) (io : HostIo) : Hw := h.runNow src 0x0C02 io fun c h => h.regWrite c.args

end Sys2Proof.Machine
end

