-- ==== Sys2Proof/Machine/OvsetLoad.lean ====
section
/-!
DEFINITION. The image commands of Table 18.3 (R264 to R268, R455, R458).
-/

namespace Sys2Proof.Machine

/-- IMAGE_BEGIN. -/
def execImageBegin (h : Hw) (src : CmdSrc) (io : HostIo) : Hw :=
  h.runNow src 0x0201 io fun c h =>
    let (st, h) := h.imageBegin (arg c.args 0 8) c.input
    (st, [], h)

/-- IMAGE_BLOCK: its own tests come before those of its list (R266, R455). -/
def execImageBlock (h : Hw) (src : CmdSrc) (io : HostIo) : Hw :=
  match h.pick src 0x0202 with
  | none => h
  | some (args, _, linkIn) =>
    if !h.mpTakes then h
    else if !isLen 8 args then h.endCmd src [] stBadArgument [] []
    else
      let (h, go) := h.wakeFor true
      if !go then h
      else if h.classBusy src 0x0202 then h.endCmd src [] stBusy [] []
      else match h.img.load with
        | none => h.endCmd src [] stRefused [] []
        | some l =>
          let off := arg args 0 8
          if off % 65536 ≠ 0 ∨ l.length ≤ off then h.endCmd src [] stBadArgument [] []
          else match h.gather src linkIn io (blockLen l.length off) 0 with
            | none => h
            | some (.error e) => h.endCmd src [] e [] []
            | some (.ok (ds, bytes)) =>
              let h := h.imageBlock off bytes
              h.endCmd src ds stOk (bytesOf 4 h.imgRecv) []

/-- LAST_STATUS and LAST_CHECK of an IMAGE_COMMIT that tests nothing (R286). -/
def Hw.noteCommit (h : Hw) (status : Nat) : Hw := { h with img := { h.img with lastStatus := status, lastCheck := 0 } }

/-- IMAGE_COMMIT: ABANDON closes the load untested; a full load stays open while a capture or a restore goes on (R381); otherwise the
tests decide, and a full image that must wait for a halt replies once it has been applied (R269, R270, R458). -/
def execImageCommit (h : Hw) (src : CmdSrc) (io : HostIo) : Hw :=
  h.runCmd src 0x0203 io fun c h =>
    match h.img.load with
    | none => (.done stRefused [] [], h.noteCommit stRefused)
    | some l =>
      if arg c.args 0 1 = 1 then (.done stOk (fit 12 []) [], h.closeLoad.noteCommit stOk)
      else if l.kind == 0 && h.snapHolds then (.done stBusy [] [], h)
      else
        let (v, waits, h) := h.imageCommit l
        (if waits then .wait 1 stOk v.reply [] else .done v.status v.reply [], h)

/-- IMAGE_STATUS. -/
def execImageStatus (h : Hw) (src : CmdSrc) (io : HostIo) : Hw :=
  h.runNow src 0x0204 io fun _ h =>
    (stOk, bytesOf 4 h.imgStat.toNat ++ bytesOf 4 h.imgRecv ++ bytesOf 8 h.configId.toNat ++ bytesOf 8 h.lowestMissing, h)

end Sys2Proof.Machine
end

