-- ==== Sys2Proof/Machine/OvsetRun.lean ====
section
/-!
DEFINITION. Configuration, run-control and power commands (Tables 18.4 and 18.9; R29 to R33, R143, R459 to R461, R467, R468),
and the entry to SLEEP, which answers the commands that asked for it.
-/

namespace Sys2Proof.Machine

/-! ## Leaving and forming a configuration (R32, R33, R459) -/

/-- HUB.CLK_CTRL.SRC is set, its port kept (R32). -/
def Hw.setSrc (h : Hw) (src : Nat) : Hw := h.writeClk (setFld (h.reg 0x44) 1 0 src)

/-- A module leaves its configuration: a former member sets SRC to LOCAL (R32). -/
def Hw.leaveConfig (h : Hw) : Hw :=
  let was := h.isMember
  let h := { h with conf := {} }
  if was then h.setSrc 0 else h

/-- A member takes the level of its head: in HELD it moves there, and in any other state the level is in force at once (DESIGN CHOICE:
R148 has one level on every module and does not say how a new member comes to it; log entry 64). -/
def Hw.takeLevel (h : Hw) (level : Nat) : Hw :=
  if h.seq.level = level then h
  else if h.seq.run = .held then h.enterLevelChange level false h.seq.throttled
  else h.updSeq fun s => { s with level := level }

/-- A module becomes a member (R32, R33, R148, R238); one that belongs to another configuration refuses (R30). -/
def Hw.joinConfig (h : Hw) (head count distance : Nat) (tree : List Nat) (uplink : Nat) (cross : List Nat) (above : List (Nat × Nat))
    (level request : Nat) (throttled : Bool) : Nat × Hw :=
  if h.isMember && h.conf.head != head then (stRefused, h)
  else
    let h : Hw := { h with
      conf := { formed := true, head := head, members := [], treePorts := tree, uplink := some uplink, crossPorts := cross
                broken := false, links := [], distance := distance, branches := tree, above := above }
      img := { h.img with unformed := false } }
    let h := h.updSeq fun s => { s with clk := count + distance, levelReq := request, throttled := throttled }
    (stOk, (h.writeClk (setFld (setFld (h.reg 0x44) 1 0 2) 5 2 uplink)).takeLevel level)

/-- Modules that MEMBERS names, the head's own bit ignored (R459). -/
def Hw.named (h : Hw) (mask : Nat) : List Nat := (List.range 64).filter fun i => mask.testBit i && i != h.devIndex

/-- This module as CONFIG_FORM sees it. -/
def Hw.ownFacts (h : Hw) : MemberFacts :=
  ⟨h.devIndex, h.isMember, h.img.loaded.isSome, h.busy, h.seq.schedLen, h.seq.vecSource.isSome, h.seq.horizon⟩

/-- Ports of this module whose partner belongs to the configuration: their crossings (R110). -/
def Hw.crossingPorts (h : Hw) (ms : List Nat) : List Nat :=
  (List.range 12).filter fun p => h.bget (eaveA p 4) 18 && ms.contains (h.eget p 4 13 8)

/-- Crossings that this module receives, as Table 18.5 tests them. -/
def Hw.ownCrossings (h : Hw) (ms : List Nat) (f : FormFacts) : List CrossFacts :=
  (h.crossingPorts ms).map fun p =>
    let x := h.eget p 0x100 8 0
    ⟨h.devIndex, p, x, ((f.partnerLx.find? fun q => q.1 == p).map (·.2)).getD x, h.eget p 0x100 17 9⟩

/-- Crossings that members receive. Where this module transmits one, its own image states the transmitter's L_X (R111). -/
def Hw.memberCrossings (h : Hw) (ms : List Nat) (f : FormFacts) : List CrossFacts :=
  (f.crossings.filter fun c => ms.contains c.device).map fun c =>
    match (List.range 12).find? fun p =>
      h.bget (eaveA p 4) 18 && h.eget p 4 13 8 == c.device && h.eget p 4 17 14 == c.port with
    | some p => { c with sent := h.txLat p }
    | none => c

/-! ## The tree of a configuration (R33, R128, R230) -/

/-- The tree of a configuration: the paths of fewest ACTIVE links from the head through its modules, ties broken by the
lowest port number. Which tree R33 means where the links allow several is left open (DESIGN CHOICE, log entry 47). -/
def Hw.treeOf (h : Hw) (ms : List Nat) : List TreeLink :=
  pathTree h.allPorts (fun d => ms.contains d || d == h.devIndex) h.devIndex 64 [h.devIndex] []

/-- Measured latency of the crossing that arrives at port p of module d (R112). -/
def Hw.measuredAt (h : Hw) (f : FormFacts) (d p : Nat) : Nat :=
  if d = h.devIndex then h.eget p 0x100 17 9
  else ((f.crossings.find? fun c => c.device == d && c.port == p).map (·.measured)).getD 0

/-- What a symbol takes down a link and up it: the measured latency and 4 courses of forwarding (R128). -/
def Hw.downCost (h : Hw) (f : FormFacts) (l : TreeLink) : Nat := h.measuredAt f l.child l.uplink + 4
def Hw.upCost (h : Hw) (f : FormFacts) (l : TreeLink) : Nat := h.measuredAt f l.parent l.port + 4

/-- Tree distance from module a to module b: up to where their paths to the head meet, and down (R128). -/
def Hw.treeDistance (h : Hw) (f : FormFacts) (tree : List TreeLink) (a b : Nat) : Nat :=
  let pa := pathTo tree 64 a
  let pb := pathTo tree 64 b
  let up := pa.filter fun l => !pb.contains l
  let down := pb.filter fun l => !pa.contains l
  up.foldl (fun n l => n + h.upCost f l) 0 + down.foldl (fun n l => n + h.downCost f l) 0

/-- The largest tree distance between two modules of the configuration (R128). -/
def Hw.largestDistance (h : Hw) (f : FormFacts) (ms : List Nat) : Nat :=
  let tree := h.treeOf ms
  let all := h.devIndex :: ms
  (all.flatMap fun a => all.map fun b => h.treeDistance f tree a b).foldl max 0

/-- Ports of module d that carry links of the tree, and those whose partner belongs to the configuration (R110). -/
def treePortsOf (tree : List TreeLink) (d : Nat) : List Nat :=
  (tree.filter fun l => l.parent == d).map (·.port) ++ (tree.filter fun l => l.child == d).map (·.uplink)

def Hw.crossPortsOf (h : Hw) (ms : List Nat) (d : Nat) : List Nat :=
  (h.allPorts.filter fun t => t.device == d &&
    (match t.partner with | some q => ms.contains q || q == h.devIndex | none => false)).map (·.port)

/-- The first check of Table 18.5 that fails: CHECK, its status, the device and the port. -/
def Hw.formCheck (h : Hw) (ms : List Nat) (f : FormFacts) : Option (Nat × Nat × Nat × Nat) :=
  let all := h.ownFacts :: f.members.filter fun m => ms.contains m.device
  let own := h.ownFacts
  let cs := h.ownCrossings ms f ++ h.memberCrossings ms f
  let dev (p : MemberFacts → Bool) : Option Nat := (all.find? p).map (·.device)
  let sources := all.filter (·.vecSource)
  match f.twice with
  | some d => some (1, stRefused, d, 0xFF)
  | none => match dev (·.foreign) with
  | some d => some (2, stRefused, d, 0xFF)
  | none => match dev (!·.hasImage) with
  | some d => some (3, stRefused, d, 0xFF)
  | none => match dev (·.busy) with
  | some d => some (4, stRefused, d, 0xFF)
  | none => match dev (·.schedLen != own.schedLen) with
  | some d => some (5, stMismatch, d, 0xFF)
  | none =>
    if sources.length ≠ 1 then some (6, stMismatch, ((sources.drop 1).head?.map (·.device)).getD h.devIndex, 0xFF)
    else match dev (·.horizon != own.horizon) with
    | some d => some (7, stMismatch, d, 0xFF)
    | none => match cs.find? fun c => c.lx != c.sent with
      | some c => some (8, stMismatch, c.device, c.port)
      | none => match cs.find? fun c => decide (c.lx < c.measured + 16) with
        | some c => some (9, stMismatch, c.device, c.port)
        | none => if ms ≠ [] ∧ own.horizon < h.largestDistance f ms + 16 then some (10, stMismatch, h.devIndex, 0xFF) else none

/-- LATENCY_MISMATCH of checks 9 and 10: for the port whose margin fails, on the module that it belongs to, or for the module
(R112, R128). Where several ports fail, the one that decides the status alone raises it (DESIGN CHOICE: R112 speaks of one port, and
R459 of the first failure; log entry 64). -/
def Hw.formEvent (h : Hw) (check dev port : Nat) : Hw :=
  if check = 9 then
    if dev = h.devIndex then h.raise (evPortLatencyMismatch port) else h.sendMsg dev (.mismatch port)
  else if check = 10 then h.raise evLatencyMismatch
  else h

/-- CONFIG_FORM takes effect: the old members that are not named leave, the configuration forms around this head, and the
members join (R32, R33, R269). -/
def Hw.form (h : Hw) (c : Call0) (ms : List Nat) (f : FormFacts) : Res × Hw :=
  let gone := (if h.isHead then h.conf.members else []).filter fun m => !ms.contains m
  let h := h.sendShares { c with code := 0x0302 } gone 1 []
  let tree := h.treeOf ms
  let h : Hw := { h with
    conf := { formed := true, head := h.devIndex, members := ms, treePorts := treePortsOf tree h.devIndex, uplink := none
              crossPorts := h.crossingPorts ms, broken := false, links := tree, distance := 0
              branches := treePortsOf tree h.devIndex, above := [] }
    img := { h.img with unformed := false } }
  let h := h.setSrc (arg c.args 8 1)
  let h := ms.foldl (fun h m =>
    let up := ((tree.find? fun l => l.child == m).map (·.uplink)).getD 0
    h.sendMsg m (.join h.devIndex c.src.tag h.seq.clk (h.treeDistance f tree h.devIndex m) (treePortsOf tree m) up
      (h.crossPortsOf ms m) ((pathTo tree 64 m).flatMap fun l => [(l.parent, l.port), (l.child, l.uplink)])
      h.seq.level h.seq.levelReq h.seq.throttled)) h
  if ms = [] then (.done stOk (fit 4 []) [], h) else (.wait 1 stOk (fit 4 []) ms, h)

/-- CONFIG_FORM. A slot's command whose members are not all reachable is held; one whose member stays unknown when
discovery has settled ends with DEVICE_ABSENT (R443, R459). -/
def execConfigForm (h : Hw) (src : CmdSrc) (io : HostIo) (f : FormFacts) : Hw :=
  h.runCmd src 0x0301 io fun c h =>
    let ms := h.named (arg c.args 0 8)
    let h := ms.foldl (fun h m => h.wakePath m) h
    if !ms.all h.pathActive then
      if h.settled && ms.any (fun m => !h.found.contains m) then (.done stDeviceAbsent (fit 4 []) [], h)
      else (.later, match src with | .slot s => h.setSlotState s 3 | .link _ _ => h)
    else match h.formCheck ms f with
      | some (k, st, d, p) => (.done st ([k, d, p, 0].map (BitVec.ofNat 8)) [], h.formEvent k d p)
      | none => h.form c ms f

/-- CONFIG_LEAVE on a head, once its members have tested: they are released, and the head with them. -/
def leaveDo (c : Call0) (h : Hw) : Res × Hw :=
  if !h.conf.formed then (.done stOk [0] [], h)
  else
    let ms := h.crew c
    let reply := bytesOf 1 (1 + ms.length)
    let h := (h.sendShares c ms 1 []).leaveConfig
    if ms = [] then (.done stOk reply [], h) else (.wait 1 stOk reply ms, h)

/-- CONFIG_LEAVE. -/
def execConfigLeave (h : Hw) (src : CmdSrc) (io : HostIo) : Hw :=
  h.runCmd src 0x0302 io fun c h =>
    let own := if h.conf.formed && h.busy then stRefused else stOk
    if c.share then memberShare c (fun _ => own) (fun _ h => h.leaveConfig) h else h.crewRun c (h.crew c) own [] leaveDo

/-! ## RUN_START (R460) -/

/-- The loaded image is checked (R205). -/
def Hw.imageChecked (h : Hw) : Bool := match h.img.loaded with | some l => (imgField l.head 0x41 1).testBit 0 | none => false

/-- RUN_START's argument test. -/
def startBad (a : List Byte) : Bool :=
  let mode := arg a 0 1
  let count := arg a 4 4
  let period := arg a 32 8
  !(decide (1 ≤ mode) && decide (mode ≤ 3)) || (if mode = 3 then count == 0 else count != 0) ||
    (if mode = 2 then !(decide (65536 ≤ period) && decide (period < 2 ^ 48)) else period != 0)

/-- A module does not allow a start (R460, item 2). -/
def Hw.startRefused (h : Hw) (checked : Bool) : Bool :=
  h.seq.run != .held || h.startWaits || !h.conf.formed || h.img.unformed || h.fget (powerA 0x28) 15 0 != 0 ||
    (checked && !h.imageChecked) || h.img.markOverflow || h.conf.broken || h.seq.pllDead

/-- A wake is not complete on this module (R404). -/
def Hw.notAwake (h : Hw) : Bool := h.pstate != 0 || h.bget (powerA 0) 4

/-- The tests of a module, beyond those of the arguments. -/
def Hw.startTest (h : Hw) (mode : Nat) (checked : Bool) : Nat :=
  if h.startRefused checked then stRefused
  else if (h.isHead && mode == 2 && h.tStatus == 0) || h.notAwake then stNotReady
  else stOk

/-- The start is sent: the head remembers what RUN_CTRL does not carry, tells its members, and sends RUN_CTRL, at whose effect
clock every module is RUNNING (R127, R142, Table 5.4). In TIMED mode the first tick serves the first grid point at least H
course clocks later (Table 5.4, R311). -/
def startDo (c : Call0) (h : Hw) : Res × Hw :=
  let mode := arg c.args 0 1
  let checked := arg c.args 1 1
  let count := arg c.args 4 4
  let period := 3 * arg c.args 32 8
  let t0 := timeOf (BitVec.ofNat 112 (arg c.args 16 14))
  let first := if mode = 2 then t0 + h.pointsAhead t0 period h.seq.horizon * period else 0
  let ms := h.crew c
  let h := h.wakePorts (h.conf.treePorts ++ h.conf.crossPorts)
  let h := h.updSeq fun s => { s with
    stepCount := count, gridPeriod := period, gridNext := first, goSent := false, goEff := false }
  let h := ms.foldl (fun h d => h.sendMsg d (.runParams count first period)) h
  let h := h.sendSym .runCtrl (mode - 1 + 32 * checked)
  (.done stOk (bytesOf 8 (h.seq.frame.toNat + natBit h.seq.deferred)) [], h)

/-- RUN_START. In DOZE it starts a wake, and ends with NOT_READY like any start before the wake is complete (R402, R404). -/
def execRunStart (h : Hw) (src : CmdSrc) (io : HostIo) : Hw :=
  h.runCmd src 0x0303 io fun c h =>
    let h := if h.pstate = 2 && h.power.source.isNone then h.wakeBy 1 0 else h
    if c.share then
      memberShare c (fun ops => h.startTest (arg ops 0 1) (arg ops 1 1 == 1)) (fun _ h => h) h
    else
      let own := if startBad c.args then stBadArgument else h.startTest (arg c.args 0 1) (arg c.args 1 1 == 1)
      if own = stBadArgument then (.done own [] [], h) else h.crewRun c (h.crew c) own (c.args.take 2) startDo

/-! ## RUN_HALT (R461) -/

/-- The configuration has stopped. -/
def Hw.stopped (h : Hw) : Bool := (h.seq.run = .held || h.seq.run = .stoppedMid || h.seq.run = .empty) && !h.startWaits

/-- RUN_HALT: the reply waits until every module has stopped. A start whose symbol is still on its way is halted at its first
tick. -/
def execRunHalt (h : Hw) (src : CmdSrc) (io : HostIo) : Hw :=
  h.runCmd src 0x0304 io fun _ h =>
    if h.seq.run = .running || h.seq.run = .halting || h.startWaits then (.wait 1 stOk [] [], h.sendSym .runCtrl 3)
    else (.done stRefused [] [], h)

/-! ## LEVEL_REQ (R148, R468) -/

/-- LEVEL_REQ. In HELD a module without members enters LEVEL_CHANGE at once; a head carries the request by RUN_CTRL. -/
def execLevelReq (h : Hw) (src : CmdSrc) (io : HostIo) : Hw :=
  h.runCmd src 0x0902 io fun c h =>
    let l := arg c.args 0 1
    match h.seq.run with
    | .running => (.done stOk (bytesOf 1 h.seq.level) [], h.sendSym .runCtrl (4 + 8 * l))
    | .held =>
      if h.startWaits then (.done stOk (bytesOf 1 h.seq.level) [], h.sendSym .runCtrl (4 + 8 * l))
      else if h.crew c = [] then (.wait 1 stOk [] [], h.requestLevel l)
      else (.wait 1 stOk [] [], h.sendSym .runCtrl (4 + 8 * l))
    | _ => (.done stRefused [] [], h)

/-! ## POWER_STATE (R388, R389, R430, R467) -/

/-- A module begins to go to a power state: an entry is asked for, or a wake begins. -/
def Hw.goPower (h : Hw) (s : Nat) : Hw :=
  if s = 0 then (if h.pstate = 1 then h.leaveIdle else if h.pstate = 2 && h.power.source.isNone then h.wakeBy 1 0 else h)
  else h.askEntry s

/-- The module is in a power state, with no entry and no wake under way. -/
def Hw.atPower (h : Hw) (s : Nat) : Bool := h.pstate == s && h.power.goal.isNone && h.power.source.isNone

/-- POWER_STATE. A request for a state between the present one and RUN is not among the entries and wakes that the manual
gives, and is refused. -/
def execPowerState (h : Hw) (src : CmdSrc) (io : HostIo) : Hw :=
  h.runCmd src 0x0901 io fun c h =>
    let s := arg c.args 0 1
    if !h.lowOk then (.done stRefused [] [], h)
    else if h.atPower s && (c.share || h.crew c = []) then (.done stOk (bytesOf 1 s) [], h)
    else if s = 3 && !c.share && h.sleepBarred then (.done stRefused [] [], h)
    else if s ≠ 0 && decide (s < h.pstate) then (.done stRefused [] [], h)
    else
      let ms := h.crew c
      let h := if c.share then h else h.carryPower c.src.tag s
      (.wait 1 stOk [] ms, if h.atPower s then h else h.goPower s)

/-- Waiting POWER_STATE commands that nothing else holds back are answered: before step 6 of the SLEEP entry (R467). -/
def Hw.answerSleep (h : Hw) : Hw :=
  (h.host.waits.filter fun w => w.code == 0x0901 && w.left.isEmpty).foldl (fun h w => h.endCmd w.src [] stOk [3] []) h

/-- ENTER_SLEEP (Table 15.4), made only from DOZE: the whole entry, or the steps up to the one at whose end a wake source has
arrived. A session does not outlast the HUB domain (R487). -/
def execEnterSleep (h : Hw) (cut : Option EntryCut) : Hw :=
  if !(h.mayEnter 3 && h.pstate == 2) || h.sleepBarred then h
  else match h.cutOf 3 cut with
    | some c => (h.steps Hw.sleepStep (min c.step 5)).abortEntry c true
    | none => (((h.endSession.steps Hw.sleepStep 5).answerSleep).sleepStep 6).entered 3

/-! ## PAD_RELEASE (R398, R468) -/

/-- PAD_RELEASE: the named banks of this module, and with ALL those of every module of the configuration. -/
def execPadRelease (h : Hw) (src : CmdSrc) (io : HostIo) : Hw :=
  h.runCmd src 0x0903 io fun c h =>
    if c.share then memberShare c (fun _ => stOk) (fun ops h => h.releasePads (arg ops 0 2)) h
    else
      let mask := arg c.args 0 2
      let all := arg c.args 2 1 == 1
      if all && h.isMember then (.done stRefused [] [], h)
      else
        let ms := if all then h.crew c else []
        let reply := bytesOf 2 ((h.fget (powerA 0x28) 15 0) &&& mask)
        let h := (h.releasePads mask).sendShares c ms 1 (c.args.take 2)
        if ms = [] then (.done stOk reply [], h) else (.wait 1 stOk reply ms, h)

end Sys2Proof.Machine
end

