-- ==== Sys2Proof/Machine/OvsetMem.lean ====
section
/-!
DEFINITION. Memory, pool and snapshot commands (Table 18.6; R376, R382, R385, R462 to R464).
-/

namespace Sys2Proof.Machine

/-! ## MEM_READ and MEM_WRITE (R462) -/

/-- The words of a memory command, by number from its address. -/
def memPlace (a : List Byte) (i : Nat) : Place :=
  let w := arg a 8 8 / 8 + i
  match arg a 0 1 with
  | 1 => .far (arg a 1 1) w
  | 2 => .bank (arg a 1 1) (arg a 2 2) w
  | _ => .scratch (arg a 2 2) w

/-- How far a memory command has come: the words done, their data, and the failure that stopped it. -/
structure MemRun where
  words : Nat := 0
  data : List Byte := []
  fail : Option Failure := none
deriving DecidableEq, Repr

/-- Read word i, unless the command has stopped; `stop` is the word whose ridge access times out (R23). -/
def Hw.memReadOne (h : Hw) (a : List Byte) (stop : Option Nat) (r : MemRun) (i : Nat) : MemRun × Hw :=
  if r.fail.isSome then (r, h)
  else if stop = some i && h.placeUp (memPlace a i) then ({ r with fail := some .timeout }, h)
  else match h.hostReadWord (memPlace a i) true with
    | (.ok v, h) => ({ r with words := r.words + 1, data := r.data ++ bytesOf 8 v.toNat }, h)
    | (.error e, h) => ({ r with fail := some e }, h)

/-- Write word i of a stream, unless the command has stopped. -/
def Hw.memWriteOne (h : Hw) (a input : List Byte) (stop : Option Nat) (r : MemRun) (i : Nat) : MemRun × Hw :=
  if r.fail.isSome then (r, h)
  else if stop = some i && h.placeUp (memPlace a i) then ({ r with fail := some .timeout }, h)
  else match h.hostWriteWord (memPlace a i) (BitVec.ofNat 64 (ofBytes ((input.drop (8 * i)).take 8))) with
    | .ok h => ({ r with words := r.words + 1 }, h)
    | .error e => ({ r with fail := some e }, h)

/-- The status of a memory command that has come so far. -/
def MemRun.status (r : MemRun) : Nat := match r.fail with | some e => e.status | none => stOk

/-- The whole read: its reply, its output stream with 0xFF after the bytes done. -/
def Hw.memRead (h : Hw) (a : List Byte) (stop : Option Nat) : Res × Hw :=
  let len := arg a 16 4
  let (r, h) := (List.range (len / 8)).foldl (fun (x : MemRun × Hw) i => x.2.memReadOne a stop x.1 i) ({}, h)
  (.done r.status (bytesOf 8 (8 * r.words)) (r.data ++ List.replicate (len - r.data.length) 0xFF), h)

/-- The whole write. -/
def Hw.memWrite (h : Hw) (a input : List Byte) (stop : Option Nat) : Res × Hw :=
  let (r, h) := (List.range (arg a 16 4 / 8)).foldl (fun (x : MemRun × Hw) i => x.2.memWriteOne a input stop x.1 i) ({}, h)
  (.done r.status (bytesOf 8 (8 * r.words)) [], h)

/-- MEM_READ. -/
def execMemRead (h : Hw) (src : CmdSrc) (io : HostIo) : Hw := h.runCmd src 0x0402 io fun c h => h.memRead c.args none

/-- MEM_WRITE. -/
def execMemWrite (h : Hw) (src : CmdSrc) (io : HostIo) : Hw := h.runCmd src 0x0403 io fun c h => h.memWrite c.args c.input none

/-- A far-memory access of an MP call times out after some words: the call is FAILED, and the words written stay (R328). -/
def Hw.callTimesOut (h : Hw) (slot words : Nat) : Hw :=
  let h' := h.mpServe slot 0xF1 fun c h =>
    match h.mpAddr c with
    | none => (none, h)
    | some (d, a) => (none, (List.range (min words 3)).foldl (fun h i => (h.farRidgeRead d (a + i) true).2) h)
  h'.mpServe slot 0xF2 fun c h =>
    match h.mpAddr c with
    | none => (none, h)
    | some (d, a) => (none, h.mpWrite c d a (min words 2))

/-- A register of an array die is reached over the ridge network (R22, R407). -/
def overRidge (a : Nat) : Bool := decide (0x01000000 ≤ a)

/-- REG_READ of array-die registers whose access times out after some words (R23). -/
def Hw.regReadLate (h : Hw) (args : List Byte) (words : Nat) : Nat × List Byte × Hw :=
  let a := arg args 0 4
  if overRidge a && !h.arrayShut a && !h.serviceShut a && decide (words < arg args 4 1) then
    (stTimeout, [], (h.readWords (wordsFrom a words)).2)
  else h.regRead args

/-- REG_WRITE of array-die registers whose access times out after some words: those stay written (R23, R471). -/
def Hw.regWriteLate (h : Hw) (args : List Byte) (words : Nat) : Nat × List Byte × Hw :=
  if overRidge (arg args 0 4) && !h.arrayShut (arg args 0 4) && decide (words < arg args 4 1) then
    let (st, n, h) := h.writeWords ((regWords args).take words) 0
    (if st = stOk then stTimeout else st, bytesOf 1 n, h)
  else h.regWrite args

/-- RIDGE_TIMEOUT: a ridge access of a host, a memory or register command or an MP call reaches TIMEOUT_US (R23, R24, R445,
R462, R328). -/
def execRidgeTimeout (h : Hw) (acc : RidgeAccess) : Hw :=
  match acc with
  | .bar2Read off len => h.bar2Read off len true
  | .bar2Write off bytes => h.bar2Write off bytes true
  | .memory src io words =>
    let h := h.runCmd src 0x0402 io fun c h => h.memRead c.args (some words)
    h.runCmd src 0x0403 io fun c h => h.memWrite c.args c.input (some words)
  | .register src io words =>
    let h := h.runNow src 0x0C01 io fun c h => h.regReadLate c.args words
    h.runNow src 0x0C02 io fun c h => h.regWriteLate c.args words
  | .call slot words => h.callTimesOut slot words

/-! ## POOL_ALLOC and POOL_FREE (R463) -/

/-- POOL_ALLOC. -/
def execPoolAlloc (h : Hw) (src : CmdSrc) (io : HostIo) : Hw :=
  h.runNow src 0x0404 io fun c h =>
    let kind := arg c.args 0 1
    let slot := arg c.args 2 1
    if h.areaBusy kind slot then (stBusy, [], h)
    else match h.poolAlloc kind (arg c.args 1 1) slot (arg c.args 3 1 == 1) (arg c.args 4 4) with
      | none => (stNoResource, [], h)
      | some (bases, h) => (stOk, bases.flatMap (bytesOf 8), h)

/-- POOL_FREE. SLOT matters to snapshot areas alone. -/
def execPoolFree (h : Hw) (src : CmdSrc) (io : HostIo) : Hw :=
  h.runNow src 0x0405 io fun c h =>
    let kind := arg c.args 0 1
    let slot := if kind = 1 then arg c.args 1 1 else 0
    if h.areaBusy kind slot then (stBusy, [], h) else (stOk, [], h.freeArea kind slot)

/-! ## SNAP_TAKE (R376, R377) -/

/-- STATE of a slot's area (Table 14.2): 0 empty, 1 capturing, 2 complete, 3 failed. -/
def Hw.areaState (h : Hw) (k : Nat) : Nat := h.fget (snapSlotA k 0) 3 2

/-- A module's tests of SNAP_TAKE. While an image is applied or a snapshot restored it is not ready (Table 9.7), and in EMPTY it refuses
(R376). A failed area is neither empty nor complete. -/
def Hw.takeTest (h : Hw) (slot : Nat) : Nat :=
  if h.snap.capture.isSome then stBusy
  else if h.seq.run = .empty && (h.img.applyPending || h.snap.restore.isSome) then stNotReady
  else if !(h.seq.run = .running || h.seq.run = .held) then stRefused
  else if (h.snapArea slot).isSome && h.areaState slot == 3 then stRefused
  else if (h.snapArea slot).isNone then stNoResource
  else stOk

/-- The first frame whose end, at the frames' nominal length, falls at least 1 ms from now (R376). -/
def Hw.firstAfterMs (h : Hw) : Nat :=
  let s := h.seq
  let goal := h.time.now + msUnits 1
  let (e, len) := if s.mode = .timed then (s.gridNext, s.gridPeriod)
    else (h.time.now + (s.allowance - s.fclk) * h.clockLen, h.freeAllowance * h.clockLen)
  s.frame.toNat + (if goal ≤ e then 0 else (goal - e + len - 1) / max 1 len)

/-- Frame that has last ended, 0 when none has. -/
def Hw.lastFrame (h : Hw) : Nat := if h.seq.deferred then h.seq.frame.toNat else h.seq.frame.toNat - 1

/-- A capture is begun on this module: in HELD its point is taken at once (R376). -/
def Hw.beginCapture (h : Hw) (slot id frame : Nat) : Hw :=
  let c : Capture := { slot := slot, id := id, frame := frame, point := none, drained := [false, false], reported := []
                       failed := false, alt := 0, quiet := false, poisoned := false, damage := [0, 0] }
  let h := { h with snap := { h.snap with capture := some c } }
  if h.seq.run = .held && frame == h.lastFrame then h.pointInHeld else h

/-- The frame has already ended on this module. -/
def Hw.frameEnded (h : Hw) (f : Nat) : Bool := decide (f < h.seq.frame.toNat)

/-- The head schedules the point on every module, unless the members' answers have come too late for what the command was accepted
on (R376). -/
def takeDo (c : Call0) (h : Hw) : Res × Hw :=
  let slot := arg c.args 0 1
  let id := arg c.args 4 4
  let asked := arg c.args 8 8
  let f := if h.seq.run = .held then h.lastFrame else if asked = 0 then h.firstAfterMs else asked
  if h.takeTest slot ≠ stOk then (.done (h.takeTest slot) [] [], h)
  else if h.seq.run = .running && h.frameEnded f then (.done stRefused [] [], h)
  else
    let h := (h.crew c).foldl (fun h m => h.sendMsg m (.snapPoint slot id f)) h
    (.done stOk (bytesOf 8 f) [], h.beginCapture slot id f)

/-- SNAP_TAKE. -/
def execSnapTake (h : Hw) (src : CmdSrc) (io : HostIo) : Hw :=
  h.runCmd src 0x0406 io fun c h =>
    if c.share then memberShare c (fun ops => h.takeTest (arg ops 0 1)) (fun _ h => h) h
    else
      let f := arg c.args 8 8
      let t := h.takeTest (arg c.args 0 1)
      let ended := h.seq.run = .running && f != 0 && h.frameEnded f
      let own := if t ≠ stBusy && ended then stRefused else t
      h.crewRun c (h.crew c) own (c.args.take 1) takeDo

/-! ## SNAP_RESTORE (R382, R383) -/

/-- The area of a slot is complete, holds the snapshot of the given ID and frame, and fits the loaded image. -/
def Hw.areaMatches (h : Hw) (k id frame : Nat) : Bool :=
  match h.snapArea k with
  | none => false
  | some ar =>
    let b := ar.base.getD 0 0
    h.areaState k == 2 && (h.reg (snapSlotA k 4)).toNat == id && (h.reg64 (snapSlotA k 8)).toNat == frame &&
      h.areaRead 0 b 0 == h.configId && h.img.loaded.isSome && fld (h.areaRead 0 b 0x18) 63 32 == h.snap.bayGen % 2 ^ 32

/-- A module's tests of SNAP_RESTORE, with the ID and FRAME of the head's area. -/
def Hw.restoreTest (h : Hw) (k id frame : Nat) : Nat :=
  if h.seq.run = .empty then stNotReady
  else if !(h.seq.run = .held || h.seq.run = .stoppedMid) || h.startWaits then stRefused
  else if h.snapHolds || (decide (2 ≤ h.acqState) && decide (h.acqState ≤ 4)) then stBusy
  else if !h.areaMatches k id frame then stMismatch
  else stOk

/-- Every module begins to restore the slot; the reply waits until each has performed the steps. -/
def restoreDo (c : Call0) (h : Hw) : Res × Hw :=
  let ms := h.crew c
  (.wait 1 stOk [] ms, (h.sendShares c ms 1 (c.args.take 1)).restoreBegin (arg c.args 0 1))

/-- A member's part of a restore: its answer waits until the steps are performed. -/
def restoreShare (c : Call0) (h : Hw) : Res × Hw :=
  match c.args with
  | 0 :: ops => (.done (h.restoreTest (arg ops 0 1) (arg ops 1 4) (arg ops 5 8)) [] [], h)
  | _ :: ops => (.wait 1 stOk [] [], h.restoreBegin (arg ops 0 1))
  | [] => (.done stBadArgument [] [], h)

/-- SNAP_RESTORE. -/
def execSnapRestore (h : Hw) (src : CmdSrc) (io : HostIo) : Hw :=
  h.runCmd src 0x0407 io fun c h =>
    if c.share then restoreShare c h
    else
      let k := arg c.args 0 1
      let id := (h.reg (snapSlotA k 4)).toNat
      let frame := (h.reg64 (snapSlotA k 8)).toNat
      h.crewRun c (h.crew c) (h.restoreTest k id frame) (c.args.take 1 ++ bytesOf 4 id ++ bytesOf 8 frame) restoreDo

/-! ## READBACK (R385, R464) -/

/-- The findings byte: CRC_OK, CORRECTED, UNCORRECTABLE. -/
def findings (crcOk corrected bad : Bool) : Nat := natBit crcOk + 2 * natBit corrected + 4 * natBit bad

/-- A stored word as readback returns it: corrected, or as read when it cannot be corrected. -/
def plainWord (w : Word78) : Word64 :=
  match decDecode w with
  | (_, .bad) => decData w
  | (v, _) => v

/-- A bundle entry with its findings. -/
def bundleItem (b : Bundle) : List Byte :=
  let (v, f) := bundleDecode b
  fit 8 (bytesOf 4 (if f = .bad then b.extractLsb' 0 32 else v).toNat ++
    bytesOf 1 (findings true (f == .corrected) (f == .bad)))

/-- A course row in the layout of Table 9.3, with its findings. -/
def rowItem (row : Row) : List Byte :=
  let ins := (List.range 64).map (rowIns row)
  let segs := (List.range 9).map (rowSegD row)
  let fs := ins.map (·.2) ++ segs.map (·.2)
  let x := rowData row
  let word (i : Nat) : List Byte :=
    bytesOf 6 (if (rowIns row i).2 = .bad then (rowWord row i).1 else (rowIns row i).1).toNat
  let seg (s : Nat) : List Byte :=
    bytesOf 8 (if (rowSegD row s).2 = .bad then (rowSeg row s).1 else (rowSegD row s).1).toNat
  let bad := (List.range 73).find? fun i => fs.getD i .clean == .bad
  let corrected := (fs.filter (· == .corrected)).length
  fit 464 ((List.range 64).flatMap word ++ (List.range 9).flatMap seg ++
    bytesOf 1 (findings (rowCrc x.1 x.2 == rowStoredCrc row) (decide (0 < corrected)) bad.isSome) ++
    bytesOf 1 corrected ++ bytesOf 1 (bad.getD 0xFF))

/-- One item of a readback: KIND, die, unit and address. A bank word that is unwritten returns 0. -/
def Hw.readbackItem (h : Hw) (kind d u a : Nat) : List Byte :=
  let T := trussIx d u
  if kind = 1 then bytesOf 8 (plainWord (h.loft T a)).toNat
  else if kind = 2 then bytesOf 8 (if h.bankWritten (64 * d + u) a then (plainWord (h.bankWord (64 * d + u) a)).toNat else 0)
  else if kind = 3 then rowItem (h.row T a)
  else bundleItem (h.bundle T a)

/-- READBACK. -/
def execReadback (h : Hw) (src : CmdSrc) (io : HostIo) : Hw :=
  h.runCmd src 0x0408 io fun c h =>
    let a := c.args
    let n := arg a 8 4
    if h.seq.run = .empty then (.done stNotReady [] [], h)
    else (.done stOk (bytesOf 4 n) ((List.range n).flatMap fun i =>
      h.readbackItem (arg a 0 1) (arg a 1 1) (arg a 2 2) (arg a 4 4 + i)), h)

end Sys2Proof.Machine
end

