-- ==== Sys2Proof/Machine/OvsetObs.lean ====
section
/-!
DEFINITION. ACQ_ARM and ACQ_STOP (R351, R355 to R357, R466).
-/

namespace Sys2Proof.Machine

/-- The trigger domain that a mask names: the head's own bit is always part of it (R466). -/
def Hw.domain (h : Hw) (mask : Nat) : List Nat := (List.range 64).filter fun i => mask.testBit i || i == h.devIndex

/-- The lead: the module of the lowest device index (R356). -/
def leadOf (ms : List Nat) : Nat := ms.headD 0

/-- A module's tests of ACQ_ARM, for the segments and depths of its arguments; a module without a buffer has no R. -/
def Hw.armTest (h : Hw) (a : List Byte) : Nat :=
  let size := (h.reg (acqA 0x10)).toNat
  if size != 0 && decide (size / (arg a 1 1 + 1) < arg a 4 4 + arg a 8 4 + 5) then stBadArgument
  else if size = 0 then stNoResource
  else if h.acqActive then stBusy
  else stOk

/-- A module sets its acquisition up and enters ARMING; the queue of result changes starts empty, from the
results as they are (R344). -/
def Hw.arm (h : Hw) (a : List Byte) (ms : List Nat) : Hw :=
  let h := h.setReg (acqA 0) (BitVec.ofNat 32 (arg a 0 1 + 4 * arg a 1 1))
  let h := (h.setReg (acqA 0x14) (BitVec.ofNat 32 (arg a 4 4))).setReg (acqA 0x18) (BitVec.ofNat 32 (arg a 8 4))
  let h := h.setReg (acqA 0x20) (BitVec.ofNat 32 (ms.length + 256 * leadOf ms))
  let h := (h.setAcqState 1).fset (acqA 0x24) 10 3 0
  ({ h with acq := { h.acq with members := ms, ended := [], deadFrom := h.seq.ticks, insts := [], patHub := h.acq.patLast } } : Hw).newSegment

/-- Modules of the configuration that the domain of ACQ_ARM concerns besides the head. -/
def Hw.armCrew (h : Hw) (c : Call0) (ms : List Nat) : List Nat := (h.crew c).filter ms.contains

/-- The lead arms the first segment once every module of the domain is in ARMING (R356). -/
def Hw.leadArms (h : Hw) (c : Call0) (ms : List Nat) : Hw :=
  if leadOf ms = h.devIndex then h.sendSym .trigger 0xFE else h.sendShares c [leadOf ms] 2 []

/-- Every module of the domain is set up. -/
def armDo (c : Call0) (h : Hw) : Res × Hw :=
  let ms := h.domain (arg c.args 16 8)
  let crew := h.armCrew c ms
  let h := (h.sendShares c crew 1 (c.args.take 16 ++ bytesOf 8 (maskOf ms))).arm c.args ms
  let reply := bytesOf 4 h.acqRing
  if crew = [] then (.done stOk reply [], h.leadArms c ms) else (.wait 1 stOk reply crew, h)

/-- ACQ_ARM. -/
def execAcqArm (h : Hw) (src : CmdSrc) (io : HostIo) : Hw :=
  h.runCmd src 0x0701 io fun c h =>
    if c.share then
      if c.args.head? = some 2 then (.done stOk [] [], h.sendSym .trigger 0xFE)
      else memberShare c h.armTest (fun ops h => h.arm ops ((List.range 64).filter (arg ops 16 8).testBit)) h
    else
      let ms := h.domain (arg c.args 16 8)
      let mode := arg c.args 0 1
      let outside := ms.any fun m => m != h.devIndex && !(h.crew c).contains m
      let t := h.armTest c.args
      let own := if decide (2 < mode) || (mode == 2 && decide (4 < ms.length)) || t == stBadArgument then stBadArgument
        else if outside then stRefused else t
      if own = stBadArgument then (.done own [] [], h)
      else h.crewRun c (h.armCrew c ms) own (c.args.take 16) armDo

/-- ACQ_STOP: every named module aborts its acquisition (R355). -/
def execAcqStop (h : Hw) (src : CmdSrc) (io : HostIo) : Hw :=
  h.runCmd src 0x0702 io fun c h =>
    if c.share then memberShare c (fun _ => stOk) (fun _ h => execAcqCtrlStop h 0x400) h
    else
      let mask := arg c.args 0 8
      let ms := (h.crew c).filter mask.testBit
      let h := if mask.testBit h.devIndex then execAcqCtrlStop h 0x400 else h
      if ms = [] then (.done stOk [] [], h) else (.wait 1 stOk [] ms, h.sendShares c ms 1 [])

end Sys2Proof.Machine
end

