-- ==== Sys2Proof/Machine/OvsetFw.lean ====
section
/-!
DEFINITION. Firmware and access commands (Table 18.11), and the ends of commands that wait: for the members of the
configuration, or for their own effect (R454, R458, R461, R467, R468).
-/

namespace Sys2Proof.Machine

/-! ## Firmware (R477 to R480) -/

/-- FW_BLOCK. -/
def execFwBlock (h : Hw) (src : CmdSrc) (io : HostIo) : Hw :=
  h.runNow src 0x0B01 io fun c h =>
    let (st, h) := h.fwBlock (arg c.args 0 4) (arg c.args 4 4) c.input
    (st, [], h)

/-- FW_VERIFY. -/
def execFwVerify (h : Hw) (src : CmdSrc) (io : HostIo) : Hw :=
  h.runNow src 0x0B02 io fun _ h =>
    let (st, reply, h) := h.fwVerify
    (st, if st = stOk then fit 16 reply else [], h)

/-- The activation becomes pending on every module of the configuration, whose count of the switch the head sends; the reply waits until
every module has it (R454, R479). -/
def activateDo (c : Call0) (h : Hw) : Res × Hw :=
  match h.switchInstant (arg c.args 0 1 == 1) (BitVec.ofNat 112 (arg c.args 4 14)) with
  | none => (.done stBadArgument [] [], h)
  | some t =>
    let n := h.instantCount t
    let v := timeValue t
    let ms := h.crew c
    let h := (h.sendShares c ms 1 (bytesOf 8 n ++ bytesOf 14 v.toNat)).setSwitch n v
    let reply := bytesOf 8 h.seq.frame.toNat
    if ms = [] then (.done stOk reply [], h) else (.wait 1 stOk reply ms, h)

/-- FW_ACTIVATE. -/
def execFwActivate (h : Hw) (src : CmdSrc) (io : HostIo) : Hw :=
  h.runCmd src 0x0B03 io fun c h =>
    let test (h : Hw) : Nat :=
      if !h.fw.verified then stRefused else if h.fw.pending.isSome then stBusy else stOk
    if c.share then
      memberShare c (fun _ => test h) (fun ops h => h.setSwitch (arg ops 0 8) (BitVec.ofNat 112 (arg ops 8 14))) h
    else
      let atT := arg c.args 0 1 == 1
      let t := test h
      let own := if t = stRefused then t else if atT && h.tStatus == 0 then stNotReady
        else if (h.switchInstant atT (BitVec.ofNat 112 (arg c.args 4 14))).isNone then stBadArgument else t
      h.crewRun c (h.crew c) own [] activateDo

/-- FW_STATUS. -/
def execFwStatus (h : Hw) (src : CmdSrc) (io : HostIo) : Hw := h.runNow src 0x0B04 io fun _ h => (stOk, h.fwStatus, h)

/-! ## Service access (R484 to R486) -/

/-- ACCESS_CHALLENGE. -/
def execAccessChallenge (h : Hw) (src : CmdSrc) (io : HostIo) : Hw := h.runNow src 0x0B05 io fun _ h => h.accessChallenge

/-- ACCESS_RESPONSE. -/
def execAccessResponse (h : Hw) (src : CmdSrc) (io : HostIo) : Hw :=
  h.runNow src 0x0B06 io fun c h => h.accessResponse (arg c.args 0 1) (c.args.drop 4)

/-- ACCESS_CLOSE. -/
def execAccessClose (h : Hw) (src : CmdSrc) (io : HostIo) : Hw := h.runNow src 0x0B07 io fun _ h => (stOk, [], h.endSession)

/-! ## Commands that wait (R454) -/

/-- A module has answered a share with a status: the failure that is kept is the one of the earliest test, and among equals
the first to come. -/
def Wait.note (w : Wait) (dev st : Nat) : Wait :=
  let better : Bool := match w.fail with
    | none => true
    | some (_, old) => decide (testRank w.code st < testRank w.code old)
  { w with left := w.left.filter fun m => m != dev
           fail := if st != stOk && better then some (dev, st) else w.fail }

/-- What a configuration command does once every module's tests have passed. -/
def actOf (code : Nat) (c : Call0) (h : Hw) : Res × Hw :=
  match code with
  | 0x0302 => leaveDo c h
  | 0x0303 => startDo c h
  | 0x0406 => takeDo c h
  | 0x0407 => restoreDo c h
  | 0x0701 => armDo c h
  | 0x0B03 => activateDo c h
  | _ => (.done stOk [] [], h)

/-- The end of a command whose members have all acted: its status and reply, or none while its own effect goes on. -/
def Hw.waitEnd (h : Hw) (w : Wait) : Option (Nat × List Byte × Hw) :=
  let fail := w.fail.map (·.2)
  match w.code with
  | 0x0203 => if h.img.applyPending then none else some (stOk, w.reply, h)
  | 0x0301 =>
    match w.fail with
    | some (d, st) => some (st, [2, BitVec.ofNat 8 d, 0xFF, 0], { h with conf := {} })
    | none => some (stOk, w.reply, h)
  | 0x0304 => if h.stopped then some (stOk, bytesOf 8 h.seq.frame.toNat, h) else none
  | 0x0901 =>
    let s := arg w.args 0 1
    if h.power.goal.isSome || h.power.source.isSome || (s = 0 && h.pstate != 0) then none
    else some (fail.getD stOk, bytesOf 1 h.pstate, h)
  | 0x0902 =>
    if h.seq.run ≠ .held ∨ h.seq.syms.any (fun s => s.kind == .runCtrl) then none
    else some (if h.seq.levelFail then stNotReady else stOk, bytesOf 1 h.seq.level, h)
  | 0x0407 => if h.snap.restore.isSome then none else some (fail.getD stOk, bytesOf 8 h.seq.frame.toNat, h)
  | 0x0701 =>
    match w.fail with
    | some (_, st) => some (st, [], h)
    | none =>
      let c : Call0 := ⟨w.src, w.code, w.args, false, []⟩
      some (stOk, w.reply, h.leadArms c (h.domain (arg w.args 16 8)))
  | _ => match fail with
    | some st => some (st, [], h)
    | none => some (stOk, w.reply, h)

/-- A command that is over writes its output as soon as it may (R429). -/
def Hw.settleOutput (h : Hw) (w : Wait) : Hw :=
  if !h.dmaOn then h
  else
    let n := arg w.args 0 2
    h.endCmd w.src ((descList n (w.args.drop 2)).getD []) ((w.fail.map (·.2)).getD stOk) w.reply (w.args.drop (2 + 16 * n))

/-- One waiting command of this module: when no module's answer is missing, it ends, acts, or goes on waiting. -/
def Hw.settleWait (h : Hw) (w : Wait) : Hw :=
  if w.code = outputCode ∧ h.host.waits.contains w then h.settleOutput w
  else if w.left ≠ [] ∨ forwardedCode ≤ w.code ∨ !h.host.waits.contains w then h
  else if w.phase = 0 then
    match w.fail with
    | some (_, st) => h.endCmd w.src [] st [] []
    | none =>
      let c : Call0 := ⟨w.src, w.code, w.args, false, []⟩
      let (r, h) := actOf w.code c (h.dropWaits w.src)
      finishRes h c [] r
  else match h.waitEnd w with
    | some (st, reply, h) => h.endCmd w.src [] st reply []
    | none => h

/-- A link of the configuration's tree has lost its partner since, as this module found it, or as either end reported it. -/
def Hw.linkLost (h : Hw) (l : TreeLink) : Bool :=
  (l.parent == h.devIndex && !h.conf.treePorts.contains l.port) ||
    h.host.topo.any fun t => !t.active && ((t.device == l.parent && t.port == l.port) || (t.device == l.child && t.port == l.uplink))

/-- Members that the loss of a partner has cut off (R255). -/
def Hw.lostMembers (h : Hw) : List Nat :=
  if h.heads then h.conf.members.filter fun m => (pathTo h.conf.links 64 m).any h.linkLost else []

/-- A lost member answers no share, drains no snapshot and enters no state: the command that waits for it ends with TIMEOUT, the
snapshot has failed, and an entry goes on without it (DESIGN CHOICE: R255 does not say how what waits for it ends; log entry 64). -/
def Hw.dropMember (h : Hw) (m : Nat) : Hw :=
  let ws := h.host.waits.map fun w => if w.left.contains m && decide (w.code < forwardedCode) then w.note m stTimeout else w
  let h : Hw := { h with host := { h.host with waits := ws }, power := { h.power with left := h.power.left.filter (· != m) } }
  match h.snap.capture with
  | some c => if c.reported.contains m then h else h.snapReport c.slot m true
  | none => h

/-- Every waiting command. While a firmware switch is in progress none is answered (R481, R482). -/
def Hw.settleWaits (h : Hw) : Hw :=
  if h.host.fwSwitch then h
  else
    let h := h.lostMembers.foldl (fun h m => h.dropMember m) h
    h.host.waits.foldl (fun h w => h.settleWait w) h

end Sys2Proof.Machine
end

