-- ==== Sys2Proof/Machine/Messages.lean ====
section
/-!
DEFINITION. What messages of other modules do (R242, R269, R322, R356, R376 to R380, R389, R421, R442, R443, R454, R459,
R479), and the loss of a message.
-/

namespace Sys2Proof.Machine

/-- A module's answer no longer holds an entry of the configuration back (R389). -/
def Hw.powerAnswered (h : Hw) (dev : Nat) : Hw :=
  { h with power := { h.power with left := h.power.left.filter fun m => m != dev } }

/-- The waiting command that an answer from a module belongs to. -/
def Hw.waitFor (h : Hw) (tag dev : Nat) : Option Wait := h.host.waits.find? fun w => w.src.tag == tag && w.left.contains dev

/-- The answer to a forwarded command completes its slot (R443); the answer to a share is noted. A status that Table 18.1 does not give
answers nothing (R457). -/
def Hw.answer (h : Hw) (tag dev status : Nat) (payload output : List Byte) : Hw :=
  let h := h.powerAnswered dev
  match h.waitFor tag dev with
  | none => h
  | some w =>
    if 0x0B < status then h
    else if forwardedCode ≤ w.code then h.endLater w.src ((descList (w.args.length / 16) w.args).getD []) status payload output
    else
      let ws := h.host.waits.map fun x => if x = w then w.note dev status else x
      { h with host := { h.host with waits := ws } }

/-- A module reports one of its ports: discovery is unsettled while a port of a known module trains, and by a module that becomes known
(R442). A report that says something new goes on to the neighbours, but for the one it came from. -/
def Hw.takeTopo (h : Hw) (p : Nat) (t : TopoPort) : Hw :=
  if t.device = h.devIndex ∨ h.host.topo.contains t then h else
  let before := h.known
  let rest := h.host.topo.filter fun x => !(x.device == t.device && x.port == t.port)
  let h := ({ h with host := { h.host with topo := rest ++ [t] } } : Hw).noteKnown before
  let h := if t.training && h.known.contains t.device then h.fset (hostifA 0x80) 0 0 0 else h
  h.tellNeighbours (some p) (.topo t.device t.port t.partner t.far t.active t.training)

/-- The tick that ends frame F has passed, or no tick can come: in HELD the point of the frame that has last ended can still be
taken (R376, R377). -/
def Hw.pointPassed (h : Hw) (f : Nat) : Bool :=
  match h.seq.run with
  | .held => decide (f < h.lastFrame)
  | .running | .halting | .levelChange => h.frameEnded f
  | .empty | .stoppedMid => true

/-- The point of a snapshot reaches a member: after the tick that ends frame F it is late (R377). -/
def Hw.takeSnapPoint (h : Hw) (slot id frame : Nat) : Hw :=
  if h.pointPassed frame then h.sendMsg h.conf.head (.snapDrained slot h.devIndex true) else h.beginCapture slot id frame

/-- What a message does. `p` is the port that it came through. -/
def Hw.applyMsg (h : Hw) (p : Nat) : LinkMsg → Hw
  | .command origin slot code conf args input =>
    { h with host := { h.host with fwd := h.host.fwd ++ [⟨origin, slot, code, conf, args, input⟩] } }
  | .reply slot origin status payload output => h.answer slot origin status payload output
  | .dispatchRecord _ addr bytes => h.memberRecord addr bytes
  | .recordRequest origin w addr => { h with host := { h.host with asks := h.host.asks ++ [(origin, w, addr)] } }
  | .segmentEnd origin => h.noteEnded origin
  | .snapPoint slot id frame => h.takeSnapPoint slot id frame
  | .snapDrained slot origin late => h.snapReport slot origin late
  | .snapComplete slot failed => h.snapEnded slot failed
  | .logNotice origin pending => h.memberNotice origin pending
  | .haltRequest _ => if h.busy then h.sendSym .runCtrl 3 else h
  | .mismatch port => if port < 12 then h.raise (evPortLatencyMismatch port) else h
  | .completionRecord w bytes => if w < 32 then h.takeRecord w bytes else h
  | .topo device port partner far active training => h.takeTopo p ⟨device, port, partner, far, active, training⟩
  | .runParams steps first period =>
    (h.wakePorts (h.conf.treePorts ++ h.conf.crossPorts)).updSeq fun s => { s with
      stepCount := steps, gridNext := first, gridPeriod := period }
  | .join head slot count distance tree uplink cross above level request throttled =>
    let (st, h) := h.joinConfig head count distance tree uplink cross above level request throttled
    h.sendMsg head (.reply slot h.devIndex st [] [])
  | .wake => if h.pstate = 1 then h.leaveIdle else if h.pstate = 2 then h.wakeBy 5 p else h

/-- MSG at port p: the transport takes the block set; the last fragment of a message for this module has its effect, which
`meaning` states. -/
def execMsg (h : Hw) (p : Nat) (blks : List (BitVec 66)) (meaning : LinkMsg) : Hw :=
  if p ≥ 12 then h
  else
    let (h, whole) := h.takeMsg p blks
    if whole then h.applyMsg p meaning else h

/-- A command of this module whose message, data or reply has been dropped ends with TIMEOUT (R443). -/
def Hw.dropped (h : Hw) : Option (Nat × Nat) → Hw
  | none => h
  | some (tag, dev) => h.answer tag dev stTimeout [] []

/-- MSG_RESEND at port p: the oldest message is resent, or dropped with the command it belongs to. `lost` names a command of
this module whose message, data or reply another module has dropped, by the number of the waiting command and the module
concerned (R242, R443). -/
def execMsgResend (h : Hw) (p : Nat) (lost : Option (Nat × Nat)) : Hw :=
  if p ≥ 12 then h
  else match lost with
    | none => let (h, own) := h.resendMsgs p; h.dropped own
    | some _ => h.dropped lost

end Sys2Proof.Machine
end

