-- ==== Sys2Proof/Machine/Clock.lean ====
section
/-!
DEFINITION. What happens by itself: one course clock of the module, or the passing of time in a state in which the array clock
stands.
-/

namespace Sys2Proof.Machine

/-! ## One course of an array die -/

/-- Every incoming batten and purlin of a truss takes the value that reaches it in this course (R96). -/
def Hw.deliverTruss (h : Hw) (d t : Nat) : Hw :=
  let h := (List.range 48).foldl (fun h n => h.fabricDeliver (.batten d t n)) h
  let h := (List.range 8).foldl (fun h p => h.fabricDeliver (.purlin d t p)) h
  execLoftReadDeliver h d t

/-- The operation that a truss names at a port. -/
def Hw.trussPort (h : Hw) (d t : Nat) : Hw :=
  match (h.ctl d t).bind portField with
  | none => h
  | some o =>
    match o.op with
    | 1 => execFmqPush h d o.port
    | 2 => execFmqPull h d o.port
    | 3 => execFmqWaitPull h d o.port
    | 4 => execIoOut h d o.port
    | 5 => execIoIn h d o.port
    | 6 => execCallArg h d o.port
    | 7 => execCallPull h d o.port
    | 8 => execCallWaitPull h d o.port
    | 9 => execProbeWord h d o.port
    | _ => h

/-- A truss executes the course: its port, its loft, and its BPs in order. -/
def Hw.courseTruss (h : Hw) (d t : Nat) : Hw :=
  let h := h.checkCtl d t
  let h := h.trussPort d t
  let h := execLoftRmwCommit (execLoftRead h d t) d t
  let h := execLoftWrite h d t
  (List.range 64).foldl (fun h i => if h.bpDue d t i then h.bpExec Hw.recvAny d t i else h) h

/-- A bank in the course: commits, the command of its home truss, and a write-back (R162 to R168). -/
def Hw.courseBank (h : Hw) (d j : Nat) : Hw :=
  let h := execBankMaskedCommit h d j
  let h := execBankMaskedWrite (execBankWrite (execBankRead h d j) d j) d j
  execBankWriteback h d j

/-- One executed course of die d. Only trusses that hold something, or obey a listed row, can do anything. DESIGN CHOICE (log
64): the trusses of a course act in the order of their numbers, which decides between a push and a pull of one queue pair in
one course (R88, R182). -/
def Hw.courseDie (h : Hw) (d : Nat) : Hw :=
  let h := h.bridgeArrive d 0 0
  let live := h.liveTrusses d
  let h := live.foldl (fun h t => h.deliverTruss d t) h
  let h := live.foldl (fun h t => h.courseTruss d t) h
  let h := (List.range 64).foldl (fun h j => h.courseBank d j) h
  h.courseHazards d

/-- An executing course clock: slot groups arrive, and both dies execute the position, in which trusses may also write
corrected loft words back. -/
def Hw.course (h : Hw) : Hw :=
  if !h.execClock then h
  else
    let h := (List.range 12).foldl (fun h p => execSlotGroupDeliver h p) h
    let h := (h.courseDie 0).courseDie 1
    let wbs := (h.trusses.filter fun kv => !kv.2.wb.isEmpty).map (·.1)
    let h := wbs.foldl (fun h T => execLoftWriteback h (T / 512) (T % 512)) h
    execDevCapture (execWaitTest (execWaitTest h 0) 1)

/-! ## What the hub does in any clock -/

/-- Packets that wait are offered, a time stamp follows that is due, and one staged packet is written (R364, R366, R367). -/
def Hw.traceClock (h : Hw) : Hw :=
  let h := h.flowClock
  execTraceSinkWrite ((List.range h.trace.offers.length).foldl (fun h _ => execTracePacket h) h).stageStamp

/-- Responses of far memory whose pad has ended become complete (R181). -/
def Hw.padClock (h : Hw) : Hw := (h.qpairs.map (·.1)).foldl (fun h Q => execFmqResponseComplete h Q) h

/-- Ports with enough signal begin to train, and spare lanes that have passed their comparison are taken up. -/
def Hw.portClock (h : Hw) : Hw := (List.range 12).foldl (fun h p => execSpareComparePass (h.detectClock p) p) h

/-- The events, the images, the calls and the waiting commands go on. -/
def Hw.hubClock (h : Hw) : Hw :=
  let h := (execCallRelease h).deliverAll 4096
  let h := (((h.flushRecords.applyNext).restoreNext.leftClock 0).leftClock 1).traceClock
  (h.portClock.drainEvents).settleWaits

/-- What remains of a lockout counts down (R485). -/
def Hw.lockClock (h : Hw) (n : Nat) : Hw := { h with fw := { h.fw with lockLeft := h.fw.lockLeft - n } }

/-- A time event with WAKE_EN wakes the module from DOZE, one that a step of network time has served late too (R307, R308). -/
def Hw.wakeByEvent (h : Hw) : Hw :=
  let rung := h.time.rung
  let h : Hw := { h with time := { h.time with rung := 0 } }
  if h.pstate = 2 && h.wakes 3 0 && (List.range 32).any (fun k => bit rung k && h.bget (teA k 0) 15) then h.wakeBy 3 0
  else h

/-- Network time advances by one course period, and the course clock's marks are forgotten. A generator that fires now is a
trigger condition of the next course clock (R306, R346). -/
def Hw.timeClock (h : Hw) : Hw :=
  let p := courseUnits h.seq.level
  let (n, h) := ({ h with time := { h.time with fired := 0 } } : Hw).clockUnits
  let h := ((((h.advanceTime n).lockClock p).wakeByEvent.aonPass p).timerClock p).sliceClock p
  { h.updSeq fun s => { s with tagClk := s.tagClk + 1 } with done := [], calib := h.calib + p }

/-! ## One course clock -/

/-- What takes effect with the edge of a course clock: symbols, the boundary of a frame, a HALT_NOW after it, bay phases,
hand-overs, and frame-go. -/
def Hw.edgeClock (h : Hw) : Hw :=
  let h := h.once .syms true Hw.applySyms
  let h := (execFrameTick h).applyHaltNow.ioDeliver
  execFrameGoSend (h.bayClock.handOvers)

/-- The course itself and the units that watch it. Responses whose pad ends in this clock are complete for it (R181). -/
def Hw.workClock (h : Hw) : Hw :=
  let h := (h.padClock.course).scrubClock
  let h := ((h.teFrameClock.tePathClock).sampleGroups).takeSamples
  let h := execWaitLimitReached (execStallRelease h)
  (h.pushInstant.autoClock).ioClock

/-- One course clock of the array. -/
def Hw.courseClock (h : Hw) : Hw :=
  let h := h.edgeClock.workClock
  let h := (execFwSwitch h).hubClock
  h.endClock.timeClock

/-- One period of the AON counter, with which the marks of what hardware has set end, and a lockout that is in force goes on
(R7, R303, R485). -/
def Hw.aonClock (h : Hw) : Hw := { (h.aonPass aonUnits).lockClock aonUnits with done := [] }

/-- What happens when no command waits: nothing without power; a period of the AON counter in SLEEP, in
WAKE_FAILED and in a thermal shutdown; a course clock in RUN; and the hub's work and the passing of time where the array clock
stands, in IDLE, in DOZE, during a level change, in which the phases of a bay reload that need no tick begin at once (R278),
and with a PLL that is not locked. -/
def Hw.idle (h : Hw) : Hw :=
  if !h.power.powered then h
  else if h.power.hot || h.pstate ≥ 3 then h.aonClock
  else if h.arrayClock then h.courseClock
  else (if h.seq.run = .levelChange then h.bayAtOnce else h).takeSamples.hubClock.timeClock

end Sys2Proof.Machine
end

