-- ==== Sys2Proof/Machine/State.lean ====
section
/-!
DEFINITION. The state of the block: the queue of commands that wait, and everything the manual gives one FX6 module; the
reasons for which a step stops; and the state after reset.
-/

namespace Sys2Proof.Machine

/-- The state of one module. -/
@[ext]
structure State where
  /-- Commands that wait, first in, first out. -/
  pending : List Instr := []
  /-- Every register, memory, buffer, counter, mode and pin of the module. -/
  hw : Hw := {}
deriving DecidableEq, Repr

/-- Why a step stops with a fault. -/
inductive Fault where
  /-- Raised by `perform` for a command that names a die, truss, BP, bank, port, lane, queue, slot or unit that the module
  does not have, or brings a block set of another size than a port's. Nothing can send such a command. Safe: the model stops
  where the hardware has nothing to go on with. -/
  | noSuchPart
deriving DecidableEq, Repr

/-- Why a step is refused. -/
inductive Refusal where
  /-- Raised by an arm of `exec` for a command without a meaning; no arm raises it now. Safe: the model stops where the
  hardware goes on. -/
  | notModelled (mnemonic : String)
deriving DecidableEq, Repr

/-- The module right after a cold start with the input valid (R10, R21, R428, R451): PERST# asserted, READY 0, run state
EMPTY, power state RUN, no command waiting, every register at its reset value, and no memory with anything listed. The ID
straps read 0, the stepping is A1, and the factory's settings stand (log entries 10 to 13). -/
def State.reset : State := { pending := [], hw := { power := { powered := true } } }

end Sys2Proof.Machine
end

