-- ==== Sys2Proof/WellFormed.lean ====
section
/-!
DEFINITION. Which commands the module can be given: every die, truss, BP, port, bank, queue, slot and unit that a command
names exists (R1, R13 to R15), and what crosses a link or a bus has the size of that link or bus.
-/

namespace Sys2Proof

def CmdSrc.ok : CmdSrc → Bool
  | .slot s => decide (s < 8)
  | .link o s => decide (o < 64) && decide (s < 8)

def FabricPath.ok : FabricPath → Bool
  | .batten d t n => decide (d < 2) && decide (t < 512) && decide (n < 48)
  | .purlin d t p => decide (d < 2) && decide (t < 512) && decide (p < 8)
  | .bridge d _ _ => decide (d < 2)

def RidgeAccess.ok : RidgeAccess → Bool
  | .bar2Read off len => decide (off + len ≤ 2 ^ 30)
  | .bar2Write off bytes => decide (off + bytes.length ≤ 2 ^ 30)
  | .memory src _ _ => src.ok
  | .register src _ _ => src.ok
  | .call slot _ => decide (slot < 4096)

/-- Every device index is one of the 64 that the ID straps can give (R29), and every port one of the twelve. -/
def MemberFacts.ok (m : MemberFacts) : Bool :=
  decide (m.device < 64)

def FormFacts.ok (f : FormFacts) : Bool :=
  f.members.all MemberFacts.ok && (f.crossings.all fun c => decide (c.device < 64) && decide (c.port < 12)) &&
    f.partnerLx.all fun x => decide (x.1 < 12)

def LinkMsg.ok : LinkMsg → Bool
  | .command origin _ _ _ _ _ => decide (origin < 64)
  | .reply _ origin status _ _ => decide (origin < 64) && decide (status ≤ 0x0B)
  | .dispatchRecord w _ bytes => decide (w < 32) && decide (bytes.length = 64)
  | .segmentEnd origin => decide (origin < 64)
  | .snapPoint _ _ _ => true
  | .snapDrained _ origin _ => decide (origin < 64)
  | .snapComplete _ _ => true
  | .logNotice origin _ => decide (origin < 64)
  | .haltRequest origin => decide (origin < 64)
  | .topo device port partner far _ _ =>
    decide (device < 64) && decide (port < 12) && decide (far < 16) && partner.all fun p => decide (p < 64)
  | .runParams _ _ _ => true
  | .join head _ _ _ tree uplink cross above level request _ =>
    decide (head < 64) && decide (uplink < 12) && tree.all (fun p => decide (p < 12)) && (cross.all fun p => decide (p < 12)) &&
      (above.all fun x => decide (x.1 < 64) && decide (x.2 < 12)) && decide (level < 4) && decide (request < 4)
  | .mismatch port => decide (port < 12)
  | .recordRequest origin w _ => decide (origin < 64) && decide (w < 32)
  | .completionRecord w bytes => decide (w < 32) && decide (bytes.length = 64)
  | .wake => true

/-- The command names parts that exist. A command for which this does not hold is one that nothing can send. -/
def Instr.wellFormed : Instr → Bool
  | .powerOn _ _ => true
  | .inputUndervoltage => true
  | .inputOvervoltage => true
  | .brownOut => true
  | .perstAssert => true
  | .perstRelease => true
  | .hotReset => true
  | .busMasterEnable => true
  | .descBmeTimeout slot => decide (slot < 8)
  | .configRequest off _ => decide (off < 4096) && decide (off % 4 = 0)
  | .firmwareReady _ _ => true
  | .thermalShutdown => true
  | .junctionHot => true
  | .throttleRecover => true
  | .slotWrite slot off bytes => decide (slot < 8) && decide (off + bytes.length ≤ 256)
  | .mbxRing slot => decide (slot < 8)
  | .mbxTake _ => true
  | .heldForward slot _ => decide (slot < 8)
  | .heldCommandTimeout slot => decide (slot < 576)
  | .discoverySettled => true
  | .identify src _ => src.ok
  | .status src _ => src.ok
  | .portStatus src _ => src.ok
  | .imageBegin src _ => src.ok
  | .imageBlock src _ => src.ok
  | .imageCommit src _ => src.ok
  | .imageStatus src _ => src.ok
  | .loadTimeout => true
  | .imageApply => true
  | .bayIsolation => true
  | .bayWriteDone => true
  | .bayInitStart => true
  | .bayInitDone => true
  | .bayActivation => true
  | .configForm src _ f => src.ok && f.ok
  | .configLeave src _ => src.ok
  | .runStart src _ => src.ok
  | .runHalt src _ => src.ok
  | .bar2Map src _ => src.ok
  | .memRead src _ => src.ok
  | .memWrite src _ => src.ok
  | .poolAlloc src _ => src.ok
  | .poolFree src _ => src.ok
  | .snapTake src _ => src.ok
  | .snapRestore src _ => src.ok
  | .readback src _ => src.ok
  | .linkRetrain src _ => src.ok
  | .linkEnable src _ => src.ok
  | .timeStatus src _ => src.ok
  | .timePhase src _ => src.ok
  | .timeSet src _ => src.ok
  | .callCancel src _ => src.ok
  | .callStatus src _ => src.ok
  | .acqArm src _ => src.ok
  | .acqStop src _ => src.ok
  | .acqStatus src _ => src.ok
  | .powerState src _ => src.ok
  | .levelReq src _ => src.ok
  | .padRelease src _ => src.ok
  | .eventRead src _ => src.ok
  | .eventClear src _ => src.ok
  | .logRead src _ => src.ok
  | .logAck src _ => src.ok
  | .fwBlock src _ => src.ok
  | .fwVerify src _ => src.ok
  | .fwActivate src _ => src.ok
  | .fwStatus src _ => src.ok
  | .accessChallenge src _ => src.ok
  | .accessResponse src _ => src.ok
  | .accessClose src _ => src.ok
  | .regRead src _ => src.ok
  | .regWrite src _ => src.ok
  | .nonceExpiry => true
  | .lockoutEnd => true
  | .sessionExpiry => true
  | .fwSwitch => true
  | .fwNewReady _ => true
  | .registerWrite _ _ => true
  | .clkSrcWrite _ => true
  | .bankOwnerWrite d j _ => decide (d < 2) && decide (j < 64)
  | .scrOwnerWrite k _ => decide (k < 16)
  | .ownerHandover ref => decide (ref < 144)
  | .trusscfgClearCounts d _ => decide (d < 2)
  | .bankClearCounts d _ => decide (d < 2)
  | .farClearCounts d _ => decide (d < 2)
  | .scrubClearCounts d _ => decide (d < 2)
  | .callsClearCounts _ => true
  | .probeClearCounts _ => true
  | .traceClearCounts _ => true
  | .timeClearCounts _ => true
  | .portRetrain p _ => decide (p < 12)
  | .portEnableWrite p _ => decide (p < 12)
  | .sleepCtrlWrite p _ => decide (p < 12)
  | .traceEnWrite _ => true
  | .traceSinkCfgWrite o _ => [4, 8, 12, 16].contains o
  | .syncReq _ => true
  | .acqCtrlStop _ => true
  | .teRearm k o _ => decide (k < 32) && decide (o < 28) && decide (o % 4 = 0)
  | .captureFlush k _ => decide (k < 32)
  | .captureRecordRead k => decide (k < 32)
  | .cancelWrite _ => true
  | .dispHeadWrite w _ => decide (w < 32)
  | .compTailWrite w _ => decide (w < 32)
  | .logValidWrite k _ => decide (k < 32)
  | .poisonStatWrite _ => true
  | .accessKeyWrite k _ => decide (k < 8)
  | .vselWrite b _ => decide (b < 16)
  | .vccoReady b => decide (b < 16)
  | .bar2Read off len => decide (off + len ≤ 2 ^ 30)
  | .bar2Write off bytes => decide (off + bytes.length ≤ 2 ^ 30)
  | .ridgeTimeout acc => acc.ok
  | .scratchTestSlice k _ => decide (k < 16)
  | .mpLockstepMismatch _ => true
  | .frameTick => true
  | .callRelease => true
  | .eval d t i => decide (d < 2) && decide (t < 512) && decide (i < 64)
  | .loft d t i => decide (d < 2) && decide (t < 512) && decide (i < 64)
  | .port d t i => decide (d < 2) && decide (t < 512) && decide (i < 64)
  | .nop d t i => decide (d < 2) && decide (t < 512) && decide (i < 64)
  | .keep d t i => decide (d < 2) && decide (t < 512) && decide (i < 64)
  | .mark d t i => decide (d < 2) && decide (t < 512) && decide (i < 64)
  | .loftRead d t => decide (d < 2) && decide (t < 512)
  | .loftReadDeliver d t => decide (d < 2) && decide (t < 512)
  | .loftWrite d t => decide (d < 2) && decide (t < 512)
  | .loftRmwCommit d t => decide (d < 2) && decide (t < 512)
  | .loftWriteback d t => decide (d < 2) && decide (t < 512)
  | .fmqPush d q => decide (d < 2) && decide (q < 128)
  | .fmqPull d q => decide (d < 2) && decide (q < 128)
  | .fmqWaitPull d q => decide (d < 2) && decide (q < 128)
  | .ioOut d n => decide (d < 2) && decide (n < 4)
  | .ioIn d n => decide (d < 2) && decide (n < 8)
  | .ioPathDeliver samples => samples.all fun s => decide (s.1 < 16)
  | .callArg d n => decide (d < 2) && decide (n < 32)
  | .callPull d n => decide (d < 2) && decide (n < 32)
  | .callWaitPull d n => decide (d < 2) && decide (n < 32)
  | .probeWord d n => decide (d < 2) && decide (n < 128)
  | .bankRead d j => decide (d < 2) && decide (j < 64)
  | .bankReadDeliver d j => decide (d < 2) && decide (j < 64)
  | .bankWrite d j => decide (d < 2) && decide (j < 64)
  | .bankMaskedWrite d j => decide (d < 2) && decide (j < 64)
  | .bankMaskedCommit d j => decide (d < 2) && decide (j < 64)
  | .bankWriteback d j => decide (d < 2) && decide (j < 64)
  | .fabricDelivery p => p.ok
  | .devCapture => true
  | .waitTest d => decide (d < 2)
  | .stallRelease => true
  | .waitLimitReached => true
  | .droopDetect _ _ => true
  | .frameGo origin arg => decide (origin < 64) && decide (arg < 1024)
  | .stallReq origin arg => decide (origin < 64) && decide (arg < 1024)
  | .release origin arg => decide (origin < 64) && decide (arg < 1024)
  | .stretch origin arg => decide (origin < 64) && decide (arg < 1024)
  | .haltNow origin arg => decide (origin < 64) && decide (arg < 1024)
  | .haltAtEnd origin arg => decide (origin < 64) && decide (arg < 1024)
  | .xtrig origin arg => decide (origin < 64) && decide (arg < 1024)
  | .throttle origin arg => decide (origin < 64) && decide (arg < 1024)
  | .runCtrl origin arg => decide (origin < 64) && decide (arg < 1024)
  | .levelLocked _ => true
  | .levelLockTimeout => true
  | .levelReturnLocked _ => true
  | .fmqReqRead Q => decide (Q < 256)
  | .fmqReqWrite Q => decide (Q < 256)
  | .fmqReqMaskedWrite Q => decide (Q < 256)
  | .fmqResponseComplete Q => decide (Q < 256)
  | .farWriteback d a => decide (d < 2) && decide (a < 2 ^ 33)
  | .refresh _ => true
  | .forcedRefresh _ pairs => pairs.all fun q => decide (q < 128)
  | .scrubSlot d => decide (d < 2)
  | .callRaise => true
  | .callDispatch w => decide (w < 33)
  | .completionRecord w rec =>
    decide (w < 32) && decide (rec.bytes.length = 64) && rec.origin.all fun m => decide (m < 64)
  | .callDeliver slot => decide (slot < 4096)
  | .echo slot => decide (slot < 4096)
  | .farRead slot => decide (slot < 4096)
  | .farWrite slot => decide (slot < 4096)
  | .timeRead slot => decide (slot < 4096)
  | .wordSample k _ => decide (k < 32)
  | .triggerEval => true
  | .triggerTimerExpiry k => decide (k < 4)
  | .acqSegmentArm => true
  | .acqWrite => true
  | .segmentEnd => true
  | .autoTrigger => true
  | .tracePacket => true
  | .traceSinkWrite => true
  | .snapDrainDone => true
  | .portStart p => decide (p < 12)
  | .signalDetectRise p _ => decide (p < 12)
  | .signalDetectFall p _ => decide (p < 12)
  | .coeffBlock p l _ _ _ _ => decide (p < 12) && decide (l < 19)
  | .trainTimeout p => decide (p < 12)
  | .alignTimeout p => decide (p < 12)
  | .calibrateTimeout p => decide (p < 12)
  | .retryWaitEnd p => decide (p < 12)
  | .linkId p blks => decide (p < 12) && decide (blks.length = 19)
  | .marker p heads words _ => decide (p < 12) && decide (heads.length = 19) && decide (words.length = 19)
  | .markerDue p _ => decide (p < 12)
  | .markerTimeout p => decide (p < 12)
  | .dataBlockSet p blks => decide (p < 12) && decide (blks.length = 19)
  | .slotGroupDeliver p => decide (p < 12)
  | .capture p blks => decide (p < 12) && decide (blks.length = 19)
  | .msg p blks meaning => decide (p < 12) && decide (blks.length = 19) && meaning.ok
  | .ack p blks => decide (p < 12) && decide (blks.length = 19)
  | .msgResend p _ => decide (p < 12)
  | .spareReq p blks => decide (p < 12) && decide (blks.length = 19)
  | .spareComparePass p => decide (p < 12)
  | .spareDone p blks => decide (p < 12) && decide (blks.length = 19)
  | .spareTimeout p => decide (p < 12)
  | .laneQuiet p blks => decide (p < 12) && decide (blks.length = 19)
  | .laneWake p lanes => decide (p < 12) && decide (lanes < 20)
  | .ptpMessage _ => true
  | .ppsEdge _ => true
  | .ppsTimeout => true
  | .announceTimeout d => decide (d < 2)
  | .primaryReturn => true
  | .phaseNormal => true
  | .ref10mLoss => true
  | .ref10mReturn => true
  | .ppsOut => true
  | .timeEventFire k => decide (k < 32)
  | .captureEdge k _ _ => decide (k < 32)
  | .idleTimer => true
  | .dozeTimer => true
  | .sleepTimer => true
  | .enterIdle => true
  | .enterDoze _ => true
  | .enterSleep _ => true
  | .pcieWake => true
  | .wakePin => true
  | .wakeAlarm => true
  | .wakeFromSleep _ => true
  | .wakeFromDoze _ => true
  | .eventRaise => true
  | .frameGoSend => true
  | .blockSetSend p _ => decide (p < 12)
  | .hostReadTimeout slot => decide (slot < 8)
  | .wordChannelFrameLock k => decide (k < 32)
  | .wordChannelLockLoss k => decide (k < 32)
  | .thermalRestart => true
  | .uartRecoveryImage _ => true

end Sys2Proof
end

