-- ==== Sys2Proof/Machine/Commands.lean ====
section
/-!
DEFINITION. The meanings of the commands on the whole state: one definition for each row of the opcode table. Each applies
the effect that the row's rule gives, and leaves the queue of waiting commands as it is.
-/

namespace Sys2Proof.Machine

/-- A command with effect `f`. One that names a part that does not exist stops. -/
def perform (i : Instr) (f : Hw → Hw) (s : State) : Host.Outcome State Fault Refusal :=
  if i.wellFormed then .next { s with hw := f s.hw } else .fault .noSuchPart

/-- POWER_ON (R451). -/
def runPowerOn (straps : BitVec 6) (intact : BitVec 2) (s : State) : Host.Outcome State Fault Refusal :=
  perform (.powerOn straps intact) (fun h => execPowerOn h straps intact) s

/-- INPUT_UNDERVOLTAGE (R488). -/
def runInputUndervoltage (s : State) : Host.Outcome State Fault Refusal :=
  perform .inputUndervoltage execInputUndervoltage s

/-- INPUT_OVERVOLTAGE (R488). -/
def runInputOvervoltage (s : State) : Host.Outcome State Fault Refusal :=
  perform .inputOvervoltage execInputOvervoltage s

/-- BROWN_OUT (R21). -/
def runBrownOut (s : State) : Host.Outcome State Fault Refusal :=
  perform .brownOut execBrownOut s

/-- PERST_ASSERT (R428). -/
def runPerstAssert (s : State) : Host.Outcome State Fault Refusal :=
  perform .perstAssert execPerstAssert s

/-- PERST_RELEASE (R431). -/
def runPerstRelease (s : State) : Host.Outcome State Fault Refusal :=
  perform .perstRelease execPerstRelease s

/-- HOT_RESET (R429). -/
def runHotReset (s : State) : Host.Outcome State Fault Refusal :=
  perform .hotReset execHotReset s

/-- BUS_MASTER_ENABLE (R429). -/
def runBusMasterEnable (s : State) : Host.Outcome State Fault Refusal :=
  perform .busMasterEnable execBusMasterEnable s

/-- DESC_BME_TIMEOUT (R429). -/
def runDescBmeTimeout (slot : Nat) (s : State) : Host.Outcome State Fault Refusal :=
  perform (.descBmeTimeout slot) (fun h => execDescBmeTimeout h slot) s

/-- CONFIG_REQUEST (R431). -/
def runConfigRequest (off : Nat) (wr : Option Word32) (s : State) : Host.Outcome State Fault Refusal :=
  perform (.configRequest off wr) (fun h => execConfigRequest h off wr) s

/-- FIRMWARE_READY (R431). -/
def runFirmwareReady (bootMs tapFs : BitVec 16) (s : State) : Host.Outcome State Fault Refusal :=
  perform (.firmwareReady bootMs tapFs) (fun h => execFirmwareReady h bootMs tapFs) s

/-- THERMAL_SHUTDOWN (R500). -/
def runThermalShutdown (s : State) : Host.Outcome State Fault Refusal :=
  perform .thermalShutdown execThermalShutdown s

/-- JUNCTION_HOT (R152). -/
def runJunctionHot (s : State) : Host.Outcome State Fault Refusal :=
  perform .junctionHot execJunctionHot s

/-- THROTTLE_RECOVER (R152). -/
def runThrottleRecover (s : State) : Host.Outcome State Fault Refusal :=
  perform .throttleRecover execThrottleRecover s

/-- SLOT_WRITE (R437). -/
def runSlotWrite (slot off : Nat) (bytes : List (Option Byte)) (s : State) : Host.Outcome State Fault Refusal :=
  perform (.slotWrite slot off bytes) (fun h => execSlotWrite h slot off bytes) s

/-- MBX_RING (R437). -/
def runMbxRing (slot : Nat) (s : State) : Host.Outcome State Fault Refusal :=
  perform (.mbxRing slot) (fun h => execMbxRing h slot) s

/-- MBX_TAKE (R438). -/
def runMbxTake (io : HostIo) (s : State) : Host.Outcome State Fault Refusal :=
  perform (.mbxTake io) (fun h => execMbxTake h io) s

/-- HELD_FORWARD (R443). -/
def runHeldForward (slot : Nat) (io : HostIo) (s : State) : Host.Outcome State Fault Refusal :=
  perform (.heldForward slot io) (fun h => execHeldForward h slot io) s

/-- HELD_COMMAND_TIMEOUT (R443). -/
def runHeldCommandTimeout (slot : Nat) (s : State) : Host.Outcome State Fault Refusal :=
  perform (.heldCommandTimeout slot) (fun h => execHeldCommandTimeout h slot) s

/-- DISCOVERY_SETTLED (R442). -/
def runDiscoverySettled (s : State) : Host.Outcome State Fault Refusal :=
  perform .discoverySettled execDiscoverySettled s

/-- IDENTIFY (R455). -/
def runIdentify (src : CmdSrc) (io : HostIo) (s : State) : Host.Outcome State Fault Refusal :=
  perform (.identify src io) (fun h => execIdentify h src io) s

/-- STATUS (R455). -/
def runStatus (src : CmdSrc) (io : HostIo) (s : State) : Host.Outcome State Fault Refusal :=
  perform (.status src io) (fun h => execStatus h src io) s

/-- PORT_STATUS (R455). -/
def runPortStatus (src : CmdSrc) (io : HostIo) (s : State) : Host.Outcome State Fault Refusal :=
  perform (.portStatus src io) (fun h => execPortStatus h src io) s

/-- IMAGE_BEGIN (R264). -/
def runImageBegin (src : CmdSrc) (io : HostIo) (s : State) : Host.Outcome State Fault Refusal :=
  perform (.imageBegin src io) (fun h => execImageBegin h src io) s

/-- IMAGE_BLOCK (R266). -/
def runImageBlock (src : CmdSrc) (io : HostIo) (s : State) : Host.Outcome State Fault Refusal :=
  perform (.imageBlock src io) (fun h => execImageBlock h src io) s

/-- IMAGE_COMMIT (R268). -/
def runImageCommit (src : CmdSrc) (io : HostIo) (s : State) : Host.Outcome State Fault Refusal :=
  perform (.imageCommit src io) (fun h => execImageCommit h src io) s

/-- IMAGE_STATUS (R286). -/
def runImageStatus (src : CmdSrc) (io : HostIo) (s : State) : Host.Outcome State Fault Refusal :=
  perform (.imageStatus src io) (fun h => execImageStatus h src io) s

/-- LOAD_TIMEOUT (R267). -/
def runLoadTimeout (s : State) : Host.Outcome State Fault Refusal :=
  perform .loadTimeout execLoadTimeout s

/-- IMAGE_APPLY (R270). -/
def runImageApply (s : State) : Host.Outcome State Fault Refusal :=
  perform .imageApply execImageApply s

/-- BAY_ISOLATION (R276). -/
def runBayIsolation (s : State) : Host.Outcome State Fault Refusal :=
  perform .bayIsolation execBayIsolation s

/-- BAY_WRITE_DONE (R276). -/
def runBayWriteDone (s : State) : Host.Outcome State Fault Refusal :=
  perform .bayWriteDone execBayWriteDone s

/-- BAY_INIT_START (R276). -/
def runBayInitStart (s : State) : Host.Outcome State Fault Refusal :=
  perform .bayInitStart execBayInitStart s

/-- BAY_INIT_DONE (R276). -/
def runBayInitDone (s : State) : Host.Outcome State Fault Refusal :=
  perform .bayInitDone execBayInitDone s

/-- BAY_ACTIVATION (R276). -/
def runBayActivation (s : State) : Host.Outcome State Fault Refusal :=
  perform .bayActivation execBayActivation s

/-- CONFIG_FORM (R459). -/
def runConfigForm (src : CmdSrc) (io : HostIo) (f : FormFacts) (s : State) : Host.Outcome State Fault Refusal :=
  perform (.configForm src io f) (fun h => execConfigForm h src io f) s

/-- CONFIG_LEAVE (R32). -/
def runConfigLeave (src : CmdSrc) (io : HostIo) (s : State) : Host.Outcome State Fault Refusal :=
  perform (.configLeave src io) (fun h => execConfigLeave h src io) s

/-- RUN_START (R460). -/
def runRunStart (src : CmdSrc) (io : HostIo) (s : State) : Host.Outcome State Fault Refusal :=
  perform (.runStart src io) (fun h => execRunStart h src io) s

/-- RUN_HALT (R461). -/
def runRunHalt (src : CmdSrc) (io : HostIo) (s : State) : Host.Outcome State Fault Refusal :=
  perform (.runHalt src io) (fun h => execRunHalt h src io) s

/-- BAR2_MAP (R444). -/
def runBar2Map (src : CmdSrc) (io : HostIo) (s : State) : Host.Outcome State Fault Refusal :=
  perform (.bar2Map src io) (fun h => execBar2Map h src io) s

/-- MEM_READ (R462). -/
def runMemRead (src : CmdSrc) (io : HostIo) (s : State) : Host.Outcome State Fault Refusal :=
  perform (.memRead src io) (fun h => execMemRead h src io) s

/-- MEM_WRITE (R462). -/
def runMemWrite (src : CmdSrc) (io : HostIo) (s : State) : Host.Outcome State Fault Refusal :=
  perform (.memWrite src io) (fun h => execMemWrite h src io) s

/-- POOL_ALLOC (R463). -/
def runPoolAlloc (src : CmdSrc) (io : HostIo) (s : State) : Host.Outcome State Fault Refusal :=
  perform (.poolAlloc src io) (fun h => execPoolAlloc h src io) s

/-- POOL_FREE (R463). -/
def runPoolFree (src : CmdSrc) (io : HostIo) (s : State) : Host.Outcome State Fault Refusal :=
  perform (.poolFree src io) (fun h => execPoolFree h src io) s

/-- SNAP_TAKE (R376). -/
def runSnapTake (src : CmdSrc) (io : HostIo) (s : State) : Host.Outcome State Fault Refusal :=
  perform (.snapTake src io) (fun h => execSnapTake h src io) s

/-- SNAP_RESTORE (R383). -/
def runSnapRestore (src : CmdSrc) (io : HostIo) (s : State) : Host.Outcome State Fault Refusal :=
  perform (.snapRestore src io) (fun h => execSnapRestore h src io) s

/-- READBACK (R464). -/
def runReadback (src : CmdSrc) (io : HostIo) (s : State) : Host.Outcome State Fault Refusal :=
  perform (.readback src io) (fun h => execReadback h src io) s

/-- LINK_RETRAIN (R465). -/
def runLinkRetrain (src : CmdSrc) (io : HostIo) (s : State) : Host.Outcome State Fault Refusal :=
  perform (.linkRetrain src io) (fun h => execLinkRetrain h src io) s

/-- LINK_ENABLE (R465). -/
def runLinkEnable (src : CmdSrc) (io : HostIo) (s : State) : Host.Outcome State Fault Refusal :=
  perform (.linkEnable src io) (fun h => execLinkEnable h src io) s

/-- TIME_STATUS (R313). -/
def runTimeStatus (src : CmdSrc) (io : HostIo) (s : State) : Host.Outcome State Fault Refusal :=
  perform (.timeStatus src io) (fun h => execTimeStatus h src io) s

/-- TIME_PHASE (R295). -/
def runTimePhase (src : CmdSrc) (io : HostIo) (s : State) : Host.Outcome State Fault Refusal :=
  perform (.timePhase src io) (fun h => execTimePhase h src io) s

/-- TIME_SET (R300). -/
def runTimeSet (src : CmdSrc) (io : HostIo) (s : State) : Host.Outcome State Fault Refusal :=
  perform (.timeSet src io) (fun h => execTimeSet h src io) s

/-- CALL_CANCEL (R333). -/
def runCallCancel (src : CmdSrc) (io : HostIo) (s : State) : Host.Outcome State Fault Refusal :=
  perform (.callCancel src io) (fun h => execCallCancel h src io) s

/-- CALL_STATUS (R336). -/
def runCallStatus (src : CmdSrc) (io : HostIo) (s : State) : Host.Outcome State Fault Refusal :=
  perform (.callStatus src io) (fun h => execCallStatus h src io) s

/-- ACQ_ARM (R466). -/
def runAcqArm (src : CmdSrc) (io : HostIo) (s : State) : Host.Outcome State Fault Refusal :=
  perform (.acqArm src io) (fun h => execAcqArm h src io) s

/-- ACQ_STOP (R466). -/
def runAcqStop (src : CmdSrc) (io : HostIo) (s : State) : Host.Outcome State Fault Refusal :=
  perform (.acqStop src io) (fun h => execAcqStop h src io) s

/-- ACQ_STATUS (R358). -/
def runAcqStatus (src : CmdSrc) (io : HostIo) (s : State) : Host.Outcome State Fault Refusal :=
  perform (.acqStatus src io) (fun h => execAcqStatus h src io) s

/-- POWER_STATE (R467). -/
def runPowerState (src : CmdSrc) (io : HostIo) (s : State) : Host.Outcome State Fault Refusal :=
  perform (.powerState src io) (fun h => execPowerState h src io) s

/-- LEVEL_REQ (R468). -/
def runLevelReq (src : CmdSrc) (io : HostIo) (s : State) : Host.Outcome State Fault Refusal :=
  perform (.levelReq src io) (fun h => execLevelReq h src io) s

/-- PAD_RELEASE (R398). -/
def runPadRelease (src : CmdSrc) (io : HostIo) (s : State) : Host.Outcome State Fault Refusal :=
  perform (.padRelease src io) (fun h => execPadRelease h src io) s

/-- EVENT_READ (R412). -/
def runEventRead (src : CmdSrc) (io : HostIo) (s : State) : Host.Outcome State Fault Refusal :=
  perform (.eventRead src io) (fun h => execEventRead h src io) s

/-- EVENT_CLEAR (R7). -/
def runEventClear (src : CmdSrc) (io : HostIo) (s : State) : Host.Outcome State Fault Refusal :=
  perform (.eventClear src io) (fun h => execEventClear h src io) s

/-- LOG_READ (R418). -/
def runLogRead (src : CmdSrc) (io : HostIo) (s : State) : Host.Outcome State Fault Refusal :=
  perform (.logRead src io) (fun h => execLogRead h src io) s

/-- LOG_ACK (R419). -/
def runLogAck (src : CmdSrc) (io : HostIo) (s : State) : Host.Outcome State Fault Refusal :=
  perform (.logAck src io) (fun h => execLogAck h src io) s

/-- FW_BLOCK (R477). -/
def runFwBlock (src : CmdSrc) (io : HostIo) (s : State) : Host.Outcome State Fault Refusal :=
  perform (.fwBlock src io) (fun h => execFwBlock h src io) s

/-- FW_VERIFY (R478). -/
def runFwVerify (src : CmdSrc) (io : HostIo) (s : State) : Host.Outcome State Fault Refusal :=
  perform (.fwVerify src io) (fun h => execFwVerify h src io) s

/-- FW_ACTIVATE (R479). -/
def runFwActivate (src : CmdSrc) (io : HostIo) (s : State) : Host.Outcome State Fault Refusal :=
  perform (.fwActivate src io) (fun h => execFwActivate h src io) s

/-- FW_STATUS (R487). -/
def runFwStatus (src : CmdSrc) (io : HostIo) (s : State) : Host.Outcome State Fault Refusal :=
  perform (.fwStatus src io) (fun h => execFwStatus h src io) s

/-- ACCESS_CHALLENGE (R485). -/
def runAccessChallenge (src : CmdSrc) (io : HostIo) (s : State) : Host.Outcome State Fault Refusal :=
  perform (.accessChallenge src io) (fun h => execAccessChallenge h src io) s

/-- ACCESS_RESPONSE (R484). -/
def runAccessResponse (src : CmdSrc) (io : HostIo) (s : State) : Host.Outcome State Fault Refusal :=
  perform (.accessResponse src io) (fun h => execAccessResponse h src io) s

/-- ACCESS_CLOSE (R486). -/
def runAccessClose (src : CmdSrc) (io : HostIo) (s : State) : Host.Outcome State Fault Refusal :=
  perform (.accessClose src io) (fun h => execAccessClose h src io) s

/-- REG_READ (R470). -/
def runRegRead (src : CmdSrc) (io : HostIo) (s : State) : Host.Outcome State Fault Refusal :=
  perform (.regRead src io) (fun h => execRegRead h src io) s

/-- REG_WRITE (R471). -/
def runRegWrite (src : CmdSrc) (io : HostIo) (s : State) : Host.Outcome State Fault Refusal :=
  perform (.regWrite src io) (fun h => execRegWrite h src io) s

/-- NONCE_EXPIRY (R485). -/
def runNonceExpiry (s : State) : Host.Outcome State Fault Refusal :=
  perform .nonceExpiry execNonceExpiry s

/-- LOCKOUT_END (R485). -/
def runLockoutEnd (s : State) : Host.Outcome State Fault Refusal :=
  perform .lockoutEnd execLockoutEnd s

/-- SESSION_EXPIRY (R486). -/
def runSessionExpiry (s : State) : Host.Outcome State Fault Refusal :=
  perform .sessionExpiry execSessionExpiry s

/-- FW_SWITCH (R481). -/
def runFwSwitch (s : State) : Host.Outcome State Fault Refusal :=
  perform .fwSwitch execFwSwitch s

/-- FW_NEW_READY (R481). -/
def runFwNewReady (ok : Bool) (s : State) : Host.Outcome State Fault Refusal :=
  perform (.fwNewReady ok) (fun h => execFwNewReady h ok) s

/-- REGISTER_WRITE (R6). -/
def runRegisterWrite (loc : RegLoc) (v : Word32) (s : State) : Host.Outcome State Fault Refusal :=
  perform (.registerWrite loc v) (fun h => execRegisterWrite h loc v) s

/-- CLK_SRC_WRITE (R19). -/
def runClkSrcWrite (v : Word32) (s : State) : Host.Outcome State Fault Refusal :=
  perform (.clkSrcWrite v) (fun h => execClkSrcWrite h v) s

/-- BANK_OWNER_WRITE (R172). -/
def runBankOwnerWrite (d j : Nat) (v : Word32) (s : State) : Host.Outcome State Fault Refusal :=
  perform (.bankOwnerWrite d j v) (fun h => execBankOwnerWrite h d j v) s

/-- SCR_OWNER_WRITE (R447). -/
def runScrOwnerWrite (k : Nat) (v : Word32) (s : State) : Host.Outcome State Fault Refusal :=
  perform (.scrOwnerWrite k v) (fun h => execScrOwnerWrite h k v) s

/-- OWNER_HANDOVER (R172). -/
def runOwnerHandover (ref : Nat) (s : State) : Host.Outcome State Fault Refusal :=
  perform (.ownerHandover ref) (fun h => execOwnerHandover h ref) s

/-- TRUSSCFG_CLEAR_COUNTS (R68). -/
def runTrusscfgClearCounts (d : Nat) (v : Word32) (s : State) : Host.Outcome State Fault Refusal :=
  perform (.trusscfgClearCounts d v) (fun h => execTrusscfgClearCounts h d v) s

/-- BANK_CLEAR_COUNTS (R175). -/
def runBankClearCounts (d : Nat) (v : Word32) (s : State) : Host.Outcome State Fault Refusal :=
  perform (.bankClearCounts d v) (fun h => execBankClearCounts h d v) s

/-- FAR_CLEAR_COUNTS (R194). -/
def runFarClearCounts (d : Nat) (v : Word32) (s : State) : Host.Outcome State Fault Refusal :=
  perform (.farClearCounts d v) (fun h => execFarClearCounts h d v) s

/-- SCRUB_CLEAR_COUNTS (R288). -/
def runScrubClearCounts (d : Nat) (v : Word32) (s : State) : Host.Outcome State Fault Refusal :=
  perform (.scrubClearCounts d v) (fun h => execScrubClearCounts h d v) s

/-- CALLS_CLEAR_COUNTS (R336). -/
def runCallsClearCounts (v : Word32) (s : State) : Host.Outcome State Fault Refusal :=
  perform (.callsClearCounts v) (fun h => execCallsClearCounts h v) s

/-- PROBE_CLEAR_COUNTS (R358). -/
def runProbeClearCounts (v : Word32) (s : State) : Host.Outcome State Fault Refusal :=
  perform (.probeClearCounts v) (fun h => execProbeClearCounts h v) s

/-- TRACE_CLEAR_COUNTS (R370). -/
def runTraceClearCounts (v : Word32) (s : State) : Host.Outcome State Fault Refusal :=
  perform (.traceClearCounts v) (fun h => execTraceClearCounts h v) s

/-- TIME_CLEAR_COUNTS (R313). -/
def runTimeClearCounts (v : Word32) (s : State) : Host.Outcome State Fault Refusal :=
  perform (.timeClearCounts v) (fun h => execTimeClearCounts h v) s

/-- PORT_RETRAIN (R223). -/
def runPortRetrain (p : Nat) (v : Word32) (s : State) : Host.Outcome State Fault Refusal :=
  perform (.portRetrain p v) (fun h => execPortRetrain h p v) s

/-- PORT_ENABLE_WRITE (R217). -/
def runPortEnableWrite (p : Nat) (v : Word32) (s : State) : Host.Outcome State Fault Refusal :=
  perform (.portEnableWrite p v) (fun h => execPortEnableWrite h p v) s

/-- SLEEP_CTRL_WRITE (R252). -/
def runSleepCtrlWrite (p : Nat) (v : Word32) (s : State) : Host.Outcome State Fault Refusal :=
  perform (.sleepCtrlWrite p v) (fun h => execSleepCtrlWrite h p v) s

/-- TRACE_EN_WRITE (R371). -/
def runTraceEnWrite (v : Word32) (s : State) : Host.Outcome State Fault Refusal :=
  perform (.traceEnWrite v) (fun h => execTraceEnWrite h v) s

/-- TRACE_SINK_CFG_WRITE (R371). -/
def runTraceSinkCfgWrite (o : Nat) (v : Word32) (s : State) : Host.Outcome State Fault Refusal :=
  perform (.traceSinkCfgWrite o v) (fun h => execTraceSinkCfgWrite h o v) s

/-- SYNC_REQ (R363). -/
def runSyncReq (v : Word32) (s : State) : Host.Outcome State Fault Refusal :=
  perform (.syncReq v) (fun h => execSyncReq h v) s

/-- ACQ_CTRL_STOP (R355). -/
def runAcqCtrlStop (v : Word32) (s : State) : Host.Outcome State Fault Refusal :=
  perform (.acqCtrlStop v) (fun h => execAcqCtrlStop h v) s

/-- TE_REARM (R305). -/
def runTeRearm (k o : Nat) (v : Word32) (s : State) : Host.Outcome State Fault Refusal :=
  perform (.teRearm k o v) (fun h => execTeRearm h k o v) s

/-- CAPTURE_FLUSH (R313). -/
def runCaptureFlush (k : Nat) (v : Word32) (s : State) : Host.Outcome State Fault Refusal :=
  perform (.captureFlush k v) (fun h => execCaptureFlush h k v) s

/-- CAPTURE_RECORD_READ (R310). -/
def runCaptureRecordRead (k : Nat) (s : State) : Host.Outcome State Fault Refusal :=
  perform (.captureRecordRead k) (fun h => execCaptureRecordRead h k) s

/-- CANCEL_WRITE (R333). -/
def runCancelWrite (v : Word32) (s : State) : Host.Outcome State Fault Refusal :=
  perform (.cancelWrite v) (fun h => execCancelWrite h v) s

/-- DISP_HEAD_WRITE (R326). -/
def runDispHeadWrite (w : Nat) (v : Word32) (s : State) : Host.Outcome State Fault Refusal :=
  perform (.dispHeadWrite w v) (fun h => execDispHeadWrite h w v) s

/-- COMP_TAIL_WRITE (R326). -/
def runCompTailWrite (w : Nat) (v : Word32) (s : State) : Host.Outcome State Fault Refusal :=
  perform (.compTailWrite w v) (fun h => execCompTailWrite h w v) s

/-- LOG_VALID_WRITE (R419). -/
def runLogValidWrite (k : Nat) (v : Word32) (s : State) : Host.Outcome State Fault Refusal :=
  perform (.logValidWrite k v) (fun h => execLogValidWrite h k v) s

/-- POISON_STAT_WRITE (R425). -/
def runPoisonStatWrite (v : Word32) (s : State) : Host.Outcome State Fault Refusal :=
  perform (.poisonStatWrite v) (fun h => execPoisonStatWrite h v) s

/-- ACCESS_KEY_WRITE (R487). -/
def runAccessKeyWrite (k : Nat) (v : Word32) (s : State) : Host.Outcome State Fault Refusal :=
  perform (.accessKeyWrite k v) (fun h => execAccessKeyWrite h k v) s

/-- VSEL_WRITE (R494). -/
def runVselWrite (b : Nat) (v : Word32) (s : State) : Host.Outcome State Fault Refusal :=
  perform (.vselWrite b v) (fun h => execVselWrite h b v) s

/-- VCCO_READY (R494). -/
def runVccoReady (b : Nat) (s : State) : Host.Outcome State Fault Refusal :=
  perform (.vccoReady b) (fun h => execVccoReady h b) s

/-- BAR2_READ (R445). -/
def runBar2Read (off len : Nat) (s : State) : Host.Outcome State Fault Refusal :=
  perform (.bar2Read off len) (fun h => execBar2Read h off len) s

/-- BAR2_WRITE (R446). -/
def runBar2Write (off : Nat) (bytes : List (Option Byte)) (s : State) : Host.Outcome State Fault Refusal :=
  perform (.bar2Write off bytes) (fun h => execBar2Write h off bytes) s

/-- RIDGE_TIMEOUT (R23). -/
def runRidgeTimeout (acc : RidgeAccess) (s : State) : Host.Outcome State Fault Refusal :=
  perform (.ridgeTimeout acc) (fun h => execRidgeTimeout h acc) s

/-- SCRATCH_TEST_SLICE (R448). -/
def runScratchTestSlice (k : Nat) (ok : Bool) (s : State) : Host.Outcome State Fault Refusal :=
  perform (.scratchTestSlice k ok) (fun h => execScratchTestSlice h k ok) s

/-- MP_LOCKSTEP_MISMATCH (R415). -/
def runMpLockstepMismatch (attributed : Bool) (s : State) : Host.Outcome State Fault Refusal :=
  perform (.mpLockstepMismatch attributed) (fun h => execMpLockstepMismatch h attributed) s

/-- FRAME_TICK (R28). -/
def runFrameTick (s : State) : Host.Outcome State Fault Refusal :=
  perform .frameTick execFrameTick s

/-- CALL_RELEASE (R318). -/
def runCallRelease (s : State) : Host.Outcome State Fault Refusal :=
  perform .callRelease execCallRelease s

/-- EVAL (R74). -/
def runEval (d t i : Nat) (s : State) : Host.Outcome State Fault Refusal :=
  perform (.eval d t i) (fun h => execEval h d t i) s

/-- LOFT (R75). -/
def runLoft (d t i : Nat) (s : State) : Host.Outcome State Fault Refusal :=
  perform (.loft d t i) (fun h => execLoft h d t i) s

/-- PORT (R76). -/
def runPort (d t i : Nat) (s : State) : Host.Outcome State Fault Refusal :=
  perform (.port d t i) (fun h => execPort h d t i) s

/-- NOP (R78). -/
def runNop (d t i : Nat) (s : State) : Host.Outcome State Fault Refusal :=
  perform (.nop d t i) (fun h => execNop h d t i) s

/-- KEEP (R79). -/
def runKeep (d t i : Nat) (s : State) : Host.Outcome State Fault Refusal :=
  perform (.keep d t i) (fun h => execKeep h d t i) s

/-- MARK (R80). -/
def runMark (d t i : Nat) (s : State) : Host.Outcome State Fault Refusal :=
  perform (.mark d t i) (fun h => execMark h d t i) s

/-- LOFT_READ (R83). -/
def runLoftRead (d t : Nat) (s : State) : Host.Outcome State Fault Refusal :=
  perform (.loftRead d t) (fun h => execLoftRead h d t) s

/-- LOFT_READ_DELIVER (R60). -/
def runLoftReadDeliver (d t : Nat) (s : State) : Host.Outcome State Fault Refusal :=
  perform (.loftReadDeliver d t) (fun h => execLoftReadDeliver h d t) s

/-- LOFT_WRITE (R83). -/
def runLoftWrite (d t : Nat) (s : State) : Host.Outcome State Fault Refusal :=
  perform (.loftWrite d t) (fun h => execLoftWrite h d t) s

/-- LOFT_RMW_COMMIT (R63). -/
def runLoftRmwCommit (d t : Nat) (s : State) : Host.Outcome State Fault Refusal :=
  perform (.loftRmwCommit d t) (fun h => execLoftRmwCommit h d t) s

/-- LOFT_WRITEBACK (R66). -/
def runLoftWriteback (d t : Nat) (s : State) : Host.Outcome State Fault Refusal :=
  perform (.loftWriteback d t) (fun h => execLoftWriteback h d t) s

/-- FMQ_PUSH (R178). -/
def runFmqPush (d q : Nat) (s : State) : Host.Outcome State Fault Refusal :=
  perform (.fmqPush d q) (fun h => execFmqPush h d q) s

/-- FMQ_PULL (R184). -/
def runFmqPull (d q : Nat) (s : State) : Host.Outcome State Fault Refusal :=
  perform (.fmqPull d q) (fun h => execFmqPull h d q) s

/-- FMQ_WAIT_PULL (R185). -/
def runFmqWaitPull (d q : Nat) (s : State) : Host.Outcome State Fault Refusal :=
  perform (.fmqWaitPull d q) (fun h => execFmqWaitPull h d q) s

/-- IO_OUT (R87). -/
def runIoOut (d n : Nat) (s : State) : Host.Outcome State Fault Refusal :=
  perform (.ioOut d n) (fun h => execIoOut h d n) s

/-- IO_IN (R85). -/
def runIoIn (d n : Nat) (s : State) : Host.Outcome State Fault Refusal :=
  perform (.ioIn d n) (fun h => execIoIn h d n) s

/-- IO_PATH_DELIVER (R16). -/
def runIoPathDeliver (samples : List (Nat × Word32)) (s : State) : Host.Outcome State Fault Refusal :=
  perform (.ioPathDeliver samples) (fun h => execIoPathDeliver h samples) s

/-- CALL_ARG (R86). -/
def runCallArg (d n : Nat) (s : State) : Host.Outcome State Fault Refusal :=
  perform (.callArg d n) (fun h => execCallArg h d n) s

/-- CALL_PULL (R331). -/
def runCallPull (d n : Nat) (s : State) : Host.Outcome State Fault Refusal :=
  perform (.callPull d n) (fun h => execCallPull h d n) s

/-- CALL_WAIT_PULL (R331). -/
def runCallWaitPull (d n : Nat) (s : State) : Host.Outcome State Fault Refusal :=
  perform (.callWaitPull d n) (fun h => execCallWaitPull h d n) s

/-- PROBE_WORD (R337). -/
def runProbeWord (d n : Nat) (s : State) : Host.Outcome State Fault Refusal :=
  perform (.probeWord d n) (fun h => execProbeWord h d n) s

/-- BANK_READ (R163). -/
def runBankRead (d j : Nat) (s : State) : Host.Outcome State Fault Refusal :=
  perform (.bankRead d j) (fun h => execBankRead h d j) s

/-- BANK_READ_DELIVER (R163). -/
def runBankReadDeliver (d j : Nat) (s : State) : Host.Outcome State Fault Refusal :=
  perform (.bankReadDeliver d j) (fun h => execBankReadDeliver h d j) s

/-- BANK_WRITE (R162). -/
def runBankWrite (d j : Nat) (s : State) : Host.Outcome State Fault Refusal :=
  perform (.bankWrite d j) (fun h => execBankWrite h d j) s

/-- BANK_MASKED_WRITE (R164). -/
def runBankMaskedWrite (d j : Nat) (s : State) : Host.Outcome State Fault Refusal :=
  perform (.bankMaskedWrite d j) (fun h => execBankMaskedWrite h d j) s

/-- BANK_MASKED_COMMIT (R164). -/
def runBankMaskedCommit (d j : Nat) (s : State) : Host.Outcome State Fault Refusal :=
  perform (.bankMaskedCommit d j) (fun h => execBankMaskedCommit h d j) s

/-- BANK_WRITEBACK (R168). -/
def runBankWriteback (d j : Nat) (s : State) : Host.Outcome State Fault Refusal :=
  perform (.bankWriteback d j) (fun h => execBankWriteback h d j) s

/-- FABRIC_DELIVERY (R96). -/
def runFabricDelivery (p : FabricPath) (s : State) : Host.Outcome State Fault Refusal :=
  perform (.fabricDelivery p) (fun h => execFabricDelivery h p) s

/-- DEV_CAPTURE (R125). -/
def runDevCapture (s : State) : Host.Outcome State Fault Refusal :=
  perform .devCapture execDevCapture s

/-- WAIT_TEST (R130). -/
def runWaitTest (d : Nat) (s : State) : Host.Outcome State Fault Refusal :=
  perform (.waitTest d) (fun h => execWaitTest h d) s

/-- STALL_RELEASE (R131). -/
def runStallRelease (s : State) : Host.Outcome State Fault Refusal :=
  perform .stallRelease execStallRelease s

/-- WAIT_LIMIT_REACHED (R134). -/
def runWaitLimitReached (s : State) : Host.Outcome State Fault Refusal :=
  perform .waitLimitReached execWaitLimitReached s

/-- DROOP_DETECT (R140). -/
def runDroopDetect (d0 d1 : Bool) (s : State) : Host.Outcome State Fault Refusal :=
  perform (.droopDetect d0 d1) (fun h => execDroopDetect h d0 d1) s

/-- FRAME_GO (R137). -/
def runFrameGo (origin arg : Nat) (s : State) : Host.Outcome State Fault Refusal :=
  perform (.frameGo origin arg) (fun h => execFrameGo h origin arg) s

/-- STALL_REQ (R131). -/
def runStallReq (origin arg : Nat) (s : State) : Host.Outcome State Fault Refusal :=
  perform (.stallReq origin arg) (fun h => execStallReq h origin arg) s

/-- RELEASE (R131). -/
def runRelease (origin arg : Nat) (s : State) : Host.Outcome State Fault Refusal :=
  perform (.release origin arg) (fun h => execRelease h origin arg) s

/-- STRETCH (R140). -/
def runStretch (origin arg : Nat) (s : State) : Host.Outcome State Fault Refusal :=
  perform (.stretch origin arg) (fun h => execStretch h origin arg) s

/-- HALT_NOW (R209). -/
def runHaltNow (origin arg : Nat) (s : State) : Host.Outcome State Fault Refusal :=
  perform (.haltNow origin arg) (fun h => execHaltNow h origin arg) s

/-- HALT_AT_END (R240). -/
def runHaltAtEnd (origin arg : Nat) (s : State) : Host.Outcome State Fault Refusal :=
  perform (.haltAtEnd origin arg) (fun h => execHaltAtEnd h origin arg) s

/-- XTRIG (R346). -/
def runXtrig (origin arg : Nat) (s : State) : Host.Outcome State Fault Refusal :=
  perform (.xtrig origin arg) (fun h => execXtrig h origin arg) s

/-- THROTTLE (R152). -/
def runThrottle (origin arg : Nat) (s : State) : Host.Outcome State Fault Refusal :=
  perform (.throttle origin arg) (fun h => execThrottle h origin arg) s

/-- RUN_CTRL (R237). -/
def runRunCtrl (origin arg : Nat) (s : State) : Host.Outcome State Fault Refusal :=
  perform (.runCtrl origin arg) (fun h => execRunCtrl h origin arg) s

/-- LEVEL_LOCKED (R149). -/
def runLevelLocked (gapUs : Nat) (s : State) : Host.Outcome State Fault Refusal :=
  perform (.levelLocked gapUs) (fun h => execLevelLocked h gapUs) s

/-- LEVEL_LOCK_TIMEOUT (R151). -/
def runLevelLockTimeout (s : State) : Host.Outcome State Fault Refusal :=
  perform .levelLockTimeout execLevelLockTimeout s

/-- LEVEL_RETURN_LOCKED (R151). -/
def runLevelReturnLocked (ok : Bool) (s : State) : Host.Outcome State Fault Refusal :=
  perform (.levelReturnLocked ok) (fun h => execLevelReturnLocked h ok) s

/-- FMQ_REQ_READ (R180). -/
def runFmqReqRead (Q : Nat) (s : State) : Host.Outcome State Fault Refusal :=
  perform (.fmqReqRead Q) (fun h => execFmqReqRead h Q) s

/-- FMQ_REQ_WRITE (R180). -/
def runFmqReqWrite (Q : Nat) (s : State) : Host.Outcome State Fault Refusal :=
  perform (.fmqReqWrite Q) (fun h => execFmqReqWrite h Q) s

/-- FMQ_REQ_MASKED_WRITE (R193). -/
def runFmqReqMaskedWrite (Q : Nat) (s : State) : Host.Outcome State Fault Refusal :=
  perform (.fmqReqMaskedWrite Q) (fun h => execFmqReqMaskedWrite h Q) s

/-- FMQ_RESPONSE_COMPLETE (R181). -/
def runFmqResponseComplete (Q : Nat) (s : State) : Host.Outcome State Fault Refusal :=
  perform (.fmqResponseComplete Q) (fun h => execFmqResponseComplete h Q) s

/-- FAR_WRITEBACK (R193). -/
def runFarWriteback (d a : Nat) (s : State) : Host.Outcome State Fault Refusal :=
  perform (.farWriteback d a) (fun h => execFarWriteback h d a) s

/-- REFRESH (R188). -/
def runRefresh (c : Nat) (s : State) : Host.Outcome State Fault Refusal :=
  perform (.refresh c) (fun h => execRefresh h (c % 2) (c / 2)) s

/-- FORCED_REFRESH (R188). -/
def runForcedRefresh (c : Nat) (pairs : List Nat) (s : State) : Host.Outcome State Fault Refusal :=
  perform (.forcedRefresh c pairs) (fun h => execForcedRefresh h (c % 2) (c / 2) pairs) s

/-- SCRUB_SLOT (R281). -/
def runScrubSlot (d : Nat) (s : State) : Host.Outcome State Fault Refusal :=
  perform (.scrubSlot d) (fun h => execScrubSlot h d) s

/-- CALL_RAISE (R316). -/
def runCallRaise (s : State) : Host.Outcome State Fault Refusal :=
  perform .callRaise execCallRaise s

/-- CALL_DISPATCH (R322). -/
def runCallDispatch (w : Nat) (s : State) : Host.Outcome State Fault Refusal :=
  perform (.callDispatch w) (fun h => execCallDispatch h w) s

/-- COMPLETION_RECORD (R324). -/
def runCompletionRecord (w : Nat) (rec : RingRecord) (s : State) : Host.Outcome State Fault Refusal :=
  perform (.completionRecord w rec) (fun h => execCompletionRecord h w rec) s

/-- CALL_DELIVER (R330). -/
def runCallDeliver (slot : Nat) (s : State) : Host.Outcome State Fault Refusal :=
  perform (.callDeliver slot) (fun h => execCallDeliver h slot) s

/-- ECHO (R328). -/
def runEcho (slot : Nat) (s : State) : Host.Outcome State Fault Refusal :=
  perform (.echo slot) (fun h => execEcho h slot) s

/-- FAR_READ (R328). -/
def runFarRead (slot : Nat) (s : State) : Host.Outcome State Fault Refusal :=
  perform (.farRead slot) (fun h => execFarRead h slot) s

/-- FAR_WRITE (R328). -/
def runFarWrite (slot : Nat) (s : State) : Host.Outcome State Fault Refusal :=
  perform (.farWrite slot) (fun h => execFarWrite h slot) s

/-- TIME_READ (R328). -/
def runTimeRead (slot : Nat) (s : State) : Host.Outcome State Fault Refusal :=
  perform (.timeRead slot) (fun h => execTimeRead h slot) s

/-- WORD_SAMPLE (R340). -/
def runWordSample (k : Nat) (v : BitVec 16) (s : State) : Host.Outcome State Fault Refusal :=
  perform (.wordSample k v) (fun h => execWordSample h k v) s

/-- TRIGGER_EVAL (R347). -/
def runTriggerEval (s : State) : Host.Outcome State Fault Refusal :=
  perform .triggerEval execTriggerEval s

/-- TRIGGER_TIMER_EXPIRY (R347). -/
def runTriggerTimerExpiry (k : Nat) (s : State) : Host.Outcome State Fault Refusal :=
  perform (.triggerTimerExpiry k) (fun h => execTriggerTimerExpiry h k) s

/-- ACQ_SEGMENT_ARM (R356). -/
def runAcqSegmentArm (s : State) : Host.Outcome State Fault Refusal :=
  perform .acqSegmentArm execAcqSegmentArm s

/-- ACQ_WRITE (R343). -/
def runAcqWrite (s : State) : Host.Outcome State Fault Refusal :=
  perform .acqWrite execAcqWrite s

/-- SEGMENT_END (R353). -/
def runSegmentEnd (s : State) : Host.Outcome State Fault Refusal :=
  perform .segmentEnd execSegmentEnd s

/-- AUTO_TRIGGER (R357). -/
def runAutoTrigger (s : State) : Host.Outcome State Fault Refusal :=
  perform .autoTrigger execAutoTrigger s

/-- TRACE_PACKET (R367). -/
def runTracePacket (s : State) : Host.Outcome State Fault Refusal :=
  perform .tracePacket execTracePacket s

/-- TRACE_SINK_WRITE (R366). -/
def runTraceSinkWrite (s : State) : Host.Outcome State Fault Refusal :=
  perform .traceSinkWrite execTraceSinkWrite s

/-- SNAP_DRAIN_DONE (R380). -/
def runSnapDrainDone (s : State) : Host.Outcome State Fault Refusal :=
  perform .snapDrainDone execSnapDrainDone s

/-- PORT_START (R218). -/
def runPortStart (p : Nat) (s : State) : Host.Outcome State Fault Refusal :=
  perform (.portStart p) (fun h => execPortStart h p) s

/-- SIGNAL_DETECT_RISE (R217). -/
def runSignalDetectRise (p : Nat) (lanes : BitVec 19) (s : State) : Host.Outcome State Fault Refusal :=
  perform (.signalDetectRise p lanes) (fun h => execSignalDetectRise h p lanes) s

/-- SIGNAL_DETECT_FALL (R219). -/
def runSignalDetectFall (p : Nat) (lanes : BitVec 19) (s : State) : Host.Outcome State Fault Refusal :=
  perform (.signalDetectFall p lanes) (fun h => execSignalDetectFall h p lanes) s

/-- COEFF_BLOCK (R224). -/
def runCoeffBlock (p l : Nat) (head : BitVec 2) (word : Word64) (accept : Bool) (req : BitVec 7) (s : State) :
    Host.Outcome State Fault Refusal :=
  perform (.coeffBlock p l head word accept req) (fun h => execCoeffBlock h p l (word ++ head) accept req) s

/-- TRAIN_TIMEOUT (R220). -/
def runTrainTimeout (p : Nat) (s : State) : Host.Outcome State Fault Refusal :=
  perform (.trainTimeout p) (fun h => execTrainTimeout h p) s

/-- ALIGN_TIMEOUT (R217). -/
def runAlignTimeout (p : Nat) (s : State) : Host.Outcome State Fault Refusal :=
  perform (.alignTimeout p) (fun h => execAlignTimeout h p) s

/-- CALIBRATE_TIMEOUT (R217). -/
def runCalibrateTimeout (p : Nat) (s : State) : Host.Outcome State Fault Refusal :=
  perform (.calibrateTimeout p) (fun h => execCalibrateTimeout h p) s

/-- RETRY_WAIT_END (R217). -/
def runRetryWaitEnd (p : Nat) (s : State) : Host.Outcome State Fault Refusal :=
  perform (.retryWaitEnd p) (fun h => execRetryWaitEnd h p) s

/-- LINK_ID (R230). -/
def runLinkId (p : Nat) (blks : List (BitVec 66)) (s : State) : Host.Outcome State Fault Refusal :=
  perform (.linkId p blks) (fun h => execLinkId h p blks) s

/-- MARKER (R250). -/
def runMarker (p : Nat) (heads : List (BitVec 2)) (words : List Word64) (part : Nat) (s : State) :
    Host.Outcome State Fault Refusal :=
  perform (.marker p heads words part) (fun h => execMarker h p (setBlocks heads words) part) s

/-- MARKER_DUE (R229). -/
def runMarkerDue (p part : Nat) (s : State) : Host.Outcome State Fault Refusal :=
  perform (.markerDue p part) (fun h => execMarkerDue h p part) s

/-- MARKER_TIMEOUT (R254). -/
def runMarkerTimeout (p : Nat) (s : State) : Host.Outcome State Fault Refusal :=
  perform (.markerTimeout p) (fun h => execMarkerTimeout h p) s

/-- DATA_BLOCK_SET (R233). -/
def runDataBlockSet (p : Nat) (blks : List (BitVec 66)) (s : State) : Host.Outcome State Fault Refusal :=
  perform (.dataBlockSet p blks) (fun h => execDataBlockSet h p blks) s

/-- SLOT_GROUP_DELIVER (R235). -/
def runSlotGroupDeliver (p : Nat) (s : State) : Host.Outcome State Fault Refusal :=
  perform (.slotGroupDeliver p) (fun h => execSlotGroupDeliver h p) s

/-- CAPTURE (R241). -/
def runCapture (p : Nat) (blks : List (BitVec 66)) (s : State) : Host.Outcome State Fault Refusal :=
  perform (.capture p blks) (fun h => execCapture h p blks) s

/-- MSG (R242). -/
def runMsg (p : Nat) (blks : List (BitVec 66)) (meaning : LinkMsg) (s : State) : Host.Outcome State Fault Refusal :=
  perform (.msg p blks meaning) (fun h => execMsg h p blks meaning) s

/-- ACK (R242). -/
def runAck (p : Nat) (blks : List (BitVec 66)) (s : State) : Host.Outcome State Fault Refusal :=
  perform (.ack p blks) (fun h => execAck h p blks) s

/-- MSG_RESEND (R242). -/
def runMsgResend (p : Nat) (lost : Option (Nat × Nat)) (s : State) : Host.Outcome State Fault Refusal :=
  perform (.msgResend p lost) (fun h => execMsgResend h p lost) s

/-- SPARE_REQ (R247). -/
def runSpareReq (p : Nat) (blks : List (BitVec 66)) (s : State) : Host.Outcome State Fault Refusal :=
  perform (.spareReq p blks) (fun h => execSpareReq h p blks) s

/-- SPARE_COMPARE_PASS (R247). -/
def runSpareComparePass (p : Nat) (s : State) : Host.Outcome State Fault Refusal :=
  perform (.spareComparePass p) (fun h => execSpareComparePass h p) s

/-- SPARE_DONE (R247). -/
def runSpareDone (p : Nat) (blks : List (BitVec 66)) (s : State) : Host.Outcome State Fault Refusal :=
  perform (.spareDone p blks) (fun h => execSpareDone h p blks) s

/-- SPARE_TIMEOUT (R249). -/
def runSpareTimeout (p : Nat) (s : State) : Host.Outcome State Fault Refusal :=
  perform (.spareTimeout p) (fun h => execSpareTimeout h p) s

/-- LANE_QUIET (R252). -/
def runLaneQuiet (p : Nat) (blks : List (BitVec 66)) (s : State) : Host.Outcome State Fault Refusal :=
  perform (.laneQuiet p blks) (fun h => execLaneQuiet h p blks) s

/-- LANE_WAKE (R253). -/
def runLaneWake (p lanes : Nat) (s : State) : Host.Outcome State Fault Refusal :=
  perform (.laneWake p lanes) (fun h => execLaneWake h p lanes) s

/-- PTP_MESSAGE (R296). -/
def runPtpMessage (m : PtpMsg) (s : State) : Host.Outcome State Fault Refusal :=
  perform (.ptpMessage m) (fun h => execPtpMessage h m) s

/-- PPS_EDGE (R300). -/
def runPpsEdge (sub : Nat) (s : State) : Host.Outcome State Fault Refusal :=
  perform (.ppsEdge sub) (fun h => execPpsEdge h sub) s

/-- PPS_TIMEOUT (R300). -/
def runPpsTimeout (s : State) : Host.Outcome State Fault Refusal :=
  perform .ppsTimeout execPpsTimeout s

/-- ANNOUNCE_TIMEOUT (R294). -/
def runAnnounceTimeout (d : Nat) (s : State) : Host.Outcome State Fault Refusal :=
  perform (.announceTimeout d) (fun h => execAnnounceTimeout h d) s

/-- PRIMARY_RETURN (R297). -/
def runPrimaryReturn (s : State) : Host.Outcome State Fault Refusal :=
  perform .primaryReturn execPrimaryReturn s

/-- PHASE_NORMAL (R295). -/
def runPhaseNormal (s : State) : Host.Outcome State Fault Refusal :=
  perform .phaseNormal execPhaseNormal s

/-- REF10M_LOSS (R290). -/
def runRef10mLoss (s : State) : Host.Outcome State Fault Refusal :=
  perform .ref10mLoss execRef10mLoss s

/-- REF10M_RETURN (R290). -/
def runRef10mReturn (s : State) : Host.Outcome State Fault Refusal :=
  perform .ref10mReturn execRef10mReturn s

/-- PPS_OUT (R301). -/
def runPpsOut (s : State) : Host.Outcome State Fault Refusal :=
  perform .ppsOut execPpsOut s

/-- TIME_EVENT_FIRE (R306). -/
def runTimeEventFire (k : Nat) (s : State) : Host.Outcome State Fault Refusal :=
  perform (.timeEventFire k) (fun h => execTimeEventFire h k) s

/-- CAPTURE_EDGE (R309). -/
def runCaptureEdge (k : Nat) (falling : Bool) (sub : Nat) (s : State) : Host.Outcome State Fault Refusal :=
  perform (.captureEdge k falling sub) (fun h => execCaptureEdge h k falling sub) s

/-- IDLE_TIMER (R390). -/
def runIdleTimer (s : State) : Host.Outcome State Fault Refusal :=
  perform .idleTimer execIdleTimer s

/-- DOZE_TIMER (R390). -/
def runDozeTimer (s : State) : Host.Outcome State Fault Refusal :=
  perform .dozeTimer execDozeTimer s

/-- SLEEP_TIMER (R390). -/
def runSleepTimer (s : State) : Host.Outcome State Fault Refusal :=
  perform .sleepTimer execSleepTimer s

/-- ENTER_IDLE (R393). -/
def runEnterIdle (s : State) : Host.Outcome State Fault Refusal :=
  perform .enterIdle execEnterIdle s

/-- ENTER_DOZE (R394). -/
def runEnterDoze (cut : Option EntryCut) (s : State) : Host.Outcome State Fault Refusal :=
  perform (.enterDoze cut) (fun h => execEnterDoze h cut) s

/-- ENTER_SLEEP (R395). -/
def runEnterSleep (cut : Option EntryCut) (s : State) : Host.Outcome State Fault Refusal :=
  perform (.enterSleep cut) (fun h => execEnterSleep h cut) s

/-- PCIE_WAKE (R401). -/
def runPcieWake (s : State) : Host.Outcome State Fault Refusal :=
  perform .pcieWake execPcieWake s

/-- WAKE_PIN (R401). -/
def runWakePin (s : State) : Host.Outcome State Fault Refusal :=
  perform .wakePin execWakePin s

/-- WAKE_ALARM (R308). -/
def runWakeAlarm (s : State) : Host.Outcome State Fault Refusal :=
  perform .wakeAlarm execWakeAlarm s

/-- WAKE_FROM_SLEEP (R403). -/
def runWakeFromSleep (f : WakeFaults) (s : State) : Host.Outcome State Fault Refusal :=
  perform (.wakeFromSleep f) (fun h => execWakeFromSleep h f) s

/-- WAKE_FROM_DOZE (R403). -/
def runWakeFromDoze (f : WakeFaults) (s : State) : Host.Outcome State Fault Refusal :=
  perform (.wakeFromDoze f) (fun h => execWakeFromDoze h f) s

/-- EVENT_RAISE (R418). -/
def runEventRaise (s : State) : Host.Outcome State Fault Refusal :=
  perform .eventRaise execEventRaise s

/-- FRAME_GO_SEND (R137). -/
def runFrameGoSend (s : State) : Host.Outcome State Fault Refusal :=
  perform .frameGoSend execFrameGoSend s

/-- BLOCK_SET_SEND (R243). -/
def runBlockSetSend (p part : Nat) (s : State) : Host.Outcome State Fault Refusal :=
  perform (.blockSetSend p part) (fun h => execBlockSetSend h p part) s

/-- HOST_READ_TIMEOUT (R441). -/
def runHostReadTimeout (slot : Nat) (s : State) : Host.Outcome State Fault Refusal :=
  perform (.hostReadTimeout slot) (fun h => execHostReadTimeout h slot) s

/-- WORD_CHANNEL_FRAME_LOCK (R498). -/
def runWordChannelFrameLock (k : Nat) (s : State) : Host.Outcome State Fault Refusal :=
  perform (.wordChannelFrameLock k) (fun h => execWordChannelFrameLock h k) s

/-- WORD_CHANNEL_LOCK_LOSS (R498). -/
def runWordChannelLockLoss (k : Nat) (s : State) : Host.Outcome State Fault Refusal :=
  perform (.wordChannelLockLoss k) (fun h => execWordChannelLockLoss h k) s

/-- THERMAL_RESTART (R500). -/
def runThermalRestart (s : State) : Host.Outcome State Fault Refusal :=
  perform .thermalRestart execThermalRestart s

/-- UART_RECOVERY_IMAGE (R483). -/
def runUartRecoveryImage (bytes : List Byte) (s : State) : Host.Outcome State Fault Refusal :=
  perform (.uartRecoveryImage bytes) (fun h => execUartRecoveryImage h bytes) s

end Sys2Proof.Machine
end

