-- ==== Sys2Proof/Machine/Dispatch.lean ====
section
/-!
DEFINITION. The meaning of each command: one arm for each constructor of Instr, each a call of its definition.
-/

namespace Sys2Proof.Machine

def exec (i : Instr) (s : State) : Host.Outcome State Fault Refusal :=
  match i with
  | .powerOn straps intact => Sys2Proof.Machine.runPowerOn straps intact s
  | .inputUndervoltage => Sys2Proof.Machine.runInputUndervoltage s
  | .inputOvervoltage => Sys2Proof.Machine.runInputOvervoltage s
  | .brownOut => Sys2Proof.Machine.runBrownOut s
  | .perstAssert => Sys2Proof.Machine.runPerstAssert s
  | .perstRelease => Sys2Proof.Machine.runPerstRelease s
  | .hotReset => Sys2Proof.Machine.runHotReset s
  | .busMasterEnable => Sys2Proof.Machine.runBusMasterEnable s
  | .descBmeTimeout slot => Sys2Proof.Machine.runDescBmeTimeout slot s
  | .configRequest off wr => Sys2Proof.Machine.runConfigRequest off wr s
  | .firmwareReady bootMs tapFs => Sys2Proof.Machine.runFirmwareReady bootMs tapFs s
  | .thermalShutdown => Sys2Proof.Machine.runThermalShutdown s
  | .junctionHot => Sys2Proof.Machine.runJunctionHot s
  | .throttleRecover => Sys2Proof.Machine.runThrottleRecover s
  | .slotWrite slot off bytes => Sys2Proof.Machine.runSlotWrite slot off bytes s
  | .mbxRing slot => Sys2Proof.Machine.runMbxRing slot s
  | .mbxTake io => Sys2Proof.Machine.runMbxTake io s
  | .heldForward slot io => Sys2Proof.Machine.runHeldForward slot io s
  | .heldCommandTimeout slot => Sys2Proof.Machine.runHeldCommandTimeout slot s
  | .discoverySettled => Sys2Proof.Machine.runDiscoverySettled s
  | .identify src io => Sys2Proof.Machine.runIdentify src io s
  | .status src io => Sys2Proof.Machine.runStatus src io s
  | .portStatus src io => Sys2Proof.Machine.runPortStatus src io s
  | .imageBegin src io => Sys2Proof.Machine.runImageBegin src io s
  | .imageBlock src io => Sys2Proof.Machine.runImageBlock src io s
  | .imageCommit src io => Sys2Proof.Machine.runImageCommit src io s
  | .imageStatus src io => Sys2Proof.Machine.runImageStatus src io s
  | .loadTimeout => Sys2Proof.Machine.runLoadTimeout s
  | .imageApply => Sys2Proof.Machine.runImageApply s
  | .bayIsolation => Sys2Proof.Machine.runBayIsolation s
  | .bayWriteDone => Sys2Proof.Machine.runBayWriteDone s
  | .bayInitStart => Sys2Proof.Machine.runBayInitStart s
  | .bayInitDone => Sys2Proof.Machine.runBayInitDone s
  | .bayActivation => Sys2Proof.Machine.runBayActivation s
  | .configForm src io f => Sys2Proof.Machine.runConfigForm src io f s
  | .configLeave src io => Sys2Proof.Machine.runConfigLeave src io s
  | .runStart src io => Sys2Proof.Machine.runRunStart src io s
  | .runHalt src io => Sys2Proof.Machine.runRunHalt src io s
  | .bar2Map src io => Sys2Proof.Machine.runBar2Map src io s
  | .memRead src io => Sys2Proof.Machine.runMemRead src io s
  | .memWrite src io => Sys2Proof.Machine.runMemWrite src io s
  | .poolAlloc src io => Sys2Proof.Machine.runPoolAlloc src io s
  | .poolFree src io => Sys2Proof.Machine.runPoolFree src io s
  | .snapTake src io => Sys2Proof.Machine.runSnapTake src io s
  | .snapRestore src io => Sys2Proof.Machine.runSnapRestore src io s
  | .readback src io => Sys2Proof.Machine.runReadback src io s
  | .linkRetrain src io => Sys2Proof.Machine.runLinkRetrain src io s
  | .linkEnable src io => Sys2Proof.Machine.runLinkEnable src io s
  | .timeStatus src io => Sys2Proof.Machine.runTimeStatus src io s
  | .timePhase src io => Sys2Proof.Machine.runTimePhase src io s
  | .timeSet src io => Sys2Proof.Machine.runTimeSet src io s
  | .callCancel src io => Sys2Proof.Machine.runCallCancel src io s
  | .callStatus src io => Sys2Proof.Machine.runCallStatus src io s
  | .acqArm src io => Sys2Proof.Machine.runAcqArm src io s
  | .acqStop src io => Sys2Proof.Machine.runAcqStop src io s
  | .acqStatus src io => Sys2Proof.Machine.runAcqStatus src io s
  | .powerState src io => Sys2Proof.Machine.runPowerState src io s
  | .levelReq src io => Sys2Proof.Machine.runLevelReq src io s
  | .padRelease src io => Sys2Proof.Machine.runPadRelease src io s
  | .eventRead src io => Sys2Proof.Machine.runEventRead src io s
  | .eventClear src io => Sys2Proof.Machine.runEventClear src io s
  | .logRead src io => Sys2Proof.Machine.runLogRead src io s
  | .logAck src io => Sys2Proof.Machine.runLogAck src io s
  | .fwBlock src io => Sys2Proof.Machine.runFwBlock src io s
  | .fwVerify src io => Sys2Proof.Machine.runFwVerify src io s
  | .fwActivate src io => Sys2Proof.Machine.runFwActivate src io s
  | .fwStatus src io => Sys2Proof.Machine.runFwStatus src io s
  | .accessChallenge src io => Sys2Proof.Machine.runAccessChallenge src io s
  | .accessResponse src io => Sys2Proof.Machine.runAccessResponse src io s
  | .accessClose src io => Sys2Proof.Machine.runAccessClose src io s
  | .regRead src io => Sys2Proof.Machine.runRegRead src io s
  | .regWrite src io => Sys2Proof.Machine.runRegWrite src io s
  | .nonceExpiry => Sys2Proof.Machine.runNonceExpiry s
  | .lockoutEnd => Sys2Proof.Machine.runLockoutEnd s
  | .sessionExpiry => Sys2Proof.Machine.runSessionExpiry s
  | .fwSwitch => Sys2Proof.Machine.runFwSwitch s
  | .fwNewReady ok => Sys2Proof.Machine.runFwNewReady ok s
  | .registerWrite loc v => Sys2Proof.Machine.runRegisterWrite loc v s
  | .clkSrcWrite v => Sys2Proof.Machine.runClkSrcWrite v s
  | .bankOwnerWrite d j v => Sys2Proof.Machine.runBankOwnerWrite d j v s
  | .scrOwnerWrite k v => Sys2Proof.Machine.runScrOwnerWrite k v s
  | .ownerHandover ref => Sys2Proof.Machine.runOwnerHandover ref s
  | .trusscfgClearCounts d v => Sys2Proof.Machine.runTrusscfgClearCounts d v s
  | .bankClearCounts d v => Sys2Proof.Machine.runBankClearCounts d v s
  | .farClearCounts d v => Sys2Proof.Machine.runFarClearCounts d v s
  | .scrubClearCounts d v => Sys2Proof.Machine.runScrubClearCounts d v s
  | .callsClearCounts v => Sys2Proof.Machine.runCallsClearCounts v s
  | .probeClearCounts v => Sys2Proof.Machine.runProbeClearCounts v s
  | .traceClearCounts v => Sys2Proof.Machine.runTraceClearCounts v s
  | .timeClearCounts v => Sys2Proof.Machine.runTimeClearCounts v s
  | .portRetrain p v => Sys2Proof.Machine.runPortRetrain p v s
  | .portEnableWrite p v => Sys2Proof.Machine.runPortEnableWrite p v s
  | .sleepCtrlWrite p v => Sys2Proof.Machine.runSleepCtrlWrite p v s
  | .traceEnWrite v => Sys2Proof.Machine.runTraceEnWrite v s
  | .traceSinkCfgWrite o v => Sys2Proof.Machine.runTraceSinkCfgWrite o v s
  | .syncReq v => Sys2Proof.Machine.runSyncReq v s
  | .acqCtrlStop v => Sys2Proof.Machine.runAcqCtrlStop v s
  | .teRearm k o v => Sys2Proof.Machine.runTeRearm k o v s
  | .captureFlush k v => Sys2Proof.Machine.runCaptureFlush k v s
  | .captureRecordRead k => Sys2Proof.Machine.runCaptureRecordRead k s
  | .cancelWrite v => Sys2Proof.Machine.runCancelWrite v s
  | .dispHeadWrite w v => Sys2Proof.Machine.runDispHeadWrite w v s
  | .compTailWrite w v => Sys2Proof.Machine.runCompTailWrite w v s
  | .logValidWrite k v => Sys2Proof.Machine.runLogValidWrite k v s
  | .poisonStatWrite v => Sys2Proof.Machine.runPoisonStatWrite v s
  | .accessKeyWrite k v => Sys2Proof.Machine.runAccessKeyWrite k v s
  | .vselWrite b v => Sys2Proof.Machine.runVselWrite b v s
  | .vccoReady b => Sys2Proof.Machine.runVccoReady b s
  | .bar2Read off len => Sys2Proof.Machine.runBar2Read off len s
  | .bar2Write off bytes => Sys2Proof.Machine.runBar2Write off bytes s
  | .ridgeTimeout acc => Sys2Proof.Machine.runRidgeTimeout acc s
  | .scratchTestSlice k ok => Sys2Proof.Machine.runScratchTestSlice k ok s
  | .mpLockstepMismatch attributed => Sys2Proof.Machine.runMpLockstepMismatch attributed s
  | .frameTick => Sys2Proof.Machine.runFrameTick s
  | .callRelease => Sys2Proof.Machine.runCallRelease s
  | .eval d t n => Sys2Proof.Machine.runEval d t n s
  | .loft d t n => Sys2Proof.Machine.runLoft d t n s
  | .port d t n => Sys2Proof.Machine.runPort d t n s
  | .nop d t n => Sys2Proof.Machine.runNop d t n s
  | .keep d t n => Sys2Proof.Machine.runKeep d t n s
  | .mark d t n => Sys2Proof.Machine.runMark d t n s
  | .loftRead d t => Sys2Proof.Machine.runLoftRead d t s
  | .loftReadDeliver d t => Sys2Proof.Machine.runLoftReadDeliver d t s
  | .loftWrite d t => Sys2Proof.Machine.runLoftWrite d t s
  | .loftRmwCommit d t => Sys2Proof.Machine.runLoftRmwCommit d t s
  | .loftWriteback d t => Sys2Proof.Machine.runLoftWriteback d t s
  | .fmqPush d q => Sys2Proof.Machine.runFmqPush d q s
  | .fmqPull d q => Sys2Proof.Machine.runFmqPull d q s
  | .fmqWaitPull d q => Sys2Proof.Machine.runFmqWaitPull d q s
  | .ioOut d n => Sys2Proof.Machine.runIoOut d n s
  | .ioIn d n => Sys2Proof.Machine.runIoIn d n s
  | .ioPathDeliver samples => Sys2Proof.Machine.runIoPathDeliver samples s
  | .callArg d n => Sys2Proof.Machine.runCallArg d n s
  | .callPull d n => Sys2Proof.Machine.runCallPull d n s
  | .callWaitPull d n => Sys2Proof.Machine.runCallWaitPull d n s
  | .probeWord d n => Sys2Proof.Machine.runProbeWord d n s
  | .bankRead d j => Sys2Proof.Machine.runBankRead d j s
  | .bankReadDeliver d j => Sys2Proof.Machine.runBankReadDeliver d j s
  | .bankWrite d j => Sys2Proof.Machine.runBankWrite d j s
  | .bankMaskedWrite d j => Sys2Proof.Machine.runBankMaskedWrite d j s
  | .bankMaskedCommit d j => Sys2Proof.Machine.runBankMaskedCommit d j s
  | .bankWriteback d j => Sys2Proof.Machine.runBankWriteback d j s
  | .fabricDelivery p => Sys2Proof.Machine.runFabricDelivery p s
  | .devCapture => Sys2Proof.Machine.runDevCapture s
  | .waitTest d => Sys2Proof.Machine.runWaitTest d s
  | .stallRelease => Sys2Proof.Machine.runStallRelease s
  | .waitLimitReached => Sys2Proof.Machine.runWaitLimitReached s
  | .droopDetect d0 d1 => Sys2Proof.Machine.runDroopDetect d0 d1 s
  | .frameGo origin arg => Sys2Proof.Machine.runFrameGo origin arg s
  | .stallReq origin arg => Sys2Proof.Machine.runStallReq origin arg s
  | .release origin arg => Sys2Proof.Machine.runRelease origin arg s
  | .stretch origin arg => Sys2Proof.Machine.runStretch origin arg s
  | .haltNow origin arg => Sys2Proof.Machine.runHaltNow origin arg s
  | .haltAtEnd origin arg => Sys2Proof.Machine.runHaltAtEnd origin arg s
  | .xtrig origin arg => Sys2Proof.Machine.runXtrig origin arg s
  | .throttle origin arg => Sys2Proof.Machine.runThrottle origin arg s
  | .runCtrl origin arg => Sys2Proof.Machine.runRunCtrl origin arg s
  | .levelLocked gapUs => Sys2Proof.Machine.runLevelLocked gapUs s
  | .levelLockTimeout => Sys2Proof.Machine.runLevelLockTimeout s
  | .levelReturnLocked ok => Sys2Proof.Machine.runLevelReturnLocked ok s
  | .fmqReqRead Q => Sys2Proof.Machine.runFmqReqRead Q s
  | .fmqReqWrite Q => Sys2Proof.Machine.runFmqReqWrite Q s
  | .fmqReqMaskedWrite Q => Sys2Proof.Machine.runFmqReqMaskedWrite Q s
  | .fmqResponseComplete Q => Sys2Proof.Machine.runFmqResponseComplete Q s
  | .farWriteback d a => Sys2Proof.Machine.runFarWriteback d a s
  | .refresh c => Sys2Proof.Machine.runRefresh c s
  | .forcedRefresh c pairs => Sys2Proof.Machine.runForcedRefresh c pairs s
  | .scrubSlot d => Sys2Proof.Machine.runScrubSlot d s
  | .callRaise => Sys2Proof.Machine.runCallRaise s
  | .callDispatch w => Sys2Proof.Machine.runCallDispatch w s
  | .completionRecord w rec => Sys2Proof.Machine.runCompletionRecord w rec s
  | .callDeliver slot => Sys2Proof.Machine.runCallDeliver slot s
  | .echo slot => Sys2Proof.Machine.runEcho slot s
  | .farRead slot => Sys2Proof.Machine.runFarRead slot s
  | .farWrite slot => Sys2Proof.Machine.runFarWrite slot s
  | .timeRead slot => Sys2Proof.Machine.runTimeRead slot s
  | .wordSample k v => Sys2Proof.Machine.runWordSample k v s
  | .triggerEval => Sys2Proof.Machine.runTriggerEval s
  | .triggerTimerExpiry k => Sys2Proof.Machine.runTriggerTimerExpiry k s
  | .acqSegmentArm => Sys2Proof.Machine.runAcqSegmentArm s
  | .acqWrite => Sys2Proof.Machine.runAcqWrite s
  | .segmentEnd => Sys2Proof.Machine.runSegmentEnd s
  | .autoTrigger => Sys2Proof.Machine.runAutoTrigger s
  | .tracePacket => Sys2Proof.Machine.runTracePacket s
  | .traceSinkWrite => Sys2Proof.Machine.runTraceSinkWrite s
  | .snapDrainDone => Sys2Proof.Machine.runSnapDrainDone s
  | .portStart p => Sys2Proof.Machine.runPortStart p s
  | .signalDetectRise p lanes => Sys2Proof.Machine.runSignalDetectRise p lanes s
  | .signalDetectFall p lanes => Sys2Proof.Machine.runSignalDetectFall p lanes s
  | .coeffBlock p l head word accept req => Sys2Proof.Machine.runCoeffBlock p l head word accept req s
  | .trainTimeout p => Sys2Proof.Machine.runTrainTimeout p s
  | .alignTimeout p => Sys2Proof.Machine.runAlignTimeout p s
  | .calibrateTimeout p => Sys2Proof.Machine.runCalibrateTimeout p s
  | .retryWaitEnd p => Sys2Proof.Machine.runRetryWaitEnd p s
  | .linkId p blks => Sys2Proof.Machine.runLinkId p blks s
  | .marker p heads words part => Sys2Proof.Machine.runMarker p heads words part s
  | .markerDue p part => Sys2Proof.Machine.runMarkerDue p part s
  | .markerTimeout p => Sys2Proof.Machine.runMarkerTimeout p s
  | .dataBlockSet p blks => Sys2Proof.Machine.runDataBlockSet p blks s
  | .slotGroupDeliver p => Sys2Proof.Machine.runSlotGroupDeliver p s
  | .capture p blks => Sys2Proof.Machine.runCapture p blks s
  | .msg p blks meaning => Sys2Proof.Machine.runMsg p blks meaning s
  | .ack p blks => Sys2Proof.Machine.runAck p blks s
  | .msgResend p lost => Sys2Proof.Machine.runMsgResend p lost s
  | .spareReq p blks => Sys2Proof.Machine.runSpareReq p blks s
  | .spareComparePass p => Sys2Proof.Machine.runSpareComparePass p s
  | .spareDone p blks => Sys2Proof.Machine.runSpareDone p blks s
  | .spareTimeout p => Sys2Proof.Machine.runSpareTimeout p s
  | .laneQuiet p blks => Sys2Proof.Machine.runLaneQuiet p blks s
  | .laneWake p lanes => Sys2Proof.Machine.runLaneWake p lanes s
  | .ptpMessage m => Sys2Proof.Machine.runPtpMessage m s
  | .ppsEdge sub => Sys2Proof.Machine.runPpsEdge sub s
  | .ppsTimeout => Sys2Proof.Machine.runPpsTimeout s
  | .announceTimeout d => Sys2Proof.Machine.runAnnounceTimeout d s
  | .primaryReturn => Sys2Proof.Machine.runPrimaryReturn s
  | .phaseNormal => Sys2Proof.Machine.runPhaseNormal s
  | .ref10mLoss => Sys2Proof.Machine.runRef10mLoss s
  | .ref10mReturn => Sys2Proof.Machine.runRef10mReturn s
  | .ppsOut => Sys2Proof.Machine.runPpsOut s
  | .timeEventFire k => Sys2Proof.Machine.runTimeEventFire k s
  | .captureEdge k falling sub => Sys2Proof.Machine.runCaptureEdge k falling sub s
  | .idleTimer => Sys2Proof.Machine.runIdleTimer s
  | .dozeTimer => Sys2Proof.Machine.runDozeTimer s
  | .sleepTimer => Sys2Proof.Machine.runSleepTimer s
  | .enterIdle => Sys2Proof.Machine.runEnterIdle s
  | .enterDoze cut => Sys2Proof.Machine.runEnterDoze cut s
  | .enterSleep cut => Sys2Proof.Machine.runEnterSleep cut s
  | .pcieWake => Sys2Proof.Machine.runPcieWake s
  | .wakePin => Sys2Proof.Machine.runWakePin s
  | .wakeAlarm => Sys2Proof.Machine.runWakeAlarm s
  | .wakeFromSleep f => Sys2Proof.Machine.runWakeFromSleep f s
  | .wakeFromDoze f => Sys2Proof.Machine.runWakeFromDoze f s
  | .eventRaise => Sys2Proof.Machine.runEventRaise s
  | .frameGoSend => Sys2Proof.Machine.runFrameGoSend s
  | .blockSetSend p part => Sys2Proof.Machine.runBlockSetSend p part s
  | .hostReadTimeout slot => Sys2Proof.Machine.runHostReadTimeout slot s
  | .wordChannelFrameLock k => Sys2Proof.Machine.runWordChannelFrameLock k s
  | .wordChannelLockLoss k => Sys2Proof.Machine.runWordChannelLockLoss k s
  | .thermalRestart => Sys2Proof.Machine.runThermalRestart s
  | .uartRecoveryImage bytes => Sys2Proof.Machine.runUartRecoveryImage bytes s

end Sys2Proof.Machine
end

