-- ==== Sys2Proof/Machine/Step.lean ====
section
/-!
DEFINITION. One step: the command at the front of the queue is taken and performed; with an empty queue one course clock of
the array passes (log entry 2).
-/

namespace Sys2Proof.Machine

/-- The command at the front of the queue acts on the state with the queue's rest. With no command waiting, one clock of the
module passes: what the manual ties to a course clock alone happens (chapters 1 to 5). -/
def step (s : State) : Host.Outcome State Fault Refusal :=
  match s.pending with
  | [] => .next { s with hw := s.hw.idle }
  | c :: rest => exec c { s with pending := rest }

/-- The state with the command that the word spells at the front of its queue. The opcode table gives no row any bits, so no
word spells a command. -/
def State.withFetchWord (s : State) (nbits w : Nat) : State :=
  match decodeTableWord nbits w with
  | some c => { s with pending := c :: s.pending }
  | none => s

end Sys2Proof.Machine
end

