-- ==== Sys2Proof/Safety.lean ====
section
/-!
DEFINITION. The terms in which claims about the module are stated: what a command does, which parts of the state it may
change, a mailbox slot that holds a command, the answer in a slot, and states in which no command stops.
-/

namespace Sys2Proof.Machine

/-- Command `i` completes on `s`: `exec` answers a next state, with the queue as it was, and `P` holds of the rest of it. -/
def Does (i : Instr) (s : State) (P : Hw → Prop) : Prop :=
  ∃ t, exec i s = .next t ∧ t.pending = s.pending ∧ P t.hw

/-! ## Frames: `g` is the state after, `h` the state before -/

/-- Only registers have changed, and of them only the words `as`. -/
def OnlyRegs (as : List Nat) (h g : Hw) : Prop :=
  g = { h with regs := g.regs } ∧ ∀ a, a ∉ as → g.reg a = h.reg a

/-- Hardware has set bit n of the word at a in this course clock, so that a write in the same clock leaves it set (R7). -/
abbrev SetNow (h : Hw) (a n : Nat) : Prop := OpTag.w1c a n ∈ h.done

/-- Event `id` has been raised last, with `detail`. In SLEEP and WAKE_FAILED the event path is off with the HUB, and nothing enters it
(Table 1.5, R409). -/
def Raised (id : Nat) (detail : Word32) (h g : Hw) : Prop :=
  ∃ p, g.fault.path = if h.pstate < 3 then h.fault.path ++ [⟨id, detail, h.seq.frame, p, h.seq.ticks⟩] else h.fault.path

/-- Event `id` is on the event path, unless the path is off with the HUB. -/
def OnPath (id : Nat) (h g : Hw) : Prop := h.pstate < 3 → ∃ e ∈ g.fault.path, e.id = id

/-! ## Starts of the module: `g` is the state after, `h` the state before -/

/-- What the flashes and the fuses hold is as it was, and what a start ends is gone (R474, R477, R480, R483 to R486). -/
def FirmwareCold (h g : Hw) : Prop :=
  g.fw.fuses = h.fw.fuses ∧ g.fw.key = h.fw.key ∧ g.fw.failures = h.fw.failures ∧ g.fw.lockLen = h.fw.lockLen ∧
    g.fw.layout = h.fw.layout ∧ g.fw.session = none ∧ g.fw.nonce = none ∧ g.fw.transfer = none ∧ g.fw.pending = none ∧
    g.fw.verified = false

/-- The word at a tells of a snapshot slot whose capture a reset has ended, before or now (R381). -/
def LostSlot (h : Hw) (a : Nat) : Prop :=
  h.lostSlot a = true ∨ ∃ c, h.snap.capture = some c ∧ a = snapSlotA c.slot 0

/-- Registers after a start: those of the AON domain aside, each is at its reset value, but for a slot whose capture a reset has ended:
STATE reads failed and the rest of its word 0 (R10, R381). -/
def RegsCold (h g : Hw) : Prop :=
  ∀ a, aonReg a = false → (LostSlot h a → g.reg a = 12) ∧ (¬ LostSlot h a → g.reg a = regReset h.stepping a)

/-- A firmware bank holds what it held, and the flash has kept it unless `ok` is false (R483). -/
def BankKept (ok : Bool) (a b : FwBank) : Prop :=
  b.sectors = a.sectors ∧ b.boots = a.boots ∧ b.decayed = (a.decayed || !ok)

/-- The module has made a cold start with cause `last`: beside the part's own properties, the AON domain and the firmware
store, everything is as the declarations of `Hw` give it, and the registers are those of a start. `aon` is the
AON counter and the part of its period that has passed, `pads` what the latched pins hold. -/
def ColdStarted (last dev : Nat) (aon : Nat × Nat) (perst : Bool) (pads : Store (Option Bool)) (h g : Hw) : Prop :=
  g = { ({} : Hw) with
      stepping := h.stepping, devIndex := dev, serial := h.serial, free := h.free, regs := g.regs, fw := g.fw, out := g.out
      time := { aon := aon.1, aonFrac := aon.2 }, host := { perst := perst, linkUp := !perst }
      power := { powered := true, pads := pads, alertPin := g.fw.stuck } } ∧
    g.fget (powerA 0x20) 18 17 = last ∧ RegsCold h g ∧ FirmwareCold h g

/-- The module is without power, or in thermal shutdown when `hot`: nothing is left but what a cold start leaves. -/
def Darkened (hot : Bool) (h g : Hw) : Prop :=
  g = { ({} : Hw) with
      stepping := h.stepping, devIndex := h.devIndex, serial := h.serial, free := h.free, regs := g.regs, fw := g.fw, out := g.out
      time := if hot then { aon := h.time.aon, aonFrac := h.time.aonFrac } else {}, host := { perst := h.host.perst }
      power := { powered := hot, pads := if hot then h.power.pads else [], hot := hot || h.power.hot, asked := !hot && h.power.asked, alertPin := hot } } ∧
    RegsCold h g ∧ (hot = false → ∀ a, aonReg a = true → g.reg a = regReset h.stepping a) ∧ FirmwareCold h g

/-- No far-memory request of the design waits, so that a ridge access to far memory has none to let pass first (R187). -/
abbrev FarIdle (h : Hw) : Prop := ∀ kv ∈ h.qpairs, kv.2.reqs = []

/-- The scrubber of die d has done the slot at cursor c: the cursor moves on, and a sweep that ends with it is counted (R280,
R288). -/
def ScrubbedOne (d c : Nat) (h g : Hw) : Prop :=
  g.reg (scrubA d 4) = BitVec.ofNat 32 ((c + 1) % 2 ^ 20) ∧
    g.fget (scrubA d 8) 31 0 = if c + 1 = 2 ^ 20 then min (2 ^ 32 - 1) (h.fget (scrubA d 8) 31 0 + 1) else h.fget (scrubA d 8) 31 0

/-! ## Eave ports -/

/-- Port state b is port state a with messages added to those that wait to be sent or acknowledged (R242). -/
def Queued (a b : EavePort) : Prop :=
  b = { a with unacked := b.unacked, mseqTx := b.mseqTx } ∧ a.unacked <+: b.unacked

/-! ## Mailbox slots -/

/-- Slot `k` of a module in RUN holds a running command of its own, with a code and its argument bytes, and neither a command of
its class nor membership in a configuration holds it back (R438, R453, R455). -/
def SlotBegins (h : Hw) (k code : Nat) (args : List Byte) : Prop :=
  k < 8 ∧ h.mpTakes = true ∧ h.pstate = 0 ∧ h.isMember = false ∧ h.slotState k = 2 ∧ h.slotField k 0 2 = code ∧
    h.slotField k 4 1 = h.devIndex ∧ h.slotArgs k = args ∧
    h.host.waits.any (fun w => w.src == .slot k) = false ∧ h.classBusy (.slot k) code = false

/-- The same for a command without descriptors. -/
def SlotRuns (h : Hw) (k code : Nat) (args : List Byte) : Prop :=
  SlotBegins h k code args ∧ h.slotField k 0x18 2 = 0

/-- Slot `k` is DONE with a status and a reply, the rest of its PAYLOAD zero, and SEQ one more (R439). -/
def SlotDone (h g : Hw) (k status : Nat) (reply : List Byte) : Prop :=
  g.slotState k = 5 ∧ (g.slotByte k 8).toNat = status ∧ (g.slotByte k 10).toNat = reply.length ∧
    (∀ i, i < 224 → g.slotByte k (0x20 + i) = reply.getD i 0) ∧
    g.slotField k 0xC 4 = (h.slotField k 0xC 4 + 1) % 2 ^ 32

/-- Nothing has changed but mailbox slot `k`, the waiting commands, and the interrupt that the completion may signal. -/
def OnlySlot (k : Nat) (h g : Hw) : Prop :=
  g = { h with host := { h.host with slots := g.host.slots, waits := g.host.waits, pba := g.host.pba }, out := g.out } ∧
    (∀ j o, j ≠ k → o < 256 → g.slotByte j o = h.slotByte j o) ∧
    g.host.waits = h.host.waits.filter fun w => w.src != .slot k

/-- Words of a reply, from byte `off` on, are what the registers `as` show. -/
def ReplyWords (off : Nat) (as : List Nat) (h : Hw) (reply : List Byte) : Prop :=
  ∀ i, i < as.length → arg reply (off + 4 * i) 4 = (h.view (as.getD i 0)).toNat

/-- Command `i` completes on `s`, and slot `k` is DONE with a status and a reply: `P` holds of the state that the command's own
effect leaves and of the reply, and the completion changes nothing but the slot. -/
def Answers (i : Instr) (s : State) (k status : Nat) (P : Hw → List Byte → Prop) : Prop :=
  Does i s fun g => ∃ mid reply, P mid reply ∧ SlotDone mid g k status reply ∧ OnlySlot k mid g

/-! ## States in which no command stops -/

/-- Every command that waits is one that can be sent. -/
def State.sendable (s : State) : Bool := s.pending.all Instr.wellFormed

/-- The commands `cs` performed in turn. -/
def performAll : List Instr → State → Host.Outcome State Fault Refusal
  | [], s => .next s
  | c :: cs, s =>
    match exec c s with
    | .next t => performAll cs t
    | .fault r => .fault r
    | .refused r => .refused r

end Sys2Proof.Machine
end

