-- ==== Sys2Proof/Certificates/Slice0/Obligations.lean ====
section
/-!
DEFINITION. The statements about the model that are to be proved, one definition for each.
-/

open Sys2Proof Sys2Proof.Machine

/-- For every command and state, a step with that command at the front of the queue is `exec` of the command on the state with
the queue's rest. With an empty queue a step answers a next state whose queue is still empty and in which one clock of the
module has passed (the model's choice, log entry 2). -/
def Obligations.StepPerformsFront : Prop :=
  (∀ (c : Instr) (rest : List Instr) (h : Hw), step ⟨c :: rest, h⟩ = exec c ⟨rest, h⟩) ∧
    ∀ h : Hw, step ⟨[], h⟩ = .next ⟨[], h.idle⟩

/-- Invariant: every waiting command names parts that the module has. From every state that meets it, a step answers a next
state (never a fault, never a refusal), that state meets it again, and its queue is the rest of the queue: no command of the
opcode table ever stops the module, and none is lost or added. That a command which names no existing part stops is the
model's choice (log entry 9). -/
def Obligations.SendableQueueNeverStops : Prop :=
  ∀ s : State, s.sendable = true → ∃ t, step s = .next t ∧ t.sendable = true ∧ t.pending = s.pending.tail

/-- For every command and state: if the command names parts that exist, `exec` answers a next state with the queue as it was; if
not, it stops with the fault noSuchPart (the model's choice, log entry 9). No command is refused.
For every list of commands that can be sent and every state of the module, as many steps as there are commands bring the
machine to an empty queue, and to the state that performing the commands one after another in that order gives. -/
def Obligations.StopsAndDrains : Prop :=
  (∀ (i : Instr) (s : State),
     (i.wellFormed = true → ∃ t, exec i s = .next t ∧ t.pending = s.pending) ∧
       (i.wellFormed = false → exec i s = .fault .noSuchPart)) ∧
  (∀ (cs : List Instr) (h : Hw), cs.all Instr.wellFormed = true →
     ∃ t : State, Sys2Proof.core.run cs.length ⟨cs, h⟩ = .next t ∧ t.pending = [] ∧ performAll cs ⟨[], h⟩ = .next t)

/-- POWER_ON, with straps that read 0 and both firmware banks intact, takes a module without power, every field at its default,
to the state after reset (R10, R451; straps and firmware are the model's choices, log entries 10 and 13).
The state after reset has an empty queue, so that every waiting command can be sent.
After reset: HUB.RIDGE_TIMEOUT is 20, TRUSSCFG.ECC_CTRL, BANK.ECC_CTRL and FAR.CTRL enable their write-backs, BRIDGE.LAT and
BANK.LAT hold the native latencies of stepping A1, SEQ.WAIT_LIMIT is 1,000,000, VEC_DEV is all ones and PLAN_CFG.HORIZON is 8,
FAULT.IRQ is 0x41, MBX_CFG is 0x40, SCR_TEST is 0x6407D1, the run state is EMPTY, PERST# is asserted, READY is 0, and every
mailbox slot is EMPTY. The stepping is the model's choice (log entry 12). -/
def Obligations.ResetState : Prop :=
  (exec (.powerOn 0 3) ⟨[], {}⟩ = .next State.reset) ∧
  (State.reset.sendable = true ∧ State.reset.pending = []) ∧
  (let h := State.reset.hw
   h.reg 0x40 = 20 ∧ h.reg (trussA 0 0) = 1 ∧ h.reg (trussA 1 0) = 1 ∧ h.reg (bankA 0 0x104) = 1 ∧
     h.reg (bridgeA 0 0) = 0x909 ∧ h.reg (bankA 1 0x100) = 0x100C100C ∧ h.reg (seqA 0 0x30) = 1000000 ∧
     h.view (seqA 0 0x1C) = 0xFFFFFFFF ∧ h.view (seqA 1 0x20) = 0xFFFFFFFF ∧ fld (h.view (seqA 0 0x14)) 25 16 = 8 ∧
     h.reg (faultA 0x604) = 0x41 ∧ h.reg (hostifA 0x1C) = 0x40 ∧ h.reg (hostifA 0x140) = 0x6407D1 ∧
     h.seq.run = .empty ∧ h.host.perst = true ∧ h.host.ready = false ∧ ∀ k, k < 8 → h.slotState k = 0)

/-- Each of the four commands, under the condition its rule gives, takes the module
to a cold start: LAST_RESET reads the cause (R21, R428, R451, R500), every register but those of the AON domain is at its reset
value (R10) except that the slot of a capture that a reset has ended reads failed (R381), the firmware store and the fuses are kept,
a latched pin holds its level over the two that leave the AON domain (R397), and everything else of the module is as a cold start
leaves it. POWER_ON reads the straps (R491) and, like BROWN_OUT, restarts the AON domain; what the straps are by a brown-out is a free
value (log entry 64). The other two leave the domain. What memories hold after a cold start is the model's choice (log entry 14).
A cold start by PERST# while a snapshot capture is in progress leaves STATE of the capture's slot failed (3), the other
fields of that word zero, and no capture in progress; and it stays so over a loss of the input (R381, R428). -/
def Obligations.ColdStarts : Prop :=
  (∀ s : State,
     (∀ straps intact, s.hw.power.hot = false → Does (.powerOn straps intact) s fun g =>
       ColdStarted 0 straps.toNat (0, 0) s.hw.host.perst [] s.hw g ∧
         BankKept (bit intact 0) s.hw.fw.bankA g.fw.bankA ∧ BankKept (bit intact 1) s.hw.fw.bankB g.fw.bankB) ∧
     (s.hw.power.powered = true → s.hw.power.hot = false → Does .perstAssert s fun g =>
       ColdStarted 1 s.hw.devIndex (s.hw.time.aon, s.hw.time.aonFrac) true s.hw.power.pads s.hw g ∧
         BankKept true s.hw.fw.bankA g.fw.bankA ∧ BankKept true s.hw.fw.bankB g.fw.bankB) ∧
     (s.hw.lowPowerRail = true → Does .brownOut s fun g => ∃ dev, dev < 64 ∧
       ColdStarted 2 dev (0, 0) s.hw.host.perst [] s.hw.takeFree.2 g ∧
         BankKept true s.hw.fw.bankA g.fw.bankA ∧ BankKept true s.hw.fw.bankB g.fw.bankB) ∧
     (s.hw.power.powered = true → s.hw.power.hot = true → s.hw.power.asked = true → Does .thermalRestart s fun g =>
       ColdStarted 3 s.hw.devIndex (s.hw.time.aon, s.hw.time.aonFrac) s.hw.host.perst s.hw.power.pads s.hw g ∧
         BankKept true s.hw.fw.bankA g.fw.bankA ∧ BankKept true s.hw.fw.bankB g.fw.bankB)) ∧
  (∀ (s : State) (c : Capture), s.hw.snap.capture = some c → c.slot < 16 → s.hw.power.powered = true →
     s.hw.power.hot = false → Does .perstAssert s fun g =>
       g.snap.capture = none ∧ g.reg (snapSlotA c.slot 0) = 12 ∧ g.fget (powerA 0x20) 18 17 = 1 ∧
         Does .inputUndervoltage ⟨s.pending, g⟩ fun k => k.reg (snapSlotA c.slot 0) = 12)

/-- INPUT_UNDERVOLTAGE and INPUT_OVERVOLTAGE leave the module without power: the AON domain is lost too, and without the standby
supply no sideband line is driven (R490). THERMAL_SHUTDOWN switches every domain off but AON, whose counter and registers stay, with
what the latched pins hold, asserts ALERT#, and waits for a cold start (R488, R493, R500). In all three the firmware store and the
fuses are kept, the slot of a capture that is lost reads failed (R381), and nothing else is kept.
While a thermal shutdown lasts, PERST# and the return of the input ask for the cold start and change nothing else: the
module stays in thermal shutdown until its junctions have cooled, and THERMAL_RESTART changes nothing before either has asked
(R500). ALERT# is asserted when the input has come back (R493). -/
def Obligations.PowerLossAndShutdown : Prop :=
  (∀ s : State,
     Does .inputUndervoltage s (Darkened false s.hw) ∧ Does .inputOvervoltage s (Darkened false s.hw) ∧
     (s.hw.power.powered = true → Does .thermalShutdown s (Darkened true s.hw))) ∧
  (∀ s : State, s.hw.power.powered = true → s.hw.power.hot = true →
     (Does .perstAssert s fun g => g = { s.hw with
       host := { s.hw.host with perst := true, linkUp := false }, power := { s.hw.power with asked := true } }) ∧
     (∀ straps intact, Does (.powerOn straps intact) s fun g => g.power.powered = true ∧ g.power.hot = true ∧
       g.power.asked = true ∧ g.power.alertPin = true ∧ g.regs = s.hw.regs ∧ g.seq = s.hw.seq) ∧
     (s.hw.power.asked = false → exec .thermalRestart s = .next s))

/-- PERST_RELEASE on a module with power brings the link up and changes nothing else but WAKE#, which it deasserts (R401, R431,
R451). A hot reset takes the link down and clears Bus Master Enable, the BAR assignments and the MSI-X table; the array, the
configuration, the mailbox slots and every command in progress are as they were (R429). BUS_MASTER_ENABLE on a trained link sets the bit; with nothing
pending it changes nothing else.
On a trained link, BUS_MASTER_ENABLE sends, for every vector below 64 whose pending bit is set and whose table entry is not
masked, its MSI-X message, and clears that bit; a masked vector stays pending (R429).
A configuration request finds a trained link, and brings it up where a reset has taken it down (R429). While the firmware is not
ready it is answered with Configuration Request Retry Status and changes nothing more. Afterwards a read of offset 0 or 0x2C gives
the vendor and device IDs, a read of offset 8 the class and the identity code of the stepping; a base address register takes the
bits that its size leaves to the host and reads them back with its type bits, and a write of offset 4 sets or clears Bus Master
Enable (R426, R427, R429, R431). The places of the type bits and of Bus Master Enable are those of PCI Express (log entry 64). -/
def Obligations.EndpointCommands : Prop :=
  (∀ s : State,
     (s.hw.power.powered = true → s.hw.power.hot = false → Does .perstRelease s fun g =>
       g = { s.hw with
         host := { s.hw.host with perst := false, linkUp := true }, power := { s.hw.power with wakePin := false }, out := g.out }) ∧
     (Does .hotReset s fun g => g = { s.hw with
       bme := false, host := { s.hw.host with bars := [], msixTable := [], linkUp := false, aspmL1 := false } }) ∧
     (s.hw.host.linkUp = true → s.hw.host.pba = 0 → Does .busMasterEnable s fun g => g = { s.hw with bme := true })) ∧
  (∀ (s : State) (v : Nat), v < 64 → s.hw.host.linkUp = true → Does .busMasterEnable s fun g =>
     g.bme = true ∧ g.host.msixTable = s.hw.host.msixTable ∧
       bit g.host.pba v = (bit s.hw.host.pba v && bit (s.hw.msixWord (4 * v + 3)) 0) ∧
       (bit s.hw.host.pba v = true → bit (s.hw.msixWord (4 * v + 3)) 0 = false → Out.msix v ∈ g.out)) ∧
  (∀ s : State, s.hw.power.powered = true → s.hw.power.hot = false → s.hw.host.perst = false → s.hw.power.wakePin = false →
     let on := { s.hw with host := { s.hw.host with linkUp := true } }
     let reads := fun off v => Does (.configRequest off none) s fun g => g = on.emit (.configReply false v)
     (s.hw.host.ready = false → ∀ off wr, off < 4096 → off % 4 = 0 →
       Does (.configRequest off wr) s fun g => g = on.emit (.configReply true 0)) ∧
     (s.hw.host.ready = true →
       reads 0 0x64001F6D ∧ reads 0x2C 0x64001F6D ∧
       reads 8 (match s.hw.stepping with | .a1 => 0x12000011 | .b0 => 0x12000020) ∧
       (∀ off, off ∈ [0x10, 0x14, 0x18, 0x1C, 0x20, 0x24] → reads off (s.hw.cfgBits off).2) ∧
       (Does (.configRequest 4 (some 0)) s fun g => g = ({ on with bme := false } : Hw).emit (.configReply false 0)) ∧
       (Does (.configRequest 4 (some 4)) s fun g => g.bme = true) ∧
       ∀ off v, off ∈ [0x10, 0x14, 0x18, 0x1C] → Does (.configRequest off (some v)) s fun g =>
         (g.cfgBits off).2 = (v &&& (barBits off).1) ||| (barBits off).2 ∧
           (∀ o, o ≠ off → g.cfgBits o = s.hw.cfgBits o) ∧
           g = { on with host := { on.host with bars := g.host.bars }, out := s.hw.out ++ [.configReply false 0] }))

/-- FIRMWARE_READY on a module in RUN, IDLE or DOZE whose firmware boots and is not yet ready: READY is 1, BOOT.MS holds the measured time and
DELAY_CAL the measured tap, the frame number, the run state and the array stay as they were, and when LAST_RESET names a brown-out
or a thermal shutdown its event is raised by the first FIRMWARE_READY after it (R21, R365, R417, R431, R451, R497, R500). A restart of
the MP alone raises neither after that. -/
def Obligations.FirmwareReady : Prop :=
  ∀ (s : State) (bootMs tap : BitVec 16), s.hw.power.powered = true → s.hw.power.hot = false → s.hw.host.ready = false →
    s.hw.fw.stuck = false → s.hw.pstate < 3 → Does (.firmwareReady bootMs tap) s fun g =>
      g.host.ready = true ∧ g.host.bootMs = bootMs.toNat ∧ g.host.mpRestart = false ∧
        g.fget (userioA 0x100) 15 0 = tap.toNat ∧ g.seq = s.hw.seq ∧ g.trusses = s.hw.trusses ∧ g.host.slots = s.hw.host.slots ∧
        (s.hw.host.booted = false → s.hw.fget (powerA 0x20) 18 17 = 2 →
          ∃ e ∈ g.fault.path, e.id = evBrownOutReset) ∧
        (s.hw.host.booted = false → s.hw.fget (powerA 0x20) 18 17 = 3 →
          ∃ e ∈ g.fault.path, e.id = evThermalReset) ∧
        (s.hw.host.booted = true → g.fault.path = s.hw.fault.path)

/-- REGISTER_WRITE of a word of the internal map while the hub is on (R6 to R9), shown on one word of every access code and on
whole arrays of them: GRP_STAT_g is W1C in [15:0], where a bit that hardware sets in the same clock remains set, GRP_MASK_g is RW
in [15:0], HUB.RIDGE_TIMEOUT is RW in [15:0], and, while the array dies are on, SEQ.WAIT_LIMIT is RW in [31:0], SEQ.FRAME_LEN is
RWF in [23:0] (the value in force stays, and a read returns the value last written), and a write of SEQ.RUN_STAT, which is RO,
changes nothing. Reserved bits keep their value, and no other register and no other state changes. In DOZE a write of a word of
an array die changes nothing (R25). -/
def Obligations.RegisterWriteAccess : Prop :=
  ∀ (s : State) (v : Word32), s.hw.hubOn = true →
    (∀ g, g < 72 → Does (.registerWrite (.internal (grpStatA g)) v) s fun t =>
      (∀ n, n < 32 → (bit (t.reg (grpStatA g)) n = true ↔
        bit (s.hw.reg (grpStatA g)) n = true ∧ ¬ (n < 16 ∧ bit v n = true ∧ ¬ SetNow s.hw (grpStatA g) n))) ∧
        OnlyRegs [grpStatA g] s.hw t) ∧
    (∀ g, g < 72 → Does (.registerWrite (.internal (faultA (0x200 + 4 * g))) v) s fun t =>
      t.reg (faultA (0x200 + 4 * g)) = (s.hw.reg (faultA (0x200 + 4 * g)) &&& 0xFFFF0000#32) ||| (v &&& 0xFFFF#32) ∧
        OnlyRegs [faultA (0x200 + 4 * g)] s.hw t) ∧
    (Does (.registerWrite (.internal 0x40) v) s fun t =>
      t.reg 0x40 = (s.hw.reg 0x40 &&& 0xFFFF0000#32) ||| (v &&& 0xFFFF#32) ∧ OnlyRegs [0x40] s.hw t) ∧
    (∀ d a, d < 2 → a ∈ [seqA d 0x30, seqA d 0x10, seqA d 4] → 2 ≤ s.hw.pstate →
      exec (.registerWrite (.internal a) v) s = .next s) ∧
    (∀ d, d < 2 → s.hw.pstate < 2 → Does (.registerWrite (.internal (seqA d 0x30)) v) s fun t =>
      t.reg (seqA d 0x30) = v ∧ OnlyRegs [seqA d 0x30] s.hw t) ∧
    (∀ d, d < 2 → s.hw.pstate < 2 → Does (.registerWrite (.internal (seqA d 0x10)) v) s fun t =>
      t.view (seqA d 0x10) = (s.hw.reg (seqA d 0x10) &&& 0xFF000000#32) ||| (v &&& 0xFFFFFF#32) ∧
        t = { s.hw with regs := t.regs, rwf := t.rwf } ∧ ∀ a, t.reg a = s.hw.reg a) ∧
    (∀ d, d < 2 → s.hw.pstate < 2 → Does (.registerWrite (.internal (seqA d 4)) v) s fun t => OnlyRegs [] s.hw t)

/-- The eight CLEAR_COUNTS commands (R68, R175, R194, R288, R313, R336, R358, R370), for every value written with the bit: every
counter of the block reads 0, the control word takes the other fields of the value, and no other register and no other state
changes; SCRUB's write also clears SWEEPS. The four blocks of the array dies take no write while the dies are closed (R25). TIME's
write moves the 10 MHz status with its enable and, where it changes which domains are tracked or leaves no source, does what R294
and R299 give for them as well; TRACE's write is shown with the unit off and not turned on. -/
def Obligations.ClearCounts : Prop :=
  ∀ (s : State) (v : Word32),
    (∀ d, d < 2 → bit v 2 = true → s.hw.diesShut = false → Does (.trusscfgClearCounts d v) s fun g =>
      g.reg (trussA d 4) = 0 ∧ g.reg (trussA d 8) = 0 ∧
        g.reg (trussA d 0) = (s.hw.reg (trussA d 0) &&& ~~~ 3#32) ||| (v &&& 3#32) ∧
        OnlyRegs [trussA d 0, trussA d 4, trussA d 8] s.hw g) ∧
    (∀ d, d < 2 → bit v 3 = true → s.hw.diesShut = false → Does (.bankClearCounts d v) s fun g =>
      g.reg (bankA d 0x108) = 0 ∧ g.reg (bankA d 0x10C) = 0 ∧ g.reg (bankA d 0x110) = 0 ∧
        g.reg (bankA d 0x104) = (s.hw.reg (bankA d 0x104) &&& ~~~ 7#32) ||| (v &&& 7#32) ∧
        OnlyRegs [bankA d 0x104, bankA d 0x108, bankA d 0x10C, bankA d 0x110] s.hw g) ∧
    (∀ d, d < 2 → bit v 3 = true → s.hw.diesShut = false → Does (.farClearCounts d v) s fun g =>
      (∀ n, n < 8 → g.reg (farA d (0x10 + 4 * n)) = 0) ∧
        g.reg (farA d 0xC) = (s.hw.reg (farA d 0xC) &&& ~~~ 7#32) ||| (v &&& 7#32) ∧
        OnlyRegs (farA d 0xC :: (List.range 8).map fun n => farA d (0x10 + 4 * n)) s.hw g) ∧
    (∀ d, d < 2 → bit v 4 = true → s.hw.diesShut = false → Does (.scrubClearCounts d v) s fun g =>
      g.reg (scrubA d 8) = 0 ∧ (∀ n, n < 4 → g.reg (scrubA d (0x10 + 4 * n)) = 0) ∧
        g.reg (scrubA d 0) = (s.hw.reg (scrubA d 0) &&& ~~~ 0xF#32) ||| (v &&& 0xF#32) ∧
        OnlyRegs (scrubA d 0 :: scrubA d 8 :: (List.range 4).map fun n => scrubA d (0x10 + 4 * n)) s.hw g) ∧
    (∀ d, d < 2 → s.hw.diesShut = true →
      ∀ i ∈ [Instr.trusscfgClearCounts d v, .bankClearCounts d v, .farClearCounts d v, .scrubClearCounts d v],
        exec i s = .next s) ∧
    (bit v 9 = true → Does (.callsClearCounts v) s fun g =>
      (∀ n, n < 8 → g.reg (callsA (0x10 + 4 * n)) = 0) ∧
        g.reg (callsA 0) = (s.hw.reg (callsA 0) &&& ~~~ 0x1FF#32) ||| (v &&& 0x1FF#32) ∧
        OnlyRegs (callsA 0 :: (List.range 8).map fun n => callsA (0x10 + 4 * n)) s.hw g) ∧
    (bit v 1 = true → Does (.probeClearCounts v) s fun g =>
      (∀ n, n < 4 → g.reg (probeA (0x40 + 4 * n)) = 0) ∧ g.reg (probeA 0) = v &&& 1#32 ∧
        OnlyRegs (probeA 0 :: (List.range 4).map fun n => probeA (0x40 + 4 * n)) s.hw g) ∧
    (bit v 23 = true → Does (.timeClearCounts v) s fun g =>
      (∀ n, n < 6 → g.reg (timeA (0x30 + 4 * n)) = 0) ∧ g.reg (timeA 0x14) = v &&& 0x007FFFFF#32 ∧
        (fld v 21 5 = s.hw.fget (timeA 0x14) 21 5 →
          (if bit v 0 then s.hw.bget (timeA 0x10) 9 else s.hw.tValid s.hw.tDomain) = true → OnlyRegs (timeA 0x10 :: timeA 0x14 :: (List.range 6).map fun n => timeA (0x30 + 4 * n)) s.hw g)) ∧
    (bit v 7 = true → bit v 6 = false → bit v 0 = false → s.hw.bget (traceA 0) 0 = false →
      Does (.traceClearCounts v) s fun g =>
        (∀ n, n < 7 → g.reg (traceA (0x20 + 4 * n)) = 0) ∧ g.reg (traceA 0) = (v &&& 0x3F#32) ||| 0x20#32 ∧
          OnlyRegs (traceA 0 :: (List.range 7).map fun n => traceA (0x20 + 4 * n)) s.hw g)

/-- R326. DISP_HEAD_WRITE of worker w with value x (its low 13 bits): when x lies from DISP_HEAD forward to DISP_TAIL modulo 8,192,
DISP_HEAD becomes x. COMP_TAIL_WRITE: when x lies from COMP_TAIL forward to COMP_HEAD plus the ring's size modulo 8,192, COMP_TAIL
becomes x. Any other write of either leaves every register as it was and raises CALL_RING_FAULT, with no frame poisoned. Nothing
else changes: no call, no queue, no other index, save that a member asks its head for the records that its new index takes in
(R327). The same holds of a write of the internal map, and of one through BAR0, which is a doorbell first (R390, R393). -/
def Obligations.RingIndexWrites : Prop :=
  ∀ (s : State) (w : Nat) (v : Word32), w < 32 →
    let a := callsA (0x1000 + 64 * w)
    let x := fld v 12 0
    let headIn := fun h : Hw => (x + 8192 - h.fget (a + 0x1C) 12 0) % 8192 ≤
      (h.fget (a + 0x18) 12 0 + 8192 - h.fget (a + 0x1C) 12 0) % 8192
    let tailIn := fun h : Hw => (x + 8192 - h.fget (a + 0x20) 12 0) % 8192 ≤
      (h.fget (a + 0x24) 12 0 + ringSize (h.fget a 15 12) + 8192 - h.fget (a + 0x20) 12 0) % 8192
    let refused := fun h g : Hw =>
      Raised evCallRingFault 0 h g ∧ g = { h with fault := { h.fault with path := g.fault.path } } ∧
        ∀ e ∈ g.fault.path.drop h.fault.path.length, e.poison = false
    let ways := fun (cmd : Instr) (o off : Nat) => [(cmd, s.hw)] ++
      (if s.hw.hubOn then [(.registerWrite (.internal (a + o)) v, s.hw)] else []) ++
      (if s.hw.hubOn && s.hw.host.linkUp then [(.registerWrite (.bar0 off) v, s.hw.doorbell)] else [])
    (∀ i ∈ ways (.dispHeadWrite w v) 0x1C (0x200 + 8 * w), Does i.1 s fun g =>
      (headIn i.2 → g.fget (a + 0x1C) 12 0 = x ∧ OnlyRegs [a + 0x1C] i.2 g) ∧ (¬ headIn i.2 → refused i.2 g)) ∧
    (∀ i ∈ ways (.compTailWrite w v) 0x20 (0x204 + 8 * w), Does i.1 s fun g =>
      (tailIn i.2 → g.fget (a + 0x20) 12 0 = x ∧ (∀ b, b ≠ a + 0x20 → g.reg b = i.2.reg b) ∧
        (s.hw.isMember = false → OnlyRegs [a + 0x20] i.2 g)) ∧
      (¬ tailIn i.2 → refused i.2 g))

/-- BANK_OWNER_WRITE and SCR_OWNER_WRITE of an owner other than TEST (R172, R447): NEXT takes the written owner, PENDING is 1
exactly when it differs from the owner in force, the owner in force and every other bit of the word stay, and nothing else
changes. A write of TEST outside a session, a write of pinned scratch banks 0 and 1, and a write of DESIGN or LOADER to a scratch
bank change nothing, and a write of a bank of a closed array die neither (R25). OWNER_HANDOVER of a bank whose hand-over is pending
and may take effect puts NEXT in force and clears PENDING.
While the configuration is RUNNING, HALTING or LEVEL_CHANGE, OWNER_HANDOVER, which is no tick of a frame, of a design memory bank
whose present or requested owner is DESIGN changes nothing, and in no state does it change anything while a write of the design to
the bank is in flight, or a read whose word has not been delivered (R172). -/
def Obligations.OwnerHandOver : Prop :=
  (∀ s : State,
     (∀ d j v, d < 2 → j < 64 → s.hw.diesShut = true → exec (.bankOwnerWrite d j v) s = .next s) ∧
     (∀ d j v, d < 2 → j < 64 → fld v 2 0 < 4 → s.hw.diesShut = false → Does (.bankOwnerWrite d j v) s fun g =>
       let a := bankA d (4 * j)
       g.fget a 2 0 = s.hw.fget a 2 0 ∧ g.fget a 6 4 = fld v 2 0 ∧ g.bget a 3 = decide (fld v 2 0 ≠ s.hw.fget a 2 0) ∧
         OnlyRegs [a] s.hw g) ∧
     (∀ d j v, d < 2 → j < 64 → fld v 2 0 = 4 → s.hw.fw.session = none →
       exec (.bankOwnerWrite d j v) s = .next s) ∧
     (∀ k v, 2 ≤ k → k < 16 → 2 ≤ fld v 2 0 → fld v 2 0 < 4 → Does (.scrOwnerWrite k v) s fun g =>
       g.fget (scrA k) 2 0 = s.hw.fget (scrA k) 2 0 ∧ g.fget (scrA k) 6 4 = fld v 2 0 ∧
         g.bget (scrA k) 3 = decide (fld v 2 0 ≠ s.hw.fget (scrA k) 2 0) ∧ OnlyRegs [scrA k] s.hw g) ∧
     (∀ k v, k < 16 → k < 2 ∨ fld v 2 0 < 2 → exec (.scrOwnerWrite k v) s = .next s) ∧
     (∀ ref, ref < 144 →
       let a := if ref < 128 then bankA (ref / 64) (4 * (ref % 64)) else scrA (ref - 128)
       s.hw.bget a 3 = true → (ref < 128 →
         (s.hw.busy = false ∨ (s.hw.fget a 2 0 ≠ 0 ∧ s.hw.fget a 6 4 ≠ 0)) ∧ (s.hw.fget a 2 0 = 1 → s.hw.img.bay = none) ∧
           (s.hw.fget a 2 0 = 0 → (s.hw.bank ref).rmw = [] ∧
             (s.hw.truss (trussIx (ref / 64) (homeTruss (ref % 64)))).reads.any (·.bank) = false)) → Does (.ownerHandover ref) s fun g =>
         g.fget a 2 0 = s.hw.fget a 6 4 ∧ g.bget a 3 = false ∧ OnlyRegs [a] s.hw g)) ∧
  (∀ (s : State) (ref : Nat), ref < 128 →
     let a := bankA (ref / 64) (4 * (ref % 64))
     (s.hw.busy = true → s.hw.fget a 2 0 = 0 ∨ s.hw.fget a 6 4 = 0 → exec (.ownerHandover ref) s = .next s) ∧
     (s.hw.fget a 2 0 = 0 → (s.hw.bank ref).rmw ≠ [] ∨
         (s.hw.truss (trussIx (ref / 64) (homeTruss (ref % 64)))).reads.any (·.bank) = true →
       exec (.ownerHandover ref) s = .next s))

/-- LOG_VALID_WRITE of an entry that is being handled, with VALID, clears the entry's VALID bit; the rest of the entry, every
other register, LOG_STAT.NEXT, and on a module that is no member everything else, stay (R419). Without VALID, of an entry that
is not being handled, or of one written in this same clock (R7), it changes nothing. POISON_STAT_WRITE with VALID clears VALID and
FRAMES; without it, or in the clock in which VALID is set, it changes nothing (R7, Table 16.6). -/
def Obligations.LogAcknowledge : Prop :=
  ∀ (s : State) (v : Word32),
    (∀ k, k < 32 → bit v 15 = true → s.hw.handled k = true → ¬ SetNow s.hw (logA k) 15 → s.hw.isMember = false →
      Does (.logValidWrite k v) s fun g =>
      g.handled k = false ∧ (∀ n, n < 32 → n ≠ 15 → bit (g.reg (logA k)) n = bit (s.hw.reg (logA k)) n) ∧
        OnlyRegs [logA k] s.hw g) ∧
    (∀ k, k < 32 → bit v 15 = false ∨ s.hw.handled k = false ∨ SetNow s.hw (logA k) 15 →
      exec (.logValidWrite k v) s = .next s) ∧
    (bit v 31 = true → ¬ SetNow s.hw (faultA 0x614) 31 → OpTag.cap (faultA 0x614) ∉ s.hw.done → Does (.poisonStatWrite v) s fun g => g.reg (faultA 0x614) = 0 ∧ OnlyRegs [faultA 0x614] s.hw g) ∧
    (bit v 31 = false ∨ SetNow s.hw (faultA 0x614) 31 → exec (.poisonStatWrite v) s = .next s)

/-- VSEL_WRITE of another supply while the configuration is not running sets VSEL and the pull field, clears READY and darkens
the bank's input register; while it runs, VSEL, READY and the inputs stay (R494). VCCO_READY of a bank whose VSEL is not OFF sets
READY, and of a bank that is OFF changes nothing. CLK_SRC_WRITE, with the HUB domain on, while frames run leaves SRC and remembers the change for the next halt, and otherwise puts it
in force at once; PORT moves at once in both, and LOCKED is 0 when SRC is LINK and the port that PORT names, 12 to 15 standing for 0,
is not ACTIVE (R18, R19). -/
def Obligations.SupplyAndClock : Prop :=
  ∀ (s : State) (v : Word32),
    (∀ b, b < 16 → s.hw.busy = false → fld v 1 0 ≠ s.hw.fget (userioA (4 * b)) 1 0 → Does (.vselWrite b v) s fun g =>
      g.fget (userioA (4 * b)) 1 0 = fld v 1 0 ∧ g.bget (userioA (4 * b)) 5 = false ∧ g.reg (userioA (0xC0 + 4 * b)) = 0 ∧
        OnlyRegs [userioA (4 * b), userioA (0xC0 + 4 * b)] s.hw g) ∧
    (∀ b, b < 16 → s.hw.busy = true → Does (.vselWrite b v) s fun g =>
      g.fget (userioA (4 * b)) 1 0 = s.hw.fget (userioA (4 * b)) 1 0 ∧
        g.bget (userioA (4 * b)) 5 = s.hw.bget (userioA (4 * b)) 5 ∧ g.fget (userioA (4 * b)) 4 2 = fld v 4 2 ∧
        OnlyRegs [userioA (4 * b)] s.hw g) ∧
    (∀ b, b < 16 → s.hw.fget (userioA (4 * b)) 1 0 ≠ 0 → Does (.vccoReady b) s fun g =>
      g.bget (userioA (4 * b)) 5 = true ∧ g.fget (userioA (4 * b)) 4 0 = s.hw.fget (userioA (4 * b)) 4 0 ∧
        OnlyRegs [userioA (4 * b)] s.hw g) ∧
    (∀ b, b < 16 → s.hw.fget (userioA (4 * b)) 1 0 = 0 → exec (.vccoReady b) s = .next s) ∧
    (s.hw.hubOn = false → exec (.clkSrcWrite v) s = .next s) ∧
    (s.hw.hubOn = true → s.hw.framesOn = false → Does (.clkSrcWrite v) s fun g =>
      g.fget 0x44 1 0 = fld v 1 0 ∧ g.fget 0x44 5 2 = fld v 5 2 ∧
        (fld v 1 0 = 2 → (s.hw.port (if fld v 5 2 < 12 then fld v 5 2 else 0)).state ≠ .active → g.bget 0x44 6 = false) ∧
        OnlyRegs [0x44] { s.hw with seq := { s.hw.seq with srcPending := none } } g) ∧
    (s.hw.hubOn = true → s.hw.framesOn = true → Does (.clkSrcWrite v) s fun g =>
      g.fget 0x44 1 0 = s.hw.fget 0x44 1 0 ∧ g.fget 0x44 5 2 = fld v 5 2 ∧ (∀ a, a ≠ 0x44 → g.reg a = s.hw.reg a) ∧
        g.seq.srcPending = (if fld v 1 0 = s.hw.fget 0x44 1 0 then none else some (fld v 1 0)) ∧
        g = { s.hw with regs := g.regs, seq := { s.hw.seq with srcPending := g.seq.srcPending } })

/-- Each of the five commands, running in a slot with the arguments its table gives, completes with OK and changes nothing but
its slot (Tables 18.2, 18.3, 18.11). Their replies hold: the identity word, device index, active bank, configuration ID and
serial number; BAR0.STATUS, the registers of run state, frame, time, faults, power and the known set; the state, lane, latency
and counter words of the port; IMG_STAT, the received blocks and the configuration ID; the active bank and the fuses.
Each of the five commands, running in a slot with the arguments its table gives, completes with OK, changes nothing but its
slot, and its reply holds, word by word, what the registers that its table names show (Tables 18.7, 18.8, 18.10). -/
def Obligations.StatusCommands : Prop :=
  (∀ (s : State) (k : Nat) (io : HostIo),
     (SlotRuns s.hw k 0x0101 [] → Answers (.identify (.slot k) io) s k stOk fun m r => m = s.hw ∧ r.length = 48 ∧
       arg r 0 4 = 0x640000F6 + 256 * identityCode s.hw.stepping ∧ arg r 4 1 = s.hw.devIndex % 256 ∧
       arg r 5 3 = s.hw.fw.active % 2 ^ 24 ∧ arg r 16 8 = s.hw.configId.toNat ∧ arg r 32 8 = s.hw.serial.toNat) ∧
     (SlotRuns s.hw k 0x0102 [] → Answers (.status (.slot k) io) s k stOk fun m r => m = s.hw ∧ r.length = 48 ∧
       arg r 0 4 = (s.hw.bar0Word 8).toNat ∧
       ReplyWords 4 [seqA 0 4, seqA 0 8, seqA 0 0xC, timeA 0x10, faultA 0x600, powerA 0, hostifA 0x88, hostifA 0x8C] s.hw r) ∧
     (∀ p, p < 12 → SlotRuns s.hw k 0x0103 [BitVec.ofNat 8 p] →
       Answers (.portStatus (.slot k) io) s k stOk fun m r => m = s.hw ∧ r.length = 64 ∧
         ReplyWords 0 ([4, 8, 0xC, 0x10, 0x100, 0x104].map (eaveA p) ++ (List.range 8).map (fun n => eaveA p (0x20 + 4 * n)) ++
           [eaveA p 0x14]) s.hw r) ∧
     (SlotRuns s.hw k 0x0204 [] → Answers (.imageStatus (.slot k) io) s k stOk fun m r => m = s.hw ∧ r.length = 24 ∧
       arg r 0 4 = s.hw.imgStat.toNat ∧ arg r 4 4 = s.hw.imgRecv % 2 ^ 32 ∧ arg r 8 8 = s.hw.configId.toNat) ∧
     (SlotRuns s.hw k 0x0B04 [] → Answers (.fwStatus (.slot k) io) s k stOk fun m r => m = s.hw ∧ r.length = 32 ∧
       arg r 0 4 = s.hw.fw.bankA.version % 2 ^ 32 ∧ arg r 4 4 = s.hw.fw.bankB.version % 2 ^ 32 ∧
       arg r 8 1 = s.hw.fw.active % 256 ∧ arg r 12 4 = s.hw.fw.fuses % 2 ^ 32)) ∧
  (∀ (s : State) (k : Nat) (io : HostIo),
     (SlotRuns s.hw k 0x0601 [] → Answers (.timeStatus (.slot k) io) s k stOk fun m r => m = s.hw ∧ r.length = 48 ∧
       ReplyWords 0 ([0, 4, 8, 0xC, 0x10, 0x1C, 0x20, 0x24, 0x58, 0x28].map timeA) s.hw r) ∧
     (SlotRuns s.hw k 0x0802 [] → Answers (.callStatus (.slot k) io) s k stOk fun m r => m = s.hw ∧ r.length = 36 ∧
       ReplyWords 0 ([4, 0x10, 0x14, 0x18, 0x1C, 0x20, 0x24, 0x28, 0x2C].map callsA) s.hw r) ∧
     (SlotRuns s.hw k 0x0703 [] → Answers (.acqStatus (.slot k) io) s k stOk fun m r => m = s.hw ∧ r.length = 48 ∧
       ReplyWords 0 (([0x24, 0x28, 0x2C, 0x30, 0x34, 0x38, 0x3C].map acqA) ++ [probeA 0x48]) s.hw r) ∧
     (∀ a n : BitVec 8, 1 ≤ n.toNat → n.toNat ≤ 52 → a.toNat + n.toNat ≤ 72 → SlotRuns s.hw k 0x0A01 [a, n] →
       Answers (.eventRead (.slot k) io) s k stOk fun m r => m = s.hw ∧ r.length = 4 + 4 * n.toNat ∧
         ReplyWords 0 (faultA 0x600 :: (List.range n.toNat).map fun i => grpStatA (a.toNat + i)) s.hw r) ∧
     (∀ a n : BitVec 8, 1 ≤ n.toNat → n.toNat ≤ 13 → a.toNat + n.toNat ≤ 32 → SlotRuns s.hw k 0x0A03 [a, n] →
       Answers (.logRead (.slot k) io) s k stOk fun m r => m = s.hw ∧ r.length = 16 + 16 * n.toNat ∧
         ReplyWords 0 ([faultA 0x608, faultA 0x60C, faultA 0x610, faultA 0x614] ++
           (List.range (4 * n.toNat)).map fun i => logA a.toNat + 4 * i) s.hw r))

/-- EVENT_CLEAR clears the status bits of its group that its mask names, and no others. BAR2_MAP sets the aperture's target.
PAD_RELEASE without ALL releases the named banks and answers which of them were held; a driving pin whose level changes makes an
edge. REG_READ of one mask word answers its value,
and REG_WRITE of one sets its 16 bits and answers that one word was written. Each completes with OK and changes nothing but those
registers and its slot (R7, R398, R412, R444, R470, R471).
TIME_PHASE to TEST or RECOVERY enters the phase and answers it; the return to NORMAL outside TEST is refused and changes
nothing (R295). TIME_SET, with the 1PPS input enabled and in a phase that allows it,
sets the whole seconds of network time and keeps the part of the second. CALL_CANCEL does what the same write of CALLS.CANCEL does
and answers CANCEL_STAT.RESULT, in every state (R333): of a slot that holds a call of that generation which is not complete, it
answers 1, the call is gone and no longer in its worker's ready list, it is counted, and, where no call depends on it and the MP
does not run it, nothing else changes; of any other slot or generation it answers 2 and changes nothing else. LOG_ACK on a module
that is no member, of entries none of which is written in the same clock, clears VALID of exactly the named entries and answers
how many are still handled. -/
def Obligations.RegisterCommands : Prop :=
  (∀ (s : State) (k : Nat) (io : HostIo),
     (∀ g m0 m1 : BitVec 8, g.toNat < 72 → SlotRuns s.hw k 0x0A02 [g, 0, m0, m1] →
       Answers (.eventClear (.slot k) io) s k stOk fun m r => r = [] ∧ OnlyRegs [grpStatA g.toNat] s.hw m ∧
         ∀ n, n < 32 → (bit (m.reg (grpStatA g.toNat)) n = true ↔ bit (s.hw.reg (grpStatA g.toNat)) n = true ∧
           ¬ ((m0.toNat + 256 * m1.toNat).testBit n = true ∧ ¬ SetNow s.hw (grpStatA g.toNat) n))) ∧
     (∀ a tgt die off : BitVec 8, a.toNat < 4 → tgt.toNat < 4 → die.toNat ≤ 1 → off.toNat ≤ 191 →
       SlotRuns s.hw k 0x0401 [a, tgt, die, off] → Answers (.bar2Map (.slot k) io) s k stOk fun m r => r = [] ∧
         OnlyRegs [hostifA (0x40 + 8 * a.toNat)] s.hw m ∧ m.fget (hostifA (0x40 + 8 * a.toNat)) 1 0 = tgt.toNat ∧
         m.fget (hostifA (0x40 + 8 * a.toNat)) 2 2 = die.toNat ∧ m.fget (hostifA (0x40 + 8 * a.toNat)) 15 8 = off.toNat) ∧
     (∀ m0 m1 : BitVec 8, SlotRuns s.hw k 0x0903 [m0, m1, 0, 0] →
       Answers (.padRelease (.slot k) io) s k stOk fun m r => OnlyRegs [powerA 0x28] { s.hw with out := m.out } m ∧
         s.hw.out <+: m.out ∧
         (∀ n, n < 512 → m.pinDrives n = true → s.hw.pinLevel n ≠ m.pinLevel n → ∃ t, Out.edge n (m.pinValue n) t ∈ m.out) ∧
         ∀ b, b < 16 → (m.bget (powerA 0x28) b =
             (s.hw.bget (powerA 0x28) b && !(m0.toNat + 256 * m1.toNat).testBit b)) ∧
           (arg r 0 2).testBit b = (s.hw.bget (powerA 0x28) b && (m0.toNat + 256 * m1.toNat).testBit b)) ∧
     (∀ args, args.length = 8 → arg args 4 1 = 1 → arg args 5 3 = 0 → (∃ g, g < 72 ∧ arg args 0 4 = faultA (0x200 + 4 * g)) →
       SlotRuns s.hw k 0x0C01 args → Answers (.regRead (.slot k) io) s k stOk fun m r => m = s.hw ∧ r.length = 4 ∧
         arg r 0 4 = (s.hw.view (arg args 0 4)).toNat) ∧
     (∀ args, args.length = 12 → arg args 4 1 = 1 → arg args 5 3 = 0 → (∃ g, g < 72 ∧ arg args 0 4 = faultA (0x200 + 4 * g)) →
       SlotRuns s.hw k 0x0C02 args → Answers (.regWrite (.slot k) io) s k stOk fun m r => r = [1] ∧
         OnlyRegs [arg args 0 4] s.hw m ∧ m.fget (arg args 0 4) 15 0 = arg args 8 4 % 65536)) ∧
  (∀ (s : State) (k : Nat) (io : HostIo),
     (∀ v : BitVec 8, v = 2 ∨ v = 3 → SlotRuns s.hw k 0x0602 [v] →
       Answers (.timePhase (.slot k) io) s k stOk fun m r => r = [v] ∧ m.tPhase = v.toNat ∧ m.time.first = true ∧
         (∀ a, a ≠ timeA 0x10 → m.reg a = s.hw.reg a) ∧ m = { s.hw with regs := m.regs, time := { s.hw.time with first := true } }) ∧
     (s.hw.tPhase ≠ 2 → SlotRuns s.hw k 0x0602 [1] →
       Answers (.timePhase (.slot k) io) s k stRefused fun m r => m = s.hw ∧ r = []) ∧
     (∀ args, args.length = 8 → s.hw.tPhase = 0 ∨ s.hw.tPhase = 2 → s.hw.bget (timeA 0x14) 0 = true → s.hw.time.te = [] →
       SlotRuns s.hw k 0x0603 args → Answers (.timeSet (.slot k) io) s k stOk fun m r => r = [] ∧
         m.time.now / unitsPerSec = arg args 0 8 ∧ m.time.now % unitsPerSec = s.hw.time.now % unitsPerSec ∧
         m.seq = s.hw.seq ∧ m.regs = s.hw.regs) ∧
     (∀ a0 a1 g : BitVec 8, a1.toNat < 16 → g.toNat < 16 → SlotRuns s.hw k 0x0801 [a0, a1, g, 0] →
       let j := a0.toNat + 256 * a1.toNat
       (Answers (.callCancel (.slot k) io) s k stOk fun m r => r = [BitVec.ofNat 8 (m.fget (callsA 0xC) 1 0)] ∧
         exec (.cancelWrite (BitVec.ofNat 32 (j + 2 ^ 12 * g.toNat))) s = .next { s with hw := m }) ∧
       (∀ c, s.hw.call j = some c → c.active = true → c.state ≠ .running 32 → c.gen = g.toNat →
         Store.rising s.hw.calls.slots = true → (∀ x ∈ s.hw.callList, x.2.state = .waiting → x.2.deps ≠ []) →
         (∀ x ∈ s.hw.callList, j ∉ x.2.deps) → Answers (.callCancel (.slot k) io) s k stOk fun m r => r = [1] ∧
           m.call j = none ∧ (∀ i, i ≠ j → m.call i = s.hw.call i) ∧
           (∀ w, m.readyList w = if c.state = .ready w then (s.hw.readyList w).erase j else s.hw.readyList w) ∧
           m.reg (callsA 0xC) = 1 ∧ m.fget (callsA 0x28) 31 0 = min (2 ^ 32 - 1) (s.hw.fget (callsA 0x28) 31 0 + 1) ∧
           OnlyRegs [callsA 0xC, callsA 0x28] s.hw { m with calls := s.hw.calls, trace := s.hw.trace }) ∧
       ((∀ c, s.hw.call j = some c → c.active = false ∨ c.gen ≠ g.toNat) →
         Answers (.callCancel (.slot k) io) s k stOk fun m r => r = [2] ∧ m.reg (callsA 0xC) = 2 ∧ OnlyRegs [callsA 0xC] s.hw m)) ∧
     (∀ args, args.length = 4 → (∀ e, e < 32 → ¬ SetNow s.hw (logA e) 15) → SlotRuns s.hw k 0x0A04 args →
       Answers (.logAck (.slot k) io) s k stOk fun m r => r = [BitVec.ofNat 8 m.handledList.length] ∧
         (∀ e, e < 32 → m.handled e = (s.hw.handled e && !(arg args 0 4).testBit e)) ∧
         OnlyRegs ((List.range 32).map logA) s.hw m))

/-- For every code of the command tables but IMAGE_BLOCK's (its tests come in the order of R266): a command of that code, running
in a slot with argument bytes that its table does not allow, completes with BAD_ARGUMENT and an empty reply, and changes nothing
but its slot (R453, R455). -/
def Obligations.BadArguments : Prop :=
  ∀ (s : State) (k : Nat) (io : HostIo) (f : FormFacts) (args : List Byte) (i : Instr) (code : Nat), f.ok = true →
    (i, code) ∈ [(Instr.identify (.slot k) io, 0x0101), (.status (.slot k) io, 0x0102), (.portStatus (.slot k) io, 0x0103),
      (.imageBegin (.slot k) io, 0x0201), (.imageCommit (.slot k) io, 0x0203), (.imageStatus (.slot k) io, 0x0204),
      (.configForm (.slot k) io f, 0x0301), (.configLeave (.slot k) io, 0x0302), (.runStart (.slot k) io, 0x0303),
      (.runHalt (.slot k) io, 0x0304), (.bar2Map (.slot k) io, 0x0401), (.memRead (.slot k) io, 0x0402),
      (.memWrite (.slot k) io, 0x0403), (.poolAlloc (.slot k) io, 0x0404), (.poolFree (.slot k) io, 0x0405),
      (.snapTake (.slot k) io, 0x0406), (.snapRestore (.slot k) io, 0x0407), (.readback (.slot k) io, 0x0408),
      (.linkRetrain (.slot k) io, 0x0501), (.linkEnable (.slot k) io, 0x0502), (.timeStatus (.slot k) io, 0x0601),
      (.timePhase (.slot k) io, 0x0602), (.timeSet (.slot k) io, 0x0603), (.acqArm (.slot k) io, 0x0701),
      (.acqStop (.slot k) io, 0x0702), (.acqStatus (.slot k) io, 0x0703), (.callCancel (.slot k) io, 0x0801),
      (.callStatus (.slot k) io, 0x0802), (.powerState (.slot k) io, 0x0901), (.levelReq (.slot k) io, 0x0902),
      (.padRelease (.slot k) io, 0x0903), (.eventRead (.slot k) io, 0x0A01), (.eventClear (.slot k) io, 0x0A02),
      (.logRead (.slot k) io, 0x0A03), (.logAck (.slot k) io, 0x0A04), (.fwBlock (.slot k) io, 0x0B01),
      (.fwVerify (.slot k) io, 0x0B02), (.fwActivate (.slot k) io, 0x0B03), (.fwStatus (.slot k) io, 0x0B04),
      (.accessChallenge (.slot k) io, 0x0B05), (.accessResponse (.slot k) io, 0x0B06), (.accessClose (.slot k) io, 0x0B07),
      (.regRead (.slot k) io, 0x0C01), (.regWrite (.slot k) io, 0x0C02)] →
    SlotBegins s.hw k code args → (∀ sp, specOf code = some sp → sp.args args = false) →
    Answers i s k stBadArgument fun m r => m = s.hw ∧ r = []

/-- CONFIG_FORM that names no other module, on a module that passes every check of Table 18.5, ends with OK and four zero bytes:
the module is the head of a configuration without members, its clock source is LOCAL or TIME as asked, and the image counts as
formed (R30, R32, R459). A check that fails ends it with that check's status, its number, device and port, and forms nothing.
CONFIG_LEAVE on a head without members whose frames do not run ends with OK and the number of modules released, and the module
belongs to no configuration; on a module of none it answers 0; while frames run it is refused. -/
def Obligations.FormAndLeave : Prop :=
  ∀ (s : State) (k : Nat) (io : HostIo),
    (∀ (f : FormFacts) (args : List Byte), f.ok = true → f.members = [] → args.length = 16 → arg args 8 1 ≤ 1 → arg args 9 7 = 0 →
      s.hw.named (arg args 0 8) = [] → s.hw.conf.formed = false → s.hw.busy = false → SlotRuns s.hw k 0x0301 args →
      (s.hw.formCheck [] f = none → Answers (.configForm (.slot k) io f) s k stOk fun m r => r = [0, 0, 0, 0] ∧
        m.conf.formed = true ∧ m.conf.head = s.hw.devIndex ∧ m.conf.members = [] ∧ m.conf.uplink = none ∧
        m.img.unformed = false ∧ m.fget 0x44 1 0 = arg args 8 1 ∧ (∀ a, a ≠ 0x44 → m.reg a = s.hw.reg a) ∧
        m.seq = { s.hw.seq with srcPending := none } ∧ m.trusses = s.hw.trusses) ∧
      ∀ c st d p, s.hw.formCheck [] f = some (c, st, d, p) → c < 9 → st < 256 →
        Answers (.configForm (.slot k) io f) s k st fun m r =>
          m = s.hw ∧ r = [BitVec.ofNat 8 c, BitVec.ofNat 8 d, BitVec.ofNat 8 p, 0]) ∧
    (SlotRuns s.hw k 0x0302 [] → s.hw.conf.formed = true → s.hw.conf.members = [] → s.hw.busy = false →
      Answers (.configLeave (.slot k) io) s k stOk fun m r => r = [1] ∧ m = { s.hw with conf := {} }) ∧
    (SlotRuns s.hw k 0x0302 [] → s.hw.conf.formed = false → s.hw.conf.members = [] →
      Answers (.configLeave (.slot k) io) s k stOk fun m r => r = [0] ∧ m = s.hw) ∧
    (SlotRuns s.hw k 0x0302 [] → s.hw.conf.formed = true → s.hw.conf.members = [] → s.hw.busy = true →
      Answers (.configLeave (.slot k) io) s k stRefused fun m r => r = [] ∧ m = s.hw)

/-- RUN_START on a head without members, with arguments and a state that R460 allows, ends with OK and the number of the frame that
will run: RUN_CTRL with the mode and the CHECKED bit is sent to take effect HORIZON course clocks later, the steps and the period
asked for are kept, and in TIMED mode the next grid point is one of T0 + n·PERIOD; the module is HELD until then (R127, R143, R311,
Table 5.4). RUN_CTRL with a start code at its effect clock, on a module that is HELD: RUNNING in that mode, checked as the bit says,
and on a checked start the hazard counters read 0 (R142, R143, R210, R212). An argument that R460 does not allow ends with
BAD_ARGUMENT, a module that is not HELD, or otherwise does not allow the start, with REFUSED, and neither changes anything.
RUN_HALT of a running configuration sends RUN_CTRL with the halt code, to take effect HORIZON course clocks later, and waits:
its slot is not completed. In HELD, STOPPED_MID and EMPTY it is refused and changes nothing (R461). LEVEL_REQ of a running
configuration sends the level with RUN_CTRL and answers the level in force; in EMPTY, STOPPED_MID, HALTING and LEVEL_CHANGE it is
refused. In HELD, on a module alone, it enters LEVEL_CHANGE at once, whichever level it names, and waits (R143, R148, R468). From the
acceptance of a RUN_START until its RUN_CTRL takes effect both act as in RUNNING: a choice of the model (log entry 24). -/
def Obligations.RunCommands : Prop :=
  ((∀ (s : State) (k : Nat) (io : HostIo) (args : List Byte), args.length = 40 → arg args 1 1 ≤ 1 → arg args 2 2 = 0 →
     arg args 8 8 = 0 → arg args 30 2 = 0 → s.hw.conf.members = [] → SlotRuns s.hw k 0x0303 args →
     (startBad args = true → Answers (.runStart (.slot k) io) s k stBadArgument fun m r => m = s.hw ∧ r = []) ∧
     (startBad args = false → s.hw.seq.run ≠ .held ∨ s.hw.img.unformed = true ∨ s.hw.conf.formed = false →
       Answers (.runStart (.slot k) io) s k stRefused fun m r => m = s.hw ∧ r = []) ∧
     (startBad args = false → s.hw.startTest (arg args 0 1) (arg args 1 1 == 1) = stOk → s.hw.conf.treePorts = [] →
       s.hw.conf.crossPorts = [] → Answers (.runStart (.slot k) io) s k stOk fun m r =>
         r = bytesOf 8 (s.hw.seq.frame.toNat + natBit s.hw.seq.deferred) ∧
         m.seq = { s.hw.seq with
           stepCount := arg args 4 4, gridPeriod := 3 * arg args 32 8, gridNext := m.seq.gridNext, goSent := false, goEff := false
           syms := s.hw.seq.syms ++ [⟨.runCtrl, arg args 0 1 - 1 + 32 * arg args 1 1, s.hw.devIndex,
             s.hw.seq.clk + s.hw.seq.horizon, s.hw.seq.clk⟩] } ∧
         (arg args 0 1 = 2 → ∃ n, m.seq.gridNext = timeOf (BitVec.ofNat 112 (arg args 16 14)) + n * m.seq.gridPeriod) ∧
         m = { s.hw with seq := m.seq, ports := m.ports, out := m.out } ∧ ∀ p, m.port p = s.hw.port p)) ∧
   ∀ (s : State) (origin mode : Nat) (checked : Bool), origin < 64 → mode < 3 → s.hw.seq.run = .held →
     Does (.runCtrl origin (mode + 32 * natBit checked)) s fun g => g.seq.run = .running ∧
       g.seq.mode = (match mode with | 0 => .free | 1 => .timed | _ => .step) ∧ g.seq.checked = checked ∧
       g.seq.frame = s.hw.seq.frame ∧ g.seq.level = s.hw.seq.level ∧
       g.seq.starting = some (if s.hw.seq.deferred then 1 else 0) ∧
       (∀ a, g.reg a =
         if checked = true ∧ a ∈ [seqA 0 0x88, seqA 0 0x8C, seqA 1 0x88, seqA 1 0x8C] then 0 else s.hw.reg a) ∧
       g = { s.hw with seq := g.seq, regs := g.regs }) ∧
  (∀ (s : State) (k : Nat) (io : HostIo),
     (SlotRuns s.hw k 0x0304 [] → s.hw.seq.run = .running ∨ s.hw.startWaits = true → s.hw.conf.treePorts = [] → Does (.runHalt (.slot k) io) s fun g =>
       g.seq.syms = s.hw.seq.syms ++ [⟨.runCtrl, 3, s.hw.devIndex, s.hw.seq.clk + s.hw.seq.horizon, s.hw.seq.clk⟩] ∧
         g.slotState k = 2 ∧ (∃ w ∈ g.host.waits, w.src = .slot k ∧ w.code = 0x0304) ∧ g.regs = s.hw.regs ∧
         g.seq = { s.hw.seq with syms := g.seq.syms } ∧ g.host.slots = s.hw.host.slots) ∧
     (SlotRuns s.hw k 0x0304 [] → s.hw.stopped = true →
       Answers (.runHalt (.slot k) io) s k stRefused fun m r => m = s.hw ∧ r = []) ∧
     (∀ l : BitVec 8, l.toNat ≤ 3 → SlotRuns s.hw k 0x0902 [l] → s.hw.seq.run = .running ∨ s.hw.startWaits = true →
       s.hw.conf.treePorts = [] →
       Answers (.levelReq (.slot k) io) s k stOk fun m r => r = [BitVec.ofNat 8 s.hw.seq.level] ∧
         m.seq.syms = s.hw.seq.syms ++ [⟨.runCtrl, 4 + 8 * l.toNat, s.hw.devIndex, s.hw.seq.clk + s.hw.seq.horizon, s.hw.seq.clk⟩] ∧
         m.seq = { s.hw.seq with syms := m.seq.syms } ∧ m.regs = s.hw.regs) ∧
     (∀ l : BitVec 8, l.toNat ≤ 3 → SlotRuns s.hw k 0x0902 [l] → s.hw.seq.run = .held → s.hw.startWaits = false →
       s.hw.conf.members = [] →
       Does (.levelReq (.slot k) io) s fun g => g.seq.run = .levelChange ∧ g.seq.levelReq = l.toNat ∧ g.slotState k = 2 ∧
         (∃ w ∈ g.host.waits, w.src = .slot k ∧ w.code = 0x0902) ∧ g.bget 0x44 6 = false ∧
         g.seq.levelChg = some ⟨false, s.hw.seq.level, if s.hw.seq.checked then max 2 l.toNat else l.toNat, 0, false⟩ ∧
         g = { s.hw with seq := g.seq, regs := g.regs, host := g.host } ∧ g.host.slots = s.hw.host.slots) ∧
     (∀ l : BitVec 8, l.toNat ≤ 3 → SlotRuns s.hw k 0x0902 [l] → s.hw.seq.run ≠ .running → s.hw.seq.run ≠ .held →
       Answers (.levelReq (.slot k) io) s k stRefused fun m r => m = s.hw ∧ r = []))

/-- POWER_STATE on a module alone, in RUN: a request for RUN ends with OK at once; a request for IDLE, DOZE or SLEEP, where the
host's link does not bind the head out of SLEEP, asks for the entry (ENTERING reads 1) and waits; while the configuration runs,
and for SLEEP while the link binds the head, it is refused and changes nothing (R388, R392, R430, R467).
A module without configuration members whose run state allows it (R388 to R396). The idle, doze and sleep timers ask for the next
state, when they are enabled, their timeouts have passed, and R390 and R430 do not bar it. ENTER_IDLE: IDLE, with the entry complete. ENTER_DOZE: DOZE, queue pairs
empty, STATUS HOLDOVER; a source that wakes from DOZE and arrives at the end of one of its first four steps brings RUN back and is counted, and so
does one that wakes from SLEEP during that entry; another source changes nothing (R396).
ENTER_SLEEP: SLEEP, every pad latched at its level (R397), the saved registers kept, no call, the firmware not ready. PCIE_WAKE in SLEEP, WAKE_PIN in DOZE
and SLEEP and WAKE_ALARM in SLEEP at its count: when enabled, the source is recorded and the wake begins; while another is in
progress it is pending (R401, R404); PCIE_WAKE ends WAKE#. WAKE_FROM_DOZE and WAKE_FROM_SLEEP: RUN, phase RECOVERY, WAKE_DONE last, with the course memory, the
bundles, the plan, the lofts, the banks and far memory as they were (R403); a unit that fails again leaves WAKE_FAILED with its
reason (R406). -/
def Obligations.LowPower : Prop :=
  (∀ (s : State) (k : Nat) (io : HostIo), s.hw.power.goal = none → s.hw.power.source = none → s.hw.conf.members = [] →
     (SlotRuns s.hw k 0x0901 [0] → s.hw.lowOk = true →
       Answers (.powerState (.slot k) io) s k stOk fun m r => m = s.hw ∧ r = [0]) ∧
     (∀ p : BitVec 8, 1 ≤ p.toNat → p.toNat ≤ 3 → SlotRuns s.hw k 0x0901 [p] → s.hw.lowOk = true →
       (p = 3 → s.hw.sleepBarred = false) → Does (.powerState (.slot k) io) s fun g =>
         g.power.goal = some p.toNat ∧ g.bget (powerA 0) 3 = true ∧ g.pstate = 0 ∧ g.slotState k = 2 ∧
           (∃ w ∈ g.host.waits, w.src = .slot k ∧ w.code = 0x0901) ∧ OnlyRegs [powerA 0] s.hw { s.hw with regs := g.regs } ∧
           g = { s.hw with regs := g.regs, power := { s.hw.power with goal := some p.toNat, left := [], byTimer := false },
                           host := { s.hw.host with waits := g.host.waits } }) ∧
     (∀ p : BitVec 8, p.toNat ≤ 3 → SlotRuns s.hw k 0x0901 [p] → s.hw.lowOk = false ∨ (p = 3 ∧ s.hw.sleepBarred = true) →
       Answers (.powerState (.slot k) io) s k stRefused fun m r => m = s.hw ∧ r = [])) ∧
  (∀ s : State, s.hw.conf.members = [] → s.hw.isMember = false →
     let h := s.hw
     let asks := fun (i : Instr) (n : Nat) => Does i s fun g => g.power = { h.power with goal := some n, left := [], byTimer := true } ∧
       g.bget (powerA 0) 3 = true ∧ OnlyRegs [powerA 0] h { g with power := h.power }
     let done := fun (n : Nat) (g : Hw) => g.pstate = n ∧ (h.power.goal = some n → g.power.goal = none ∧ g.bget (powerA 0) 3 = false)
     let wakes := fun (i : Instr) (src : Nat) =>
       (h.power.source = none → Does i s fun g => g.power.source = some src ∧ g.fget (powerA 0x20) 2 0 = src ∧
         g.bget (powerA 0) 4 = true ∧ g.pstate = h.pstate) ∧
       (h.power.source ≠ none → Does i s fun g => g.fget (powerA 0x20) 22 20 = src ∧
         OnlyRegs [powerA 0x20] h { g with power := h.power, out := h.out })
     let keeps := fun g : Hw => g.rows = h.rows ∧ g.bundles = h.bundles ∧ g.plan = h.plan ∧ g.lofts = h.lofts ∧
       g.bankMem = h.bankMem ∧ g.bankValid = h.bankValid ∧ g.farMem = h.farMem ∧ g.farValid = h.farValid
     let woken := fun g : Hw => g.pstate = 0 ∧ g.tPhase = 3 ∧ g.power.source = none ∧ keeps g ∧
       ∃ l e, g.fault.path = l ++ [e] ∧ e.id = evWakeDone
     let failed := fun (g : Hw) (r : Nat) => g.pstate = 4 ∧ g.fget (powerA 0x20) 10 7 = r ∧ g.bget (powerA 0x20) 19 = true ∧
       g.power.alertPin = true ∧ g.host.ready = false ∧ g.fget (powerA 0x20) 16 15 = 1
     (h.lowOk = true → h.power.goal = none → h.timeoutLen ≤ h.power.idleFor →
       (h.bget (powerA 4) 0 = true → h.pstate = 0 → asks .idleTimer 1) ∧
       (h.bget (powerA 4) 1 = true → h.pstate = 1 → asks .dozeTimer 2) ∧
       (h.bget (powerA 4) 2 = true → h.pstate = 2 → h.seq.mode ≠ .timed ∨ h.bget (powerA 4) 3 = true →
         h.sleepBarred = false → asks .sleepTimer 3)) ∧
     (h.lowOk = true → h.deferredEntry = false → h.power.left = [] → h.power.source = none →
       let back := fun (src : Nat) (g : Hw) => g.pstate = 0 ∧ g.power.goal = none ∧ g.fget (powerA 0x20) 2 0 = src ∧
         g.fget (powerA 0x1C) 31 16 = min 65535 (h.fget (powerA 0x1C) 31 16 + 1)
       (h.power.goal = some 1 → h.pstate = 0 → Does .enterIdle s (done 1)) ∧
       (∀ n, h.power.goal = some n → 2 ≤ n → h.pstate < 2 →
         (Does (.enterDoze none) s fun g => done 2 g ∧ g.qpairs = [] ∧ g.tStatus = 3) ∧
         ∀ c : EntryCut, (h.wakesFrom 2 c.src c.port = true → 1 ≤ c.step → c.step ≤ 4 → Does (.enterDoze (some c)) s (back c.src)) ∧
           (h.wakesFrom 2 c.src c.port = false → exec (.enterDoze (some c)) s = exec (.enterDoze none) s)) ∧
       (h.power.goal = some 3 → h.pstate = 2 → h.sleepBarred = false →
         (∀ i src port, h.wakesFrom 3 src port = true → 1 ≤ i → i ≤ 5 →
           Does (.enterSleep (some ⟨i, src, port, ⟨[], none⟩⟩)) s (back src)) ∧ Does (.enterSleep none) s fun g => done 3 g ∧ g.reg (powerA 0x28) = 0xFFFF ∧
         (∀ n, n < 512 → Store.get none g.power.pads n = h.pinLevel n) ∧
         g.host.ready = false ∧ g.calls.slots = [] ∧ g.calls.raises = [] ∧ g.time.sleepCount = h.time.aon)) ∧
     (h.pstate = 3 → h.bget (powerA 0x14) 1 = true → wakes .pcieWake 2) ∧
     (h.host.linkUp = true → Does .pcieWake s fun g => g.power.wakePin = false) ∧
     (h.pstate = 2 ∨ h.pstate = 3 → h.bget (powerA 0x14) 3 = true → wakes .wakePin 4) ∧
     (∀ n, h.pstate = 3 → h.bget (powerA 0x14) 2 = true → h.alarmCount = some n →
       let since := fun c : Nat => (c + 2 ^ 48 - h.time.sleepCount) % 2 ^ 48
       (since n ≤ since h.time.aon → wakes .wakeAlarm 3) ∧ (since h.time.aon < since n → exec .wakeAlarm s = .next s)) ∧
     (h.power.source ≠ none →
       (h.pstate = 2 → Does (.wakeFromDoze ⟨[], none⟩) s woken ∧
         ∀ r, r < 16 → Does (.wakeFromDoze ⟨[], some r⟩) s fun g => failed g r) ∧
       (h.pstate = 3 → (Does (.wakeFromSleep ⟨[], none⟩) s fun g => woken g ∧ g.host.ready = true) ∧
         ∀ r, r < 16 → Does (.wakeFromSleep ⟨[], some r⟩) s fun g => failed g r)))

/-- Each, for a mask of ports one of which carries a tree link or a crossing while frames run, is refused and changes nothing. Else
LINK_RETRAIN answers the mask of the named ports that are enabled and past their start time, and each of these is in DETECT with
RETRIES 0; LINK_ENABLE answers the mask of the ports whose enable changes, every named port's enable bit then is as asked, and with
value 0 every named port is DISABLED. Every other port keeps everything but the reports of the change that join its waiting
messages (R442), and nothing but ports, registers and what is sent changes (R223, R465). -/
def Obligations.LinkCommands : Prop :=
  ∀ (s : State) (k : Nat) (io : HostIo) (a0 a1 : BitVec 8), a1.toNat < 16 →
    let ps := portMask (a0.toNat + 256 * a1.toNat)
    (SlotRuns s.hw k 0x0501 [a0, a1] → s.hw.linksBusy ps = true →
      Answers (.linkRetrain (.slot k) io) s k stRefused fun m r => m = s.hw ∧ r = []) ∧
    (∀ e : BitVec 8, e.toNat ≤ 1 → SlotRuns s.hw k 0x0502 [a0, a1, e, 0] → s.hw.linksBusy ps = true →
      Answers (.linkEnable (.slot k) io) s k stRefused fun m r => m = s.hw ∧ r = []) ∧
    (SlotRuns s.hw k 0x0501 [a0, a1] → s.hw.linksBusy ps = false →
      Answers (.linkRetrain (.slot k) io) s k stOk fun m r => r = bytesOf 2 (maskOf (s.hw.retrainable ps)) ∧
        (∀ p, p < 12 → (p ∈ s.hw.retrainable ps → (m.port p).state = .detect ∧ m.fget (eaveA p 8) 7 0 = 0) ∧
          (p ∉ s.hw.retrainable ps → Queued (s.hw.port p) (m.port p))) ∧
        m = { s.hw with regs := m.regs, ports := m.ports, out := m.out }) ∧
    (∀ e : BitVec 8, e.toNat ≤ 1 → SlotRuns s.hw k 0x0502 [a0, a1, e, 0] → s.hw.linksBusy ps = false →
      Answers (.linkEnable (.slot k) io) s k stOk fun m r =>
        r = bytesOf 2 (maskOf (ps.filter fun p => s.hw.bget (eaveA p 0) 0 != (e.toNat == 1))) ∧
        (∀ p, p < 12 → (p ∈ ps → m.bget (eaveA p 0) 0 = (e.toNat == 1) ∧ (e = 0 → (m.port p).state = .disabled)) ∧
          (p ∉ ps → Queued (s.hw.port p) (m.port p))) ∧ m = { s.hw with regs := m.regs, ports := m.ports, out := m.out })

/-- POOL_ALLOC of a kind and slot that is not in use (R374, R463). For an acquisition buffer or a gutter of a size that fits on
the named die: OK, with the byte address of a place that begins at or above the lowest MiB an area may take, ends within POOL,
overlaps no other area of that die, and 0 for the other die; the registers of the buffer or of the gutter name it, and a gutter is
zero (Table 13.2). For a snapshot
area that fits on both dies: OK with both addresses, and the slot's area is empty. Where no place fits, NO_RESOURCE, and nothing is
freed. An area in use ends both commands with BUSY. POOL_FREE frees every area of its kind and slot, and nothing else of POOL. Which
of several places that fit is taken is a free value. -/
def Obligations.PoolAllocAndFree : Prop :=
  ∀ (s : State) (k : Nat) (io : HostIo),
    (∀ args kind die size, args.length = 8 → kind = arg args 0 1 → die = arg args 1 1 → size = arg args 4 4 → die ≤ 1 →
      arg args 2 2 = 0 → (kind = 2 ∧ 1 ≤ size ∧ size ≤ 8192) ∨ (kind = 3 ∧ ∃ i, i < 13 ∧ size = 2 ^ i) →
      SlotRuns s.hw k 0x0404 args →
      (s.hw.areaBusy kind 0 = true → Answers (.poolAlloc (.slot k) io) s k stBusy fun m r => m = s.hw ∧ r = []) ∧
      (s.hw.areaBusy kind 0 = false → (s.hw.freeArea kind 0).fits die size = [] →
        Answers (.poolAlloc (.slot k) io) s k stNoResource fun m r => m = s.hw ∧ r = []) ∧
      (s.hw.areaBusy kind 0 = false → (s.hw.freeArea kind 0).fits die size ≠ [] →
        Answers (.poolAlloc (.slot k) io) s k stOk fun m r => ∃ b,
          let others := s.hw.pool.filter fun a => !(a.kind == kind && a.slot == 0)
          m.pool = others ++ [⟨kind, 0, die, b, size⟩] ∧ s.hw.poolFloor die ≤ b ∧ b + size ≤ poolTop ∧
            (∀ a ∈ others, a.die = die → b + size ≤ a.base ∨ a.base + a.size ≤ b) ∧
            r.length = 16 ∧ arg r (8 * die) 8 = mibBytes b ∧ arg r (8 * (1 - die)) 8 = 0 ∧
            (kind = 2 → m.reg64 (acqA 8) = BitVec.ofNat 64 (mibBytes b + die * 2 ^ 36) ∧
              m.reg (acqA 0x10) = BitVec.ofNat 32 (mibBytes size / 16)) ∧
            (kind = 3 → m.bget (traceA 4) 0 = false ∧ m.reg64 (traceA 8) = BitVec.ofNat 64 (mibBytes b + die * 2 ^ 36) ∧
              m.reg (traceA 0x10) = BitVec.ofNat 32 (mibBytes size / 16)) ∧
            (kind = 2 → m.farMem = s.hw.farMem ∧ m.farWb = s.hw.farWb) ∧
            (kind = 3 → ∀ d w, w < 2 ^ 33 → m.farWord d w =
              if d = die ∧ mibBytes b / 8 ≤ w ∧ w < mibBytes b / 8 + mibBytes size / 8 then 0 else s.hw.farWord d w) ∧
            m = { s.hw with pool := m.pool, regs := m.regs, free := s.hw.free + 1, farMem := m.farMem, farWb := m.farWb })) ∧
    (∀ slot far : BitVec 8, slot.toNat < 16 → far.toNat ≤ 1 → SlotRuns s.hw k 0x0404 [1, 0, slot, far, 0, 0, 0, 0] →
      s.hw.areaBusy 1 slot.toNat = false → (∀ d, d < 2 →
        (s.hw.freeArea 1 slot.toNat).fits d (areaMib (far.toNat == 1) (s.hw.designMib d)) ≠ []) →
      Answers (.poolAlloc (.slot k) io) s k stOk fun m r => ∃ b0 b1,
        let n := fun d => areaMib (far.toNat == 1) (s.hw.designMib d)
        m.snapArea slot.toNat = some ⟨[mibBytes b0, mibBytes b1], far.toNat == 1, [n 0, n 1]⟩ ∧
          m.pool = (s.hw.pool.filter fun a => !(a.kind == 1 && a.slot == slot.toNat)) ++
            [⟨1, slot.toNat, 0, b0, n 0⟩, ⟨1, slot.toNat, 1, b1, n 1⟩] ∧
          s.hw.poolFloor 0 ≤ b0 ∧ b0 + n 0 ≤ poolTop ∧ s.hw.poolFloor 1 ≤ b1 ∧ b1 + n 1 ≤ poolTop ∧
          r = bytesOf 8 (mibBytes b0) ++ bytesOf 8 (mibBytes b1) ∧ m.areaState slot.toNat = 0 ∧
          m.reg (snapSlotA slot.toNat 4) = 0 ∧ m.reg64 (snapSlotA slot.toNat 8) = 0) ∧
    (∀ kind slot : BitVec 8, 1 ≤ kind.toNat → kind.toNat ≤ 3 → slot.toNat < 16 → SlotRuns s.hw k 0x0405 [kind, slot] →
      let sl := if kind = 1 then slot.toNat else 0
      (s.hw.areaBusy kind.toNat sl = true →
        Answers (.poolFree (.slot k) io) s k stBusy fun m r => m = s.hw ∧ r = []) ∧
      (s.hw.areaBusy kind.toNat sl = false →
        Answers (.poolFree (.slot k) io) s k stOk fun m r => r = [] ∧
          m.pool = (s.hw.pool.filter fun a => !(a.kind == kind.toNat && a.slot == sl)) ∧
          (∀ d, d < 2 → m.fget (farA d 8) 31 16 = (poolTop - s.hw.designMib d - m.poolUsed d) % 65536 ∧
            m.designMib d = s.hw.designMib d) ∧
          (kind = 1 → m.snapArea slot.toNat = none ∧ m.reg (snapSlotA slot.toNat 0) = 0) ∧
          (kind = 2 → m.reg (acqA 0x10) = 0) ∧
          m = { s.hw with pool := m.pool, regs := m.regs, snap := { s.hw.snap with areas := m.snap.areas } }))

/-- SNAP_TAKE on a module without members whose area is allocated and not failed, with no capture in progress: in HELD it ends with
OK and the number of the frame that has last ended, the point is taken at the present clock, SNAP_STAT names the slot as active,
and the slot's registers show STATE capturing, the ID and the number of the frame that will begin; the sequencer, the lofts and the
banks are as they were. While the configuration runs, with a frame number that is not past, it ends with OK and that number, and
nothing but the scheduled capture has changed. With a capture in progress it ends with BUSY, without an area with NO_RESOURCE,
in EMPTY with REFUSED, and with NOT_READY while an image is applied or a snapshot restored (R372, R374, R376, R377, Table 9.7).
SNAP_DRAIN_DONE of a capture whose point has been taken and whose far-memory writes from before the point are performed, on a
module without members: no capture is in progress, the slot's STATE is complete (failed, when the point was missed),
SNAP_STAT shows no active capture, and SNAP_DONE is raised last; the lofts, the banks and the sequencer are as they were (R380).
SNAP_RESTORE of a slot that the module's tests allow waits, and begins: the module is in the state of Table 9.7 with RESTORING shown
and every bank LOADER, and what its memories hold is as it was. After the five further steps, one in each clock of the hub (the
model's choice, log entry 18), it is HELD at the frame, the DEV and the ALT of the area, which also wait for the next tick, every
design memory bank belongs to DESIGN with no hand-over pending, slates, pipelines, queues and calls are empty, RESTORING is 0, and
the course memory, the bundles and the plan are as they were (R382, R383, R386). In any other run state than HELD and STOPPED_MID it
is refused, and in EMPTY it ends with NOT_READY (Table 9.7). -/
def Obligations.Snapshots : Prop :=
  (∀ (s : State) (k : Nat) (io : HostIo) (args : List Byte), args.length = 16 → arg args 0 1 < 16 → arg args 1 3 = 0 →
     s.hw.conf.members = [] → SlotRuns s.hw k 0x0406 args →
     let slot := arg args 0 1
     let f := arg args 8 8
     (s.hw.snap.capture ≠ none → Answers (.snapTake (.slot k) io) s k stBusy fun m r => m = s.hw ∧ r = []) ∧
     (s.hw.snap.capture = none → s.hw.seq.run = .empty →
       Answers (.snapTake (.slot k) io) s k
         (if s.hw.img.applyPending || s.hw.snap.restore.isSome then stNotReady else stRefused) fun m r => m = s.hw ∧ r = []) ∧
     (s.hw.snap.capture = none → s.hw.seq.run = .held → s.hw.snapArea slot = none →
       Answers (.snapTake (.slot k) io) s k stNoResource fun m r => m = s.hw ∧ r = []) ∧
     (s.hw.snap.capture = none → s.hw.seq.run = .held → (∃ ar, s.hw.snapArea slot = some ar) → s.hw.areaState slot ≠ 3 →
       Answers (.snapTake (.slot k) io) s k stOk fun m r => r = bytesOf 8 s.hw.lastFrame ∧
         (∃ c, m.snap.capture = some c ∧ c.slot = slot ∧ c.id = arg args 4 4 ∧ c.point = some s.hw.seq.padClk ∧
           c.drained = [false, false]) ∧
         m.reg snapStatA = BitVec.ofNat 32 (1 + 2 * slot) ∧ m.areaState slot = 1 ∧
         m.reg (snapSlotA slot 4) = BitVec.ofNat 32 (arg args 4 4) ∧
         m.reg64 (snapSlotA slot 8) = BitVec.ofNat 64 (s.hw.seq.frame.toNat + natBit s.hw.seq.deferred) ∧
         m = { s.hw with regs := m.regs, farMem := m.farMem, farWb := m.farWb, snap := m.snap }) ∧
     (s.hw.snap.capture = none → s.hw.seq.run = .running → (∃ ar, s.hw.snapArea slot = some ar) → s.hw.areaState slot ≠ 3 →
       f ≠ 0 → s.hw.seq.frame.toNat ≤ f → Answers (.snapTake (.slot k) io) s k stOk fun m r => r = bytesOf 8 f ∧
         (∃ c, m.snap.capture = some c ∧ c.slot = slot ∧ c.id = arg args 4 4 ∧ c.frame = f ∧ c.point = none) ∧
         m = { s.hw with snap := { s.hw.snap with capture := m.snap.capture } })) ∧
  (∀ s : State,
     (∀ c ar p, s.hw.snap.capture = some c → c.point = some p → c.slot < 16 → s.hw.snapArea c.slot = some ar →
       c.drained.all id = false → ar.far = false ∨ s.hw.preWrites p = false → s.hw.conf.members = [] → s.hw.isMember = false →
       c.drained.length = 2 → Does .snapDrainDone s fun g => g.snap.capture = none ∧
         g.areaState c.slot = (if c.failed then 3 else 2) ∧ g.reg snapStatA = BitVec.ofNat 32 (2 * c.slot) ∧
         (c.failed = false → s.hw.pstate < 3 → ∃ l, g.fault.path = s.hw.fault.path ++ l ++
           [⟨evSnapDone, 0, s.hw.seq.frame, false, s.hw.seq.ticks⟩]) ∧
         g = { s.hw with
           regs := g.regs, farMem := g.farMem, farWb := g.farWb, snap := g.snap, fault := { s.hw.fault with path := g.fault.path } }) ∧
     (∀ (k : Nat) (io : HostIo) (x : BitVec 8) (ar : SnapArea), x.toNat < 16 → SlotRuns s.hw k 0x0407 [x] →
       s.hw.conf.members = [] → s.hw.snapArea x.toNat = some ar →
       s.hw.restoreTest x.toNat (s.hw.reg (snapSlotA x.toNat 4)).toNat (s.hw.reg64 (snapSlotA x.toNat 8)).toNat = stOk →
       Does (.snapRestore (.slot k) io) s fun g =>
         let m := Nat.iterate Hw.restoreNext 5 g
         let b := ar.base.getD 0 0
         g.slotState k = 2 ∧ (∃ w ∈ g.host.waits, w.src = .slot k ∧ w.code = 0x0407) ∧
           g.seq.run = .empty ∧ g.bget snapStatA 5 = true ∧ (∀ d j, d < 2 → j < 64 → g.fget (bankA d (4 * j)) 2 0 = 1) ∧
           g.lofts = s.hw.lofts ∧ g.bankMem = s.hw.bankMem ∧ g.farMem = s.hw.farMem ∧ g.rows = s.hw.rows ∧
           m.seq.run = .held ∧ m.seq.frame = m.areaRead 0 b 8 ∧
           m.seq.dev = m.areaRead 0 b 0x10 ∧ m.seq.devNext = m.seq.dev ∧ m.seq.alt = fld (m.areaRead 0 b 0x18) 3 0 ∧
           m.seq.altNext = m.seq.alt ∧ m.seq.deferred = false ∧ m.seq.inFrame = false ∧ m.seq.haltReason = 0 ∧
           (∀ d j, d < 2 → j < 64 → m.reg (bankA d (4 * j)) = 0) ∧ m.trusses = [] ∧ m.banks = [] ∧ m.qpairs = [] ∧
           m.calls.slots = [] ∧ m.calls.results = [] ∧ (ar.far = false → m.farMem = s.hw.farMem) ∧ m.bget snapStatA 5 = false ∧
           m.rows = s.hw.rows ∧ m.bundles = s.hw.bundles ∧ m.plan = s.hw.plan ∧ m.snap = s.hw.snap) ∧
     (∀ (k : Nat) (io : HostIo) (x : BitVec 8), x.toNat < 16 → SlotRuns s.hw k 0x0407 [x] → s.hw.conf.members = [] →
       s.hw.seq.run ≠ .held → s.hw.seq.run ≠ .stoppedMid →
       Answers (.snapRestore (.slot k) io) s k (if s.hw.seq.run = .empty then stNotReady else stRefused) fun m r =>
         m = s.hw ∧ r = []))

/-- With descriptors that carry the stream (R440): MEM_WRITE of words of a scratch bank that HOST owns stores each with fresh check
bits and answers the number of bytes done; MEM_READ of such words, none of them uncorrectable, writes their data to host memory
(R447, R462). A bank that a background test has borrowed comes back first (R448). A memory command of one word of any space ends as the ridge access of that word does: the state it leaves, or the
status of its failure with no byte done. RIDGE_TIMEOUT ends a memory command of scratch words with TIMEOUT after the words that
were done, and a REG_WRITE of SEQ.WAIT_LIMIT, on an array die, with TIMEOUT and nothing written (R23, R462). READBACK with an image loaded writes its items to host memory and answers their number, and in EMPTY ends
with NOT_READY (R464). -/
def Obligations.MemoryCommands : Prop :=
  ∀ (s : State) (k : Nat) (io : HostIo) (args : List Byte) (ds : List Desc) (input : List Byte),
    (args.length = 24 → memRange args = true → SlotBegins s.hw k 0x0403 args →
      s.hw.streams k io (arg args 16 4) 0 = some (.ok (ds, input)) →
      let n := arg args 16 4 / 8
      let b := arg args 2 2
      let w := arg args 8 8 / 8
      let word := fun i => BitVec.ofNat 64 (ofBytes ((input.drop (8 * i)).take 8))
      (arg args 0 1 = 3 → s.hw.fget (scrA b) 2 0 = 3 →
        (Answers (.memWrite (.slot k) io) s k stOk fun m r => r = bytesOf 8 (8 * n) ∧
          (∀ c i, i < 8192 → m.scrWord c i = if c = b ∧ w ≤ i ∧ i < w + n then decEncode (word (i - w)) else s.hw.scrWord c i) ∧
          m = { s.hw.reachBank b with scratch := m.scratch }) ∧
        ∀ done, done < n →
          Answers (.ridgeTimeout (.memory (.slot k) io done)) s k stTimeout fun m r => r = bytesOf 8 (8 * done) ∧
            (∀ c i, i < 8192 → m.scrWord c i =
              if c = b ∧ w ≤ i ∧ i < w + done then decEncode (word (i - w)) else s.hw.scrWord c i) ∧
            m = { (if done = 0 then s.hw else s.hw.reachBank b) with scratch := m.scratch }) ∧
      (n = 1 → (∀ g, s.hw.hostWriteWord (memPlace args 0) (word 0) = .ok g →
          Answers (.memWrite (.slot k) io) s k stOk fun m r => m = g ∧ r = bytesOf 8 8) ∧
        ∀ e, s.hw.hostWriteWord (memPlace args 0) (word 0) = .error e →
          Answers (.memWrite (.slot k) io) s k e.status fun m r => m = s.hw ∧ r = bytesOf 8 0)) ∧
    (args.length = 24 → memRange args = true → SlotBegins s.hw k 0x0402 args →
      s.hw.streams k io 0 (arg args 16 4) = some (.ok (ds, input)) →
      let n := arg args 16 4 / 8
      let b := arg args 2 2
      let w := arg args 8 8 / 8
      (arg args 0 1 = 3 → s.hw.fget (scrA b) 2 0 = 3 → (∀ i, i < n → (decDecode (s.hw.scrWord b (w + i))).2 ≠ .bad) →
        Answers (.memRead (.slot k) io) s k stOk fun m r => r = bytesOf 8 (8 * n) ∧
          m = (s.hw.reachBank b).writeOut ds
            ((List.range n).flatMap fun i => bytesOf 8 (decDecode (s.hw.scrWord b (w + i))).1.toNat)) ∧
      (n = 1 → (∀ v g, s.hw.hostReadWord (memPlace args 0) true = (.ok v, g) →
          Answers (.memRead (.slot k) io) s k stOk fun m r => m = g.writeOut ds (bytesOf 8 v.toNat) ∧ r = bytesOf 8 8) ∧
        ∀ e g, s.hw.hostReadWord (memPlace args 0) true = (.error e, g) →
          Answers (.memRead (.slot k) io) s k e.status fun m r =>
            m = g.writeOut ds (List.replicate 8 0xFF) ∧ r = bytesOf 8 0)) ∧
    (∀ d, d < 2 → args.length = 12 → arg args 0 4 = seqA d 0x30 → arg args 4 1 = 1 → arg args 5 3 = 0 → SlotRuns s.hw k 0x0C02 args →
      Answers (.ridgeTimeout (.register (.slot k) io 0)) s k stTimeout fun m r => m = s.hw ∧ r = [0]) ∧
    (args.length = 16 → readbackOk args = true → SlotBegins s.hw k 0x0408 args →
      s.hw.streams k io 0 (arg args 8 4 * (readbackUnit (arg args 0 1)).2.2) = some (.ok (ds, input)) →
      (s.hw.seq.run ≠ .empty → Answers (.readback (.slot k) io) s k stOk fun m r => r = bytesOf 4 (arg args 8 4) ∧
        m = s.hw.writeOut ds ((List.range (arg args 8 4)).flatMap fun i =>
          s.hw.readbackItem (arg args 0 1) (arg args 1 1) (arg args 2 2) (arg args 4 4 + i))) ∧
      (s.hw.seq.run = .empty → Answers (.readback (.slot k) io) s k stNotReady fun m r => m = s.hw ∧ r = []))

/-- BAR2 accesses of one aligned word on a module whose link is up (R444 to R446). In an aperture whose target is SCRATCH, on a bank
that HOST owns: a read of a word that is not uncorrectable returns its data and changes nothing, and a write stores the enabled
bytes over the others, with fresh check bits, and changes nothing else; a bank that a background test has borrowed comes back first,
and its idle time begins anew (R448). On a bank of another owner a read returns 0xFF bytes and a
write stores nothing; in an aperture without target, the same. Each failed access counts once, and the first one puts its offset,
its direction and its cause into BAR2_ERR. -/
def Obligations.Bar2Access : Prop :=
  ∀ (s : State) (a x : Nat), a < 4 → x + 8 ≤ 0x100000 → x % 8 = 0 → s.hw.reachable = true → s.hw.pstate < 3 →
    let off := a * 2 ^ 28 + x
    let target := s.hw.fget (hostifA (0x40 + 8 * a)) 1 0
    let b := x / 0x10000
    let w := x % 0x10000 / 8
    let reached := s.hw.reachBank b
    let failed := fun (h g : Hw) (write : Bool) (cause : Nat) =>
      g.fget (hostifA 0x68) 31 0 = min (2 ^ 32 - 1) (h.fget (hostifA 0x68) 31 0 + 1) ∧
        g.reg64 (hostifA 0x60) = (if h.bget (hostifA 0x64) 31 then h.reg64 (hostifA 0x60)
          else BitVec.ofNat 64 (off + (if write then 2 ^ 30 else 0) + 2 ^ 32 * cause + 2 ^ 63)) ∧
        OnlyRegs [hostifA 0x60, hostifA 0x64, hostifA 0x68] h { g with out := h.out, done := h.done }
    let blank := s.hw.out ++ [.readData (List.replicate 8 0xFF)]
    (target = 3 → s.hw.fget (scrA b) 2 0 = 3 → (decDecode (s.hw.scrWord b w)).2 ≠ .bad →
      (Does (.bar2Read off 8) s fun g => g = reached.emit (.readData (bytesOf 8 (decDecode (s.hw.scrWord b w)).1.toNat))) ∧
      ∀ bs : List (Option Byte), bs.length = 8 → bs.any Option.isSome = true → Does (.bar2Write off bs) s fun g =>
        (∃ v, g.scrWord b w = decEncode v ∧
          ∀ i, i < 8 → v.extractLsb' (8 * i) 8 =
            (bs.getD i none).getD ((decDecode (s.hw.scrWord b w)).1.extractLsb' (8 * i) 8)) ∧
        (∀ c i, i < 8192 → (c, i) ≠ (b, w) → g.scrWord c i = s.hw.scrWord c i) ∧ g = { reached with scratch := g.scratch }) ∧
    (∀ bs : List (Option Byte), bs.length = 8 → bs.all Option.isSome = true →
      (target = 3 → s.hw.fget (scrA b) 2 0 ≠ 3 →
        (Does (.bar2Read off 8) s fun g => failed reached g false 5 ∧ g.out = blank) ∧
        Does (.bar2Write off bs) s fun g => failed s.hw g true 5 ∧ g.out = s.hw.out) ∧
      (target = 0 →
        (Does (.bar2Read off 8) s fun g => failed s.hw g false 1 ∧ g.out = blank) ∧
        Does (.bar2Write off bs) s fun g => failed s.hw g true 1 ∧ g.out = s.hw.out) ∧
      (target = 3 →
        (Does (.ridgeTimeout (.bar2Read off 8)) s fun g => failed s.hw g false 3 ∧ g.out = blank) ∧
        Does (.ridgeTimeout (.bar2Write off bs)) s fun g => failed s.hw g true 3 ∧ g.out = s.hw.out))

/-- IMAGE_BEGIN with no load, reload, capture or restore open, of an identification that the module accepts and an image that it can stage:
OK, and a load of that header and length is open with no block. Its tests in order: BUSY, BAD_ARGUMENT for another LENGTH, REFUSED
for the identification, NO_RESOURCE (R258, R264, R265). IMAGE_BLOCK of a block of the open load stores its bytes and answers how
many distinct blocks are held; a block at no block's offset ends with BAD_ARGUMENT (R266). IMAGE_COMMIT with ABANDON closes the
load; without, a load that fails a test closes with that test's status, and LAST_STATUS and LAST_CHECK name it; a load that lacks a
block fails check 1 with INTEGRITY (R268, R286); a full load stays open, with BUSY, while a capture or a restore goes on (R381). Block and commit without a load end with REFUSED, and LAST_STATUS says so of the
commit, as it says OK of an ABANDON (R286). LOAD_TIMEOUT closes a load that
is receiving (R267). -/
def Obligations.ImageTransfer : Prop :=
  ∀ (s : State) (k : Nat) (io : HostIo) (args input : List Byte) (ds : List Desc),
    (args.length = 8 → SlotBegins s.hw k 0x0201 args → s.hw.streams k io 256 0 = some (.ok (ds, input)) →
      let open' := s.hw.img.load ≠ none ∨ s.hw.img.bay ≠ none ∨ (imgField input 5 1 = 0 ∧ s.hw.snapHolds = true)
      let len := arg args 0 8
      (open' → Answers (.imageBegin (.slot k) io) s k stBusy fun m r => m = s.hw ∧ r = []) ∧
      (¬ open' → imgField input 0x18 8 ≠ len →
        Answers (.imageBegin (.slot k) io) s k stBadArgument fun m r => m = s.hw ∧ r = []) ∧
      (¬ open' → imgField input 0x18 8 = len → s.hw.identOk input = false →
        Answers (.imageBegin (.slot k) io) s k stRefused fun m r => m = s.hw ∧ r = []) ∧
      (¬ open' → imgField input 0x18 8 = len → s.hw.identOk input = true → s.hw.noStaging input len = true →
        Answers (.imageBegin (.slot k) io) s k stNoResource fun m r => m = s.hw ∧ r = []) ∧
      (¬ open' → imgField input 0x18 8 = len → s.hw.identOk input = true → s.hw.noStaging input len = false →
        Answers (.imageBegin (.slot k) io) s k stOk fun m r => r = [] ∧
          (∃ l, m.img.load = some l ∧ l.kind = imgField input 5 1 ∧ l.bay = imgField input 9 1 ∧ l.length = len ∧
            l.head = input ∧ l.blocks = [] ∧ l.phase = .receiving) ∧
          m = { s.hw with img := { s.hw.img with load := m.img.load } })) ∧
    (∀ l, args.length = 8 → SlotBegins s.hw k 0x0202 args → s.hw.img.load = some l →
      let off := arg args 0 8
      (off % 65536 ≠ 0 ∨ l.length ≤ off → Answers (.imageBlock (.slot k) io) s k stBadArgument fun m r => m = s.hw ∧ r = []) ∧
      (off % 65536 = 0 → off < l.length → s.hw.streams k io (blockLen l.length off) 0 = some (.ok (ds, input)) → input ≠ [] →
        Answers (.imageBlock (.slot k) io) s k stOk fun m r => ∃ l', m.img.load = some l' ∧
          Store.get [] l'.blocks (off / 65536) = input ∧
          (∀ i, i ≠ off / 65536 → Store.get [] l'.blocks i = Store.get [] l.blocks i) ∧
          l' = { l with blocks := l'.blocks } ∧ r = bytesOf 4 l'.blocks.length ∧
          m = { s.hw with img := { s.hw.img with load := some l' } })) ∧
    (s.hw.img.load = none →
      (args.length = 8 → SlotBegins s.hw k 0x0202 args →
        Answers (.imageBlock (.slot k) io) s k stRefused fun m r => m = s.hw ∧ r = []) ∧
      (SlotRuns s.hw k 0x0203 [0] → Answers (.imageCommit (.slot k) io) s k stRefused fun m r => r = [] ∧
        m = { s.hw with img := { s.hw.img with lastStatus := stRefused, lastCheck := 0 } }) ∧
      exec .loadTimeout s = .next s) ∧
    (∀ l, s.hw.img.load = some l →
      (SlotRuns s.hw k 0x0203 [1] → Answers (.imageCommit (.slot k) io) s k stOk fun m r => r = List.replicate 12 0 ∧
        m = { s.hw with img := { s.hw.img with load := none, applyPending := false, lastStatus := stOk, lastCheck := 0 } }) ∧
      (SlotRuns s.hw k 0x0203 [0] → l.kind = 0 → s.hw.snapHolds = true →
        Answers (.imageCommit (.slot k) io) s k stBusy fun m r => m = s.hw ∧ r = []) ∧
      (SlotRuns s.hw k 0x0203 [0] → (l.kind = 0 → s.hw.snapHolds = false) → (s.hw.verdict l).status ≠ stOk → (s.hw.verdict l).status < 256 →
        Answers (.imageCommit (.slot k) io) s k (s.hw.verdict l).status fun m r => r = (s.hw.verdict l).reply ∧
          m.img = { s.hw.img with load := none, applyPending := false, lastStatus := (s.hw.verdict l).status,
                                  lastCheck := (s.hw.verdict l).check } ∧
          ((s.hw.verdict l).check ≠ 14 → m = { s.hw with img := m.img }) ∧
          ((s.hw.verdict l).check = 14 → Raised evLatencyMismatch 0 s.hw m)) ∧
      (SlotRuns s.hw k 0x0203 [0] → (l.kind = 0 → s.hw.snapHolds = false) → l.whole = none → Answers (.imageCommit (.slot k) io) s k stIntegrity fun m r =>
        m.img.load = none ∧ m.img.lastCheck = 1 ∧ arg r 0 2 = 1) ∧
      (l.phase = .receiving → Does .loadTimeout s fun g =>
        g = { s.hw with img := { s.hw.img with load := none, applyPending := false } }) ∧
      (l.phase ≠ .receiving → exec .loadTimeout s = .next s))

/-- IMAGE_APPLY of a whole, accepted image once no frame runs (R269, R270): the module is HELD at frame 0, with the schedule
length, HORIZON and input vector of the header; the image is the loaded one and is not formed; the load is closed; every design
memory bank belongs to DESIGN with no hand-over pending; slates, queues and calls are empty; the firmware store, the mailbox and the
time are as they were; the actions that have been performed before are not repeated, and after the rest the module is HELD with the
image loaded. IMAGE_COMMIT of a full image that passes, while no frame runs, performs action 1: the module is EMPTY, LOAD is
APPLYING and every bank belongs to the LOADER; its reply waits for action 9. While frames run on a head, IMAGE_COMMIT sends
RUN_CTRL with the halt code and its reply waits; until then IMAGE_APPLY changes nothing. -/
def Obligations.ImageApplied : Prop :=
  ∀ (s : State) (l : ImgLoad) (bs : List Byte), s.hw.img.load = some l → l.whole = some bs →
    let applied := fun g : Hw => g.seq.run = .held ∧ g.seq.frame = 0 ∧ g.seq.schedLen = imgField bs 0x44 2 ∧
      g.seq.horizon = imgField bs 0x46 2 ∧ g.seq.dev = BitVec.ofNat 64 (imgField bs 0x50 8) ∧ g.seq.deferred = false ∧
      g.img.loaded = some ⟨bs.take 256, BitVec.ofNat 64 (imgField bs 0x10 8)⟩ ∧ g.img.load = none ∧ g.img.unformed = true ∧
      (∀ d j, d < 2 → j < 64 → g.reg (bankA d (4 * j)) = 0) ∧ g.trusses = [] ∧ g.qpairs = [] ∧ g.calls.slots = [] ∧
      g.fw = s.hw.fw ∧ g.host = s.hw.host ∧ g.time = s.hw.time ∧ g.ports = s.hw.ports
    (s.hw.img.applyPending = true → s.hw.busy = false → s.hw.img.actions = 0 → Does .imageApply s applied) ∧
    (s.hw.img.applyPending = true → s.hw.busy = false → s.hw.img.actions < 9 → Does .imageApply s fun g =>
      g.seq.run = .held ∧ g.seq.frame = 0 ∧ g.img.load = none ∧ g.img.applyPending = false ∧ g.img.actions = 0 ∧
      g.img.loaded = some ⟨bs.take 256, BitVec.ofNat 64 (imgField bs 0x10 8)⟩ ∧ g.img.unformed = true) ∧
    (s.hw.img.applyPending = false ∨ s.hw.busy = true → exec .imageApply s = .next s) ∧
    ∀ (k : Nat) (io : HostIo), SlotRuns s.hw k 0x0203 [0] → l.kind = 0 → s.hw.snapHolds = false →
      (s.hw.verdict l).status = stOk →
      (s.hw.busy = false → Does (.imageCommit (.slot k) io) s fun g =>
        g.seq.run = .empty ∧ g.seq.inFrame = false ∧ g.img.applyPending = true ∧ g.img.actions = 1 ∧ g.img.loaded = none ∧
          g.img.load = some { l with phase := .applying } ∧ g.calls.slots = [] ∧ g.scrubSlots = [] ∧
          (∀ d j, d < 2 → j < 64 → g.reg (bankA d (4 * j)) = 0x11) ∧ g.rows = s.hw.rows ∧ g.trusses = s.hw.trusses ∧
          g.slotState k = 2 ∧ (∃ w ∈ g.host.waits, w.src = .slot k ∧ w.code = 0x0203)) ∧
      (s.hw.busy = true → s.hw.isHead = true → s.hw.conf.treePorts = [] → Does (.imageCommit (.slot k) io) s fun g =>
        g.img.applyPending = true ∧ g.img.actions = s.hw.img.actions ∧ g.slotState k = 2 ∧ (∃ w ∈ g.host.waits, w.src = .slot k ∧ w.code = 0x0203) ∧
          g.seq.syms = s.hw.seq.syms ++ [⟨.runCtrl, 3, s.hw.devIndex, s.hw.seq.clk + s.hw.seq.horizon, s.hw.seq.clk⟩] ∧
          g.rows = s.hw.rows ∧ g.regs = s.hw.regs ∧ g.trusses = s.hw.trusses)

/-- The five commands of a bay reload in progress (R273 to R278). BAY_ISOLATION: the bay's flashing cells take the settings of the
image, ZERO where it names none, and the other bays' cells keep theirs. BAY_WRITE_DONE: only course rows and bundles change, and no
row of a truss that the image does not name. BAY_INIT_START: the preloaded banks pass to the LOADER. BAY_INIT_DONE: with LOFT_INIT
every loft word of the bay is what the image gives, or 0, the write-backs that waited for these words are dropped (R66), and the
banks pass back to DESIGN. BAY_ACTIVATION, at the tick of a frame: the slates of the bay's trusses are cleared, all others stay,
the bay's rows that were marked bad are marked no more (R283), the reload is over and BAY_ACTIVATED is raised. After each,
BAY_STAT shows the phase of the bay. A phase that waits for a tick does not begin before it. -/
def Obligations.BayReloadPhases : Prop :=
  ∀ (s : State) (r : BayReload), s.hw.img.bay = some r → r.bay < 32 →
    let stat := trussA (r.bay / 16) 0x100
    let ss := sectsOf r.image
    let phase := fun (g : Hw) (ph : Nat) => g.img.bay = some { r with phase := ph, since := s.hw.seq.ticks }
    let shows := fun (g : Hw) (ph : Nat) => g.fget stat (2 * (r.bay % 16) + 1) (2 * (r.bay % 16)) = ph
    (r.phase = 0 → s.hw.bayGo r false = true → Does .bayIsolation s fun g => phase g 1 ∧ shows g 1 ∧
      (∀ c, cellBay c ≠ some r.bay → c ∉ (flashSettings ss).map (·.1) → Store.get 0 g.flash c = Store.get 0 s.hw.flash c) ∧
      (∀ c, cellBay c = some r.bay → c ∉ (flashSettings ss).map (·.1) → Store.get 0 g.flash c = 0) ∧
      (((flashSettings ss).map (·.1)).Nodup → ∀ kv ∈ flashSettings ss, Store.get 0 g.flash kv.1 = kv.2) ∧
      OnlyRegs [stat] { s.hw with flash := g.flash, flashHeld := g.flashHeld, img := g.img } g) ∧
    (r.phase = 1 → Does .bayWriteDone s fun g => phase g 2 ∧
      (∀ T w, w < 2048 → (∀ x ∈ ss, x.type = 1 → T ∉ (sectTrusses x).map (trussIx x.die)) → g.row T w = s.hw.row T w) ∧
      g = { s.hw with rows := g.rows, bundles := g.bundles, img := g.img }) ∧
    (r.phase = 2 → s.hw.bayGo r false = true → Does .bayInitStart s fun g => phase g 3 ∧ shows g 2 ∧
      (∀ j ∈ preBanks ss, g.fget (bankA (r.bay / 16) (4 * j)) 2 0 = 1) ∧
      OnlyRegs (stat :: (preBanks ss).map fun j => bankA (r.bay / 16) (4 * j)) { s.hw with img := g.img } g) ∧
    (r.phase = 3 → Does .bayInitDone s fun g => phase g 4 ∧ shows g 3 ∧
      (r.loftInit = true → ∀ t ∈ bayTrusses (r.bay % 16), ∀ w, w < 2048 →
        g.loft (trussIx (r.bay / 16) t) w = decEncode (loftWordOf ss t w)) ∧
      (r.loftInit = false → g.lofts = s.hw.lofts) ∧
      (∀ j ∈ preBanks ss, g.reg (bankA (r.bay / 16) (4 * j)) = 0) ∧
      (∀ T, { g.truss T with wb := [] } = { s.hw.truss T with wb := [] }) ∧
      (∀ T, T ∉ (bayTrusses (r.bay % 16)).map (trussIx (r.bay / 16)) ∨ r.loftInit = false → g.truss T = s.hw.truss T) ∧
      (r.loftInit = true → ∀ t ∈ bayTrusses (r.bay % 16), ∀ w ∈ (g.truss (trussIx (r.bay / 16) t)).wb, 2048 ≤ w.addr) ∧
      (∀ B, { g.bank B with wb := [] } = { s.hw.bank B with wb := [] }) ∧
      (∀ B, B ∉ (preBanks ss).map (64 * (r.bay / 16) + ·) → g.bank B = s.hw.bank B) ∧
      g = { s.hw with lofts := g.lofts, bankMem := g.bankMem, bankValid := g.bankValid, regs := g.regs, img := g.img,
                      trusses := g.trusses, banks := g.banks,
                      snap := { s.hw.snap with loftPlane := g.snap.loftPlane, bankPlane := g.snap.bankPlane } }) ∧
    (r.phase = 4 → s.hw.bayTick r = true → Does .bayActivation s fun g => g.img.bay = none ∧ shows g 0 ∧
      (∀ t ∈ bayTrusses (r.bay % 16), (g.truss (trussIx (r.bay / 16) t)).slate = []) ∧
      (∀ T, T ∉ (bayTrusses (r.bay % 16)).map (trussIx (r.bay / 16)) → g.truss T = s.hw.truss T) ∧
      (∀ k, k < 16 → let a := scrubA (r.bay / 16) (0x40 + 4 * k)
        g.reg a = if s.hw.bget a 31 ∧ bayOf (s.hw.fget a 8 0) = r.bay % 16 then 0 else s.hw.reg a) ∧
      g.snap.bayGen = s.hw.snap.bayGen + 1 ∧ Raised (evBayActivated r.bay) 0 s.hw g ∧ g.seq = s.hw.seq ∧
      g.rows = s.hw.rows ∧ g.lofts = s.hw.lofts) ∧
    (r.phase = 0 → s.hw.bayGo r false = false → exec .bayIsolation s = .next s) ∧
    (r.phase = 2 → s.hw.bayGo r false = false → exec .bayInitStart s = .next s) ∧
    (r.phase = 4 → s.hw.bayTick r = false → exec .bayActivation s = .next s)

/-- FW_BLOCK of an aligned offset and the transfer's LENGTH: the sector holds the block, every other sector is as it was, the bank
no longer boots, the other bank is untouched (R473, R477); another LENGTH ends with BAD_ARGUMENT. FW_VERIFY of a complete transfer
whose image passes Table 19.2 answers VERSION, COUNTER and the fuses and marks the image verified; one that fails ends with the
failure's status, raises FW_VERIFY_FAILED, and closes the transfer; without a transfer it ends with INTEGRITY (R478). FW_ACTIVATE is
refused without a verified image; with one, at once, it answers the frame and sets the pending switch 100 ms ahead (R479, R480).
FW_SWITCH at that count: the other bank is active, nothing is verified, pending or open, a command that has not begun, or
has only asked for tests, ends with BUSY, and a hand-over record stands in scratch bank 1; before it nothing changes (R481).
FW_NEW_READY of a bank that boots burns the fuses up to its COUNTER and raises
FW_ACTIVATED, and of one that does not, returns to the other bank and raises FW_VERIFY_FAILED (R474, R481, R483).
UART_RECOVERY_IMAGE, while neither bank boots, puts a valid image into the active bank, and ignores any other (R483). -/
def Obligations.FirmwareUpdate : Prop :=
  ∀ s : State, s.hw.fw.active ≤ 1 →
    (∀ (k : Nat) (io : HostIo) (args input : List Byte) (ds : List Desc),
      let off := arg args 0 4
      let len := arg args 4 4
      args.length = 8 → off % 4096 = 0 → len % 4 = 0 → 4096 ≤ len → len ≤ 33554432 → off < len → SlotBegins s.hw k 0x0B01 args →
      s.hw.streams k io (min 4096 (len - off)) 0 = some (.ok (ds, input)) →
      let b := s.hw.fw.inactive
      ((∀ t, s.hw.fw.transfer = some t → t.1 = len) → Answers (.fwBlock (.slot k) io) s k stOk fun m r => r = [] ∧
        Store.get [] (m.fw.bank b).sectors (off / 4096) = input ∧
        (∀ i, i ≠ off / 4096 → Store.get [] (m.fw.bank b).sectors i = Store.get [] (s.hw.fw.bank b).sectors i) ∧
        (m.fw.bank b).boots = false ∧ m.fw.bank s.hw.fw.active = s.hw.fw.bank s.hw.fw.active ∧
        (∃ got, m.fw.transfer = some (len, got) ∧ off / 4096 ∈ got) ∧ m = { s.hw with fw := m.fw }) ∧
      (∀ t, s.hw.fw.transfer = some t → t.1 ≠ len →
        Answers (.fwBlock (.slot k) io) s k stBadArgument fun m r => m = s.hw ∧ r = [])) ∧
    (∀ (k : Nat) (io : HostIo), SlotRuns s.hw k 0x0B02 [] →
      (s.hw.fw.transfer = none → Answers (.fwVerify (.slot k) io) s k stIntegrity fun m r => r = [] ∧
        m = s.hw.raise evFwVerifyFailed) ∧
      ∀ len got, s.hw.fw.transfer = some (len, got) → (∀ i, i < (len + 4095) / 4096 → i ∈ got) →
        let bs := (s.hw.fw.bank s.hw.fw.inactive).bytes len
        (fwCheck s.hw.fw.fuses len bs = none → Answers (.fwVerify (.slot k) io) s k stOk fun m r => r.length = 16 ∧
          arg r 0 4 = imgField bs 8 4 ∧ arg r 4 4 = imgField bs 0xC 4 ∧ arg r 8 8 = s.hw.fw.fuses % 2 ^ 64 ∧
          m.fw.verified = true ∧ m.fw.transfer = none ∧ m.fw.bank s.hw.fw.active = s.hw.fw.bank s.hw.fw.active ∧
          m = { s.hw with fw := m.fw }) ∧
        ∀ e, fwCheck s.hw.fw.fuses len bs = some e → e < 256 → Answers (.fwVerify (.slot k) io) s k e fun m r => r = [] ∧
          m.fw = { s.hw.fw with transfer := none } ∧ Raised evFwVerifyFailed 0 s.hw m) ∧
    (∀ (k : Nat) (io : HostIo) (args : List Byte), args.length = 20 → arg args 0 1 = 0 → arg args 1 3 = 0 →
      arg args 18 2 = 0 → SlotRuns s.hw k 0x0B03 args → s.hw.conf.members = [] →
      (s.hw.fw.verified = false → Answers (.fwActivate (.slot k) io) s k stRefused fun m r => m = s.hw ∧ r = []) ∧
      (s.hw.fw.verified = true → Answers (.fwActivate (.slot k) io) s k stOk fun m r =>
        r = bytesOf 8 s.hw.seq.frame.toNat ∧ m = { s.hw with fw := { s.hw.fw with
          pending := some (s.hw.instantCount (s.hw.time.now + msUnits 100), timeValue (s.hw.time.now + msUnits 100)) } })) ∧
    (∀ n t, s.hw.fw.pending = some (n, t) →
      (s.hw.seq.clk < n → exec .fwSwitch s = .next s) ∧
      (n ≤ s.hw.seq.clk → Does .fwSwitch s fun g => g.host.fwSwitch = true ∧ g.fw.active = 1 - s.hw.fw.active ∧
        g.fw.verified = false ∧ g.fw.pending = none ∧ g.fw.transfer = none ∧ g.fw.session = none ∧ g.host.ring = [] ∧
        g.fw.bankA = s.hw.fw.bankA ∧ g.fw.bankB = s.hw.fw.bankB ∧ g.seq.run = s.hw.seq.run ∧ g.rows = s.hw.rows ∧
        ∀ j, j < 8 → 1 ≤ s.hw.slotState j → s.hw.slotState j ≤ 3 → s.hw.host.waits.any (fun w => w.src == .slot j) = false →
          g.slotState j = 5 ∧ (g.slotByte j 8).toNat = stBusy) ∧
      (n ≤ s.hw.seq.clk → Does .fwSwitch s fun g => (∃ v, g.scrWord 1 0 = decEncode v) ∧
        ∀ j w, j < 8 → w ∈ s.hw.host.waits → w.src = .slot j → w.phase = 0 →
          g.slotState j = 5 ∧ (g.slotByte j 8).toNat = stBusy)) ∧
    (s.hw.host.fwSwitch = true →
      (s.hw.fw.bootable s.hw.fw.active = true → Does (.fwNewReady true) s fun g => g.host.fwSwitch = false ∧
        g.fw.fuses = max s.hw.fw.fuses (min 64 (s.hw.fw.bank s.hw.fw.active).started.counter) ∧ g.fw.active = s.hw.fw.active ∧
        g.fw.layout = (s.hw.fw.bank s.hw.fw.active).started.layout ∧
        OnPath evFwActivated s.hw g) ∧
      ∀ ok, ok = false ∨ s.hw.fw.bootable s.hw.fw.active = false → Does (.fwNewReady ok) s fun g =>
        g.host.fwSwitch = false ∧ g.fw.active = 1 - s.hw.fw.active ∧ g.fw.fuses = s.hw.fw.fuses ∧
          Raised evFwVerifyFailed 0 s.hw g) ∧
    (∀ bytes, s.hw.power.powered = true → s.hw.power.hot = false → s.hw.fw.stuck = true →
      (fwCheck s.hw.fw.fuses bytes.length bytes = none → Does (.uartRecoveryImage bytes) s fun g =>
        g.fw.stuck = false ∧ (g.fw.bank s.hw.fw.active).boots = true ∧
          (g.fw.bank s.hw.fw.active).version = imgField bytes 8 4 ∧
          g.fw.bank (1 - s.hw.fw.active) = s.hw.fw.bank (1 - s.hw.fw.active) ∧ g.power.alertPin = false) ∧
      (fwCheck s.hw.fw.fuses bytes.length bytes ≠ none → exec (.uartRecoveryImage bytes) s = .next s))

/-- ACCESS_CHALLENGE outside a lockout answers a nonce and keeps it; in one it ends with LOCKED, zero bytes and the seconds that
remain. ACCESS_RESPONSE: in a lockout LOCKED; without a nonce REFUSED; a right one opens a session of its METHOD for 28,800 s,
uses up the nonce and clears the failure count, with ACCESS_OPENED; a wrong one ends with REFUSED, uses up the nonce and counts a
failure, with ACCESS_FAILED, and from the fifth on begins a lockout of 60 s, or twice the last one up to a day (R484, R485).
ACCESS_CLOSE and SESSION_EXPIRY end the session, and every bank that TEST owns is requested for MP (R486). NONCE_EXPIRY drops the
nonce, and LOCKOUT_END ends a lockout of which no more than the present clock remains. Nonces, and what the vendor key and HMAC verify, are not known to the model (log entries 3
and 4).
ACCESS_KEY_WRITE in a service session (R487): a word below 7 joins the words written so far and leaves the key in force; word
7 makes the eight words the key. Outside a session a write changes nothing. Nothing but the firmware store changes. -/
def Obligations.ServiceAccess : Prop :=
  (∀ s : State,
     (∀ (k : Nat) (io : HostIo), SlotRuns s.hw k 0x0B05 [] →
       (s.hw.fw.lockLeft = 0 → Answers (.accessChallenge (.slot k) io) s k stOk fun m r => ∃ n,
         r = bytesOf 32 n.toNat ++ [0, 0, 0, 0] ∧
           m = { s.hw with fw := { s.hw.fw with nonce := some n, nonces := s.hw.fw.nonces + 1 } }) ∧
       (s.hw.fw.lockLeft ≠ 0 → Answers (.accessChallenge (.slot k) io) s k stLocked fun m r => m = s.hw ∧
         r = List.replicate 32 0 ++ bytesOf 4 ((s.hw.fw.lockLeft + unitsPerSec - 1) / unitsPerSec))) ∧
     (∀ (k : Nat) (io : HostIo) (args : List Byte), args.length = 68 → arg args 0 1 ≤ 1 → arg args 1 3 = 0 →
       arg args 0 1 = 0 ∨ arg args 36 32 = 0 → SlotRuns s.hw k 0x0B06 args →
       (s.hw.fw.lockLeft ≠ 0 → Answers (.accessResponse (.slot k) io) s k stLocked fun m r => m = s.hw ∧ r = []) ∧
       (s.hw.fw.lockLeft = 0 → s.hw.fw.nonce = none →
         Answers (.accessResponse (.slot k) io) s k stRefused fun m r => m = s.hw ∧ r = []) ∧
       ∀ n, s.hw.fw.lockLeft = 0 → s.hw.fw.nonce = some n →
         (s.hw.responseOk n (arg args 0 1) (args.drop 4) = true →
           Answers (.accessResponse (.slot k) io) s k stOk fun m r => r = bytesOf 4 28800 ∧
             m.fw = { s.hw.fw with nonce := none, failures := 0, lockLen := 0, session := some (arg args 0 1) } ∧
             Raised evAccessOpened 0 s.hw m ∧ m = { s.hw with fw := m.fw, fault := m.fault }) ∧
         (s.hw.responseOk n (arg args 0 1) (args.drop 4) = false →
           Answers (.accessResponse (.slot k) io) s k stRefused fun m r => r = [] ∧ m.fw.nonce = none ∧
             m.fw.failures = s.hw.fw.failures + 1 ∧ m.fw.session = s.hw.fw.session ∧
             m.fw.lockLen = (if s.hw.fw.failures < 4 then s.hw.fw.lockLen
               else if s.hw.fw.lockLen = 0 then 60 else min 86400 (2 * s.hw.fw.lockLen)) ∧
             m.fw.lockLeft = (if s.hw.fw.failures < 4 then 0 else m.fw.lockLen * unitsPerSec) ∧
             m = { s.hw with fw := m.fw, fault := m.fault })) ∧
     ((let closed := fun g : Hw => g.fw = { s.hw.fw with session := none } ∧
         (∀ d j, d < 2 → j < 64 →
           (s.hw.fget (bankA d (4 * j)) 2 0 = 4 →
             g.fget (bankA d (4 * j)) 6 4 = 2 ∧ g.bget (bankA d (4 * j)) 3 = true ∧ g.fget (bankA d (4 * j)) 2 0 = 4) ∧
           (s.hw.fget (bankA d (4 * j)) 2 0 ≠ 4 → g.reg (bankA d (4 * j)) = s.hw.reg (bankA d (4 * j)))) ∧
         g = { s.hw with fw := g.fw, regs := g.regs }
       (s.hw.fw.session ≠ none → Does .sessionExpiry s closed ∧
         ∀ (k : Nat) (io : HostIo), SlotRuns s.hw k 0x0B07 [] →
           Answers (.accessClose (.slot k) io) s k stOk fun m r => r = [] ∧ closed m) ∧
       (s.hw.fw.session = none → exec .sessionExpiry s = .next s))) ∧
     (Does .nonceExpiry s fun g => g = { s.hw with fw := { s.hw.fw with nonce := none } }) ∧
     (s.hw.fw.lockLeft ≤ s.hw.clockUnitsLeft → Does .lockoutEnd s fun g =>
       g = { s.hw with fw := { s.hw.fw with lockLeft := 0 } }) ∧
     (s.hw.clockUnitsLeft < s.hw.fw.lockLeft → exec .lockoutEnd s = .next s)) ∧
  (∀ (s : State) (v : Word32),
     (∀ k, k < 7 → s.hw.session = true → Does (.accessKeyWrite k v) s fun g =>
       fld g.fw.keyWords (32 * k + 31) (32 * k) = v.toNat ∧ g.fw.key = s.hw.fw.key ∧
         g = { s.hw with fw := { s.hw.fw with keyWords := g.fw.keyWords } }) ∧
     (s.hw.session = true → Does (.accessKeyWrite 7 v) s fun g =>
       fld g.fw.key 255 224 = v.toNat ∧ fld g.fw.key 223 0 = fld s.hw.fw.keyWords 223 0 ∧
         g = { s.hw with fw := { s.hw.fw with key := g.fw.key, keyWords := g.fw.key } }) ∧
     (∀ k, k < 8 → s.hw.session = false → exec (.accessKeyWrite k v) s = .next s))

/-- ACQ_ARM of a domain of this module alone, on a module without members (R351, R356, R466): OK and the records of one segment, the
state ARMING at segment 0, MODE, SEGMENTS, PRE, POST and the domain in their registers, and TRIGGER 0xFE sent by the lead, but in EMPTY, where no symbol is sent (R271); without
a buffer NO_RESOURCE, with segments too small for PRE and POST BAD_ARGUMENT, and while an acquisition goes on BUSY, with no
effect. ACQ_STOP that names this module, and a write of ACQ.CTRL with STOP, end an acquisition that goes on: the state is ABORTED and
ACQ_ABORTED is raised (R355), and the descriptor of the segment, written over the ridge network, touches the sequencer and no
other register; otherwise they change nothing. ACQ_SEGMENT_ARM, when the lead's 0xFE takes effect in ARMING: the
segment begins with a FRAME_BASE and the state is PRE, or READY when PRE asks for no more (R342, R352, R356). -/
def Obligations.AcqArmAndStop : Prop :=
  ∀ (s : State) (k : Nat) (io : HostIo),
    (∀ args, args.length = 24 → arg args 0 1 ≤ 2 → arg args 2 2 = 0 → arg args 12 4 = 0 → s.hw.conf.members = [] →
      s.hw.domain (arg args 16 8) = [s.hw.devIndex] → SlotRuns s.hw k 0x0701 args →
      let size := (s.hw.reg (acqA 0x10)).toNat
      let segs := arg args 1 1 + 1
      let small := size / segs < arg args 4 4 + arg args 8 4 + 5
      (size = 0 → Answers (.acqArm (.slot k) io) s k stNoResource fun m r => m = s.hw ∧ r = []) ∧
      (size ≠ 0 → small → Answers (.acqArm (.slot k) io) s k stBadArgument fun m r => m = s.hw ∧ r = []) ∧
      (size ≠ 0 → ¬ small → s.hw.acqActive = true → Answers (.acqArm (.slot k) io) s k stBusy fun m r => m = s.hw ∧ r = []) ∧
      (size ≠ 0 → ¬ small → s.hw.acqActive = false → Answers (.acqArm (.slot k) io) s k stOk fun m r =>
        r = bytesOf 4 (size / segs - 4) ∧ m.acqState = 1 ∧ m.acqSegment = 0 ∧ m.acqMode = arg args 0 1 ∧
        m.acqSegments = segs ∧ m.reg (acqA 0x14) = BitVec.ofNat 32 (arg args 4 4) ∧
        m.reg (acqA 0x18) = BitVec.ofNat 32 (arg args 8 4) ∧ m.reg (acqA 0x20) = BitVec.ofNat 32 (1 + 256 * s.hw.devIndex) ∧
        m.acq.members = [s.hw.devIndex] ∧
        m.seq.syms = s.hw.seq.syms ++ (if s.hw.seq.run = .empty then []
          else [⟨.trigger, 0xFE, s.hw.devIndex, s.hw.seq.clk + s.hw.seq.horizon, s.hw.seq.clk⟩]) ∧
        (∀ a, a ∉ [acqA 0, acqA 0x14, acqA 0x18, acqA 0x20, acqA 0x24] → m.reg a = s.hw.reg a) ∧
        m.farMem = s.hw.farMem ∧ m.trusses = s.hw.trusses)) ∧
    (let aborted := fun g : Hw => g.acqState = 6 ∧ g.acq.trig = none ∧
        OnPath evAcqAborted s.hw g ∧ g.trusses = s.hw.trusses ∧
        (FarIdle s.hw ∧ s.hw.snap.capture = none ∨ 2 ≤ s.hw.pstate → Raised evAcqAborted 0 s.hw g ∧
          (∀ a, a ≠ acqA 0x24 → g.reg a = s.hw.reg a) ∧ g.seq = s.hw.seq)
     (∀ args, args.length = 8 → s.hw.conf.members = [] → SlotRuns s.hw k 0x0702 args →
        ((arg args 0 8).testBit s.hw.devIndex = true → s.hw.acqActive = true →
          Answers (.acqStop (.slot k) io) s k stOk fun m r => aborted m ∧ r = []) ∧
        ((arg args 0 8).testBit s.hw.devIndex = false ∨ s.hw.acqActive = false →
          Answers (.acqStop (.slot k) io) s k stOk fun m r => m = s.hw ∧ r = [])) ∧
     (∀ v : Word32,
        (bit v 10 = true → s.hw.acqActive = true → Does (.acqCtrlStop v) s aborted) ∧
        (bit v 10 = false ∨ s.hw.acqActive = false → exec (.acqCtrlStop v) s = .next s))) ∧
    (∀ x rest, s.hw.seq.syms = x :: rest → x.kind = .trigger → x.arg = 0xFE → x.origin = s.hw.fget (acqA 0x20) 13 8 →
      x.eff ≤ s.hw.seq.clk →
      (s.hw.acqState = 1 → Does .acqSegmentArm s fun g =>
        g.acqState = (if (s.hw.reg (acqA 0x14)).toNat ≤ 1 then 3 else 2) ∧ g.seq.syms = rest ∧
          (FarIdle s.hw → s.hw.snap.capture = none → g.seq = { s.hw.seq with syms := rest }) ∧ g.bget (acqA 0x24) 11 = s.hw.bget (acqA 0x24) 11 ∧
          g.acq.armTag = s.hw.nextTag ∧ g.acq.autoClks = 0 ∧ g.acq.autoAt = none ∧ g.acq.written = 1 ∧ g.acq.counted = 1 ∧
          g.acq.trigIndex = none ∧ g.acqSegment = s.hw.acqSegment ∧
          g.reg (acqA 0x2C) = BitVec.ofNat 32 (min 0xFFFFFFFF (s.hw.seq.ticks - s.hw.acq.deadFrom)) ∧
          g.trusses = s.hw.trusses) ∧
      (s.hw.acqState ≠ 1 → Does .acqSegmentArm s fun g => g = { s.hw with seq := { s.hw.seq with syms := rest } }))

/-- ACQ_WRITE of the record that comes next in tag order (R342, R343, R351): outside PRE, READY and POST, or before the segment's
tag, it is passed over; in a segment, once every earlier instant has been evaluated, and with no FRAME_BASE or GAP due, it is
stored at the next place of the segment's ring with its frame distance, and POST counts down after the trigger. Nothing is
stored once the segment is full, nor past an instant that has not been evaluated or a sample whose successor may still place a
TRIGGER record. A writer that has fallen behind, because more records wait than it takes (log entry 50), loses the newest, one after the
other, and a GAP with reason 4 and their number is stored before the next record at or after them (R343). SEGMENT_END once POST records have followed the trigger:
ACQ_DONE is raised, and the state is DONE, or ARMING at the next segment as MODE gives (R353, R354). AUTO_TRIGGER at the forced
instant, everything up to it evaluated: the trigger registers hold its tag and source 9, AUTO reads 1 and the state is POST
(R357). -/
def Obligations.AcqRecords : Prop :=
  ∀ s : State,
    (∃ t, exec .acqWrite s = .next t ∧ t.hw.trusses = s.hw.trusses) ∧
    (∀ r rest, Config.writerRoom + 1 < s.hw.waitingRecs → s.hw.newestRec = some (r, rest) →
      exec .acqWrite s = exec .acqWrite { s with hw := { rest with
        acq := { rest.acq with wlost := rest.acq.wlost + r.gap + 1, wtag := (r.frame, r.clock) } } }) ∧
    (s.hw.waitingRecs ≤ Config.writerRoom + 1 → s.hw.nextRec = none → exec .acqWrite s = .next s) ∧
    (∀ r without, s.hw.waitingRecs ≤ Config.writerRoom + 1 → s.hw.nextRec = some (r, without) →
      let active := 2 ≤ s.hw.acqState ∧ s.hw.acqState ≤ 4
      let full := s.hw.acqState = 4 ∧ s.hw.acq.trigIndex ≠ none ∧ s.hw.acq.postLeft = 0
      let early := s.hw.acq.insts.any fun i =>
        decide (i.frame < r.frame) || (i.frame == r.frame && decide (i.clock ≤ r.clock))
      (¬ active ∨ (r.ord ≠ 1000 ∧ s.hw.inSegment r.frame r.clock = false) → Does .acqWrite s fun g => g = without) ∧
      let held := r.ord ≠ 1000 ∧ s.hw.mayPrecede r = true
      let lost := s.hw.acq.wlost ≠ 0 ∧ (s.hw.acq.wtag.1 < r.frame ∨ s.hw.acq.wtag.1 = r.frame ∧ s.hw.acq.wtag.2 ≤ r.clock)
      let w := s.hw.segBase + 8 + 2 * (s.hw.acq.written % max 1 s.hw.acqRing)
      (active → s.hw.inSegment r.frame r.clock = true → full ∨ early = true ∨ held → exec .acqWrite s = .next s) ∧
      (active → s.hw.inSegment r.frame r.clock = true → ¬ full → early = false → ¬ held → s.hw.acq.sinceBase < 4095 →
        r.frame - s.hw.acq.lastFrame < 2 ^ 36 → lost → FarIdle s.hw → s.hw.snap.capture = none → Does .acqWrite s fun g =>
          let v := setFld (recBody 5 (min s.hw.acq.wlost 0xFFFFFFFF + 4 * 2 ^ 32)) 123 88 (r.frame - s.hw.acq.lastFrame)
          g.farWord s.hw.acqDie w = decEncode (v.extractLsb' 0 64) ∧
            g.farWord s.hw.acqDie (w + 1) = decEncode (v.extractLsb' 64 64) ∧ g.acq.wlost = 0 ∧
            g.acq.written = s.hw.acq.written + 1 ∧ g.nextRec.map (·.1) = some r ∧ g.seq = s.hw.seq) ∧
      (active → s.hw.inSegment r.frame r.clock = true → ¬ full → early = false → ¬ held → s.hw.acq.sinceBase < 4095 →
        r.frame - s.hw.acq.lastFrame < 2 ^ 36 → ¬ lost → r.gap = 0 → r.ord ≠ 1000 → FarIdle s.hw → s.hw.snap.capture = none →
        Does .acqWrite s fun g =>
          let v := setFld r.body 123 88 (r.frame - s.hw.acq.lastFrame)
          g.farWord s.hw.acqDie w = decEncode (v.extractLsb' 0 64) ∧
            g.farWord s.hw.acqDie (w + 1) = decEncode (v.extractLsb' 64 64) ∧ g.acq.written = s.hw.acq.written + 1 ∧
            g.acq.lastFrame = r.frame ∧
            (s.hw.acq.trigIndex ≠ none → g.acq.postLeft = s.hw.acq.postLeft - 1 ∧ g.acqState = s.hw.acqState) ∧
            (s.hw.acq.trigIndex = none → g.acq.counted = s.hw.acq.counted + 1 ∧
              g.acqState = (if s.hw.acqState = 2 ∧ (s.hw.reg (acqA 0x14)).toNat ≤ s.hw.acq.counted + 1 then 3
                else s.hw.acqState)) ∧
            g.seq = s.hw.seq)) ∧
    (s.hw.acqState = 4 → s.hw.acq.trigIndex ≠ none → s.hw.acq.postLeft = 0 → Does .segmentEnd s fun g =>
      let seg := s.hw.acqSegment
      let last := s.hw.acqSegments ≤ seg + 1
      OnPath evAcqDone s.hw g ∧
        (FarIdle s.hw → s.hw.snap.capture = none → Raised evAcqDone 0 s.hw g) ∧ g.acqMode = s.hw.acqMode ∧
        ((s.hw.acqMode = 1 ∧ ¬ last) ∨ s.hw.acqMode = 2 → g.acqState = 1 ∧
          g.acqSegment = (if last then 0 else seg + 1) ∧ g.acq.deadFrom = s.hw.seq.ticks) ∧
        (s.hw.acqMode = 0 ∨ (s.hw.acqMode = 1 ∧ last) → g.acqState = 5 ∧ g.acqSegment = seg ∧ (FarIdle s.hw → s.hw.snap.capture = none → g.seq = s.hw.seq))) ∧
    (s.hw.acqState ≠ 4 ∨ s.hw.acq.trigIndex = none ∨ s.hw.acq.postLeft ≠ 0 → exec .segmentEnd s = .next s) ∧
    (∀ f c p, s.hw.acq.autoAt = some (f, c, p) → s.hw.acqMode = 2 → s.hw.acqState = 2 ∨ s.hw.acqState = 3 →
      s.hw.acq.insts = [] → Does .autoTrigger s fun g => g.acqState = 4 ∧ g.bget (acqA 0x24) 11 = true ∧
        g.reg64 (acqA 0x30) = BitVec.ofNat 64 f ∧
        g.reg64 (acqA 0x38) = BitVec.ofNat 64 (c % 2 ^ 24 + p % 65536 * 2 ^ 32 + 9 * 2 ^ 48) ∧
        (∃ r, g.acq.trig = some r ∧ r.frame = f ∧ r.clock = c) ∧ g = { s.hw with regs := g.regs, acq := g.acq }) ∧
    (s.hw.acq.autoAt = none → exec .autoTrigger s = .next s)

/-- WORD_CHANNEL_FRAME_LOCK and WORD_CHANNEL_LOCK_LOSS set and clear the channel's lock bit and nothing else (R498). WORD_SAMPLE of
a locked channel stores the sample; while the configuration runs, one of an enabled channel waits for the end of the course clock,
which numbers it, one higher each time, and in a frame stamps it with its frame and course clock (R340); without
lock nothing changes. TRIGGER_EVAL of the oldest instant: with no true slot it is passed and the counter hits are forgotten, when no forced trigger comes before it (R357); with
the lowest true slot a plain GOTO, the sequencer is in that state afterwards (R347). TRIGGER_TIMER_EXPIRY: a running timer whose
count is at most 1 stops at 0 at the oldest instant, which remembers it (R347). -/
def Obligations.TriggerSequencer : Prop :=
  ∀ s : State,
    (∀ k, k < 32 →
      (Does (.wordChannelFrameLock k) s fun g => g.bget (userioA 0x104) k = true ∧
        (∀ n, n < 32 → n ≠ k → g.bget (userioA 0x104) n = s.hw.bget (userioA 0x104) n) ∧ OnlyRegs [userioA 0x104] s.hw g) ∧
      (Does (.wordChannelLockLoss k) s fun g => g.bget (userioA 0x104) k = false ∧
        (∀ n, n < 32 → n ≠ k → g.bget (userioA 0x104) n = s.hw.bget (userioA 0x104) n) ∧ OnlyRegs [userioA 0x104] s.hw g) ∧
      ∀ v : BitVec 16,
        (s.hw.bget (userioA 0x104) k = false → exec (.wordSample k v) s = .next s) ∧
        (s.hw.bget (userioA 0x104) k = true → s.hw.inRun = false ∨ s.hw.bget (wchA k 0) 0 = false →
          Does (.wordSample k v) s fun g => g.reg (wchA k 8) = v.setWidth 32 ∧ OnlyRegs [wchA k 8] s.hw g) ∧
        (s.hw.bget (userioA 0x104) k = true → s.hw.inRun = true → s.hw.bget (wchA k 0) 0 = true →
          Does (.wordSample k v) s fun g => g.reg (wchA k 8) = v.setWidth 32 ∧ (∀ a, a ≠ wchA k 8 → g.reg a = s.hw.reg a) ∧
            g = { s.hw with regs := g.regs, acq := { s.hw.acq with inbox := s.hw.acq.inbox ++ [(k, v)] } }) ∧
        (s.hw.acq.inbox = [(k, v)] →
          let g := s.hw.takeSamples
          g.reg (wchA k 0xC) = BitVec.ofNat 32 (Store.get 0 s.hw.acq.next k) ∧
            Store.get 0 g.acq.next k = Store.get 0 s.hw.acq.next k + 1 ∧
            (s.hw.frameClock = true → ∃ p, Store.get none g.acq.prev k = some p ∧ p.value = v ∧
              p.frame = s.hw.seq.frame.toNat ∧ p.clock = s.hw.seq.fclk ∧ p.seq = Store.get 0 s.hw.acq.next k) ∧
            (∀ a, a ∉ [wchA k 0xC, probeA 0x44] → g.reg a = s.hw.reg a) ∧
            g = { s.hw with regs := g.regs, acq := g.acq } ∧ g.acq.inbox = [])) ∧
    (∀ i rest t, s.hw.acq.autoAt = none → s.hw.acq.insts = i :: rest → i.timers = some t →
      ((∀ c, c < 4 → s.hw.slotTrue i c = false) → Does .triggerEval s fun g =>
        g = { s.hw with acq := { s.hw.acq with insts := rest, cntHit := 0 } }) ∧
      ∀ c, c < 4 → s.hw.slotTrue i c = true → (∀ b, b < c → s.hw.slotTrue i b = false) →
        let act := s.hw.reg (slotA s.hw.acq.tstate c 4)
        bit act 4 = true → bit act 5 = false → bit act 6 = false → fld act 18 17 = 0 → fld act 22 21 = 0 →
        Does .triggerEval s fun g =>
          g = { s.hw with acq := { s.hw.acq with insts := rest, cntHit := 0, tstate := fld act 3 0 } }) ∧
    (∀ k i rest, k < 4 → s.hw.acq.insts = i :: rest → i.timers = none → i.rearm = false → bit s.hw.acq.tmrOn k = true →
      (s.hw.reg64 (probeA (0xA40 + 16 * k))).toNat ≤ 1 → Does (.triggerTimerExpiry k) s fun g =>
        g.reg64 (probeA (0xA40 + 16 * k)) = 0 ∧ bit g.acq.tmrOn k = false ∧
          (∃ j t, g.acq.insts = j :: rest ∧ j.timers = some t ∧ bit t k = true ∧ j = { i with timers := some t }) ∧
          (∀ n, n < 4 → bit s.hw.acq.tmrOn n = false →
            g.reg64 (probeA (0xA40 + 16 * n)) = s.hw.reg64 (probeA (0xA40 + 16 * n)) ∧ bit g.acq.tmrOn n = false) ∧
          g = { s.hw with regs := g.regs, acq := g.acq }) ∧
    (s.hw.acq.autoAt = none → s.hw.acq.insts = [] → exec .triggerEval s = .next s)

/-- BP i of a truss that is to execute instruction word x in this course (R35, R70). EVAL: bit e·16 + d·8 + c·4 + b·2 + a of its
bundle's table at its operands, inverted by INV, and 0 for an uncorrectable table (R40, R42, R74). LOFT: with DIR 1 its write source,
or 0 under an inert control word (R54), with DIR 0 bit i of the words that the loft read bus takes in this course (R60, R61, R75). PORT: a supplying BP its source, a
receiving one bit i of the word its port has delivered, and one whose SUBOP does not pair with the port operation 0 (R76, R77). NOP
and MARK: 0, and MARK with MARK_EN offers the truss's MARK packet once (R78, R80). KEEP: the result of age 1 (R79). An
uncorrectable word executes as NOP without drive and tap (R54). In each case only this BP's result, drive and done bits of the truss
change, and no other truss. A BP that is not due is left alone by all six commands. -/
def Obligations.BooleanProcessors : Prop :=
  ∀ (s : State) (d t i : Nat), d < 2 → t < 512 → i < 64 →
    let k := s.hw.truss (trussIx d t)
    let gives := fun (g : Hw) (v drive : Bool) =>
      g.truss (trussIx d t) = { k with res := setBit k.res i v, drv := setBit k.drv i drive, bpDone := setBit k.bpDone i true } ∧
        ∀ T, T ≠ trussIx d t → g.truss T = s.hw.truss T
    (∀ x, s.hw.ins d t i = some (x, false) → s.hw.bpDue d t i = true →
      (bpClass x = .eval → Does (.eval d t i) s fun g =>
        let b := bundleDecode (s.hw.bundle (trussIx d t) (fld x 45 38))
        gives g (b.2 != .bad && (bit b.1 (truthIndex ((evalSels x).map (s.hw.operand d t i))) ^^ bit x 2)) (bit x 1)) ∧
      (bpClass x = .loft → Does (.loft d t i) s fun g =>
        gives g (if bit x 45 then (s.hw.ctl d t).isSome && s.hw.operand d t i (fld x 44 38) else bit (k.busWord s.hw.seq.pos) i) (bit x 1)) ∧
      (bpClass x = .port →
        (∀ c o, s.hw.ctl d t = some c → portField c = some o → subopPairs (fld x 45 42) o.op = true →
          (opSupplies o.op = true → Does (.port d t i) s fun g => gives g (s.hw.operand d t i (fld x 41 35)) (bit x 1)) ∧
          (opSupplies o.op = false → Does (.port d t i) s fun g =>
            gives g (bit (Store.get 0 g.portWords (portKey d (opUnit o.op) o.port)) i) (bit x 1))) ∧
        (∀ c, s.hw.ctl d t = some c → (∀ o, portField c = some o → subopPairs (fld x 45 42) o.op = false) →
          Does (.port d t i) s fun g => gives g false (bit x 1)) ∧
        (s.hw.ctl d t = none → Does (.port d t i) s fun g => gives g false (bit x 1))) ∧
      (bpClass x = .nop → Does (.nop d t i) s fun g => gives g false (bit x 1)) ∧
      (bpClass x = .keep → Does (.keep d t i) s fun g => gives g (s.hw.age (trussIx d t) i 1) (bit x 1)) ∧
      (bpClass x = .mark → Does (.mark d t i) s fun g => gives g false (bit x 1) ∧
        ∀ c, s.hw.ctl d t = some c → bit c 567 = true → s.hw.srcOn d = true → s.hw.done.contains (.mark d t) = false →
          g.trace.offers = s.hw.trace.offers ++ [⟨d, markPacket d s.hw.frameLo (fld c 566 560) t s.hw.seq.pos⟩])) ∧
    (∀ x, s.hw.ins d t i = some (x, true) → s.hw.bpDue d t i = true → Does (.nop d t i) s fun g => gives g false false) ∧
    (s.hw.bpDue d t i = false → ∀ c ∈ [Instr.eval d t i, .loft d t i, .port d t i, .nop d t i, .keep d t i, .mark d t i],
      exec c s = .next s)

/-- The frame of EVAL, LOFT, NOP and KEEP in normal mode (no hazards, R207), for a BP that is due, whose instruction and bundle
words are not uncorrectable and whose truss obeys a sound control word: nothing changes but the truss, what the tap contributes
to its probe group (R72), and which operations this course clock has performed; without tap, not even the probe group. The same of a
PORT instruction that supplies its port. -/
def Obligations.BooleanProcessorFrame : Prop :=
  ∀ (s : State) (d t i : Nat) (x : Ins) (c : Ctl), d < 2 → t < 512 → i < 64 → s.hw.seq.checked = false →
    s.hw.ins d t i = some (x, false) → s.hw.bpDue d t i = true → s.hw.ctl d t = some c →
    (bundleDecode (s.hw.bundle (trussIx d t) (fld x 45 38))).2 ≠ .bad →
    (bpClass x = .port → ∃ o, portField c = some o ∧ opSupplies o.op = true ∧ subopPairs (fld x 45 42) o.op = true) →
    ∀ p ∈ [(Instr.eval d t i, BpClass.eval), (.loft d t i, .loft), (.nop d t i, .nop), (.keep d t i, .keep),
      (.port d t i, .port)], bpClass x = p.2 →
      Does p.1 s fun g => g = { s.hw with trusses := g.trusses, probeIn := g.probeIn, done := g.done } ∧
        (bit x 0 = false ∨ bit c 551 = false → g.probeIn = s.hw.probeIn) ∧
        ∀ n, n ≠ d * 128 + fld c 550 544 → Store.get (0, 0) g.probeIn n = Store.get (0, 0) s.hw.probeIn n

/-- The loft slot of a truss in normal mode, with no masked write blocking it (R57 to R66). LOFT_READ of address a, of a sound word:
the word, as an incomplete masked write of a would leave it, joins the words on their way, for position q + 3. LOFT_WRITE with all
64 enables: the word holds the supplied data with fresh check bits; with some, on a word that is not uncorrectable, the merged word
waits for position q + 4 and the slot of q + 1 is blocked, and no loft word changes yet; with none, nothing changes.
LOFT_RMW_COMMIT stores the merged words whose position has come, the later one of two, and keeps the others. LOFT_READ_DELIVER puts
the OR of the words due in this course on the bus. LOFT_WRITEBACK, in a course without loft operation and with no masked write pending,
stores the first corrected word of an earlier course. A blocked slot's operation is discarded. -/
def Obligations.LoftSlot : Prop :=
  ∀ (s : State) (d t : Nat), d < 2 → t < 512 → s.hw.seq.checked = false →
    let T := trussIx d t
    let k := s.hw.truss T
    let q := s.hw.seq.pos
    let same := fun g : Hw => ∀ U, U ≠ T → g.truss U = s.hw.truss U
    (∀ a, s.hw.loftOp d t = (.read, a) → s.hw.done.contains (.loft d t) = false → s.hw.loftBlocked T = false →
      (s.hw.loftSees T a).2 = .clean → Does (.loftRead d t) s fun g =>
        g.truss T = { k with reads := k.reads ++ [⟨q + 3, (s.hw.loftSees T a).1, false⟩] } ∧ same g ∧
          g = { s.hw with trusses := g.trusses, done := g.done }) ∧
    (∀ a, s.hw.loftOp d t = (.write, a) → a < 2048 → s.hw.done.contains (.loft d t) = false → s.hw.loftBlocked T = false →
      s.hw.snap.capture = none →
      let en := (s.hw.loftWriteBits d t).1
      let v := (s.hw.loftWriteBits d t).2
      (en = 0xFFFFFFFFFFFFFFFF → (∀ r ∈ k.rmw, r.addr ≠ a) → Does (.loftWrite d t) s fun g =>
        g.loft T a = decEncode v ∧ (∀ U b, b < 2048 → (U, b) ≠ (T, a) → g.loft U b = s.hw.loft U b) ∧
          g.truss T = { k with wb := k.wb.filter fun w => w.addr != a } ∧ same g ∧
          g = { s.hw with trusses := g.trusses, lofts := g.lofts, done := g.done }) ∧
      (en ≠ 0 → en ≠ 0xFFFFFFFFFFFFFFFF → (s.hw.loftSees T a).2 = .clean → Does (.loftWrite d t) s fun g =>
        g.truss T = { k with wb := k.wb.filter fun w => w.addr != a, blocked := some (q + 1)
                             rmw := k.rmw ++ [⟨a, ((s.hw.loftSees T a).1 &&& ~~~ en) ||| (v &&& en), q + 4⟩] } ∧ same g ∧
          g = { s.hw with trusses := g.trusses, done := g.done }) ∧
      (en = 0 → Does (.loftWrite d t) s fun g => g = { s.hw with done := g.done })) ∧
    (s.hw.snap.capture = none → (∀ r ∈ k.rmw, r.addr < 2048) → Does (.loftRmwCommit d t) s fun g =>
      g.truss T = { k with rmw := k.rmw.filter fun r => decide (q < r.pos) } ∧ same g ∧
        (∀ b, b < 2048 → g.loft T b = match (k.rmw.filter fun r => decide (r.pos ≤ q) && r.addr == b).getLast? with
          | some r => decEncode r.merged
          | none => s.hw.loft T b) ∧
        (∀ U b, U ≠ T → b < 2048 → g.loft U b = s.hw.loft U b) ∧
        g = { s.hw with trusses := g.trusses, lofts := g.lofts }) ∧
    (s.hw.execRow d ≠ none → s.hw.done.contains (.busDeliver d t) = false → (∃ r ∈ k.reads, r.pos = q) →
      Does (.loftReadDeliver d t) s fun g => g.truss T = { k with bus := k.busWord q } ∧ same g ∧
        g = { s.hw with trusses := g.trusses, done := g.done }) ∧
    (∀ w rest, s.hw.execClock = true → (s.hw.loftOp d t).1 = .none → k.rmw = [] → k.wb = w :: rest → w.pos ≠ q →
      s.hw.done.contains (.writeback d t) = false → Does (.loftWriteback d t) s fun g =>
        g.truss T = { k with wb := rest } ∧ g.loft T w.addr = decEncode w.data ∧ same g ∧
          g = { s.hw with trusses := g.trusses, lofts := g.lofts, done := g.done }) ∧
    (s.hw.loftBlocked T = true →
      (Does (.loftRead d t) s fun g => g = { s.hw with done := g.done }) ∧
      Does (.loftWrite d t) s fun g => g = { s.hw with done := g.done })

/-- The command that bank j samples in this course, in normal mode (R158 to R170, R174). On a bank that DESIGN owns, outside the
slot that a masked write takes: BANK_READ of a sound, written word sends it to the home truss for position q + L_M. BANK_WRITE keeps
the home truss's output vector for position q + L_M. BANK_MASKED_WRITE of such a word takes the next slot and
waits for its mask, for position q + L_W; no word changes yet. BANK_MASKED_COMMIT of the one write that has
come stores the merge, for a full write the whole word, with fresh check bits, and sets the valid bit; BANK_READ_DELIVER puts the words due at the home truss on its bus; BANK_WRITEBACK, in a course whose command is
NONE, stores the first corrected word of an earlier course. A bank of another owner performs no command: BANK_NOT_OWNED is raised and
no word changes. -/
def Obligations.BankCommands : Prop :=
  ∀ (s : State) (d j : Nat), d < 2 → j < 64 → s.hw.seq.checked = false →
    let B := d * 64 + j
    let k := s.hw.bank B
    let T := trussIx d (homeTruss j)
    let c := s.hw.bankCmd d j
    let a := cmdAddr c
    let q := s.hw.seq.pos
    let words := fun (g : Hw) (p : Nat → Nat → Prop) => ∀ b x, x < 32768 → p b x →
      g.bankWord b x = s.hw.bankWord b x ∧ g.bankWritten b x = s.hw.bankWritten b x
    (s.hw.execRow d ≠ none → s.hw.done.contains (.bank d j) = false → k.blocked ≠ some q →
      (s.hw.bankOwner d j = 0 → k.rmw = [] →
        (cmdOp c = 1 → s.hw.bankWritten B a = true → (decDecode (s.hw.bankWord B a)).2 = .clean →
          Does (.bankRead d j) s fun g =>
            g.truss T = { s.hw.truss T with reads := (s.hw.truss T).reads ++
              [⟨q + s.hw.latFull d, (decDecode (s.hw.bankWord B a)).1, true⟩] } ∧
            (∀ U, U ≠ T → g.truss U = s.hw.truss U) ∧ g = { s.hw with trusses := g.trusses, done := g.done }) ∧
        (cmdOp c = 2 → Does (.bankWrite d j) s fun g =>
            g.bank B = { k with wb := k.wb.filter fun w => w.addr != a, rmw :=
              [⟨a, (s.hw.truss T).outv, some 0xFFFFFFFFFFFFFFFF, some 0, q + s.hw.latFull d⟩] } ∧
            (∀ b, b ≠ B → g.bank b = s.hw.bank b) ∧ g = { s.hw with banks := g.banks, done := g.done }) ∧
        (cmdOp c = 3 → s.hw.bankWritten B a = true → (decDecode (s.hw.bankWord B a)).2 = .clean →
          Does (.bankMaskedWrite d j) s fun g =>
            g.bank B = { k with wb := k.wb.filter fun w => w.addr != a, blocked := some (q + 1), rmw :=
              [⟨a, (s.hw.truss T).outv, none, some (decDecode (s.hw.bankWord B a)).1, q + s.hw.latMasked d⟩] } ∧
            (∀ b, b ≠ B → g.bank b = s.hw.bank b) ∧ g = { s.hw with banks := g.banks, done := g.done })) ∧
      (s.hw.bankOwner d j ≠ 0 →
        ∀ p ∈ [(Instr.bankRead d j, 1), (.bankWrite d j, 2), (.bankMaskedWrite d j, 3)], cmdOp c = p.2 →
          Does p.1 s fun g => words g (fun _ _ => True) ∧ g.trusses = s.hw.trusses ∧ g.banks = s.hw.banks ∧
            OnPath (evBankNotOwned d) s.hw g)) ∧
    (∀ r o, k.rmw = [r] → r.pos ≤ q → r.old = some o → r.addr < 32768 → s.hw.snap.capture = none →
      Does (.bankMaskedCommit d j) s fun g =>
        let m := r.mask.getD 0
        g.bankWord B r.addr = decEncode ((o &&& ~~~ m) ||| (r.data &&& m)) ∧ g.bankWritten B r.addr = true ∧
          words g (fun b x => (b, x) ≠ (B, r.addr)) ∧ g.bank B = { k with rmw := [] } ∧
          g = { s.hw with bankMem := g.bankMem, bankValid := g.bankValid, banks := g.banks }) ∧
    (s.hw.execRow d ≠ none → s.hw.done.contains (.busDeliver d (homeTruss j)) = false →
      (∃ r ∈ (s.hw.truss T).reads, r.pos = q ∧ r.bank = true) → Does (.bankReadDeliver d j) s fun g =>
        g.truss T = { s.hw.truss T with bus := (s.hw.truss T).busWord q } ∧
          g = { s.hw with trusses := g.trusses, done := g.done }) ∧
    (∀ w rest, s.hw.execClock = true → cmdOp c = 0 → k.rmw = [] → k.wb = w :: rest → w.pos ≠ q →
      s.hw.done.contains (.bankWb d j) = false → Does (.bankWriteback d j) s fun g =>
        g.bankWord B w.addr = decEncode w.data ∧ g.bank B = { k with wb := rest } ∧
          g = { s.hw with bankMem := g.bankMem, bankValid := g.bankValid, banks := g.banks, done := g.done })

/-- A queue pair as the trusses that name it reach it in this course, once, in normal mode (R84, R88, R178, R182 to R185). FMQ_PUSH
without LAST puts the supplied word into its place of the entry being assembled; with LAST it enqueues the entry, unless 256
requests are outstanding (FMQ_OVERFLOW) or its first word is malformed (FMQ_BAD_REQUEST), which enqueue nothing. FMQ_PULL delivers the
named word of the oldest response when it is complete, and removes the response with LAST; without one it delivers 0 and counts.
FMQ_WAIT_PULL in a WAIT block that keeps R129 does the same, but an empty pull is not counted; one that breaks R129, on an empty
queue, raises WAIT_UNGUARDED (R135). -/
def Obligations.QueuePairs : Prop :=
  ∀ (s : State) (d q t : Nat) (o : PortOp) (rest : List (Nat × PortOp)), d < 2 → q < 128 → s.hw.seq.checked = false →
    let Q := d * 128 + q
    let pr := s.hw.qpair Q
    let others := fun g : Hw => ∀ P, P ≠ Q → g.qpair P = s.hw.qpair P
    (s.hw.portUsers d 0 q true = (t, o) :: rest → o.word < 4 → s.hw.done.contains (.port d 0 q true) = false →
      let v := s.hw.supplyWord d ((t, o) :: rest)
      let w := fun i => if i = o.word then v else Store.get 0 pr.asm i
      (o.last = false → Does (.fmqPush d q) s fun g => (∀ i, Store.get 0 (g.qpair Q).asm i = w i) ∧
        (g.qpair Q).reqs = pr.reqs ∧ (g.qpair Q).resps = pr.resps ∧ others g ∧
        g = { s.hw with qpairs := g.qpairs, done := g.done }) ∧
      (o.last = true → pr.outstanding < 256 → reqBad (w 0) = false → Does (.fmqPush d q) s fun g =>
        g.qpair Q = { pr with asm := [], reqs := pr.reqs ++ [⟨[w 0, w 1, w 2, w 3], s.hw.seq.padClk, s.hw.absPos, false⟩] } ∧
          others g ∧ g = { s.hw with qpairs := g.qpairs, done := g.done }) ∧
      (o.last = true → 256 ≤ pr.outstanding → Does (.fmqPush d q) s fun g => g.qpairs = s.hw.qpairs ∧
        OnPath (evFmqOverflow d) s.hw g) ∧
      (o.last = true → pr.outstanding < 256 → reqBad (w 0) = true → Does (.fmqPush d q) s fun g =>
        g.qpair Q = { pr with asm := [] } ∧ others g ∧ OnPath (evFmqBadRequest d) s.hw g)) ∧
    (s.hw.portUsers d 0 q false = (t, o) :: rest → s.hw.done.contains (.port d 0 q false) = false →
      let word := fun g : Hw => Store.get 0 g.portWords (portKey d 0 q)
      let pulled := fun (r : FmqResp) (g : Hw) => word g = r.words.getD o.word 0 ∧
        g.qpair Q = (if o.last then { pr with resps := pr.resps.tail } else pr) ∧ others g
      (o.op = 2 →
        (∀ r, pr.head = some r → Does (.fmqPull d q) s fun g => pulled r g ∧
          g = { s.hw with qpairs := g.qpairs, portWords := g.portWords, done := g.done }) ∧
        (pr.head = none → Does (.fmqPull d q) s fun g => word g = 0 ∧ g.qpairs = s.hw.qpairs ∧
          g.fget (farA d 0x1C) 31 0 = min (2 ^ 32 - 1) (s.hw.fget (farA d 0x1C) 31 0 + 1))) ∧
      (o.op = 3 →
        (∀ r, s.hw.waitGuarded d q o.last = true → pr.head = some r → Does (.fmqWaitPull d q) s fun g => pulled r g ∧
          g.seq.waitTaken = (if o.last then (d * 256 + q) :: s.hw.seq.waitTaken else s.hw.seq.waitTaken) ∧
          g.regs = s.hw.regs) ∧
        (s.hw.waitGuarded d q o.last = true → pr.head = none → Does (.fmqWaitPull d q) s fun g => word g = 0 ∧
          g = { s.hw with portWords := g.portWords, done := g.done }) ∧
        (s.hw.waitGuarded d q o.last = false → pr.head = none → Does (.fmqWaitPull d q) s fun g => word g = 0 ∧
          g.qpairs = s.hw.qpairs ∧ OnPath (evWaitUnguarded d) s.hw g)))

/-- The request at the head of pair Q, inside the DESIGN region, without a capture in progress (R179 to R183, R186, R193).
FMQ_REQ_READ of sound, written words: the response holds them in order. FMQ_REQ_WRITE: words 1 to LEN are stored with fresh check bits,
upward and wrapping within the group of four, and no other word of a written line changes. FMQ_REQ_MASKED_WRITE of a sound, written
word: the enabled bits are replaced. A write has a response, of one word 1, only with ACK. The request leaves the queue, and the
response waits, not complete, with the clock of its push. FMQ_RESPONSE_COMPLETE completes exactly the responses whose push lies L_F
clocks back. A request that reaches outside the DESIGN region writes nothing and raises FMQ_RANGE, and a read's response holds
zeros. -/
def Obligations.FarRequests : Prop :=
  ∀ (s : State) (Q : Nat) (r : FmqReq) (rest : List FmqReq), Q < 256 → (s.hw.qpair Q).reqs = r :: rest → s.hw.snap.capture = none →
    let d := Q / 128
    let pr := s.hw.qpair Q
    let w := r.words.headD 0
    let n := reqLen w
    let responds := fun (g : Hw) (ws : Option (List Word64)) => g.qpair Q = { pr with
        reqs := rest
        resps := pr.resps ++ (match ws with | some x => [⟨x, r.pushed, r.pushPos, false, r.delayed⟩] | none => []) } ∧
      ∀ P, P ≠ Q → g.qpair P = s.hw.qpair P
    let ack := if reqAck w then some [1] else none
    let sound := fun a => s.hw.farWritten d a = true ∧ (decDecode (s.hw.farWord d a)).2 = .clean
    (s.hw.reqOut d w = none →
      (reqOp w = 0 → (∀ i, i < n → sound (reqWordAddr w i)) → Does (.fmqReqRead Q) s fun g =>
        responds g (some ((List.range n).map fun i => (decDecode (s.hw.farWord d (reqWordAddr w i))).1)) ∧
          g = { s.hw with qpairs := g.qpairs }) ∧
      (reqOp w = 1 → (∀ i, i < n → s.hw.farWritten d (reqWordAddr w i) = true) → Does (.fmqReqWrite Q) s fun g =>
        responds g ack ∧ (∀ i, i < n → g.farWord d (reqWordAddr w i) = decEncode (r.words.getD (i + 1) 0)) ∧
          (∀ e a, a < 2 ^ 33 → e ≠ d ∨ (∀ i, i < n → a ≠ reqWordAddr w i) → g.farWord e a = s.hw.farWord e a) ∧
          g = { s.hw with qpairs := g.qpairs, farMem := g.farMem, farWb := g.farWb }) ∧
      (reqOp w = 2 → sound (reqAddr w) → Does (.fmqReqMaskedWrite Q) s fun g =>
        let m := r.words.getD 2 0
        let o := (decDecode (s.hw.farWord d (reqAddr w))).1
        responds g ack ∧ g.farWord d (reqAddr w) = decEncode ((o &&& ~~~ m) ||| (r.words.getD 1 0 &&& m)) ∧
          (∀ e a, a < 2 ^ 33 → e ≠ d ∨ a ≠ reqAddr w → g.farWord e a = s.hw.farWord e a) ∧
          g = { s.hw with qpairs := g.qpairs, farMem := g.farMem, farWb := g.farWb })) ∧
    (∀ a, s.hw.reqOut d w = some a → ∀ p ∈ [(Instr.fmqReqRead Q, 0, some (List.replicate n (0 : Word64))),
        (.fmqReqWrite Q, 1, ack), (.fmqReqMaskedWrite Q, 2, ack)], reqOp w = p.2.1 →
      Does p.1 s fun g => responds g p.2.2 ∧ g.farMem = s.hw.farMem ∧ OnPath (evFmqRange d) s.hw g) ∧
    Does (.fmqResponseComplete Q) s fun g =>
      (g.qpair Q).reqs = pr.reqs ∧ (g.qpair Q).asm = pr.asm ∧
        (g.qpair Q).resps = pr.resps.map (fun x =>
          { x with complete := x.complete || decide (x.pushed + s.hw.fget (farA d 0) 24 16 ≤ s.hw.seq.padClk) }) ∧
        (∀ P, P ≠ Q → g.qpair P = s.hw.qpair P) ∧ g = { s.hw with qpairs := g.qpairs }

/-- FAR_WRITEBACK of a corrected word that no queued write names stores it, and nothing else (R193). REFRESH of a pseudo-channel at a
quiet position or in slack makes up one of its postponed refreshes, or pulls one in, up to what the standard allows, and elsewhere
does nothing; FORCED_REFRESH elsewhere uses one that was pulled in, or postpones one while the standard allows it, and else is
counted and marks as delayed the heads of the named pairs that address the pseudo-channel (R188, R190). SCRUB_SLOT begins a slot:
it reads the row and the bundle entry of the cursor; in an isolated bay it is skipped and counted. At clock 3 a slot whose row and
bundle are sound moves to the next slot, a sweep ending with the last one; a bundle with a correctable error is counted, and
rewritten at clock 4, over whatever has reached the entry since (R280 to R282, R284, R285, R288). SCRATCH_TEST_SLICE of a bank that has not failed and has had no access for IDLE_US, GAP_US after the last slice: the bank is
borrowed for at most 3.5 µs, and BORROWED reads 1; when the slice returns it, with its data as they were, one that has passed is
counted, and one that has failed marks the bank and raises SCRATCH_TEST_FAIL (R448). -/
def Obligations.MemoryUpkeep : Prop :=
  ∀ (s : State) (d : Nat), d < 2 →
    (∀ a v, a < 2 ^ 33 → Store.get none s.hw.farWb (farKey d a) = some v →
      (∀ q, q < 128 → ∀ r ∈ (s.hw.qpair (d * 128 + q)).reqs, reqOp (r.words.headD 0) ≠ 0 →
        ∀ i, i < reqLen (r.words.headD 0) → reqWordAddr (r.words.headD 0) i ≠ a) →
      Does (.farWriteback d a) s fun g => g.farWord d a = decEncode v ∧ Store.get none g.farWb (farKey d a) = none ∧
        (∀ e b, b < 2 ^ 33 → (e, b) ≠ (d, a) → g.farWord e b = s.hw.farWord e b) ∧
        g = { s.hw with farMem := g.farMem, farWb := g.farWb }) ∧
    (∀ ch, ch < 64 →
      let ahead := fun g : Hw => Store.get 0 g.refreshAhead (refreshKey d ch)
      let late := fun g : Hw => Store.get 0 g.refreshLate (refreshKey d ch)
      let only := fun g : Hw => g = { s.hw with refreshAhead := g.refreshAhead, refreshLate := g.refreshLate } ∧
        ∀ n, n ≠ refreshKey d ch → Store.get 0 g.refreshAhead n = Store.get 0 s.hw.refreshAhead n ∧
          Store.get 0 g.refreshLate n = Store.get 0 s.hw.refreshLate n
      (s.hw.quietPos d = true → (Does (.refresh (refreshKey d ch)) s fun g => only g ∧
          (late s.hw ≠ 0 → late g = late s.hw - 1 ∧ ahead g = ahead s.hw) ∧
          (late s.hw = 0 → late g = 0 ∧ ahead g = min Config.refreshPullIn (ahead s.hw + 1))) ∧
        ∀ ps, (∀ q ∈ ps, q < 128) → exec (.forcedRefresh (refreshKey d ch) ps) s = .next s) ∧
      (s.hw.quietPos d = false → exec (.refresh (refreshKey d ch)) s = .next s ∧
        (∀ ps, (∀ q ∈ ps, q < 128) → (ahead s.hw ≠ 0 → Does (.forcedRefresh (refreshKey d ch) ps) s fun g => only g ∧
            ahead g = ahead s.hw - 1 ∧ late g = late s.hw) ∧
          (ahead s.hw = 0 → late s.hw < Config.refreshPostpone → Does (.forcedRefresh (refreshKey d ch) ps) s fun g => only g ∧
            ahead g = 0 ∧ late g = late s.hw + 1)) ∧
        ∀ q, q < 128 → ahead s.hw = 0 → Config.refreshPostpone ≤ late s.hw → Does (.forcedRefresh (refreshKey d ch) [q]) s fun g =>
          g.fget (farA d 0x28) 31 0 = min (2 ^ 32 - 1) (s.hw.fget (farA d 0x28) 31 0 + 1) ∧
          g.qpair (d * 128 + q) = (match (s.hw.qpair (d * 128 + q)).reqs with
            | [] => s.hw.qpair (d * 128 + q)
            | r :: rest => if r.touches d ch then { s.hw.qpair (d * 128 + q) with reqs := { r with delayed := true } :: rest }
              else s.hw.qpair (d * 128 + q)) ∧
          (∀ P, P ≠ d * 128 + q → g.qpair P = s.hw.qpair P) ∧ g.farMem = s.hw.farMem)) ∧
    (s.hw.scrubOn d = true → s.hw.done.contains (.scrub d) = false → s.hw.scrubSlotOf d = none →
      let c := s.hw.fget (scrubA d 4) 19 0
      let t := c % 512
      let e := c / 512 % 256
      let x : ScrubRead := ⟨0, t, c / 512, s.hw.bget (scrubA d 4) 20, s.hw.rowListed (trussIx d t) (c / 512),
        s.hw.bundle (trussIx d t) e, none, none⟩
      (s.hw.isolated d t = false → Does (.scrubSlot d) s fun g => g.scrubSlotOf d = some x ∧
        g = { s.hw with scrubSlots := g.scrubSlots, scrubSince := g.scrubSince, done := g.done }) ∧
      (s.hw.isolated d t = true → Does (.scrubSlot d) s fun g => g.scrubSlotOf d = none ∧ ScrubbedOne d c s.hw g ∧
        g.fget (scrubA d 0x1C) 31 0 = min (2 ^ 32 - 1) (s.hw.fget (scrubA d 0x1C) 31 0 + 1) ∧ g.rows = s.hw.rows ∧
        g.bundles = s.hw.bundles ∧ g.fault = s.hw.fault)) ∧
    (s.hw.scrubOn d = true → (s.hw.done.contains (.scrub d) = true ∨ s.hw.scrubSlotOf d ≠ none) →
      exec (.scrubSlot d) s = .next s) ∧
    (∀ x : ScrubRead, x.truss < 512 → x.row < 2048 → x.clk = 2 → x.again = false →
      (∀ row, x.stored = some row → rowFind row = .clean) →
      let c := s.hw.fget (scrubA d 4) 19 0
      let g := s.hw.scrubStep d x
      (∀ b, bundleDecode x.bundle = (b, .clean) → ScrubbedOne d c s.hw g ∧
        g.scrubSlotOf d = some { x with clk := 3, rowFix := none, entryFix := none } ∧
        OnlyRegs [scrubA d 4, scrubA d 8] { s.hw with scrubSlots := g.scrubSlots } g) ∧
      ∀ b, bundleDecode x.bundle = (b, .corrected) → ScrubbedOne d c s.hw g ∧
        g.scrubSlotOf d = some { x with clk := 3, rowFix := none, entryFix := some (bundleEncode b) } ∧
        g.fget (scrubA d 0x14) 31 0 = min (2 ^ 32 - 1) (s.hw.fget (scrubA d 0x14) 31 0 + 1) ∧ g.rows = s.hw.rows ∧
        g.bundles = s.hw.bundles) ∧
    (∀ (x : ScrubRead) (v : Bundle), x.truss < 512 → x.row < 2048 → x.clk = 3 → x.rowFix = none → x.entryFix = some v →
      s.hw.isolated d x.truss = false →
      let g := s.hw.scrubStep d x
      g.bundle (trussIx d x.truss) (x.row % 256) = v ∧ g.scrubSlotOf d = none ∧
        g = { s.hw with bundles := g.bundles, scrubSlots := g.scrubSlots }) ∧
    (∀ k ok, 2 ≤ k → k < 16 → s.hw.bget (hostifA 0x140) 0 = true → s.hw.mpTakes = true → s.hw.pstate < 3 →
      s.hw.bget (hostifA 0x144) k = false → s.hw.host.slice = none →
      Store.get 0 s.hw.host.scrUsed k + s.hw.fget (hostifA 0x140) 15 1 * usUnits ≤ s.hw.calib →
      (∀ t, s.hw.host.sliceFrom = some t → t + max 1 (s.hw.fget (hostifA 0x140) 31 16) * usUnits ≤ s.hw.calib) →
      Does (.scratchTestSlice k ok) s fun g => g.bget (scrA k) 8 = true ∧ g.fget (scrA k) 7 0 = s.hw.fget (scrA k) 7 0 ∧
        (∃ n, g.host.slice = some ⟨k, ok, n⟩ ∧ 0 < n ∧ n ≤ 3500 * nsUnits) ∧ g.host.sliceFrom = some s.hw.calib ∧
        (∀ a, 16384 ≤ a → Store.get 0 g.scratch a = Store.get 0 s.hw.scratch a) ∧ (∀ a, a ≠ scrA k → g.reg a = s.hw.reg a) ∧
        g = { s.hw with regs := g.regs, scratch := g.scratch, free := g.free, host := { s.hw.host with
          slice := g.host.slice, sliceFrom := g.host.sliceFrom } }) ∧
    ∀ x : SliceTest, s.hw.host.slice = some x → 2 ≤ x.bank → x.bank < 16 →
      let g := s.hw.endSlice
      g.host.slice = none ∧ g.bget (scrA x.bank) 8 = false ∧ g.scratch = s.hw.scratch ∧
        (x.ok = true → Store.get 0 g.host.slices x.bank = Store.get 0 s.hw.host.slices x.bank + 1 ∧
          g.bget (hostifA 0x144) x.bank = s.hw.bget (hostifA 0x144) x.bank ∧ g.fault = s.hw.fault) ∧
        (x.ok = false → g.bget (hostifA 0x144) x.bank = true ∧ Raised evScratchTestFail 0 s.hw g ∧ g.host.slices = s.hw.host.slices)

/-- Port operations of this course, each once (R88). IO_OUT on port n of die d: the values of the supplying word, with the bits whose
BPs take part, set out for the output registers of banks 8d + 2n and 8d + 2n + 1 (R16, R87). IO_IN: the delivered word is the two input
registers as they stood 20 course clocks ago. IO_PATH_DELIVER stores the one value that has completed its 20 clocks into its output
register, where pins outside its mask keep their values; a pin sample enters the input register of a bank that is ready, and of no
other (R494, R496). CALL_ARG puts the word into its place of the arguments, and with LAST hands the four words, with the frame, the
position and the port's configuration, to the scheduler as the last raise and clears them (R86, R315). PROBE_WORD contributes all 64
bits to its probe group (R337). -/
def Obligations.SupplyingPorts : Prop :=
  ∀ (s : State) (d n t : Nat) (o : PortOp) (rest : List (Nat × PortOp)), d < 2 →
    let v := s.hw.supplyWord d ((t, o) :: rest)
    let m := s.hw.supplyMask d ((t, o) :: rest)
    (n < 4 → s.hw.portUsers d 1 n true = (t, o) :: rest → s.hw.done.contains (.port d 1 n true) = false →
      Does (.ioOut d n) s fun g => g.ioOut = s.hw.ioOut ++
          [⟨20, 8 * d + 2 * n, m.extractLsb' 0 32, v.extractLsb' 0 32⟩,
            ⟨20, 8 * d + 2 * n + 1, m.extractLsb' 32 32, v.extractLsb' 32 32⟩] ∧
        g = { s.hw with ioOut := g.ioOut, done := g.done }) ∧
    (n < 8 → s.hw.portUsers d 1 n false = (t, o) :: rest → s.hw.done.contains (.port d 1 n false) = false →
      Does (.ioIn d n) s fun g =>
        let k := if n < 4 then 8 * d + 2 * n else 16 + 8 * d + 2 * (n - 4)
        Store.get 0 g.portWords (portKey d 1 n) = s.hw.inputsPast (k + 1) ++ s.hw.inputsPast k ∧
          g = { s.hw with portWords := g.portWords, done := g.done }) ∧
    (∀ x later, s.hw.ioOut = x :: later → x.left = 0 → (∀ y ∈ later, y.left ≠ 0) → x.bank < 16 →
      Does (.ioPathDeliver []) s fun g => g.ioOut = later ∧
        g.reg (userioA (0x80 + 4 * x.bank)) =
          (s.hw.reg (userioA (0x80 + 4 * x.bank)) &&& ~~~ x.mask) ||| (x.value &&& x.mask) ∧
        OnlyRegs [userioA (0x80 + 4 * x.bank)] s.hw { g with ioOut := s.hw.ioOut }) ∧
    (∀ b w, b < 16 → (∀ y ∈ s.hw.ioOut, y.left ≠ 0) →
      (s.hw.bget (userioA (4 * b)) 5 = true → Does (.ioPathDeliver [(b, w)]) s fun g =>
        g.reg (userioA (0xC0 + 4 * b)) = w ∧ OnlyRegs [userioA (0xC0 + 4 * b)] s.hw g) ∧
      (s.hw.bget (userioA (4 * b)) 5 = false → exec (.ioPathDeliver [(b, w)]) s = .next s)) ∧
    (n < 32 → s.hw.portUsers d 2 n true = (t, o) :: rest → o.word < 4 → s.hw.done.contains (.port d 2 n true) = false →
      let k := 32 * d + n
      let w := fun i => if i = o.word then v else Store.get 0 s.hw.calls.asm (k * 4 + i)
      let others := fun g : Hw => ∀ a, a < k * 4 ∨ k * 4 + 4 ≤ a → Store.get 0 g.calls.asm a = Store.get 0 s.hw.calls.asm a
      Does (.callArg d n) s fun g => others g ∧
        (o.last = false → (∀ i, i < 4 → Store.get 0 g.calls.asm (k * 4 + i) = w i) ∧ g.calls.raises = s.hw.calls.raises) ∧
        (o.last = true → (∀ i, i < 4 → Store.get 0 g.calls.asm (k * 4 + i) = 0) ∧ g.calls.raises = s.hw.calls.raises ++
          [⟨s.hw.seq.frame, s.hw.seq.pos, k, s.hw.reg (callsA (0x100 + 16 * k)), s.hw.reg64 (callsA (0x104 + 16 * k)),
            w 3 ++ w 2 ++ w 1 ++ w 0⟩]) ∧
        g = { s.hw with calls := { s.hw.calls with asm := g.calls.asm, raises := g.calls.raises }, done := g.done }) ∧
    (n < 128 → s.hw.portUsers d 3 n true = (t, o) :: rest → s.hw.done.contains (.port d 3 n true) = false →
      Does (.probeWord d n) s fun g =>
        Store.get (0, 0) g.probeIn (d * 128 + n) =
          (0xFFFFFFFFFFFFFFFF, (Store.get (0, 0) s.hw.probeIn (d * 128 + n)).2 ||| v) ∧
        (∀ x, x ≠ d * 128 + n → Store.get (0, 0) g.probeIn x = Store.get (0, 0) s.hw.probeIn x) ∧
        g = { s.hw with probeIn := g.probeIn, done := g.done })

/-- While a course executes. FABRIC_DELIVERY on a batten or a purlin puts the value that the fabric carries into the truss's incoming
bit and changes nothing else (R96, R102). On the bridge, words without a failing parity group change only what the receivers see; with
failing groups PAR_ERR counts them, takes the first while VALID is 0, and BRIDGE_PARITY is raised (R107). SLOT_GROUP_DELIVER on an
ACTIVE crossing port, for position q - L_X: the group that has come is delivered bit by bit on the attached battens, whose lanes
and switch boxes read it in this course (R99, R100), and leaves the port's queue; without one every attached batten delivers 0, SLOT_MISSING is counted and raised (R235). DEV_CAPTURE in the first course of
a block with CAP on the vector source: at or before S - H it sends the truss output vector (CAP bit 0) and its low four bits (CAP bit
1) for the effect clock H clocks later, and after that position it only raises DEV_LATE (R125, R126). -/
def Obligations.FabricDeliveries : Prop :=
  ∀ s : State, s.hw.execClock = true →
    (∀ d t n, d < 2 → t < 512 → s.hw.execRow d ≠ none →
      let k := s.hw.truss (trussIx d t)
      let only := fun g : Hw => (∀ T, T ≠ trussIx d t → g.truss T = s.hw.truss T) ∧ g = { s.hw with trusses := g.trusses }
      (n < 48 → Does (.fabricDelivery (.batten d t n)) s fun g =>
        g.truss (trussIx d t) = { k with inb := setBit k.inb n (s.hw.inBatten d t n) } ∧ only g) ∧
      (n < 8 → Does (.fabricDelivery (.purlin d t n)) s fun g =>
        g.truss (trussIx d t) = { k with pin := setBit k.pin n (s.hw.inPurlin d t n) } ∧ only g)) ∧
    (∀ d flips par, d < 2 → s.hw.done.contains (.bridge d) = false →
      let a := bridgeA d 4
      let gs := failingGroups flips par
      Does (.fabricDelivery (.bridge d flips par)) s fun g =>
        Store.get 0 g.bridgeErr d = flips ∧
          (gs = [] → g = { s.hw with bridgeErr := g.bridgeErr, done := g.done }) ∧
          (gs ≠ [] → g.fget a 15 0 = min 65535 (s.hw.fget a 15 0 + gs.length) ∧
            (s.hw.bget a 31 = false → g.fget a 19 16 = gs.headD 0 ∧ g.bget a 31 = true) ∧
            OnPath (evBridgeParity d) s.hw g)) ∧
    (∀ p, p < 12 → s.hw.conf.crossPorts.contains p = true → (s.hw.port p).state = .active →
      s.hw.done.contains (.slotGroup p) = false →
      let lx := s.hw.fget (eaveA p 0x100) 8 0
      lx ≤ s.hw.seq.pos → s.hw.seq.pos < s.hw.seq.schedLen →
      let found := (s.hw.port p).groupFor (s.hw.seq.frame.toNat % 16) (s.hw.seq.pos - lx)
      let arrives := fun (g : Hw) (bits : BitVec 96) =>
        (∀ i, i < 96 → bit (g.truss (trussIx (slotEnds p i).1 (slotEnds p i).2.1)).inb (slotEnds p i).2.2.2 = bit bits i) ∧
        ∀ T, g.truss T = { s.hw.truss T with inb := (g.truss T).inb } ∧
          ∀ n, (∀ i, i < 96 → (T, n) ≠ (trussIx (slotEnds p i).1 (slotEnds p i).2.1, (slotEnds p i).2.2.2)) →
            bit (g.truss T).inb n = bit (s.hw.truss T).inb n
      (∀ x, found = some x → Does (.slotGroupDeliver p) s fun g => arrives g x.bits ∧
        g.port p = { s.hw.port p with rxGroups := (s.hw.port p).rxGroups.erase x, arrived := some x } ∧
        (∀ side n, battenFrom (slotEnds p n).1 (slotEnds p n).2.1 side ((slotEnds p n).2.2.2 % 12) = none → n < 96 →
          (slotEnds p n).2.2.2 / 12 = side →
          g.inBatten (slotEnds p n).1 (slotEnds p n).2.1 (slotEnds p n).2.2.2 = bit x.bits n) ∧
        (∀ r, r ≠ p → g.port r = s.hw.port r) ∧ g = { s.hw with trusses := g.trusses, ports := g.ports, done := g.done }) ∧
      (found = none → Does (.slotGroupDeliver p) s fun g => arrives g 0 ∧
        g.fget (eaveA p 0x2C) 31 0 = min (2 ^ 32 - 1) (s.hw.fget (eaveA p 0x2C) 31 0 + 1) ∧
        OnPath (evSlotMissing p) s.hw g)) ∧
    (∀ d t sg, s.hw.seq.vecSource = some (d, t) → s.hw.segAt d s.hw.seq.pos = some sg → sg.pos = s.hw.seq.pos → sg.cap ≠ 0 →
      s.hw.done.contains .dev = false →
      let v := (s.hw.truss (trussIx d t)).outv
      let c : CapSym := ⟨if sg.cap % 2 = 1 then some v else none, if 2 ≤ sg.cap then some (fld v 3 0) else none,
        s.hw.seq.clk + s.hw.seq.horizon⟩
      (s.hw.seq.pos + s.hw.seq.horizon ≤ s.hw.seq.schedLen → Does .devCapture s fun g =>
        g.seq = { s.hw.seq with caps := s.hw.seq.caps ++ [c] } ∧ g.out = s.hw.out ++ [.capture c] ∧
          (∀ p, g.port p = s.hw.port p ∨ s.hw.conf.treePorts.contains p = true ∧ g.port p = { s.hw.port p with txCaps := (s.hw.port p).txCaps ++ [c] }) ∧
          g = { s.hw with seq := g.seq, out := g.out, ports := g.ports, done := g.done }) ∧
      (s.hw.seq.schedLen < s.hw.seq.pos + s.hw.seq.horizon → Does .devCapture s fun g => Raised evDevLate 0 s.hw g ∧
        g = { s.hw with fault := { s.hw.fault with path := g.fault.path }, done := g.done }))

/-- In a state in which no stored call waits with its dependence counter at 0. CALL_RAISE takes the raise that is first in issue order
away and, when its port is enabled and a slot is free, stores the call in the lowest free slot with the next generation and counts it
(R315, R316): delayed by DELAY frames, waiting for the calls of its dependence mask, or, with neither, assigned to the worker that R319
chooses, at the tail of its ready list. Without an eligible worker it ends FAILED at once (R320). A raise of a disabled port is
discarded, counted and raised (R314). CALL_RELEASE leaves the calls whose release frame has not begun as they are; of the others one
with predecessors waits for them, and the only one without them is assigned (R318). -/
def Obligations.CallRaiseAndRelease : Prop :=
  ∀ s : State, Store.rising s.hw.calls.slots = true →
    (∀ x ∈ s.hw.callList, x.2.state = .waiting → x.2.deps ≠ []) →
    let assigned := fun (g : Hw) (k : Nat) (c : Call) (w : Nat) =>
      g.call k = some { c with state := .ready w, worker := w } ∧ g.readyList w = s.hw.readyList w ++ [k] ∧
        (∀ v, v ≠ w → g.readyList v = s.hw.readyList v) ∧ g.fget (callsA (0x804 + 8 * c.cls)) 6 1 = w
    (∀ r, firstBy Raise.before s.hw.calls.raises = some r →
      (bit r.cfg 0 = false → Does .callRaise s fun g =>
        g.calls = { s.hw.calls with raises := s.hw.calls.raises.erase r } ∧ OnPath evCallPortOff s.hw g ∧
          g.fget (callsA 0x18) 31 0 = min (2 ^ 32 - 1) (s.hw.fget (callsA 0x18) 31 0 + 1)) ∧
      (∀ k, bit r.cfg 0 = true → s.hw.freeSlot = some k →
        let delay := fld r.cfg 23 16
        (delay = 0 ∨ (s.hw.callList.filter fun x => x.2.state == .delayed).length < 1024) →
        let deps := s.hw.predecessors r.port r.mask
        let c : Call := {
          gen := (Store.get 0 s.hw.calls.gens k + 1) % 16, port := r.port, cls := fld r.cfg 8 1, flow := fld r.cfg 14 9
          inFlow := bit r.cfg 15, resultEn := bit r.cfg 24, args := r.args, frame := r.frame, pos := r.pos
          release := r.frame.toNat + delay, deps := deps, depFail := false, depCancel := false
          state := if delay = 0 then .waiting else .delayed, status := 0, worker := 63, result := 0 }
        let stored := fun g : Hw => (∀ j, j ≠ k → g.call j = s.hw.call j) ∧ Store.get 0 g.calls.gens k = c.gen ∧
          g.calls.raises = s.hw.calls.raises.erase r ∧
          g.fget (callsA 0x10) 31 0 = min (2 ^ 32 - 1) (s.hw.fget (callsA 0x10) 31 0 + 1)
        (delay ≠ 0 ∨ deps ≠ [] → Does .callRaise s fun g => g.call k = some c ∧ stored g ∧
          g = { s.hw with regs := g.regs, calls := g.calls, trace := g.trace }) ∧
        (delay = 0 → deps = [] → ∀ w, s.hw.chooseWorker c.cls = some w → Does .callRaise s fun g =>
          assigned g k c w ∧ stored g ∧ g = { s.hw with regs := g.regs, calls := g.calls, trace := g.trace }) ∧
        (delay = 0 → deps = [] → s.hw.chooseWorker c.cls = none → Does .callRaise s fun g =>
          g.call k = (if c.resultEn then some { c with state := .held, status := 1 } else none) ∧
            OnPath evCallNoWorker s.hw g))) ∧
    (let due := fun c : Call => c.state = .delayed ∧ c.release ≤ s.hw.seq.frame.toNat
     ((∀ x ∈ s.hw.callList, due x.2 → x.2.deps ≠ []) → Does .callRelease s fun g =>
        (∀ k c, s.hw.call k = some c → (due c → g.call k = some { c with state := .waiting }) ∧ (¬ due c → g.call k = some c)) ∧
          g = { s.hw with calls := { s.hw.calls with slots := g.calls.slots } }) ∧
     ∀ k c w, s.hw.call k = some c → due c → c.deps = [] → (∀ x ∈ s.hw.callList, due x.2 → x = (k, c)) →
        s.hw.chooseWorker c.cls = some w → Does .callRelease s fun g =>
          assigned g k c w ∧ (∀ j, j ≠ k → g.call j = s.hw.call j) ∧
            g = { s.hw with regs := g.regs, calls := { s.hw.calls with slots := g.calls.slots, ready := g.calls.ready } })

/-- CALL_DISPATCH of an enabled host worker with room in its dispatch ring: the head of its ready list runs, its record is written at
DISP_TAIL, and DISP_TAIL advances (R321 to R323); of the idle MP with a call of its classes: the call runs. COMPLETION_RECORD
completes the running call that it names, with its status and result, and one that names none is counted and raised as CALL_STALE;
COMP_HEAD advances (R324, R325); a record that the head has read for a member, on its request, goes to that member, and without Bus
Master Enable none is read (R327, R429). ECHO answers the arguments, FAR_READ four sound words, FAR_WRITE stores three words, and TIME_READ
gives network time; a FAR_READ or FAR_WRITE at an address outside the DESIGN region ends FAILED (R328). A complete call waits for
delivery when its port takes results, else its slot is free (R329, R332). CALL_DELIVER puts a result that its flow does not hold back
at the tail of its port's queue (R330). -/
def Obligations.CallService : Prop :=
  ∀ s : State, Store.rising s.hw.calls.slots = true → s.hw.snap.capture = none →
    (∀ x ∈ s.hw.callList, x.2.state = .waiting → x.2.deps ≠ []) →
    (∀ (w k : Nat) (rest : List Nat) (c : Call), s.hw.readyList w = k :: rest → s.hw.call k = some c →
      let runs := fun g : Hw => g.call k = some { c with state := .running w } ∧ g.readyList w = rest ∧
        (∀ j, j ≠ k → g.call j = s.hw.call j) ∧ ∀ v, v ≠ w → g.readyList v = s.hw.readyList v
      let a := callsA (0x1000 + 64 * w)
      let size := ringSize (s.hw.fget a 11 8)
      let tail := s.hw.fget (a + 0x18) 12 0
      (w < 32 → s.hw.bget a 0 = true → (tail + 8192 - s.hw.fget (a + 0x1C) 12 0) % 8192 < size → s.hw.bme = true →
        s.hw.isMember = false → Does (.callDispatch w) s fun g => runs g ∧ g.fget (a + 0x18) 12 0 = (tail + 1) % 8192 ∧
          (∃ m, g.out = s.hw.out ++ .hostWrite ((s.hw.reg64 (a + 8)).toNat + 64 * (tail % size))
              (dispatchRecord s.hw k c ((tail / size + 1) % 2)) :: m ∧ (s.hw.bget a 7 = false → m = [])) ∧
          OnlyRegs [a + 0x18] s.hw { g with calls := s.hw.calls, trace := s.hw.trace, host := s.hw.host, out := s.hw.out }) ∧
      (w = 32 → s.hw.runningOn 32 = [] → s.hw.calls.mpLost = none → s.hw.host.ready = true → s.hw.host.fwSwitch = false →
        mpServes c.cls = true → Does (.callDispatch w) s fun g => runs g ∧
          g = { s.hw with calls := g.calls, trace := g.trace })) ∧
    (∀ (k : Nat) (c : Call), s.hw.call k = some c → (∀ x ∈ s.hw.callList, k ∉ x.2.deps) →
      let done := fun (g : Hw) (failed : Bool) (v : BitVec 256) =>
        g.call k = (if c.resultEn then some { c with state := .held, status := if failed then 1 else 0, result := v } else none) ∧
          (∀ j, j ≠ k → g.call j = s.hw.call j) ∧ g.calls.ready = s.hw.calls.ready ∧ g.calls.results = s.hw.calls.results
      (∀ w rec, w < 32 → rec.length = 64 → s.hw.bme = true → s.hw.isMember = false →
        let a := callsA (0x1000 + 64 * w)
        let head := s.hw.fget (a + 0x24) 12 0
        head ≠ s.hw.fget (a + 0x20) 12 0 →
        let w0 : Word32 := BitVec.ofNat 32 (ofBytes (rec.take 4))
        fld w0 11 0 = k →
        (c.state = .running w → c.gen = fld w0 15 12 → Does (.completionRecord w ⟨rec, none⟩) s fun g =>
          done g (fld w0 17 16 != 0) (BitVec.ofNat 256 (ofBytes ((rec.drop 32).take 32))) ∧
            g.fget (a + 0x24) 12 0 = (head + 1) % 8192 ∧ g = { s.hw with regs := g.regs, calls := g.calls, trace := g.trace }) ∧
        (c.state ≠ .running w ∨ c.gen ≠ fld w0 15 12 → Does (.completionRecord w ⟨rec, none⟩) s fun g =>
          g.calls = s.hw.calls ∧ g.fget (a + 0x24) 12 0 = (head + 1) % 8192 ∧ Raised evCallStale 0 s.hw g ∧
            g.fget (callsA 0x24) 31 0 = min (2 ^ 32 - 1) (s.hw.fget (callsA 0x24) 31 0 + 1))) ∧
      (k < 4096 → FarIdle s.hw → c.state = .running 32 → s.hw.calls.mpLost = none →
        let plain := fun g : Hw => g = { s.hw with calls := g.calls, trace := g.trace }
        (c.cls = 0xF0 → Does (.echo k) s fun g => done g false c.args ∧ plain g) ∧
        (c.cls = 0xF3 → Does (.timeRead k) s fun g => done g false ((timeValue s.hw.time.now).setWidth 256) ∧ plain g) ∧
        (∀ d a, s.hw.mpAddr c = some (d, a) → d < 2 →
          (c.cls = 0xF1 → (∀ i, i < 4 → s.hw.farWritten d (a + i) = true ∧
              (decDecode (s.hw.farWord d (a + i))).2 = .clean) → Does (.farRead k) s fun g => plain g ∧
            ∃ v, done g false v ∧ ∀ i, i < 4 → v.extractLsb' (64 * i) 64 = (decDecode (s.hw.farWord d (a + i))).1) ∧
          (c.cls = 0xF2 → (∀ i, i < 3 → s.hw.farWritten d (a + i) = true) → Does (.farWrite k) s fun g =>
            done g false 0 ∧ (∀ i, i < 3 → g.farWord d (a + i) = decEncode (c.args.extractLsb' (64 * (i + 1)) 64)) ∧
              (∀ e b, b < 2 ^ 33 → e ≠ d ∨ b < a ∨ a + 3 ≤ b → g.farWord e b = s.hw.farWord e b) ∧
              g = { s.hw with calls := g.calls, trace := g.trace, farMem := g.farMem, farWb := g.farWb })) ∧
        (s.hw.mpAddr c = none → ∀ p ∈ [(Instr.farRead k, 0xF1), (.farWrite k, 0xF2)], c.cls = p.2 →
          Does p.1 s fun g => done g true 0 ∧ g.farMem = s.hw.farMem))) ∧
    (∀ w rec, w < 32 → rec.length = 64 →
      (s.hw.bme = false → ∀ o, (∀ m ∈ o, m < 64) → exec (.completionRecord w ⟨rec, o⟩) s = .next s) ∧
      (s.hw.isMember = true → exec (.completionRecord w ⟨rec, none⟩) s = .next s) ∧
      (∀ m k, m < 64 → s.hw.bme = true → s.hw.host.asks.find? (fun k => k.1 == m && k.2.1 == w) = some k →
        Does (.completionRecord w ⟨rec, some m⟩) s fun g => g.host.asks = s.hw.host.asks.erase k ∧
          g.out = s.hw.out ++ [.message m (.completionRecord w rec)] ∧ (∀ p, Queued (s.hw.port p) (g.port p)) ∧
          g = { s.hw with host := { s.hw.host with asks := g.host.asks }, ports := g.ports, out := g.out })) ∧
    (∀ (k : Nat) (c : Call), k < 4096 → s.hw.call k = some c → s.hw.deliverable c = true → Does (.callDeliver k) s fun g =>
      g.call k = some { c with state := .delivered } ∧ g.results c.port = s.hw.results c.port ++ [k] ∧
        (∀ j, j ≠ k → g.call j = s.hw.call j) ∧ (∀ p, p ≠ c.port → g.results p = s.hw.results p) ∧
        g = { s.hw with calls := { s.hw.calls with slots := g.calls.slots, results := g.calls.results }, trace := g.trace })

/-- A call port that trusses of this course name, once, in normal mode. CALL_PULL gives the named word of the head result, which LAST
removes together with its call; without a result it gives 0 and counts (R331). CALL_WAIT_PULL in a WAIT block that keeps R129 does the
same, but an empty pull is not counted; on an empty queue outside one it raises WAIT_UNGUARDED (R135). CANCEL_WRITE that names a call
that is not complete, by its slot and generation, removes it, also from its worker's ready list, counts it and shows 1 in
CANCEL_RESULT; one that names no such call shows 2 and changes nothing else (R333). -/
def Obligations.CallPullsAndCancel : Prop :=
  ∀ s : State,
    (∀ (d n t : Nat) (o : PortOp) (rest : List (Nat × PortOp)), d < 2 → n < 32 → s.hw.seq.checked = false → o.word < 4 →
      s.hw.portUsers d 2 n false = (t, o) :: rest → s.hw.done.contains (.port d 2 n false) = false →
      let k := 32 * d + n
      let word := fun g : Hw => Store.get 0 g.portWords (portKey d 2 n)
      let pulled := fun (j : Nat) (c : Call) (g : Hw) => word g = c.result.extractLsb' (64 * o.word) 64 ∧
        (o.last = false → g.calls = s.hw.calls) ∧
        (o.last = true → g.call j = none ∧ g.results k = (s.hw.results k).tail ∧
          (∀ i, i ≠ j → g.call i = s.hw.call i) ∧ (∀ p, p ≠ k → g.results p = s.hw.results p) ∧
          g.calls = { s.hw.calls with slots := g.calls.slots, results := g.calls.results })
      (o.op = 7 →
        (∀ j c, s.hw.headResult k = some (j, c) → Does (.callPull d n) s fun g => pulled j c g ∧
          g = { s.hw with calls := g.calls, portWords := g.portWords, done := g.done }) ∧
        (s.hw.headResult k = none → Does (.callPull d n) s fun g => word g = 0 ∧ g.calls = s.hw.calls ∧
          g.fget (callsA 0x20) 31 0 = min (2 ^ 32 - 1) (s.hw.fget (callsA 0x20) 31 0 + 1))) ∧
      (o.op = 8 →
        (∀ j c, s.hw.waitGuarded d (0x80 + n) o.last = true → s.hw.headResult k = some (j, c) →
          Does (.callWaitPull d n) s fun g => pulled j c g ∧ g.regs = s.hw.regs ∧
            g.seq.waitTaken = (if o.last then (d * 256 + (0x80 + n)) :: s.hw.seq.waitTaken else s.hw.seq.waitTaken)) ∧
        (s.hw.waitGuarded d (0x80 + n) o.last = true → s.hw.headResult k = none → Does (.callWaitPull d n) s fun g =>
          word g = 0 ∧ g = { s.hw with portWords := g.portWords, done := g.done }) ∧
        (s.hw.waitGuarded d (0x80 + n) o.last = false → s.hw.headResult k = none → Does (.callWaitPull d n) s fun g =>
          word g = 0 ∧ g.calls = s.hw.calls ∧ OnPath (evWaitUnguarded d) s.hw g))) ∧
    (∀ v : Word32, Store.rising s.hw.calls.slots = true → (∀ x ∈ s.hw.callList, x.2.state = .waiting → x.2.deps ≠ []) →
      let k := fld v 11 0
      (∀ c, s.hw.call k = some c → c.active = true → c.state ≠ .running 32 → c.gen = fld v 15 12 →
        (∀ x ∈ s.hw.callList, k ∉ x.2.deps) → Does (.cancelWrite v) s fun g => g.call k = none ∧
          (∀ j, j ≠ k → g.call j = s.hw.call j) ∧
          (∀ w, g.readyList w = if c.state = .ready w then (s.hw.readyList w).erase k else s.hw.readyList w) ∧
          g.reg (callsA 0xC) = 1 ∧ g.fget (callsA 0x28) 31 0 = min (2 ^ 32 - 1) (s.hw.fget (callsA 0x28) 31 0 + 1) ∧
          OnlyRegs [callsA 0xC, callsA 0x28] s.hw { g with calls := s.hw.calls, trace := s.hw.trace }) ∧
      ((∀ c, s.hw.call k = some c → c.active = false ∨ c.gen ≠ fld v 15 12) → Does (.cancelWrite v) s fun g =>
        g.reg (callsA 0xC) = 2 ∧ OnlyRegs [callsA 0xC] s.hw g))

/-- FRAME_TICK without a capture or a level change that waits (R28, R122, R126, R136, Table 5.12). Once frame-go has taken effect, the
allowance has come and position S + ω has passed: with no halt due, frame n + 1 begins at position 0 of its own clock 0 with the
vector and the select that have arrived last, with no pending RWF value left, and each die's path is what its plan resolves to, empty on
a PLAN_FAULT; with the one halt that is due, or at the last step, the configuration is HELD with its reason, and the vector and the
frame number wait for the next start. In each case LAST_FRAME of both dies records the frame. The first tick of a fresh start begins
the frame whose number stands; the one of a start that a halt deferred goes one on; the one after a level-change gap begins the frame
that the gap put off (R150). A start whose halt is due by then is HELD again, also on a module that is cut off from the tree (R240,
R255). Before the tick is due nothing happens. -/
def Obligations.FrameTicks : Prop :=
  ∀ s : State, s.hw.snap.capture = none → s.hw.seq.levelDue = none → s.hw.seq.path.length = 2 →
    let q := s.hw.seq
    let begins := fun (g : Hw) (dev : Word64) (alt : Nat) => g.seq.inFrame = true ∧ g.seq.pos = 0 ∧ g.seq.fclk = 0 ∧
      g.seq.starting = none ∧ g.rwf = [] ∧ keepMarks g.done = g.done ∧ g.seq.dev = dev ∧ g.seq.alt = alt ∧ ∀ d, d < 2 →
        let r := resolve (fun b => Store.get 0 s.hw.plan (d * 256 + b)) (fun e => Store.get 0 s.hw.ptable (d * 16 + e)) dev alt
          1024 0 0
        g.seq.path.getD d [] = if r.runaway || decide (q.schedLen < r.len) then [] else r.segs
    let holds := fun (g : Hw) (reason : Nat) => g.seq.run = .held ∧ g.seq.haltReason = reason ∧ g.seq.inFrame = false ∧
      g.seq.deferred = true ∧ g.seq.halts = [] ∧ g.seq.frame = q.frame ∧ g.seq.dev = q.dev ∧ g.seq.devNext = q.devNext ∧
      g.rwf = s.hw.rwf
    let records := fun g : Hw => ∀ d, d < 2 → g.reg (seqA d 0x40) =
      BitVec.ofNat 32 (min 0xFFFFF q.stalls + 2 ^ 20 * min 63 (q.stretches - q.noted) + 2 ^ 26 * q.gapUs)
    (q.starting = none → q.inFrame = true → (q.run = .running ∨ q.run = .halting) → q.goEff = true → q.allowance ≤ q.fclk →
      (q.schedLen + s.hw.endWindow < q.pos ∨ q.pos = q.schedLen + s.hw.endWindow ∧ s.hw.kindNow = .exec) →
      ((∀ x ∈ q.halts, q.clk < x.eff) → ¬(q.mode = .step ∧ q.stepCount = 1) → Does .frameTick s fun g =>
        begins g q.devNext q.altNext ∧ g.seq.frame = q.frame + 1 ∧ g.seq.run = q.run ∧ records g) ∧
      (∀ x, q.halts = [x] → x.eff ≤ q.clk → Does .frameTick s fun g => holds g x.reason ∧ records g) ∧
      ((∀ x ∈ q.halts, q.clk < x.eff) → q.mode = .step → q.stepCount = 1 → Does .frameTick s fun g =>
        holds g 2 ∧ records g)) ∧
    (q.goEff = true → (q.run = .running ∨ q.run = .halting) →
      ((∀ x ∈ q.halts, q.clk < x.eff) →
        (q.starting = some 0 → Does .frameTick s fun g => begins g q.dev q.alt ∧ g.seq.frame = q.frame) ∧
        (q.starting = some 1 → Does .frameTick s fun g => begins g q.devNext q.altNext ∧ g.seq.frame = q.frame + 1)) ∧
      (q.starting = some 2 → Does .frameTick s fun g => g.seq.inFrame = true ∧ g.seq.pos = 0 ∧ g.seq.fclk = 0 ∧
        g.seq.starting = none ∧ g.seq.dev = q.dev ∧ g.seq.alt = q.alt ∧ g.seq.frame = q.frame ∧ g.rwf = s.hw.rwf)) ∧
    (∀ x k, (q.run = .running ∨ q.run = .halting) → q.starting = some k → k < 2 → q.halts = [x] → x.eff ≤ q.clk →
      q.goEff = true ∨ s.hw.cutOff = true → Does .frameTick s fun g => g.seq.run = .held ∧ g.seq.haltReason = x.reason ∧
        g.seq.inFrame = false ∧ g.seq.deferred = (k == 1) ∧ g.seq.starting = none ∧ g.seq.halts = [] ∧ g.seq.frame = q.frame ∧
        g.rwf = s.hw.rwf) ∧
    (q.starting = none → q.inFrame = false ∨ (q.goEff = false ∧ s.hw.isMember = false) ∨ q.fclk < q.allowance ∨
      q.pos < q.schedLen + s.hw.endWindow → exec .frameTick s = .next s)

/-- A configuration symbol that is sent takes effect H course clocks later (R127). FRAME_GO_SEND on the head of a frame that is not
TIMED sends frame-go once, H clocks before the allowance ends, and before that does nothing (R137). WAIT_TEST in the test course of a
WAIT block, in normal mode: with every queue of the wait set ready it only notes the block; otherwise the wait is counted and
a stall request is made and sent, which holds back position q + H, or S (R130, R131). With one own request: STALL_RELEASE
sends its release when every queue is ready, and otherwise does nothing; WAIT_LIMIT_REACHED sends it once WAIT_LIMIT clocks have
passed and raises WAIT_TIMEOUT (R134). DROOP_DETECT in a frame inserts one stretch clock, whatever the number of guards, sends the
stretch and raises DROOP_STRETCH of each named die (R140); on a module of a configuration of more than one whose guards have stretched
more than eight of the last H course clocks, it raises DROOP_LAG (R141). -/
def Obligations.WaitsAndStretch : Prop :=
  ∀ s : State,
    let q := s.hw.seq
    let sym := fun (k : SymKind) (arg : Nat) => (⟨k, arg, s.hw.devIndex, q.clk + q.horizon, q.clk⟩ : Sym)
    let sends := fun (g : Hw) (k : SymKind) (arg : Nat) =>
      g.seq.syms = q.syms ++ [sym k arg] ∧ g.out = s.hw.out ++ [.symbol k arg q.clk] ∧
        ∀ p, g.port p = s.hw.port p ∨
          s.hw.conf.treePorts.contains p = true ∧ g.port p = { s.hw.port p with txSyms := (s.hw.port p).txSyms ++ [sym k arg] }
    let only := fun (g : Hw) => g = { s.hw with seq := g.seq, out := g.out, ports := g.ports }
    (s.hw.isHead = true → q.goSent = false → q.run = .running → q.inFrame = true → q.mode ≠ .timed →
      let n := (q.frame.toNat + 1) % 1024
      (q.allowance ≤ q.fclk + q.horizon → Does .frameGoSend s fun g => sends g .frameGo n ∧
        g.seq = { q with goSent := true, syms := g.seq.syms } ∧ only g) ∧
      (q.fclk + q.horizon < q.allowance → exec .frameGoSend s = .next s)) ∧
    (∀ d sg, d < 2 → s.hw.execClock = true → q.checked = false → s.hw.segAt d q.pos = some sg → sg.kind = 1 → sg.pos = q.pos →
      s.hw.done.contains (.waitTest d) = false →
      let ready := (s.hw.waitQueues d sg.wset).all (s.hw.queueReady d)
      let taken := q.waitTaken.filter fun k => k / 256 != d
      (ready = true → Does (.waitTest d) s fun g => g = { s.hw with seq := { q with waitTaken := taken }, done := g.done }) ∧
      (ready = false → Does (.waitTest d) s fun g => sends g .stallReq (q.reqNum % 16) ∧
        g.seq = { q with waitTaken := taken, syms := g.seq.syms, reqNum := q.reqNum + 1, stallReqs := q.stallReqs ++
          [⟨s.hw.devIndex, q.reqNum % 16, min (q.pos + q.horizon) q.schedLen, some (d, sg.wset), q.clk, false, false⟩] } ∧
        g.fget (seqA d 0x48) 31 0 = min (2 ^ 32 - 1) (s.hw.fget (seqA d 0x48) 31 0 + 1))) ∧
    (∀ r d w, q.run ≠ .empty → q.stallReqs = [r] → r.own = some (d, w) → r.sent = false →
      let ready := (s.hw.waitQueues d w).all (s.hw.queueReady d)
      let released := fun g : Hw => sends g .release r.num ∧ g.seq.stallReqs = [{ r with sent := true }]
      (q.inFrame = true → ready = true → Does .stallRelease s fun g => released g ∧
        g.seq = { q with syms := g.seq.syms, stallReqs := g.seq.stallReqs } ∧ only g) ∧
      (ready = false → exec .stallRelease s = .next s) ∧
      (max 1 (s.hw.reg (seqA d 0x30)).toNat ≤ q.clk - r.t0 → Does .waitLimitReached s fun g =>
        g.seq.stallReqs = [{ r with sent := true }] ∧ sym .release r.num ∈ g.seq.syms ∧
          OnPath (evWaitTimeout d) s.hw g) ∧
      (q.clk - r.t0 < max 1 (s.hw.reg (seqA d 0x30)).toNat → exec .waitLimitReached s = .next s)) ∧
    (∀ d0 d1, d0 = true ∨ d1 = true → q.run ≠ .empty → s.hw.arrayClock = true → q.inFrame = true → q.stretchedNow = false →
      let lag := (q.clk :: q.lagClks).filter fun c => decide (q.clk < c + q.horizon)
      (s.hw.multi = true → 8 < lag.length → Does (.droopDetect d0 d1) s fun g => OnPath evDroopLag s.hw g ∧
        g.seq.stretches = q.stretches + 1 ∧ g.seq.lagClks = lag) ∧
      (s.hw.multi = false ∨ lag.length ≤ 8 → Does (.droopDetect d0 d1) s fun g => sends g .stretch 0 ∧
        g.seq = { q with stretchedNow := true, stretchDue := q.stretchDue + 1, stretches := q.stretches + 1, noted := q.noted + 1
                         lagClks := lag, stretchLog := (s.hw.devIndex, q.clk) :: q.stretchLog, syms := g.seq.syms } ∧
        g.fault.path = s.hw.fault.path ++
          (if d0 then [⟨evDroopStretch 0, 0, q.frame, false, q.ticks⟩] else []) ++
          (if d1 then [⟨evDroopStretch 1, 0, q.frame, false, q.ticks⟩] else []) ∧
        g = { s.hw with seq := g.seq, out := g.out, ports := g.ports, fault := { s.hw.fault with path := g.fault.path } }))

/-- A symbol that takes effect leaves the symbols on their way, if it was one of them, and changes beside that only what is named
here (R127, R237, Table 8.8). FRAME_GO: the next tick may come, and in a frame tells a member its allowance. STALL_REQ of another module in a frame: its request
holds back the position in which that module stood H clocks ago, plus H, or S, and slack clocks beyond that position were stall
clocks; without stretches the position is the one in which this module stood; RELEASE ends the requests of that origin and number (R131). STRETCH of another module
in a frame inserts one stretch clock (R140). HALT_NOW while frames run: STOPPED_MID with the reason in ARG, and no request, halt or
start left; HALT_AT_END: HALTING, with the halt waiting for the tick (R240). XTRIG with a trigger code: the code counts in this clock
(R346). THROTTLE while frames run: with ARG 1, one level slower from the next tick, and THERMAL_THROTTLE (R152). RUN_CTRL in HELD
with operation 0, 1 or 2: RUNNING in FREE, TIMED or STEP, with a change due at the first tick where the level in force is not the
one requested, in checked mode at most P2, and in checked mode with HAZ_COUNT and CREDIT_OBS clear (R148, R212); with operation 3 while frames run: a halt with reason 1; with
operation 4 in HELD: LEVEL_CHANGE, also toward the level in force (R143, R148). -/
def Obligations.SymbolsTakeEffect : Prop :=
  ∀ (s : State) (origin arg : Nat), origin < 64 → arg < 1024 → s.hw.seq.srcPending = none →
    let q := s.hw.seq
    let rest := fun k : SymKind => match q.syms.find? fun x => x.kind == k && x.origin == origin && x.arg == arg with
      | some x => q.syms.erase x
      | none => q.syms
    let gives := fun (i : Instr) (q' : Seq) => Does i s fun g => g = { s.hw with seq := q' }
    let runs := q.run = .running ∨ q.run = .halting
    let halted := fun (k : SymKind) (reason : Nat) (g : Hw) => (∃ x : PendHalt, x.reason = reason ∧ x.origin = origin ∧
      x.eff ≤ q.clk ∧ g.seq.halts = q.halts ++ [x]) ∧
      g = { s.hw with seq := { q with syms := rest k, run := .halting, halts := g.seq.halts } }
    gives (.frameGo origin arg) { q with syms := rest .frameGo, goEff := true, allowance :=
      if q.inFrame = true ∧ s.hw.isHead = false then
        (if q.mode = .timed ∧ q.fclk ≤ q.horizon then min q.fclk q.allowance else q.fclk) else q.allowance } ∧
    (q.stretchLog = [] → ∀ m n, q.posThere m n = q.posHist.getD (q.horizon - 1) 0) ∧
    (origin ≠ s.hw.devIndex → q.inFrame = true →
      let hold := min (q.posThere s.hw.devIndex origin + q.horizon) q.schedLen
      let sent := match q.syms.find? fun x => x.kind == .stretch && x.origin == origin && x.arg == arg with
        | some x => x.sent
        | none => q.clk - q.horizon
      gives (.stallReq origin arg) { q with syms := rest .stallReq, pos := min q.pos hold, stalls := q.stalls + (q.pos - hold)
                                            stallReqs := q.stallReqs ++ [⟨origin, arg % 16, hold, none, q.clk, false, false⟩] } ∧
      gives (.stretch origin arg) { q with syms := rest .stretch, stretchDue := q.stretchDue + 1, stretches := q.stretches + 1
                                           noted := q.noted + 1, stretchLog := (origin, sent) :: q.stretchLog }) ∧
    gives (.release origin arg) { q with
      syms := rest .release
      stallReqs := q.stallReqs.filter (fun r => !(r.origin == origin && r.num == arg % 16)) } ∧
    (runs →
      gives (.haltNow origin arg) { q with syms := rest .haltNow, run := .stoppedMid, haltReason := arg % 16, inFrame := false
                                           halts := [], stallReqs := [], starting := none } ∧
      Does (.haltAtEnd origin arg) s (halted .haltAtEnd (arg % 16)) ∧
      (arg % 8 = 3 → Does (.runCtrl origin arg) s (halted .runCtrl 1)) ∧
      (arg % 2 = 1 → q.level < 3 → Does (.throttle origin arg) s fun g => Raised evThermalThrottle 0 s.hw g ∧
        g = { s.hw with fault := { s.hw.fault with path := g.fault.path }, seq := { q with
          syms := rest .throttle, throttled := true, levelDue := some (q.level + 1, true) } })) ∧
    (arg % 256 < 0xFD → Does (.xtrig origin arg) s fun g =>
      g = { s.hw with seq := { q with syms := rest .trigger }, acq := { s.hw.acq with xnow := (arg % 256) :: s.hw.acq.xnow } }) ∧
    (q.run = .held →
      (∀ m ∈ [RunMode.free, .timed, .step].zipIdx, arg % 8 = m.2 → arg.testBit 5 = false → gives (.runCtrl origin arg)
        { q with syms := rest .runCtrl, run := .running, mode := m.1, checked := false, starting := some (if q.deferred then 1 else 0)
                 goSent := m.1 == .timed && q.goSent, goEff := m.1 != .timed, levelDue := q.startDue false }) ∧
      (arg % 8 = 0 → arg.testBit 5 = true → Does (.runCtrl origin arg) s fun g => g.seq = { q with
          syms := rest .runCtrl, run := .running, mode := .free, checked := true, starting := some (if q.deferred then 1 else 0)
          goSent := false, goEff := true, levelDue := q.startDue true } ∧
        ∀ d, d < 2 → g.reg (seqA d 0x88) = 0 ∧ g.reg (seqA d 0x8C) = 0) ∧
      (arg % 8 = 4 → Does (.runCtrl origin arg) s fun g =>
        g.seq = { q with syms := rest .runCtrl, levelReq := arg / 8 % 4, run := .levelChange, inFrame := false, levelDue := none
                         realign := true, levelFail := false, stretches := q.noted
                         levelChg := some ⟨false, q.level, s.hw.levelFor (arg / 8 % 4), 0, false⟩ } ∧
        g.bget 0x44 6 = false ∧ OnlyRegs [0x44] s.hw { g with seq := q }))

/-- In LEVEL_CHANGE toward a level: LEVEL_LOCKED puts the level in force and raises LEVEL_CHANGED; a change asked for in HELD ends in
HELD, where a waiting change of SRC takes effect (R19), and one from RUNNING goes on RUNNING, or HALTING when a halt has come meanwhile,
waits for its first tick after the gap, and the head sends frame-go (R148 to R150).
LEVEL_LOCK_TIMEOUT turns the change back to the earlier level and its request. LEVEL_RETURN_LOCKED then ends in HELD with
HALT_REASON 7 at the earlier level, a waiting change of SRC taking effect; a PLL that does not lock leaves the array clock
stopped (R151). JUNCTION_HOT, where an image is loaded, sends a throttle symbol with ARG 1, and THROTTLE_RECOVER on a head that a throttle has slowed one with ARG 0 (R152). -/
def Obligations.LevelChanges : Prop :=
  ∀ s : State,
    let q := s.hw.seq
    let sends := fun (g : Hw) (k : SymKind) (arg : Nat) => g.out = s.hw.out ++ [.symbol k arg q.clk] ∧
      g.seq.syms = q.syms ++ [⟨k, arg, s.hw.devIndex, q.clk + q.horizon, q.clk⟩]
    (∀ (c : LevelChg) (us : Nat), q.levelChg = some c → c.phase = 0 →
      (c.fromRunning = false → Does (.levelLocked us) s fun g => Raised evLevelChanged 0 s.hw g ∧
        g.seq = { q with level := c.new, levelChg := none, run := .held, srcPending := none } ∧
        (∀ v, q.srcPending = some v → v < 4 → g.fget 0x44 1 0 = v) ∧ (q.srcPending = none → g.fget 0x44 1 0 = s.hw.fget 0x44 1 0) ∧
        OnlyRegs [0x44] s.hw { g with seq := q, fault := s.hw.fault }) ∧
      (c.fromRunning = true → s.hw.isHead = true → Does (.levelLocked us) s fun g => Raised evLevelChanged 0 s.hw g ∧
        sends g .frameGo (q.frame.toNat % 1024) ∧
        g.seq = { q with level := c.new, levelChg := none, run := if q.halts.isEmpty then .running else .halting, gapUs := min 40 us, starting := some 2
                         goEff := false, goSent := true, syms := g.seq.syms }) ∧
      Does .levelLockTimeout s fun g =>
        g = { s.hw with seq := { q with levelReq := c.old, levelChg := some { c with phase := 1 } } }) ∧
    (∀ (c : LevelChg) (ok : Bool) (v : Nat), q.levelChg = some c → c.phase = 1 → q.srcPending = some v → v < 4 →
      Does (.levelReturnLocked ok) s fun g => g.seq.run = .held ∧ g.seq.haltReason = 7 ∧ g.seq.level = c.old ∧
        g.seq.srcPending = none ∧ g.fget 0x44 1 0 = v ∧ OnlyRegs [0x44] s.hw { g with seq := q }) ∧
    (∀ (c : LevelChg) (ok : Bool), q.levelChg = some c → c.phase = 1 → q.srcPending = none → Does (.levelReturnLocked ok) s fun g =>
      g.seq = { q with run := .held, haltReason := 7, level := c.old, levelReq := c.old, levelChg := none, levelFail := true, halts := []
                       pllDead := q.pllDead || !ok } ∧
        OnlyRegs [0x44] s.hw { g with seq := q } ∧ (ok = false → g.regs = s.hw.regs)) ∧
    (q.run = .empty → exec .junctionHot s = .next s) ∧
    (q.run ≠ .empty → Does .junctionHot s fun g => sends g .throttle 1 ∧
      g = { s.hw with seq := { q with syms := g.seq.syms }, out := g.out, ports := g.ports }) ∧
    (s.hw.isHead = true → (q.throttled = true → q.run ≠ .empty → Does .throttleRecover s fun g => sends g .throttle 0 ∧
      g = { s.hw with seq := { q with syms := g.seq.syms }, out := g.out, ports := g.ports }) ∧
      (q.throttled = false → exec .throttleRecover s = .next s))

/-- A port that leaves for DETECT, RETRY_WAIT, ABSENT or DISABLED forgets its link: identity roles, no erasure, messages not yet
acknowledged numbered anew, and only the scrambler registers go on (R217 to R223, R226); in DETECT every transmit lane is at preset 2.
PORT_START of a disabled, enabled port: DETECT. SIGNAL_DETECT_RISE in DETECT: TRAIN as soon as 12 lanes detect signal, with every
transmit lane at preset 2, or after L-OFF at the coefficients that were kept (R252); outside RUN, where its lanes do not run, it only
notes the lanes (Table 1.5). SIGNAL_DETECT_FALL below 12 lanes in TRAIN, ALIGN or CALIBRATE:
DETECT, RETRIES 0, one loss counted. TRAIN_TIMEOUT with at least 17 lanes ready in both directions: ALIGN; otherwise, and on
ALIGN_TIMEOUT and CALIBRATE_TIMEOUT, RETRIES and LAST_FAIL, and RETRY_WAIT or, at LIMIT, ABSENT with LINK_ABSENT (R222).
RETRY_WAIT_END: DETECT. PORT_RETRAIN of a port that is not DISABLED: DETECT, RETRIES 0. PORT_ENABLE_WRITE with 0: DISABLED; with 1 on a disabled,
started port: DETECT. MARKER_TIMEOUT of an awake ACTIVE port that carries nothing: LINK_LOST, then DETECT (R254); of one that carries
the configuration: the configuration is broken, frames that run halt at their end with HALT_REASON 4, and a module that loses the
link towards its head loses LOCKED and returns to its own reference (R32, R255). -/
def Obligations.EavePortStates : Prop :=
  ∀ (s : State) (p : Nat), p < 12 →
    let pt := s.hw.port p
    let sig := s.hw.reg (eaveA p 0x10)
    let left := fun (st : PortState) (g : Hw) =>
      g.port p = { ({} : EavePort) with
        state := st, started := (g.port p).started, mseqTx := pt.unacked.length % 256
        lanes := pt.lanes.map fun l => { ({} : Lane) with scr := l.scr, descr := l.descr }
        unacked := pt.unacked.zipIdx.map fun m => { m.1 with seq := m.2 % 256, sent := false } } ∧
      (∀ r, r < 18 → g.fget (eaveA p (0x40 + 4 * r)) 4 0 = r ∧ g.bget (eaveA p (0x40 + 4 * r)) 5 = false) ∧
      (∀ q, q ≠ p → Queued (s.hw.port q) (g.port q)) ∧
      (st = .detect → ∀ l, l < 19 → g.reg (eaveA p (0x200 + 4 * l)) = BitVec.ofNat 32 (4 + 2 ^ 8 * 8 + 2 ^ 16 * 52))
    let lost := fun g : Hw => g.port p = { ({} : EavePort) with
        state := .detect, started := pt.started, mseqTx := pt.unacked.length % 256
        lanes := pt.lanes.map fun l => { ({} : Lane) with scr := l.scr, descr := l.descr }
        unacked := pt.unacked.zipIdx.map fun m => { m.1 with seq := m.2 % 256, sent := false } } ∧
      g.conf.broken = true ∧ g.conf.treePorts = s.hw.conf.treePorts.filter (· != p) ∧
      OnPath (evLinkLost p) s.hw g ∧ (s.hw.pstate < 3 → ∃ e ∈ g.fault.path, e.id = evConfigBroken ∧ e.poison = false)
    let fails := fun (reason : Nat) (g : Hw) =>
      let n := min 255 (s.hw.fget (eaveA p 8) 7 0 + 1)
      g.fget (eaveA p 8) 7 0 = n ∧ g.fget (eaveA p 8) 23 16 = reason ∧
        (n < max 1 (s.hw.fget (eaveA p 0) 15 8) → left .retryWait g) ∧
        (max 1 (s.hw.fget (eaveA p 0) 15 8) ≤ n → left .absent g ∧ Raised (evLinkAbsent p) 0 s.hw g)
    (s.hw.host.ready = true → pt.state = .disabled → s.hw.bget (eaveA p 0) 0 = true → Does (.portStart p) s fun g =>
      left .detect g ∧ (g.port p).started = true) ∧
    (∀ lanes : BitVec 19, pt.state = .detect → fld sig 31 19 = 0 →
      let now := sig ||| lanes.setWidth 32
      (12 ≤ onesOf now 19 → s.hw.pstate = 0 → Does (.signalDetectRise p lanes) s fun g => g.reg (eaveA p 0x10) = now ∧
        g.port p = { pt with state := .train, savedTaps := none } ∧ ∀ l, l < 19 →
          let t := match pt.savedTaps with
            | some kept => kept.getD l (4, 8)
            | none => (4, 8)
          g.reg (eaveA p (0x200 + 4 * l)) = BitVec.ofNat 32 (t.1 + 2 ^ 8 * t.2 + 2 ^ 16 * (64 - t.1 - t.2))) ∧
      (onesOf now 19 < 12 ∨ s.hw.pstate ≠ 0 → Does (.signalDetectRise p lanes) s fun g => g.reg (eaveA p 0x10) = now ∧
        OnlyRegs [eaveA p 0x10] s.hw g)) ∧
    (∀ lanes : BitVec 19, s.hw.pstate < 3 → pt.state = .train ∨ pt.state = .align ∨ pt.state = .calibrate → fld sig 31 19 = 0 →
      onesOf (sig &&& ~~~ lanes.setWidth 32) 19 < 12 → Does (.signalDetectFall p lanes) s fun g => left .detect g ∧
        g.fget (eaveA p 8) 7 0 = 0 ∧ g.fget (eaveA p 8) 15 8 = min 255 (s.hw.fget (eaveA p 8) 15 8 + 1)) ∧
    (pt.state = .train → (17 ≤ pt.readyLanes.length → 17 ≤ pt.partnerLanes.length → Does (.trainTimeout p) s fun g =>
        (g.port p).state = .align ∧ (g.port p).lanes = pt.lanes) ∧
      (pt.readyLanes.length < 17 ∨ pt.partnerLanes.length < 17 → Does (.trainTimeout p) s (fails 1))) ∧
    (pt.state = .align → Does (.alignTimeout p) s (fails 3)) ∧
    (pt.state = .calibrate → Does (.calibrateTimeout p) s (fails 4)) ∧
    (pt.state = .retryWait → Does (.retryWaitEnd p) s (left .detect)) ∧
    (∀ v : Word32, bit v 0 = true → bit v 1 = true → pt.state ≠ .disabled → Does (.portRetrain p v) s fun g =>
      left .detect g ∧ g.fget (eaveA p 8) 7 0 = 0 ∧ g.reg (eaveA p 0) = v &&& 0xFF05) ∧
    (∀ v : Word32, (bit v 0 = false → pt.state ≠ .disabled → Does (.portEnableWrite p v) s fun g =>
        left .disabled g ∧ g.reg (eaveA p 0) = v &&& 0xFF05) ∧
      (bit v 0 = true → pt.state = .disabled → pt.started = true → Does (.portEnableWrite p v) s fun g =>
        left .detect g ∧ g.reg (eaveA p 0) = v &&& 0xFF05)) ∧
    (pt.state = .active → pt.rxSleep = 0 → s.hw.carries p = false → Does (.markerTimeout p) s fun g =>
      left .detect g ∧ Raised (evLinkLost p) 0 s.hw g) ∧
    (pt.state = .active → pt.rxSleep = 0 → s.hw.carries p = true → Does (.markerTimeout p) s fun g => lost g ∧
      (s.hw.framesOn = true → s.hw.seq.run ≠ .empty → (∃ x ∈ g.seq.syms, x.kind = .haltAtEnd ∧ x.arg = 4 ∧ x.origin = s.hw.devIndex ∧ x.sent = s.hw.seq.clk) ∧
        (s.hw.conf.uplink = some p → g.conf.uplink = none ∧ g.seq.srcPending = some 0 ∧ g.bget 0x44 6 = false)) ∧
      (s.hw.framesOn = false → g.seq = s.hw.seq ∧
        (s.hw.conf.uplink = some p → g.conf.uplink = none ∧ g.fget 0x44 1 0 = 0)))

/-- COEFF_BLOCK on lane l of a port in TRAIN, on a module in RUN: 64 valid headers in a row give block lock, 16 invalid ones of the last
64 take it away, and LANE_LOCK shows it (R227). A lane without lock is not ready, and nothing answers. On a locked one the lane is ready
when the receiver accepts its coefficients, the partner's READY is taken over, the standing request goes on, one COEFF block answers;
without a request the taps stay and the status reads none, and with a preset request that is new they are the preset's; when all 19
lanes are ready in both directions ALIGN begins (R215, R220, R224). A block that is no COEFF block of the lane changes no tap, and
nothing answers. -/
def Obligations.EaveLanes : Prop :=
  ∀ (s : State) (p : Nat), p < 12 →
    let pt := s.hw.port p
    let others := fun g : Hw => ∀ q, q ≠ p → g.port q = s.hw.port q
    ∀ (l : Nat) (head : BitVec 2) (word : Word64) (accept : Bool) (want : BitVec 7) (hd : Nat) (w : Word64) (x : Lane), l < 19 →
      s.hw.pstate = 0 → pt.state = .train → pt.lanes.length = 19 → (pt.lane l).receive (word ++ head) = (hd, w, x) →
      let taps := eaveA p (0x200 + 4 * l)
      let ok := hd == 1 || hd == 2
      let bad := (((ok :: (pt.lane l).hdrs).take 64).filter (!·)).length
      let good := if ok then min 64 ((pt.lane l).good + 1) else 0
      let lock := decide (bad < 16) && (decide (good = 64) || s.hw.bget (eaveA p 0xC) l)
      let others := fun g : Hw => others g ∧ ∀ k, k ≠ l → (g.port p).lane k = pt.lane k
      (lock = false → Does (.coeffBlock p l head word accept want) s fun g => g.bget (eaveA p 0xC) l = false ∧ others g ∧
        (g.port p).lane l = { x with ready := false, hdrs := (ok :: (pt.lane l).hdrs).take 64, good := good } ∧ g.out = s.hw.out ∧
        g.reg taps = s.hw.reg taps) ∧
      (lock = true → hd = 2 → fld w 7 0 = 0xC5 → fld w 12 8 = l → Does (.coeffBlock p l head word accept want) s fun g =>
        let y := (g.port p).lane l
        y.ready = accept ∧ y.partnerReady = bit w 23 ∧ g.bget (eaveA p 0xC) l = true ∧ y.req = (pt.lane l).nextReq w want ∧
          y.seenPre = fld w 25 24 ∧ y.seenPost = fld w 27 26 ∧ (∃ b, g.out = s.hw.out ++ [.laneBlock p l b]) ∧
          (fld w 22 16 = 0 → y.statPre = 0 ∧ y.statPost = 0 ∧
            g.fget taps 3 0 = s.hw.fget taps 3 0 ∧ g.fget taps 12 8 = s.hw.fget taps 12 8) ∧
          (∀ n, n < 5 → fld w 22 20 = n + 1 → x.statPre = 0 → x.statPost = 0 → y.statPre = 1 ∧ y.statPost = 1 ∧
            (g.fget taps 3 0, g.fget taps 12 8) = presetTaps n) ∧
          ((g.port p).state = if (g.port p).readyLanes.length = 19 ∧ (g.port p).partnerLanes.length = 19 then .align else .train) ∧
          others g) ∧
      (lock = true → hd ≠ 2 ∨ fld w 7 0 ≠ 0xC5 ∨ fld w 12 8 ≠ l → Does (.coeffBlock p l head word accept want) s fun g =>
        ((g.port p).lane l).ready = accept ∧ (g.port p).state = .train ∧ g.bget (eaveA p 0xC) l = true ∧ others g ∧ g.out = s.hw.out ∧
          g.reg taps = s.hw.reg taps)

/-- COEFF_BLOCK, SPARE_COMPARE_PASS, SPARE_TIMEOUT, LANE_WAKE and SLEEP_CTRL_WRITE complete on every state, and touch another port only
by a report that waits there to be sent (R442). SPARE_COMPARE_PASS after 1,024 equal block sets: the role stands on lane 18, SPARE_DONE
waits to be sent and LANE_SPARED is raised; on a port of a running configuration the swap waits for the tick (R247, R248).
SPARE_TIMEOUT: no spare any more, and SPARE_FAILED (R249). LANE_WAKE of a module in RUN: a direction in L-QUIET receives again, and
one in L-OFF trains from DETECT with the coefficients kept. SLEEP_CTRL_WRITE of an ACTIVE port that carries no configuration: the
announcement of a new level waits to be sent, in place of an earlier one, level 0 wakes a direction in L-QUIET at once, and a
direction leaves L-OFF through DETECT, with the coefficients kept (R252, R253). -/
def Obligations.EaveLaneControl : Prop :=
  ∀ (s : State) (p : Nat), p < 12 →
    let pt := s.hw.port p
    let others := fun g : Hw => ∀ q, q ≠ p → g.port q = s.hw.port q
    let reports := fun g : Hw => ∀ q, q ≠ p → Queued (s.hw.port q) (g.port q)
    let kept := some (pt.savedTaps.getD ((List.range 19).map fun l =>
      (s.hw.fget (eaveA p (0x200 + 4 * l)) 3 0, s.hw.fget (eaveA p (0x200 + 4 * l)) 12 8)))
    (∀ (l : Nat) (head : BitVec 2) (word : Word64) (accept : Bool) (want : BitVec 7), l < 19 →
      Does (.coeffBlock p l head word accept want) s others) ∧
    Does (.spareComparePass p) s others ∧ Does (.spareTimeout p) s others ∧ (∀ v : Word32, Does (.sleepCtrlWrite p v) s reports) ∧
    (∀ n, n < 20 → s.hw.pstate < 2 → Does (.laneWake p n) s reports) ∧
    (∀ sp : Spare, pt.spare = some sp → sp.role < 18 →
      (sp.ready = true → 1024 ≤ sp.matched →
        ((s.hw.carries p && s.hw.busy) = false → Does (.spareComparePass p) s fun g =>
          g.reg (eaveA p (0x40 + 4 * sp.role)) = 18 ∧ g.bget (eaveA p 4) 21 = true ∧ Raised (evLaneSpared p) 0 s.hw g ∧
            g.port p = { pt with spare := none, txCtl := pt.txCtl ++ [⟨5, 2 + sp.role * 2 ^ 4, 0⟩] } ∧ others g) ∧
        ((s.hw.carries p && s.hw.busy) = true → Does (.spareComparePass p) s fun g =>
          g.port p = { pt with spare := some { sp with passed := true } } ∧ others g ∧ g = { s.hw with ports := g.ports })) ∧
      (sp.passed = false → Does (.spareTimeout p) s fun g => g.port p = { pt with spare := none, spareDead := true } ∧
        others g ∧ Raised (evSpareFailed p) 0 s.hw g ∧ g.regs = s.hw.regs)) ∧
    (pt.spare = none → exec (.spareComparePass p) s = .next s ∧ exec (.spareTimeout p) s = .next s) ∧
    (s.hw.pstate = 0 → ∀ n, n < 20 → (pt.rxSleep = 1 → Does (.laneWake p n) s fun g =>
        g.port p = { pt with rxSleep := 0, sinceRx := 0, badRun := 0, samples := [], confirm := 16 } ∧ others g ∧
          g = { s.hw with ports := g.ports }) ∧
      (pt.rxSleep = 2 → Does (.laneWake p n) s fun g => (g.port p).state = .detect ∧ (g.port p).savedTaps = kept) ∧
      (pt.rxSleep = 0 → exec (.laneWake p n) s = .next s)) ∧
    (∀ v : Word32, pt.state = .active → s.hw.carries p = false →
      let r := fld v 1 0 % 3
      let awake := { pt with
        txSleep := 0, sleepAfter := none, txCtl := pt.txCtl.filter fun m => !(m.type == 5 && (m.field % 16 == 3 || m.field % 16 == 4)) }
      (r = 0 → pt.txSleep ≠ 2 → Does (.sleepCtrlWrite p v) s fun g =>
        g.port p = awake ∧ others g ∧ g.reg (eaveA p 0x108) = v &&& 3) ∧
      (r ≠ 2 → pt.txSleep = 2 → Does (.sleepCtrlWrite p v) s fun g => (g.port p).state = .detect ∧ (g.port p).savedTaps = kept ∧
        g.reg (eaveA p 0x108) = v &&& 3) ∧
      (r ≠ 0 → pt.txSleep ≠ 2 → pt.txSleep ≠ r → Does (.sleepCtrlWrite p v) s fun g =>
        g.port p = { awake with txCtl := awake.txCtl ++ [⟨5, 2 + r, 0⟩] } ∧ others g ∧ g.reg (eaveA p 0x108) = v &&& 3) ∧
      (r ≠ 0 → pt.txSleep = r → Does (.sleepCtrlWrite p v) s fun g => g.port p = pt ∧ g.reg (eaveA p 0x108) = v &&& 3)) ∧
    ∀ v : Word32, pt.state ≠ .active ∨ s.hw.carries p = true → Does (.sleepCtrlWrite p v) s fun g =>
      g.reg (eaveA p 0x108) = v &&& 3 ∧ OnlyRegs [eaveA p 0x108] s.hw g

/-- A block set of which the receiver of port p makes the payload v, with g the state after the receiver's own counting, whose symbol
entries are IDLE and whose SSEQ is the next (R231 to R242). DATA_BLOCK_SET keeps its groups by frame and position; of a set that
carries one symbol, not late, the symbol waits for its effect clock and goes on to the other tree ports, and an SSEQ that is not
the next counts and raises SYMBOL_LOST (R239); the first FRAME_GO after a level-change gap sets a member's clock count anew (R238). LINK_ID shows the partner's device and port, and a module that becomes known by it leaves discovery unsettled (R442), CAPTURE waits for its effect
clock, ACK takes the acknowledged messages away, SPARE_REQ starts COEFF blocks on lane 18, SPARE_DONE moves the role to lane 18, and
LANE_QUIET puts the direction to sleep after 16 further block sets. MSG in sequence is taken and acknowledged; a fragment for another module goes on to the other
tree port, and the last one for this module has its effect, for a command that it waits to begin. -/
def Obligations.EaveBlockSets : Prop :=
  ∀ (s : State) (p : Nat) (blks : List (BitVec 66)) (v : BitVec 1024) (g : Hw), blks.length = 19 → s.hw.rxOpen p = true →
    let pt := g.port p
    let idle := fld v 35 32 = 0 ∧ fld v 67 64 = 0
    let others := fun t : Hw => ∀ q, q ≠ p → t.port q = g.port q
    let onward := fun (t : Hw) (f : EavePort → EavePort) => ∀ q, q ≠ p → t.port q = g.port q ∨
      g.conf.treePorts.contains q = true ∧ t.port q = f (g.port q)
    let port := fun (i : Instr) (f : EavePort → EavePort) => Does i s fun t =>
      t.port p = f pt ∧ others t ∧ t = { g with ports := t.ports }
    (s.hw.rxSet p blks = (.data v, g) →
      let gs := (List.range (fld v 3 0)).map fun n => (⟨fld v 23 20, fld v 19 4 + n, v.extractLsb' (96 + 96 * n) 96⟩ : Group)
      (fld v 31 24 = pt.sseqRx →
        (idle → port (.dataBlockSet p blks) fun x => { x with rxGroups := x.rxGroups ++ gs }) ∧
        (∀ k, symOfCode (fld v 35 32) = some k → fld v 67 64 = 0 → (k ≠ .frameGo ∨ g.seq.realign = false ∨ g.isMember = false) →
          (effectClock g.seq.horizon g.seq.clk (fld v 45 36)).2 = false →
          let e := (effectClock g.seq.horizon g.seq.clk (fld v 45 36)).1
          let y : Sym := ⟨k, fld v 63 54, fld v 53 48, e, e - g.seq.horizon⟩
          Does (.dataBlockSet p blks) s fun t => t.seq = { g.seq with syms := g.seq.syms ++ [y] } ∧
            onward t (fun x => { x with txSyms := x.txSyms ++ [y] }) ∧
            t.port p = { pt with rxGroups := pt.rxGroups ++ gs, sseqRx := (pt.sseqRx + 1) % 256 } ∧
            t = { g with ports := t.ports, seq := t.seq }) ∧
        (symOfCode (fld v 35 32) = some .frameGo → fld v 67 64 = 0 → g.seq.realign = true → g.isMember = true →
          Does (.dataBlockSet p blks) s fun t => t.seq.realign = false ∧
            (t.seq.clk + g.seq.horizon) % 1024 = (fld v 45 36 + g.conf.distance) % 1024 ∧
            (512 ≤ g.seq.clk → t.seq.clk ≤ g.seq.clk + 512) ∧ g.seq.clk ≤ t.seq.clk + 512)) ∧
      (pt.sseqRx < 256 → fld v 31 24 ≠ pt.sseqRx → idle → Does (.dataBlockSet p blks) s fun t =>
        (t.port p).rxGroups = pt.rxGroups ++ gs ∧ (t.port p).sseqRx = fld v 31 24 ∧
          t.fget (eaveA p 0x28) 31 0 =
            min (2 ^ 32 - 1) (g.fget (eaveA p 0x28) 31 0 + (fld v 31 24 + 256 - pt.sseqRx) % 256) ∧
          ∃ e ∈ t.fault.path, e.id = evSymbolLost p)) ∧
    (s.hw.rxSet p blks = (.control v, g) → idle → fld v 31 24 = pt.sseqRx →
      (ctlType v = 0 → port (.dataBlockSet p blks) id) ∧
      (ctlType v = 6 → Does (.linkId p blks) s fun t =>
        t.fget (eaveA p 4) 18 8 = fld v 21 16 + 2 ^ 6 * fld v 99 96 + 2 ^ 10 ∧
          (let begins := pt.state = .align ∧ pt.deskewed = true ∧ pt.linkIdSent = true
           Queued { pt with
            linkIdSeen := true, partnerIdent := fld v 15 8, partnerConfig := v.extractLsb' 100 64
            state := if begins then .calibrate else pt.state, samples := if begins then [] else pt.samples } (t.port p)) ∧
          (∀ q, q ≠ p → Queued (g.port q) (t.port q)) ∧ (∀ n, n ≠ 0 → t.bget (hostifA 0x80) n = g.bget (hostifA 0x80) n) ∧
          OnlyRegs [eaveA p 4, hostifA 0x80] g { t with ports := g.ports, out := g.out }) ∧
      (ctlType v = 2 → (effectClock g.seq.horizon g.seq.clk (fld v 23 14)).2 = false →
        let c : CapSym := ⟨if bit v 12 then some (v.extractLsb' 96 64) else none, if bit v 13 then some (fld v 11 8) else none,
          (effectClock g.seq.horizon g.seq.clk (fld v 23 14)).1⟩
        Does (.capture p blks) s fun t => t.seq = { g.seq with caps := g.seq.caps ++ [c] } ∧
          onward t (fun x => { x with txCaps := x.txCaps ++ [c] }) ∧ t.port p = pt ∧ t = { g with ports := t.ports, seq := t.seq }) ∧
      (ctlType v = 4 → (∃ m ∈ pt.unacked, m.seq = fld v 15 8 ∧ m.sent = true) →
        port (.ack p blks) fun x => { x with unacked := ackList (fld v 15 8) x.unacked }) ∧
      (ctlType v = 5 → laneOp v = 1 → fld v 16 12 < 18 → Does (.spareReq p blks) s fun t =>
        (t.port p).txSpare = some (fld v 16 12, true) ∧ (∃ b, t.out = g.out ++ [.laneBlock p 18 b]) ∧ others t ∧
          t.reg (eaveA p (0x200 + 4 * 18)) = BitVec.ofNat 32 (4 + 2 ^ 8 * 8 + 2 ^ 16 * 52)) ∧
      (ctlType v = 5 → laneOp v = 2 → fld v 16 12 < 18 → port (.spareDone p blks) fun x =>
        let l := x.txRole.getD (fld v 16 12) (fld v 16 12)
        { x with txSpare := none, txRole := x.txRole.set (fld v 16 12) 18, lanes := x.lanes.set l { x.lane l with idle := true } }) ∧
      (ctlType v = 5 → laneOp v = 3 ∨ laneOp v = 4 → port (.laneQuiet p blks) fun x => { x with rxSleepAfter := some (16, laneOp v - 2) }) ∧
      (∀ meaning : LinkMsg, meaning.ok = true → ctlType v = 3 → fld v 15 8 = pt.mseqRx →
        let b := msgBody v
        let took := fun x : EavePort => { x with mseqRx := (x.mseqRx + 1) % 256, ackDue := true }
        (∀ q, b.dst ≠ s.hw.devIndex → q ≠ p → g.isMember = true → g.conf.branches = [p, q] →
          Does (.msg p blks meaning) s fun t => t.port p = took pt ∧
            t.port q = { g.port q with unacked := (g.port q).unacked ++ [⟨(g.port q).mseqTx, b, 0, false, none⟩]
                                       mseqTx := ((g.port q).mseqTx + 1) % 256 } ∧
            (∀ r, r ≠ p → r ≠ q → t.port r = g.port r) ∧ t = { g with ports := t.ports }) ∧
        (b.dst = s.hw.devIndex → (b.last = false → port (.msg p blks meaning) took) ∧
          ∀ o sl code conf args input, meaning = .command o sl code conf args input → b.last = true →
            Does (.msg p blks meaning) s fun t => t.host.fwd = g.host.fwd ++ [⟨o, sl, code, conf, args, input⟩] ∧
              t.port p = took pt ∧ others t ∧ t = { g with ports := t.ports, host := { g.host with fwd := t.host.fwd } })))

/-- MARKER on an ACTIVE port, as its receiver finds it: the marker is remembered with its tick, and one that answers a sent marker gives
a sample, arrival less departure less HOLD, from which DRIFT is the mean of the last 16 less MEASURED (R250, R251). While a transmitter
is awake: MARKER_DUE at the interval sends on each lane a marker with its count, the last received count and the hold time (R229).
BLOCK_SET_SEND sends a marker when one is due, then a waiting CAPTURE, then waiting slot groups, then what waits, and else IDLE
(R243): here the first two groups at consecutive positions of one frame, a CAPTURE, and IDLE, on lanes of identity roles, each the
word of its role of the payload with its CRC. In RUN a port in TRAIN sends a COEFF block on every lane, and one in DETECT, RETRY_WAIT or
ABSENT an idle one (Table 8.3, R224); where the power state holds its lanes asleep it sends nothing (Table 1.5). MSG_RESEND of an oldest message that was sent: every sent message is sent again and
counted, and after 8 resends it is dropped with LINK_MSG_FAILED, and with it the command that it belongs to (R242, R443). -/
def Obligations.EaveSending : Prop :=
  ∀ (s : State) (p : Nat), p < 12 →
    let pt := s.hw.port p
    let others := fun g : Hw => ∀ q, q ≠ p → g.port q = s.hw.port q
    (∀ (heads : List (BitVec 2)) (words : List Word64) (part : Nat) (w : Word64) (g : Hw), heads.length = 19 → words.length = 19 →
      s.hw.rxOpen p = true → s.hw.rxSet p (setBlocks heads words) = (.marker w, g) → (g.port p).state = .active →
      let tick := s.hw.calTick part
      let x := { g.port p with sinceRx := 0, mLast := some (fld w 31 16, tick) }
      ((∀ m ∈ (g.port p).mSent, m.1 % 4096 ≠ fld w 43 32) → Does (.marker p heads words part) s fun t =>
        t.port p = x ∧ (∀ q, q ≠ p → t.port q = g.port q) ∧ t = { g with ports := t.ports }) ∧
      ∀ m dep, (g.port p).mSent.find? (fun m => m.1 % 4096 = fld w 43 32) = some (m, dep) → Does (.marker p heads words part) s fun t =>
        let ss := (((tick : Int) - (dep : Int) - (fld w 63 44 : Int)) :: (g.port p).samples).take 16
        let drift : Int := (ss.foldl (· + ·) 0 + (26 - 2 * (g.fget (eaveA p 0x100) 17 9 : Int)) * ss.length) / (2 * ss.length)
        t.port p = { x with samples := ss, confirm := x.confirm - 1, driftFlag := (t.port p).driftFlag } ∧
          t.fget (eaveA p 0x104) 9 0 = (drift % 1024).toNat ∧
          (16 < drift.natAbs → (g.port p).driftFlag = false → Raised (evLinkDrift p) 0 g t ∧ (t.port p).driftFlag = true) ∧
          (drift.natAbs ≤ 8 → (t.port p).driftFlag = false)) ∧
    (∀ part : Nat,
     let tick := s.hw.calTick part
     s.hw.txOpen p = true → pt.lanes.length = 19 → (∀ l, l < 19 → (pt.lane l).idle = false) →
      let sent := fun (g : Hw) (bs : List (BitVec 66)) => bs.length = 19 ∧ g.out = s.hw.out ++ [.blockSet p bs] ∧ others g ∧
        g = { s.hw with ports := g.ports, out := g.out, free := g.free }
      (∀ m t0 i, pt.mLast = some (m, t0) → s.hw.markerDue p = true → i ∈ [Instr.markerDue p part, .blockSetSend p part] →
        Does i s fun g => ∃ bs, sent g bs ∧ (∀ l, l < 19 → bs.getD l 0 = ((pt.lane l).block true (BitVec.ofNat 64
            (0xE6 + 2 ^ 8 * l + 2 ^ 16 * pt.mcount + 2 ^ 32 * (m % 4096) + 2 ^ 44 * ((tick - t0) % 2 ^ 20)))).1) ∧
          (g.port p).mcount = (pt.mcount + 1) % 65536 ∧ (g.port p).mSent = ((pt.mcount, tick) :: pt.mSent).take 1024 ∧
          (g.port p).sinceTx = 0) ∧
      (s.hw.markerDue p = false → pt.txRole = List.range 18 → pt.txSpare = none → pt.txSyms = [] →
        let carries := fun (g : Hw) (ctl : Bool) (v : Nat) => (g.port p).sinceTx = pt.sinceTx + 1 ∧
          (g.port p).share = (if s.hw.carries p = true ∧ s.hw.busy = true then (ctl :: pt.share).take 1023 else []) ∧ ∃ bs, sent g bs ∧
            ∀ r, r < 18 → bs.getD r 0 = ((pt.lane r).block ctl
              ((rsEncode (withCrc (setFld (BitVec.ofNat 1024 v) 31 24 pt.sseqTx))).getD r 0)).1
        (∀ c cs, pt.txCaps = c :: cs → c.alt.getD 0 < 16 → s.hw.shareOk p = true → Does (.blockSetSend p part) s fun g => (g.port p).txCaps = cs ∧
          carries g true (2 + 2 ^ 8 * (c.alt.getD 0 + (if c.dev.isSome then 2 ^ 4 else 0) + (if c.alt.isSome then 2 ^ 5 else 0) +
            2 ^ 6 * (c.eff % 1024)) + 2 ^ 96 * (c.dev.getD 0).toNat)) ∧
        (∀ a b, pt.txCaps = [] → pt.txGroups = [a, b] → a.frm = b.frm → a.frm < 16 → b.pos = a.pos + 1 → a.pos < 65536 →
          Does (.blockSetSend p part) s fun g => (g.port p).txGroups = [] ∧
            carries g false (2 + 2 ^ 4 * a.pos + 2 ^ 20 * a.frm + 2 ^ 96 * a.bits.toNat + 2 ^ 192 * b.bits.toNat)) ∧
        (pt.txCaps = [] → pt.txGroups = [] → pt.txCtl = [] → pt.ackDue = false → pt.unacked = [] → s.hw.shareOk p = true →
          Does (.blockSetSend p part) s fun g => carries g true 0))) ∧
    (∀ part, s.hw.portRuns p = false → exec (.blockSetSend p part) s = .next s) ∧
    (∀ part, s.hw.pstate = 0 → pt.state = .train → pt.lanes.length = 19 → Does (.blockSetSend p part) s fun g => others g ∧
      g.out = s.hw.out ++ (List.range 19).map (fun l => .laneBlock p l ((pt.lane l).block true (s.hw.coeffWord p l)).1) ∧
      g = { s.hw with ports := g.ports, out := g.out }) ∧
    (∀ part, s.hw.pstate = 0 → pt.state = .detect ∨ pt.state = .retryWait ∨ pt.state = .absent → Does (.blockSetSend p part) s fun g => others g ∧
      (∃ bs, bs.length = 19 ∧ g.out = s.hw.out ++ [.blockSet p bs]) ∧ g = { s.hw with ports := g.ports, out := g.out, free := g.free }) ∧
    (∀ part, pt.state = .disabled → exec (.blockSetSend p part) s = .next s) ∧
    (∀ m ms, pt.unacked = m :: ms → m.sent = true →
      (m.resends < 8 → Does (.msgResend p none) s fun g => others g ∧
        g.port p = { pt with unacked := pt.unacked.map fun x =>
          if x.sent then { x with sent := false, resends := x.resends + 1 } else x } ∧
        g.fget (eaveA p 0x34) 31 0 =
          min (2 ^ 32 - 1) (s.hw.fget (eaveA p 0x34) 31 0 + (pt.unacked.filter (·.sent)).length) ∧
        OnlyRegs [eaveA p 0x34] s.hw { g with ports := s.hw.ports }) ∧
      (∀ own, 8 ≤ m.resends → m.own = some own → exec (.msgResend p none) s = exec (.msgResend p (some own))
        { s with hw := (s.hw.setPort p { pt with unacked := ms }).raise (evLinkMsgFailed p) }) ∧
      (8 ≤ m.resends → m.own = none → Does (.msgResend p none) s fun g => g.port p = { pt with unacked := ms } ∧ others g ∧
        Raised (evLinkMsgFailed p) 0 s.hw g ∧ g.regs = s.hw.regs))

/-- While the time unit is armed, the state is not DOZE or deeper, and no generator is armed. PTP_MESSAGE with an exchange of a
domain's best master, by the mechanism of CFG, notes the offset that its stamps of network time and the master's times give; of the selected, valid domain it is a measurement, which is accepted
and slewed away when it lies within JUMP_THRESHOLD; refused under R296 when it does not, the first refusal raising
TIME_JUMP_REFUSED; and outside R296 time steps, counted, with TIME_STEPPED, by the first offset of a phase and by one beyond the
threshold (R296, R297). An accepted measurement counts, enters the last 16, and moves STATUS (R299). An Announce that wins the best
master algorithm (log entry 63) makes its domain valid, and UTC_OFFSET is that of the selected master (R289, R294). A frame of
another rate, transport or domain, one that is unsupported, and one that is not PTP change nothing (R292). PPS_EDGE shows the
presence of 1PPS and, as the source, is measured against the nearest second (R300). PPS_TIMEOUT and ANNOUNCE_TIMEOUT end the presence or
the validity, and begin HOLDOVER, or select the other domain; PRIMARY_RETURN selects the primary; PHASE_NORMAL enters NORMAL;
REF10M_LOSS and REF10M_RETURN change the reference (R290, R294, R295). -/
def Obligations.TimeSources : Prop :=
  ∀ s : State, s.hw.pstate < 2 → s.hw.tArmed = true → (∀ k, k < 32 → (s.hw.te k).armed = false) → s.hw.time.offs.length = 2 →
    let t := s.hw.time
    let ptp := s.hw.bget (timeA 0x14) 0 = false
    let counted := fun (g : Hw) (o : Nat) => g.fget (timeA o) 31 0 = min (2 ^ 32 - 1) (s.hw.fget (timeA o) 31 0 + 1)
    let accepted := fun (off : Int) (g : Hw) =>
      let l := (off.natAbs :: t.last16).take 16
      counted g 0x30 ∧ g.time.last16 = l ∧ g.time.refused = 0 ∧ g.time.first = false ∧
        g.tStatus = (if s.hw.tStatus = 1 then (if l.length = 16 ∧ l.all (fun x => decide (x ≤ 100 * nsUnits)) = true then 2 else 1)
          else if s.hw.tStatus = 2 then (if 100 * nsUnits < off.natAbs then 1 else 2) else 1)
    let measured := fun (off : Int) (g : Hw) =>
      let big := s.hw.jumpLimit < off.natAbs
      let slews := g.time.now = t.now ∧ g.time.servo.left = off.natAbs * 10 ^ 9 ∧ g.time.servo.slew.natAbs ≤ 100000 ∧
        g.time.servo.rate.natAbs ≤ 200000
      let steps := g.time.now = ((t.now : Int) + off).toNat ∧ g.time.servo.left = 0 ∧ counted g 0x38 ∧
        OnPath evTimeStepped s.hw g
      (s.hw.strictTime = true → ¬ big → accepted off g ∧ slews) ∧
      (s.hw.strictTime = true → big → counted g 0x34 ∧ g.time.refused = t.refused + 1 ∧ g.time.now = t.now ∧
        g.time.last16 = t.last16 ∧ (t.refused = 0 → Raised evTimeJumpRefused 0 s.hw g)) ∧
      (s.hw.strictTime = false → t.first = true ∨ big → accepted off g ∧ steps) ∧
      (s.hw.strictTime = false → t.first = false → ¬ big → accepted off g ∧ slews)
    let holds := fun g : Hw => g.tStatus = 3 ∧ Raised evTimeHoldover 0 s.hw g ∧ g.time.now = t.now
    let locked := s.hw.tStatus = 1 ∨ s.hw.tStatus = 2
    (∀ (x : PtpMsg) (d : Nat), s.hw.ptpHeard x = true → s.hw.domainOf x.domain = some d →
      (∀ e : PtpExchange, x.body = .exchange e →
        let known := (t.best.getD d none).any (fun b => b.sender == e.sender) && s.hw.ptpMech e
        let off := s.hw.ptpOffset e
        (known = false → exec (.ptpMessage x) s = .next s) ∧
        (known = true → s.hw.tDomain ≠ d ∨ ¬ ptp → Does (.ptpMessage x) s fun g =>
          g.reg (timeA (0x20 + 4 * d)) = offsetReg off ∧ g.time = { t with offs := t.offs.set d off } ∧
            OnlyRegs [timeA (0x20 + 4 * d)] s.hw { g with time := t }) ∧
        (known = true → s.hw.tDomain = d → s.hw.tValid d = true → ptp → Does (.ptpMessage x) s fun g =>
          measured off g ∧ g.reg (timeA (0x20 + 4 * d)) = offsetReg off ∧ g.time.offs.getD d 0 = off)) ∧
      ∀ (a : PtpMaster) (utc : Option (BitVec 16)), x.body = .announce a utc →
        (s.hw.winsDomain d a = false → exec (.ptpMessage x) s = .next s) ∧
        (s.hw.winsDomain d a = true → t.best.length = 2 → t.utc.length = 2 → Does (.ptpMessage x) s fun g => g.tValid d = true ∧
          g.time.best.getD d none = some a ∧ g.time.utc.getD d none = utc ∧
          (s.hw.tDomain = d ∨ (ptp ∧ s.hw.strictTime = false ∧ s.hw.tValid s.hw.tDomain = false) → g.tDomain = d ∧
            g.reg (timeA 0x28) = match utc with | some u => BitVec.ofNat 32 (u.toNat + 2 ^ 16) | none => 0) ∧
          (s.hw.tDomain = d → OnlyRegs [timeA 0x10, timeA 0x28, timeA (0x20 + 4 * d)] s.hw { g with time := t } ∧
            g.time = { t with best := g.time.best, utc := g.time.utc, offs := g.time.offs }))) ∧
    (∀ x : PtpMsg, s.hw.ptpHeard x = false ∨ s.hw.domainOf x.domain = none ∨ x.body = .unsupported ∨ x.body = .notPtp →
      exec (.ptpMessage x) s = .next s) ∧
    (∀ sub, let at' := t.now + sub % courseUnits s.hw.seq.level
      Does (.ppsEdge sub) s fun g => g.bget (timeA 0x10) 9 = true ∧ (ptp → OnlyRegs [timeA 0x10] s.hw g) ∧
        (¬ ptp → measured ((((at' + unitsPerSec / 2) / unitsPerSec * unitsPerSec : Nat) : Int) - (at' : Int)) g)) ∧
    (Does .ppsTimeout s fun g => g.bget (timeA 0x10) 9 = false ∧ (ptp → OnlyRegs [timeA 0x10] s.hw g) ∧
      (¬ ptp → locked → holds g)) ∧
    (∀ d, d < 2 → s.hw.tValid d = true → ptp → s.hw.tDomain = d → Does (.announceTimeout d) s fun g => g.tValid d = false ∧
      (s.hw.strictTime = false → s.hw.tValid (1 - d) = true → g.tDomain = 1 - d ∧ counted g 0x40 ∧
        OnPath evTimeDomainSwitched s.hw g) ∧
      ((s.hw.strictTime = true ∨ s.hw.tValid (1 - d) = false) → locked → holds g)) ∧
    (s.hw.tValid 0 = true → s.hw.tDomain = 1 → s.hw.strictTime = false → ptp → Does .primaryReturn s fun g =>
      g.tDomain = 0 ∧ counted g 0x40 ∧ OnPath evTimeDomainSwitched s.hw g) ∧
    (s.hw.tStatus = 2 → s.hw.tPhase = 0 ∨ s.hw.tPhase = 3 → Does .phaseNormal s fun g => g.tPhase = 1 ∧ g.time.first = true ∧
      OnlyRegs [timeA 0x10] s.hw { g with time := t }) ∧
    (Does .ref10mLoss s fun g => g.time = { t with ref10m := false } ∧ g.bget (timeA 0x10) 8 = false ∧
      (s.hw.bget (timeA 0x10) 8 = true → Raised evRefLost 0 s.hw g)) ∧
    (Does .ref10mReturn s fun g => g.time = { t with ref10m := true } ∧
      (s.hw.bget (timeA 0x14) 22 = true → g.bget (timeA 0x10) 8 = true) ∧ OnlyRegs [timeA 0x10] s.hw { g with time := t })

/-- TIME_EVENT_FIRE of a generator whose instant has come: it is noted, FIRED shows, a single one is disarmed and a periodic one waits for
the next instant; with action PULSE, SET or CLEAR on the pin it names, the pin takes the value, with an edge when it drives, after
the pulses that end by then, and a pulse notes its own end on its pin, so much time later that no
step of network time moves it. One of a frame mode whose position executes: it sets out on
the I/O path, once (R305, R306). TE_REARM of a word beside CTRL of an enabled generator
arms it anew from its registers, for the first instant or frame that does not lie before the write; CTRL with EN 0 of one that names no pin
disarms it. PPS_OUT at a second that the output has not served: the edge at its bit-time boundary, when the output is enabled
(R301). CAPTURE_EDGE of a watched edge: its record, or, with 16 records, the overflow; CAPTURE_FLUSH empties the records, and
CAPTURE_RECORD_READ takes the oldest away (R309, R310, R313). -/
def Obligations.TimedEvents : Prop :=
  ∀ (s : State) (k : Nat), k < 32 →
    let t := s.hw.time
    let te := s.hw.te k
    let others := fun g : Hw => ∀ j, j ≠ k → g.te j = s.hw.te j
    (s.hw.teDue k = true →
      let next := if s.hw.teMode k = 0 then { te with armed := false } else { te with next := te.next + s.hw.tePeriod k }
      let at' := boundaryNear te.next
      let pin := s.hw.tePin k
      let fired := fun g : Hw => bit g.time.fired k = true ∧ g.bget (teA k 0x1C) 1 = true ∧
        OnlyRegs [teA k 0x1C] s.hw { g with time := t, out := s.hw.out, done := s.hw.done }
      let edge := fun v : Bool => if s.hw.pinDrives pin then [Out.edge pin v (at' + s.hw.pinDelay pin)] else []
      (s.hw.teNames k = false → Does (.timeEventFire k) s fun g => fired g ∧ g.te k = next ∧ others g ∧ g.out = s.hw.out) ∧
      (s.hw.teNames k = true → ∀ p ∈ [(0, true), (1, true), (2, false)], s.hw.fget (teA k 0) 4 3 = p.1 →
        Does (.timeEventFire k) s fun g => fired g ∧ Store.get false g.time.tePins pin = p.2 ∧
          (∃ o, g.out = s.hw.out ++ o ++ edge p.2) ∧ (g.te k).armed = next.armed ∧ (g.te k).next = next.next ∧
          (p.1 = 0 → (g.te k).fall = some (s.hw.runAt (at' + max 1 (s.hw.fget (teA k 0) 31 16) * bitTime), pin)) ∧
          ((∀ j e q, j < 32 → (s.hw.te j).fall = some (e, q) → at' < s.hw.atRun e) → others g ∧ g.out = s.hw.out ++ edge p.2 ∧
            (p.1 ≠ 0 → g.te k = next)))) ∧
    (s.hw.teFrameDue k = true → Does (.timeEventFire k) s fun g => bit g.time.fired k = true ∧ others g ∧
      g.te k = { te with armed := s.hw.teMode k == 3 } ∧ g.time.tePath = t.tePath ++ [(20, k)] ∧
      g = { s.hw with time := g.time, done := g.done } ∧ g.teFrameDue k = false) ∧
    (s.hw.teDue k = false → s.hw.teFrameDue k = false → exec (.timeEventFire k) s = .next s) ∧
    (∀ (o : Nat) (v : Word32), o < 0x1C → o % 4 = 0 →
      let m := (regRowAt (teA k o)).elim 0 (·.rw)
      let written := fun g : Hw => g.reg (teA k o) = (s.hw.reg (teA k o) &&& ~~~ m) ||| (v &&& m) ∧ others g ∧
        OnlyRegs [teA k o] s.hw { g with time := t }
      (o ≠ 0 → s.hw.bget (teA k 0) 0 = true → Does (.teRearm k o v) s fun g => written g ∧
        g.te k = { te with armed := (g.te k).armed, next := (g.te k).next } ∧
        (s.hw.teMode k = 0 → (g.te k).armed = decide (t.now ≤ g.teAt k) ∧ (g.te k).next = g.teAt k) ∧
        (s.hw.teMode k = 1 → (g.te k).armed = true ∧ t.now ≤ (g.te k).next ∧ ∃ n, (g.te k).next = g.teAt k + n * g.tePeriod k ∧
          (n = 0 ∨ (g.te k).next < t.now + g.tePeriod k)) ∧
        (s.hw.teMode k = 2 → (g.te k).armed = (!g.posPassed (g.teFrame k) (g.tePos k)) ∧ (g.te k).next = g.teFrame k)) ∧
      (o = 0 → bit v 0 = false → s.hw.teNames k = false → Does (.teRearm k o v) s fun g => written g ∧
        g.te k = { te with armed := false })) ∧
    (let sec := t.now / unitsPerSec
     (t.ppsSec < sec → Does .ppsOut s fun g =>
        (s.hw.bget (timeA 0x2C) 0 = true → g.time = { t with ppsSec := sec, ppsFall := some (s.hw.runAt (sec * unitsPerSec + s.hw.ppsWidth)) } ∧
          g = { s.hw with time := g.time, out := s.hw.out ++ [.edge 512 true (boundaryNear (sec * unitsPerSec))] }) ∧
        (s.hw.bget (timeA 0x2C) 0 = false → g = { s.hw with time := { t with ppsSec := sec } })) ∧
     (sec ≤ t.ppsSec → exec .ppsOut s = .next s)) ∧
    (∀ (falling : Bool) (sub : Nat),
      let c := s.hw.reg (tcA k 0)
      let pin := fld c 12 3
      let rec' : CapRec := ⟨boundaryAfter (t.now + sub % courseUnits s.hw.seq.level - (bitTime - 1)) - s.hw.pinDelay pin, falling⟩
      bit c 0 = true → pin ≤ 512 → s.hw.pstate < 3 → (if falling then bit c 2 else bit c 1) = true →
      ((s.hw.tcBuf k).length < 16 → Does (.captureEdge k falling sub) s fun g => g.tcBuf k = s.hw.tcBuf k ++ [rec'] ∧
        (∀ j, j ≠ k → g.tcBuf j = s.hw.tcBuf j) ∧ g = { s.hw with time := { t with tc := g.time.tc } }) ∧
      (16 ≤ (s.hw.tcBuf k).length → Does (.captureEdge k falling sub) s fun g => g.time = t ∧
        Raised (evCaptureOverflow k) 0 s.hw g ∧ g.fget (tcA k 4) 15 8 = min 255 (s.hw.fget (tcA k 4) 15 8 + 1))) ∧
    (∀ v : Word32, bit v 13 = true → Does (.captureFlush k v) s fun g => g.tcBuf k = [] ∧ g.reg (tcA k 0) = v &&& 0x1FFF ∧
      (∀ j, j ≠ k → g.tcBuf j = s.hw.tcBuf j) ∧ OnlyRegs [tcA k 0] s.hw { g with time := t }) ∧
    (Does (.captureRecordRead k) s fun g => g.tcBuf k = (s.hw.tcBuf k).tail ∧ (∀ j, j ≠ k → g.tcBuf j = s.hw.tcBuf j) ∧
      g = { s.hw with time := { t with tc := g.time.tc }, captured := g.captured })

/-- R437, on a module with power. A host write to a slot whose BUSY is 0 stores the bytes that its byte enables
name, but for the fields that the module writes.
MBX_RING of such a slot, where the firmware is ready and no firmware switch is in progress, or in SLEEP with wake by a ring enabled:
BUSY is 1, STATE is QUEUED, no other byte of any slot changes, and the slot is last of those rung. While BUSY is 1, a host write of
any bytes to the slot is discarded and counted in MBX_CNT.DISCARDED, a ring is ignored and counted in MBX_CNT.IGNORED, and nothing
else changes. -/
def Obligations.MailboxRing : Prop :=
  ∀ (s : State) (k : Nat), k < 8 → s.hw.hostOn = true →
    let a := hostifA 0x70
    (∀ (off : Nat) (bytes : List (Option Byte)), off + bytes.length ≤ 256 →
      (s.hw.slotBusy k = false → Does (.slotWrite k off bytes) s fun g =>
        (∀ o, o < 256 → g.slotByte k o =
          if off ≤ o ∧ (o < 8 ∨ 16 ≤ o) then (bytes.getD (o - off) none).getD (s.hw.slotByte k o) else s.hw.slotByte k o) ∧
        (∀ j o, j ≠ k → o < 256 → g.slotByte j o = s.hw.slotByte j o) ∧
        g = { s.hw with host := { s.hw.host with slots := g.host.slots } }) ∧
      (s.hw.slotBusy k = true → Does (.slotWrite k off bytes) s fun g =>
        g.fget a 15 0 = min 65535 (s.hw.fget a 15 0 + 1) ∧ g.fget a 31 16 = s.hw.fget a 31 16 ∧ OnlyRegs [a] s.hw g)) ∧
    (s.hw.slotBusy k = false →
      (s.hw.pstate < 3 ∧ s.hw.host.ready = true ∧ s.hw.host.fwSwitch = false) ∨
        (s.hw.pstate = 3 ∧ s.hw.bget (powerA 0x14) 0 = true) → Does (.mbxRing k) s fun g =>
      g.slotBusy k = true ∧ g.slotState k = 1 ∧ g.host.ring = s.hw.host.ring ++ [k] ∧
        ∀ j o, o < 256 → (j, o) ≠ (k, 9) → g.slotByte j o = s.hw.slotByte j o) ∧
    (s.hw.slotBusy k = true → Does (.mbxRing k) s fun g =>
      g.fget a 31 16 = min 65535 (s.hw.fget a 31 16 + 1) ∧ g.fget a 15 0 = s.hw.fget a 15 0 ∧ OnlyRegs [a] s.hw g)

/-- MBX_TAKE of the slot that was rung first, on a module that is no member (R438, R442, R443): a code that names no command ends it
with BAD_COMMAND, a header out of order with BAD_ARGUMENT; a command for this module is RUNNING; one without descriptors for a known
module is HELD while no path of ACTIVE links leads there, and over such a path it is forwarded when its arguments are well formed and
it has no streams, and ends with BAD_ARGUMENT otherwise (R441, R453, R455; an IMAGE_BLOCK goes without its input here, as its target
tests it). One for an unknown module ends with DEVICE_ABSENT when discovery has settled, and is HELD before that; every command for
another module ends with DEVICE_ABSENT while the host's link is down. The first links on the way are not in L-OFF here. HELD_FORWARD
forwards a held command, or ends it, in the same way. HELD_COMMAND_TIMEOUT ends it with DEVICE_ABSENT, and answers so a CONFIG_FORM
that came over a link and waits for its members (R459); DESC_BME_TIMEOUT without Bus Master Enable and HOST_READ_TIMEOUT end a
command with descriptors with TIMEOUT, the latter unless only its output is left to write (R429, R441).
DISCOVERY_SETTLED with every port started and none training: SETTLED, and every held command for an unknown module ends with
DEVICE_ABSENT. -/
def Obligations.MailboxTransport : Prop :=
  ∀ (s : State) (k : Nat) (io : HostIo), k < 8 →
    let t := s.hw.slotField k 4 1
    let code := s.hw.slotField k 0 2
    let others := fun g : Hw => ∀ j o, j ≠ k → o < 256 → g.slotByte j o = s.hw.slotByte j o
    let forwarded := fun g : Hw => g.slotState k = 4 ∧ others g ∧
      g.out = s.hw.out ++ [.message t (.command s.hw.devIndex k code false (s.hw.slotArgs k) [])] ∧
      g.host.waits = s.hw.host.waits ++ [⟨.slot k, forwardedCode + code, [], [], [t], 1, none⟩]
    let way := s.hw.msgPorts t
    let direct := s.hw.slotField k 0x18 2 = 0 ∧ t ≠ s.hw.devIndex ∧ s.hw.known.contains t = true ∧
      ∀ p ∈ way, (s.hw.port p).txSleep ≠ 2
    let fits := fun sp : CmdSpec => sp.args (s.hw.slotArgs k) = true ∧
      (code = 0x0202 ∨ (sp.inLen (s.hw.slotArgs k) = 0 ∧ sp.outLen (s.hw.slotArgs k) = 0))
    (∀ rest, s.hw.host.ring = k :: rest → s.hw.host.ready = true → s.hw.host.fwSwitch = false → s.hw.pstate < 3 →
      s.hw.isMember = false →
      let takes := fun P : Hw → Prop => Does (.mbxTake io) s fun g => g.host.ring = rest ∧ P g
      let ends := fun status : Nat => takes fun g => SlotDone s.hw g k status [] ∧ others g ∧ g.host.waits = s.hw.host.waits
      let stays := fun (state : Nat) (ps : List Nat) => takes fun g => g.slotState k = state ∧ others g ∧
        g = { s.hw with host := { s.hw.host with slots := g.host.slots, ring := rest }, ports := g.ports } ∧
        ∀ p, p ∉ ps → g.port p = s.hw.port p
      (specOf code = none → ends stBadCommand) ∧
      (specOf code ≠ none → s.hw.headerOk k = false → ends stBadArgument) ∧
      (∀ sp, specOf code = some sp → s.hw.headerOk k = true →
        (t = s.hw.devIndex → stays 2 []) ∧
        (direct → s.hw.host.linkUp = true → (s.hw.pathActive t = false → stays 3 way) ∧ (s.hw.pathActive t = true →
          (fits sp → takes forwarded) ∧
          (¬ fits sp → takes fun g => SlotDone s.hw g k stBadArgument [] ∧ others g ∧ g.host.waits = s.hw.host.waits))) ∧
        (t ≠ s.hw.devIndex → s.hw.host.linkUp = false → ends stDeviceAbsent) ∧
        (t ≠ s.hw.devIndex → s.hw.host.linkUp = true → s.hw.known.contains t = false →
          (s.hw.settled = true → ends stDeviceAbsent) ∧ (s.hw.settled = false → stays 3 [])))) ∧
    (∀ sp, specOf code = some sp → s.hw.slotState k = 3 → direct → s.hw.pathActive t = true →
      (fits sp → Does (.heldForward k io) s forwarded) ∧
      (¬ fits sp → Does (.heldForward k io) s fun g => SlotDone s.hw g k stBadArgument [] ∧ others g)) ∧
    (s.hw.slotState k = 3 → Does (.heldCommandTimeout k) s fun g => SlotDone s.hw g k stDeviceAbsent [] ∧ OnlySlot k s.hw g) ∧
    (∀ n c, 8 ≤ n → n < 576 → s.hw.heldForm n = some c → Does (.heldCommandTimeout n) s fun g =>
      g.out = s.hw.out ++ [.message c.origin (.reply c.slot s.hw.devIndex stDeviceAbsent [] [])] ∧
        (∀ x ∈ g.host.fwd, ¬ (x.origin = c.origin ∧ x.slot = c.slot)) ∧ g.regs = s.hw.regs ∧ g.host.slots = s.hw.host.slots) ∧
    (s.hw.readsList k = true →
      (s.hw.bme = false → Does (.descBmeTimeout k) s fun g => SlotDone s.hw g k stTimeout [] ∧ OnlySlot k s.hw g) ∧
      (s.hw.outputWaits k = false → Does (.hostReadTimeout k) s fun g => SlotDone s.hw g k stTimeout [] ∧ OnlySlot k s.hw g) ∧
      (s.hw.outputWaits k = true → exec (.hostReadTimeout k) s = .next s)) ∧
    (s.hw.host.ready = true → (∀ p, p < 12 → (s.hw.port p).started = true ∧ (s.hw.port p).state ≠ .train ∧
        (s.hw.port p).state ≠ .align ∧ (s.hw.port p).state ≠ .calibrate) →
      (∀ x ∈ s.hw.host.topo, x.training = true → s.hw.known.contains x.device = false) →
      Does .discoverySettled s fun g => g.settled = true ∧ ∀ j, j < 8 → s.hw.slotState j = 3 →
        (s.hw.slotField j 4 1 ≠ s.hw.devIndex → s.hw.known.contains (s.hw.slotField j 4 1) = false →
          SlotDone s.hw g j stDeviceAbsent []) ∧
        (s.hw.slotField j 4 1 = s.hw.devIndex ∨ s.hw.known.contains (s.hw.slotField j 4 1) = true →
          ∀ o, o < 256 → g.slotByte j o = s.hw.slotByte j o))

/-- EVENT_RAISE takes the event that was raised first off the path and sets its status bit; with the HUB off nothing happens. With no
entry being handled: an error whose bit was clear writes the entry at NEXT, with its ID, level, FRAME_FAULT mark, sequence number,
detail and frame; FRAME_FAULT, a notice, and an error whose bit was set write none. While frames run with no halt in progress, an
event that acts at level 2 sends HALT_AT_END with reason 5, and one at level 3 HALT_NOW with reason 6; a masked one that poisons no
frame acts at level 0 and sends nothing (R412, R416, R418). On a module whose hub is on, MP_LOCKSTEP_MISMATCH of two cores that names
one leaves the other alone and raises LOCKSTEP_MISMATCH; otherwise LOCKSTEP_LOST is raised, the firmware is not ready but restarting,
no command waits, and every busy slot is DONE with NOT_READY and no reply, its SEQ one more and its PAYLOAD as it was (R415, R432). -/
def Obligations.EventsAndLockstep : Prop :=
  ∀ s : State,
    (3 ≤ s.hw.pstate → exec .eventRaise s = .next s) ∧
    (∀ e, s.hw.pstate < 3 → firstBy EvRec.before s.hw.fault.path = some e → (∀ k, k < 32 → s.hw.handled k = false) → s.hw.fault.next < 32 →
      e.id < 1152 →
      let a := grpStatA (e.id / 16)
      let n := s.hw.fault.next
      let level := s.hw.entryLevel e
      let logs := evIsError e.id = true ∧ e.id ≠ evFrameFault ∧ s.hw.bget a (e.id % 16) = false
      Does .eventRaise s fun g => g.fault.path = s.hw.fault.path.erase e ∧
        g.reg a = setBit (s.hw.reg a) (e.id % 16) true ∧
        (logs → g.reg (logA n) = BitVec.ofNat 32 (e.id + 2 ^ 11 * level + (if e.poison then 2 ^ 14 else 0) + 2 ^ 15 +
            2 ^ 16 * (s.hw.fault.seq % 65536)) ∧ g.reg (logA n + 4) = e.detail ∧ g.reg64 (logA n + 8) = e.frame ∧
          g.fault.next = (n + 1) % 32 ∧ g.fault.seq = s.hw.fault.seq + 1) ∧
        (¬ logs → g.fault.next = n ∧ g.fault.seq = s.hw.fault.seq ∧ OnlyRegs [a] s.hw { g with
          fault := s.hw.fault, host := s.hw.host, out := s.hw.out, seq := s.hw.seq, ports := s.hw.ports, done := s.hw.done }) ∧
        (s.hw.evMasked e.id = true → e.poison = false → level = 0) ∧ (level ≤ 1 → g.seq = s.hw.seq) ∧
        (s.hw.seq.run = .running → s.hw.seq.halts = [] → s.hw.seq.syms = [] →
          ∀ p ∈ [(2, SymKind.haltAtEnd, 5), (3, SymKind.haltNow, 6)], level = p.1 →
            g.seq = { s.hw.seq with syms :=
              [⟨p.2.1, p.2.2, s.hw.devIndex, s.hw.seq.clk + s.hw.seq.horizon, s.hw.seq.clk⟩] })) ∧
    (s.hw.hubOn = true →
      (s.hw.host.mpAlone = false → Does (.mpLockstepMismatch true) s fun g => g.host = { s.hw.host with mpAlone := true } ∧
        Raised evLockstepMismatch 0 s.hw g ∧ g.regs = s.hw.regs) ∧
      ∀ named, named = false ∨ s.hw.host.mpAlone = true → Does (.mpLockstepMismatch named) s fun g =>
        g.host.ready = false ∧ g.host.mpRestart = true ∧ g.host.ring = [] ∧ g.host.waits = [] ∧
          g.host.fwd = [] ∧ Raised evLockstepLost 0 s.hw g ∧ ∀ k, k < 8 → s.hw.slotBusy k = true → g.slotState k = 5 ∧
            (g.slotByte k 8).toNat = stNotReady ∧ (g.slotByte k 10).toNat = 0 ∧
            g.slotField k 0xC 4 = (s.hw.slotField k 0xC 4 + 1) % 2 ^ 32 ∧
            ∀ o, 0x10 ≤ o → o < 256 → g.slotByte k o = s.hw.slotByte k o)

/-- TRACE_EN_WRITE of EN from 0 to 1, without CLEAR_COUNTS and SYNC_REQ: SYNC and TIME are staged; from 1 to 0 with a sink without
room and no packet that waits, CTRL changes and the packets stay. SYNC_REQ while the unit is enabled stages SYNC with reason 3 and TIME (R363, R371).
TRACE_SINK_CFG_WRITE changes SINK, BASE or SIZE while EN is 0, and nothing while it is 1. TRACE_PACKET of a source that does not
wait for a frame's first packet, in RUN: below the source's limit the packet is staged, after the GAP of what the source has been
refused, with TRACE_DROP, and after the SYNC and TIME that such a GAP makes due for a sequencer; at or above the limit it is refused
and counted (R363, R367, R368); in other power states the packets wait (R369). TRACE_SINK_WRITE with EN 1 and room: the oldest packet
goes to its place in the gutter ring, in far memory or host memory, and WR_INDEX advances; without room, with EN 0, or into far memory
that is off, nothing happens (R366, R371, R407). That a member writes far memory
whatever KIND holds is the model's choice (log entry 40). -/
def Obligations.TraceUnit : Prop :=
  ∀ s : State,
    let t := s.hw.trace
    let ctl := traceA 0
    let time := timePacket s.hw.frameLo (!s.hw.seq.inFrame) (if s.hw.seq.inFrame then s.hw.time.lastTick else s.hw.time.now)
    let synced := fun (g : Hw) (reason : Nat) => g.trace = { t with staging := t.staging ++ [syncPacket s.hw.seq.frame reason, time] } ∧
      OnlyRegs [ctl, traceA 0x34] s.hw { g with trace := t }
    (∀ v : Word32, bit v 6 = false → bit v 7 = false →
      (s.hw.bget ctl 0 = false → bit v 0 = true → Does (.traceEnWrite v) s fun g =>
        synced g 0 ∧ g.reg ctl = (v &&& 0x3F) ||| 0x20) ∧
      (s.hw.bget ctl 0 = true → bit v 0 = false → s.hw.sinkRoom = false → t.offers = [] → Does (.traceEnWrite v) s fun g =>
        g.reg ctl = (v &&& 0x3F) ||| 0x20 ∧ OnlyRegs [ctl] s.hw g)) ∧
    (∀ v : Word32, bit v 6 = true → bit v 7 = false → bit v 0 = true → s.hw.bget ctl 0 = true → Does (.syncReq v) s fun g =>
      synced g 3 ∧ g.reg ctl = (v &&& 0x3F) ||| 0x20) ∧
    (∀ o ∈ [4, 8, 0xC, 0x10], ∀ v : Word32,
      (s.hw.bget ctl 0 = true → exec (.traceSinkCfgWrite o v) s = .next s) ∧
      (s.hw.bget ctl 0 = false → Does (.traceSinkCfgWrite o v) s fun g =>
        let m : Word32 := if o = 4 then 3 else if o = 8 then 0xFFFFFFF0 else 0xFFFFFFFF
        g.reg (traceA o) = (s.hw.reg (traceA o) &&& ~~~ m) ||| (v &&& m) ∧ OnlyRegs [traceA o] s.hw g)) ∧
    (s.hw.pstate ≠ 0 → exec .tracePacket s = .next s) ∧
    (∀ o rest, s.hw.pstate = 0 → t.offers = o :: rest → o.src < 4 → t.resync.getD o.src false = false →
      t.resync.length = 2 → t.syncDue.length = 2 →
      let n := t.refused.getD o.src 0
      let gap := if n = 0 then [] else [gapPacket s.hw.frameLo 0 o.src (min n 0xFFFFFFFF)]
      let due := if t.syncDue.getD o.src false = true ∨ (n ≠ 0 ∧ o.src ≤ 1) then [syncPacket s.hw.seq.frame 2, time] else []
      (t.staging.length < stageLimit o.src → Does .tracePacket s fun g => g.trace.offers = rest ∧
        g.trace.staging = t.staging ++ gap ++ due ++ [o.pkt] ∧ g.trace.refused = t.refused.set o.src 0 ∧
        (n ≠ 0 → OnPath evTraceDrop s.hw g) ∧
        OnlyRegs [traceA 0x30, traceA 0x34] s.hw { g with trace := t, fault := s.hw.fault } ∧
        (gap ++ due = [] → fld o.pkt 127 124 ≠ 5 → fld o.pkt 127 124 ≠ 7 → g = { s.hw with trace := { t with offers := rest, staging := t.staging ++ [o.pkt] } })) ∧
      (stageLimit o.src ≤ t.staging.length → Does .tracePacket s fun g => g.trace.staging = t.staging ∧ g.trace.offers = rest ∧
        g.trace.refused = t.refused.set o.src (n + 1) ∧
        g.fget (traceA (0x20 + 4 * o.src)) 31 0 = min (2 ^ 32 - 1) (s.hw.fget (traceA (0x20 + 4 * o.src)) 31 0 + 1) ∧
        OnlyRegs [traceA (0x20 + 4 * o.src)] s.hw { g with trace := t })) ∧
    (∀ p rest, t.staging = p :: rest →
      let ix := (s.hw.reg (traceA 0x14)).toNat
      let base := s.hw.reg64 (traceA 8)
      let off := ix % s.hw.gutterSize * 16
      let reached := s.hw.sinkHost = true ∨ s.hw.pstate < 2
      (s.hw.bget ctl 0 = false ∨ s.hw.sinkRoom = false ∨ ¬ reached → exec .traceSinkWrite s = .next s) ∧
      (s.hw.bget ctl 0 = true → s.hw.sinkRoom = true → reached → Does .traceSinkWrite s fun g => g.trace = { t with staging := rest } ∧
        g.reg (traceA 0x14) = BitVec.ofNat 32 (ix + 1) ∧
        (s.hw.sinkHost = true → g.farMem = s.hw.farMem ∧
          g.out = s.hw.out ++ [.hostWrite (base.toNat / 16 * 16 + off) (bytesOf 16 p.toNat)]) ∧
        (s.hw.sinkHost = false → g.out = s.hw.out ∧
          let d := fld base 36 36
          let w := (fld base 35 4 * 16 + off) / 8
          s.hw.farWritten d w = true → s.hw.farWritten d (w + 1) = true →
          g.farWord d w = decEncode (p.extractLsb' 0 64) ∧ g.farWord d (w + 1) = decEncode (p.extractLsb' 64 64) ∧
            ∀ e a, a < 2 ^ 33 → w + 1 < 2 ^ 33 → (e, a) ≠ (d, w) → (e, a) ≠ (d, w + 1) → g.farWord e a = s.hw.farWord e a)))
end

