-- ==== Sys2Proof/Laws/Codes.lean ====
section
/-!
SUPPORT. What the codes of the course memory, the lofts and the banks give on the words that the model writes out.
-/

namespace Sys2Proof

open Machine

set_option maxRecDepth 100000 in
/-- The row that the course memory holds before an image is loaded is the stored form of 64 NOPs (R48, R52, R70). -/
theorem nopRow_encode : rowEncode (List.replicate 64 nopIns) 0 = nopRow := by decide +kernel

end Sys2Proof
end

