-- ==== Sys2Proof/Laws/Store.lean ====
section
/-!
SUPPORT. The laws of sparse memories: a read after a write, and the canonical form that every write keeps.
-/

namespace Sys2Proof.Machine

variable {α : Type}

theorem Store.get_erase (d : α) (m : Store α) (a b : Nat) :
    Store.get d (Store.erase m a) b = if b = a then d else Store.get d m b := by
  induction m with
  | nil => simp [Store.erase, Store.get]
  | cons kv m ih =>
    obtain ⟨k, v⟩ := kv
    simp only [Store.erase, Store.get]
    split
    · subst_vars
      rw [ih]
      split <;> simp_all
    · simp only [Store.get, ih]
      split <;> split <;> simp_all

theorem Store.get_put (d : α) (m : Store α) (a b : Nat) (v : α) :
    Store.get d (Store.put m a v) b = if b = a then v else Store.get d m b := by
  induction m with
  | nil => simp [Store.put, Store.get]
  | cons kv m ih =>
    obtain ⟨k, w⟩ := kv
    simp only [Store.put, Store.get]
    split
    · subst_vars
      simp only [Store.get]
      split <;> simp_all
    · split
      · simp only [Store.get]
      · simp only [Store.get, ih]
        split <;> split <;> simp_all

/-- A read after a write, at the same key and at every other. -/
theorem Store.get_set [DecidableEq α] (d : α) (m : Store α) (a b : Nat) (v : α) :
    Store.get d (Store.set d m a v) b = if b = a then v else Store.get d m b := by
  unfold Store.set
  split
  · rw [Store.get_erase]; simp_all
  · rw [Store.get_put]

@[simp] theorem Store.get_set_same [DecidableEq α] (d : α) (m : Store α) (a : Nat) (v : α) :
    Store.get d (Store.set d m a v) a = v := by simp [Store.get_set]

/-- Another key reads as before, whatever its unlisted value is. -/
theorem Store.get_set_ne [DecidableEq α] (d e : α) (m : Store α) {a b : Nat} (v : α) (h : b ≠ a) :
    Store.get e (Store.set d m a v) b = Store.get e m b := by
  unfold Store.set
  split
  · rw [Store.get_erase, if_neg h]
  · rw [Store.get_put, if_neg h]

/-! ## The canonical form -/

/-- Every key of `m` lies above `a`. -/
def Store.above (a : Nat) (m : Store α) : Bool := m.all fun kv => decide (a < kv.1)

theorem Store.rising_cons (a : Nat) (v : α) (m : Store α) :
    Store.rising ((a, v) :: m) = (Store.above a m && Store.rising m) := by
  induction m generalizing a v with
  | nil => rfl
  | cons kv m ih =>
    obtain ⟨k, w⟩ := kv
    rw [Store.rising, ih]
    by_cases h1 : a < k
    · by_cases h2 : Store.above k m = true
      · have : Store.above a m = true := by
          simp only [Store.above, List.all_eq_true, decide_eq_true_eq] at h2 ⊢
          intro x hx
          exact Nat.lt_trans h1 (h2 x hx)
        simp only [Store.above, List.all_cons] at this ⊢
        simp [h1, this]
      · simp [h2]
    · simp [Store.above, h1]

theorem Store.above_erase {a b : Nat} {m : Store α} (h : Store.above b m = true) :
    Store.above b (Store.erase m a) = true := by
  induction m with
  | nil => rfl
  | cons kv m ih =>
    obtain ⟨k, w⟩ := kv
    simp only [Store.above, List.all_cons, Bool.and_eq_true] at h ih ⊢
    simp only [Store.erase]
    split
    · exact ih h.2
    · simp only [List.all_cons, Bool.and_eq_true]
      exact ⟨h.1, ih h.2⟩

theorem Store.above_put {a b : Nat} {m : Store α} {v : α} (hab : b < a) (h : Store.above b m = true) :
    Store.above b (Store.put m a v) = true := by
  induction m with
  | nil => simp [Store.put, Store.above, hab]
  | cons kv m ih =>
    obtain ⟨k, w⟩ := kv
    simp only [Store.above, List.all_cons, Bool.and_eq_true] at h ih ⊢
    simp only [Store.put]
    split
    · simpa using h
    · split
      · simp only [List.all_cons, Bool.and_eq_true]
        exact ⟨by simpa using hab, h.1, h.2⟩
      · simp only [List.all_cons, Bool.and_eq_true]
        exact ⟨h.1, ih h.2⟩

theorem Store.rising_erase {a : Nat} {m : Store α} (h : Store.rising m = true) :
    Store.rising (Store.erase m a) = true := by
  induction m with
  | nil => rfl
  | cons kv m ih =>
    obtain ⟨k, w⟩ := kv
    rw [Store.rising_cons, Bool.and_eq_true] at h
    simp only [Store.erase]
    split
    · exact ih h.2
    · rw [Store.rising_cons, Bool.and_eq_true]
      exact ⟨Store.above_erase h.1, ih h.2⟩

theorem Store.rising_put {a : Nat} {m : Store α} {v : α} (h : Store.rising m = true) :
    Store.rising (Store.put m a v) = true := by
  induction m with
  | nil => rfl
  | cons kv m ih =>
    obtain ⟨k, w⟩ := kv
    have h' := h
    rw [Store.rising_cons, Bool.and_eq_true] at h
    simp only [Store.put]
    split
    · rw [Store.rising_cons, Bool.and_eq_true]; exact h
    · split
      · rename_i hlt
        rw [Store.rising_cons, Bool.and_eq_true]
        refine ⟨?_, h'⟩
        have hk := h.1
        simp only [Store.above, List.all_cons, List.all_eq_true, Bool.and_eq_true, decide_eq_true_eq] at hk ⊢
        exact ⟨hlt, fun x hx => Nat.lt_trans hlt (hk x hx)⟩
      · rw [Store.rising_cons, Bool.and_eq_true]
        exact ⟨Store.above_put (by omega) h.1, ih h.2⟩

theorem Store.mem_erase {a : Nat} {m : Store α} {x : Nat × α} (h : x ∈ Store.erase m a) : x ∈ m := by
  induction m with
  | nil => simp [Store.erase] at h
  | cons kv m ih =>
    obtain ⟨k, w⟩ := kv
    simp only [Store.erase] at h
    split at h
    · exact List.mem_cons_of_mem _ (ih h)
    · rcases List.mem_cons.1 h with h | h
      · exact h ▸ List.mem_cons_self
      · exact List.mem_cons_of_mem _ (ih h)

theorem Store.mem_put {a : Nat} {m : Store α} {v : α} {x : Nat × α} (h : x ∈ Store.put m a v) :
    x = (a, v) ∨ x ∈ m := by
  induction m with
  | nil => simpa [Store.put] using h
  | cons kv m ih =>
    obtain ⟨k, w⟩ := kv
    simp only [Store.put] at h
    split at h
    · subst_vars
      rcases List.mem_cons.1 h with h | h
      · exact .inl h
      · exact .inr (List.mem_cons_of_mem _ h)
    · split at h
      · rcases List.mem_cons.1 h with h | h
        · exact .inl h
        · exact .inr h
      · rcases List.mem_cons.1 h with h | h
        · exact .inr (h ▸ List.mem_cons_self)
        · rcases ih h with h | h
          · exact .inl h
          · exact .inr (List.mem_cons_of_mem _ h)

theorem Store.wfBy_iff [DecidableEq α] (d : Nat → α) (m : Store α) :
    Store.wfBy d m = true ↔ Store.rising m = true ∧ ∀ x ∈ m, x.2 ≠ d x.1 := by
  simp [Store.wfBy]

/-- A write keeps the canonical form. -/
theorem Store.wfBy_set [DecidableEq α] (d : Nat → α) {m : Store α} (a : Nat) (v : α) (h : Store.wfBy d m = true) :
    Store.wfBy d (Store.set (d a) m a v) = true := by
  rw [Store.wfBy_iff] at h ⊢
  unfold Store.set
  split
  · exact ⟨Store.rising_erase h.1, fun x hx => h.2 x (Store.mem_erase hx)⟩
  · refine ⟨Store.rising_put h.1, fun x hx => ?_⟩
    rcases Store.mem_put hx with hx | hx
    · subst hx; assumption
    · exact h.2 x hx

theorem Store.wf_set [DecidableEq α] (d : α) {m : Store α} (a : Nat) (v : α) (h : Store.wf d m = true) :
    Store.wf d (Store.set d m a v) = true := Store.wfBy_set (fun _ => d) a v h

theorem Store.wf_modify [DecidableEq α] (d : α) {m : Store α} (a : Nat) (f : α → α) (h : Store.wf d m = true) :
    Store.wf d (Store.modify d m a f) = true := Store.wf_set d a _ h

theorem Store.wf_setAll [DecidableEq α] (d : α) {m : Store α} (kvs : List (Nat × α)) (h : Store.wf d m = true) :
    Store.wf d (Store.setAll d m kvs) = true := by
  unfold Store.setAll
  induction kvs generalizing m with
  | nil => exact h
  | cons kv kvs ih => exact ih (Store.wf_set d kv.1 kv.2 h)

theorem Store.above_keep {p : Nat → Bool} {b : Nat} {m : Store α} (h : Store.above b m = true) :
    Store.above b (Store.keep p m) = true := by
  simp only [Store.above, Store.keep, List.all_eq_true] at h ⊢
  exact fun x hx => h x (List.mem_filter.1 hx).1

/-- Forgetting keys keeps the canonical form. -/
theorem Store.wfBy_keep [DecidableEq α] (d : Nat → α) (p : Nat → Bool) {m : Store α} (h : Store.wfBy d m = true) :
    Store.wfBy d (Store.keep p m) = true := by
  rw [Store.wfBy_iff] at h ⊢
  refine ⟨?_, fun x hx => h.2 x (List.mem_filter.1 hx).1⟩
  have hr := h.1
  clear h
  induction m with
  | nil => rfl
  | cons kv m ih =>
    obtain ⟨k, w⟩ := kv
    rw [Store.rising_cons, Bool.and_eq_true] at hr
    by_cases hp : p k = true
    · have : Store.keep p ((k, w) :: m) = (k, w) :: Store.keep p m := by simp [Store.keep, hp]
      rw [this, Store.rising_cons, Bool.and_eq_true]
      exact ⟨Store.above_keep hr.1, ih hr.2⟩
    · have : Store.keep p ((k, w) :: m) = Store.keep p m := by simp [Store.keep, hp]
      rw [this]; exact ih hr.2

/-- A listed entry is what its key reads as. -/
theorem Store.get_mem [DecidableEq α] (d : Nat → α) {m : Store α} (h : Store.wfBy d m = true) {x : Nat × α} (hx : x ∈ m) :
    Store.get (d x.1) m x.1 = x.2 := by
  rw [Store.wfBy_iff] at h
  have hr := h.1
  clear h
  induction m with
  | nil => simp at hx
  | cons kv m ih =>
    obtain ⟨k, w⟩ := kv
    rw [Store.rising_cons, Bool.and_eq_true] at hr
    simp only [Store.get]
    rcases List.mem_cons.1 hx with h | h
    · simp [h]
    · have hk := hr.1
      simp only [Store.above, List.all_eq_true, decide_eq_true_eq] at hk
      have := hk x h
      rw [if_neg (by omega)]
      exact ih h hr.2

end Sys2Proof.Machine
end

