-- ==== Sys2Proof/Laws/State.lean ====
section
/-!
SUPPORT. What each named update of the state leaves as it was: one lemma for each field, true by definition; and what the
changed part then reads as.
-/

namespace Sys2Proof.Machine

@[simp] theorem State.with_hw_hw (s : State) (h : Hw) : ({ s with hw := h } : State).hw = h := rfl
@[simp] theorem State.with_hw_pending (s : State) (h : Hw) : ({ s with hw := h } : State).pending = s.pending := rfl
@[simp] theorem State.with_pending_hw (s : State) (p : List Instr) : ({ s with pending := p } : State).hw = s.hw := rfl
@[simp] theorem State.with_pending_pending (s : State) (p : List Instr) : ({ s with pending := p } : State).pending = p := rfl

/-! ## setReg -/

@[simp] theorem setReg_stepping (h : Hw) (a : Nat) (v : Word32) : (h.setReg a v).stepping = h.stepping := rfl
@[simp] theorem setReg_devIndex (h : Hw) (a : Nat) (v : Word32) : (h.setReg a v).devIndex = h.devIndex := rfl
@[simp] theorem setReg_free (h : Hw) (a : Nat) (v : Word32) : (h.setReg a v).free = h.free := rfl
@[simp] theorem setReg_rwf (h : Hw) (a : Nat) (v : Word32) : (h.setReg a v).rwf = h.rwf := rfl
@[simp] theorem setReg_captured (h : Hw) (a : Nat) (v : Word32) : (h.setReg a v).captured = h.captured := rfl
@[simp] theorem setReg_rows (h : Hw) (a : Nat) (v : Word32) : (h.setReg a v).rows = h.rows := rfl
@[simp] theorem setReg_bundles (h : Hw) (a : Nat) (v : Word32) : (h.setReg a v).bundles = h.bundles := rfl
@[simp] theorem setReg_support (h : Hw) (a : Nat) (v : Word32) : (h.setReg a v).support = h.support := rfl
@[simp] theorem setReg_lofts (h : Hw) (a : Nat) (v : Word32) : (h.setReg a v).lofts = h.lofts := rfl
@[simp] theorem setReg_bankMem (h : Hw) (a : Nat) (v : Word32) : (h.setReg a v).bankMem = h.bankMem := rfl
@[simp] theorem setReg_bankValid (h : Hw) (a : Nat) (v : Word32) : (h.setReg a v).bankValid = h.bankValid := rfl
@[simp] theorem setReg_farMem (h : Hw) (a : Nat) (v : Word32) : (h.setReg a v).farMem = h.farMem := rfl
@[simp] theorem setReg_farValid (h : Hw) (a : Nat) (v : Word32) : (h.setReg a v).farValid = h.farValid := rfl
@[simp] theorem setReg_scratch (h : Hw) (a : Nat) (v : Word32) : (h.setReg a v).scratch = h.scratch := rfl
@[simp] theorem setReg_plan (h : Hw) (a : Nat) (v : Word32) : (h.setReg a v).plan = h.plan := rfl
@[simp] theorem setReg_ptable (h : Hw) (a : Nat) (v : Word32) : (h.setReg a v).ptable = h.ptable := rfl
@[simp] theorem setReg_waitSets (h : Hw) (a : Nat) (v : Word32) : (h.setReg a v).waitSets = h.waitSets := rfl
@[simp] theorem setReg_flash (h : Hw) (a : Nat) (v : Word32) : (h.setReg a v).flash = h.flash := rfl
@[simp] theorem setReg_flashHeld (h : Hw) (a : Nat) (v : Word32) : (h.setReg a v).flashHeld = h.flashHeld := rfl
@[simp] theorem setReg_trusses (h : Hw) (a : Nat) (v : Word32) : (h.setReg a v).trusses = h.trusses := rfl
@[simp] theorem setReg_banks (h : Hw) (a : Nat) (v : Word32) : (h.setReg a v).banks = h.banks := rfl
@[simp] theorem setReg_qpairs (h : Hw) (a : Nat) (v : Word32) : (h.setReg a v).qpairs = h.qpairs := rfl
@[simp] theorem setReg_seq (h : Hw) (a : Nat) (v : Word32) : (h.setReg a v).seq = h.seq := rfl
@[simp] theorem setReg_conf (h : Hw) (a : Nat) (v : Word32) : (h.setReg a v).conf = h.conf := rfl
@[simp] theorem setReg_done (h : Hw) (a : Nat) (v : Word32) : (h.setReg a v).done = h.done := rfl
@[simp] theorem setReg_portWords (h : Hw) (a : Nat) (v : Word32) : (h.setReg a v).portWords = h.portWords := rfl
@[simp] theorem setReg_bridgeErr (h : Hw) (a : Nat) (v : Word32) : (h.setReg a v).bridgeErr = h.bridgeErr := rfl
@[simp] theorem setReg_probeIn (h : Hw) (a : Nat) (v : Word32) : (h.setReg a v).probeIn = h.probeIn := rfl
@[simp] theorem setReg_fault (h : Hw) (a : Nat) (v : Word32) : (h.setReg a v).fault = h.fault := rfl
@[simp] theorem setReg_trace (h : Hw) (a : Nat) (v : Word32) : (h.setReg a v).trace = h.trace := rfl
@[simp] theorem setReg_snap (h : Hw) (a : Nat) (v : Word32) : (h.setReg a v).snap = h.snap := rfl
@[simp] theorem setReg_time (h : Hw) (a : Nat) (v : Word32) : (h.setReg a v).time = h.time := rfl
@[simp] theorem setReg_calls (h : Hw) (a : Nat) (v : Word32) : (h.setReg a v).calls = h.calls := rfl
@[simp] theorem setReg_acq (h : Hw) (a : Nat) (v : Word32) : (h.setReg a v).acq = h.acq := rfl
@[simp] theorem setReg_bme (h : Hw) (a : Nat) (v : Word32) : (h.setReg a v).bme = h.bme := rfl
@[simp] theorem setReg_host (h : Hw) (a : Nat) (v : Word32) : (h.setReg a v).host = h.host := rfl
@[simp] theorem setReg_power (h : Hw) (a : Nat) (v : Word32) : (h.setReg a v).power = h.power := rfl
@[simp] theorem setReg_fw (h : Hw) (a : Nat) (v : Word32) : (h.setReg a v).fw = h.fw := rfl
@[simp] theorem setReg_serial (h : Hw) (a : Nat) (v : Word32) : (h.setReg a v).serial = h.serial := rfl
@[simp] theorem setReg_ports (h : Hw) (a : Nat) (v : Word32) : (h.setReg a v).ports = h.ports := rfl
@[simp] theorem setReg_img (h : Hw) (a : Nat) (v : Word32) : (h.setReg a v).img = h.img := rfl
@[simp] theorem setReg_calib (h : Hw) (a : Nat) (v : Word32) : (h.setReg a v).calib = h.calib := rfl
@[simp] theorem setReg_pool (h : Hw) (a : Nat) (v : Word32) : (h.setReg a v).pool = h.pool := rfl
@[simp] theorem setReg_scrubSince (h : Hw) (a : Nat) (v : Word32) : (h.setReg a v).scrubSince = h.scrubSince := rfl
@[simp] theorem setReg_scrubSlots (h : Hw) (a : Nat) (v : Word32) : (h.setReg a v).scrubSlots = h.scrubSlots := rfl
@[simp] theorem setReg_ioOut (h : Hw) (a : Nat) (v : Word32) : (h.setReg a v).ioOut = h.ioOut := rfl
@[simp] theorem setReg_ioIn (h : Hw) (a : Nat) (v : Word32) : (h.setReg a v).ioIn = h.ioIn := rfl
@[simp] theorem setReg_refreshAhead (h : Hw) (a : Nat) (v : Word32) : (h.setReg a v).refreshAhead = h.refreshAhead := rfl
@[simp] theorem setReg_refreshLate (h : Hw) (a : Nat) (v : Word32) : (h.setReg a v).refreshLate = h.refreshLate := rfl
@[simp] theorem setReg_farWb (h : Hw) (a : Nat) (v : Word32) : (h.setReg a v).farWb = h.farWb := rfl
@[simp] theorem setReg_out (h : Hw) (a : Nat) (v : Word32) : (h.setReg a v).out = h.out := rfl

/-! ## setTruss -/

@[simp] theorem setTruss_stepping (h : Hw) (t : Nat) (v : Truss) : (h.setTruss t v).stepping = h.stepping := rfl
@[simp] theorem setTruss_devIndex (h : Hw) (t : Nat) (v : Truss) : (h.setTruss t v).devIndex = h.devIndex := rfl
@[simp] theorem setTruss_free (h : Hw) (t : Nat) (v : Truss) : (h.setTruss t v).free = h.free := rfl
@[simp] theorem setTruss_regs (h : Hw) (t : Nat) (v : Truss) : (h.setTruss t v).regs = h.regs := rfl
@[simp] theorem setTruss_rwf (h : Hw) (t : Nat) (v : Truss) : (h.setTruss t v).rwf = h.rwf := rfl
@[simp] theorem setTruss_captured (h : Hw) (t : Nat) (v : Truss) : (h.setTruss t v).captured = h.captured := rfl
@[simp] theorem setTruss_rows (h : Hw) (t : Nat) (v : Truss) : (h.setTruss t v).rows = h.rows := rfl
@[simp] theorem setTruss_bundles (h : Hw) (t : Nat) (v : Truss) : (h.setTruss t v).bundles = h.bundles := rfl
@[simp] theorem setTruss_support (h : Hw) (t : Nat) (v : Truss) : (h.setTruss t v).support = h.support := rfl
@[simp] theorem setTruss_lofts (h : Hw) (t : Nat) (v : Truss) : (h.setTruss t v).lofts = h.lofts := rfl
@[simp] theorem setTruss_bankMem (h : Hw) (t : Nat) (v : Truss) : (h.setTruss t v).bankMem = h.bankMem := rfl
@[simp] theorem setTruss_bankValid (h : Hw) (t : Nat) (v : Truss) : (h.setTruss t v).bankValid = h.bankValid := rfl
@[simp] theorem setTruss_farMem (h : Hw) (t : Nat) (v : Truss) : (h.setTruss t v).farMem = h.farMem := rfl
@[simp] theorem setTruss_farValid (h : Hw) (t : Nat) (v : Truss) : (h.setTruss t v).farValid = h.farValid := rfl
@[simp] theorem setTruss_scratch (h : Hw) (t : Nat) (v : Truss) : (h.setTruss t v).scratch = h.scratch := rfl
@[simp] theorem setTruss_plan (h : Hw) (t : Nat) (v : Truss) : (h.setTruss t v).plan = h.plan := rfl
@[simp] theorem setTruss_ptable (h : Hw) (t : Nat) (v : Truss) : (h.setTruss t v).ptable = h.ptable := rfl
@[simp] theorem setTruss_waitSets (h : Hw) (t : Nat) (v : Truss) : (h.setTruss t v).waitSets = h.waitSets := rfl
@[simp] theorem setTruss_flash (h : Hw) (t : Nat) (v : Truss) : (h.setTruss t v).flash = h.flash := rfl
@[simp] theorem setTruss_flashHeld (h : Hw) (t : Nat) (v : Truss) : (h.setTruss t v).flashHeld = h.flashHeld := rfl
@[simp] theorem setTruss_banks (h : Hw) (t : Nat) (v : Truss) : (h.setTruss t v).banks = h.banks := rfl
@[simp] theorem setTruss_qpairs (h : Hw) (t : Nat) (v : Truss) : (h.setTruss t v).qpairs = h.qpairs := rfl
@[simp] theorem setTruss_seq (h : Hw) (t : Nat) (v : Truss) : (h.setTruss t v).seq = h.seq := rfl
@[simp] theorem setTruss_conf (h : Hw) (t : Nat) (v : Truss) : (h.setTruss t v).conf = h.conf := rfl
@[simp] theorem setTruss_done (h : Hw) (t : Nat) (v : Truss) : (h.setTruss t v).done = h.done := rfl
@[simp] theorem setTruss_portWords (h : Hw) (t : Nat) (v : Truss) : (h.setTruss t v).portWords = h.portWords := rfl
@[simp] theorem setTruss_bridgeErr (h : Hw) (t : Nat) (v : Truss) : (h.setTruss t v).bridgeErr = h.bridgeErr := rfl
@[simp] theorem setTruss_probeIn (h : Hw) (t : Nat) (v : Truss) : (h.setTruss t v).probeIn = h.probeIn := rfl
@[simp] theorem setTruss_fault (h : Hw) (t : Nat) (v : Truss) : (h.setTruss t v).fault = h.fault := rfl
@[simp] theorem setTruss_trace (h : Hw) (t : Nat) (v : Truss) : (h.setTruss t v).trace = h.trace := rfl
@[simp] theorem setTruss_snap (h : Hw) (t : Nat) (v : Truss) : (h.setTruss t v).snap = h.snap := rfl
@[simp] theorem setTruss_time (h : Hw) (t : Nat) (v : Truss) : (h.setTruss t v).time = h.time := rfl
@[simp] theorem setTruss_calls (h : Hw) (t : Nat) (v : Truss) : (h.setTruss t v).calls = h.calls := rfl
@[simp] theorem setTruss_acq (h : Hw) (t : Nat) (v : Truss) : (h.setTruss t v).acq = h.acq := rfl
@[simp] theorem setTruss_bme (h : Hw) (t : Nat) (v : Truss) : (h.setTruss t v).bme = h.bme := rfl
@[simp] theorem setTruss_host (h : Hw) (t : Nat) (v : Truss) : (h.setTruss t v).host = h.host := rfl
@[simp] theorem setTruss_power (h : Hw) (t : Nat) (v : Truss) : (h.setTruss t v).power = h.power := rfl
@[simp] theorem setTruss_fw (h : Hw) (t : Nat) (v : Truss) : (h.setTruss t v).fw = h.fw := rfl
@[simp] theorem setTruss_serial (h : Hw) (t : Nat) (v : Truss) : (h.setTruss t v).serial = h.serial := rfl
@[simp] theorem setTruss_ports (h : Hw) (t : Nat) (v : Truss) : (h.setTruss t v).ports = h.ports := rfl
@[simp] theorem setTruss_img (h : Hw) (t : Nat) (v : Truss) : (h.setTruss t v).img = h.img := rfl
@[simp] theorem setTruss_calib (h : Hw) (t : Nat) (v : Truss) : (h.setTruss t v).calib = h.calib := rfl
@[simp] theorem setTruss_pool (h : Hw) (t : Nat) (v : Truss) : (h.setTruss t v).pool = h.pool := rfl
@[simp] theorem setTruss_scrubSince (h : Hw) (t : Nat) (v : Truss) : (h.setTruss t v).scrubSince = h.scrubSince := rfl
@[simp] theorem setTruss_scrubSlots (h : Hw) (t : Nat) (v : Truss) : (h.setTruss t v).scrubSlots = h.scrubSlots := rfl
@[simp] theorem setTruss_ioOut (h : Hw) (t : Nat) (v : Truss) : (h.setTruss t v).ioOut = h.ioOut := rfl
@[simp] theorem setTruss_ioIn (h : Hw) (t : Nat) (v : Truss) : (h.setTruss t v).ioIn = h.ioIn := rfl
@[simp] theorem setTruss_refreshAhead (h : Hw) (t : Nat) (v : Truss) : (h.setTruss t v).refreshAhead = h.refreshAhead := rfl
@[simp] theorem setTruss_refreshLate (h : Hw) (t : Nat) (v : Truss) : (h.setTruss t v).refreshLate = h.refreshLate := rfl
@[simp] theorem setTruss_farWb (h : Hw) (t : Nat) (v : Truss) : (h.setTruss t v).farWb = h.farWb := rfl
@[simp] theorem setTruss_out (h : Hw) (t : Nat) (v : Truss) : (h.setTruss t v).out = h.out := rfl

/-! ## setBank -/

@[simp] theorem setBank_stepping (h : Hw) (b : Nat) (v : Bank) : (h.setBank b v).stepping = h.stepping := rfl
@[simp] theorem setBank_devIndex (h : Hw) (b : Nat) (v : Bank) : (h.setBank b v).devIndex = h.devIndex := rfl
@[simp] theorem setBank_free (h : Hw) (b : Nat) (v : Bank) : (h.setBank b v).free = h.free := rfl
@[simp] theorem setBank_regs (h : Hw) (b : Nat) (v : Bank) : (h.setBank b v).regs = h.regs := rfl
@[simp] theorem setBank_rwf (h : Hw) (b : Nat) (v : Bank) : (h.setBank b v).rwf = h.rwf := rfl
@[simp] theorem setBank_captured (h : Hw) (b : Nat) (v : Bank) : (h.setBank b v).captured = h.captured := rfl
@[simp] theorem setBank_rows (h : Hw) (b : Nat) (v : Bank) : (h.setBank b v).rows = h.rows := rfl
@[simp] theorem setBank_bundles (h : Hw) (b : Nat) (v : Bank) : (h.setBank b v).bundles = h.bundles := rfl
@[simp] theorem setBank_support (h : Hw) (b : Nat) (v : Bank) : (h.setBank b v).support = h.support := rfl
@[simp] theorem setBank_lofts (h : Hw) (b : Nat) (v : Bank) : (h.setBank b v).lofts = h.lofts := rfl
@[simp] theorem setBank_bankMem (h : Hw) (b : Nat) (v : Bank) : (h.setBank b v).bankMem = h.bankMem := rfl
@[simp] theorem setBank_bankValid (h : Hw) (b : Nat) (v : Bank) : (h.setBank b v).bankValid = h.bankValid := rfl
@[simp] theorem setBank_farMem (h : Hw) (b : Nat) (v : Bank) : (h.setBank b v).farMem = h.farMem := rfl
@[simp] theorem setBank_farValid (h : Hw) (b : Nat) (v : Bank) : (h.setBank b v).farValid = h.farValid := rfl
@[simp] theorem setBank_scratch (h : Hw) (b : Nat) (v : Bank) : (h.setBank b v).scratch = h.scratch := rfl
@[simp] theorem setBank_plan (h : Hw) (b : Nat) (v : Bank) : (h.setBank b v).plan = h.plan := rfl
@[simp] theorem setBank_ptable (h : Hw) (b : Nat) (v : Bank) : (h.setBank b v).ptable = h.ptable := rfl
@[simp] theorem setBank_waitSets (h : Hw) (b : Nat) (v : Bank) : (h.setBank b v).waitSets = h.waitSets := rfl
@[simp] theorem setBank_flash (h : Hw) (b : Nat) (v : Bank) : (h.setBank b v).flash = h.flash := rfl
@[simp] theorem setBank_flashHeld (h : Hw) (b : Nat) (v : Bank) : (h.setBank b v).flashHeld = h.flashHeld := rfl
@[simp] theorem setBank_trusses (h : Hw) (b : Nat) (v : Bank) : (h.setBank b v).trusses = h.trusses := rfl
@[simp] theorem setBank_qpairs (h : Hw) (b : Nat) (v : Bank) : (h.setBank b v).qpairs = h.qpairs := rfl
@[simp] theorem setBank_seq (h : Hw) (b : Nat) (v : Bank) : (h.setBank b v).seq = h.seq := rfl
@[simp] theorem setBank_conf (h : Hw) (b : Nat) (v : Bank) : (h.setBank b v).conf = h.conf := rfl
@[simp] theorem setBank_done (h : Hw) (b : Nat) (v : Bank) : (h.setBank b v).done = h.done := rfl
@[simp] theorem setBank_portWords (h : Hw) (b : Nat) (v : Bank) : (h.setBank b v).portWords = h.portWords := rfl
@[simp] theorem setBank_bridgeErr (h : Hw) (b : Nat) (v : Bank) : (h.setBank b v).bridgeErr = h.bridgeErr := rfl
@[simp] theorem setBank_probeIn (h : Hw) (b : Nat) (v : Bank) : (h.setBank b v).probeIn = h.probeIn := rfl
@[simp] theorem setBank_fault (h : Hw) (b : Nat) (v : Bank) : (h.setBank b v).fault = h.fault := rfl
@[simp] theorem setBank_trace (h : Hw) (b : Nat) (v : Bank) : (h.setBank b v).trace = h.trace := rfl
@[simp] theorem setBank_snap (h : Hw) (b : Nat) (v : Bank) : (h.setBank b v).snap = h.snap := rfl
@[simp] theorem setBank_time (h : Hw) (b : Nat) (v : Bank) : (h.setBank b v).time = h.time := rfl
@[simp] theorem setBank_calls (h : Hw) (b : Nat) (v : Bank) : (h.setBank b v).calls = h.calls := rfl
@[simp] theorem setBank_acq (h : Hw) (b : Nat) (v : Bank) : (h.setBank b v).acq = h.acq := rfl
@[simp] theorem setBank_bme (h : Hw) (b : Nat) (v : Bank) : (h.setBank b v).bme = h.bme := rfl
@[simp] theorem setBank_host (h : Hw) (b : Nat) (v : Bank) : (h.setBank b v).host = h.host := rfl
@[simp] theorem setBank_power (h : Hw) (b : Nat) (v : Bank) : (h.setBank b v).power = h.power := rfl
@[simp] theorem setBank_fw (h : Hw) (b : Nat) (v : Bank) : (h.setBank b v).fw = h.fw := rfl
@[simp] theorem setBank_serial (h : Hw) (b : Nat) (v : Bank) : (h.setBank b v).serial = h.serial := rfl
@[simp] theorem setBank_ports (h : Hw) (b : Nat) (v : Bank) : (h.setBank b v).ports = h.ports := rfl
@[simp] theorem setBank_img (h : Hw) (b : Nat) (v : Bank) : (h.setBank b v).img = h.img := rfl
@[simp] theorem setBank_calib (h : Hw) (b : Nat) (v : Bank) : (h.setBank b v).calib = h.calib := rfl
@[simp] theorem setBank_pool (h : Hw) (b : Nat) (v : Bank) : (h.setBank b v).pool = h.pool := rfl
@[simp] theorem setBank_scrubSince (h : Hw) (b : Nat) (v : Bank) : (h.setBank b v).scrubSince = h.scrubSince := rfl
@[simp] theorem setBank_scrubSlots (h : Hw) (b : Nat) (v : Bank) : (h.setBank b v).scrubSlots = h.scrubSlots := rfl
@[simp] theorem setBank_ioOut (h : Hw) (b : Nat) (v : Bank) : (h.setBank b v).ioOut = h.ioOut := rfl
@[simp] theorem setBank_ioIn (h : Hw) (b : Nat) (v : Bank) : (h.setBank b v).ioIn = h.ioIn := rfl
@[simp] theorem setBank_refreshAhead (h : Hw) (b : Nat) (v : Bank) : (h.setBank b v).refreshAhead = h.refreshAhead := rfl
@[simp] theorem setBank_refreshLate (h : Hw) (b : Nat) (v : Bank) : (h.setBank b v).refreshLate = h.refreshLate := rfl
@[simp] theorem setBank_farWb (h : Hw) (b : Nat) (v : Bank) : (h.setBank b v).farWb = h.farWb := rfl
@[simp] theorem setBank_out (h : Hw) (b : Nat) (v : Bank) : (h.setBank b v).out = h.out := rfl

/-! ## setQpair -/

@[simp] theorem setQpair_stepping (h : Hw) (q : Nat) (v : QPair) : (h.setQpair q v).stepping = h.stepping := rfl
@[simp] theorem setQpair_devIndex (h : Hw) (q : Nat) (v : QPair) : (h.setQpair q v).devIndex = h.devIndex := rfl
@[simp] theorem setQpair_free (h : Hw) (q : Nat) (v : QPair) : (h.setQpair q v).free = h.free := rfl
@[simp] theorem setQpair_regs (h : Hw) (q : Nat) (v : QPair) : (h.setQpair q v).regs = h.regs := rfl
@[simp] theorem setQpair_rwf (h : Hw) (q : Nat) (v : QPair) : (h.setQpair q v).rwf = h.rwf := rfl
@[simp] theorem setQpair_captured (h : Hw) (q : Nat) (v : QPair) : (h.setQpair q v).captured = h.captured := rfl
@[simp] theorem setQpair_rows (h : Hw) (q : Nat) (v : QPair) : (h.setQpair q v).rows = h.rows := rfl
@[simp] theorem setQpair_bundles (h : Hw) (q : Nat) (v : QPair) : (h.setQpair q v).bundles = h.bundles := rfl
@[simp] theorem setQpair_support (h : Hw) (q : Nat) (v : QPair) : (h.setQpair q v).support = h.support := rfl
@[simp] theorem setQpair_lofts (h : Hw) (q : Nat) (v : QPair) : (h.setQpair q v).lofts = h.lofts := rfl
@[simp] theorem setQpair_bankMem (h : Hw) (q : Nat) (v : QPair) : (h.setQpair q v).bankMem = h.bankMem := rfl
@[simp] theorem setQpair_bankValid (h : Hw) (q : Nat) (v : QPair) : (h.setQpair q v).bankValid = h.bankValid := rfl
@[simp] theorem setQpair_farMem (h : Hw) (q : Nat) (v : QPair) : (h.setQpair q v).farMem = h.farMem := rfl
@[simp] theorem setQpair_farValid (h : Hw) (q : Nat) (v : QPair) : (h.setQpair q v).farValid = h.farValid := rfl
@[simp] theorem setQpair_scratch (h : Hw) (q : Nat) (v : QPair) : (h.setQpair q v).scratch = h.scratch := rfl
@[simp] theorem setQpair_plan (h : Hw) (q : Nat) (v : QPair) : (h.setQpair q v).plan = h.plan := rfl
@[simp] theorem setQpair_ptable (h : Hw) (q : Nat) (v : QPair) : (h.setQpair q v).ptable = h.ptable := rfl
@[simp] theorem setQpair_waitSets (h : Hw) (q : Nat) (v : QPair) : (h.setQpair q v).waitSets = h.waitSets := rfl
@[simp] theorem setQpair_flash (h : Hw) (q : Nat) (v : QPair) : (h.setQpair q v).flash = h.flash := rfl
@[simp] theorem setQpair_flashHeld (h : Hw) (q : Nat) (v : QPair) : (h.setQpair q v).flashHeld = h.flashHeld := rfl
@[simp] theorem setQpair_trusses (h : Hw) (q : Nat) (v : QPair) : (h.setQpair q v).trusses = h.trusses := rfl
@[simp] theorem setQpair_banks (h : Hw) (q : Nat) (v : QPair) : (h.setQpair q v).banks = h.banks := rfl
@[simp] theorem setQpair_seq (h : Hw) (q : Nat) (v : QPair) : (h.setQpair q v).seq = h.seq := rfl
@[simp] theorem setQpair_conf (h : Hw) (q : Nat) (v : QPair) : (h.setQpair q v).conf = h.conf := rfl
@[simp] theorem setQpair_done (h : Hw) (q : Nat) (v : QPair) : (h.setQpair q v).done = h.done := rfl
@[simp] theorem setQpair_portWords (h : Hw) (q : Nat) (v : QPair) : (h.setQpair q v).portWords = h.portWords := rfl
@[simp] theorem setQpair_bridgeErr (h : Hw) (q : Nat) (v : QPair) : (h.setQpair q v).bridgeErr = h.bridgeErr := rfl
@[simp] theorem setQpair_probeIn (h : Hw) (q : Nat) (v : QPair) : (h.setQpair q v).probeIn = h.probeIn := rfl
@[simp] theorem setQpair_fault (h : Hw) (q : Nat) (v : QPair) : (h.setQpair q v).fault = h.fault := rfl
@[simp] theorem setQpair_trace (h : Hw) (q : Nat) (v : QPair) : (h.setQpair q v).trace = h.trace := rfl
@[simp] theorem setQpair_snap (h : Hw) (q : Nat) (v : QPair) : (h.setQpair q v).snap = h.snap := rfl
@[simp] theorem setQpair_time (h : Hw) (q : Nat) (v : QPair) : (h.setQpair q v).time = h.time := rfl
@[simp] theorem setQpair_calls (h : Hw) (q : Nat) (v : QPair) : (h.setQpair q v).calls = h.calls := rfl
@[simp] theorem setQpair_acq (h : Hw) (q : Nat) (v : QPair) : (h.setQpair q v).acq = h.acq := rfl
@[simp] theorem setQpair_bme (h : Hw) (q : Nat) (v : QPair) : (h.setQpair q v).bme = h.bme := rfl
@[simp] theorem setQpair_host (h : Hw) (q : Nat) (v : QPair) : (h.setQpair q v).host = h.host := rfl
@[simp] theorem setQpair_power (h : Hw) (q : Nat) (v : QPair) : (h.setQpair q v).power = h.power := rfl
@[simp] theorem setQpair_fw (h : Hw) (q : Nat) (v : QPair) : (h.setQpair q v).fw = h.fw := rfl
@[simp] theorem setQpair_serial (h : Hw) (q : Nat) (v : QPair) : (h.setQpair q v).serial = h.serial := rfl
@[simp] theorem setQpair_ports (h : Hw) (q : Nat) (v : QPair) : (h.setQpair q v).ports = h.ports := rfl
@[simp] theorem setQpair_img (h : Hw) (q : Nat) (v : QPair) : (h.setQpair q v).img = h.img := rfl
@[simp] theorem setQpair_calib (h : Hw) (q : Nat) (v : QPair) : (h.setQpair q v).calib = h.calib := rfl
@[simp] theorem setQpair_pool (h : Hw) (q : Nat) (v : QPair) : (h.setQpair q v).pool = h.pool := rfl
@[simp] theorem setQpair_scrubSince (h : Hw) (q : Nat) (v : QPair) : (h.setQpair q v).scrubSince = h.scrubSince := rfl
@[simp] theorem setQpair_scrubSlots (h : Hw) (q : Nat) (v : QPair) : (h.setQpair q v).scrubSlots = h.scrubSlots := rfl
@[simp] theorem setQpair_ioOut (h : Hw) (q : Nat) (v : QPair) : (h.setQpair q v).ioOut = h.ioOut := rfl
@[simp] theorem setQpair_ioIn (h : Hw) (q : Nat) (v : QPair) : (h.setQpair q v).ioIn = h.ioIn := rfl
@[simp] theorem setQpair_refreshAhead (h : Hw) (q : Nat) (v : QPair) : (h.setQpair q v).refreshAhead = h.refreshAhead := rfl
@[simp] theorem setQpair_refreshLate (h : Hw) (q : Nat) (v : QPair) : (h.setQpair q v).refreshLate = h.refreshLate := rfl
@[simp] theorem setQpair_farWb (h : Hw) (q : Nat) (v : QPair) : (h.setQpair q v).farWb = h.farWb := rfl
@[simp] theorem setQpair_out (h : Hw) (q : Nat) (v : QPair) : (h.setQpair q v).out = h.out := rfl

/-! ## setPort -/

@[simp] theorem setPort_stepping (h : Hw) (p : Nat) (v : EavePort) : (h.setPort p v).stepping = h.stepping := rfl
@[simp] theorem setPort_devIndex (h : Hw) (p : Nat) (v : EavePort) : (h.setPort p v).devIndex = h.devIndex := rfl
@[simp] theorem setPort_free (h : Hw) (p : Nat) (v : EavePort) : (h.setPort p v).free = h.free := rfl
@[simp] theorem setPort_regs (h : Hw) (p : Nat) (v : EavePort) : (h.setPort p v).regs = h.regs := rfl
@[simp] theorem setPort_rwf (h : Hw) (p : Nat) (v : EavePort) : (h.setPort p v).rwf = h.rwf := rfl
@[simp] theorem setPort_captured (h : Hw) (p : Nat) (v : EavePort) : (h.setPort p v).captured = h.captured := rfl
@[simp] theorem setPort_rows (h : Hw) (p : Nat) (v : EavePort) : (h.setPort p v).rows = h.rows := rfl
@[simp] theorem setPort_bundles (h : Hw) (p : Nat) (v : EavePort) : (h.setPort p v).bundles = h.bundles := rfl
@[simp] theorem setPort_support (h : Hw) (p : Nat) (v : EavePort) : (h.setPort p v).support = h.support := rfl
@[simp] theorem setPort_lofts (h : Hw) (p : Nat) (v : EavePort) : (h.setPort p v).lofts = h.lofts := rfl
@[simp] theorem setPort_bankMem (h : Hw) (p : Nat) (v : EavePort) : (h.setPort p v).bankMem = h.bankMem := rfl
@[simp] theorem setPort_bankValid (h : Hw) (p : Nat) (v : EavePort) : (h.setPort p v).bankValid = h.bankValid := rfl
@[simp] theorem setPort_farMem (h : Hw) (p : Nat) (v : EavePort) : (h.setPort p v).farMem = h.farMem := rfl
@[simp] theorem setPort_farValid (h : Hw) (p : Nat) (v : EavePort) : (h.setPort p v).farValid = h.farValid := rfl
@[simp] theorem setPort_scratch (h : Hw) (p : Nat) (v : EavePort) : (h.setPort p v).scratch = h.scratch := rfl
@[simp] theorem setPort_plan (h : Hw) (p : Nat) (v : EavePort) : (h.setPort p v).plan = h.plan := rfl
@[simp] theorem setPort_ptable (h : Hw) (p : Nat) (v : EavePort) : (h.setPort p v).ptable = h.ptable := rfl
@[simp] theorem setPort_waitSets (h : Hw) (p : Nat) (v : EavePort) : (h.setPort p v).waitSets = h.waitSets := rfl
@[simp] theorem setPort_flash (h : Hw) (p : Nat) (v : EavePort) : (h.setPort p v).flash = h.flash := rfl
@[simp] theorem setPort_flashHeld (h : Hw) (p : Nat) (v : EavePort) : (h.setPort p v).flashHeld = h.flashHeld := rfl
@[simp] theorem setPort_trusses (h : Hw) (p : Nat) (v : EavePort) : (h.setPort p v).trusses = h.trusses := rfl
@[simp] theorem setPort_banks (h : Hw) (p : Nat) (v : EavePort) : (h.setPort p v).banks = h.banks := rfl
@[simp] theorem setPort_qpairs (h : Hw) (p : Nat) (v : EavePort) : (h.setPort p v).qpairs = h.qpairs := rfl
@[simp] theorem setPort_seq (h : Hw) (p : Nat) (v : EavePort) : (h.setPort p v).seq = h.seq := rfl
@[simp] theorem setPort_conf (h : Hw) (p : Nat) (v : EavePort) : (h.setPort p v).conf = h.conf := rfl
@[simp] theorem setPort_done (h : Hw) (p : Nat) (v : EavePort) : (h.setPort p v).done = h.done := rfl
@[simp] theorem setPort_portWords (h : Hw) (p : Nat) (v : EavePort) : (h.setPort p v).portWords = h.portWords := rfl
@[simp] theorem setPort_bridgeErr (h : Hw) (p : Nat) (v : EavePort) : (h.setPort p v).bridgeErr = h.bridgeErr := rfl
@[simp] theorem setPort_probeIn (h : Hw) (p : Nat) (v : EavePort) : (h.setPort p v).probeIn = h.probeIn := rfl
@[simp] theorem setPort_fault (h : Hw) (p : Nat) (v : EavePort) : (h.setPort p v).fault = h.fault := rfl
@[simp] theorem setPort_trace (h : Hw) (p : Nat) (v : EavePort) : (h.setPort p v).trace = h.trace := rfl
@[simp] theorem setPort_snap (h : Hw) (p : Nat) (v : EavePort) : (h.setPort p v).snap = h.snap := rfl
@[simp] theorem setPort_time (h : Hw) (p : Nat) (v : EavePort) : (h.setPort p v).time = h.time := rfl
@[simp] theorem setPort_calls (h : Hw) (p : Nat) (v : EavePort) : (h.setPort p v).calls = h.calls := rfl
@[simp] theorem setPort_acq (h : Hw) (p : Nat) (v : EavePort) : (h.setPort p v).acq = h.acq := rfl
@[simp] theorem setPort_bme (h : Hw) (p : Nat) (v : EavePort) : (h.setPort p v).bme = h.bme := rfl
@[simp] theorem setPort_host (h : Hw) (p : Nat) (v : EavePort) : (h.setPort p v).host = h.host := rfl
@[simp] theorem setPort_power (h : Hw) (p : Nat) (v : EavePort) : (h.setPort p v).power = h.power := rfl
@[simp] theorem setPort_fw (h : Hw) (p : Nat) (v : EavePort) : (h.setPort p v).fw = h.fw := rfl
@[simp] theorem setPort_serial (h : Hw) (p : Nat) (v : EavePort) : (h.setPort p v).serial = h.serial := rfl
@[simp] theorem setPort_img (h : Hw) (p : Nat) (v : EavePort) : (h.setPort p v).img = h.img := rfl
@[simp] theorem setPort_calib (h : Hw) (p : Nat) (v : EavePort) : (h.setPort p v).calib = h.calib := rfl
@[simp] theorem setPort_pool (h : Hw) (p : Nat) (v : EavePort) : (h.setPort p v).pool = h.pool := rfl
@[simp] theorem setPort_scrubSince (h : Hw) (p : Nat) (v : EavePort) : (h.setPort p v).scrubSince = h.scrubSince := rfl
@[simp] theorem setPort_scrubSlots (h : Hw) (p : Nat) (v : EavePort) : (h.setPort p v).scrubSlots = h.scrubSlots := rfl
@[simp] theorem setPort_ioOut (h : Hw) (p : Nat) (v : EavePort) : (h.setPort p v).ioOut = h.ioOut := rfl
@[simp] theorem setPort_ioIn (h : Hw) (p : Nat) (v : EavePort) : (h.setPort p v).ioIn = h.ioIn := rfl
@[simp] theorem setPort_refreshAhead (h : Hw) (p : Nat) (v : EavePort) : (h.setPort p v).refreshAhead = h.refreshAhead := rfl
@[simp] theorem setPort_refreshLate (h : Hw) (p : Nat) (v : EavePort) : (h.setPort p v).refreshLate = h.refreshLate := rfl
@[simp] theorem setPort_farWb (h : Hw) (p : Nat) (v : EavePort) : (h.setPort p v).farWb = h.farWb := rfl
@[simp] theorem setPort_out (h : Hw) (p : Nat) (v : EavePort) : (h.setPort p v).out = h.out := rfl

/-! ## emit -/

@[simp] theorem emit_stepping (h : Hw) (o : Out) : (h.emit o).stepping = h.stepping := rfl
@[simp] theorem emit_devIndex (h : Hw) (o : Out) : (h.emit o).devIndex = h.devIndex := rfl
@[simp] theorem emit_free (h : Hw) (o : Out) : (h.emit o).free = h.free := rfl
@[simp] theorem emit_regs (h : Hw) (o : Out) : (h.emit o).regs = h.regs := rfl
@[simp] theorem emit_rwf (h : Hw) (o : Out) : (h.emit o).rwf = h.rwf := rfl
@[simp] theorem emit_captured (h : Hw) (o : Out) : (h.emit o).captured = h.captured := rfl
@[simp] theorem emit_rows (h : Hw) (o : Out) : (h.emit o).rows = h.rows := rfl
@[simp] theorem emit_bundles (h : Hw) (o : Out) : (h.emit o).bundles = h.bundles := rfl
@[simp] theorem emit_support (h : Hw) (o : Out) : (h.emit o).support = h.support := rfl
@[simp] theorem emit_lofts (h : Hw) (o : Out) : (h.emit o).lofts = h.lofts := rfl
@[simp] theorem emit_bankMem (h : Hw) (o : Out) : (h.emit o).bankMem = h.bankMem := rfl
@[simp] theorem emit_bankValid (h : Hw) (o : Out) : (h.emit o).bankValid = h.bankValid := rfl
@[simp] theorem emit_farMem (h : Hw) (o : Out) : (h.emit o).farMem = h.farMem := rfl
@[simp] theorem emit_farValid (h : Hw) (o : Out) : (h.emit o).farValid = h.farValid := rfl
@[simp] theorem emit_scratch (h : Hw) (o : Out) : (h.emit o).scratch = h.scratch := rfl
@[simp] theorem emit_plan (h : Hw) (o : Out) : (h.emit o).plan = h.plan := rfl
@[simp] theorem emit_ptable (h : Hw) (o : Out) : (h.emit o).ptable = h.ptable := rfl
@[simp] theorem emit_waitSets (h : Hw) (o : Out) : (h.emit o).waitSets = h.waitSets := rfl
@[simp] theorem emit_flash (h : Hw) (o : Out) : (h.emit o).flash = h.flash := rfl
@[simp] theorem emit_flashHeld (h : Hw) (o : Out) : (h.emit o).flashHeld = h.flashHeld := rfl
@[simp] theorem emit_trusses (h : Hw) (o : Out) : (h.emit o).trusses = h.trusses := rfl
@[simp] theorem emit_banks (h : Hw) (o : Out) : (h.emit o).banks = h.banks := rfl
@[simp] theorem emit_qpairs (h : Hw) (o : Out) : (h.emit o).qpairs = h.qpairs := rfl
@[simp] theorem emit_seq (h : Hw) (o : Out) : (h.emit o).seq = h.seq := rfl
@[simp] theorem emit_conf (h : Hw) (o : Out) : (h.emit o).conf = h.conf := rfl
@[simp] theorem emit_done (h : Hw) (o : Out) : (h.emit o).done = h.done := rfl
@[simp] theorem emit_portWords (h : Hw) (o : Out) : (h.emit o).portWords = h.portWords := rfl
@[simp] theorem emit_bridgeErr (h : Hw) (o : Out) : (h.emit o).bridgeErr = h.bridgeErr := rfl
@[simp] theorem emit_probeIn (h : Hw) (o : Out) : (h.emit o).probeIn = h.probeIn := rfl
@[simp] theorem emit_fault (h : Hw) (o : Out) : (h.emit o).fault = h.fault := rfl
@[simp] theorem emit_trace (h : Hw) (o : Out) : (h.emit o).trace = h.trace := rfl
@[simp] theorem emit_snap (h : Hw) (o : Out) : (h.emit o).snap = h.snap := rfl
@[simp] theorem emit_time (h : Hw) (o : Out) : (h.emit o).time = h.time := rfl
@[simp] theorem emit_calls (h : Hw) (o : Out) : (h.emit o).calls = h.calls := rfl
@[simp] theorem emit_acq (h : Hw) (o : Out) : (h.emit o).acq = h.acq := rfl
@[simp] theorem emit_bme (h : Hw) (o : Out) : (h.emit o).bme = h.bme := rfl
@[simp] theorem emit_host (h : Hw) (o : Out) : (h.emit o).host = h.host := rfl
@[simp] theorem emit_power (h : Hw) (o : Out) : (h.emit o).power = h.power := rfl
@[simp] theorem emit_fw (h : Hw) (o : Out) : (h.emit o).fw = h.fw := rfl
@[simp] theorem emit_serial (h : Hw) (o : Out) : (h.emit o).serial = h.serial := rfl
@[simp] theorem emit_ports (h : Hw) (o : Out) : (h.emit o).ports = h.ports := rfl
@[simp] theorem emit_img (h : Hw) (o : Out) : (h.emit o).img = h.img := rfl
@[simp] theorem emit_calib (h : Hw) (o : Out) : (h.emit o).calib = h.calib := rfl
@[simp] theorem emit_pool (h : Hw) (o : Out) : (h.emit o).pool = h.pool := rfl
@[simp] theorem emit_scrubSince (h : Hw) (o : Out) : (h.emit o).scrubSince = h.scrubSince := rfl
@[simp] theorem emit_scrubSlots (h : Hw) (o : Out) : (h.emit o).scrubSlots = h.scrubSlots := rfl
@[simp] theorem emit_ioOut (h : Hw) (o : Out) : (h.emit o).ioOut = h.ioOut := rfl
@[simp] theorem emit_ioIn (h : Hw) (o : Out) : (h.emit o).ioIn = h.ioIn := rfl
@[simp] theorem emit_refreshAhead (h : Hw) (o : Out) : (h.emit o).refreshAhead = h.refreshAhead := rfl
@[simp] theorem emit_refreshLate (h : Hw) (o : Out) : (h.emit o).refreshLate = h.refreshLate := rfl
@[simp] theorem emit_farWb (h : Hw) (o : Out) : (h.emit o).farWb = h.farWb := rfl

/-! ## raiseWith -/

@[simp] theorem raiseWith_stepping (h : Hw) (i : Nat) (d : Word32) (p : Bool) : (h.raiseWith i d p).stepping = h.stepping := rfl
@[simp] theorem raiseWith_devIndex (h : Hw) (i : Nat) (d : Word32) (p : Bool) : (h.raiseWith i d p).devIndex = h.devIndex := rfl
@[simp] theorem raiseWith_free (h : Hw) (i : Nat) (d : Word32) (p : Bool) : (h.raiseWith i d p).free = h.free := rfl
@[simp] theorem raiseWith_regs (h : Hw) (i : Nat) (d : Word32) (p : Bool) : (h.raiseWith i d p).regs = h.regs := rfl
@[simp] theorem raiseWith_rwf (h : Hw) (i : Nat) (d : Word32) (p : Bool) : (h.raiseWith i d p).rwf = h.rwf := rfl
@[simp] theorem raiseWith_captured (h : Hw) (i : Nat) (d : Word32) (p : Bool) : (h.raiseWith i d p).captured = h.captured := rfl
@[simp] theorem raiseWith_rows (h : Hw) (i : Nat) (d : Word32) (p : Bool) : (h.raiseWith i d p).rows = h.rows := rfl
@[simp] theorem raiseWith_bundles (h : Hw) (i : Nat) (d : Word32) (p : Bool) : (h.raiseWith i d p).bundles = h.bundles := rfl
@[simp] theorem raiseWith_support (h : Hw) (i : Nat) (d : Word32) (p : Bool) : (h.raiseWith i d p).support = h.support := rfl
@[simp] theorem raiseWith_lofts (h : Hw) (i : Nat) (d : Word32) (p : Bool) : (h.raiseWith i d p).lofts = h.lofts := rfl
@[simp] theorem raiseWith_bankMem (h : Hw) (i : Nat) (d : Word32) (p : Bool) : (h.raiseWith i d p).bankMem = h.bankMem := rfl
@[simp] theorem raiseWith_bankValid (h : Hw) (i : Nat) (d : Word32) (p : Bool) : (h.raiseWith i d p).bankValid = h.bankValid := rfl
@[simp] theorem raiseWith_farMem (h : Hw) (i : Nat) (d : Word32) (p : Bool) : (h.raiseWith i d p).farMem = h.farMem := rfl
@[simp] theorem raiseWith_farValid (h : Hw) (i : Nat) (d : Word32) (p : Bool) : (h.raiseWith i d p).farValid = h.farValid := rfl
@[simp] theorem raiseWith_scratch (h : Hw) (i : Nat) (d : Word32) (p : Bool) : (h.raiseWith i d p).scratch = h.scratch := rfl
@[simp] theorem raiseWith_plan (h : Hw) (i : Nat) (d : Word32) (p : Bool) : (h.raiseWith i d p).plan = h.plan := rfl
@[simp] theorem raiseWith_ptable (h : Hw) (i : Nat) (d : Word32) (p : Bool) : (h.raiseWith i d p).ptable = h.ptable := rfl
@[simp] theorem raiseWith_waitSets (h : Hw) (i : Nat) (d : Word32) (p : Bool) : (h.raiseWith i d p).waitSets = h.waitSets := rfl
@[simp] theorem raiseWith_flash (h : Hw) (i : Nat) (d : Word32) (p : Bool) : (h.raiseWith i d p).flash = h.flash := rfl
@[simp] theorem raiseWith_flashHeld (h : Hw) (i : Nat) (d : Word32) (p : Bool) : (h.raiseWith i d p).flashHeld = h.flashHeld := rfl
@[simp] theorem raiseWith_trusses (h : Hw) (i : Nat) (d : Word32) (p : Bool) : (h.raiseWith i d p).trusses = h.trusses := rfl
@[simp] theorem raiseWith_banks (h : Hw) (i : Nat) (d : Word32) (p : Bool) : (h.raiseWith i d p).banks = h.banks := rfl
@[simp] theorem raiseWith_qpairs (h : Hw) (i : Nat) (d : Word32) (p : Bool) : (h.raiseWith i d p).qpairs = h.qpairs := rfl
@[simp] theorem raiseWith_seq (h : Hw) (i : Nat) (d : Word32) (p : Bool) : (h.raiseWith i d p).seq = h.seq := rfl
@[simp] theorem raiseWith_conf (h : Hw) (i : Nat) (d : Word32) (p : Bool) : (h.raiseWith i d p).conf = h.conf := rfl
@[simp] theorem raiseWith_done (h : Hw) (i : Nat) (d : Word32) (p : Bool) : (h.raiseWith i d p).done = h.done := rfl
@[simp] theorem raiseWith_portWords (h : Hw) (i : Nat) (d : Word32) (p : Bool) : (h.raiseWith i d p).portWords = h.portWords := rfl
@[simp] theorem raiseWith_bridgeErr (h : Hw) (i : Nat) (d : Word32) (p : Bool) : (h.raiseWith i d p).bridgeErr = h.bridgeErr := rfl
@[simp] theorem raiseWith_probeIn (h : Hw) (i : Nat) (d : Word32) (p : Bool) : (h.raiseWith i d p).probeIn = h.probeIn := rfl
@[simp] theorem raiseWith_trace (h : Hw) (i : Nat) (d : Word32) (p : Bool) : (h.raiseWith i d p).trace = h.trace := rfl
@[simp] theorem raiseWith_snap (h : Hw) (i : Nat) (d : Word32) (p : Bool) : (h.raiseWith i d p).snap = h.snap := rfl
@[simp] theorem raiseWith_time (h : Hw) (i : Nat) (d : Word32) (p : Bool) : (h.raiseWith i d p).time = h.time := rfl
@[simp] theorem raiseWith_calls (h : Hw) (i : Nat) (d : Word32) (p : Bool) : (h.raiseWith i d p).calls = h.calls := rfl
@[simp] theorem raiseWith_acq (h : Hw) (i : Nat) (d : Word32) (p : Bool) : (h.raiseWith i d p).acq = h.acq := rfl
@[simp] theorem raiseWith_bme (h : Hw) (i : Nat) (d : Word32) (p : Bool) : (h.raiseWith i d p).bme = h.bme := rfl
@[simp] theorem raiseWith_host (h : Hw) (i : Nat) (d : Word32) (p : Bool) : (h.raiseWith i d p).host = h.host := rfl
@[simp] theorem raiseWith_power (h : Hw) (i : Nat) (d : Word32) (p : Bool) : (h.raiseWith i d p).power = h.power := rfl
@[simp] theorem raiseWith_fw (h : Hw) (i : Nat) (d : Word32) (p : Bool) : (h.raiseWith i d p).fw = h.fw := rfl
@[simp] theorem raiseWith_serial (h : Hw) (i : Nat) (d : Word32) (p : Bool) : (h.raiseWith i d p).serial = h.serial := rfl
@[simp] theorem raiseWith_ports (h : Hw) (i : Nat) (d : Word32) (p : Bool) : (h.raiseWith i d p).ports = h.ports := rfl
@[simp] theorem raiseWith_img (h : Hw) (i : Nat) (d : Word32) (p : Bool) : (h.raiseWith i d p).img = h.img := rfl
@[simp] theorem raiseWith_calib (h : Hw) (i : Nat) (d : Word32) (p : Bool) : (h.raiseWith i d p).calib = h.calib := rfl
@[simp] theorem raiseWith_pool (h : Hw) (i : Nat) (d : Word32) (p : Bool) : (h.raiseWith i d p).pool = h.pool := rfl
@[simp] theorem raiseWith_scrubSince (h : Hw) (i : Nat) (d : Word32) (p : Bool) : (h.raiseWith i d p).scrubSince = h.scrubSince := rfl
@[simp] theorem raiseWith_scrubSlots (h : Hw) (i : Nat) (d : Word32) (p : Bool) : (h.raiseWith i d p).scrubSlots = h.scrubSlots := rfl
@[simp] theorem raiseWith_ioOut (h : Hw) (i : Nat) (d : Word32) (p : Bool) : (h.raiseWith i d p).ioOut = h.ioOut := rfl
@[simp] theorem raiseWith_ioIn (h : Hw) (i : Nat) (d : Word32) (p : Bool) : (h.raiseWith i d p).ioIn = h.ioIn := rfl
@[simp] theorem raiseWith_refreshAhead (h : Hw) (i : Nat) (d : Word32) (p : Bool) : (h.raiseWith i d p).refreshAhead = h.refreshAhead := rfl
@[simp] theorem raiseWith_refreshLate (h : Hw) (i : Nat) (d : Word32) (p : Bool) : (h.raiseWith i d p).refreshLate = h.refreshLate := rfl
@[simp] theorem raiseWith_farWb (h : Hw) (i : Nat) (d : Word32) (p : Bool) : (h.raiseWith i d p).farWb = h.farWb := rfl
@[simp] theorem raiseWith_out (h : Hw) (i : Nat) (d : Word32) (p : Bool) : (h.raiseWith i d p).out = h.out := rfl

/-! ## What the changed part reads as -/

theorem reg_setReg (h : Hw) (a b : Nat) (v : Word32) :
    (h.setReg a v).reg b = if b = a then v else h.reg b := by
  simp only [Hw.reg, Hw.setReg]
  by_cases hb : b = a
  · subst hb; simp
  · rw [Store.get_set_ne _ _ _ _ hb, if_neg hb]

@[simp] theorem reg_setReg_same (h : Hw) (a : Nat) (v : Word32) : (h.setReg a v).reg a = v := by simp [reg_setReg]

@[simp] theorem reg_emit (h : Hw) (o : Out) (a : Nat) : (h.emit o).reg a = h.reg a := rfl
@[simp] theorem reg_raiseWith (h : Hw) (i : Nat) (d : Word32) (p : Bool) (a : Nat) : (h.raiseWith i d p).reg a = h.reg a := rfl
@[simp] theorem emit_out (h : Hw) (o : Out) : (h.emit o).out = h.out ++ [o] := rfl

theorem truss_setTruss (h : Hw) (a b : Nat) (v : Truss) :
    (h.setTruss a v).truss b = if b = a then v else h.truss b := by simp [Hw.truss, Hw.setTruss, Store.get_set]
theorem bank_setBank (h : Hw) (a b : Nat) (v : Bank) :
    (h.setBank a v).bank b = if b = a then v else h.bank b := by simp [Hw.bank, Hw.setBank, Store.get_set]
theorem qpair_setQpair (h : Hw) (a b : Nat) (v : QPair) :
    (h.setQpair a v).qpair b = if b = a then v else h.qpair b := by simp [Hw.qpair, Hw.setQpair, Store.get_set]
theorem port_setPort (h : Hw) (a b : Nat) (v : EavePort) :
    (h.setPort a v).port b = if b = a then v else h.port b := by simp [Hw.port, Hw.setPort, Store.get_set]
theorem loft_setLoft (h : Hw) (t a : Nat) (v : Word78) :
    (h.setLoft t a v).loft t a = v := by simp [Hw.loft, Hw.setLoft]

@[simp] theorem truss_setTruss_same (h : Hw) (a : Nat) (v : Truss) : (h.setTruss a v).truss a = v := by simp [truss_setTruss]
@[simp] theorem bank_setBank_same (h : Hw) (a : Nat) (v : Bank) : (h.setBank a v).bank a = v := by simp [bank_setBank]
@[simp] theorem qpair_setQpair_same (h : Hw) (a : Nat) (v : QPair) : (h.setQpair a v).qpair a = v := by simp [qpair_setQpair]
@[simp] theorem port_setPort_same (h : Hw) (a : Nat) (v : EavePort) : (h.setPort a v).port a = v := by simp [port_setPort]

/-- Words set to zero in turn. -/
theorem reg_clearRegs (h : Hw) (as : List Nat) (b : Nat) :
    (h.clearRegs as).reg b = if b ∈ as then 0 else h.reg b := by
  induction as generalizing h with
  | nil => simp [Hw.clearRegs]
  | cons a as ih =>
    have : h.clearRegs (a :: as) = (h.setReg a 0).clearRegs as := rfl
    rw [this, ih, reg_setReg]
    by_cases hb : b = a <;> simp [hb]

/-- Setting words to zero changes nothing but registers. -/
theorem clearRegs_only (h : Hw) (as : List Nat) : h.clearRegs as = { h with regs := (h.clearRegs as).regs } := by
  induction as generalizing h with
  | nil => rfl
  | cons a as ih =>
    have : h.clearRegs (a :: as) = (h.setReg a 0).clearRegs as := rfl
    rw [this, ih]; rfl

/-- The registers keep their canonical form. -/
theorem regs_wf_setReg (h : Hw) (a : Nat) (v : Word32) (w : Store.wfBy (regReset h.stepping) h.regs = true) :
    Store.wfBy (regReset h.stepping) (h.setReg a v).regs = true := Store.wfBy_set (regReset h.stepping) a v w

end Sys2Proof.Machine
end

