-- ==== Sys2Proof/Laws/Exec.lean ====
section
/-!
SUPPORT. What every command has in common: it acts on everything but the queue, and stops only when it names a part that
does not exist.
-/

namespace Sys2Proof.Machine

/-- The effect of a command on everything but the queue. -/
def effect : Instr → Hw → Hw
  | .powerOn straps intact, h => execPowerOn h straps intact
  | .inputUndervoltage, h => execInputUndervoltage h
  | .inputOvervoltage, h => execInputOvervoltage h
  | .brownOut, h => execBrownOut h
  | .perstAssert, h => execPerstAssert h
  | .perstRelease, h => execPerstRelease h
  | .hotReset, h => execHotReset h
  | .busMasterEnable, h => execBusMasterEnable h
  | .descBmeTimeout slot, h => execDescBmeTimeout h slot
  | .configRequest off wr, h => execConfigRequest h off wr
  | .firmwareReady bootMs tapFs, h => execFirmwareReady h bootMs tapFs
  | .thermalShutdown, h => execThermalShutdown h
  | .junctionHot, h => execJunctionHot h
  | .throttleRecover, h => execThrottleRecover h
  | .slotWrite slot off bytes, h => execSlotWrite h slot off bytes
  | .mbxRing slot, h => execMbxRing h slot
  | .mbxTake io, h => execMbxTake h io
  | .heldForward slot io, h => execHeldForward h slot io
  | .heldCommandTimeout slot, h => execHeldCommandTimeout h slot
  | .discoverySettled, h => execDiscoverySettled h
  | .identify src io, h => execIdentify h src io
  | .status src io, h => execStatus h src io
  | .portStatus src io, h => execPortStatus h src io
  | .imageBegin src io, h => execImageBegin h src io
  | .imageBlock src io, h => execImageBlock h src io
  | .imageCommit src io, h => execImageCommit h src io
  | .imageStatus src io, h => execImageStatus h src io
  | .loadTimeout, h => execLoadTimeout h
  | .imageApply, h => execImageApply h
  | .bayIsolation, h => execBayIsolation h
  | .bayWriteDone, h => execBayWriteDone h
  | .bayInitStart, h => execBayInitStart h
  | .bayInitDone, h => execBayInitDone h
  | .bayActivation, h => execBayActivation h
  | .configForm src io f, h => execConfigForm h src io f
  | .configLeave src io, h => execConfigLeave h src io
  | .runStart src io, h => execRunStart h src io
  | .runHalt src io, h => execRunHalt h src io
  | .bar2Map src io, h => execBar2Map h src io
  | .memRead src io, h => execMemRead h src io
  | .memWrite src io, h => execMemWrite h src io
  | .poolAlloc src io, h => execPoolAlloc h src io
  | .poolFree src io, h => execPoolFree h src io
  | .snapTake src io, h => execSnapTake h src io
  | .snapRestore src io, h => execSnapRestore h src io
  | .readback src io, h => execReadback h src io
  | .linkRetrain src io, h => execLinkRetrain h src io
  | .linkEnable src io, h => execLinkEnable h src io
  | .timeStatus src io, h => execTimeStatus h src io
  | .timePhase src io, h => execTimePhase h src io
  | .timeSet src io, h => execTimeSet h src io
  | .callCancel src io, h => execCallCancel h src io
  | .callStatus src io, h => execCallStatus h src io
  | .acqArm src io, h => execAcqArm h src io
  | .acqStop src io, h => execAcqStop h src io
  | .acqStatus src io, h => execAcqStatus h src io
  | .powerState src io, h => execPowerState h src io
  | .levelReq src io, h => execLevelReq h src io
  | .padRelease src io, h => execPadRelease h src io
  | .eventRead src io, h => execEventRead h src io
  | .eventClear src io, h => execEventClear h src io
  | .logRead src io, h => execLogRead h src io
  | .logAck src io, h => execLogAck h src io
  | .fwBlock src io, h => execFwBlock h src io
  | .fwVerify src io, h => execFwVerify h src io
  | .fwActivate src io, h => execFwActivate h src io
  | .fwStatus src io, h => execFwStatus h src io
  | .accessChallenge src io, h => execAccessChallenge h src io
  | .accessResponse src io, h => execAccessResponse h src io
  | .accessClose src io, h => execAccessClose h src io
  | .regRead src io, h => execRegRead h src io
  | .regWrite src io, h => execRegWrite h src io
  | .nonceExpiry, h => execNonceExpiry h
  | .lockoutEnd, h => execLockoutEnd h
  | .sessionExpiry, h => execSessionExpiry h
  | .fwSwitch, h => execFwSwitch h
  | .fwNewReady ok, h => execFwNewReady h ok
  | .registerWrite loc v, h => execRegisterWrite h loc v
  | .clkSrcWrite v, h => execClkSrcWrite h v
  | .bankOwnerWrite d j v, h => execBankOwnerWrite h d j v
  | .scrOwnerWrite k v, h => execScrOwnerWrite h k v
  | .ownerHandover ref, h => execOwnerHandover h ref
  | .trusscfgClearCounts d v, h => execTrusscfgClearCounts h d v
  | .bankClearCounts d v, h => execBankClearCounts h d v
  | .farClearCounts d v, h => execFarClearCounts h d v
  | .scrubClearCounts d v, h => execScrubClearCounts h d v
  | .callsClearCounts v, h => execCallsClearCounts h v
  | .probeClearCounts v, h => execProbeClearCounts h v
  | .traceClearCounts v, h => execTraceClearCounts h v
  | .timeClearCounts v, h => execTimeClearCounts h v
  | .portRetrain p v, h => execPortRetrain h p v
  | .portEnableWrite p v, h => execPortEnableWrite h p v
  | .sleepCtrlWrite p v, h => execSleepCtrlWrite h p v
  | .traceEnWrite v, h => execTraceEnWrite h v
  | .traceSinkCfgWrite o v, h => execTraceSinkCfgWrite h o v
  | .syncReq v, h => execSyncReq h v
  | .acqCtrlStop v, h => execAcqCtrlStop h v
  | .teRearm k o v, h => execTeRearm h k o v
  | .captureFlush k v, h => execCaptureFlush h k v
  | .captureRecordRead k, h => execCaptureRecordRead h k
  | .cancelWrite v, h => execCancelWrite h v
  | .dispHeadWrite w v, h => execDispHeadWrite h w v
  | .compTailWrite w v, h => execCompTailWrite h w v
  | .logValidWrite k v, h => execLogValidWrite h k v
  | .poisonStatWrite v, h => execPoisonStatWrite h v
  | .accessKeyWrite k v, h => execAccessKeyWrite h k v
  | .vselWrite b v, h => execVselWrite h b v
  | .vccoReady b, h => execVccoReady h b
  | .bar2Read off len, h => execBar2Read h off len
  | .bar2Write off bytes, h => execBar2Write h off bytes
  | .ridgeTimeout acc, h => execRidgeTimeout h acc
  | .scratchTestSlice k ok, h => execScratchTestSlice h k ok
  | .mpLockstepMismatch attributed, h => execMpLockstepMismatch h attributed
  | .frameTick, h => execFrameTick h
  | .callRelease, h => execCallRelease h
  | .eval d t i, h => execEval h d t i
  | .loft d t i, h => execLoft h d t i
  | .port d t i, h => execPort h d t i
  | .nop d t i, h => execNop h d t i
  | .keep d t i, h => execKeep h d t i
  | .mark d t i, h => execMark h d t i
  | .loftRead d t, h => execLoftRead h d t
  | .loftReadDeliver d t, h => execLoftReadDeliver h d t
  | .loftWrite d t, h => execLoftWrite h d t
  | .loftRmwCommit d t, h => execLoftRmwCommit h d t
  | .loftWriteback d t, h => execLoftWriteback h d t
  | .fmqPush d q, h => execFmqPush h d q
  | .fmqPull d q, h => execFmqPull h d q
  | .fmqWaitPull d q, h => execFmqWaitPull h d q
  | .ioOut d n, h => execIoOut h d n
  | .ioIn d n, h => execIoIn h d n
  | .ioPathDeliver samples, h => execIoPathDeliver h samples
  | .callArg d n, h => execCallArg h d n
  | .callPull d n, h => execCallPull h d n
  | .callWaitPull d n, h => execCallWaitPull h d n
  | .probeWord d n, h => execProbeWord h d n
  | .bankRead d j, h => execBankRead h d j
  | .bankReadDeliver d j, h => execBankReadDeliver h d j
  | .bankWrite d j, h => execBankWrite h d j
  | .bankMaskedWrite d j, h => execBankMaskedWrite h d j
  | .bankMaskedCommit d j, h => execBankMaskedCommit h d j
  | .bankWriteback d j, h => execBankWriteback h d j
  | .fabricDelivery p, h => execFabricDelivery h p
  | .devCapture, h => execDevCapture h
  | .waitTest d, h => execWaitTest h d
  | .stallRelease, h => execStallRelease h
  | .waitLimitReached, h => execWaitLimitReached h
  | .droopDetect d0 d1, h => execDroopDetect h d0 d1
  | .frameGo origin arg, h => execFrameGo h origin arg
  | .stallReq origin arg, h => execStallReq h origin arg
  | .release origin arg, h => execRelease h origin arg
  | .stretch origin arg, h => execStretch h origin arg
  | .haltNow origin arg, h => execHaltNow h origin arg
  | .haltAtEnd origin arg, h => execHaltAtEnd h origin arg
  | .xtrig origin arg, h => execXtrig h origin arg
  | .throttle origin arg, h => execThrottle h origin arg
  | .runCtrl origin arg, h => execRunCtrl h origin arg
  | .levelLocked gapUs, h => execLevelLocked h gapUs
  | .levelLockTimeout, h => execLevelLockTimeout h
  | .levelReturnLocked ok, h => execLevelReturnLocked h ok
  | .fmqReqRead Q, h => execFmqReqRead h Q
  | .fmqReqWrite Q, h => execFmqReqWrite h Q
  | .fmqReqMaskedWrite Q, h => execFmqReqMaskedWrite h Q
  | .fmqResponseComplete Q, h => execFmqResponseComplete h Q
  | .farWriteback d a, h => execFarWriteback h d a
  | .refresh c, h => execRefresh h (c % 2) (c / 2)
  | .forcedRefresh c pairs, h => execForcedRefresh h (c % 2) (c / 2) pairs
  | .scrubSlot d, h => execScrubSlot h d
  | .callRaise, h => execCallRaise h
  | .callDispatch w, h => execCallDispatch h w
  | .completionRecord w rec, h => execCompletionRecord h w rec
  | .callDeliver slot, h => execCallDeliver h slot
  | .echo slot, h => execEcho h slot
  | .farRead slot, h => execFarRead h slot
  | .farWrite slot, h => execFarWrite h slot
  | .timeRead slot, h => execTimeRead h slot
  | .wordSample k v, h => execWordSample h k v
  | .triggerEval, h => execTriggerEval h
  | .triggerTimerExpiry k, h => execTriggerTimerExpiry h k
  | .acqSegmentArm, h => execAcqSegmentArm h
  | .acqWrite, h => execAcqWrite h
  | .segmentEnd, h => execSegmentEnd h
  | .autoTrigger, h => execAutoTrigger h
  | .tracePacket, h => execTracePacket h
  | .traceSinkWrite, h => execTraceSinkWrite h
  | .snapDrainDone, h => execSnapDrainDone h
  | .portStart p, h => execPortStart h p
  | .signalDetectRise p lanes, h => execSignalDetectRise h p lanes
  | .signalDetectFall p lanes, h => execSignalDetectFall h p lanes
  | .coeffBlock p l head word accept req, h => execCoeffBlock h p l (word ++ head) accept req
  | .trainTimeout p, h => execTrainTimeout h p
  | .alignTimeout p, h => execAlignTimeout h p
  | .calibrateTimeout p, h => execCalibrateTimeout h p
  | .retryWaitEnd p, h => execRetryWaitEnd h p
  | .linkId p blks, h => execLinkId h p blks
  | .marker p heads words part, h => execMarker h p (setBlocks heads words) part
  | .markerDue p part, h => execMarkerDue h p part
  | .markerTimeout p, h => execMarkerTimeout h p
  | .dataBlockSet p blks, h => execDataBlockSet h p blks
  | .slotGroupDeliver p, h => execSlotGroupDeliver h p
  | .capture p blks, h => execCapture h p blks
  | .msg p blks meaning, h => execMsg h p blks meaning
  | .ack p blks, h => execAck h p blks
  | .msgResend p lost, h => execMsgResend h p lost
  | .spareReq p blks, h => execSpareReq h p blks
  | .spareComparePass p, h => execSpareComparePass h p
  | .spareDone p blks, h => execSpareDone h p blks
  | .spareTimeout p, h => execSpareTimeout h p
  | .laneQuiet p blks, h => execLaneQuiet h p blks
  | .laneWake p lanes, h => execLaneWake h p lanes
  | .ptpMessage m, h => execPtpMessage h m
  | .ppsEdge sub, h => execPpsEdge h sub
  | .ppsTimeout, h => execPpsTimeout h
  | .announceTimeout d, h => execAnnounceTimeout h d
  | .primaryReturn, h => execPrimaryReturn h
  | .phaseNormal, h => execPhaseNormal h
  | .ref10mLoss, h => execRef10mLoss h
  | .ref10mReturn, h => execRef10mReturn h
  | .ppsOut, h => execPpsOut h
  | .timeEventFire k, h => execTimeEventFire h k
  | .captureEdge k falling sub, h => execCaptureEdge h k falling sub
  | .idleTimer, h => execIdleTimer h
  | .dozeTimer, h => execDozeTimer h
  | .sleepTimer, h => execSleepTimer h
  | .enterIdle, h => execEnterIdle h
  | .enterDoze cut, h => execEnterDoze h cut
  | .enterSleep cut, h => execEnterSleep h cut
  | .pcieWake, h => execPcieWake h
  | .wakePin, h => execWakePin h
  | .wakeAlarm, h => execWakeAlarm h
  | .wakeFromSleep f, h => execWakeFromSleep h f
  | .wakeFromDoze f, h => execWakeFromDoze h f
  | .eventRaise, h => execEventRaise h
  | .frameGoSend, h => execFrameGoSend h
  | .blockSetSend p part, h => execBlockSetSend h p part
  | .hostReadTimeout slot, h => execHostReadTimeout h slot
  | .wordChannelFrameLock k, h => execWordChannelFrameLock h k
  | .wordChannelLockLoss k, h => execWordChannelLockLoss h k
  | .thermalRestart, h => execThermalRestart h
  | .uartRecoveryImage bytes, h => execUartRecoveryImage h bytes

theorem perform_ok {i : Instr} (f : Hw → Hw) (s : State) (w : i.wellFormed = true) :
    perform i f s = .next { s with hw := f s.hw } := if_pos w

theorem perform_bad {i : Instr} (f : Hw → Hw) (s : State) (w : i.wellFormed = false) :
    perform i f s = .fault .noSuchPart := if_neg (by simp [w])

/-- Every command is `perform` of its effect. -/
theorem exec_perform (i : Instr) (s : State) : exec i s = perform i (effect i) s := by cases i <;> rfl

theorem exec_ok {i : Instr} (w : i.wellFormed = true) (s : State) : exec i s = .next { s with hw := effect i s.hw } :=
  (exec_perform i s).trans (perform_ok _ s w)

theorem exec_bad {i : Instr} (w : i.wellFormed = false) (s : State) : exec i s = .fault .noSuchPart :=
  (exec_perform i s).trans (perform_bad _ s w)

/-- How a statement that a command completes is proved. -/
theorem does_of {i : Instr} {s : State} {P : Hw → Prop} (w : i.wellFormed = true) (p : P (effect i s.hw)) : Does i s P :=
  ⟨_, exec_ok w s, rfl, p⟩

end Sys2Proof.Machine
end

