-- ==== Sys2Proof/Laws/Word.lean ====
section
/-!
SUPPORT. Laws of the bit-field helpers: what a field or a bit reads as after one is set, and byte strings (R4).
-/

namespace Sys2Proof

theorem getLsbD_pow (w n m : Nat) (hm : m < w) : (BitVec.ofNat w (2 ^ n)).getLsbD m = decide (n = m) := by
  rw [BitVec.getLsbD_ofNat, Nat.testBit_two_pow]
  simp [hm]

theorem bit_setBit {w : Nat} (v : BitVec w) (n m : Nat) (b : Bool) (hn : n < w) :
    bit (setBit v n b) m = if m = n then b else bit v m := by
  unfold bit setBit
  by_cases hm : m < w
  · cases b
    · simp only [Bool.false_eq_true, if_false, BitVec.getLsbD_and, BitVec.getLsbD_not, hm, decide_true, Bool.true_and,
        getLsbD_pow _ _ _ hm]
      by_cases h : m = n
      · simp [h]
      · simp [h, show ¬ n = m from fun e => h e.symm]
    · simp only [if_true, BitVec.getLsbD_or, getLsbD_pow _ _ _ hm]
      by_cases h : m = n
      · simp [h]
      · simp [h, show ¬ n = m from fun e => h e.symm]
  · rw [BitVec.getLsbD_of_ge _ _ (by omega), if_neg (by omega), BitVec.getLsbD_of_ge _ _ (by omega)]

/-- Bit n after a field is set: the field's bits are those of the value, the others stay. -/
theorem bit_setFld {w : Nat} (v : BitVec w) (hi lo x n : Nat) (hn : n < w) :
    bit (setFld v hi lo x) n = if lo ≤ n ∧ n < lo + (hi + 1 - lo) then x.testBit (n - lo) else bit v n := by
  unfold bit setFld
  simp only [BitVec.getLsbD_or, BitVec.getLsbD_and, BitVec.getLsbD_not, BitVec.getLsbD_ofNat, hn, decide_true, Bool.true_and,
    Nat.testBit_mul_two_pow, Nat.testBit_two_pow_sub_one]
  by_cases h1 : lo ≤ n
  · by_cases h2 : n < lo + (hi + 1 - lo)
    · simp [h1, h2, show n - lo < hi + 1 - lo by omega]
    · simp [h1, h2, show ¬ n - lo < hi + 1 - lo by omega]
  · simp [h1]

theorem fld_testBit {w : Nat} (v : BitVec w) (hi lo n : Nat) :
    (fld v hi lo).testBit n = (decide (n < hi + 1 - lo) && bit v (lo + n)) := by
  unfold fld bit
  rw [← BitVec.getLsbD, BitVec.getLsbD_extractLsb']

/-- A field reads what was set in it. -/
theorem fld_setFld {w : Nat} (v : BitVec w) (hi lo x : Nat) (hw : hi < w) :
    fld (setFld v hi lo x) hi lo = x % 2 ^ (hi + 1 - lo) := by
  apply Nat.eq_of_testBit_eq
  intro n
  rw [fld_testBit, Nat.testBit_mod_two_pow]
  by_cases h : n < hi + 1 - lo
  · rw [bit_setFld _ _ _ _ _ (by omega)]
    simp [h]
  · simp [h]

/-- A field reads the same when another is set. -/
theorem fld_setFld_ne {w : Nat} (v : BitVec w) (hi lo hi' lo' x : Nat) (hw : hi < w) (hd : hi < lo' ∨ hi' < lo) :
    fld (setFld v hi' lo' x) hi lo = fld v hi lo := by
  apply Nat.eq_of_testBit_eq
  intro n
  rw [fld_testBit, fld_testBit]
  by_cases h : n < hi + 1 - lo
  · rw [bit_setFld _ _ _ _ _ (by omega), if_neg (by omega)]
  · simp [h]

theorem fld_lt {w : Nat} (v : BitVec w) (hi lo : Nat) : fld v hi lo < 2 ^ (hi + 1 - lo) := (v.extractLsb' lo _).isLt

theorem bytesOf_length (n v : Nat) : (bytesOf n v).length = n := by simp [bytesOf]

/-- The number that the little-endian bytes of v spell (R4). -/
theorem ofBytes_bytesOf (n v : Nat) : ofBytes (bytesOf n v) = v % 256 ^ n := by
  induction n generalizing v with
  | zero => simp [bytesOf, ofBytes, Nat.mod_one]
  | succ n ih =>
    have h : bytesOf (n + 1) v = BitVec.ofNat 8 v :: bytesOf n (v / 256) := by
      simp only [bytesOf, List.range_succ_eq_map, List.map_cons, List.map_map, Nat.pow_zero, Nat.div_one]
      congr 1
      apply List.map_congr_left
      intro i _
      simp [Nat.pow_succ', Nat.div_div_eq_div_mul]
    rw [h]
    simp only [ofBytes, List.foldr_cons] at ih ⊢
    rw [ih, BitVec.toNat_ofNat, Nat.pow_succ' (n := n), Nat.mod_mul]

end Sys2Proof
end

