-- ==== Sys2Proof/Laws/Slot.lean ====
section
/-!
SUPPORT. Mailbox slots: what is stored in a slot is what it reads as; the completion of a command; and the frame in which a
command of a slot runs (R439, R453 to R455).
-/

namespace Sys2Proof.Machine

/-- One byte stored in each step, from key n on: a key reads the byte stored there, or what it read before. -/
theorem get_foldl_set (bs : List Byte) (n a : Nat) (m : Store Byte) (b : Nat) :
    Store.get 0 ((bs.zipIdx n).foldl (fun m x => Store.set 0 m (a + x.2) x.1) m) b =
      if a + n ≤ b ∧ b < a + n + bs.length then bs.getD (b - (a + n)) 0 else Store.get 0 m b := by
  induction bs generalizing n m with
  | nil => rw [if_neg (by simp)]; rfl
  | cons x bs ih =>
    rw [List.zipIdx_cons, List.foldl_cons, ih]
    simp only [List.length_cons]
    by_cases h1 : a + (n + 1) ≤ b ∧ b < a + (n + 1) + bs.length
    · rw [if_pos h1, if_pos (by omega)]
      obtain ⟨k, hk⟩ : ∃ k, b - (a + n) = k + 1 := ⟨b - (a + n) - 1, by omega⟩
      rw [hk, show b - (a + (n + 1)) = k by omega]
      rfl
    · rw [if_neg h1]
      by_cases h2 : b = a + n
      · subst h2
        rw [Store.get_set_same, if_pos (by omega)]
        simp
      · rw [Store.get_set_ne _ _ _ _ h2, if_neg (by omega)]

/-- Bytes stored in a slot are what it reads as; every other byte is unchanged. -/
theorem slotByte_setSlotBytes (h : Hw) (s o : Nat) (bs : List Byte) (s' o' : Nat) :
    (h.setSlotBytes s o bs).slotByte s' o' =
      if 256 * s + o ≤ 256 * s' + o' ∧ 256 * s' + o' < 256 * s + o + bs.length
      then bs.getD (256 * s' + o' - (256 * s + o)) 0 else h.slotByte s' o' := by
  have := get_foldl_set bs 0 (256 * s + o) h.host.slots (256 * s' + o')
  simpa [Hw.slotByte, Hw.setSlotBytes] using this

theorem setSlotBytes_only (h : Hw) (s o : Nat) (bs : List Byte) :
    h.setSlotBytes s o bs = { h with host := { h.host with slots := (h.setSlotBytes s o bs).host.slots } } := rfl

/-- Signalling a vector changes only the pending bits and what has been sent. -/
theorem msix_only (h : Hw) (v : Nat) :
    h.msix v = { h with host := { h.host with pba := (h.msix v).host.pba }, out := (h.msix v).out } := by
  unfold Hw.msix
  split <;> rfl

@[simp] theorem msix_slotByte (h : Hw) (v s o : Nat) : (h.msix v).slotByte s o = h.slotByte s o := by
  rw [msix_only]; rfl

theorem slotField_congr {h g : Hw} {s o n : Nat} (e : ∀ i, i < n → g.slotByte s (o + i) = h.slotByte s (o + i)) :
    g.slotField s o n = h.slotField s o n := by
  unfold Hw.slotField
  congr 1
  apply List.map_congr_left
  intro i hi
  exact e i (List.mem_range.1 hi)

/-- Bytes 8 to 15 of a completed slot, before the vector is signalled. -/
def closing (h : Hw) (s status replyLen : Nat) : Hw :=
  h.setSlotBytes s 8 ([BitVec.ofNat 8 status, 5, BitVec.ofNat 8 replyLen, 0] ++ bytesOf 4 (h.slotField s 0xC 4 + 1))

theorem closeSlot_slotByte (h : Hw) (s status n s' o : Nat) :
    (h.closeSlot s status n).slotByte s' o = (closing h s status n).slotByte s' o := by
  unfold Hw.closeSlot
  simp only []
  split
  · rw [msix_slotByte]; rfl
  · rfl

theorem closeSlot_only (h : Hw) (s status n : Nat) :
    h.closeSlot s status n = { h with
      host := { h.host with slots := (h.closeSlot s status n).host.slots, pba := (h.closeSlot s status n).host.pba }
      out := (h.closeSlot s status n).out } := by
  unfold Hw.closeSlot
  simp only []
  split
  · rw [msix_only]; rfl
  · rfl

theorem ofBytes_range_getD (bs : List Byte) (n : Nat) (hn : n = bs.length) :
    ofBytes ((List.range n).map fun i => bs.getD i 0) = ofBytes bs := by
  subst hn
  congr 1
  apply List.ext_getElem
  · simp
  · intro i h1 h2
    simp [List.getD_eq_getElem?_getD, List.getElem?_eq_getElem h2]

/-- A completion (R439): STATE, STATUS, the reply's length, PAYLOAD and SEQ; no other slot, and nothing else but the vector. -/
theorem completeSlot_done (h : Hw) (k status : Nat) (reply : List Byte) (hs : status < 256) (hr : reply.length ≤ 224) :
    SlotDone h (h.completeSlot k status reply) k status reply := by
  have ht : reply.take 224 = reply := List.take_of_length_le hr
  have key : ∀ o, (h.completeSlot k status reply).slotByte k o =
      (closing (h.setSlotBytes k 0x20 (reply ++ List.replicate (224 - reply.length) 0)) k status reply.length).slotByte k o := by
    intro o
    unfold Hw.completeSlot
    simp only [ht]
    exact closeSlot_slotByte _ _ _ _ _ _
  have hseq : (h.setSlotBytes k 0x20 (reply ++ List.replicate (224 - reply.length) 0)).slotField k 0xC 4 =
      h.slotField k 0xC 4 := by
    apply slotField_congr
    intro i hi
    rw [slotByte_setSlotBytes, if_neg (by omega)]
  have low : ∀ i, i < 8 → (h.completeSlot k status reply).slotByte k (8 + i) =
      ([BitVec.ofNat 8 status, 5, BitVec.ofNat 8 reply.length, 0] ++ bytesOf 4 (h.slotField k 0xC 4 + 1)).getD i 0 := by
    intro i hi
    rw [key, closing, slotByte_setSlotBytes, if_pos (by simp [bytesOf_length]; omega), hseq]
    congr 1
    omega
  refine ⟨?_, ?_, ?_, ?_, ?_⟩
  · rw [Hw.slotState, show (9 : Nat) = 8 + 1 from rfl, low 1 (by omega)]; rfl
  · have := low 0 (by omega)
    rw [Nat.add_zero] at this
    rw [this]
    simp only [List.cons_append, List.getD_cons_zero, BitVec.toNat_ofNat]
    omega
  · have := low 2 (by omega)
    rw [this]
    simp only [List.cons_append, List.getD_cons_succ, List.getD_cons_zero, BitVec.toNat_ofNat]
    omega
  · intro i hi
    rw [key, closing, slotByte_setSlotBytes, if_neg (by simp [bytesOf_length]; omega), slotByte_setSlotBytes,
      if_pos (by simp; omega), show 256 * k + (0x20 + i) - (256 * k + 0x20) = i by omega]
    simp only [List.getD_eq_getElem?_getD, List.getElem?_append]
    split
    · rfl
    · rename_i h1
      rw [List.getElem?_replicate, if_pos (by omega), List.getElem?_eq_none (by omega)]
      rfl
  · generalize hq : h.slotField k 0xC 4 + 1 = q at low
    have : (h.completeSlot k status reply).slotField k 0xC 4 = ofBytes (bytesOf 4 q) := by
      rw [← ofBytes_range_getD (bytesOf 4 q) 4 (bytesOf_length 4 _).symm]
      unfold Hw.slotField
      congr 1
      apply List.map_congr_left
      intro i hi
      have := List.mem_range.1 hi
      rw [show 0xC + i = 8 + (4 + i) by omega, low (4 + i) (by omega), List.getD_append_right _ _ _ _ (by simp)]
      simp
    rw [this, ofBytes_bytesOf]
    norm_num

theorem completeSlot_only (h : Hw) (k status : Nat) (reply : List Byte) :
    h.completeSlot k status reply = { h with
      host := { h.host with
        slots := (h.completeSlot k status reply).host.slots, pba := (h.completeSlot k status reply).host.pba }
      out := (h.completeSlot k status reply).out } := by
  unfold Hw.completeSlot
  simp only []
  rw [closeSlot_only]
  rfl

theorem completeSlot_slotByte_ne (h : Hw) (k status : Nat) (reply : List Byte) {j o : Nat} (hj : j ≠ k) (ho : o < 256) :
    (h.completeSlot k status reply).slotByte j o = h.slotByte j o := by
  unfold Hw.completeSlot
  simp only []
  have hl : (reply.take 224).length ≤ 224 := by simp
  rw [closeSlot_slotByte, closing, slotByte_setSlotBytes, if_neg (by simp [bytesOf_length]; omega), slotByte_setSlotBytes,
    if_neg (by simp only [List.length_append, List.length_replicate]; omega)]

theorem writeOut_only (h : Hw) (ds : List Desc) (bs : List Byte) : h.writeOut ds bs = { h with out := (h.writeOut ds bs).out } := by
  induction ds generalizing h bs with
  | nil => rfl
  | cons d ds ih =>
    unfold Hw.writeOut
    split
    · rfl
    · split
      · rw [ih]; rfl
      · rw [ih]

theorem endCmd_slot (h : Hw) (k status : Nat) (reply output : List Byte) (ds : List Desc) :
    h.endCmd (.slot k) ds status reply output = ((h.dropWaits (.slot k)).writeOut ds output).completeSlot k status reply := rfl

/-- The end of a slot's command (R439). -/
theorem endCmd_done (h : Hw) (k status : Nat) (reply output : List Byte) (ds : List Desc) (hs : status < 256)
    (hr : reply.length ≤ 224) : SlotDone h (h.endCmd (.slot k) ds status reply output) k status reply := by
  rw [endCmd_slot]
  have := completeSlot_done ((h.dropWaits (.slot k)).writeOut ds output) k status reply hs hr
  obtain ⟨h1, h2, h3, h4, h5⟩ := this
  refine ⟨h1, h2, h3, h4, h5.trans ?_⟩
  rw [writeOut_only]; rfl

/-- The end of a slot's command changes its slot, the waiting commands and what is sent, and nothing else. -/
theorem endCmd_onlySlot (h : Hw) (k status : Nat) (reply output : List Byte) (ds : List Desc) :
    OnlySlot k h (h.endCmd (.slot k) ds status reply output) := by
  rw [endCmd_slot]
  refine ⟨?_, fun j o hj ho => ?_, ?_⟩
  · rw [completeSlot_only, writeOut_only]; rfl
  · rw [completeSlot_slotByte_ne _ _ _ _ hj ho, writeOut_only]; rfl
  · rw [completeSlot_only, writeOut_only]; rfl

/-! ## The frame of a command -/

theorem pick_slot {h : Hw} {k code : Nat} {args : List Byte} (r : SlotBegins h k code args) :
    h.pick (.slot k) code = some (args, false, []) := by
  obtain ⟨hk, hm, hp, hi, hs, hc, ht, ha, hw, hb⟩ := r
  simp [Hw.pick, hk, hs, hc, ht, ha, hw]

/-- A command of a slot that neither its arguments, its streams, its class nor its source refuses acts by its own rule. -/
theorem runCmd_begins {h : Hw} {k code : Nat} {args input : List Byte} {ds : List Desc} {io : HostIo} {sp : CmdSpec}
    (r : SlotBegins h k code args) (hs : specOf code = some sp) (ha : sp.args args = true)
    (hg : h.streams k io (sp.inLen args) (sp.outLen args) = some (.ok (ds, input))) (act : Call0 → Hw → Res × Hw) :
    h.runCmd (.slot k) code io act =
      finishRes (act ⟨.slot k, code, args, false, input⟩ h).2 ⟨.slot k, code, args, false, input⟩ ds
        (act ⟨.slot k, code, args, false, input⟩ h).1 := by
  have hpk := pick_slot r
  obtain ⟨hk, hm, hp, hmem, hst, hc, ht, hargs, hw, hb⟩ := r
  unfold Hw.runCmd
  simp only [hpk, hs]
  simp [hm, ha, Hw.wakeFor, hp, Hw.gather, hg, hb, hmem]

theorem streams_none {h : Hw} {k : Nat} (hd : h.slotField k 0x18 2 = 0) (io : HostIo) :
    h.streams k io 0 0 = some (.ok ([], [])) := by simp [Hw.streams, hd]

/-- The same for a command without descriptors. -/
theorem runCmd_slot {h : Hw} {k code : Nat} {args : List Byte} (r : SlotRuns h k code args) {sp : CmdSpec}
    (hs : specOf code = some sp) (ha : sp.args args = true) (hi : sp.inLen args = 0) (ho : sp.outLen args = 0)
    (io : HostIo) (act : Call0 → Hw → Res × Hw) :
    h.runCmd (.slot k) code io act =
      finishRes (act ⟨.slot k, code, args, false, []⟩ h).2 ⟨.slot k, code, args, false, []⟩ []
        (act ⟨.slot k, code, args, false, []⟩ h).1 :=
  runCmd_begins r.1 hs ha (by rw [hi, ho]; exact streams_none r.2 io) act

/-- The same for a command that ends at once. -/
theorem runNow_slot {h : Hw} {k code : Nat} {args : List Byte} (r : SlotRuns h k code args) {sp : CmdSpec}
    (hs : specOf code = some sp) (ha : sp.args args = true) (hi : sp.inLen args = 0) (ho : sp.outLen args = 0)
    (io : HostIo) (f : Call0 → Hw → Nat × List Byte × Hw) :
    h.runNow (.slot k) code io f =
      (f ⟨.slot k, code, args, false, []⟩ h).2.2.endCmd (.slot k) []
        (f ⟨.slot k, code, args, false, []⟩ h).1 (f ⟨.slot k, code, args, false, []⟩ h).2.1 [] := by
  unfold Hw.runNow
  rw [runCmd_slot r hs ha hi ho]
  rfl

/-! ## Words of a reply (R453) -/

theorem arg_append (a b : List Byte) (o n : Nat) (ho : o = a.length) : arg (a ++ b) o n = arg b 0 n := by
  subst ho; simp [arg]

theorem arg_bytesOf (n v : Nat) (b : List Byte) (hv : v < 256 ^ n) : arg (bytesOf n v ++ b) 0 n = v := by
  have : ((bytesOf n v ++ b).drop 0).take n = bytesOf n v := by
    rw [List.drop_zero, List.take_left' (bytesOf_length n v)]
  rw [arg, this, ofBytes_bytesOf, Nat.mod_eq_of_lt hv]

theorem words_cons (h : Hw) (a : Nat) (as : List Nat) : h.words (a :: as) = bytesOf 4 (h.view a).toNat ++ h.words as := rfl

theorem words_length (h : Hw) (as : List Nat) : (h.words as).length = 4 * as.length := by
  induction as with
  | nil => rfl
  | cons a as ih => rw [words_cons, List.length_append, bytesOf_length, ih, List.length_cons]; omega

/-- Word i of the bytes of some registers, whatever stands before and after them. -/
theorem replyWords_words (h : Hw) (as : List Nat) (p q : List Byte) : ReplyWords p.length as h (p ++ (h.words as ++ q)) := by
  induction as generalizing p with
  | nil => intro i hi; simp at hi
  | cons a as ih =>
    intro i hi
    cases i with
    | zero =>
      rw [words_cons, Nat.mul_zero, Nat.add_zero, arg_append _ _ _ _ rfl, List.append_assoc, arg_bytesOf]
      · rfl
      · have := (h.view a).isLt; norm_num; exact this
    | succ i =>
      have := ih (p ++ bytesOf 4 (h.view a).toNat) i (by simpa using hi)
      rw [words_cons]
      rw [List.length_append, bytesOf_length] at this
      simp only [List.append_assoc] at this ⊢
      rw [show p.length + 4 * (i + 1) = p.length + 4 + 4 * i by omega, this]
      rfl

end Sys2Proof.Machine
end

