-- ==== Sys2Proof/Laws/Frames.lean ====
section
/-!
SUPPORT. The frame of a register update, and how frames combine.
-/

namespace Sys2Proof.Machine

theorem OnlyRegs.refl (h : Hw) : OnlyRegs [] h h := ⟨rfl, fun _ _ => rfl⟩

theorem onlyRegs_setReg (h : Hw) (a : Nat) (v : Word32) : OnlyRegs [a] h (h.setReg a v) :=
  ⟨rfl, fun b hb => by rw [reg_setReg, if_neg (by simpa using hb)]⟩

theorem onlyRegs_fset (h : Hw) (a hi lo v : Nat) : OnlyRegs [a] h (h.fset a hi lo v) := onlyRegs_setReg h a _

theorem onlyRegs_clearRegs (h : Hw) (as : List Nat) : OnlyRegs as h (h.clearRegs as) :=
  ⟨clearRegs_only h as, fun b hb => by rw [reg_clearRegs, if_neg hb]⟩

theorem OnlyRegs.trans {as bs : List Nat} {h g k : Hw} (p : OnlyRegs as h g) (q : OnlyRegs bs g k) :
    OnlyRegs (as ++ bs) h k := by
  refine ⟨?_, fun a ha => ?_⟩
  · rw [q.1, p.1]
  · rw [List.mem_append, not_or] at ha
    rw [q.2 a ha.2, p.2 a ha.1]

theorem OnlyRegs.mono {as bs : List Nat} {h g : Hw} (p : OnlyRegs as h g) (s : ∀ a ∈ as, a ∈ bs) : OnlyRegs bs h g :=
  ⟨p.1, fun a ha => p.2 a fun hm => ha (s a hm)⟩

theorem fget_setReg (h : Hw) (a b hi lo : Nat) (v : Word32) :
    (h.setReg a v).fget b hi lo = if b = a then fld v hi lo else h.fget b hi lo := by
  unfold Hw.fget; rw [reg_setReg]; split <;> rfl

theorem bget_setReg (h : Hw) (a b n : Nat) (v : Word32) :
    (h.setReg a v).bget b n = if b = a then bit v n else h.bget b n := by
  unfold Hw.bget; rw [reg_setReg]; split <;> rfl

/-- Another field of the same or of another word after a field is set. -/
theorem fget_fset_ne (h : Hw) (a b hi lo hi' lo' v : Nat) (hw : hi < 32) (hd : b ≠ a ∨ hi < lo' ∨ hi' < lo) :
    (h.fset a hi' lo' v).fget b hi lo = h.fget b hi lo := by
  unfold Hw.fset
  rw [fget_setReg]
  split
  · subst_vars
    rw [fld_setFld_ne _ _ _ _ _ _ hw (by simpa using hd)]; rfl
  · rfl

/-- A field after it is set. -/
theorem fget_fset_same (h : Hw) (a hi lo v : Nat) (hw : hi < 32) : (h.fset a hi lo v).fget a hi lo = v % 2 ^ (hi + 1 - lo) := by
  unfold Hw.fset
  rw [fget_setReg, if_pos rfl, fld_setFld _ _ _ _ hw]

theorem bget_fset (h : Hw) (a b n hi lo v : Nat) (hn : n < 32) :
    (h.fset a hi lo v).bget b n =
      if b = a ∧ lo ≤ n ∧ n < lo + (hi + 1 - lo) then v.testBit (n - lo) else h.bget b n := by
  unfold Hw.fset
  rw [bget_setReg]
  by_cases hb : b = a
  · subst hb
    rw [if_pos rfl, bit_setFld _ _ _ _ _ hn]
    by_cases hc : lo ≤ n ∧ n < lo + (hi + 1 - lo) <;> simp [hc, Hw.bget]
  · simp [hb]

end Sys2Proof.Machine
end

