-- ==== Sys2Proof/Tests/Slice0.lean ====
section
/-!
SUPPORT. Tests on small states: commands that name no existing part, states that meet the hypotheses of the statements, and
values that the manual gives.
-/

namespace Sys2Proof.Tests

open Machine

set_option maxRecDepth 20000
set_option Elab.async false

/-! ## Builders of small states -/

/-- A module with power, link up, firmware ready and Bus Master Enable set. -/
def up : Hw :=
  { State.reset.hw with host := { State.reset.hw.host with perst := false, linkUp := true, ready := true }, bme := true }

/-- Slot 0 of `h` holds a running command of this module, with `descs` descriptors. -/
def withCmd (h : Hw) (code : Nat) (args : List Byte) (descs : Nat := 0) : Hw :=
  let h := h.setSlotBytes 0 0 (bytesOf 2 code)
  let h := h.setSlotBytes 0 4 [BitVec.ofNat 8 h.devIndex, BitVec.ofNat 8 args.length]
  ((h.setSlotBytes 0 0x18 (bytesOf 2 descs)).setSlotBytes 0 0x20 args).setSlotState 0 2

/-- Registers of `h` set in turn. -/
def withRegs (h : Hw) (rs : List (Nat × Word32)) : Hw := rs.foldl (fun h r => h.setReg r.1 r.2) h

/-- What host memory gives a command that needs nothing of it. -/
def noIo : HostIo := ⟨.late, .late⟩

/-- The module in a run state. -/
def inRun (h : Hw) (r : RunState) : Hw := { h with seq := { h.seq with run := r } }

/-! ## Commands that name no existing part (WellFormed), one for each check -/

theorem test_missing_parts :
    ([.descBmeTimeout 8, .configRequest 4096 none, .configRequest 2 none, .slotWrite 8 0 [], .slotWrite 0 256 [some 0],
      .identify (.slot 8) noIo, .identify (.link 64 0) noIo, .identify (.link 0 8) noIo,
      .configForm (.slot 0) noIo ⟨[⟨64, false, true, false, 0, false, 8⟩], none, [], []⟩,
      .configForm (.slot 0) noIo ⟨[], none, [⟨64, 0, 1, 1, 1⟩], []⟩,
      .configForm (.slot 0) noIo ⟨[], none, [⟨0, 12, 1, 1, 1⟩], []⟩,
      .configForm (.slot 0) noIo ⟨[], none, [], [(12, 1)]⟩] : List Instr).all (fun i => !i.wellFormed) = true := by
  decide

theorem test_missing_parts_of_registers :
    ([.bankOwnerWrite 2 0 0, .bankOwnerWrite 0 64 0, .scrOwnerWrite 16 0, .ownerHandover 144, .trusscfgClearCounts 2 0,
      .portRetrain 12 0, .traceSinkCfgWrite 5 0, .teRearm 32 0 0, .teRearm 0 28 0, .teRearm 0 2 0, .captureFlush 32 0,
      .captureRecordRead 32, .dispHeadWrite 32 0, .logValidWrite 32 0, .accessKeyWrite 8 0, .vselWrite 16 0, .vccoReady 16,
      .bar2Read (2 ^ 30) 1, .bar2Write (2 ^ 30) [none], .ridgeTimeout (.bar2Read (2 ^ 30) 1), .ridgeTimeout (.memory (.slot 8) noIo 0),
      .ridgeTimeout (.register (.link 64 0) noIo 0),
      .ridgeTimeout (.bar2Write (2 ^ 30) [none]), .ridgeTimeout (.call 4096 0), .scratchTestSlice 16 true] : List Instr).all
        (fun i => !i.wellFormed) = true := by decide

theorem test_missing_parts_of_the_array :
    ([.eval 2 0 0, .eval 0 512 0, .eval 0 0 64, .loftRead 2 0, .loftRead 0 512, .fmqPush 2 0, .fmqPush 0 128, .ioOut 0 4, .ioIn 0 8,
      .ioPathDeliver [(16, 0)], .callArg 0 32, .probeWord 0 128, .bankRead 0 64, .fabricDelivery (.batten 2 0 0),
      .fabricDelivery (.batten 0 512 0), .fabricDelivery (.batten 0 0 48), .fabricDelivery (.purlin 0 0 8),
      .fabricDelivery (.bridge 2 0 0), .waitTest 2, .frameGo 64 0, .frameGo 0 1024, .fmqReqRead 256, .farWriteback 2 0,
      .farWriteback 0 (2 ^ 33), .forcedRefresh 0 [128], .scrubSlot 2, .callDispatch 33,
      .completionRecord 32 ⟨List.replicate 64 0, none⟩, .completionRecord 0 ⟨[], none⟩,
      .completionRecord 0 ⟨List.replicate 64 0, some 64⟩, .callDeliver 4096, .wordSample 32 0, .triggerTimerExpiry 4] : List Instr).all
        (fun i => !i.wellFormed) = true := by decide

theorem test_missing_parts_of_links :
    ([.portStart 12, .coeffBlock 12 0 0 0 true 0, .coeffBlock 0 19 0 0 true 0, .linkId 12 (List.replicate 19 0), .linkId 0 [],
      .marker 0 [] (List.replicate 19 0) 0, .marker 0 (List.replicate 19 0) [] 0, .msg 0 (List.replicate 19 0) (.segmentEnd 64), .msg 0 (List.replicate 19 0) (.command 64 0 0 false [] []),
      .msg 0 (List.replicate 19 0) (.reply 0 64 0 [] []), .msg 0 (List.replicate 19 0) (.reply 0 0 12 [] []), .msg 0 (List.replicate 19 0) (.dispatchRecord 32 0 []),
      .msg 0 (List.replicate 19 0) (.dispatchRecord 0 0 []), .msg 0 (List.replicate 19 0) (.snapDrained 0 64 false),
      .msg 0 (List.replicate 19 0) (.logNotice 64 true), .msg 0 (List.replicate 19 0) (.haltRequest 64),
      .msg 0 (List.replicate 19 0) (.topo 64 0 none 0 false false), .msg 0 (List.replicate 19 0) (.topo 0 12 none 0 false false),
      .msg 0 (List.replicate 19 0) (.topo 0 0 (some 64) 0 false false), .msg 0 (List.replicate 19 0) (.topo 0 0 none 16 false false), .msg 0 (List.replicate 19 0) (.join 64 0 0 0 [] 0 [] [] 0 0 false),
      .msg 0 (List.replicate 19 0) (.join 0 0 0 0 [12] 0 [] [] 0 0 false), .msg 0 (List.replicate 19 0) (.join 0 0 0 0 [] 12 [] [] 0 0 false),
      .msg 0 (List.replicate 19 0) (.join 0 0 0 0 [] 0 [12] [] 0 0 false), .msg 0 (List.replicate 19 0) (.join 0 0 0 0 [] 0 [] [(0, 12)] 0 0 false),
      .msg 0 (List.replicate 19 0) (.mismatch 12), .msg 0 (List.replicate 19 0) (.recordRequest 64 0 0),
      .msg 0 (List.replicate 19 0) (.recordRequest 0 32 0), .msg 0 (List.replicate 19 0) (.completionRecord 32 (List.replicate 64 0)),
      .msg 0 (List.replicate 19 0) (.completionRecord 0 []), .laneWake 12 0, .laneWake 0 20, .announceTimeout 2,
      .timeEventFire 32, .captureEdge 32 false 0, .hostReadTimeout 8, .wordChannelFrameLock 32] : List Instr).all
        (fun i => !i.wellFormed) = true := by decide

/-- A command that names a missing part stops the module with that fault, and the queue keeps the rest. -/
theorem test_missing_part_stops : step ⟨[.eval 2 0 0, .frameTick], up⟩ = .fault .noSuchPart := rfl

/-! ## Witnesses: states that meet the hypotheses of a statement, clause by clause -/

theorem witness_SendableQueueNeverStops :
    (⟨[.mbxRing 7, .eval 1 511 63, .bar2Read 0x3FFFFFFF 1, .frameGo 63 1023], up⟩ : State).sendable = true := by decide

theorem witness_StopsAndDrains :
    (Instr.slotWrite 7 255 [some 1]).wellFormed = true ∧ (Instr.slotWrite 7 256 [none]).wellFormed = false ∧
      [Instr.mbxRing 0, .frameTick].all Instr.wellFormed = true := by decide

theorem witness_ColdStarts :
    ({} : Hw).snap.capture = none ∧ ({} : Hw).power.hot = false ∧
    up.snap.capture = none ∧ up.power.powered = true ∧ up.power.hot = false ∧
    (let h := withRegs up [(powerA 0, 3)]
     h.lowPowerRail = true ∧ h.snap.capture = none) ∧ (withRegs up [(powerA 0, 4)]).lowPowerRail = true ∧
    (let h : Hw := { up with power := { powered := true, hot := true, asked := true } }
     h.snap.capture = none ∧ h.power.powered = true ∧ h.power.hot = true ∧ h.power.asked = true) ∧
    (let c : Capture := ⟨15, 1, 4, none, [false, false], [], false, 0, false, false, [0, 0]⟩
     let h : Hw := { up with snap := { up.snap with capture := some c } }
     h.snap.capture = some c ∧ c.slot < 16 ∧ h.power.powered = true ∧ h.power.hot = false) := by decide +kernel

theorem witness_PowerLossAndShutdown :
    up.power.powered = true ∧
    (let h : Hw := { up with power := { powered := true, hot := true } }
     h.power.powered = true ∧ h.power.hot = true ∧ h.power.asked = false) := by decide

theorem witness_EndpointCommands :
    State.reset.hw.power.powered = true ∧ State.reset.hw.power.hot = false ∧ up.host.linkUp = true ∧ up.host.pba = 0 ∧
    (let h : Hw := { up with host := { up.host with pba := setBit 0 63 true, msixTable := [(255, 0)] } }
     h.host.linkUp = true ∧ bit h.host.pba 63 = true ∧ bit (h.msixWord (4 * 63 + 3)) 0 = false) ∧
    (let h : Hw := { up with host := { up.host with ready := false } }
     h.power.powered = true ∧ h.power.hot = false ∧ h.host.perst = false ∧ h.power.wakePin = false ∧ h.host.ready = false) ∧
    (up.power.powered = true ∧ up.power.hot = false ∧ up.host.perst = false ∧ up.power.wakePin = false ∧ up.host.ready = true) ∧
    4092 < 4096 ∧ 4092 % 4 = 0 ∧ 0x24 ∈ [0x10, 0x14, 0x18, 0x1C, 0x20, 0x24] ∧ 0x1C ∈ [0x10, 0x14, 0x18, 0x1C] := by decide +kernel

theorem witness_FirmwareReady :
    let h := State.reset.hw
    let later := fun c : Nat => h.fset (powerA 0x20) 18 17 c
    h.power.powered = true ∧ h.power.hot = false ∧ h.host.ready = false ∧ h.fw.stuck = false ∧ h.pstate < 3 ∧
      h.host.booted = false ∧ ({ h.host with booted := true } : HostSt).booted = true ∧ (h.fset (powerA 0) 2 0 2).pstate = 2 ∧ (later 2).fget (powerA 0x20) 18 17 = 2 ∧ (later 3).fget (powerA 0x20) 18 17 = 3 ∧
      (later 3).host.booted = false ∧ (later 3).pstate < 3 := by decide +kernel

theorem witness_RegisterWriteAccess :
    up.hubOn = true ∧ 71 < 72 ∧ 1 < 2 ∧ up.pstate < 2 ∧
    (let h := withRegs up [(powerA 0, 2)]
     h.hubOn = true ∧ 2 ≤ h.pstate ∧ seqA 1 0x10 ∈ [seqA 1 0x30, seqA 1 0x10, seqA 1 4]) ∧
    SetNow (up.setW1c (grpStatA 71) 15) (grpStatA 71) 15 ∧ ¬ SetNow up (grpStatA 71) 15 := by decide +kernel

theorem witness_ClearCounts :
    up.diesShut = false ∧ (withRegs up [(powerA 0, 2)]).diesShut = true ∧
    (up.fset (timeA 0x10) 9 9 1).bget (timeA 0x10) 9 = true ∧ bit (0x00800001 : Word32) 0 = true ∧ (∀ n ∈ [1, 2, 3, 4, 9, 23], bit (0xFFFFFFFF : Word32) n = true) ∧ bit (0x80 : Word32) 7 = true ∧ bit (0x80 : Word32) 6 = false ∧
      bit (0x80 : Word32) 0 = false ∧ up.bget (traceA 0) 0 = false ∧
      fld (up.reg (timeA 0x14) ||| 0x800000) 21 5 = up.fget (timeA 0x14) 21 5 ∧ bit (up.reg (timeA 0x14) ||| 0x800000) 23 = true := by decide +kernel

/-- Worker 31 with DISP_HEAD 3, DISP_TAIL 5, COMP_TAIL 8,190, COMP_HEAD 8,191 and a completion ring of 16 entries: what lies at
and beyond both ends of each range (R326). -/
theorem witness_RingIndexWrites :
    let a := callsA (0x1000 + 64 * 31)
    let h := withRegs up [(a + 0x1C, 3), (a + 0x18, 5), (a + 0x20, 8190), (a + 0x24, 8191)]
    let headIn := fun x => (x + 8192 - h.fget (a + 0x1C) 12 0) % 8192 ≤
      (h.fget (a + 0x18) 12 0 + 8192 - h.fget (a + 0x1C) 12 0) % 8192
    let tailIn := fun x => (x + 8192 - h.fget (a + 0x20) 12 0) % 8192 ≤
      (h.fget (a + 0x24) 12 0 + ringSize (h.fget a 15 12) + 8192 - h.fget (a + 0x20) 12 0) % 8192
    headIn 3 ∧ headIn 5 ∧ ¬ headIn 2 ∧ ¬ headIn 6 ∧ tailIn 8190 ∧ tailIn ((8191 + ringSize (h.fget a 15 12)) % 8192) ∧
      ¬ tailIn 8189 ∧ ¬ tailIn ((8192 + ringSize (h.fget a 15 12)) % 8192) ∧ h.hubOn = true ∧ h.host.linkUp = true := by
  decide +kernel

theorem witness_OwnerHandOver :
    fld (3 : Word32) 2 0 < 4 ∧ fld (4 : Word32) 2 0 = 4 ∧ up.fw.session = none ∧ fld (2 : Word32) 2 0 = 2 ∧ fld (1 : Word32) 2 0 < 2 ∧
    (let h := withRegs up [(bankA 1 (4 * 63), 0x38), (scrA 15, 0x38)]
     h.diesShut = false ∧ h.bget (bankA 1 (4 * 63)) 3 = true ∧ h.busy = false ∧ h.img.bay = none ∧ (h.bank 127).rmw = [] ∧
       (h.truss (trussIx 1 (homeTruss 63))).reads.any (·.bank) = false ∧ h.bget (scrA 15) 3 = true) ∧
    (withRegs up [(powerA 0, 2)]).diesShut = true ∧
    (let h := withRegs (inRun up .running) [(bankA 0 0, 0x39)]
     h.bget (bankA 0 0) 3 = true ∧ h.busy = true ∧ h.fget (bankA 0 0) 2 0 ≠ 0 ∧ h.fget (bankA 0 0) 6 4 ≠ 0) ∧
    (let h := (withRegs up [(bankA 1 (4 * 63), 0x38)]).setTruss (trussIx 1 (homeTruss 63)) { reads := [⟨0, 0, true⟩] }
     h.fget (bankA 1 (4 * 63)) 2 0 = 0 ∧ (h.truss (trussIx 1 (homeTruss 63))).reads.any (·.bank) = true) ∧
    (let h := (withRegs (inRun up .stoppedMid) [(bankA 1 (4 * 63), 0x20)]).setBank 127 { rmw := [⟨5, 1, none, some 0, 7⟩] }
     h.fget (bankA 1 (4 * 63)) 2 0 = 0 ∧ (h.bank 127).rmw ≠ []) ∧
    (let h := withRegs (inRun up .running) [(bankA 1 (4 * 63), 0x38)]
     h.busy = true ∧ h.fget (bankA 1 (4 * 63)) 2 0 = 0) ∧
    (let h := withRegs (inRun up .running) [(bankA 1 (4 * 63), 0x0A)]
     h.fget (bankA 1 (4 * 63)) 6 4 = 0) := by decide +kernel

theorem witness_LogAcknowledge :
    let h := withRegs up [(logA 31, 0x8001)]
    bit (0x8000 : Word32) 15 = true ∧ h.handled 31 = true ∧ ¬ SetNow h (logA 31) 15 ∧ h.isMember = false ∧ h.handled 30 = false ∧
      SetNow (h.setW1c (logA 31) 15) (logA 31) 15 ∧ bit (0x80000000 : Word32) 31 = true ∧ bit (0 : Word32) 31 = false ∧
      ¬ SetNow h (faultA 0x614) 31 ∧ OpTag.cap (faultA 0x614) ∉ h.done ∧
      SetNow (h.setW1c (faultA 0x614) 31) (faultA 0x614) 31 := by decide +kernel

theorem witness_SupplyAndClock :
    up.hubOn = true ∧ up.framesOn = false ∧ (inRun up .halting).framesOn = true ∧ (withRegs up [(powerA 0, 3)]).hubOn = false ∧
      fld (0x3E : Word32) 1 0 = 2 ∧ (up.port (if fld (0x3E : Word32) 5 2 < 12 then fld (0x3E : Word32) 5 2 else 0)).state ≠ .active ∧
      up.busy = false ∧ fld (3 : Word32) 1 0 ≠ up.fget (userioA (4 * 15)) 1 0 ∧ (inRun up .halting).busy = true ∧
      (withRegs up [(userioA (4 * 15), 1)]).fget (userioA (4 * 15)) 1 0 ≠ 0 ∧ up.fget (userioA (4 * 15)) 1 0 = 0 := by decide +kernel

/-- `SlotBegins` and `SlotRuns` of slot 0, as values that evaluate. -/
def begins (h : Hw) (code : Nat) (args : List Byte) : Bool :=
  h.mpTakes && h.pstate == 0 && !h.isMember && h.slotState 0 == 2 && h.slotField 0 0 2 == code && h.slotField 0 4 1 == h.devIndex &&
    h.slotArgs 0 == args && !h.host.waits.any (fun w => w.src == .slot 0) && !h.classBusy (.slot 0) code

def runs (h : Hw) (code : Nat) (args : List Byte) : Bool := begins h code args && h.slotField 0 0x18 2 == 0

theorem begins_iff (h : Hw) (code : Nat) (args : List Byte) : begins h code args = true ↔ SlotBegins h 0 code args := by
  simp only [begins, SlotBegins, Bool.and_eq_true, Bool.not_eq_true', beq_iff_eq, and_assoc, Nat.zero_lt_succ, true_and]

theorem runs_iff (h : Hw) (code : Nat) (args : List Byte) : runs h code args = true ↔ SlotRuns h 0 code args := by
  simp only [runs, SlotRuns, Bool.and_eq_true, beq_iff_eq, begins_iff]

theorem witness_StatusCommands :
    ([runs (withCmd up 0x0101 []) 0x0101 [], runs (withCmd up 0x0102 []) 0x0102 [],
    runs (withCmd up 0x0103 [11]) 0x0103 [11], runs (withCmd up 0x0204 []) 0x0204 [],
    runs (withCmd up 0x0B04 []) 0x0B04 [], runs (withCmd up 0x0601 []) 0x0601 [],
    runs (withCmd up 0x0802 []) 0x0802 [], runs (withCmd up 0x0703 []) 0x0703 [],
    runs (withCmd up 0x0A01 [20, 52]) 0x0A01 [20, 52], runs (withCmd up 0x0A01 [71, 1]) 0x0A01 [71, 1],
    runs (withCmd up 0x0A03 [19, 13]) 0x0A03 [19, 13], runs (withCmd up 0x0A03 [31, 1]) 0x0A03 [31, 1]] : List Bool).all id = true := by
  decide +kernel

/-- Arguments of REG_READ and REG_WRITE: one word, the mask of group 71. -/
def maskArgs : List Byte := bytesOf 4 (faultA (0x200 + 4 * 71)) ++ [1, 0, 0, 0]

/-- A module whose 1PPS input is enabled. -/
def ppsUp : Hw := withRegs up [(timeA 0x14, 1)]

/-- Slot 4,095 holds a call of generation `g` that is ready for host worker 31. -/
def withCall (g : Nat) : Hw :=
  let c : Call := ⟨g, 3, 0, 0, false, true, 0, 0, 0, 0, [], false, false, .ready 31, 0, 63, 0⟩
  { up with calls := { up.calls with slots := [(4095, some c)], ready := [(31, [4095])] } }

theorem witness_RegisterCommands :
    ([runs (withCmd up 0x0A02 [71, 0, 0xFF, 0xFF]) 0x0A02 [71, 0, 0xFF, 0xFF],
    runs (withCmd up 0x0401 [3, 3, 1, 191]) 0x0401 [3, 3, 1, 191],
    runs (withCmd up 0x0903 [0xFF, 0xFF, 0, 0]) 0x0903 [0xFF, 0xFF, 0, 0],
    maskArgs.length = 8, arg maskArgs 4 1 = 1, arg maskArgs 5 3 = 0, arg maskArgs 0 4 = faultA (0x200 + 4 * 71),
    runs (withCmd up 0x0C01 maskArgs) 0x0C01 maskArgs,
    runs (withCmd up 0x0C02 (maskArgs ++ [0x34, 0x12, 0, 0])) 0x0C02 (maskArgs ++ [0x34, 0x12, 0, 0]),
    runs (withCmd up 0x0602 [3]) 0x0602 [3], up.tPhase ≠ 2, runs (withCmd up 0x0602 [1]) 0x0602 [1],
    (withCmd ppsUp 0x0603 (bytesOf 8 7)).tPhase = 0, ppsUp.bget (timeA 0x14) 0 = true, ppsUp.time.te = [],
    runs (withCmd ppsUp 0x0603 (bytesOf 8 7)) 0x0603 (bytesOf 8 7),
    up.call 0xFFF = none, runs (withCmd up 0x0801 [0xFF, 15, 15, 0]) 0x0801 [0xFF, 15, 15, 0],
    runs (withCmd (withCall 15) 0x0801 [0xFF, 15, 15, 0]) 0x0801 [0xFF, 15, 15, 0],
    ((withCall 15).call 0xFFF).any (fun c => c.active && c.state != .running 32 && c.gen == 15), Store.rising (withCall 15).calls.slots,
    (withCall 15).callList.all (fun x => x.2.state != .waiting && !x.2.deps.contains 0xFFF),
    ((withCall 3).call 0xFFF).any (fun c => c.gen != 15), runs (withCmd (withCall 3) 0x0801 [0xFF, 15, 15, 0]) 0x0801 [0xFF, 15, 15, 0],
    (List.range 32).all (fun e => !up.done.contains (.w1c (logA e) 15)),
    runs (withCmd up 0x0A04 [1, 0, 0, 0x80]) 0x0A04 [1, 0, 0, 0x80]] : List Bool).all id = true := by
  decide +kernel

/-- Sixty-nine bytes of ones are no command's arguments: every code of `Obligations.BadArguments`. -/
theorem witness_BadArguments :
    ([0x0101, 0x0102, 0x0103, 0x0201, 0x0203, 0x0204, 0x0301, 0x0302, 0x0303, 0x0304, 0x0401, 0x0402, 0x0403, 0x0404, 0x0405,
      0x0406, 0x0407, 0x0408, 0x0501, 0x0502, 0x0601, 0x0602, 0x0603, 0x0701, 0x0702, 0x0703, 0x0801, 0x0802, 0x0901, 0x0902, 0x0903,
      0x0A01, 0x0A02, 0x0A03, 0x0A04, 0x0B01, 0x0B02, 0x0B03, 0x0B04, 0x0B05, 0x0B06, 0x0B07, 0x0C01, 0x0C02].all fun code =>
      begins (withCmd up code (List.replicate 69 0xFF)) code (List.replicate 69 0xFF) &&
        (specOf code).all fun sp => !sp.args (List.replicate 69 0xFF)) = true ∧
    (⟨[], none, [], []⟩ : FormFacts).ok = true := by
  decide +kernel

/-- CONFIG_FORM of this module alone. -/
def formArgs : List Byte := [0, 0, 0, 0, 0, 0, 0, 0, 1, 0, 0, 0, 0, 0, 0, 0]

def noFacts : FormFacts := ⟨[], none, [], []⟩

/-- A module in HELD with an image and the vector source. -/
def heldUp : Hw :=
  { up with seq := { up.seq with run := .held, vecSource := some (0, 0), horizon := 8, schedLen := 100 },
            img := { up.img with loaded := some ⟨List.replicate 256 0, 7⟩ } }

/-- The head of a formed configuration without members. -/
def headUp : Hw := { heldUp with conf := { heldUp.conf with formed := true }, img := { heldUp.img with unformed := false } }

theorem witness_FormAndLeave :
    ([noFacts.ok = true, noFacts.members = [], formArgs.length = 16, arg formArgs 8 1 ≤ 1, arg formArgs 9 7 = 0,
    heldUp.named (arg formArgs 0 8) = [], heldUp.conf.formed = false, heldUp.busy = false,
    runs (withCmd heldUp 0x0301 formArgs) 0x0301 formArgs, (withCmd heldUp 0x0301 formArgs).formCheck [] noFacts = none,
    runs (withCmd up 0x0301 formArgs) 0x0301 formArgs,
    (withCmd up 0x0301 formArgs).formCheck [] noFacts = some (3, stRefused, 0, 0xFF),
    runs (withCmd headUp 0x0302 []) 0x0302 [], headUp.conf.formed = true, headUp.conf.members = [], headUp.busy = false,
    runs (withCmd up 0x0302 []) 0x0302 [], up.conf.formed = false, up.conf.members = [],
    runs (withCmd (inRun headUp .running) 0x0302 []) 0x0302 [], (inRun headUp .running).busy = true] : List Bool).all id = true := by
  decide +kernel

/-- RUN_START of STEP mode for two frames, checked. -/
def startArgs : List Byte := [3, 1, 0, 0, 2, 0, 0, 0] ++ List.replicate 32 0

/-- The head with a checked image. -/
def checkedHead : Hw := { headUp with img := { headUp.img with loaded := some ⟨List.replicate 256 3, 7⟩ } }

/-- The head, HELD, with the RUN_CTRL of an accepted RUN_START on its way. -/
def startOnWay : Hw := { headUp with seq := { headUp.seq with syms := [⟨.runCtrl, 0, 63, 5, 0⟩] } }

theorem witness_RunCommands_start :
    ([runs (withCmd startOnWay 0x0304 []) 0x0304 [], runs (withCmd startOnWay 0x0902 [3]) 0x0902 [3], startOnWay.startWaits = true,
      startOnWay.conf.treePorts = [], startOnWay.seq.run = .held, startOnWay.busy = true, headUp.startWaits = false] :
      List Bool).all id = true := by
  decide +kernel

/-- A checked start at P0 has a change to P2 due; a normal start after it has one back to P0 due (R148). -/
theorem test_start_level :
    headUp.seq.startDue true = some (2, false) ∧ headUp.seq.startDue false = none ∧
      ({ headUp.seq with level := 2 } : Seq).startDue true = none ∧
      ({ headUp.seq with level := 2 } : Seq).startDue false = some (0, false) := by
  decide +kernel

theorem witness_RunCommands :
    ([startArgs.length = 40, arg startArgs 1 1 ≤ 1, arg startArgs 2 2 = 0, arg startArgs 8 8 = 0, arg startArgs 30 2 = 0,
    checkedHead.conf.members = [], runs (withCmd checkedHead 0x0303 startArgs) 0x0303 startArgs, startBad startArgs = false,
    (withCmd checkedHead 0x0303 startArgs).startTest (arg startArgs 0 1) (arg startArgs 1 1 == 1) = stOk,
    checkedHead.conf.treePorts = [], checkedHead.conf.crossPorts = [],
    startBad (List.replicate 40 0) = true, runs (withCmd up 0x0303 (List.replicate 40 0)) 0x0303 (List.replicate 40 0),
    up.seq.run ≠ .held, runs (withCmd up 0x0303 startArgs) 0x0303 startArgs, heldUp.conf.formed = false,
    runs (withCmd heldUp 0x0303 startArgs) 0x0303 startArgs, heldUp.seq.run = .held,
    runs (withCmd (inRun headUp .running) 0x0304 []) 0x0304 [], (inRun headUp .running).seq.run = .running,
    runs (withCmd headUp 0x0304 []) 0x0304 [], headUp.stopped = true,
    runs (withCmd (inRun headUp .running) 0x0902 [3]) 0x0902 [3],
    runs (withCmd headUp 0x0902 [0]) 0x0902 [0], headUp.seq.level = 0, headUp.seq.run = .held, headUp.conf.members = [],
    runs (withCmd (inRun headUp .halting) 0x0902 [3]) 0x0902 [3]] : List Bool).all id = true := by
  decide +kernel

/-- Port 11 carries a tree link; port 0 is enabled, started and active. -/
def linkUp : Hw :=
  withRegs { headUp with conf := { headUp.conf with treePorts := [11] }, ports := [(0, { state := .active, started := true })] }
    [(eaveA 0 0, 0xA05)]

theorem witness_LinkCommands :
    ([(8 : BitVec 8).toNat < 16, runs (withCmd (inRun linkUp .running) 0x0501 [0, 8]) 0x0501 [0, 8],
    (inRun linkUp .running).linksBusy (portMask (0 + 256 * 8)) = true,
    runs (withCmd (inRun linkUp .running) 0x0502 [0, 8, 1, 0]) 0x0502 [0, 8, 1, 0],
    runs (withCmd linkUp 0x0501 [1, 8]) 0x0501 [1, 8], linkUp.linksBusy (portMask (1 + 256 * 8)) = false,
    linkUp.retrainable (portMask (1 + 256 * 8)) = [0], runs (withCmd linkUp 0x0502 [1, 8, 0, 0]) 0x0502 [1, 8, 0, 0]] : List Bool).all id = true := by
  decide +kernel

def acqArea : List Byte := [2, 1, 0, 0, 0, 0x20, 0, 0]
def gutterArea : List Byte := [3, 0, 0, 0, 0, 0x10, 0, 0]

theorem witness_PoolAllocAndFree :
    ([acqArea.length = 8, arg acqArea 0 1 = 2, arg acqArea 1 1 = 1, arg acqArea 2 2 = 0, arg acqArea 4 4 = 8192,
    runs (withCmd up 0x0404 acqArea) 0x0404 acqArea, up.areaBusy 2 0 = false, (up.freeArea 2 0).fits 1 8192 ≠ [],
    arg gutterArea 4 4 = 2 ^ 12, runs (withCmd up 0x0404 gutterArea) 0x0404 gutterArea, up.areaBusy 3 0 = false,
    (up.freeArea 3 0).fits 0 4096 ≠ [], (withRegs up [(traceA 0, 1)]).areaBusy 3 0 = true,
    (let h : Hw := { up with pool := [⟨1, 3, 1, 0, 48288⟩] }
     h.areaBusy 2 0 = false ∧ (h.freeArea 2 0).fits 1 8192 = [] ∧ runs (withCmd h 0x0404 acqArea) 0x0404 acqArea),
    runs (withCmd up 0x0404 [1, 0, 15, 1, 0, 0, 0, 0]) 0x0404 [1, 0, 15, 1, 0, 0, 0, 0], up.areaBusy 1 15 = false,
    [0, 1].all (fun d => !((up.freeArea 1 15).fits d (areaMib true (up.designMib d))).isEmpty),
    runs (withCmd up 0x0405 [1, 15]) 0x0405 [1, 15], runs (withCmd up 0x0405 [3, 0]) 0x0405 [3, 0]] : List Bool).all id = true := by
  decide +kernel

/-- SNAP_TAKE into slot 15 with an ID, for frame 9. -/
def takeArgs : List Byte := [15, 0, 0, 0, 5, 0, 0, 0, 9, 0, 0, 0, 0, 0, 0, 0]

def area15 : SnapArea := ⟨[mibBytes 100, mibBytes 100], false, [25, 25]⟩

/-- The head in HELD with an empty area in slot 15. -/
def snapUp : Hw :=
  withRegs { headUp with snap := { headUp.snap with areas := [(15, some area15)] } } [(snapSlotA 15 0, 1)]

def point15 : Capture := ⟨15, 5, 9, some 40, [false, false], [], false, 0, false, false, [0, 0]⟩

def draining : Hw := { snapUp with snap := { snapUp.snap with capture := some point15 } }

/-- An area that holds a complete snapshot of frame 9 with ID 5, of the loaded configuration. -/
def snapStored : Hw :=
  let h := withRegs snapUp [(snapSlotA 15 0, 1 + 8), (snapSlotA 15 4, 5), (snapSlotA 15 8, 9)]
  [0, 1].foldl (fun h d => (((h.areaWord d (mibBytes 100) 0 7).areaWord d (mibBytes 100) 8 9).areaWord d (mibBytes 100) 0x18
    (BitVec.ofNat 64 (2 * 2 ^ 16))).areaWord d (mibBytes 100) 0x20 (BitVec.ofNat 64 (5 * 2 ^ 32))) h

theorem witness_Snapshots :
    ([takeArgs.length = 16, arg takeArgs 0 1 < 16, arg takeArgs 1 3 = 0, snapUp.conf.members = [],
    runs (withCmd snapUp 0x0406 takeArgs) 0x0406 takeArgs, snapUp.snap.capture = none, snapUp.seq.run = .held,
    snapUp.snapArea 15 = some area15, snapUp.areaState 15 ≠ 3, headUp.snapArea 15 = none,
    runs (withCmd headUp 0x0406 takeArgs) 0x0406 takeArgs,
    runs (withCmd (inRun snapUp .running) 0x0406 takeArgs) 0x0406 takeArgs, arg takeArgs 8 8 ≠ 0,
    snapUp.seq.frame.toNat ≤ arg takeArgs 8 8, (inRun snapUp .running).areaState 15 ≠ 3,
    runs (withCmd draining 0x0406 takeArgs) 0x0406 takeArgs,
    draining.snap.capture = some point15, point15.point = some 40, point15.slot < 16, draining.snapArea 15 = some area15,
    point15.drained.all id = false, area15.far = false, draining.isMember = false, point15.drained.length = 2,
    runs (withCmd snapStored 0x0407 [15]) 0x0407 [15], snapStored.snapArea 15 = some area15,
    snapStored.restoreTest 15 (snapStored.reg (snapSlotA 15 4)).toNat (snapStored.reg64 (snapSlotA 15 8)).toNat = stOk,
    runs (withCmd up 0x0407 [15]) 0x0407 [15], up.seq.run ≠ .held, up.seq.run ≠ .stoppedMid] : List Bool).all id = true := by
  decide +kernel

theorem witness_Snapshots_refused :
    ([runs (withCmd up 0x0406 takeArgs) 0x0406 takeArgs, up.snap.capture = none, up.seq.run = .empty, up.img.applyPending = false, up.snap.restore = none,
      (let h : Hw := { up with img := { up.img with applyPending := true } }
       runs (withCmd h 0x0406 takeArgs) 0x0406 takeArgs && h.snap.capture == none && h.seq.run == .empty),
      runs (withCmd (inRun headUp .running) 0x0407 [15]) 0x0407 [15]] : List Bool).all id = true := by decide +kernel

/-! ## Memories and images -/

/-- A descriptor of `len` bytes at 0x1000: of the output stream when `out`. -/
def descBytes (len : Nat) (out : Bool) : List Byte := bytesOf 8 0x1000 ++ bytesOf 4 len ++ [if out then 1 else 0, 0, 0, 0]

/-- Host memory that carries an input stream. -/
def ioIn (bs : List Byte) : HostIo := ⟨.data (descBytes bs.length false), .data bs⟩

/-- Host memory with room for an output stream. -/
def ioOut (len : Nat) : HostIo := ⟨.data (descBytes len true), .late⟩

/-- Words 8,190 and 8,191 of scratch bank 15. -/
def scrArgs : List Byte := [3, 0, 15, 0, 0, 0, 0, 0] ++ bytesOf 8 (8 * 8190) ++ bytesOf 4 16 ++ [0, 0, 0, 0]

/-- The last word of bank 63 of die 1. -/
def bankArgs : List Byte := [2, 1, 63, 0, 0, 0, 0, 0] ++ bytesOf 8 (8 * 32767) ++ bytesOf 4 8 ++ [0, 0, 0, 0]

/-- Scratch bank 15 and design memory bank 63 of die 1 belong to HOST. -/
def hostUp : Hw := withRegs headUp [(scrA 15, 3), (bankA 1 (4 * 63), 3)]

def sixteen : List Byte := (List.range 16).map (BitVec.ofNat 8)

/-- READBACK of the last bundle entry of truss 511 of die 1. -/
def backArgs : List Byte := [4, 1, 0xFF, 1, 255, 0, 0, 0, 1, 0, 0, 0, 0, 0, 0, 0]

/-- REG_WRITE of SEQ.WAIT_LIMIT of die 1. -/
def limitArgs : List Byte := bytesOf 4 (seqA 1 0x30) ++ [1, 0, 0, 0, 9, 0, 0, 0]

theorem witness_MemoryCommands :
    ([scrArgs.length = 24, memRange scrArgs = true, arg scrArgs 0 1 = 3, begins (withCmd hostUp 0x0403 scrArgs 1) 0x0403 scrArgs,
      hostUp.fget (scrA 15) 2 0 = 3, 1 < arg scrArgs 16 4 / 8, begins (withCmd hostUp 0x0402 scrArgs 1) 0x0402 scrArgs,
      [0, 1].all (fun i => (decDecode (hostUp.scrWord 15 (8190 + i))).2 != .bad),
      bankArgs.length = 24, memRange bankArgs = true, arg bankArgs 16 4 / 8 = 1,
      begins (withCmd hostUp 0x0403 bankArgs 1) 0x0403 bankArgs, begins (withCmd hostUp 0x0402 bankArgs 1) 0x0402 bankArgs,
      begins (withCmd up 0x0402 bankArgs 1) 0x0402 bankArgs, backArgs.length = 16, readbackOk backArgs = true,
      begins (withCmd hostUp 0x0408 backArgs 1) 0x0408 backArgs, hostUp.seq.run ≠ .empty,
      begins (withCmd up 0x0408 backArgs 1) 0x0408 backArgs, up.seq.run = .empty, limitArgs.length = 12, arg limitArgs 0 4 = seqA 1 0x30,
      arg limitArgs 4 1 = 1, arg limitArgs 5 3 = 0, runs (withCmd up 0x0C02 limitArgs) 0x0C02 limitArgs] : List Bool).all id = true := by
  decide +kernel

theorem witness_MemoryCommands_streams :
    (withCmd hostUp 0x0403 scrArgs 1).streams 0 (ioIn sixteen) 16 0 = some (.ok ([⟨0x1000, 16, false⟩], sixteen)) ∧
    (withCmd hostUp 0x0402 scrArgs 1).streams 0 (ioOut 16) 0 16 = some (.ok ([⟨0x1000, 16, true⟩], [])) ∧
    (withCmd hostUp 0x0402 bankArgs 1).streams 0 (ioOut 8) 0 8 = some (.ok ([⟨0x1000, 8, true⟩], [])) ∧
    (withCmd hostUp 0x0408 backArgs 1).streams 0 (ioOut 8) 0 8 = some (.ok ([⟨0x1000, 8, true⟩], [])) :=
  ⟨rfl, rfl, rfl, rfl⟩

/-- The last word of a design memory bank that HOST owns is written and read; without an image it is locked (R271, R462). -/
theorem witness_MemoryCommands_words :
    (∃ g, hostUp.hostWriteWord (memPlace bankArgs 0) 1 = .ok g) ∧ (∃ v g, hostUp.hostReadWord (memPlace bankArgs 0) true = (.ok v, g)) ∧
    up.hostWriteWord (memPlace bankArgs 0) 1 = .error .locked ∧ (∃ g, up.hostReadWord (memPlace bankArgs 0) true = (.error .locked, g)) :=
  ⟨⟨_, rfl⟩, ⟨_, _, rfl⟩, rfl, ⟨_, rfl⟩⟩

/-- Aperture 3 targets SCRATCH. -/
def bar2Up : Hw := withRegs hostUp [(hostifA 0x58, 3)]

theorem witness_Bar2Access :
    ([0xFFFF8 + 8 ≤ 0x100000, 0xFFFF8 % 8 = 0, bar2Up.reachable = true, bar2Up.pstate < 3, bar2Up.fget (hostifA (0x40 + 8 * 3)) 1 0 = 3,
      bar2Up.fget (scrA (0xFFFF8 / 0x10000)) 2 0 = 3, (decDecode (bar2Up.scrWord 15 (0xFFFF8 % 0x10000 / 8))).2 ≠ .bad,
      (List.replicate 7 none ++ [some (5 : Byte)]).length = 8, (List.replicate 7 none ++ [some (5 : Byte)]).any Option.isSome,
      bar2Up.fget (scrA 0) 2 0 ≠ 3, bar2Up.fget (hostifA 0x40) 1 0 = 0, (List.replicate 8 (some (5 : Byte))).all Option.isSome] :
        List Bool).all id = true := by
  decide +kernel

/-- The header of a full image of `len` bytes for this module, with `n` directory entries. -/
def imgHead (len n : Nat) : List Byte :=
  bytesOf 4 0x49365846 ++ [0xF6, 0, 0, 0x64, 0, 0, 1, 0, 0, 0, 0, 0] ++ bytesOf 8 7 ++ bytesOf 8 len ++ bytesOf 4 256 ++ bytesOf 2 n ++
    List.replicate 26 0 ++ [1, 0, 0, 0] ++ bytesOf 2 100 ++ bytesOf 2 8 ++ List.replicate 28 0 ++ [9, 12, 16, 3, 4, 0] ++
    bytesOf 2 160 ++ List.replicate 148 0

/-- A load of an image of one block, complete when the block is given. -/
def loadOf (head : List Byte) (len : Nat) (blocks : Store (List Byte)) : ImgLoad := ⟨0, 0, len, head, blocks, .receiving, [0, 0]⟩

def loading (blocks : Store (List Byte)) : Hw :=
  { headUp with img := { headUp.img with load := some (loadOf (imgHead 65540 4) 65540 blocks) } }

theorem witness_ImageTransfer :
    let len := bytesOf 8 65540
    let off := bytesOf 8 65536
    let busy := loading []
    let full : Hw := { headUp with pool := [⟨1, 0, 0, 0, 48288⟩, ⟨1, 0, 1, 0, 48288⟩] }
    let big := bytesOf 8 (2 ^ 34)
    ([len.length = 8, begins (withCmd headUp 0x0201 len 1) 0x0201 len, headUp.img.load = none, headUp.img.bay = none,
      !headUp.snapHolds, !busy.snapHolds, arg len 0 8 = 65540, imgField (imgHead 65540 4) 0x18 8 = 65540,
      (withCmd headUp 0x0201 len 1).identOk (imgHead 65540 4), !headUp.noStaging (imgHead 65540 4) 65540,
      begins (withCmd busy 0x0201 len 1) 0x0201 len, busy.img.load.isSome,
      (let held : Hw := { busy with snap := { busy.snap with restore := some (3, 1) } }
       held.snapHolds && runs (withCmd held 0x0203 [0]) 0x0203 [0]), (loadOf (imgHead 65540 4) 65540 []).kind = 0, imgField (imgHead 65544 4) 0x18 8 ≠ 65540,
      !headUp.identOk (List.replicate 24 0 ++ len ++ List.replicate 224 0), imgField (List.replicate 24 0 ++ len) 0x18 8 = 65540,
      begins (withCmd full 0x0201 big 1) 0x0201 big, full.noStaging (imgHead (2 ^ 34) 4) (2 ^ 34), full.identOk (imgHead (2 ^ 34) 4),
      begins (withCmd busy 0x0202 off 1) 0x0202 off, begins (withCmd busy 0x0202 (bytesOf 8 65540) 1) 0x0202 (bytesOf 8 65540),
      arg off 0 8 % 65536 = 0, arg off 0 8 < 65540, blockLen 65540 65536 = 4, begins (withCmd headUp 0x0202 off 1) 0x0202 off,
      runs (withCmd headUp 0x0203 [0]) 0x0203 [0], runs (withCmd busy 0x0203 [1]) 0x0203 [1], runs (withCmd busy 0x0203 [0]) 0x0203 [0],
      (loadOf (imgHead 65540 4) 65540 []).whole = none] : List Bool).all id = true ∧
    ([(busy.verdict (loadOf (imgHead 65540 4) 65540 [])).status ≠ stOk,
      (busy.verdict (loadOf (imgHead 65540 4) 65540 [])).status < 256, (loadOf [] 0 []).phase = .receiving,
      runs (withCmd headUp 0x0203 [0]) 0x0203 [0], { loadOf [] 0 [] with phase := .applying }.phase ≠ .receiving] : List Bool).all id = true := by
  decide +kernel

theorem witness_ImageTransfer_streams :
    (withCmd headUp 0x0201 (bytesOf 8 65540) 1).streams 0 (ioIn (imgHead 65540 4)) 256 0 =
      some (.ok ([⟨0x1000, 256, false⟩], imgHead 65540 4)) ∧
    (withCmd (loading []) 0x0202 (bytesOf 8 65536) 1).streams 0 (ioIn [1, 2, 3, 4]) 4 0 =
      some (.ok ([⟨0x1000, 4, false⟩], [1, 2, 3, 4])) := ⟨rfl, rfl⟩

/-- A block entry of a frame plan that ends the frame (KIND 2). -/
def lastEntry : List Byte := bytesOf 8 0x1000000

/-- A frame plan of such entries. -/
def planBytes : List Byte := (List.replicate 256 lastEntry).flatten ++ List.replicate 1088 0

theorem drop_entries (w r : List Byte) (n b : Nat) (h : b ≤ n) :
    ((List.replicate n w).flatten ++ r).drop (w.length * b) = (List.replicate (n - b) w).flatten ++ r := by
  induction b generalizing n with
  | zero => rfl
  | succ b ih =>
    obtain ⟨n, rfl⟩ : ∃ m, n = m + 1 := ⟨n - 1, by omega⟩
    rw [List.replicate_succ, List.flatten_cons, List.append_assoc, Nat.mul_succ, Nat.add_comm, ← List.drop_drop, List.drop_left,
      ih n (by omega), Nat.add_sub_add_right]

theorem planOk_planBytes (s : Sect) (h : s.body = planBytes) : planOk s = true := by
  have entry : ∀ b, b < 256 → imgField s.body (8 * b) 8 = 0x1000000 := by
    intro b hb
    have d := drop_entries lastEntry (List.replicate 1088 0) 256 b (by omega)
    rw [show lastEntry.length = 8 from rfl] at d
    obtain ⟨k, hk⟩ : ∃ k, 256 - b = k + 1 := ⟨255 - b, by omega⟩
    rw [h, planBytes, imgField, d, hk, List.replicate_succ, List.flatten_cons, List.append_assoc, List.take_left' (by rfl)]
    rfl
  have rest : ∀ o n, 2048 ≤ o → imgField s.body o n = 0 := by
    intro o n ho
    have d := drop_entries lastEntry (List.replicate 1088 0) 256 256 (by omega)
    rw [show lastEntry.length * 256 = 2048 from rfl] at d
    obtain ⟨k, rfl⟩ : ∃ k, o = 2048 + k := ⟨o - 2048, by omega⟩
    rw [h, planBytes, imgField, ← List.drop_drop, d]
    simp only [Nat.sub_self, List.replicate_zero, List.flatten_nil, List.nil_append, List.drop_replicate, List.take_replicate]
    generalize min n (1088 - k) = m
    induction m with
    | zero => rfl
    | succ m ih => rw [List.replicate_succ]; simp only [ofBytes, List.foldr_cons] at ih ⊢; rw [ih]; rfl
  unfold planOk
  simp only [Bool.and_eq_true, List.all_eq_true, List.mem_range]
  refine ⟨fun b hb => ?_, fun e he => ?_⟩
  · rw [entry b hb]; decide +kernel
  · rw [rest _ _ (by omega)]; rfl

/-- The header and the directory of a full image with what R261 requires: the plan and the assumptions of both dies. -/
def smallHead : List Byte :=
  let entry := fun (ty die off size : Nat) => bytesOf 2 ty ++ [BitVec.ofNat 8 die, 0, 0, 0, 0, 0] ++ bytesOf 8 off ++ bytesOf 8 size ++ bytesOf 8 0
  imgHead 6916 4 ++ (entry 6 0 384 3136 ++ (entry 6 1 3520 3136 ++ (entry 8 0 6656 128 ++ entry 8 1 6784 128)))

/-- That image but for its CRC. -/
def smallBody : List Byte := smallHead ++ (planBytes ++ (planBytes ++ List.replicate 256 0))

def smallImage : List Byte := smallBody ++ bytesOf 4 (imgCrc smallBody).toNat

def smallLoad : ImgLoad := loadOf (smallImage.take 256) 6916 [(0, smallImage)]

theorem smallBody_length : smallBody.length = 6912 := by decide +kernel

theorem smallImage_crc : (imgCrc (smallImage.take 6912)).toNat = imgField smallImage 6912 4 := by
  have h : smallImage.drop 6912 = bytesOf 4 (imgCrc smallBody).toNat := List.drop_left' smallBody_length
  rw [show smallImage.take 6912 = smallBody from List.take_left' smallBody_length, imgField, h,
    List.take_of_length_le (by rw [bytesOf_length]), ofBytes_bytesOf]
  generalize imgCrc smallBody = c
  have := c.isLt
  omega

/-- The sections of type 6 hold the plan. -/
theorem smallImage_plan : ((sectsOf smallImage).filter fun s => s.type == 6).all planOk = true := by
  have ix : imgField smallImage 0x24 2 = 4 ∧ (sectAt smallImage 0).offset = 384 ∧ (sectAt smallImage 0).size = 3136 ∧
      (sectAt smallImage 1).offset = 3520 ∧ (sectAt smallImage 1).size = 3136 ∧ (sectAt smallImage 2).type = 8 ∧
      (sectAt smallImage 3).type = 8 := by decide +kernel
  obtain ⟨h, o0, n0, o1, n1, t2, t3⟩ := ix
  have at0 : smallHead.length = 384 := by decide +kernel
  have len : planBytes.length = 3136 := by decide +kernel
  have all : smallImage = smallHead ++ (planBytes ++ (planBytes ++ (List.replicate 256 0 ++ bytesOf 4 (imgCrc smallBody).toNat))) := by
    simp only [smallImage, smallBody, List.append_assoc]
  have b0 : (sectAt smallImage 0).body = planBytes := by
    show (smallImage.drop (sectAt smallImage 0).offset).take (sectAt smallImage 0).size = planBytes
    rw [o0, n0, all, List.drop_left' at0, List.take_left' len]
  have b1 : (sectAt smallImage 1).body = planBytes := by
    show (smallImage.drop (sectAt smallImage 1).offset).take (sectAt smallImage 1).size = planBytes
    rw [o1, n1, all, show 3520 = 384 + 3136 from rfl, ← List.drop_drop, List.drop_left' at0, List.drop_left' len, List.take_left' len]
  rw [List.all_eq_true]
  intro s hs
  rw [List.mem_filter, sectsOf, h] at hs
  obtain ⟨hs, ht⟩ := hs
  simp only [List.range, List.range.loop, List.map_cons, List.map_nil, List.mem_cons, List.not_mem_nil, or_false] at hs
  rcases hs with rfl | rfl | rfl | rfl
  · exact planOk_planBytes _ b0
  · exact planOk_planBytes _ b1
  · rw [t2] at ht; exact absurd ht (by decide)
  · rw [t3] at ht; exact absurd ht (by decide)

theorem smallLoad_whole : smallLoad.whole = some smallImage := by
  unfold ImgLoad.whole
  rw [if_pos (by decide +kernel)]
  simp only [smallLoad, loadOf, List.flatMap_cons, List.flatMap_nil, List.append_nil]

/-- The head of a configuration that holds a load of a full image. -/
def applying : Hw := { headUp with img := { headUp.img with load := some smallLoad } }

theorem smallLoad_passes : (applying.verdict smallLoad).status = stOk := by
  have h : applying.identOk smallImage = true ∧ imgField smallImage 0xC0 64 = 0 ∧
      firstBad (sectOk smallImage) [] 0 (sectsOf smallImage) = none ∧ firstBad fullSectOk [] 0 (sectsOf smallImage) = none ∧
      coverAll smallImage (sectsOf smallImage) = true ∧ (imgField smallImage 0x40 1).testBit 0 = true ∧
      rangeFault smallImage = none ∧ applying.latencyFault smallImage = none := by decide +kernel
  obtain ⟨h1, h2, h3, h4, h5, h6, h7, h8⟩ := h
  have hl : smallLoad.length - 4 = 6912 := rfl
  have hh : smallLoad.head = smallImage.take 256 := rfl
  have hk : smallLoad.kind = 0 := rfl
  have hs : applying.stepping = .a1 := rfl
  unfold Hw.verdict
  simp only [smallLoad_whole, hl, hh, hk, hs, smallImage_crc, smallImage_plan, h1, h2, h3, h4, h5, h6, h7, h8, if_true,
    ne_eq, not_true_eq_false, if_false, Bool.not_true, Bool.false_or, bne_self_eq_false, Bool.false_eq_true, decide_true, Bool.and_false,
    Nat.zero_ne_one, decide_false, Bool.false_and]

theorem witness_ImageApplied :
    let h : Hw := { applying with img := { applying.img with applyPending := true } }
    ([h.img.applyPending, !h.busy, h.img.actions = 0, (inRun h .running).busy, !applying.img.applyPending,
      runs (withCmd applying 0x0203 [0]) 0x0203 [0], !applying.snapHolds, smallLoad.kind = 0, runs (withCmd (inRun applying .running) 0x0203 [0]) 0x0203 [0],
      (inRun applying .running).busy, (inRun applying .running).isHead, applying.conf.treePorts = []] : List Bool).all id = true ∧
    applying.img.load = some smallLoad ∧ smallLoad.whole = some smallImage ∧ (applying.verdict smallLoad).status = stOk :=
  ⟨by decide +kernel, rfl, smallLoad_whole, smallLoad_passes⟩

/-- A bay reload of module bay 31 in a phase, of an image that names no section and asks for LOFT_INIT. -/
def reloading (phase : Nat) : BayReload := ⟨31, List.replicate 12 0 ++ [1], phase, 3⟩

/-- The module with that reload at a clock of a running frame. -/
def bayUp (phase fclk : Nat) : Hw :=
  { headUp with seq := { headUp.seq with run := .running, inFrame := true, fclk := fclk, ticks := 9 },
                img := { headUp.img with bay := some (reloading phase) } }

theorem witness_BayReloadPhases :
    ([(bayUp 0 0).img.bay = some (reloading 0), (reloading 0).bay < 32, (bayUp 0 0).bayGo (reloading 0) false, (bayUp 2 0).bayGo (reloading 2) false,
      (reloading 3).loftInit, !(⟨31, [], 3, 3⟩ : BayReload).loftInit, (bayUp 4 0).bayTick (reloading 4),
      !(bayUp 0 1).bayGo (reloading 0) false, !(bayUp 2 1).bayGo (reloading 2) false, !(bayUp 4 1).bayTick (reloading 4)] : List Bool).all id = true := by
  decide +kernel

/-- FW_BLOCK of the last sector of a transfer of 8,196 bytes. -/
def lastBlock : List Byte := bytesOf 4 8192 ++ bytesOf 4 8196

/-- A complete transfer of one sector of zeros. -/
def fwUp : Hw :=
  { headUp with fw := { headUp.fw with transfer := some (4096, [0]), bankB := { sectors := [(0, List.replicate 4096 0)] } } }

/-- FW_ACTIVATE at once. -/
def actNow : List Byte := List.replicate 20 0

theorem witness_FirmwareUpdate :
    let verified : Hw := { headUp with fw := { headUp.fw with verified := true } }
    let open' : Hw := { headUp with fw := { headUp.fw with transfer := some (8192, [0]) } }
    let pending : Hw := { headUp with fw := { headUp.fw with pending := some (5, 0) }, seq := { headUp.seq with clk := 5 } }
    let switching : Hw := { headUp with host := { headUp.host with fwSwitch := true } }
    let stuck : Hw := { State.reset.hw with fw := { State.reset.hw.fw with stuck := true } }
    ([headUp.fw.active ≤ 1, lastBlock.length = 8, arg lastBlock 0 4 % 4096 = 0, arg lastBlock 4 4 = 8196, arg lastBlock 0 4 < 8196,
      begins (withCmd headUp 0x0B01 lastBlock 1) 0x0B01 lastBlock, headUp.fw.transfer = none,
      begins (withCmd open' 0x0B01 lastBlock 1) 0x0B01 lastBlock, open'.fw.transfer = some (8192, [0]),
      runs (withCmd headUp 0x0B02 []) 0x0B02 [], runs (withCmd fwUp 0x0B02 []) 0x0B02 [], fwUp.fw.transfer = some (4096, [0]),
      (List.range ((4096 + 4095) / 4096)).all [0].contains, fwCheck 0 4096 ((fwUp.fw.bank 1).bytes 4096) = some stRefused, stRefused < 256,
      actNow.length = 20] : List Bool).all id = true ∧
    ([arg actNow 0 1 = 0, arg actNow 1 3 = 0, arg actNow 18 2 = 0, runs (withCmd headUp 0x0B03 actNow) 0x0B03 actNow,
      headUp.conf.members = [], !headUp.fw.verified, runs (withCmd verified 0x0B03 actNow) 0x0B03 actNow,
      pending.fw.pending = some (5, 0), 5 ≤ pending.seq.clk, up.seq.clk < 5, switching.host.fwSwitch,
      (let asks : Hw := { pending with host := { pending.host with waits := [⟨.slot 7, 0x0303, [], [], [3], 0, none⟩] } }
       asks.host.waits.any (fun w => w.src == .slot 7 && w.phase == 0) && decide (5 ≤ asks.seq.clk)),
      !({ switching with fw := { switching.fw with fuses := 64 } } : Hw).fw.bootable switching.fw.active,
      switching.fw.bootable switching.fw.active, stuck.power.powered, !stuck.power.hot, stuck.fw.stuck,
      fwCheck 0 4 [0, 0, 0, 0] ≠ none] : List Bool).all id = true := by
  decide +kernel

/-- What only the public key and the hash decide is stated with them: a firmware image of 4,096 bytes passes when its signature
verifies and the hash of its body is the one it names. -/
def fwImage : List Byte :=
  bytesOf 4 0x57463646 ++ [0xF6, 0, 0, 0x64] ++ bytesOf 4 9 ++ bytesOf 4 3 ++ bytesOf 4 4096 ++ List.replicate 4076 0

theorem witness_FirmwareUpdate_passes
    (signed : Config.ecdsaVerify 0 (Config.sha256 (fwImage.take 0x40)) (BitVec.ofNat 512 (ofBytesBe ((fwImage.drop 0x40).take 64))) = true)
    (hashed : Config.sha256 ((fwImage.drop 0x80).take (4096 - 0x80)) = 0) : fwCheck 3 4096 fwImage = none := by
  have h : ofBytesBe ((fwImage.drop 0x20).take 32) = 0 := by decide +kernel
  have c : imgField fwImage 0xC 4 = 3 := by decide +kernel
  unfold fwCheck
  simp only [signed, hashed, h, c]
  decide +kernel

def nonceUp : Hw := { headUp with fw := { headUp.fw with nonce := some 5, failures := 4, lockLen := 60 } }
def lockedUp : Hw := { headUp with fw := { headUp.fw with lockLeft := 7 } }
def sessionUp : Hw := withRegs { headUp with fw := { headUp.fw with session := some 1 } } [(bankA 1 (4 * 63), 4)]

/-- ACCESS_RESPONSE by METHOD 1. -/
def response : List Byte := [1] ++ List.replicate 67 0

theorem witness_ServiceAccess :
    ([runs (withCmd headUp 0x0B05 []) 0x0B05 [], headUp.fw.lockLeft = 0, runs (withCmd lockedUp 0x0B05 []) 0x0B05 [],
      lockedUp.fw.lockLeft ≠ 0, response.length = 68, arg response 0 1 ≤ 1, arg response 1 3 = 0, arg response 36 32 = 0,
      runs (withCmd lockedUp 0x0B06 response) 0x0B06 response, headUp.fw.nonce = none, runs (withCmd headUp 0x0B06 response) 0x0B06 response,
      runs (withCmd nonceUp 0x0B06 response) 0x0B06 response, nonceUp.fw.nonce = some 5, nonceUp.fw.lockLeft = 0,
      sessionUp.fw.session ≠ none, runs (withCmd sessionUp 0x0B07 []) 0x0B07 [], sessionUp.fget (bankA 1 (4 * 63)) 2 0 = 4,
      ({ headUp with fw := { headUp.fw with lockLeft := headUp.clockUnitsLeft } } : Hw).fw.lockLeft ≠ 0,
      headUp.clockUnitsLeft < 10 ^ 9, headUp.fw.session = none, sessionUp.session, !headUp.session] : List Bool).all id = true := by
  decide +kernel

/-! ## Power states -/

/-- The module in power state n, with the registers of POWER as asked and a wake source once one has come. -/
def inPower (n : Nat) (rs : List (Nat × Word32)) (source : Option Nat) : Hw :=
  let h := withRegs headUp rs
  { h.setPstate n with power := { headUp.power with source := source, idleFor := 2 ^ 80 } }

/-- The module with an entry to power state n asked for. -/
def entering (h : Hw) (n : Nat) : Hw := { h with power := { h.power with goal := some n } }

/-- SLEEP with generator 31 as its alarm. -/
def alarmUp (now : Nat) : Hw :=
  let h := inPower 3 [(powerA 0x14, 4), (teA 31 0, 0x8000)] none
  { h with time := { h.time with aon := now, te := [(31, { armed := true, next := 10 ^ 9 * nsUnits })] } }

theorem witness_LowPower :
    let timers := fun n => inPower n [(powerA 4, 7)] none
    let sleepy : Hw := { headUp with host := { headUp.host with aspmL1 := true } }
    let wakeable := fun n => inPower n [(powerA 0x14, 0xE)] none
    ([headUp.power.goal = none, headUp.power.source = none, headUp.conf.members = [], runs (withCmd headUp 0x0901 [0]) 0x0901 [0],
      headUp.lowOk, runs (withCmd headUp 0x0901 [2]) 0x0901 [2], runs (withCmd sleepy 0x0901 [3]) 0x0901 [3], !sleepy.sleepBarred,
      sleepy.lowOk, runs (withCmd headUp 0x0901 [3]) 0x0901 [3], headUp.sleepBarred,
      runs (withCmd (inRun headUp .running) 0x0901 [1]) 0x0901 [1], !(inRun headUp .running).lowOk, !headUp.isMember,
      (timers 0).timeoutLen ≤ (timers 0).power.idleFor, (timers 1).timeoutLen ≤ (timers 1).power.idleFor,
      headUp.host.linkUp] : List Bool).all id = true ∧
    ([(timers 2).timeoutLen ≤ (timers 2).power.idleFor, (timers 0).pstate = 0, (timers 0).bget (powerA 4) 0, (timers 0).lowOk, (timers 0).power.goal = none,
      (timers 1).pstate = 1, (timers 1).bget (powerA 4) 1, (timers 2).pstate = 2, (timers 2).bget (powerA 4) 2,
      (timers 2).seq.mode ≠ .timed, !({ timers 2 with host := sleepy.host } : Hw).sleepBarred, (timers 2).conf.members = [],
      !(entering (timers 0) 1).deferredEntry, (entering (timers 0) 1).power.left = [], (entering (timers 0) 1).power.goal = some 1,
      (entering (timers 0) 1).power.source = none, (entering (timers 1) 2).power.source = none,
      (entering (wakeable 1) 2).wakesFrom 2 4 0, !(entering (wakeable 1) 2).wakesFrom 2 5 0,
      (entering (wakeable 2) 3).wakesFrom 3 4 0, !({ entering (wakeable 2) 3 with host := sleepy.host } : Hw).sleepBarred,
      (entering (wakeable 2) 3).lowOk, (entering (timers 1) 2).pstate < 2, (entering (timers 2) 3).pstate = 2, (entering (timers 2) 3).lowOk,
      (wakeable 3).pstate = 3] : List Bool).all id = true ∧
    ([(wakeable 3).bget (powerA 0x14) 1, (wakeable 3).bget (powerA 0x14) 3, (wakeable 2).bget (powerA 0x14) 3,
      (wakeable 3).power.source = none, (inPower 3 [] (some 2)).power.source ≠ none, (inPower 2 [] (some 4)).pstate = 2,
      (alarmUp 0).alarmCount = some 19660, (alarmUp 0).time.aon < 19660, (alarmUp 0).pstate = 3,
      (alarmUp 0).bget (powerA 0x14) 2, (alarmUp 19660).alarmCount = some 19660,
      (alarmUp 19660).time.aon = 19660, (alarmUp 19660).time.sleepCount = 0] : List Bool).all id = true := by
  decide +kernel

/-! ## Acquisition -/

/-- ACQ_ARM in AUTO mode of one segment for device 0, PRE 2 and POST 3. -/
def armArgs : List Byte := [2, 0, 0, 0] ++ bytesOf 4 2 ++ bytesOf 4 3 ++ [0, 0, 0, 0] ++ bytesOf 8 1

/-- A buffer of 1,024 records on die 1. -/
def acqUp : Hw := withRegs headUp [(acqA 8, 0), (acqA 0xC, 16), (acqA 0x10, 1024)]

/-- That buffer in an acquisition state, in AUTO mode. -/
def acqIn (state : Nat) : Hw := withRegs (inRun acqUp .running) [(acqA 0, 2), (acqA 0x24, BitVec.ofNat 32 state), (acqA 0x14, 2)]

/-- The lead's 0xFE has come. -/
def armSym : Sym := ⟨.trigger, 0xFE, 0, 5, 0⟩

def armDue (state : Nat) : Hw :=
  { acqIn state with seq := { (acqIn state).seq with syms := [armSym], clk := 5 } }

theorem witness_AcqArmAndStop :
    ([armArgs.length = 24, arg armArgs 0 1 ≤ 2, arg armArgs 2 2 = 0, arg armArgs 12 4 = 0, acqUp.conf.members = [],
      acqUp.domain (arg armArgs 16 8) = [acqUp.devIndex], headUp.domain (arg armArgs 16 8) = [headUp.devIndex],
      runs (withCmd acqUp 0x0701 armArgs) 0x0701 armArgs, (acqUp.reg (acqA 0x10)).toNat = 1024,
      1024 / (arg armArgs 1 1 + 1) ≥ arg armArgs 4 4 + arg armArgs 8 4 + 5, !acqUp.acqActive,
      runs (withCmd headUp 0x0701 armArgs) 0x0701 armArgs, (headUp.reg (acqA 0x10)).toNat = 0,
      (withRegs acqUp [(acqA 0x10, 9)]).reg (acqA 0x10) = 9, 9 / (arg armArgs 1 1 + 1) < arg armArgs 4 4 + arg armArgs 8 4 + 5,
      runs (withCmd (withRegs acqUp [(acqA 0x10, 9)]) 0x0701 armArgs) 0x0701 armArgs,
      (acqIn 4).acqActive, (acqIn 1).acqActive, runs (withCmd (acqIn 4) 0x0701 armArgs) 0x0701 armArgs,
      (acqIn 4).domain (arg armArgs 16 8) = [(acqIn 4).devIndex],
      runs (withCmd (acqIn 4) 0x0702 (bytesOf 8 1)) 0x0702 (bytesOf 8 1), (arg (bytesOf 8 1) 0 8).testBit 0,
      runs (withCmd (acqIn 4) 0x0702 (bytesOf 8 2)) 0x0702 (bytesOf 8 2), !(arg (bytesOf 8 2) 0 8).testBit 0,
      bit (0x400 : Word32) 10, (armDue 1).seq.syms = [armSym], armSym.origin = (armDue 1).fget (acqA 0x20) 13 8,
      armSym.eff ≤ (armDue 1).seq.clk, (armDue 1).acqState = 1, (armDue 2).acqState ≠ 1] : List Bool).all id = true ∧
    ([FarIdle (acqIn 4), FarIdle (armDue 1), (acqIn 4).snap.capture = none, (armDue 1).snap.capture = none, (withRegs (acqIn 4) [(powerA 0, 2)]).pstate = 2,
      (withRegs (acqIn 4) [(powerA 0, 2)]).acqActive] : List Bool).all id = true := by
  decide +kernel

/-- A record of die 0 at clock 9 of frame 4. -/
def someRec : AcqRec := ⟨4, 9, 7, 1 <<< 124, 0⟩

/-- The writer with that record next. -/
def writing (state : Nat) (f : AcqSt → AcqSt) : Hw := { acqIn state with acq := f { acqUp.acq with pq := [[someRec], []], armTag := (4, 9), lastFrame := 4 } }

/-- Channel 31 took its last sample at clock 8, and a crossing of comparator 7 on it triggers in a slot of state 0. -/
def crossUp : Hw :=
  let h := writing 2 fun a => { a with prev := [(31, some ⟨0, 4, 8, 0, 0⟩)] }
  withRegs h [(wchA 31 0, 1), (thrA 7 0, 31), (slotA 0 0 0, 0x72), (slotA 0 0 4, 0x20)]

theorem witness_AcqRecords :
    let without := fun (state : Nat) (f : AcqSt → AcqSt) => { writing state f with acq := { (writing state f).acq with pq := [[], []] } }
    let inst : TrigInst := ⟨4, 9, 0, 0, [], (0, 0), none, false⟩
    ([acqUp.nextRec = none, (writing 2 id).nextRec = some (someRec, without 2 id), (writing 2 id).acqState = 2,
      (writing 2 id).inSegment 4 9, (writing 2 fun a => { a with armTag := (4, 10) }).inSegment 4 9 = false,
      (writing 2 id).acq.insts = [], (writing 2 fun a => { a with insts := [inst] }).acq.insts = [inst], (writing 5 id).acqState = 5,
      (writing 4 fun a => { a with trigIndex := some 2 }).acq.postLeft = 0, (writing 4 id).acqState = 4,
      (writing 4 fun a => { a with trigIndex := some 2, postLeft := 1 }).acq.trigIndex ≠ none, (writing 2 id).acq.sinceBase < 4095,
      someRec.frame - (writing 2 id).acq.lastFrame < 2 ^ 36, someRec.gap = 0, someRec.ord ≠ 1000, (writing 2 id).snap.capture = none,
      (writing 2 id).acqMode = 2, (writing 3 id).acqState = 3, (withRegs (writing 4 id) [(acqA 0, 0)]).acqMode = 0,
      (withRegs (writing 4 id) [(acqA 0, 0x3FD)]).acqMode = 1, (withRegs (writing 4 id) [(acqA 0, 0x3FD)]).acqSegments = 256,
      (withRegs (writing 4 id) [(acqA 0, 0x3FD), (acqA 0x24, 0x7FC)]).acqSegment = 255,
      (writing 3 fun a => { a with autoAt := some (4, 12, 11) }).acq.autoAt = some (4, 12, 11)] : List Bool).all id = true ∧
    ([!(writing 2 id).mayPrecede someRec,
      crossUp.nextRec.map (·.1) = some someRec, crossUp.inSegment 4 9, crossUp.mayPrecede someRec, crossUp.acqState = 2, crossUp.acq.insts = [],
      (writing 2 fun a => { a with wlost := 7, wtag := (4, 8) }).acq.wlost ≠ 0, FarIdle (writing 2 id), (writing 2 id).acq.wlost = 0,
      FarIdle (writing 4 fun a => { a with trigIndex := some 2 }), (writing 4 fun a => { a with trigIndex := some 2 }).snap.capture = none, acqUp.acq.autoAt = none, acqUp.acqState ≠ 4] : List Bool).all id = true := by
  decide +kernel

/-- One record that waits is none too many, and there are states with too many. -/
theorem witness_AcqRecords_behind :
    ((writing 2 id).waitingRecs ≤ Config.writerRoom + 1 ∧ acqUp.waitingRecs ≤ Config.writerRoom + 1) ∧
    ∃ (h : Hw) (r : AcqRec) (rest : Hw), Config.writerRoom + 1 < h.waitingRecs ∧ h.newestRec = some (r, rest) := by
  refine ⟨⟨Nat.le_add_left 1 _, Nat.zero_le _⟩, { acq := { pq := [List.replicate (Config.writerRoom + 2) someRec] } }, ?_⟩
  simp [Hw.waitingRecs, Hw.newestRec, List.getLast?_replicate, firstBy]

/-- An instant of the trigger sequencer at which slots 2 and 3 of state 7 hold, before and after its timers were counted. -/
def inst7 (timers : Option (BitVec 4)) : TrigInst := ⟨4, 9, 0, 0xC0000000, [], (0, 0), timers, false⟩

/-- The sequencer in state 7 with that instant next: slots 0 to 3 test comparisons, and slot 2 goes to state 3. -/
def trigUp (timers : Option (BitVec 4)) : Hw :=
  let h := withRegs (acqIn 2) [(slotA 7 2 4, 0x13), (probeA 0xA70, 1)]
  { h with acq := { h.acq with insts := [inst7 timers], tstate := 7, tmrOn := 8 } }

theorem witness_TriggerSequencer :
    let run : Hw := { acqIn 2 with seq := { (acqIn 2).seq with inFrame := true } }
    let chan := fun rs => withRegs run ((userioA 0x104, 0x80000000) :: rs)
    ([(chan []).bget (userioA 0x104) 31, !(chan []).bget (userioA 0x104) 0, (chan []).frameClock, !acqUp.frameClock, (chan []).inRun, !acqUp.inRun,
      ({ chan [] with acq := { run.acq with inbox := [(31, 0x8000)] } } : Hw).acq.inbox = [(31, 0x8000)],
      (trigUp (some 0)).acq.autoAt = none,
      (chan [(wchA 31 0, 1)]).bget (wchA 31 0) 0, !(chan []).bget (wchA 31 0) 0,
      (trigUp (some 0)).acq.insts = [inst7 (some 0)], (inst7 (some 0)).timers = some 0, (trigUp (some 0)).slotTrue (inst7 (some 0)) 2,
      !(trigUp (some 0)).slotTrue (inst7 (some 0)) 0, !(trigUp (some 0)).slotTrue (inst7 (some 0)) 1,
      !((trigUp (some 0)).slotTrue { inst7 (some 0) with truth := 0 } 3), (trigUp (some 0)).reg (slotA 7 2 4) = 0x13, bit (0x13 : Word32) 4,
      !bit (0x13 : Word32) 5, !bit (0x13 : Word32) 6, fld (0x13 : Word32) 18 17 = 0, fld (0x13 : Word32) 22 21 = 0,
      (inst7 none).timers = none, (inst7 none).rearm = false, bit (trigUp none).acq.tmrOn 3,
      (trigUp none).reg64 (probeA (0xA40 + 16 * 3)) = 1, acqUp.acq.insts = []] : List Bool).all id = true := by
  decide +kernel

/-! ## The array -/

/-- Position q of frame 5, in course clock q, with these rows: both dies execute one block of 100 rows from row
0, die 0 with CAP, die 1 a WAIT block with wait set 31. -/
def courseAt (q : Nat) (rs : List (Nat × Row)) : Hw :=
  { headUp with
      rows := rs
      seq := { headUp.seq with
        run := .running, inFrame := true, frame := 5, fclk := q, pos := q, clk := 1000 + q
        path := [[⟨0, 0, 0, 100, 0, 3, 0, false⟩], [⟨0, 0, 0, 100, 1, 0, 31, false⟩]] } }

/-- A stored row of sound words (R47): instruction y at BPs 0 to 62, x at BP 63, and a control word. -/
def rowFor (y x : Ins) (c : Ctl) : Row :=
  let word := fun d : Ins => d.toNat + 2 ^ 48 * (secdedCheck 6 d).toNat
  let seg := fun s : Nat =>
    let d : Word64 := c.extractLsb' (64 * s) 64
    if d = 0 then 0 else d.toNat + 2 ^ 64 * (secdedCheck 7 d).toNat
  BitVec.ofNat 4184 (word y * ((2 ^ (55 * 63) - 1) / (2 ^ 55 - 1)) + word x * 2 ^ (55 * 63) +
    2 ^ 3520 * (List.range 9).foldr (fun s acc => seg s + 2 ^ 72 * acc) 0)

/-- The stored row of truss t of die d at position q: instruction x at BP 63, NOP elsewhere. -/
def rowOf (d t q : Nat) (x : Ins) (c : Ctl) : Nat × Row := (trussIx d t * 2048 + q, rowFor nopIns x c)

/-- The last BP of the module executes x. -/
def bpAt (x : Ins) (c : Ctl) : Hw := courseAt 99 [rowOf 1 511 99 x c]

/-- Control words: port operation `op` on port n with WORD w and LAST l; a loft operation at an address. -/
def portCtl (op n w l : Nat) : Ctl := BitVec.ofNat 576 (op * 2 ^ 128 + n * 2 ^ 132 + w * 2 ^ 139 + l * 2 ^ 141)
def loftCtl (op a : Nat) : Ctl := BitVec.ofNat 576 (a * 2 ^ 112 + op * 2 ^ 123)
/-- MARK_EN with code 127. -/
def markCtl : Ctl := BitVec.ofNat 576 (255 * 2 ^ 560)

/-- EVAL of bundle entry 255 on operand selects 0 to 4, with INV, drive and tap. -/
def evalIns : Ins := BitVec.ofNat 48 (255 * 2 ^ 38 + 0 * 2 ^ 31 + 1 * 2 ^ 24 + 2 * 2 ^ 17 + 3 * 2 ^ 10 + 4 * 2 ^ 3 + 7)
/-- LOFT with DIR 1, source select 0 and WEN; with DIR 0. -/
def loftIns (dir : Nat) : Ins := BitVec.ofNat 48 (2 ^ 46 + dir * (2 ^ 45 + 2 ^ 37) + 2)
/-- PORT of a SUBOP with source select 126. -/
def portIns (subop : Nat) : Ins := BitVec.ofNat 48 (2 * 2 ^ 46 + subop * 2 ^ 42 + 126 * 2 ^ 35)
def keepIns : Ins := BitVec.ofNat 48 (3 * 2 ^ 46 + 2 ^ 44)
def markIns : Ins := BitVec.ofNat 48 (3 * 2 ^ 46 + 2 * 2 ^ 44)

/-- Two wrong bits in BP 63's instruction; in control segment 0. -/
def badIns : Row := (1 : Row) <<< (55 * 63) ||| (1 : Row) <<< (55 * 63 + 1)
def badCtl : Row := (1 : Row) <<< 3520 ||| (1 : Row) <<< 3521

theorem witness_BooleanProcessors :
    let due := fun (h : Hw) (x : Ins) (k : BpClass) => h.ins 1 511 63 == some (x, false) && h.bpDue 1 511 63 && bpClass x == k
    let flip := fun (h : Hw) (e : Row) => { h with rows := h.rows.map fun r => (r.1, r.2 ^^^ e) }
    let marked := withRegs (bpAt markIns markCtl) [(traceA 0, 5)]
    ([due (bpAt evalIns 0) evalIns .eval, due (bpAt (loftIns 1) 0) (loftIns 1) .loft, due (bpAt (loftIns 0) 0) (loftIns 0) .loft,
      due (flip (bpAt (loftIns 1) 0) badCtl) (loftIns 1) .loft, due (bpAt (portIns 0) (portCtl 1 127 3 1)) (portIns 0) .port,
      (bpAt (portIns 0) (portCtl 1 127 3 1)).ctl 1 511 = some (portCtl 1 127 3 1), portField (portCtl 1 127 3 1) = some ⟨1, 127, 3, true⟩,
      subopPairs 0 1, opSupplies 1, due (bpAt (portIns 1) (portCtl 2 127 0 0)) (portIns 1) .port,
      portField (portCtl 2 127 0 0) = some ⟨2, 127, 0, false⟩, subopPairs 1 2, !opSupplies 2, !subopPairs 0 2,
      due (flip (bpAt (portIns 0) 0) badCtl) (portIns 0) .port, (flip (bpAt (portIns 0) 0) badCtl).ctl 1 511 = none,
      due (bpAt nopIns 0) nopIns .nop, due (bpAt keepIns 0) keepIns .keep, due marked markIns .mark, marked.ctl 1 511 = some markCtl,
      bit markCtl 567, marked.srcOn 1, marked.done = [], (flip (bpAt evalIns 0) badIns).ins 1 511 63 = some (evalIns ^^^ 3, true),
      (flip (bpAt evalIns 0) badIns).bpDue 1 511 63, !headUp.bpDue 1 511 63] : List Bool).all id = true := by
  decide +kernel

theorem witness_BooleanProcessorFrame :
    ([(bpAt evalIns 0).seq.checked = false, (bpAt evalIns 0).ins 1 511 63 = some (evalIns, false), (bpAt evalIns 0).ctl 1 511 = some 0,
      (bundleDecode ((bpAt evalIns 0).bundle (trussIx 1 511) (fld evalIns 45 38))).2 ≠ .bad, (bpAt evalIns 0).bpDue 1 511 63,
      portField (portCtl 1 127 3 1) = some ⟨1, 127, 3, true⟩] : List Bool).all id = true := by
  decide +kernel

/-- Truss 511 of die 1 with a state of its loft pipeline, executing a control word at position 99. -/
def loftAt (c : Ctl) (x : Ins) (k : Truss) : Hw := (courseAt 99 [(trussIx 1 511 * 2048 + 99, rowFor x x c)]).setTruss 1023 k

theorem witness_LoftSlot :
    let rd := loftAt (loftCtl 1 2047) nopIns {}
    let wr := loftAt (loftCtl 2 2047) (loftIns 1) {}
    let some' : Hw := { wr with rows := [rowOf 1 511 99 (loftIns 1) (loftCtl 2 2047)] }
    let rmw := loftAt 0 nopIns { rmw := [⟨2047, 1, 99⟩, ⟨0, 2, 100⟩] }
    ([!rd.seq.checked, rd.loftOp 1 511 = (.read, 2047), rd.done = [], !rd.loftBlocked 1023, (rd.loftSees 1023 2047).2 = .clean,
      wr.loftOp 1 511 = (.write, 2047), !wr.loftBlocked 1023, wr.snap.capture = none, wr.loftWriteBits 1 511 = (0xFFFFFFFFFFFFFFFF, 0),
      (wr.truss 1023).rmw = [], (some'.loftWriteBits 1 511).1 = 0x8000000000000000, some'.loftOp 1 511 = (.write, 2047),
      (some'.loftSees 1023 2047).2 = .clean, (loftAt (loftCtl 2 2047) nopIns {}).loftWriteBits 1 511 = (0, 0),
      (rmw.truss 1023).rmw = [⟨2047, 1, 99⟩, ⟨0, 2, 100⟩], rmw.snap.capture = none,
      (loftAt 0 nopIns { reads := [⟨99, 5, false⟩] }).execRow 1 = some 99,
      ((loftAt 0 nopIns { reads := [⟨99, 5, false⟩] }).truss 1023).reads = [⟨99, 5, false⟩],
      (loftAt 0 nopIns { wb := [⟨2047, 5, 98⟩] }).execClock, (loftAt 0 nopIns { wb := [⟨2047, 5, 98⟩] }).loftOp 1 511 = (.none, 0),
      ((loftAt 0 nopIns { wb := [⟨2047, 5, 98⟩] }).truss 1023).wb = [⟨2047, 5, 98⟩],
      (loftAt (loftCtl 1 2047) nopIns { blocked := some 99 }).loftBlocked 1023] : List Bool).all id = true := by
  decide +kernel

/-- Bank 63 of die 1 in a course whose home truss commands operation `op` at the last address. -/
def bankAt (op : Nat) : Hw :=
  let sel := fun m n : Nat => n * 2 ^ (152 + 7 * m)
  let c := (List.range 17).foldl (fun acc n => acc + sel (24 + n) (if n < 2 then (if op.testBit n then 121 else 120) else 121)) 0
  let h := courseAt 99 [rowOf 1 (homeTruss 63) 99 nopIns (BitVec.ofNat 576 c)]
  let h := { h with bankMem := [(127 * 32768 + 32767, decEncode 0x77)], bankValid := [(127 * 32768 + 32767, true)] }
  (withRegs h [(bankA 1 (4 * 63), 0), (bankA 1 0x100, 0x09070000)]).setTruss (trussIx 1 (homeTruss 63)) { outv := 0xAB }

theorem witness_BankCommands :
    let owned := fun op => withRegs (bankAt op) [(bankA 1 (4 * 63), 3)]
    let with' := fun (k : Bank) => (bankAt 0).setBank 127 k
    let reads := (bankAt 0).setTruss (trussIx 1 (homeTruss 63)) { reads := [⟨99, 5, true⟩] }
    ([[1, 2, 3].all (fun op => (bankAt op).bankCmd 1 63 == BitVec.ofNat 17 (0x1FFFC + op) && cmdOp (BitVec.ofNat 17 (0x1FFFC + op)) == op &&
        cmdAddr (BitVec.ofNat 17 (0x1FFFC + op)) == 32767 && ((bankAt op).execRow 1).isSome && (bankAt op).done == [] && ((bankAt op).bank 127).blocked == none &&
        (bankAt op).bankOwner 1 63 == 0 && ((bankAt op).bank 127).rmw == [] && (owned op).bankOwner 1 63 == 3),
      (owned 2).bankCmd 1 63 = 0x1FFFE,
      !(bankAt 1).seq.checked, (bankAt 1).bankWritten 127 32767, (decDecode ((bankAt 1).bankWord 127 32767)).2 = .clean,
      (bankAt 2).snap.capture = none, (bankAt 1).latFull 1 = 7, (bankAt 1).latMasked 1 = 9,
      ((with' { rmw := [⟨32767, 1, some 3, some 9, 99⟩] }).bank 127).rmw = [⟨32767, 1, some 3, some 9, 99⟩],
      reads.execRow 1 = some 99, (reads.truss (trussIx 1 (homeTruss 63))).reads = [⟨99, 5, true⟩],
      (with' { wb := [⟨32767, 5, 98⟩] }).bankCmd 1 63 = 0x1FFFC, cmdOp 0x1FFFC = 0, (with' { wb := [⟨32767, 5, 98⟩] }).execClock,
      ((with' { wb := [⟨32767, 5, 98⟩] }).bank 127).wb = [⟨32767, 5, 98⟩]] : List Bool).all id = true := by
  decide +kernel

/-! ## Ports of the array -/

/-- Truss 511 of die 1 performs a port operation at position 99. -/
def portAt (op n w l : Nat) : Hw := courseAt 99 [rowOf 1 511 99 nopIns (portCtl op n w l)]

/-- Which trusses name a port is a matter of the course alone. -/
theorem portUsers_same (h : Hw) (q : Store QPair) (w : Store (BitVec 256)) (c : CallsSt) (d u n : Nat) (b : Bool) :
    ({ h with qpairs := q, waitSets := w, calls := c } : Hw).portUsers d u n b = h.portUsers d u n b := rfl

theorem filterMap_range_one {α : Type} (f : Nat → Option α) (n k : Nat) (b : α) (hk : k < n) (hb : f k = some b)
    (h : ∀ i, i ≠ k → f i = none) : (List.range n).filterMap f = [b] := by
  have below : ∀ m, m ≤ k → (List.range m).filterMap f = [] := by
    intro m hm
    rw [List.filterMap_eq_nil_iff]
    exact fun i hi => h i (by have := List.mem_range.1 hi; omega)
  induction n with
  | zero => omega
  | succ n ih =>
    rw [List.range_succ, List.filterMap_append, List.filterMap_cons, List.filterMap_nil]
    by_cases hn : n = k
    · subst hn; rw [below n (Nat.le_refl n), hb]; rfl
    · rw [ih (by omega), h n hn]; rfl

/-- The NOP row's control word names no port. -/
theorem portField_zero : portField 0 = none := by decide +kernel

/-- The one truss of a die with a row of its own is the only one that can name a port. -/
theorem portUsers_one (h : Hw) (d t q : Nat) (row : Row) (c : Ctl) (o : PortOp) (hr : h.rows = [(trussIx d t * 2048 + q, row)])
    (hq : h.execRow d = some q) (ht : t < 512) (hc : h.ctl d t = some c) (ho : portField c = some o) :
    h.portUsers d (opUnit o.op) o.port (opSupplies o.op) = [(t, o)] := by
  apply filterMap_range_one _ 512 t _ ht
  · simp only [hc, ho, beq_self_eq_true, Bool.and_self, if_true]
  · intro u hu
    have key : trussIx d t * 2048 + q ≠ trussIx d u * 2048 + q := by unfold trussIx; omega
    have none' : h.rowListed (trussIx d u) q = none := by
      unfold Hw.rowListed
      simp only [hr, List.find?_cons, key, decide_false, List.find?_nil, Option.map_none]
    unfold Hw.ctl
    simp only [hq, none']
    by_cases hi : (h.isolated d u || h.marked d u q) = true
    · simp only [hi, if_true]
    · simp only [hi, Bool.false_eq_true, if_false, portField_zero]

/-- Truss 511 of die 1 alone names its port, with the fields that `portAt` gives. -/
theorem portAt_users (op n w l : Nat) (hc : (portAt op n w l).ctl 1 511 = some (portCtl op n w l))
    (ho : portField (portCtl op n w l) = some ⟨op, n, w, l == 1⟩) :
    (portAt op n w l).portUsers 1 (opUnit op) n (opSupplies op) = [(511, ⟨op, n, w, l == 1⟩)] :=
  portUsers_one _ 1 511 99 _ _ _ rfl rfl (by decide) hc ho

/-- Each port operation at the last port of its kind, as `portAt_users` asks. -/
theorem witness_ports :
    [(1, 127, 3, 0), (1, 127, 3, 1), (2, 127, 3, 1), (3, 127, 3, 1), (4, 3, 0, 0), (5, 7, 0, 0), (6, 31, 3, 0), (6, 31, 3, 1),
      (7, 31, 3, 1), (8, 31, 3, 1), (9, 127, 0, 0)].all (fun (op, n, w, l) =>
        decide ((portAt op n w l).ctl 1 511 = some (portCtl op n w l)) &&
          decide (portField (portCtl op n w l) = some ⟨op, n, w, l == 1⟩)) = true := by
  decide +kernel

/-- Pair 127 of die 1 with these contents, and every queue of wait set 31 awaited or none. -/
def pairAt (q : QPair) (await : BitVec 256) (op l : Nat) : Hw :=
  { portAt op 127 3 l with qpairs := [(255, q)], waitSets := [(63, await)] }

def fullResp : FmqResp := ⟨[1, 2, 3, 4], 10, 10, true, false⟩

/-- The states of `witness_ports`, with the pair's contents that the clauses name. -/
theorem witness_QueuePairs :
    let full : QPair := { reqs := List.replicate 256 ⟨[0, 0, 0, 0], 10, 10, false⟩ }
    ([!(pairAt {} 0 1 1).seq.checked, (pairAt {} 0 1 1).done = [], ((pairAt {} 0 1 1).qpair 255).outstanding = 0,
      Store.get 0 ((pairAt {} 0 1 1).qpair 255).asm 0 = 0, reqBad 0 = false, ((pairAt full 0 1 1).qpair 255).outstanding = 256,
      Store.get 0 ((pairAt { asm := [(0, 3)] } 0 1 1).qpair 255).asm 0 = 3, reqBad 3 = true,
      ((pairAt { resps := [fullResp] } 0 2 1).qpair 255).head = some fullResp, ((pairAt {} 0 2 1).qpair 255).head = none,
      (pairAt { resps := [fullResp] } (1 <<< 127) 3 1).waitGuarded 1 127 true,
      ((pairAt { resps := [fullResp] } (1 <<< 127) 3 1).qpair 255).head = some fullResp,
      !(pairAt {} 0 3 1).waitGuarded 1 127 true] : List Bool).all id = true := by
  decide +kernel

/-- A request to pair 255 with word 0 and data words 5, 6, 7. -/
def asked (w0 : Word64) : Hw :=
  let h := withRegs headUp [(farA 1 8, 1), (farA 1 0, 0x00040000)]
  { h with
      farValid := [(lineKey 1 0, true), (lineKey 1 131071, true)]
      qpairs := [(255, { reqs := [⟨[w0, 5, 6, 7], 0, 0, false⟩], resps := [⟨[1], 0, 0, false, false⟩] })] }

/-- FMQ requests in the DESIGN region of one MiB: a read of four words that wraps, a write of three with ACK, and a masked write; and
a read at the first word beyond the region. -/
theorem witness_FarRequests :
    let rd : Word64 := 131071 * 256 + 12
    let wr : Word64 := 3 * 256 + 16 + 8 + 1
    let mw : Word64 := 7 * 256 + 16 + 2
    let sound := fun (h : Hw) (w : Word64) => (List.range (reqLen w)).all fun i =>
      h.farWritten 1 (reqWordAddr w i) && decide ((decDecode (h.farWord 1 (reqWordAddr w i))).2 = .clean)
    ([((asked rd).qpair 255).reqs = [⟨[rd, 5, 6, 7], 0, 0, false⟩], (asked rd).snap.capture = none, (asked rd).reqOut 1 rd = none,
      reqOp rd = 0, reqLen rd = 4, sound (asked rd) rd, (asked wr).reqOut 1 wr = none, reqOp wr = 1, reqLen wr = 3, reqAck wr,
      sound (asked wr) wr, (asked mw).reqOut 1 mw = none, reqOp mw = 2, sound (asked mw) mw, reqAck mw,
      (asked (131072 * 256)).reqOut 1 (131072 * 256) = some 131072, reqOp (131072 * 256) = 0,
      (asked (131072 * 256 + 1)).reqOut 1 (131072 * 256 + 1) = some 131072, reqOp (131072 * 256 + 1) = 1,
      (asked (131072 * 256 + 2)).reqOut 1 (131072 * 256 + 2) = some 131072, reqOp (131072 * 256 + 2) = 2] : List Bool).all id = true := by
  decide +kernel

/-- The scrubber of die 1 at slot c. -/
def scrubAt (c : Nat) (rs : List (Nat × Word32)) : Hw := withRegs headUp ([(scrubA 1 0, 1), (scrubA 1 4, BitVec.ofNat 32 c)] ++ rs)

theorem witness_MemoryUpkeep :
    let last := 2 ^ 20 - 1
    let quiet := courseAt 100 []
    let loud := courseAt 99 []
    let read : ScrubRead := ⟨2, 511, 2047, false, none, bundleEncode 5, none, none⟩
    let owing := fun (ahead late : Store Nat) => { loud with refreshAhead := ahead, refreshLate := late }
    let test : Hw := { withRegs headUp [(hostifA 0x140, 0x00030007)] with
      calib := 9 * usUnits, host := { headUp.host with scrUsed := [(15, 6 * usUnits)], sliceFrom := some (6 * usUnits) } }
    ([Store.get none ({ headUp with farWb := [(farKey 1 (2 ^ 33 - 1), some 5)] } : Hw).farWb (farKey 1 (2 ^ 33 - 1)) = some 5,
      headUp.qpairs = [], quiet.quietPos 1, !loud.quietPos 1, (scrubAt last []).scrubOn 1, (scrubAt last []).done = [],
      (scrubAt last []).fget (scrubA 1 4) 19 0 = last, !(scrubAt last []).isolated 1 511, !(scrubAt last []).bget (scrubA 1 4) 20,
      (scrubAt last []).scrubSlotOf 1 = none, ({ scrubAt last [] with scrubSlots := [(1, some read)] } : Hw).scrubSlotOf 1 ≠ none,
      read.stored = none, bundleDecode read.bundle = (5, .clean), bundleDecode (read.bundle ^^^ 1) = (5, .corrected),
      rowFind nopRow = .clean, Store.get 0 (owing [] []).refreshAhead (refreshKey 1 63) = 0,
      Store.get 0 (owing [] []).refreshLate (refreshKey 1 63) = 0,
      Store.get 0 (owing [(127, 1)] []).refreshAhead (refreshKey 1 63) ≠ 0, Store.get 0 (owing [] [(127, 9)]).refreshLate (refreshKey 1 63) = 9,
      (scrubAt last [(trussA 1 0x100, 0xFFFFFFFF)]).isolated 1 511,
      test.bget (hostifA 0x140) 0, test.mpTakes, test.pstate < 3, !test.bget (hostifA 0x144) 15,
      test.host.slice = none, Store.get 0 test.host.scrUsed 15 + test.fget (hostifA 0x140) 15 1 * usUnits ≤ test.calib,
      test.host.sliceFrom = some (6 * usUnits), 6 * usUnits + max 1 (test.fget (hostifA 0x140) 31 16) * usUnits ≤ test.calib,
      ({ test with host := { test.host with slice := some ⟨15, false, 1⟩ } } : Hw).host.slice = some ⟨15, false, 1⟩,
      !test.bget (hostifA 0x144) 2] : List Bool).all id = true := by
  decide +kernel

/-- Whatever number of refreshes the memory standard lets a controller postpone, a state has postponed as many. -/
theorem witness_MemoryUpkeep_late :
    ∃ h : Hw, h.quietPos 1 = false ∧ Store.get 0 h.refreshAhead (refreshKey 1 63) = 0 ∧
      Config.refreshPostpone ≤ Store.get 0 h.refreshLate (refreshKey 1 63) :=
  ⟨{ courseAt 99 [] with refreshLate := [(127, Config.refreshPostpone)] }, by decide +kernel, rfl, Nat.le_refl _⟩

theorem witness_SupplyingPorts :
    let now := { portAt 4 3 0 0 with ioOut := [⟨0, 15, 1, 1⟩, ⟨20, 0, 1, 1⟩] }
    ([(portAt 4 3 0 0).done = [], (portAt 5 7 0 0).done = [], now.ioOut = [⟨0, 15, 1, 1⟩, ⟨20, 0, 1, 1⟩],
      (withRegs headUp [(userioA 60, 0x20)]).bget (userioA (4 * 15)) 5, headUp.ioOut = [], !headUp.bget (userioA (4 * 15)) 5,
      (portAt 6 31 3 1).done = []] : List Bool).all id = true := by
  decide +kernel

/-- Port 11 carries a crossing with L_X 20 and holds the group of position 79 of frame 5. -/
def crossAt (gs : List Group) : Hw :=
  let h := courseAt 99 []
  withRegs { h with conf := { h.conf with crossPorts := [11] }, ports := [(11, { state := .active, rxGroups := gs })] }
    [(eaveA 11 0x100, 20)]

theorem witness_FabricDeliveries :
    let source : Hw := { courseAt 0 [] with seq := { (courseAt 0 []).seq with vecSource := some (0, 511) } }
    let late : Hw := { source with seq := { source.seq with schedLen := 7 } }
    ([(courseAt 99 []).execClock, (courseAt 99 []).execRow 1 = some 99, (courseAt 99 []).done = [], failingGroups 0 0 = [],
      failingGroups 1 0 ≠ [], failingGroups 0 0x800 = [11], !(courseAt 99 []).bget (bridgeA 1 4) 31, (crossAt []).execClock,
      (crossAt []).conf.crossPorts.contains 11, ((crossAt []).port 11).state = .active, (crossAt []).fget (eaveA 11 0x100) 8 0 = 20,
      (crossAt []).seq.pos = 99, (crossAt []).seq.pos < (crossAt []).seq.schedLen, ((crossAt []).port 11).groupFor 5 79 = none,
      ((crossAt [⟨5, 79, 3⟩]).port 11).groupFor 5 79 = some ⟨5, 79, 3⟩, source.execClock, source.seq.vecSource = some (0, 511),
      source.segAt 0 0 = some ⟨0, 0, 0, 100, 0, 3, 0, false⟩, source.seq.pos + source.seq.horizon ≤ source.seq.schedLen,
      late.execClock, late.seq.schedLen < late.seq.pos + late.seq.horizon] : List Bool).all id = true := by
  decide +kernel

/-! ## Calls -/

/-- A call of port 63 with class 7 that takes a result. -/
def someCall : Call := ⟨5, 63, 7, 3, true, true, 0x1234, 4, 9, 4, [], false, false, .waiting, 0, 63, 0⟩

def callUp (calls : CallsSt) (rs : List (Nat × Word32)) : Hw :=
  let h := withRegs headUp rs
  { h with calls := calls, seq := { h.seq with frame := 5 } }

/-- Worker 31 serves class 7, and takes dispatch rings. -/
def workerRegs : List (Nat × Word32) := [(callsA (0x800 + 8 * 7), 0x80000000), (callsA (0x1000 + 64 * 31), 1)]

/-- The raise of port 63 with a configuration and a dependence mask. -/
def raiseOf (cfg : Word32) (mask : Word64) : Raise := ⟨4, 9, 63, cfg, mask, 0x1234⟩

theorem witness_CallRaiseAndRelease :
    let cfg : Word32 := 1 + 7 * 2 + 2 ^ 24
    let one := fun (cfg : Word32) (mask : Word64) (rs : List (Nat × Word32)) =>
      callUp { raises := [raiseOf cfg mask], slots := [(0, some { someCall with port := 0, deps := [9] })] } rs
    let due := fun (deps : List Nat) => callUp { slots := [(4095, some { someCall with state := .delayed, deps := deps })] } workerRegs
    ([Store.rising (one cfg 0 []).calls.slots, (one cfg 0 []).callList.all fun x => x.2.deps != [],
      firstBy Raise.before (one 0 0 []).calls.raises = some (raiseOf 0 0), (one cfg 0 []).freeSlot = some 1, fld cfg 23 16 = 0,
      (one cfg 0 workerRegs).predecessors 63 0 = [], (one cfg 1 []).predecessors 63 1 = [0], fld (0xFF0001 : Word32) 23 16 = 255,
      ((one 0xFF0001 0 []).callList.filter fun x => x.2.state == .delayed).length = 0, fld cfg 8 1 = 7,
      (one cfg 0 workerRegs).chooseWorker 7 = some 31, (one cfg 0 []).chooseWorker 7 = none, bit cfg 24,
      (due []).callList = [(4095, { someCall with state := .delayed })], someCall.release ≤ (due []).seq.frame.toNat,
      (due []).chooseWorker 7 = some 31, (due [9]).callList.all fun x => x.2.deps != [],
      headUp.calls.slots = []] : List Bool).all id = true := by
  decide +kernel

/-- Slot 4,095 holds a call in a state. -/
def callIn (c : Call) (rs : List (Nat × Word32)) : Hw :=
  { callUp { slots := [(4095, some c)], ready := [(31, [4095]), (32, [4095])] } rs with bme := true }

/-- A completion record of slot 4,095, generation 5, status FAILED. -/
def someRecord : List Byte := bytesOf 4 (4095 + 5 * 2 ^ 12 + 2 ^ 16) ++ List.replicate 60 0

/-- A member of the configuration of module 5; a head that member 63 has asked for a record of its worker 31. -/
def member : Hw := { headUp with conf := { headUp.conf with head := 5 } }
def askUp : Hw := { headUp with bme := true, host := { headUp.host with asks := [(63, 31, 0x1000)] } }

theorem witness_CallService :
    let ready := callIn { someCall with state := .ready 31 } workerRegs
    let readyMp := callIn { someCall with cls := 0xF0, state := .ready 32 } []
    let a := callsA (0x1000 + 64 * 31)
    let ran := callIn { someCall with state := .running 31 } [(a + 0x24, 8191), (a + 0x20, 8190)]
    let mp := fun (cls : Nat) (args : BitVec 256) (mib : Word32) => callIn { someCall with cls := cls, args := args, state := .running 32 }
      [(farA 1 8, mib)]
    let valid := fun h : Hw => { h with farValid := [(lineKey 1 131068, true)] }
    let top : BitVec 256 := 131068 * 8
    ([Store.rising ready.calls.slots, ready.snap.capture = none, ready.readyList 31 = [4095],
      ready.call 4095 = some { someCall with state := .ready 31 }, ready.bget a 0, ringSize (ready.fget a 11 8) = 16,
      ready.fget (a + 0x18) 12 0 = 0, ready.fget (a + 0x1C) 12 0 = 0, ready.bme, !ready.isMember,
      readyMp.readyList 32 = [4095], readyMp.runningOn 32 = [], readyMp.calls.mpLost = none, readyMp.host.ready, !readyMp.host.fwSwitch,
      mpServes 0xF0, ran.call 4095 = some { someCall with state := .running 31 }, someRecord.length = 64,
      fld (BitVec.ofNat 32 (ofBytes (someRecord.take 4))) 11 0 = 4095, fld (BitVec.ofNat 32 (ofBytes (someRecord.take 4))) 15 12 = 5,
      ran.fget (a + 0x24) 12 0 = 8191, ran.fget (a + 0x20) 12 0 = 8190,
      (mp 0xF0 0 1).call 4095 = some { someCall with cls := 0xF0, args := 0, state := .running 32 }, (mp 0xF0 0 1).calls.mpLost = none,
      (mp 0xF1 top 1).mpAddr { someCall with args := top } = some (1, 131068),
      [0, 1, 2, 3].all (fun i => (valid (mp 0xF1 top 1)).farWritten 1 (131068 + i) &&
        decide ((decDecode ((valid (mp 0xF1 top 1)).farWord 1 (131068 + i))).2 = .clean)),
      (mp 0xF2 (131072 * 8) 1).mpAddr { someCall with args := 131072 * 8 } = none,
      (callIn { someCall with state := .held } []).deliverable { someCall with state := .held }] : List Bool).all id = true ∧
    ([FarIdle (mp 0xF0 0 1), !({ ran with bme := false } : Hw).bme, member.isMember,
      askUp.host.asks.find? (fun k => k.1 == 63 && k.2.1 == 31) = some (63, 31, 0x1000), askUp.bme] : List Bool).all id = true := by
  decide +kernel

/-- Port 63 with its result queue, and every queue of wait set 31 awaited or none. -/
def resultAt (full : Bool) (await : BitVec 256) (op : Nat) : Hw :=
  let calls : CallsSt := { slots := [(4095, some { someCall with state := .delivered })], results := if full then [(63, [4095])] else [] }
  { portAt op 31 3 1 with calls := calls, waitSets := [(63, await)] }

/-- The states of `witness_ports`, with the port's results that the clauses name. -/
theorem witness_CallPullsAndCancel :
    let delivered := { someCall with state := .delivered }
    let cancel : Word32 := 4095 + 5 * 2 ^ 12
    let ready := callIn { someCall with state := .ready 31 } []
    ([!(resultAt true 0 7).seq.checked, (resultAt true 0 7).done = [], (resultAt true 0 7).headResult 63 = some (4095, delivered),
      (resultAt false 0 7).headResult 63 = none, (resultAt true (1 <<< 159) 8).waitGuarded 1 (0x80 + 31) true,
      !(resultAt false 0 8).waitGuarded 1 (0x80 + 31) true, (resultAt false (1 <<< 159) 8).waitGuarded 1 (0x80 + 31) true,
      fld cancel 11 0 = 4095, fld cancel 15 12 = 5, ready.call 4095 = some { someCall with state := .ready 31 },
      Call.active { someCall with state := .ready 31 }, Store.rising ready.calls.slots, !Call.active delivered,
      headUp.call 4095 = none] : List Bool).all id = true := by
  decide +kernel

/-! ## Frames -/

/-- Position q of frame 5 in course clock `fclk`, at the end of an empty frame whose next frame-go has come. -/
def tickAt (q fclk : Nat) (f : Seq → Seq) : Hw :=
  let h := courseAt q []
  { h with seq := f { h.seq with fclk := fclk, goEff := true, allowance := 101 } }

def halt3 : PendHalt := ⟨3, 0, 900, 1100⟩

theorem witness_FrameTicks :
    let due := tickAt 100 101
    let wide : Hw := { tickAt 109 120 id with conf := { headUp.conf with formed := true, members := [63] } }
    let cut : Hw := { due (fun q => { q with starting := some 1, halts := [halt3], goEff := false }) with
      conf := { headUp.conf with formed := true, head := 63, uplink := none } }
    ([(due id).snap.capture = none, (due id).seq.levelDue = none, (due id).seq.path.length = 2, (due id).seq.starting = none,
      (due id).seq.inFrame, (due id).seq.run = .running, (due id).seq.allowance ≤ (due id).seq.fclk, (due id).endWindow = 0,
      (due id).seq.pos = (due id).seq.schedLen, (due id).kindNow = .exec, (due id).seq.halts = [], (due id).seq.mode ≠ .step,
      (due fun q => { q with halts := [halt3] }).seq.halts = [halt3], halt3.eff ≤ (due id).seq.clk,
      (due fun q => { q with mode := .step, stepCount := 1 }).seq.stepCount = 1,
      (due fun q => { q with starting := some 0 }).seq.starting = some 0, (due fun q => { q with starting := some 1 }).seq.goEff,
      (due fun q => { q with starting := some 2 }).seq.starting = some 2,
      (due fun q => { q with starting := some 0, halts := [halt3] }).seq.starting = some 0, wide.endWindow = 8,
      wide.seq.schedLen + wide.endWindow < wide.seq.pos, wide.seq.allowance ≤ wide.seq.fclk, cut.cutOff, cut.seq.goEff = false,
      cut.seq.starting = some 1, cut.seq.halts = [halt3], cut.seq.run = .running, cut.snap.capture = none,
      (tickAt 99 101 id).seq.pos < (tickAt 99 101 id).seq.schedLen, (tickAt 100 100 id).seq.fclk < 101,
      (due fun q => { q with goEff := false }).isMember = false] : List Bool).all id = true := by
  decide +kernel

/-- The test course of a WAIT block on die 1, whose wait set 31 awaits queue 127 or nothing. -/
def waitAt (await : BitVec 256) : Hw := { courseAt 0 [] with waitSets := [(63, await)] }

/-- A request of die 1's wait set 31, made 1,000 clocks ago. -/
def ownReq : StallReq := ⟨0, 15, 107, some (1, 31), 0, false, false⟩

def stalled (await : BitVec 256) (limit : Word32) : Hw :=
  let h := withRegs (waitAt await) [(seqA 1 0x30, limit)]
  { h with seq := { h.seq with stallReqs := [ownReq] } }

/-- The head of two modules, `n` of whose last 100 clocks were stretch clocks. -/
def lagging (n : Nat) : Hw :=
  let h := courseAt 50 []
  { h with
    conf := { h.conf with formed := true, members := [63] }
    seq := { h.seq with horizon := 100, lagClks := List.range' 1000 n } }

theorem witness_WaitsAndStretch :
    ([(tickAt 99 93 id).isHead, (tickAt 99 93 id).seq.goSent = false, (tickAt 99 93 id).seq.mode ≠ .timed,
      (tickAt 99 93 id).seq.allowance ≤ (tickAt 99 93 id).seq.fclk + (tickAt 99 93 id).seq.horizon,
      (tickAt 99 92 id).seq.fclk + (tickAt 99 92 id).seq.horizon < (tickAt 99 92 id).seq.allowance,
      (waitAt 0).execClock, !(waitAt 0).seq.checked, (waitAt 0).segAt 1 0 = some ⟨0, 0, 0, 100, 1, 0, 31, false⟩, (waitAt 0).done = [],
      ((waitAt 0).waitQueues 1 31).all ((waitAt 0).queueReady 1), !((waitAt (1 <<< 127)).waitQueues 1 31).all ((waitAt (1 <<< 127)).queueReady 1),
      (stalled 0 5).seq.stallReqs = [ownReq], ownReq.own = some (1, 31), ownReq.sent = false,
      ((stalled 0 5).waitQueues 1 31).all ((stalled 0 5).queueReady 1),
      !((stalled (1 <<< 127) 5).waitQueues 1 31).all ((stalled (1 <<< 127) 5).queueReady 1),
      max 1 ((stalled 0 1000).reg (seqA 1 0x30)).toNat ≤ (stalled 0 1000).seq.clk - ownReq.t0,
      (stalled 0 1001).seq.clk - ownReq.t0 < max 1 ((stalled 0 1001).reg (seqA 1 0x30)).toNat,
      (waitAt 0).arrayClock, !(waitAt 0).seq.stretchedNow, (waitAt 0).multi = false, (waitAt 0).seq.inFrame,
      (waitAt 0).seq.run ≠ .empty, (stalled 0 5).seq.run ≠ .empty, (stalled 0 5).seq.inFrame,
      (lagging 7).seq.run ≠ .empty] : List Bool).all id = true ∧
    [7, 8].map (fun n => (((lagging n).seq.clk :: (lagging n).seq.lagClks).filter fun c => decide ((lagging n).seq.clk < c + 100)).length) =
      [8, 9] ∧ (lagging 8).multi = true ∧ (lagging 8).arrayClock = true ∧ (lagging 8).seq.inFrame = true := by
  decide +kernel

theorem witness_SymbolsTakeEffect :
    ([(courseAt 0 []).seq.srcPending = none, (63 : Nat) ≠ (courseAt 0 []).devIndex, (courseAt 0 []).seq.inFrame,
      (courseAt 0 []).seq.run = .running, 1019 % 8 = 3, 1023 % 2 = 1, (courseAt 0 []).seq.level < 3, 1020 % 256 < 0xFD,
      headUp.seq.run = .held, 960 % 8 = 0, !(Nat.testBit 960 5), 961 % 8 = 1, !(Nat.testBit 961 5), 962 % 8 = 2, !(Nat.testBit 962 5),
      988 % 8 = 4, 988 / 8 % 4 ≠ headUp.seq.level, !headUp.seq.checked, 996 % 8 = 4, 996 / 8 % 4 = headUp.seq.level, 992 % 8 = 0,
      Nat.testBit 992 5, (courseAt 0 []).seq.stretchLog.isEmpty, headUp.seq.srcPending = none] : List Bool).all id = true := by
  decide +kernel

/-- LEVEL_CHANGE from level 1 to level 3. -/
def changing (running : Bool) (phase : Nat) : Hw :=
  let h := inRun headUp .levelChange
  { h with seq := { h.seq with level := 1, levelReq := 3, levelChg := some ⟨running, 1, 3, phase, false⟩ } }

theorem witness_LevelChanges :
    let slowed : Hw := { headUp with seq := { headUp.seq with throttled := true } }
    let held : Hw := { changing false 1 with seq := { (changing false 1).seq with srcPending := some 3 } }
    let asked : Hw := { changing false 0 with seq := { (changing false 0).seq with srcPending := some 3 } }
    ([asked.seq.levelChg = some ⟨false, 1, 3, 0, false⟩, asked.seq.srcPending = some 3, (changing false 0).seq.srcPending = none,
      held.seq.levelChg = some ⟨false, 1, 3, 1, false⟩, held.seq.srcPending = some 3, (changing true 1).seq.srcPending = none,
      up.seq.run = .empty, headUp.seq.run ≠ .empty, (changing false 0).seq.levelChg = some ⟨false, 1, 3, 0, false⟩, (changing true 0).seq.levelChg = some ⟨true, 1, 3, 0, false⟩,
      (changing true 0).isHead, (changing true 1).seq.levelChg = some ⟨true, 1, 3, 1, false⟩, slowed.seq.throttled,
      !headUp.seq.throttled] : List Bool).all id = true := by
  decide +kernel

/-! ## Links -/

/-- Port 11 in a state, with its registers. -/
def eaveUp (st : PortState) (f : EavePort → EavePort) (rs : List (Nat × Word32) := []) : Hw :=
  { withRegs headUp rs with ports := [(11, f { state := st, started := true })] }

/-- Lanes 0 to n - 1 are ready in both directions. -/
def readyLanes (n : Nat) (p : EavePort) : EavePort :=
  { p with lanes := List.replicate n { ready := true, partnerReady := true } ++ List.replicate (19 - n) {} }

/-- Port 11, ACTIVE and uplink of a member, carries the configuration. -/
def carrying (run : RunState) : Hw :=
  let h := inRun (eaveUp .active id [(0x44, 0x42)]) run
  { h with conf := { h.conf with formed := true, head := 63, treePorts := [11], crossPorts := [11], uplink := some 11 } }

theorem witness_EavePortStates :
    let off := { eaveUp .disabled (fun p => { p with started := false }) [(eaveA 11 0, 1)] with ports := [] }
    let detect := eaveUp .detect id [(eaveA 11 0x10, 0x7FF)]
    let train := eaveUp .train (readyLanes 17) [(eaveA 11 0x10, 0xFFF)]
    ([off.host.ready, (off.port 11).state = .disabled, off.bget (eaveA 11 0) 0, (detect.port 11).state = .detect,
      fld (detect.reg (eaveA 11 0x10)) 31 19 = 0, onesOf (detect.reg (eaveA 11 0x10) ||| (0x40000 : BitVec 19).setWidth 32) 19 = 12,
      onesOf (detect.reg (eaveA 11 0x10)) 19 = 11, (train.port 11).state = .train,
      onesOf (train.reg (eaveA 11 0x10) &&& ~~~ (1 : BitVec 19).setWidth 32) 19 = 11, (train.port 11).readyLanes.length = 17,
      (train.port 11).partnerLanes.length = 17, ((eaveUp .train (readyLanes 16)).port 11).readyLanes.length = 16,
      ((eaveUp .align id).port 11).state = .align, ((eaveUp .calibrate id).port 11).state = .calibrate,
      ((eaveUp .retryWait id).port 11).state = .retryWait, bit (3 : Word32) 0, bit (3 : Word32) 1, !bit (0 : Word32) 0,
      ((eaveUp .disabled id).port 11).started, ((eaveUp .active id).port 11).rxSleep = 0, detect.pstate = 0, train.pstate < 3,
      (withRegs detect [(powerA 0, 1)]).pstate ≠ 0, !(eaveUp .active id).carries 11] : List Bool).all id = true ∧
    ([(eaveUp .detect (fun p => { p with savedTaps := some (List.replicate 19 (7, 19)) }) [(eaveA 11 0x10, 0x7FF)]).port 11 |>.savedTaps.isSome,
      (carrying .running).carries 11, (carrying .running).framesOn, (carrying .running).seq.run ≠ .empty, (carrying .held).carries 11, !(carrying .held).framesOn,
      (carrying .held).pstate < 3,
      (carrying .held).conf.uplink = some 11, ((carrying .held).port 11).state = .active, ((carrying .held).port 11).rxSleep = 0,
      ((eaveUp .absent id).port 11).state ≠ .disabled, ((eaveUp .train (readyLanes 16)).port 11).partnerLanes.length < 17] : List Bool).all id =
      true := by
  decide +kernel

/-- The COEFF block of a lane with a request (Table 8.4). -/
def coeffWord (l req : Nat) : Word64 := BitVec.ofNat 64 (0xC5 + 2 ^ 8 * l + 2 ^ 16 * req + 2 ^ 23)

/-- Port 11 with a spare sequence. -/
def sparing (s : Spare) (busy : Bool) : Hw :=
  let h := eaveUp .active fun p => { p with spare := some s }
  if busy then { inRun h .running with conf := { h.conf with crossPorts := [11] } } else h

/-- A block as COEFF_BLOCK brings it: its payload and its header. -/
def rejoined (b : BitVec 66) : BitVec 66 := b.extractLsb' 2 64 ++ b.extractLsb' 0 2

/-- Lane 18 of port 11 in TRAIN, with its LANE_LOCK bit, gets a COEFF block. -/
def coeffUp (good : Nat) (bad : Nat) (lock : Bool) : Hw :=
  eaveUp .train (fun p => { p with lanes := List.replicate 18 {} ++ [{ good := good, hdrs := List.replicate bad false }] })
    [(eaveA 11 0xC, if lock then 0x40000 else 0)]

theorem witness_EaveLanes_lock :
    let locks := fun h : Hw =>
      let x := (h.port 11).lane 18
      let r := x.receive (rejoined (({} : Lane).block true (coeffWord 18 0)).1)
      let ok := r.1 == 1 || r.1 == 2
      r.1 == 2 && fld r.2.1 7 0 == 0xC5 && fld r.2.1 12 8 == 18 && (h.port 11).lanes.length == 19 &&
        (decide ((((ok :: x.hdrs).take 64).filter (!·)).length < 16) &&
          (decide ((if ok then min 64 (x.good + 1) else 0) = 64) || h.bget (eaveA 11 0xC) 18))
    [locks (coeffUp 62 0 false), locks (coeffUp 63 0 false), locks (coeffUp 0 15 true), locks (coeffUp 64 16 true)] =
      [false, true, true, false] := by
  decide +kernel

theorem witness_EaveLanes :
    let other := fun (w : Word64) (ctl : Bool) =>
      let h := coeffUp 64 0 true
      let r := ((h.port 11).lane 18).receive (rejoined (({} : Lane).block ctl w).1)
      h.pstate == 0 && (h.port 11).state == .train && (r.1 != 2 || fld r.2.1 7 0 != 0xC5 || fld r.2.1 12 8 != 18)
    let gives := fun (w : Word64) (l : Nat) =>
      let r := ({} : Lane).receive (rejoined (({} : Lane).block true w).1)
      r.1 == 2 && r.2.1 == w && fld w 7 0 == 0xC5 && fld w 12 8 == l && r.2.2.statPre == 0 && r.2.2.statPost == 0
    ([gives (coeffWord 18 0) 18, gives (coeffWord 18 (5 * 2 ^ 4)) 18, fld (coeffWord 18 0) 22 16 = 0,
      fld (coeffWord 18 (5 * 2 ^ 4)) 22 20 = 4 + 1, ((eaveUp .train id).port 11).lanes = List.replicate 19 {},
      other (coeffWord 17 0) true, other 0x1E true, other 0 false, (eaveUp .train id).pstate = 0] : List Bool).all id = true := by
  decide +kernel

theorem witness_EaveLaneControl :
    let asleep := fun n : Nat => eaveUp .active fun p => { p with txSleep := n, rxSleep := n }
    let tree : Hw := { asleep 0 with conf := { (asleep 0).conf with formed := true, head := 63, treePorts := [11], uplink := some 11 } }
    ([((eaveUp .active id).port 11).spare.isNone, (eaveUp .train id).pstate < 2, ((eaveUp .train id).port 11).state ≠ .active,
      tree.carries 11, !(asleep 0).carries 11, (asleep 0).pstate = 0, fld (0 : Word32) 1 0 % 3 = 0, fld (1 : Word32) 1 0 % 3 = 1,
      ((sparing ⟨17, true, 1024, false⟩ false).port 11).spare = some ⟨17, true, 1024, false⟩,
      !((sparing ⟨17, true, 1024, false⟩ false).carries 11),
      (sparing ⟨17, true, 1024, false⟩ true).carries 11 && (sparing ⟨17, true, 1024, false⟩ true).busy,
      ((eaveUp .active fun p => { p with rxSleep := 1 }).port 11).rxSleep = 1, (eaveUp .active id).pstate = 0, fld (3 : Word32) 1 0 % 3 = 0,
      ((asleep 1).port 11).txSleep = 1, ((asleep 2).port 11).txSleep = 2, ((asleep 2).port 11).rxSleep = 2, !(asleep 2).carries 11,
      ((asleep 2).port 11).state = .active, ((eaveUp .active id).port 11).rxSleep = 0, ((eaveUp .active id).port 11).txSleep = 0,
      fld (2 : Word32) 1 0 % 3 = 2] : List Bool).all id = true := by
  decide +kernel

/-- The blocks that a transmitter with cleared scramblers sends for a payload, on identity roles (R226, R236, R244). -/
def blocksOf (ctl : Bool) (v : Nat) : List (BitVec 66) :=
  let ws := rsEncode (withCrc (BitVec.ofNat 1024 v))
  (List.range 19).map fun l => (({} : Lane).block ctl (ws.getD l 0)).1

/-- What port 11, in a state, makes of those blocks. -/
def taken (st : PortState) (f : EavePort → EavePort) (ctl : Bool) (v : Nat) (ok : Bool → BitVec 1024 → EavePort → Bool) : Bool :=
  let x := (eaveUp st f).rxSet 11 (blocksOf ctl v)
  (eaveUp st f).rxOpen 11 && (blocksOf ctl v).length == 19 && (match x.1 with
    | .data v => ok false v (x.2.port 11)
    | .control v => ok true v (x.2.port 11)
    | _ => false)

def noSymbols (v : BitVec 1024) : Bool := fld v 35 32 == 0 && fld v 67 64 == 0

/-- Slot groups: without a symbol, with SSEQ right and wrong, and with a HALT_NOW. -/
theorem witness_EaveBlockSets_data :
    (taken .active id false (1 + 2 ^ 4 * 79 + 2 ^ 20 * 5 + 2 ^ 96 * 3) (fun c v p => !c && fld v 3 0 == 1 && noSymbols v &&
      fld v 31 24 == p.sseqRx) && taken .active (fun p => { p with sseqRx := 7 }) false 0 (fun c v p => !c && noSymbols v &&
      fld v 31 24 != p.sseqRx && decide (p.sseqRx < 256)) && taken .active id false (2 ^ 32 * (5 + 2 ^ 4 * 512)) (fun c v _ => !c &&
      symOfCode (fld v 35 32) == some .haltNow && fld v 67 64 == 0 && !(effectClock 8 0 (fld v 45 36)).2)) = true := by
  decide +kernel

/-- Port 11 on the tree of modules 0 and 63, beside port 3; after a level-change gap. -/
def treed (member : Bool) (h : Hw) : Hw :=
  { h with
    ports := h.ports ++ [(3, { state := .active })]
    conf := { h.conf with formed := true, treePorts := [11, 3], branches := [11, 3], head := if member then 63 else 0, distance := 20 }
    seq := { h.seq with realign := true, clk := 512 } }

/-- FRAME_GO: on a head, on a member after a gap. -/
theorem witness_EaveBlockSets_go :
    let go := fun (member : Bool) =>
      let x := (treed member (eaveUp .active id)).rxSet 11 (blocksOf false (2 ^ 32 * (1 + 2 ^ 4 * 520)))
      (match x.1 with
        | .data v => symOfCode (fld v 35 32) == some .frameGo && fld v 67 64 == 0 && fld v 31 24 == (x.2.port 11).sseqRx &&
          !(effectClock x.2.seq.horizon x.2.seq.clk (fld v 45 36)).2
        | _ => false) && x.2.seq.realign && x.2.isMember == member && decide (512 ≤ x.2.seq.clk) &&
        (treed member (eaveUp .active id)).rxOpen 11
    (go false && go true) = true := by
  decide +kernel

/-- Control block sets: LINK_ID, CAPTURE at 512 clocks ahead, and ACK. -/
theorem witness_EaveBlockSets_control :
    let good := fun (ty : Nat) (c : Bool) (v : BitVec 1024) (p : EavePort) => c && noSymbols v && fld v 31 24 == p.sseqRx && ctlType v == ty
    let waiting : EavePort → EavePort := fun p => { p with unacked := [⟨9, ⟨1, 2, true, true, []⟩, 0, true, none⟩] }
    (taken .align id true 6 (good 6) && taken .active id true 0 (good 0) &&
      taken .active id true (2 + 2 ^ 12 + 2 ^ 14 * 512) (fun c v p => good 2 c v p && !(effectClock 8 0 (fld v 23 14)).2) &&
      taken .active waiting true (4 + 2 ^ 8 * 9) (fun c v p => good 4 c v p && p.unacked.any fun m => m.seq == fld v 15 8 && m.sent)) = true := by
  decide +kernel

/-- LANE block sets: SPARE_REQ and SPARE_DONE of role 17, and L-SLEEP. -/
theorem witness_EaveBlockSets_lane :
    (taken .active id true (5 + 2 ^ 8 + 2 ^ 12 * 17) (fun c v _ => c && noSymbols v && ctlType v == 5 && laneOp v == 1 && fld v 16 12 == 17) &&
      taken .active id true (5 + 2 ^ 8 * 2 + 2 ^ 12 * 17) (fun c v _ => c && noSymbols v && ctlType v == 5 && laneOp v == 2 && fld v 16 12 == 17) &&
      taken .active id true (5 + 2 ^ 8 * 4) (fun c v _ => c && noSymbols v && ctlType v == 5 && laneOp v == 4)) = true := by
  decide +kernel

/-- MSG block sets in sequence: to module 63, and to this module with more to come and as the last. -/
theorem witness_EaveBlockSets_msg :
    let msg := fun (v : Nat) (f : MsgBody → Bool) => taken .active id true v fun c v p => c && noSymbols v && ctlType v == 3 &&
      fld v 15 8 == p.mseqRx && f (msgBody v)
    (msg (3 + 2 ^ 96 * 63) (fun b => b.dst == 63) && msg 3 (fun b => b.dst == 0 && !b.last) &&
      msg (3 + 2 ^ 105) (fun b => b.dst == 0 && b.last)) = true ∧ (LinkMsg.command 1 7 0x0101 false [] []).ok = true ∧
      (let x := (treed true (eaveUp .active id)).rxSet 11 (blocksOf true (3 + 2 ^ 96 * 62))
       (match x.1 with
        | .control v => ctlType v == 3 && noSymbols v && fld v 15 8 == (x.2.port 11).mseqRx && (msgBody v).dst == 62
        | _ => false) = true ∧ x.2.isMember = true ∧ x.2.conf.branches = [11, 3] ∧ (treed true (eaveUp .active id)).devIndex ≠ 62) := by
  decide +kernel

/-- The payloads of the marker that port 11 has answered: its count is 5, its echo that of a sent one. -/
def markerWords : List Word64 := (List.range 19).map fun l =>
  (({} : Lane).block true (BitVec.ofNat 64 (0xE6 + 2 ^ 8 * l + 2 ^ 16 * 5 + 2 ^ 32 * 9))).1.extractLsb' 2 64

/-- The control headers of its blocks. -/
def markerHeads : List (BitVec 2) := List.replicate 19 2

theorem witness_EaveSending :
    let marked := fun ms : List (Nat × Nat) => (eaveUp .active fun p => { p with mSent := ms }).rxSet 11 (setBlocks markerHeads markerWords)
    let isMarker := fun (r : RxSet) => match r with | .marker w => fld w 43 32 == 9 | _ => false
    let sending := fun f : EavePort → EavePort => eaveUp .active f
    let due := sending fun p => { p with sinceTx := 1023, mLast := some (5, 100) }
    let cap : CapSym := ⟨some 7, some 15, 1000⟩
    let caps := sending fun p => { p with txCaps := [cap, ⟨none, none, 3⟩] }
    let groups := sending fun p => { p with txGroups := [⟨15, 65535, 1⟩, ⟨15, 65536, 2⟩] }
    let msg := fun (n : Nat) (own : Option (Nat × Nat)) =>
      sending fun p => { p with unacked := [⟨0, ⟨1, 2, true, true, []⟩, n, true, own⟩] }
    ([markerHeads.length = 19, markerWords.length = 19, (sending id).rxOpen 11, isMarker (marked []).1, ((marked []).2.port 11).mSent = [],
      ((marked [(4105, 60)]).2.port 11).mSent.find? (fun m => m.1 % 4096 = 9) = some (4105, 60),
      ((marked []).2.port 11).state = .active, due.txOpen 11, due.markerDue 11, (due.port 11).lanes.length = 19,
      (List.range 19).all (fun l => !((due.port 11).lane l).idle), (due.port 11).mLast = some (5, 100), caps.txOpen 11,
      !caps.markerDue 11] : List Bool).all id = true ∧ ([(caps.port 11).txRole = List.range 18, (caps.port 11).txSpare = none, (caps.port 11).txSyms = [],
      (caps.port 11).txCaps = [cap, ⟨none, none, 3⟩], cap.alt.getD 0 < 16, caps.shareOk 11, (sending id).pstate = 0,
      !(withRegs (eaveUp .train id) [(powerA 0, 1)]).portRuns 11, (carrying .running).carries 11 && (carrying .running).busy,
      !(sending id).carries 11, (groups.port 11).txCaps = [],
      (groups.port 11).txGroups = [⟨15, 65535, 1⟩, ⟨15, 65536, 2⟩], ((sending id).port 11).txCtl = [], !((sending id).port 11).ackDue,
      ((sending id).port 11).unacked = [], (sending id).shareOk 11,
      ((msg 7 none).port 11).unacked = [⟨0, ⟨1, 2, true, true, []⟩, 7, true, none⟩],
      ((msg 8 none).port 11).unacked = [⟨0, ⟨1, 2, true, true, []⟩, 8, true, none⟩],
      ((msg 8 (some (0, 63))).port 11).unacked = [⟨0, ⟨1, 2, true, true, []⟩, 8, true, some (0, 63)⟩]] : List Bool).all id = true ∧
    ((eaveUp .train id).port 11).lanes.length = 19 ∧ [PortState.detect, .retryWait, .absent].all (fun st =>
      ((eaveUp st id).port 11).state == st) = true ∧ ((eaveUp .disabled id).port 11).state = .disabled := by
  decide +kernel

/-! ## Network time -/

/-- The time unit, armed, with its status bits and configuration. -/
def timeUp (stat cfg : Word32) (f : TimeSt → TimeSt) : Hw :=
  let h := withRegs headUp [(timeA 0x10, stat), (timeA 0x14, cfg)]
  { h with time := f { h.time with now := 5 * unitsPerSec } }

theorem witness_TimeSources :
    let ptp := timeUp 0x20 0 id
    let valid := timeUp 0xE0 0 id
    let strict := timeUp 0xE5 0 id
    let second := timeUp 0xF2 (2 ^ 21 + 7 * 2 ^ 13) id
    let best : PtpMaster := ⟨128, 6, 0x21, 0x4E5D, 128, 9, 1, 5⟩
    let worse : PtpMaster := ⟨128, 7, 0x21, 0x4E5D, 128, 9, 1, 6⟩
    let headed := timeUp 0xE0 0 fun t => { t with best := [some best, none] }
    let swap := fun (peer : Bool) (sync delay : Int) => (⟨5, peer, sync, delay, true, 100, 3, 4, 30, 20, 10, 60, 70, 2⟩ : PtpExchange)
    let lost := timeUp 0xA0 0 id
    let told := fun b : PtpBody => (⟨false, .ethernet, true, 0, b⟩ : PtpMsg)
    ([headed.ptpHeard (told .unsupported), !headed.ptpHeard ⟨true, .ethernet, true, 0, .unsupported⟩,
      !headed.ptpHeard ⟨false, .ipv6, true, 0, .unsupported⟩, (headed.time.best.getD 0 none).any (fun b => b.sender == 5),
      headed.ptpMech (swap false (-7) 4), !headed.ptpMech (swap true 0 0), !headed.ptpMech (swap false 2 0), headed.winsDomain 0 best,
      !headed.winsDomain 0 worse, headed.winsDomain 1 worse, headed.time.best.length = 2, headed.time.utc.length = 2,
      lost.tDomain ≠ 1, !lost.strictTime, !lost.tValid lost.tDomain, lost.winsDomain 1 worse, lost.tArmed, !(lost.bget (timeA 0x14) 0),
      headed.domainOf 1 = none] : List Bool).all id = true ∧
    ([ptp.pstate < 2, ptp.tArmed, ptp.time.te = [], ptp.time.offs.length = 2, ptp.domainOf 0 = some 0, ptp.tDomain = 0,
      !(ptp.bget (timeA 0x14) 0), valid.tValid 0, valid.tValid 1, strict.strictTime, strict.jumpLimit < (2 ^ 62 : Int).natAbs,
      !(strict.jumpLimit < (0 : Int).natAbs), strict.time.refused = 0, strict.tStatus = 1, !valid.strictTime, valid.time.first,
      (timeUp 0xE0 0 fun t => { t with first := false }).time.first = false, second.domainOf 7 = some 1, second.tDomain = 1,
      second.tStatus = 2, second.tPhase = 0, second.tValid 0, !second.strictTime, (timeUp 0x20 1 id).bget (timeA 0x14) 0,
      (timeUp 0x120 (2 ^ 22) id).bget (timeA 0x10) 8, (timeUp 0x20 (2 ^ 22) id).bget (timeA 0x14) 22] : List Bool).all id = true := by
  decide +kernel

/-- Generator 31 with CTRL `c`, armed for `n`. -/
def genUp (c : Word32) (n : Nat) : Hw :=
  let h := withRegs (courseAt 0 []) [(teA 31 0, c), (teA 31 4, BitVec.ofNat 32 n)]
  { h with time := { h.time with te := [(31, { armed := true, next := n })], now := 5 * unitsPerSec } }

/-- Capture unit 31 on pin 511, both edges, with n records. -/
def capUp (n : Nat) : Hw :=
  let h := withRegs headUp [(tcA 31 0, 1 + 2 + 4 + 8 * 511)]
  { h with time := { h.time with tc := [(31, List.replicate n ⟨1, false⟩)], now := 5 * unitsPerSec } }

theorem witness_TimedEvents :
    ([(genUp 7 5).teFrameDue 31, (genUp 7 5).teMode 31 = 3, !(genUp 5 6).teFrameDue 31, !(genUp 5 6).teDue 31,
      (List.range 32).all fun j => ((genUp (1 + 8 + 511 * 32) 0).te j).fall.isNone] : List Bool).all id = true ∧
    ([(genUp 0x7FE1 0).teDue 31, !(genUp 0x7FE1 0).teNames 31, (genUp (1 + 8 + 511 * 32) 0).teDue 31,
      (genUp (1 + 8 + 511 * 32) 0).teNames 31, (genUp (1 + 8 + 511 * 32) 0).fget (teA 31 0) 4 3 = 1,
      (genUp (1 + 16 + 511 * 32) 0).fget (teA 31 0) 4 3 = 2, (genUp 5 5).teFrameDue 31, (genUp 1 0).bget (teA 31 0) 0,
      (genUp 1 0).teMode 31 = 0, (genUp 3 0).teMode 31 = 1, (genUp 5 0).teMode 31 = 2, !bit (0 : Word32) 0,
      !(genUp 0x7FE1 0).teNames 31, (genUp 1 0).time.ppsSec < (genUp 1 0).time.now / unitsPerSec,
      (withRegs headUp [(timeA 0x2C, 1)]).bget (timeA 0x2C) 0, headUp.time.now / unitsPerSec ≤ headUp.time.ppsSec,
      bit ((capUp 15).reg (tcA 31 0)) 0, fld ((capUp 15).reg (tcA 31 0)) 12 3 = 511, (capUp 15).pstate < 3,
      bit ((capUp 15).reg (tcA 31 0)) 2, bit ((capUp 15).reg (tcA 31 0)) 1, ((capUp 15).tcBuf 31).length = 15,
      ((capUp 16).tcBuf 31).length = 16, bit (0x2001 : Word32) 13] : List Bool).all id = true := by
  decide +kernel

/-! ## The mailbox, events and the trace -/

/-- Slot 7 in a state, with a command for a module. -/
def slot7 (h : Hw) (state code target : Nat) : Hw :=
  let h := (h.setSlotBytes 7 0 (bytesOf 2 code)).setSlotBytes 7 4 [BitVec.ofNat 8 target]
  let h := h.setSlotState 7 state
  { h with host := { h.host with ring := [7] } }

theorem witness_MailboxRing :
    ([up.hostOn, 255 + [(some 1 : Option Byte)].length ≤ 256, !up.slotBusy 7, (slot7 up 1 0 0).slotBusy 7, (slot7 up 4 0 0).slotBusy 7, up.pstate < 3,
      up.host.ready, !up.host.fwSwitch, (inPower 3 [(powerA 0x14, 1)] none).pstate = 3,
      (inPower 3 [(powerA 0x14, 1)] none).bget (powerA 0x14) 0, !(inPower 3 [(powerA 0x14, 1)] none).slotBusy 7] : List Bool).all id = true := by
  decide +kernel

/-- Port 11 leads to module 63, over a link in a state. -/
def partnered (st : PortState) : Hw :=
  withRegs { up with ports := [(11, { state := st, started := true })] } [(eaveA 11 4, 2 ^ 18 + 2 ^ 8 * 63 + (if st = .active then 5 else 0))]

theorem witness_MailboxTransport :
    let far := fun st n => slot7 (partnered st) n 0x0101 63
    let wide := slot7 up 1 0x0101 0
    let bad := wide.setSlotBytes 7 7 [1]
    let absent := withRegs (slot7 up 1 0x0101 63) [(hostifA 0x80, 1)]
    let listed := (slot7 up 2 0x0402 0).setSlotBytes 7 0x18 [1]
    let told := fun (n : Nat) (args : List Byte) => (slot7 (partnered .active) n 0x0101 63).setSlotBytes 7 0x20 args
    let longer := (far .active 1).setSlotBytes 7 5 [1]
    let unlinked : Hw := { slot7 up 1 0x0101 63 with host := { (slot7 up 1 0x0101 63).host with linkUp := false } }
    let held : FwdCmd := ⟨63, 7, 0x0301, false, [], []⟩
    let form : Hw := { headUp with host := { headUp.host with fwd := [held] } }
    let writes : Hw := { listed with host := { listed.host with waits := [⟨.slot 7, outputCode, [], [], [], 1, none⟩] } }
    let sp := (specOf 0x0101).map fun s => (s.args [], s.inLen [] + s.outLen [], s.args [1])
    let quiet : Hw := { up with ports := (List.range 12).map fun p => (p, { state := .absent, started := true }) }
    ([wide.host.ring = [7], wide.host.ready, !wide.host.fwSwitch, wide.pstate < 3, !wide.isMember, (specOf 0x0101).isSome,
      (specOf 0x0000).isNone, wide.slotField 7 0 2 = 0x0101, (slot7 up 1 0 0).slotField 7 0 2 = 0, wide.headerOk 7, !bad.headerOk 7,
      bad.slotField 7 0 2 = 0x0101, wide.slotField 7 4 1 = wide.devIndex, (far .active 1).slotField 7 0x18 2 = 0,
      (far .active 1).slotField 7 4 1 = 63, (far .active 1).known.contains 63, (far .active 1).host.linkUp, (far .active 1).pathActive 63,
      (far .active 1).headerOk 7, (far .train 1).known.contains 63, !(far .train 1).pathActive 63, (far .train 1).headerOk 7,
      !absent.known.contains 63, absent.settled, absent.headerOk 7, (far .active 3).slotState 7 = 3, listed.readsList 7,
      !{ listed with bme := false }.bme, (List.range 12).all fun p => (quiet.port p).started && (quiet.port p).state == .absent,
      quiet.host.topo = []] : List Bool).all id = true ∧
    ([sp = some (true, 0, false), (far .active 1).slotArgs 7 = [], (longer.slotArgs 7).length = 1, longer.headerOk 7, longer.pathActive 63,
      ((far .active 1).msgPorts 63).all fun p => ((far .active 1).port p).txSleep == 0, (told 3 []).slotState 7 = 3, (told 3 []).pathActive 63,
      !unlinked.host.linkUp, unlinked.headerOk 7, (slot7 up 1 0x0101 63).host.linkUp, !(slot7 up 1 0x0101 63).settled,
      !(slot7 up 1 0x0101 63).known.contains 63, (slot7 up 1 0x0101 63).headerOk 7, form.heldForm 575 = some held, writes.readsList 7,
      writes.outputWaits 7, !listed.outputWaits 7, !(slot7 up 3 0x0101 63).known.contains 63, (slot7 up 3 0x0101 63).slotState 7 = 3,
      (slot7 up 3 0x0101 0).slotField 7 4 1 = up.devIndex,
      !up.known.contains (⟨62, 0, none, 0, false, true⟩ : TopoPort).device] : List Bool).all id = true := by
  decide +kernel

/-- An event on its way, at the last entry but none. -/
def raising (id : Nat) (run : RunState) (rs : List (Nat × Word32)) : Hw :=
  let h := withRegs (inRun headUp run) rs
  { h with fault := { h.fault with path := [⟨id, 9, 4, id == evDevLate, 0⟩], next := 31 } }

theorem witness_EventsAndLockstep :
    let e : EvRec := ⟨evBankNotOwned 1, 9, 4, false, 0⟩
    let h := raising (evBankNotOwned 1) .running []
    let level := fun v : Word32 => withRegs h [(faultA (0x400 + 4 * (e.id / 16)), v)]
    let alone : Hw := { headUp with host := { headUp.host with mpAlone := true } }
    ([firstBy EvRec.before h.fault.path = some e, (List.range 32).all (fun k => !h.handled k), h.fault.next < 32, e.id < 1152,
      evIsError e.id, e.id ≠ evFrameFault, !h.bget (grpStatA (e.id / 16)) (e.id % 16), h.entryLevel e = 1,
      (level 0xAAAAAAAA).entryLevel e = 2, (level 0xFFFFFFFF).entryLevel e = 3, !(level 0xFFFFFFFF).evMasked e.id, !evIsError evWakeDone,
      (withRegs h [(grpStatA (e.id / 16), 0xFFFF)]).bget (grpStatA (e.id / 16)) (e.id % 16), headUp.hubOn, !headUp.host.mpAlone,
      alone.host.mpAlone, (slot7 headUp 4 0 0).slotBusy 7, h.seq.halts = [], h.seq.syms = [],
      (withRegs h [(faultA (0x200 + 4 * (e.id / 16)), 0xFFFF)]).evMasked e.id, !e.poison, h.pstate < 3,
      3 ≤ (withRegs h [(powerA 0, 3)]).pstate] : List Bool).all id = true := by
  decide +kernel

theorem witness_TraceUnit :
    let off := withRegs headUp [(traceA 0, 0x20)]
    let on := withRegs headUp [(traceA 0, 0x3F), (traceA 4, 2), (traceA 0x10, 4096), (traceA 0x14, 4096)]
    let free := withRegs headUp [(traceA 0, 0x3F), (traceA 4, 3), (traceA 0x10, 4096), (traceA 0x14, 4095)]
    let offer : TraceOffer := ⟨3, 7⟩
    let far := withRegs headUp [(traceA 0, 1), (traceA 0x10, 4096)]
    let refusing := fun (n : Nat) (b : Bool) => { on with trace := { on.trace with offers := [offer], refused := on.trace.refused.set 3 n
                                                                                   syncDue := [b, b] } }
    let offering := fun n : Nat => { on with trace := { on.trace with offers := [offer], staging := List.replicate n 0 } }
    ([!off.bget (traceA 0) 0, bit (1 : Word32) 0, !bit (1 : Word32) 6, !bit (1 : Word32) 7, on.bget (traceA 0) 0, !on.sinkRoom,
      on.trace.offers = [], (withRegs headUp [(traceA 0, 1), (traceA 0x10, 4096)]).bget (traceA 0) 0,
      bit (0x41 : Word32) 6, (offering 0).trace.offers = [offer], (offering 0).trace.refused.getD 3 0 = 0,
      (offering 0).trace.resync.length = 2, !(offering 0).trace.resync.getD 3 false, (offering 0).trace.staging.length < stageLimit 3,
      stageLimit 3 = 4096, !{ on with trace := { on.trace with staging := [7] } }.sinkRoom,
      { free with bme := true, trace := { free.trace with staging := [7] } }.sinkRoom, free.sinkHost,
      { withRegs headUp [(traceA 0, 1), (traceA 0x10, 4096)] with trace := { on.trace with staging := [7] } }.sinkRoom,
      !(withRegs headUp [(traceA 0, 1), (traceA 0x10, 4096)]).sinkHost] : List Bool).all id = true ∧
    ([(offering 0).pstate = 0, (withRegs (offering 0) [(powerA 0, 1)]).pstate ≠ 0, (offering 0).trace.syncDue.length = 2,
      (refusing 2 true).trace.refused.getD 3 0 = 2, (refusing 2 true).trace.syncDue.getD 0 false, (refusing 2 true).trace.offers = [offer],
      fld offer.pkt 127 124 ≠ 5, fld offer.pkt 127 124 ≠ 7, !(withRegs far [(powerA 0, 2)]).sinkHost, (withRegs far [(powerA 0, 2)]).sinkRoom,
      !(withRegs far [(powerA 0, 2)]).pstate < 2, far.pstate < 2, far.sinkRoom, far.bget (traceA 0) 0] : List Bool).all id = true ∧
    (offering 4096).trace.staging.length = 4096 :=
  ⟨by decide +kernel, by decide +kernel, List.length_replicate⟩

/-! ## Values of the manual's worked examples -/

/-- Chapter 2: (a AND b) XOR c is entry 0x7878_7878; chapter 3: a XOR (b AND c AND d AND e) is 0x6AAA_AAAA (R40). -/
theorem test_bundle_entries :
    (List.range 32).all (fun n =>
      let b := n.testBit
      let vs := [b 0, b 1, b 2, b 3, b 4]
      evalTable 0x78787878 vs false == ((b 0 && b 1) ^^ b 2) &&
        evalTable 0x6AAAAAAA vs false == (b 0 ^^ (b 1 && b 2 && b 3 && b 4))) = true ∧
      supportMask 0xAAAAAAAA = 1 ∧ supportMask 0x78787878 = 7 := by decide +kernel

/-- Chapter 2's instruction 0x0A80_7308_0002 and words of Table 3.22. -/
theorem test_instruction_words :
    bpClass 0x0A8073080002 = .eval ∧ fld (0x0A8073080002 : Ins) 45 38 = 0x2A ∧ evalSels 0x0A8073080002 = [0, 115, 4, 0, 0] ∧
      insDrive 0x0A8073080002 = true ∧ insTap 0x0A8073080002 = false ∧ evalSels 0x100073E1C790 = [0, 115, 112, 113, 114] ∧
      bpClass 0x900000000000 = .port ∧ fld (0x900000000000 : Ins) 45 42 = 4 ∧ bpClass 0x602000000000 = .loft ∧
      bit (0x602000000000 : Ins) 45 = true ∧ bit (0x602000000000 : Ins) 37 = true := by decide +kernel

/-- Control words of Table 3.23: loft READ and WRITE of word 16, the ports of courses 3 and 6, and the lanes of course 4. -/
theorem test_control_words :
    loftField (BitVec.ofNat 576 (0x0810000000000000 * 2 ^ 64)) = (.read, 16) ∧
      loftField (BitVec.ofNat 576 (0x1010000000000000 * 2 ^ 64)) = (.write, 16) ∧
      portField (BitVec.ofNat 576 (5 * 2 ^ 128)) = some ⟨5, 0, 0, false⟩ ∧
      portField (BitVec.ofNat 576 (4 * 2 ^ 128)) = some ⟨4, 0, 0, false⟩ ∧
      (List.range 6).map (laneSel 0x1F91008080) = [0, 1, 2, 8, 121, 3] := by decide +kernel

/-- Chapter 6: bank 6 has home truss (1, 19), 0x048F is MASKED_WRITE of word 291 and 0x048D its READ; the far request. -/
theorem test_bank_and_far_commands :
    homeTruss 6 = 32 + 19 ∧ cmdOp 0x048F = 3 ∧ cmdAddr 0x048F = 291 ∧ cmdOp 0x048D = 1 ∧ cmdAddr 0x048D = 291 ∧
      reqOp 0x04000000 = 0 ∧ reqAddr 0x04000000 = 0x40000 ∧ reqLen 0x04000000 = 1 := by decide +kernel

/-- Chapter 8: column D15 = 0x01 has C0 = 0x03 and C1 = 0x02; an error 0x5A at D3 has syndromes 0x5A and 0x27 and is corrected, also
when D3 is erased. -/
theorem test_cross_lane_code :
    let col : List Byte := List.replicate 15 0 ++ [1, 3, 2]
    let bad := col.set 3 0x5A
    rsCheck (col.take 16) = (3, 2) ∧ gfAlpha 14 = 0x13 ∧ rsSyndrome 0 [] bad = 0x5A ∧ rsSyndrome 1 [] bad = 0x27 ∧
      rsDecode [] bad = some (col, some 3) ∧ rsDecode [3] bad = some (col, none) := by decide +kernel

/-- Table 10.5: the courses that begin frames 1 to 5 of a TIMED run whose PERIOD is 65,542,554 at P0. -/
theorem test_timed_ticks :
    [1, 2, 3, 4, 5].map (fun k => nearestEdge 0 (k * 65542554 * 3) (courseUnits 0)) = [3200, 6401, 9601, 12801, 16002] := by decide +kernel

/-- Chapter 13: the plan resolves to blocks 0, 2 and 5, with ten bits 0x20A and one PATH packet. -/
theorem test_path_packet :
    let entry := fun (start len kind cond k last : Nat) =>
      BitVec.ofNat 64 (start + len * 2 ^ 11 + kind * 2 ^ 23 + cond * 2 ^ 25 + k * 2 ^ 27 + last * 2 ^ 41)
    let plan := fun b : Nat => [entry 0 100 0 0 0 0, entry 100 200 0 1 3 0, entry 0 0 2 0 0 0, entry 200 50 0 0 0 1, entry 300 50 0 0 0 1,
      entry 350 60 0 2 2 1].getD b 0
    let r := resolve plan (fun e => if e = 2 then 5 else 0) 0 2 1024 0 0
    r.segs.map (fun s => (s.block, s.pos)) = [(0, 0), (2, 100), (5, 100)] ∧ r.len = 160 ∧ truthIndex r.bits = 0x20A ∧
      pathPackets 0 0x2345 false r.bits = [0x1023451500000000000000000000020A] := by decide +kernel

/-- Table 16.7: the low words of the three log entries; SUMMARY at the end. -/
theorem test_log_entries :
    let h := inRun headUp .running
    let raise := fun (id : Nat) (poison : Bool) (h : Hw) =>
      execEventRaise { h with fault := { h.fault with path := [⟨id, 0, 0, poison, 0⟩] } }
    let h := raise 0x0B1 true { h with fault := { h.fault with seq := 0x40 } }
    let h := raise 0x1B0 true (raise 1 false (raise 0 false h))
    h.reg (logA 0) = 0x0040D0B1 ∧ h.reg (logA 1) = 0x0041B001 ∧ h.reg (logA 2) = 0x0042F1B0 ∧ h.summary = 0x20B := by
  decide +kernel

/-- Table 12.11, step 5: FRACTION 160 and CLOCK 1,240 of the crossing between 700 at clock 1,200 and 1,180 at clock 1,264. -/
theorem test_trigger_point :
    let h := withRegs headUp [(wchA 2 0, 3), (thrA 0 4, 1000)]
    let h : Hw := { h with seq := { h.seq with frame := 4711, fclk := 1264, ticks := 5264 } }
    let c := h.crossing 0 2 ⟨700, 4711, 1200, 5200, 0⟩ 1180
    crosses 1 700 1180 1000 = true ∧ c.frac = 160 ∧ c.clock = 1240 ∧ c.frame = 4711 := by decide +kernel

/-- Chapter 17: a write of bank 17, which DESIGN owns, by aperture 2: BAR2_ERR holds OFFSET and WRITE, CAUSE 5 and VALID. -/
theorem test_bar2_error :
    let h := withRegs headUp [(hostifA 0x50, 2), (bankA 0 (4 * 17), 0)]
    let g := execBar2Write h 0x20440100 (List.replicate 8 (some 1))
    (g.reg (hostifA 0x60), g.reg (hostifA 0x64)) = (0x60440100, 0x80000005) := by decide +kernel

end Sys2Proof.Tests
end

section
/-!
PROOFS. Ring indices of the worker queues (R326): what an accepted and what a refused write of DISP_HEAD or COMP_TAIL does,
and that the internal map and the doorbell words of BAR0 lead to the same write (R390, R393, R434, R471).
-/

namespace Sys2Proof.Machine

/-! ## Messages: only the queues of the ports and what is sent change -/

theorem sendOn_only (h : Hw) (p dst code : Nat) (m : LinkMsg) :
    h.sendOn p dst code m = { h with ports := (h.sendOn p dst code m).ports } :=
  List.foldlRecOn (motive := fun g : Hw => g = { h with ports := g.ports }) _ _ rfl
    fun g hg b _ => by rw [hg]; rfl

theorem sendMsg_only (h : Hw) (dst : Nat) (m : LinkMsg) (code : Nat) :
    h.sendMsg dst m code =
      { h with ports := (h.sendMsg dst m code).ports, out := (h.sendMsg dst m code).out } :=
  List.foldlRecOn (motive := fun g : Hw => g = { h with ports := g.ports, out := g.out }) _ _ rfl
    fun g hg p _ => by rw [sendOn_only, hg]

@[simp] theorem reg_sendMsg (h : Hw) (dst : Nat) (m : LinkMsg) (code b : Nat) :
    (h.sendMsg dst m code).reg b = h.reg b := by rw [sendMsg_only]; rfl

/-! ## A doorbell leaves the module's place in its configuration as it was -/

@[simp] theorem isMember_setReg (h : Hw) (a : Nat) (v : Word32) : (h.setReg a v).isMember = h.isMember := rfl
@[simp] theorem isMember_eset (h : Hw) (p o hi lo v : Nat) : (h.eset p o hi lo v).isMember = h.isMember := rfl
@[simp] theorem isMember_updPort (h : Hw) (p : Nat) (f : EavePort → EavePort) : (h.updPort p f).isMember = h.isMember := rfl
@[simp] theorem isMember_emit (h : Hw) (o : Out) : (h.emit o).isMember = h.isMember := rfl
@[simp] theorem isMember_noEntry (h : Hw) : h.noEntry.isMember = h.isMember := rfl
@[simp] theorem isMember_setPstate (h : Hw) (n : Nat) : (h.setPstate n).isMember = h.isMember := rfl

@[simp] theorem isMember_sendOn (h : Hw) (p dst code : Nat) (m : LinkMsg) :
    (h.sendOn p dst code m).isMember = h.isMember := by rw [sendOn_only]; rfl

@[simp] theorem isMember_sendMsg (h : Hw) (dst : Nat) (m : LinkMsg) (code : Nat) :
    (h.sendMsg dst m code).isMember = h.isMember := by rw [sendMsg_only]; rfl

/-- Steps that each keep the module's place keep it together. -/
theorem isMember_foldl {α : Type} (f : Hw → α → Hw) (keeps : ∀ g x, (f g x).isMember = g.isMember) (xs : List α) (h : Hw) :
    (xs.foldl f h).isMember = h.isMember :=
  List.foldlRecOn (motive := fun g : Hw => g.isMember = h.isMember) _ _ rfl fun g hg x _ => (keeps g x).trans hg

@[simp] theorem isMember_reportPort (h : Hw) (p : Nat) : (h.reportPort p).isMember = h.isMember :=
  isMember_foldl _ (fun _ _ => by simp) _ h

@[simp] theorem isMember_relock (h : Hw) (p : Nat) : (h.relock p).isMember = h.isMember := by
  unfold Hw.relock
  split <;> rfl

@[simp] theorem isMember_setRole (h : Hw) (p r lane : Nat) (erased : Bool) :
    (h.setRole p r lane erased).isMember = h.isMember := rfl
@[simp] theorem isMember_setTaps (h : Hw) (p l pre post : Nat) : (h.setTaps p l pre post).isMember = h.isMember := rfl

@[simp] theorem isMember_forgetLink (h : Hw) (p : Nat) (st : PortState) : (h.forgetLink p st).isMember = h.isMember := by
  unfold Hw.forgetLink
  extract_lets old pt fresh roles was cleared dark
  have hroles : roles.isMember = h.isMember := isMember_foldl _ (fun _ _ => isMember_setRole ..) _ fresh
  have hdark : dark.isMember = h.isMember := by
    simp only [dark, cleared, isMember_relock, isMember_setReg, isMember_eset, hroles]
  clear_value dark
  split
  · exact (isMember_reportPort dark p).trans hdark
  · exact hdark

@[simp] theorem isMember_startTaps (h : Hw) (p : Nat) (kept : Option (List (Nat × Nat))) :
    (h.startTaps p kept).isMember = h.isMember :=
  isMember_foldl _ (fun _ _ => isMember_setTaps ..) _ h

@[simp] theorem isMember_enterDetect (h : Hw) (p : Nat) : (h.enterDetect p).isMember = h.isMember := by
  rw [Hw.enterDetect, isMember_startTaps, isMember_forgetLink]

@[simp] theorem isMember_offWake (h : Hw) (p : Nat) : (h.offWake p).isMember = h.isMember := by
  rw [Hw.offWake, isMember_updPort, isMember_enterDetect]

@[simp] theorem isMember_wakePorts (h : Hw) (ps : List Nat) : (h.wakePorts ps).isMember = h.isMember :=
  isMember_foldl _ (fun _ _ => by split <;> simp) ps h

@[simp] theorem isMember_applySleep (h : Hw) (p : Nat) : (h.applySleep p).isMember = h.isMember := by
  unfold Hw.applySleep
  dsimp only
  split_ifs <;> simp

@[simp] theorem isMember_applySleeps (h : Hw) : h.applySleeps.isMember = h.isMember :=
  isMember_foldl _ (fun _ _ => by simp) _ h

@[simp] theorem isMember_stage (h : Hw) (p : BitVec 128) : (h.stage p).isMember = h.isMember := by
  unfold Hw.stage
  dsimp only
  split_ifs <;> rfl

@[simp] theorem isMember_syncIfOn (h : Hw) (reason : Nat) : (h.syncIfOn reason).isMember = h.isMember := by
  unfold Hw.syncIfOn
  split
  · simp [Hw.stageSync, Hw.stageTime]
  · rfl

@[simp] theorem isMember_spreadWake (h : Hw) : h.spreadWake.isMember = h.isMember := by
  unfold Hw.spreadWake
  split
  · simp
  · exact isMember_foldl _ (fun _ _ => by simp) _ h

@[simp] theorem isMember_leaveIdle (h : Hw) : h.leaveIdle.isMember = h.isMember := by
  unfold Hw.leaveIdle
  split <;> simp

@[simp] theorem isMember_restartTimer (h : Hw) : h.restartTimer.isMember = h.isMember := by
  unfold Hw.restartTimer
  dsimp only
  split <;> rfl

/-- A doorbell, whether it restarts the idle timer or leaves IDLE (R390, R393). -/
@[simp] theorem isMember_doorbell (h : Hw) : h.doorbell.isMember = h.isMember := by
  unfold Hw.doorbell
  split <;> simp

/-! ## The two writes (R326) -/

/-- Registers of worker queue w. -/
def workerA (w : Nat) : Nat := callsA (0x1000 + 64 * w)

/-- x lies from DISP_HEAD forward to DISP_TAIL. -/
def Hw.dispHeadIn (h : Hw) (w x : Nat) : Prop :=
  (x + 8192 - h.fget (workerA w + 0x1C) 12 0) % 8192 ≤
    (h.fget (workerA w + 0x18) 12 0 + 8192 - h.fget (workerA w + 0x1C) 12 0) % 8192

/-- x lies from COMP_TAIL forward to COMP_HEAD and the ring's size. -/
def Hw.compTailIn (h : Hw) (w x : Nat) : Prop :=
  (x + 8192 - h.fget (workerA w + 0x20) 12 0) % 8192 ≤
    (h.fget (workerA w + 0x24) 12 0 + ringSize (h.fget (workerA w) 15 12) + 8192 - h.fget (workerA w + 0x20) 12 0) % 8192

/-- The write is refused: CALL_RING_FAULT is raised without poison, and nothing else changes. -/
def RingRefused (h g : Hw) : Prop :=
  Raised evCallRingFault 0 h g ∧ g = { h with fault := { h.fault with path := g.fault.path } } ∧
    ∀ e ∈ g.fault.path.drop h.fault.path.length, e.poison = false

theorem ringRefused_raise (h : Hw) : RingRefused h (h.raise evCallRingFault) := by
  refine ⟨⟨false, rfl⟩, rfl, fun e he => ?_⟩
  simp only [Hw.raise, Hw.raiseWith] at he
  split at he
  · rw [List.drop_left, List.mem_singleton] at he
    rw [he]
  · simp at he

theorem writeDispHead_of_in {h : Hw} {w x : Nat} (hx : x < 8192) (hin : h.dispHeadIn w x) :
    h.writeDispHead w x = h.fset (workerA w + 0x1C) 12 0 x := by
  unfold Hw.writeDispHead
  rw [Nat.mod_eq_of_lt hx]
  exact if_pos hin

theorem writeDispHead_of_not_in {h : Hw} {w x : Nat} (hx : x < 8192) (hout : ¬ h.dispHeadIn w x) :
    h.writeDispHead w x = h.raise evCallRingFault := by
  unfold Hw.writeDispHead
  rw [Nat.mod_eq_of_lt hx]
  exact if_neg hout

theorem writeCompTail_of_in {h : Hw} {w x : Nat} (hx : x < 8192) (hin : h.compTailIn w x) :
    h.writeCompTail w x =
      (h.askRecords w (h.fget (workerA w + 0x20) 12 0) ((x + 8192 - h.fget (workerA w + 0x20) 12 0) % 8192)).fset
        (workerA w + 0x20) 12 0 x := by
  unfold Hw.writeCompTail
  rw [Nat.mod_eq_of_lt hx]
  exact if_pos hin

theorem writeCompTail_of_not_in {h : Hw} {w x : Nat} (hx : x < 8192) (hout : ¬ h.compTailIn w x) :
    h.writeCompTail w x = h.raise evCallRingFault := by
  unfold Hw.writeCompTail
  rw [Nat.mod_eq_of_lt hx]
  exact if_neg hout

/-- Asking the head for records changes no register (R327). -/
@[simp] theorem reg_askRecords (h : Hw) (w tail n b : Nat) : (h.askRecords w tail n).reg b = h.reg b := by
  unfold Hw.askRecords
  split
  · rfl
  · exact List.foldlRecOn (motive := fun g : Hw => g.reg b = h.reg b) _ _ rfl
      fun g hg i _ => (reg_sendMsg _ _ _ _ _).trans hg

/-- A module that is no member asks for nothing (R327). -/
theorem askRecords_of_not_member {h : Hw} (hm : h.isMember = false) (w tail n : Nat) : h.askRecords w tail n = h := by
  simp [Hw.askRecords, hm]

/-- The index field reads the low 13 bits written. -/
theorem fget_fset_index (h : Hw) (a : Nat) {x : Nat} (hx : x < 8192) : (h.fset a 12 0 x).fget a 12 0 = x :=
  (fget_fset_same h a 12 0 x (by omega)).trans (Nat.mod_eq_of_lt hx)

/-- What a write of x to DISP_HEAD of worker w does: h is the state before, g the state after (R326). -/
def DispHeadWritten (w x : Nat) (h g : Hw) : Prop :=
  (h.dispHeadIn w x → g.fget (workerA w + 0x1C) 12 0 = x ∧ OnlyRegs [workerA w + 0x1C] h g) ∧
    (¬ h.dispHeadIn w x → RingRefused h g)

/-- What a write of x to COMP_TAIL of worker w does: h is the state before, g the state after. A member asks its
head for records besides (R326, R327). -/
def CompTailWritten (w x : Nat) (member : Bool) (h g : Hw) : Prop :=
  (h.compTailIn w x → g.fget (workerA w + 0x20) 12 0 = x ∧ (∀ b, b ≠ workerA w + 0x20 → g.reg b = h.reg b) ∧
      (member = false → OnlyRegs [workerA w + 0x20] h g)) ∧
    (¬ h.compTailIn w x → RingRefused h g)

theorem writeDispHead_written (h : Hw) (w : Nat) {x : Nat} (hx : x < 8192) : DispHeadWritten w x h (h.writeDispHead w x) := by
  constructor
  · intro hin
    rw [writeDispHead_of_in hx hin]
    exact ⟨fget_fset_index h _ hx, onlyRegs_fset h _ 12 0 x⟩
  · intro hout
    rw [writeDispHead_of_not_in hx hout]
    exact ringRefused_raise h

theorem writeCompTail_written (h : Hw) (w : Nat) {x : Nat} (hx : x < 8192) :
    CompTailWritten w x h.isMember h (h.writeCompTail w x) := by
  constructor
  · intro hin
    rw [writeCompTail_of_in hx hin]
    refine ⟨fget_fset_index _ _ hx, fun b hb => ?_, fun hm => ?_⟩
    · rw [Hw.fset, reg_setReg, if_neg hb, reg_askRecords]
    · rw [askRecords_of_not_member hm]
      exact onlyRegs_fset h _ 12 0 x
  · intro hout
    rw [writeCompTail_of_not_in hx hout]
    exact ringRefused_raise h

/-! ## The three ways to a ring index -/

/-- The CALLS block of Table 18.13. -/
theorem blockAt_calls {o : Nat} (ho : o < 0x10000) : blockAt (callsA o) = some (0x20000, 0x10000, false, false) := by
  have blocks : regBlocks = (0, 0x10000, false, false) :: (0x10000, 0x10000, false, false) ::
    (0x20000, 0x10000, false, false) :: regBlocks.drop 3 := rfl
  unfold blockAt callsA
  rw [blocks, List.find?_cons_of_neg, List.find?_cons_of_neg, List.find?_cons_of_pos] <;> simp <;> omega

/-- A write of a word of the CALLS block goes to the hub's registers. -/
theorem writeWord_calls (h : Hw) {o : Nat} (ho : o < 0x10000) (v : Word32) :
    h.writeWord (callsA o) v = .ok (h.writeHub (callsA o) v) := by
  have hlo : callsA o < 0x30000 := by unfold callsA; omega
  have hshut : h.arrayShut (callsA o) = false := by
    rw [Hw.arrayShut, decide_eq_false (by omega), Bool.false_and]
  unfold Hw.writeWord
  rw [blockAt_calls ho]
  simp only [hshut, Bool.false_and, Bool.false_eq_true, if_false]
  rw [if_neg (by omega), if_neg (by omega), if_neg (by simp only [scrA, hostifA]; omega), if_neg (by omega)]

/-- The internal map while the HUB domain is on (R407, R471). -/
theorem writeLoc_calls {h : Hw} (hon : h.hubOn = true) {o : Nat} (ho : o < 0x10000) (h4 : o % 4 = 0) (v : Word32) :
    h.writeLoc (.internal (callsA o)) v = h.writeHub (callsA o) v := by
  have h4' : callsA o % 4 = 0 := by unfold callsA; omega
  simp [Hw.writeLoc, hon, h4', writeWord_calls h ho v]

theorem writeHub_dispHead (h : Hw) {w : Nat} (hw : w < 32) (v : Word32) :
    h.writeHub (workerA w + 0x1C) v = execDispHeadWrite h w v := by
  unfold Hw.writeHub workerA callsA
  dsimp only
  rw [if_neg (by omega), if_neg (by omega), if_neg (by omega), if_pos (by omega), if_neg (by omega), if_neg (by omega),
    if_pos (by omega)]
  congr 1
  omega

theorem writeHub_compTail (h : Hw) {w : Nat} (hw : w < 32) (v : Word32) :
    h.writeHub (workerA w + 0x20) v = execCompTailWrite h w v := by
  unfold Hw.writeHub workerA callsA
  dsimp only
  rw [if_neg (by omega), if_neg (by omega), if_neg (by omega), if_pos (by omega), if_neg (by omega), if_neg (by omega),
    if_neg (by omega), if_pos (by omega)]
  congr 1
  omega

/-- A write of a word of BAR0 whose HUB domain is on and whose link is up reaches the module (R434). -/
theorem writeLoc_bar0 {h : Hw} (hon : h.hubOn = true) (hup : h.host.linkUp = true) {off : Nat} (h4 : off % 4 = 0)
    (v : Word32) : h.writeLoc (.bar0 off) v = h.bar0Write off v := by
  have hr : h.reachable = true := by
    simp only [Hw.hubOn, Bool.and_eq_true] at hon
    simp [Hw.reachable, Hw.hostOn, hon, hup]
  simp [Hw.writeLoc, hr, h4]

/-- The worker words of BAR0: a doorbell, then the write (R390, R393, R434). -/
theorem bar0Write_worker {h : Hw} (hon : h.hubOn = true) {off : Nat} (hlo : 0x200 ≤ off) (hhi : off < 0x300) (v : Word32) :
    h.bar0Write off v = if off % 8 = 0 then execDispHeadWrite h.doorbell ((off - 0x200) / 8) v
      else execCompTailWrite h.doorbell ((off - 0x200) / 8) v := by
  unfold Hw.bar0Write
  rw [if_neg (by omega), if_pos ⟨hlo, hhi⟩]
  simp [hon]

theorem bar0Write_dispHead {h : Hw} (hon : h.hubOn = true) {w : Nat} (hw : w < 32) (v : Word32) :
    h.bar0Write (0x200 + 8 * w) v = execDispHeadWrite h.doorbell w v := by
  rw [bar0Write_worker hon (by omega) (by omega), if_pos (by omega)]
  congr 1
  omega

theorem bar0Write_compTail {h : Hw} (hon : h.hubOn = true) {w : Nat} (hw : w < 32) (v : Word32) :
    h.bar0Write (0x204 + 8 * w) v = execCompTailWrite h.doorbell w v := by
  rw [bar0Write_worker hon (by omega) (by omega), if_neg (by omega)]
  congr 1
  omega

/-- The commands that write a ring index, each with the state that the write finds: the command itself, a write of word a of
the internal map, and one of word off of BAR0, which is a doorbell first. -/
def indexWays (s : State) (cmd : Instr) (a off : Nat) (v : Word32) : List (Instr × Hw) :=
  [(cmd, s.hw)] ++
    (if s.hw.hubOn then [(.registerWrite (.internal a) v, s.hw)] else []) ++
    (if s.hw.hubOn && s.hw.host.linkUp then [(.registerWrite (.bar0 off) v, s.hw.doorbell)] else [])

/-- What `act` does holds of every way, when every way comes to `act`. -/
theorem does_indexWays {s : State} {cmd : Instr} {a off : Nat} {v : Word32} {act : Hw → Hw} {P : Hw → Hw → Prop}
    (hwf : cmd.wellFormed = true) (hcmd : effect cmd s.hw = act s.hw)
    (hint : s.hw.hubOn = true → effect (.registerWrite (.internal a) v) s.hw = act s.hw)
    (hbar : s.hw.hubOn = true → s.hw.host.linkUp = true →
      effect (.registerWrite (.bar0 off) v) s.hw = act s.hw.doorbell)
    (hP : ∀ h : Hw, h.isMember = s.hw.isMember → P h (act h)) :
    ∀ i ∈ indexWays s cmd a off v, Does i.1 s (P i.2) := by
  intro i hi
  simp only [indexWays, List.mem_append, List.mem_singleton, List.mem_ite_nil_right, Bool.and_eq_true] at hi
  rcases hi with (rfl | ⟨hon, rfl⟩) | ⟨⟨hon, hup⟩, rfl⟩
  · exact does_of hwf (by rw [hcmd]; exact hP s.hw rfl)
  · exact does_of rfl (by rw [hint hon]; exact hP s.hw rfl)
  · exact does_of rfl (by rw [hbar hon hup]; exact hP s.hw.doorbell (isMember_doorbell s.hw))

theorem does_dispHeadWays (s : State) {w : Nat} (hw : w < 32) (v : Word32) :
    ∀ i ∈ indexWays s (.dispHeadWrite w v) (workerA w + 0x1C) (0x200 + 8 * w) v,
      Does i.1 s (DispHeadWritten w (fld v 12 0) i.2) := by
  refine does_indexWays (act := fun h => execDispHeadWrite h w v) (decide_eq_true hw) rfl (fun hon => ?_)
    (fun hon hup => ?_) fun h _ => ?_
  · exact (writeLoc_calls hon (o := 0x1000 + 64 * w + 0x1C) (by omega) (by omega) v).trans (writeHub_dispHead s.hw hw v)
  · exact (writeLoc_bar0 hon hup (by omega) v).trans (bar0Write_dispHead hon hw v)
  · rw [execDispHeadWrite, if_pos hw]
    exact writeDispHead_written h w (fld_lt v 12 0)

theorem does_compTailWays (s : State) {w : Nat} (hw : w < 32) (v : Word32) :
    ∀ i ∈ indexWays s (.compTailWrite w v) (workerA w + 0x20) (0x204 + 8 * w) v,
      Does i.1 s (CompTailWritten w (fld v 12 0) s.hw.isMember i.2) := by
  refine does_indexWays (act := fun h => execCompTailWrite h w v) (decide_eq_true hw) rfl (fun hon => ?_)
    (fun hon hup => ?_) fun h hm => ?_
  · exact (writeLoc_calls hon (o := 0x1000 + 64 * w + 0x20) (by omega) (by omega) v).trans (writeHub_compTail s.hw hw v)
  · exact (writeLoc_bar0 hon hup (by omega) v).trans (bar0Write_compTail hon hw v)
  · rw [execCompTailWrite, if_pos hw, ← hm]
    exact writeCompTail_written h w (fld_lt v 12 0)

/-- Settles O11: the three ways come to one write of the index, which R326 accepts or refuses. -/
theorem ringIndexWrites : Obligations.RingIndexWrites :=
  fun s _ v hw => ⟨does_dispHeadWays s hw v, does_compTailWays s hw v⟩

end Sys2Proof.Machine
end

section
/-!
PROOFS. The mailbox slots before a command is taken (R437): what a host write stores in a free slot and what a ring of it does,
that a doorbell and a wake leave the host's side of the module as it was (R390, R393, R401), and how a busy slot counts what it turns
away.
-/

namespace Sys2Proof.Machine

/-! ## A host write, byte by byte -/

theorem slotByte_congr {h g : Hw} (e : g.host.slots = h.host.slots) (j o : Nat) : g.slotByte j o = h.slotByte j o := by
  rw [Hw.slotByte, Hw.slotByte, e]

/-- One byte stored in a slot. -/
theorem slotByte_setSlotBytes_singleton (h : Hw) (k : Nat) {p : Nat} (x : Byte) (j : Nat) {o : Nat} (hp : p < 256)
    (ho : o < 256) : (h.setSlotBytes k p [x]).slotByte j o = if j = k ∧ o = p then x else h.slotByte j o := by
  rw [slotByte_setSlotBytes, List.length_singleton]
  by_cases hjo : j = k ∧ o = p
  · obtain ⟨rfl, rfl⟩ := hjo
    simp
  · rw [if_neg (by omega), if_neg hjo]

/-- Byte `b.2` of a host write at offset `off` of slot k: nothing where its byte enable is 0 or where the module writes the
field (R436). -/
def storeByte (k off : Nat) (h : Hw) (b : Option Byte × Nat) : Hw :=
  let o := off + b.2
  match b.1 with
  | some x => if 8 ≤ o ∧ o < 16 then h else h.setSlotBytes k o [x]
  | none => h

theorem execSlotWrite_free {h : Hw} {k off : Nat} {bytes : List (Option Byte)} (hon : h.hostOn = true) (hk : k < 8)
    (hlen : off + bytes.length ≤ 256) (hfree : h.slotBusy k = false) :
    execSlotWrite h k off bytes = bytes.zipIdx.foldl (storeByte k off) h := by
  have hin : (!h.hostOn || decide (k ≥ 8) || decide (256 < off + bytes.length)) = false := by simp [hon, hk, hlen]
  unfold execSlotWrite
  rw [hin, hfree]
  rfl

theorem execSlotWrite_busy {h : Hw} {k off : Nat} {bytes : List (Option Byte)} (hon : h.hostOn = true) (hk : k < 8)
    (hlen : off + bytes.length ≤ 256) (hbusy : h.slotBusy k = true) :
    execSlotWrite h k off bytes = h.bump (hostifA 0x70) 15 0 := by
  simp [execSlotWrite, hon, hk, hlen, hbusy]

theorem slotByte_storeByte (h : Hw) (k off : Nat) (b : Option Byte × Nat) (j : Nat) {o : Nat} (hb : off + b.2 < 256)
    (ho : o < 256) : (storeByte k off h b).slotByte j o =
      if j = k ∧ o = off + b.2 ∧ (o < 8 ∨ 16 ≤ o) then b.1.getD (h.slotByte j o) else h.slotByte j o := by
  obtain ⟨enabled, n⟩ := b
  cases enabled with
  | none => simp [storeByte]
  | some x =>
    unfold storeByte
    dsimp only at hb ⊢
    split
    · rw [if_neg (by omega)]
    · rw [slotByte_setSlotBytes_singleton h k x j hb ho]
      by_cases hjo : j = k ∧ o = off + n
      · rw [if_pos hjo, if_pos (by omega), Option.getD_some]
      · rw [if_neg hjo, if_neg (by omega)]

/-- A host write whose bytes are numbered from n on. -/
theorem slotByte_foldl_storeByte (k off : Nat) (bytes : List (Option Byte)) (n : Nat) (h : Hw) (j : Nat) {o : Nat}
    (hlen : off + n + bytes.length ≤ 256) (ho : o < 256) :
    ((bytes.zipIdx n).foldl (storeByte k off) h).slotByte j o =
      if j = k ∧ off + n ≤ o ∧ (o < 8 ∨ 16 ≤ o) then (bytes.getD (o - (off + n)) none).getD (h.slotByte j o)
      else h.slotByte j o := by
  induction bytes generalizing n h with
  | nil => simp
  | cons b bs ih =>
    rw [List.length_cons] at hlen
    rw [List.zipIdx_cons, List.foldl_cons, ih (n + 1) _ (by omega), slotByte_storeByte h k off (b, n) j (by dsimp; omega) ho]
    dsimp only
    rcases Nat.lt_trichotomy o (off + n) with hlt | rfl | hgt
    · rw [if_neg (by omega), if_neg (by omega), if_neg (by omega)]
    · rw [if_neg (by omega), Nat.sub_self, List.getD_cons_zero]
      simp
    · obtain ⟨m, hm⟩ : ∃ m, o - (off + n) = m + 1 := ⟨o - (off + n) - 1, by omega⟩
      rw [if_neg (c := j = k ∧ o = off + n ∧ _) (by omega), hm, List.getD_cons_succ, show o - (off + (n + 1)) = m by omega]
      exact if_congr (by omega) rfl rfl

theorem foldl_storeByte_only (k off : Nat) (bytes : List (Option Byte × Nat)) (h : Hw) :
    bytes.foldl (storeByte k off) h =
      { h with host := { h.host with slots := (bytes.foldl (storeByte k off) h).host.slots } } :=
  List.foldlRecOn (motive := fun g : Hw => g = { h with host := { h.host with slots := g.host.slots } }) _ _ rfl
    fun g hg b _ => by
      unfold storeByte
      dsimp only
      split
      · split
        · exact hg
        · rw [setSlotBytes_only, hg]
      · exact hg

/-- What a host write to a free slot stores, and that it changes nothing else (R437). -/
def SlotWritten (k off : Nat) (bytes : List (Option Byte)) (h g : Hw) : Prop :=
  (∀ o, o < 256 → g.slotByte k o =
      if off ≤ o ∧ (o < 8 ∨ 16 ≤ o) then (bytes.getD (o - off) none).getD (h.slotByte k o) else h.slotByte k o) ∧
    (∀ j o, j ≠ k → o < 256 → g.slotByte j o = h.slotByte j o) ∧
    g = { h with host := { h.host with slots := g.host.slots } }

theorem execSlotWrite_written {h : Hw} {k off : Nat} {bytes : List (Option Byte)} (hon : h.hostOn = true) (hk : k < 8)
    (hlen : off + bytes.length ≤ 256) (hfree : h.slotBusy k = false) :
    SlotWritten k off bytes h (execSlotWrite h k off bytes) := by
  rw [execSlotWrite_free hon hk hlen hfree]
  have hbyte := fun j o (ho : o < 256) => slotByte_foldl_storeByte k off bytes 0 h j (o := o) hlen ho
  refine ⟨fun o ho => ?_, fun j o hj ho => ?_, foldl_storeByte_only k off _ h⟩
  · simpa using hbyte k o ho
  · rw [hbyte j o ho, if_neg fun hc => hj hc.1]

/-! ## Counters that a busy slot advances -/

theorem fget_bump_same (h : Hw) (a : Nat) {hi lo : Nat} (n : Nat) (hw : hi < 32) :
    (h.bump a hi lo n).fget a hi lo = min (2 ^ (hi + 1 - lo) - 1) (h.fget a hi lo + n) := by
  have hpos : 0 < 2 ^ (hi + 1 - lo) := Nat.two_pow_pos _
  rw [Hw.bump, fget_fset_same h a hi lo _ hw, satAdd, Nat.mod_eq_of_lt (by omega)]

/-- A counter of a word that holds another field counts one more, and nothing else changes. -/
def Counted (a hi lo hi' lo' : Nat) (h g : Hw) : Prop :=
  g.fget a hi lo = min (2 ^ (hi + 1 - lo) - 1) (h.fget a hi lo + 1) ∧ g.fget a hi' lo' = h.fget a hi' lo' ∧ OnlyRegs [a] h g

theorem counted_bump (h : Hw) (a : Nat) {hi lo hi' lo' : Nat} (hw : hi < 32) (hw' : hi' < 32) (hd : hi' < lo ∨ hi < lo') :
    Counted a hi lo hi' lo' h (h.bump a hi lo) :=
  ⟨fget_bump_same h a 1 hw, fget_fset_ne h a a hi' lo' hi lo _ hw' (.inr hd), onlyRegs_fset h a hi lo _⟩

/-! ## Work at the links: ports, their registers, the trace and what is sent -/

/-- From h to g only the links have worked: the ports, registers outside the POWER block, the trace and what is sent. -/
def LinkWork (h g : Hw) : Prop :=
  g = { h with regs := g.regs, ports := g.ports, out := g.out, trace := g.trace } ∧
    ∀ o, o < 0x10000 → g.reg (powerA o) = h.reg (powerA o)

theorem LinkWork.refl (h : Hw) : LinkWork h h := ⟨rfl, fun _ _ => rfl⟩

theorem LinkWork.trans {h g k : Hw} (p : LinkWork h g) (q : LinkWork g k) : LinkWork h k :=
  ⟨by rw [q.1, p.1], fun o ho => (q.2 o ho).trans (p.2 o ho)⟩

theorem LinkWork.host {h g : Hw} (p : LinkWork h g) : g.host = h.host := by rw [p.1]

theorem LinkWork.pstate {h g : Hw} (p : LinkWork h g) : g.pstate = h.pstate := by
  rw [Hw.pstate, Hw.fget, p.2 0 (by omega)]
  rfl

theorem LinkWork.foldl {α : Type} {f : Hw → α → Hw} (step : ∀ g x, LinkWork g (f g x)) (xs : List α) (h : Hw) :
    LinkWork h (xs.foldl f h) :=
  List.foldlRecOn (motive := LinkWork h) _ _ (.refl h) fun g hg x _ => hg.trans (step g x)

/-- A register outside the POWER block. -/
theorem linkWork_setReg (h : Hw) {a : Nat} (v : Word32) (ha : a < powerA 0 ∨ powerA 0x10000 ≤ a) :
    LinkWork h (h.setReg a v) := by
  refine ⟨rfl, fun o ho => ?_⟩
  rw [reg_setReg, if_neg (by unfold powerA at *; omega)]

theorem eaveA_not_power (p o : Nat) : eaveA p o < powerA 0 ∨ powerA 0x10000 ≤ eaveA p o := by unfold eaveA powerA; omega

theorem linkWork_eset (h : Hw) (p o hi lo v : Nat) : LinkWork h (h.eset p o hi lo v) :=
  linkWork_setReg h _ (eaveA_not_power p o)

theorem linkWork_setPort (h : Hw) (p : Nat) (v : EavePort) : LinkWork h (h.setPort p v) := ⟨rfl, fun _ _ => rfl⟩

theorem linkWork_updPort (h : Hw) (p : Nat) (f : EavePort → EavePort) : LinkWork h (h.updPort p f) := linkWork_setPort h p _

theorem linkWork_sendOn (h : Hw) (p dst code : Nat) (m : LinkMsg) : LinkWork h (h.sendOn p dst code m) := by
  rw [sendOn_only]
  exact ⟨rfl, fun _ _ => rfl⟩

theorem linkWork_sendMsg (h : Hw) (dst : Nat) (m : LinkMsg) (code : Nat) : LinkWork h (h.sendMsg dst m code) := by
  rw [sendMsg_only]
  exact ⟨rfl, fun _ _ => rfl⟩

theorem linkWork_emit (h : Hw) (o : Out) : LinkWork h (h.emit o) := ⟨rfl, fun _ _ => rfl⟩

theorem linkWork_reportPort (h : Hw) (p : Nat) : LinkWork h (h.reportPort p) :=
  .foldl (fun g _ => (linkWork_emit g _).trans (linkWork_sendOn ..)) _ h

theorem linkWork_relock (h : Hw) (p : Nat) : LinkWork h (h.relock p) := by
  unfold Hw.relock
  split
  · exact linkWork_setReg h _ (by decide)
  · exact .refl h

theorem linkWork_setRole (h : Hw) (p r lane : Nat) (erased : Bool) : LinkWork h (h.setRole p r lane erased) :=
  linkWork_setReg h _ (eaveA_not_power p _)

theorem linkWork_setTaps (h : Hw) (p l pre post : Nat) : LinkWork h (h.setTaps p l pre post) :=
  linkWork_setReg h _ (eaveA_not_power p _)

theorem linkWork_forgetLink (h : Hw) (p : Nat) (st : PortState) : LinkWork h (h.forgetLink p st) := by
  unfold Hw.forgetLink
  extract_lets old pt fresh roles was cleared dark
  have hroles : LinkWork h roles := (linkWork_setPort h p _).trans (.foldl (fun g _ => linkWork_setRole g ..) _ fresh)
  have hcleared : LinkWork roles cleared := (linkWork_eset roles ..).trans (linkWork_setReg _ _ (eaveA_not_power p _))
  have hdark : LinkWork cleared dark :=
    (((linkWork_eset cleared ..).trans (linkWork_eset ..)).trans (linkWork_setReg _ _ (eaveA_not_power p _))).trans
      (linkWork_relock ..)
  have hall : LinkWork h dark := (hroles.trans hcleared).trans hdark
  clear_value dark
  split
  · exact hall.trans (linkWork_reportPort dark p)
  · exact hall

theorem linkWork_enterDetect (h : Hw) (p : Nat) : LinkWork h (h.enterDetect p) :=
  (linkWork_forgetLink h p .detect).trans (.foldl (fun g _ => linkWork_setTaps g ..) _ _)

theorem linkWork_offWake (h : Hw) (p : Nat) : LinkWork h (h.offWake p) := by
  rw [Hw.offWake]
  exact (linkWork_enterDetect h p).trans (linkWork_updPort ..)

theorem linkWork_wakePorts (h : Hw) (ps : List Nat) : LinkWork h (h.wakePorts ps) := by
  refine .foldl (fun g p => ?_) ps h
  split
  · exact linkWork_offWake g p
  · exact linkWork_updPort g p _

theorem linkWork_applySleep (h : Hw) (p : Nat) : LinkWork h (h.applySleep p) := by
  unfold Hw.applySleep
  dsimp only
  split_ifs
  · exact .refl h
  · exact linkWork_offWake h p
  · exact linkWork_updPort h p _
  · exact .refl h
  · exact linkWork_updPort h p _

theorem linkWork_applySleeps (h : Hw) : LinkWork h h.applySleeps := .foldl (fun g p => linkWork_applySleep g p) _ h

theorem linkWork_stage (h : Hw) (p : BitVec 128) : LinkWork h (h.stage p) := by
  have hstaged : LinkWork h { h with trace := { h.trace with staging := h.trace.staging ++ [p] } } := ⟨rfl, fun _ _ => rfl⟩
  unfold Hw.stage
  dsimp only
  split_ifs
  · exact hstaged.trans (linkWork_setReg _ _ (by decide))
  · exact hstaged.trans (linkWork_setReg _ _ (by decide))
  · exact hstaged

theorem linkWork_syncIfOn (h : Hw) (reason : Nat) : LinkWork h (h.syncIfOn reason) := by
  unfold Hw.syncIfOn
  split
  · exact (linkWork_stage h _).trans (linkWork_stage _ _)
  · exact .refl h

theorem linkWork_spreadWake (h : Hw) : LinkWork h h.spreadWake := by
  unfold Hw.spreadWake
  split
  · exact linkWork_sendMsg h ..
  · exact .foldl (fun g _ => linkWork_sendMsg g ..) _ h

/-! ## A doorbell and a wake leave the host's side as it was -/

theorem pstate_setPstate (h : Hw) {n : Nat} (hn : n < 8) : (h.setPstate n).pstate = n :=
  (fget_fset_same _ (powerA 0) 2 0 n (by omega)).trans (Nat.mod_eq_of_lt hn)

theorem pstate_noEntry (h : Hw) : h.noEntry.pstate = h.pstate := fget_fset_ne _ _ _ 2 0 3 3 0 (by omega) (by omega)

/-- The module leaves IDLE for RUN, and its links wake (R393). -/
theorem linkWork_leaveIdle {h : Hw} (hidle : h.pstate = 1) : LinkWork (h.noEntry.setPstate 0) h.leaveIdle := by
  rw [Hw.leaveIdle, if_pos hidle]
  exact (((linkWork_wakePorts _ _).trans (linkWork_applySleeps _)).trans (linkWork_syncIfOn _ 1)).trans (linkWork_spreadWake _)

theorem leaveIdle_of_not_idle {h : Hw} (hp : h.pstate ≠ 1) : h.leaveIdle = h := if_neg hp

theorem restartTimer_host (h : Hw) : h.restartTimer.host = h.host := by
  unfold Hw.restartTimer
  dsimp only
  split <;> rfl

theorem restartTimer_pstate (h : Hw) : h.restartTimer.pstate = h.pstate := by
  unfold Hw.restartTimer
  dsimp only
  split
  · exact pstate_noEntry _
  · rfl

theorem doorbell_host (h : Hw) : h.doorbell.host = h.host := by
  unfold Hw.doorbell
  split
  · exact restartTimer_host h
  · by_cases hidle : h.pstate = 1
    · exact (linkWork_leaveIdle hidle).host
    · rw [leaveIdle_of_not_idle hidle]

/-- A doorbell takes a module in IDLE to RUN, and leaves every other power state (R390, R393). -/
theorem doorbell_pstate (h : Hw) : h.doorbell.pstate = if h.pstate = 1 then 0 else h.pstate := by
  unfold Hw.doorbell
  split
  case isTrue hrun => rw [restartTimer_pstate, if_neg (by omega)]
  case isFalse =>
    split
    case isTrue hidle => exact (linkWork_leaveIdle hidle).pstate.trans (pstate_setPstate _ (by omega))
    case isFalse hidle => rw [leaveIdle_of_not_idle hidle]

theorem stopEntry_host (h : Hw) : h.stopEntry.host = h.host := by
  unfold Hw.stopEntry
  split <;> rfl

theorem wakeLine_host (h : Hw) (v : Bool) : (h.wakeLine v).host = h.host := by
  unfold Hw.wakeLine
  split <;> rfl

theorem wakeBy_host (h : Hw) (src port : Nat) : (h.wakeBy src port).host = h.host := by
  unfold Hw.wakeBy
  split
  · rfl
  · dsimp only
    split
    · rw [wakeLine_host]
      exact stopEntry_host h
    · exact stopEntry_host h

/-! ## A ring -/

/-- The module takes the slot's contents as the command: the slot is QUEUED, and last of those rung (R437). -/
def Hw.queued (h : Hw) (k : Nat) : Hw :=
  { h.setSlotState k 1 with host := { (h.setSlotState k 1).host with ring := h.host.ring ++ [k] } }

theorem queued_host_congr {h g : Hw} (e : g.host = h.host) (k : Nat) : (g.queued k).host = (h.queued k).host := by
  simp only [Hw.queued, Hw.setSlotState, Hw.setSlotBytes, e]

/-- In SLEEP a ring is taken when wake by a ring is enabled, and wakes the module (R402). -/
theorem execMbxRing_sleep {h : Hw} {k : Nat} (hon : h.hostOn = true) (hk : k < 8) (hfree : h.slotBusy k = false)
    (hsleep : h.pstate = 3) (hen : h.bget (powerA 0x14) 0 = true) : execMbxRing h k = (h.queued k).wakeBy 1 0 := by
  simp [execMbxRing, hon, hk, hfree, hsleep, hen, Hw.queued]

/-- Outside SLEEP a ring is a doorbell; ready firmware takes it, and it wakes the module where it may (R402, R432). -/
theorem execMbxRing_awake {h : Hw} {k : Nat} (hon : h.hostOn = true) (hk : k < 8) (hfree : h.slotBusy k = false)
    (hp : h.pstate < 3) (hready : h.host.ready = true) (hsw : h.host.fwSwitch = false) :
    execMbxRing h k =
      if (h.doorbell.queued k).wakes 1 0 then (h.doorbell.queued k).wakeBy 1 0 else h.doorbell.queued k := by
  have hd : h.doorbell.pstate ≠ 4 := by rw [doorbell_pstate]; split <;> omega
  simp [execMbxRing, hon, hk, hfree, show h.pstate ≠ 3 by omega, hd, doorbell_host, hready, hsw, Hw.queued]

theorem execMbxRing_busy {h : Hw} {k : Nat} (hon : h.hostOn = true) (hk : k < 8) (hbusy : h.slotBusy k = true) :
    execMbxRing h k = h.bump (hostifA 0x70) 31 16 := by
  simp [execMbxRing, hon, hk, hbusy]

/-- Where the module takes the ring, the host's side of it changes as `queued` says, and in nothing else. -/
theorem execMbxRing_host {h : Hw} {k : Nat} (hon : h.hostOn = true) (hk : k < 8) (hfree : h.slotBusy k = false)
    (htakes : (h.pstate < 3 ∧ h.host.ready = true ∧ h.host.fwSwitch = false) ∨
      (h.pstate = 3 ∧ h.bget (powerA 0x14) 0 = true)) : (execMbxRing h k).host = (h.queued k).host := by
  rcases htakes with ⟨hp, hready, hsw⟩ | ⟨hsleep, hen⟩
  · have hq : (h.doorbell.queued k).host = (h.queued k).host := queued_host_congr (doorbell_host h) k
    rw [execMbxRing_awake hon hk hfree hp hready hsw]
    split
    · exact (wakeBy_host ..).trans hq
    · exact hq
  · rw [execMbxRing_sleep hon hk hfree hsleep hen, wakeBy_host]

/-- Slot k holds a queued command, the last of those rung, and no byte but its STATE differs. -/
def SlotQueued (k : Nat) (h g : Hw) : Prop :=
  g.slotBusy k = true ∧ g.slotState k = 1 ∧ g.host.ring = h.host.ring ++ [k] ∧
    ∀ j o, o < 256 → (j, o) ≠ (k, 9) → g.slotByte j o = h.slotByte j o

theorem slotQueued_of_host {h g : Hw} {k : Nat} (hg : g.host = (h.queued k).host) : SlotQueued k h g := by
  have hbyte : ∀ j o, o < 256 → g.slotByte j o = if j = k ∧ o = 9 then 1 else h.slotByte j o := fun j o ho =>
    (slotByte_congr (congrArg HostSt.slots hg) j o).trans (slotByte_setSlotBytes_singleton h k 1 j (by omega) ho)
  have hstate : g.slotState k = 1 := by
    rw [Hw.slotState, hbyte k 9 (by omega)]
    simp
  refine ⟨by simp [Hw.slotBusy, hstate], hstate, by rw [hg]; rfl, fun j o ho hne => ?_⟩
  rw [hbyte j o ho, if_neg fun hjo => hne (Prod.ext hjo.1 hjo.2)]

/-- Settles O57: the free slot stores what the host writes and is queued by its ring, and the busy one counts both. -/
theorem mailboxRing : Obligations.MailboxRing := by
  intro s k hk hon
  refine ⟨fun off bytes hlen => ?_, fun hfree htakes => ?_, fun hbusy => ?_⟩
  · have hwf : (Instr.slotWrite k off bytes).wellFormed = true := by simp [Instr.wellFormed, hk, hlen]
    refine ⟨fun hfree => does_of hwf (execSlotWrite_written hon hk hlen hfree), fun hbusy => does_of hwf ?_⟩
    rw [effect, execSlotWrite_busy hon hk hlen hbusy]
    exact counted_bump s.hw _ (by omega) (by omega) (by omega)
  · exact does_of (decide_eq_true hk) (slotQueued_of_host (execMbxRing_host hon hk hfree htakes))
  · refine does_of (decide_eq_true hk) ?_
    rw [effect, execMbxRing_busy hon hk hbusy]
    exact counted_bump s.hw _ (by omega) (by omega) (by omega)

end Sys2Proof.Machine
end

section
-- As the tests above: declarations in order, so that checking the one text stays within its memory.
set_option Elab.async false
/-!
PROOFS. The queue of commands: a step performs the command at its front, and no command that can be sent stops (O1 to O3), and the
state after reset (O4).
-/

namespace Sys2Proof.Machine

/-- A command that names existing parts completes with the queue as it was. -/
theorem exec_wellFormed_next {i : Instr} (w : i.wellFormed = true) (s : State) :
    ∃ t, exec i s = .next t ∧ t.pending = s.pending := ⟨_, exec_ok w s, rfl⟩

theorem step_cons {s : State} {c : Instr} {rest : List Instr} (hp : s.pending = c :: rest) :
    step s = exec c { s with pending := rest } := by
  unfold step
  rw [hp]

theorem step_empty {s : State} (hp : s.pending = []) : step s = .next { s with hw := s.hw.idle } := by
  unfold step
  rw [hp]

/-- As many steps as there are commands perform them in turn and leave an empty queue. -/
theorem run_length_performAll (cs : List Instr) (h : Hw) (w : cs.all Instr.wellFormed = true) :
    ∃ t : State, Sys2Proof.core.run cs.length ⟨cs, h⟩ = .next t ∧ t.pending = [] ∧ performAll cs ⟨[], h⟩ = .next t := by
  induction cs generalizing h with
  | nil => exact ⟨⟨[], h⟩, rfl, rfl, rfl⟩
  | cons c cs ih =>
    rw [List.all_cons, Bool.and_eq_true] at w
    obtain ⟨t, hrun, hpend, hall⟩ := ih (effect c h) w.2
    have hstep : Sys2Proof.core.step ⟨c :: cs, h⟩ = .next ⟨cs, effect c h⟩ := exec_ok w.1 ⟨cs, h⟩
    refine ⟨t, ?_, hpend, ?_⟩
    · simpa only [List.length_cons, Host.Core.run, hstep] using hrun
    · rw [performAll, exec_ok w.1]
      exact hall

/-- Settles O1, by the two branches of a step. -/
theorem stepPerformsFront : Obligations.StepPerformsFront :=
  ⟨fun _ _ _ => step_cons rfl, fun _ => step_empty rfl⟩

/-- Settles O2: a command at the front that can be sent completes and leaves the queue's rest, and with an empty queue an idle
clock passes. -/
theorem sendableQueueNeverStops : Obligations.SendableQueueNeverStops := by
  intro s hs
  cases hp : s.pending with
  | nil => exact ⟨_, step_empty hp, by simp [State.sendable, hp], hp⟩
  | cons c rest =>
    simp only [State.sendable, hp, List.all_cons, Bool.and_eq_true] at hs
    obtain ⟨t, hnext, hpend⟩ := exec_wellFormed_next hs.1 { s with pending := rest }
    refine ⟨t, (step_cons hp).trans hnext, ?_, hpend⟩
    rw [State.sendable, hpend]
    exact hs.2

/-- Settles O3, the second part by induction on the list of commands. -/
theorem stopsAndDrains : Obligations.StopsAndDrains :=
  ⟨fun _ s => ⟨fun w => exec_wellFormed_next w s, fun w => exec_bad w s⟩, run_length_performAll⟩

/-! ## The state after reset -/

/-- POWER_ON of a module without anything listed gives the state after reset. -/
theorem execPowerOn_fresh : execPowerOn {} 0 3 = State.reset.hw := by decide +kernel

/-- Settles O4, by evaluation of the start and of the registers that it leaves. -/
theorem resetState : Obligations.ResetState := by
  refine ⟨?_, by decide, ?_⟩
  · rw [exec_ok rfl]
    exact congrArg (fun h => Host.Outcome.next (State.mk [] h)) execPowerOn_fresh
  · dsimp only
    exact ⟨by decide +kernel, by decide +kernel, by decide +kernel, by decide +kernel, by decide +kernel, by decide +kernel,
      by decide +kernel, by decide +kernel, by decide +kernel, by decide +kernel, by decide +kernel, by decide +kernel,
      by decide +kernel, by decide +kernel, by decide +kernel, by decide +kernel, by decide +kernel⟩

end Sys2Proof.Machine
end

section
-- As the tests above: declarations in order, so that checking the one text stays within its memory.
set_option Elab.async false
/-!
PROOFS. Starts of the module (O5): what a completed command says of its effect, and the register that a capture of a slot beyond the
sixteen of R374 would reach.
-/

namespace Sys2Proof.Machine

/-- What is said of a command that completes is said of its effect. -/
theorem Does.of_effect {i : Instr} {s : State} {P : Hw → Prop} (d : Does i s P) : P (effect i s.hw) := by
  obtain ⟨t, ht, -, hP⟩ := d
  cases w : i.wellFormed with
  | true =>
    rw [exec_ok w] at ht
    cases ht
    exact hP
  | false =>
    rw [exec_bad w] at ht
    cases ht

/-- A command of existing parts completes exactly when its effect is as said. -/
theorem does_iff {i : Instr} {s : State} {P : Hw → Prop} (w : i.wellFormed = true) : Does i s P ↔ P (effect i s.hw) :=
  ⟨Does.of_effect, does_of w⟩

/-- A module with power whose capture names slot 0x4FDE: word 0 of that slot would be POWER.AON_STAT, for the slots' words have no bound
in the address that a slot number gives. -/
def beyondSlots : Hw :=
  { power := { powered := true }
    snap := { capture := some ⟨0x4FDE, 0, 0, none, [], [], false, 0, false, false, []⟩ } }

/-- Refutes O5: a state whose capture names a slot beyond the sixteen writes the failed STATE over AON_STAT, so that LAST_RESET does not
read the cause. The first clause does not bound the capture's slot, as the second does. -/
theorem not_coldStarts : ¬ Obligations.ColdStarts := by
  intro h
  obtain ⟨-, hperst, -⟩ := h.1 ⟨[], beyondSlots⟩
  obtain ⟨-, hlast, -⟩ := (hperst rfl rfl).of_effect.1
  exact absurd hlast (by decide +kernel)

end Sys2Proof.Machine
end

section
-- As the tests above: declarations in order, so that checking the one text stays within its memory.
set_option Elab.async false
/-!
PROOFS. Loss of the input and thermal shutdown (O6): what a cold start leaves of the registers and of the firmware, and what then
stays dark.
-/

namespace Sys2Proof.Machine

/-- A key that is kept reads as before, and every other one as unlisted. -/
theorem Store.get_keep {α : Type} (d : α) (p : Nat → Bool) (m : Store α) (a : Nat) :
    Store.get d (Store.keep p m) a = if p a = true then Store.get d m a else d := by
  induction m with
  | nil => simp [Store.keep, Store.get]
  | cons kv m ih =>
    obtain ⟨k, v⟩ := kv
    have hcons : Store.keep p ((k, v) :: m) = if p k = true then (k, v) :: Store.keep p m else Store.keep p m :=
      List.filter_cons
    by_cases hk : a = k
    · subst hk
      by_cases hp : p a = true
      · simp [hcons, hp, Store.get]
      · rw [hcons, if_neg hp, ih, if_neg hp, if_neg hp]
    · have hget : Store.get d ((k, v) :: m) a = Store.get d m a := if_neg hk
      by_cases hp : p k = true
      · rw [hcons, if_pos hp, hget, ← ih]
        exact if_neg hk
      · rw [hcons, if_neg hp, hget, ih]

/-! ## The sideband lines (R401, R493) -/

/-- A driven line changes what its pin holds and what is sent. -/
theorem wakeLine_eq (h : Hw) (v : Bool) :
    h.wakeLine v = { h with power := { h.power with wakePin := v }, out := (h.wakeLine v).out } := by
  unfold Hw.wakeLine
  split
  · next e => rw [← e]
  · rfl

theorem alertLine_eq (h : Hw) (v : Bool) :
    h.alertLine v = { h with power := { h.power with alertPin := v }, out := (h.alertLine v).out } := by
  unfold Hw.alertLine
  split
  · next e => rw [← e]
  · rfl

/-! ## What a cold start leaves (R10, R381, R428) -/

/-- A register word of a state of which the stepping and the listed registers are known. -/
theorem reg_eq_get {g : Hw} {st : Stepping} {m : Store Word32} (hst : g.stepping = st) (hregs : g.regs = m) (a : Nat) :
    g.reg a = Store.get (regReset st a) m a := by
  rw [Hw.reg, hst, hregs]

/-- The slot of a capture in progress reads failed (R381). -/
def Hw.failCapture (h : Hw) (c : Option Capture) : Hw :=
  match c with
  | some c => h.setReg (snapSlotA c.slot 0) (BitVec.ofNat 32 (3 * 4))
  | none => h

theorem failCapture_only (h : Hw) (c : Option Capture) : h.failCapture c = { h with regs := (h.failCapture c).regs } := by
  cases c <;> rfl

theorem reg_failCapture (h : Hw) (c : Option Capture) (a : Nat) :
    (h.failCapture c).reg a = if ∃ x, c = some x ∧ a = snapSlotA x.slot 0 then 12 else h.reg a := by
  cases c with
  | none => simp [Hw.failCapture]
  | some c => simp [Hw.failCapture, reg_setReg]

/-- The registers that outlive a cold start, with the cause in AON_STAT. -/
def Hw.coldCause (h : Hw) (last : Nat) : Hw :=
  (({ stepping := h.stepping, regs := h.coldRegs } : Hw).fset (powerA 0x20) 18 17 last).fset (powerA 0x20) 19 19 0

theorem reg_coldCause (h : Hw) (last : Nat) {a : Nat} (ha : a ≠ powerA 0x20) :
    (h.coldCause last).reg a = if aonReg a || h.lostSlot a then h.reg a else regReset h.stepping a := by
  rw [Hw.coldCause, Hw.fset, reg_setReg, if_neg ha, Hw.fset, reg_setReg, if_neg ha]
  rw [reg_eq_get (g := { stepping := h.stepping, regs := h.coldRegs }) rfl rfl, Hw.coldRegs, Store.get_keep]
  rfl

/-- The registers of a cold start: the slot that it ends reads failed as well. -/
def Hw.coldRegsOf (h : Hw) (last : Nat) : Store Word32 := ((h.coldCause last).failCapture h.snap.capture).regs

theorem coldStart_eq (h : Hw) (last : Nat) : ∃ o, h.coldStart last = { ({} : Hw) with
      stepping := h.stepping, devIndex := h.devIndex, serial := h.serial, free := h.free, regs := h.coldRegsOf last
      fw := h.fw.cold, out := o
      time := { aon := h.time.aon, aonFrac := h.time.aonFrac }, host := { perst := h.host.perst, linkUp := !h.host.perst }
      power := { powered := true, pads := h.power.pads, alertPin := h.fw.cold.stuck } } := by
  unfold Hw.coldStart Hw.coldRegsOf Hw.coldCause Hw.failCapture
  extract_lets n caused ended
  refine ⟨((ended.wakeLine false).alertLine ended.fw.stuck).out, (alertLine_eq _ _).trans ?_⟩
  generalize ((ended.wakeLine false).alertLine ended.fw.stuck).out = o
  rw [wakeLine_eq]
  cases hc : h.snap.capture <;> simp only [ended, hc] <;> rfl

/-- Words outside the AON domain after a cold start. -/
theorem get_coldRegsOf (h : Hw) (last : Nat) {a : Nat} (ha : aonReg a = false) :
    (LostSlot h a → Store.get (regReset h.stepping a) (h.coldRegsOf last) a = 12) ∧
      (¬ LostSlot h a → Store.get (regReset h.stepping a) (h.coldRegsOf last) a = regReset h.stepping a) := by
  have hne : a ≠ powerA 0x20 := by
    rintro rfl
    simp [aonReg] at ha
  have hst : ((h.coldCause last).failCapture h.snap.capture).stepping = h.stepping := by
    rw [failCapture_only]
    rfl
  have hget : Store.get (regReset h.stepping a) (h.coldRegsOf last) a =
      if ∃ x, h.snap.capture = some x ∧ a = snapSlotA x.slot 0 then 12
      else if h.lostSlot a = true then h.reg a else regReset h.stepping a := by
    rw [Hw.coldRegsOf, ← reg_eq_get hst rfl, reg_failCapture, reg_coldCause h last hne, ha, Bool.false_or]
  rw [hget]
  constructor
  · rintro (hl | hc)
    · have hreg : h.reg a = 12 := by
        have hlost := hl
        simp only [Hw.lostSlot, Bool.and_eq_true, beq_iff_eq] at hlost
        exact hlost.1
      rw [if_pos hl, hreg, ite_self]
    · rw [if_pos hc]
  · intro hn
    rw [if_neg fun hc => hn (.inr hc), if_neg fun hl => hn (.inl hl)]

/-- The firmware state of a start: what the flashes and the fuses hold stays (R474, R483). -/
theorem fwCold_kept (f : FwSt) : f.cold.fuses = f.fuses ∧ f.cold.key = f.key ∧ f.cold.failures = f.failures ∧
    f.cold.lockLen = f.lockLen ∧ f.cold.layout = f.layout ∧ f.cold.session = none ∧ f.cold.nonce = none ∧
    f.cold.transfer = none ∧ f.cold.pending = none ∧ f.cold.verified = false := by
  unfold FwSt.cold FwSt.setBank
  dsimp only
  split_ifs <;> exact ⟨rfl, rfl, rfl, rfl, rfl, rfl, rfl, rfl, rfl, rfl⟩

/-! ## Dark (R488, R490, R500) -/

theorem dark_false_eq (h : Hw) : ∃ o, h.dark false = { ({} : Hw) with
      stepping := h.stepping, devIndex := h.devIndex, serial := h.serial, free := h.free
      regs := Store.keep (fun a => !aonReg a) (h.coldRegsOf (h.fget (powerA 0x20) 18 17)), fw := h.fw.cold, out := o
      host := { perst := h.host.perst }, power := { hot := h.power.hot, asked := h.power.asked } } := by
  obtain ⟨o, hc⟩ := coldStart_eq h (h.fget (powerA 0x20) 18 17)
  unfold Hw.dark Hw.linesOff
  rw [hc, if_neg Bool.false_ne_true]
  rw [show ∀ g : Hw, g.power.wakePin = false → g.wakeLine false = g from fun g e => if_pos e]
  · exact ⟨_, alertLine_eq _ _⟩
  · rfl

theorem dark_true_eq (h : Hw) : ∃ o, h.dark true = { ({} : Hw) with
      stepping := h.stepping, devIndex := h.devIndex, serial := h.serial, free := h.free
      regs := h.coldRegsOf (h.fget (powerA 0x20) 18 17), fw := h.fw.cold, out := o
      time := { aon := h.time.aon, aonFrac := h.time.aonFrac }, host := { perst := h.host.perst }
      power := { powered := true, pads := h.power.pads, hot := h.power.hot, asked := h.power.asked,
                 alertPin := h.fw.cold.stuck } } := by
  obtain ⟨o, hc⟩ := coldStart_eq h (h.fget (powerA 0x20) 18 17)
  unfold Hw.dark Hw.linesOff
  rw [hc]
  exact ⟨o, rfl⟩

/-- Without its input the module keeps nothing, the AON domain included. -/
theorem darkened_dark_false (h : Hw) : Darkened false h (h.dark false) := by
  obtain ⟨o, hd⟩ := dark_false_eq h
  have hst : (h.dark false).stepping = h.stepping := by rw [hd]
  have hregs : (h.dark false).regs = Store.keep (fun a => !aonReg a) (h.coldRegsOf (h.fget (powerA 0x20) 18 17)) := by
    rw [hd]
  refine ⟨?_, fun a ha => ?_, fun _ a ha => ?_, ?_⟩
  · rw [hd]
    rfl
  · rw [reg_eq_get hst hregs, Store.get_keep, if_pos (by rw [ha]; rfl)]
    exact get_coldRegsOf h _ ha
  · rw [reg_eq_get hst hregs, Store.get_keep, if_neg (by rw [ha]; exact Bool.false_ne_true)]
  · rw [hd]
    exact fwCold_kept h.fw

/-- A thermal shutdown keeps the AON domain. -/
theorem darkened_execThermalShutdown {h : Hw} (hp : h.power.powered = true) : Darkened true h (execThermalShutdown h) := by
  obtain ⟨o, hd⟩ := dark_true_eq h
  unfold execThermalShutdown
  rw [if_neg (by rw [hp]; decide), hd]
  rw [alertLine_eq]
  exact ⟨rfl, fun a ha => get_coldRegsOf h _ ha, fun e => absurd e (by decide), fwCold_kept h.fw⟩

/-- PERST# during a thermal shutdown asks for the cold start (R500). -/
theorem execPerstAssert_hot {h : Hw} (hp : h.power.powered = true) (hh : h.power.hot = true) :
    execPerstAssert h =
      { h with host := { h.host with perst := true, linkUp := false }, power := { h.power with asked := true } } := by
  simp [execPerstAssert, hp, hh]

/-- The return of the input during a thermal shutdown asks for the cold start and asserts ALERT# (R493, R500). -/
theorem execPowerOn_hot {h : Hw} (hh : h.power.hot = true) (straps : BitVec 6) (intact : BitVec 2) :
    let g := execPowerOn h straps intact
    g.power.powered = true ∧ g.power.hot = true ∧ g.power.asked = true ∧ g.power.alertPin = true ∧ g.regs = h.regs ∧
      g.seq = h.seq := by
  unfold execPowerOn
  dsimp only
  rw [if_pos hh, alertLine_eq]
  exact ⟨rfl, hh, rfl, rfl, rfl, rfl⟩

/-- Settles O6, from the state that each start leaves. -/
theorem powerLossAndShutdown : Obligations.PowerLossAndShutdown := by
  refine ⟨fun s => ⟨does_of rfl (darkened_dark_false s.hw), does_of rfl (darkened_dark_false s.hw), fun hp =>
    does_of rfl (darkened_execThermalShutdown hp)⟩, fun s hp hh => ⟨does_of rfl (execPerstAssert_hot hp hh), fun straps intact =>
    does_of rfl (execPowerOn_hot hh straps intact), fun ha => ?_⟩⟩
  rw [exec_ok rfl]
  simp [effect, execThermalRestart, ha]

end Sys2Proof.Machine
end

section
-- As the tests above: declarations in order, so that checking the one text stays within its memory.
set_option Elab.async false
/-!
PROOFS. The endpoint (O7): pending messages (R429), the reset of the endpoint, and configuration requests (R426, R427, R431).
-/

namespace Sys2Proof.Machine

/-! ## Pending messages (R429) -/

/-- Vector v is pending and may be sent. -/
def Hw.sends (h : Hw) (v : Nat) : Bool := bit h.host.pba v && h.bme && h.host.linkUp && !bit (h.msixWord (4 * v + 3)) 0

/-- One vector of `sendPending`. -/
def Hw.sendVector (h : Hw) (v : Nat) : Hw :=
  if h.sends v then ({ h with host := { h.host with pba := setBit h.host.pba v false } } : Hw).emit (.msix v) else h

theorem sendPending_eq (h : Hw) : h.sendPending = (List.range 64).foldl Hw.sendVector h := rfl

theorem sendVector_only (h : Hw) (v : Nat) :
    h.sendVector v = { h with host := { h.host with pba := (h.sendVector v).host.pba }, out := (h.sendVector v).out } := by
  unfold Hw.sendVector
  split <;> rfl

theorem sendVectors_only (h : Hw) (vs : List Nat) : vs.foldl Hw.sendVector h =
    { h with host := { h.host with pba := (vs.foldl Hw.sendVector h).host.pba }, out := (vs.foldl Hw.sendVector h).out } := by
  induction vs generalizing h with
  | nil => rfl
  | cons v vs ih =>
    rw [List.foldl_cons, ih, sendVector_only]

/-- Another vector may be sent after one has been. -/
theorem sends_sendVector (h : Hw) {v w : Nat} (hv : v < 64) :
    (h.sendVector v).sends w = (h.sends w && !(decide (w = v))) := by
  unfold Hw.sendVector
  split
  · simp only [Hw.sends, Hw.msixWord, emit_host, emit_bme, bit_setBit _ _ _ _ hv]
    by_cases hw : w = v <;> simp [hw]
  · next hn =>
    by_cases hw : w = v
    · subst hw
      simp [Bool.eq_false_iff.2 hn]
    · simp [hw]

theorem pba_sendVector (h : Hw) {v w : Nat} (hv : v < 64) :
    bit (h.sendVector v).host.pba w = (bit h.host.pba w && !(decide (w = v) && h.sends v)) := by
  unfold Hw.sendVector
  split
  · next hs =>
    simp only [emit_host, bit_setBit _ _ _ _ hv]
    by_cases hw : w = v <;> simp [hw, hs]
  · next hn => simp [Bool.eq_false_iff.2 hn]

/-- The pending bits of the vectors that may be sent are cleared, and no others. -/
theorem pba_sendVectors (h : Hw) (vs : List Nat) (hvs : ∀ v ∈ vs, v < 64) (w : Nat) :
    bit (vs.foldl Hw.sendVector h).host.pba w = (bit h.host.pba w && !(decide (w ∈ vs) && h.sends w)) := by
  induction vs generalizing h with
  | nil => simp
  | cons v vs ih =>
    have hv : v < 64 := hvs v List.mem_cons_self
    rw [List.foldl_cons, ih _ fun x hx => hvs x (List.mem_cons_of_mem _ hx), pba_sendVector h hv, sends_sendVector h hv]
    by_cases hw : w = v
    · subst hw
      simp
    · simp [hw]

theorem mem_out_sendVectors_of_mem (h : Hw) (vs : List Nat) {o : Out} (ho : o ∈ h.out) :
    o ∈ (vs.foldl Hw.sendVector h).out := by
  induction vs generalizing h with
  | nil => exact ho
  | cons v vs ih =>
    refine ih _ ?_
    unfold Hw.sendVector
    split
    · exact List.mem_append_left _ ho
    · exact ho

/-- The message of a vector that may be sent is sent. -/
theorem msix_mem_sendVectors (h : Hw) (vs : List Nat) (hvs : ∀ v ∈ vs, v < 64) {w : Nat} (hw : w ∈ vs) (hs : h.sends w = true) :
    Out.msix w ∈ (vs.foldl Hw.sendVector h).out := by
  induction vs generalizing h with
  | nil => cases hw
  | cons v vs ih =>
    by_cases e : w = v
    · subst e
      refine mem_out_sendVectors_of_mem _ vs ?_
      rw [Hw.sendVector, if_pos hs]
      exact List.mem_append_right _ List.mem_cons_self
    · have hv : v < 64 := hvs v List.mem_cons_self
      refine ih _ (fun x hx => hvs x (List.mem_cons_of_mem _ hx)) ((List.mem_cons.1 hw).resolve_left e) ?_
      rw [sends_sendVector h hv, hs]
      simpa using e

theorem sendVectors_of_none (h : Hw) (vs : List Nat) (hn : ∀ v, h.sends v = false) : vs.foldl Hw.sendVector h = h := by
  induction vs with
  | nil => rfl
  | cons v vs ih =>
    have hv : h.sendVector v = h := if_neg (by rw [hn v]; exact Bool.false_ne_true)
    rw [List.foldl_cons, hv, ih]

/-- Without Bus Master Enable, or with nothing pending, nothing is sent. -/
theorem sendPending_of_none {h : Hw} (hn : ∀ v, h.sends v = false) : h.sendPending = h := sendVectors_of_none h _ hn

theorem sendPending_only (h : Hw) : ∃ p o, h.sendPending = { h with host := { h.host with pba := p }, out := o } :=
  ⟨_, _, sendVectors_only h _⟩

/-! ## BUS_MASTER_ENABLE and PERST# -/

theorem execBusMasterEnable_up {h : Hw} (hup : h.host.linkUp = true) :
    execBusMasterEnable h = ({ h with bme := true } : Hw).sendPending := if_pos hup

/-- What BUS_MASTER_ENABLE sends (R429). -/
theorem execBusMasterEnable_sends {h : Hw} (hup : h.host.linkUp = true) {v : Nat} (hv : v < 64) :
    let g := execBusMasterEnable h
    g.bme = true ∧ g.host.msixTable = h.host.msixTable ∧
      bit g.host.pba v = (bit h.host.pba v && bit (h.msixWord (4 * v + 3)) 0) ∧
      (bit h.host.pba v = true → bit (h.msixWord (4 * v + 3)) 0 = false → Out.msix v ∈ g.out) := by
  have hlt : ∀ x ∈ List.range 64, x < 64 := fun x => List.mem_range.1
  have hsend : ({ h with bme := true } : Hw).sends v = (bit h.host.pba v && !bit (h.msixWord (4 * v + 3)) 0) := by
    simp [Hw.sends, Hw.msixWord, hup]
  rw [execBusMasterEnable_up hup]
  refine ⟨?_, ?_, ?_, fun hp hm => ?_⟩
  · rw [sendPending_eq, sendVectors_only]
  · rw [sendPending_eq, sendVectors_only]
  · rw [sendPending_eq, pba_sendVectors _ _ hlt, hsend, decide_eq_true (List.mem_range.2 hv)]
    cases bit h.host.pba v <;> simp
  · exact msix_mem_sendVectors _ _ hlt (List.mem_range.2 hv) (by rw [hsend, hp, hm]; rfl)

theorem execPerstRelease_on {h : Hw} (hp : h.power.powered = true) (hh : h.power.hot = false) :
    ∃ o, execPerstRelease h =
      { h with host := { h.host with perst := false, linkUp := true }, power := { h.power with wakePin := false }, out := o } := by
  unfold execPerstRelease
  rw [hp, hh]
  dsimp only
  rw [if_pos (show (true && !false) = true from rfl)]
  exact ⟨_, wakeLine_eq _ _⟩

/-! ## Configuration requests (R426, R427, R431) -/

/-- The link is trained. -/
def Hw.linked (h : Hw) : Hw := { h with host := { h.host with linkUp := true } }

/-- A request that reaches the endpoint, without the line of WAKE# asserted. -/
theorem execConfigRequest_linked {h : Hw} (hp : h.power.powered = true) (hh : h.power.hot = false) (hr : h.host.perst = false)
    (hw : h.power.wakePin = false) (off : Nat) (wr : Option Word32) :
    execConfigRequest h off wr =
      if !h.host.ready then h.linked.emit (.configReply true 0)
      else match wr with
        | some v => (h.linked.cfgWrite off v).emit (.configReply false 0)
        | none =>
          if (h.linked.cfgBits off).1 = 0xFFFFFFFF then h.linked.emit (.configReply false (h.linked.cfgBits off).2)
          else (h.linked.takeFree.2).emit (.configReply false
            ((h.linked.takeFree.1.extractLsb' 0 32 &&& ~~~ (h.linked.cfgBits off).1) ||| (h.linked.cfgBits off).2)) := by
  have hlink : (if h.host.linkUp = true then h else { h with host := { h.host with linkUp := true } }) = h.linked := by
    split
    · next e => rw [Hw.linked, ← e]
    · rfl
  have hline : h.linked.wakeLine false = h.linked := if_pos hw
  unfold execConfigRequest
  rw [hp, hh, hr]
  dsimp only
  rw [if_neg (by decide), hlink, hline]
  rfl

theorem cfgBits_linked (h : Hw) (off : Nat) : h.linked.cfgBits off = h.cfgBits off := rfl

/-- A read of a register of which every bit is settled gives its value. -/
theorem execConfigRequest_read {h : Hw} (hp : h.power.powered = true) (hh : h.power.hot = false) (hr : h.host.perst = false)
    (hw : h.power.wakePin = false) (hready : h.host.ready = true) {off : Nat} (hm : (h.cfgBits off).1 = 0xFFFFFFFF) :
    execConfigRequest h off none = h.linked.emit (.configReply false (h.cfgBits off).2) := by
  rw [execConfigRequest_linked hp hh hr hw, if_neg (by rw [hready]; decide)]
  exact if_pos hm

theorem cfgBits_bar (h : Hw) {off : Nat} (ho : off ∈ [0x10, 0x14, 0x18, 0x1C, 0x20, 0x24]) :
    h.cfgBits off = (0xFFFFFFFF, Store.get (barBits off).2 h.host.bars off) := by
  simp only [List.mem_cons, List.not_mem_nil, or_false] at ho
  rcases ho with rfl | rfl | rfl | rfl | rfl | rfl <;> rfl

/-- A write of a base address register: the bits that its size leaves to the host, with its type bits. -/
theorem cfgWrite_bar (h : Hw) {off : Nat} (ho : off ∈ [0x10, 0x14, 0x18, 0x1C]) (v : Word32) :
    h.cfgWrite off v = { h with host := { h.host with
      bars := Store.set (barBits off).2 h.host.bars off ((v &&& (barBits off).1) ||| (barBits off).2) } } := by
  simp only [List.mem_cons, List.not_mem_nil, or_false] at ho
  rcases ho with rfl | rfl | rfl | rfl <;> rfl

/-- What the configuration space reads as depends on the BARs of the register alone. -/
theorem cfgBits_bars (h : Hw) (bars : Store Word32) (o : Nat) (ho : Store.get (barBits o).2 bars o = Store.get (barBits o).2 h.host.bars o) :
    ({ h with host := { h.host with bars := bars } } : Hw).cfgBits o = h.cfgBits o := by
  unfold Hw.cfgBits
  rw [ho]

/-- A write of a base address register as the host sees it (R426, R429). -/
theorem execConfigRequest_bar {h : Hw} (hp : h.power.powered = true) (hh : h.power.hot = false) (hr : h.host.perst = false)
    (hw : h.power.wakePin = false) (hready : h.host.ready = true) {off : Nat} (ho : off ∈ [0x10, 0x14, 0x18, 0x1C]) (v : Word32) :
    let g := execConfigRequest h off (some v)
    (g.cfgBits off).2 = (v &&& (barBits off).1) ||| (barBits off).2 ∧ (∀ o, o ≠ off → g.cfgBits o = h.cfgBits o) ∧
      g = { h.linked with host := { h.linked.host with bars := g.host.bars }, out := h.out ++ [.configReply false 0] } := by
  have hg : execConfigRequest h off (some v) = (h.linked.cfgWrite off v).emit (.configReply false 0) := by
    rw [execConfigRequest_linked hp hh hr hw, if_neg (by rw [hready]; decide)]
  rw [hg, cfgWrite_bar _ ho]
  refine ⟨?_, fun o hne => ?_, rfl⟩
  · have hbar := cfgBits_bar (({ h.linked with host := { h.linked.host with
      bars := Store.set (barBits off).2 h.linked.host.bars off ((v &&& (barBits off).1) ||| (barBits off).2) } } : Hw).emit
        (.configReply false 0)) (off := off) (by simp only [List.mem_cons, List.not_mem_nil, or_false] at ho ⊢; omega)
    rw [hbar]
    exact Store.get_set_same _ _ _ _
  · exact cfgBits_bars h.linked _ o (Store.get_set_ne _ _ _ _ hne)

/-- A write of word 4 sets or clears Bus Master Enable (R429). -/
theorem execConfigRequest_command {h : Hw} (hp : h.power.powered = true) (hh : h.power.hot = false) (hr : h.host.perst = false)
    (hw : h.power.wakePin = false) (hready : h.host.ready = true) (v : Word32) :
    execConfigRequest h 4 (some v) = (({ h.linked with bme := bit v 2 } : Hw).sendPending).emit (.configReply false 0) := by
  rw [execConfigRequest_linked hp hh hr hw, if_neg (by rw [hready]; decide)]
  rfl

/-- Settles O7, one rule of the endpoint for each clause. -/
theorem endpointCommands : Obligations.EndpointCommands := by
  refine ⟨fun s => ⟨fun hp hh => does_of rfl ?_, does_of rfl rfl, fun hup hpba => does_of rfl ?_⟩,
    fun s v hv hup => does_of rfl (execBusMasterEnable_sends hup hv), fun s hp hh hr hw => ?_⟩
  · obtain ⟨o, ho⟩ := execPerstRelease_on hp hh
    rw [effect, ho]
  · rw [effect, execBusMasterEnable_up hup]
    exact sendPending_of_none fun v => by simp [Hw.sends, hpba, bit]
  · refine ⟨fun hready off wr hlt h4 => does_of (by simp [Instr.wellFormed, hlt, h4]) ?_, fun hready => ?_⟩
    · rw [effect, execConfigRequest_linked hp hh hr hw, if_pos (by rw [hready]; rfl)]
      rfl
    · have read : ∀ off, off < 4096 → off % 4 = 0 → (s.hw.cfgBits off).1 = 0xFFFFFFFF →
          Does (.configRequest off none) s fun g => g = s.hw.linked.emit (.configReply false (s.hw.cfgBits off).2) :=
        fun off hlt h4 hm => does_of (by simp [Instr.wellFormed, hlt, h4]) (execConfigRequest_read hp hh hr hw hready hm)
      refine ⟨read 0 (by omega) (by omega) rfl, read 0x2C (by omega) (by omega) rfl, ?_, fun off ho => ?_, does_of rfl ?_,
        does_of rfl ?_, fun off v ho => does_of ?_ (execConfigRequest_bar hp hh hr hw hready ho v)⟩
      · have h8 := read 8 (by omega) (by omega) rfl
        have hid : (s.hw.cfgBits 8).2 = match s.hw.stepping with | .a1 => 0x12000011 | .b0 => 0x12000020 := by
          cases hs : s.hw.stepping <;> simp [Hw.cfgBits, hs, identityCode]
        rw [hid] at h8
        exact h8
      · refine read off ?_ ?_ (by rw [cfgBits_bar _ ho])
        all_goals
          simp only [List.mem_cons, List.not_mem_nil, or_false] at ho
          omega
      · rw [effect, execConfigRequest_command hp hh hr hw hready, sendPending_of_none fun v => by simp [Hw.sends, bit]]
        rfl
      · obtain ⟨p, o, hsent⟩ := sendPending_only { s.hw.linked with bme := bit (4 : Word32) 2 }
        rw [effect, execConfigRequest_command hp hh hr hw hready, hsent]
        rfl
      · simp only [List.mem_cons, List.not_mem_nil, or_false] at ho
        simp [Instr.wellFormed]
        omega

end Sys2Proof.Machine
end

section
-- As the tests above: declarations in order, so that checking the one text stays within its memory.
set_option Elab.async false
/-!
PROOFS. FIRMWARE_READY (O8): what the firmware's start does first, and what it leaves as it was (R365, R417, R431, R451, R497).
-/

namespace Sys2Proof.Machine

theorem reg_fset (h : Hw) (a hi lo v b : Nat) :
    (h.fset a hi lo v).reg b = if b = a then setFld (h.reg a) hi lo v else h.reg b := reg_setReg h a b _

theorem reg_setReg64 (h : Hw) (a b : Nat) (v : Word64) : (h.setReg64 a v).reg b =
    if b = a + 4 then v.extractLsb' 32 32 else if b = a then v.extractLsb' 0 32 else h.reg b := by
  rw [Hw.setReg64, reg_setReg, reg_setReg]

/-- What the start of the firmware may change: registers, the trace's default gutter in POOL, the settings store, the scratch banks, the
time unit and the event path. -/
def StartWork (h g : Hw) : Prop :=
  (∃ regs pool fw scratch time path, g = { h with
    regs := regs, pool := pool, fw := fw, scratch := scratch, time := time, fault := { h.fault with path := path } }) ∧
    ∀ o, o < 0x10000 → g.reg (powerA o) = h.reg (powerA o)

theorem StartWork.trans {h g k : Hw} (p : StartWork h g) (q : StartWork g k) : StartWork h k := by
  obtain ⟨⟨_, _, _, _, _, _, rfl⟩, hp⟩ := p
  obtain ⟨⟨_, _, _, _, _, _, rfl⟩, hq⟩ := q
  exact ⟨⟨_, _, _, _, _, _, rfl⟩, fun o ho => (hq o ho).trans (hp o ho)⟩

theorem startWork_settings (h : Hw) (layout : Nat) : StartWork h (h.settings layout) := by
  unfold Hw.settings
  split
  · exact ⟨⟨_, _, _, _, _, _, rfl⟩, fun _ _ => rfl⟩
  · exact ⟨⟨_, _, _, _, _, _, rfl⟩, fun _ _ => rfl⟩

theorem startWork_setReg (h : Hw) {a : Nat} (v : Word32) (ha : a < powerA 0 ∨ powerA 0x10000 ≤ a) : StartWork h (h.setReg a v) := by
  refine ⟨⟨_, _, _, _, _, _, rfl⟩, fun o ho => ?_⟩
  rw [reg_setReg, if_neg (by unfold powerA at *; omega)]

theorem startWork_defaultGutter (h : Hw) : StartWork h h.defaultGutter := by
  have far : ∀ (g : Hw) (d v : Nat), d < 2 → StartWork g (g.fset (farA d 8) 31 16 v) := fun g d v hd =>
    startWork_setReg g _ (by unfold farA dieBase powerA; omega)
  have tr : ∀ (g : Hw) (o : Nat) (v : Word32), o < 0x10000 → StartWork g (g.setReg (traceA o) v) := fun g o v ho =>
    startWork_setReg g _ (by unfold traceA powerA; omega)
  have pool : StartWork h { h with pool := h.pool ++ [⟨3, 0, 0, poolTop - 256, 256⟩] } :=
    ⟨⟨_, _, _, _, _, _, rfl⟩, fun _ _ => rfl⟩
  exact (((((pool.trans (far _ 0 _ (by omega))).trans (far _ 1 _ (by omega))).trans (tr _ 4 _ (by omega))).trans
    (tr _ 8 _ (by omega))).trans (tr _ 12 _ (by omega))).trans (tr _ 0x10 _ (by omega))

theorem startWork_armTime (h : Hw) : StartWork h h.armTime := by
  unfold Hw.armTime
  split
  · exact ⟨⟨_, _, _, _, _, _, rfl⟩, fun _ _ => rfl⟩
  · have st : ∀ (g : Hw) (v : Word32), StartWork g (g.setReg (timeA 0x10) v) := fun g v =>
      startWork_setReg g _ (by unfold timeA powerA; omega)
    exact (((st _ _).trans (st _ _)).trans (st _ _)).trans ⟨⟨_, _, _, _, _, _, rfl⟩, fun _ _ => rfl⟩

/-- What a cold start lets the firmware do first. -/
def Hw.firstStart (h : Hw) : Hw := ((h.clearScratch.settings (h.fw.bank h.fw.active).layout).defaultGutter).armTime

theorem startWork_firstStart (h : Hw) : StartWork h h.firstStart :=
  ((StartWork.trans ⟨⟨_, _, _, _, _, _, rfl⟩, fun _ _ => rfl⟩ (startWork_settings h.clearScratch _)).trans
    (startWork_defaultGutter _)).trans (startWork_armTime _)

/-- The delay tap is noted, and the course-clock PLL locks (R18, R497). -/
def Hw.noteTap (h : Hw) (tap : Nat) : Hw := (h.fset (userioA 0x100) 15 0 tap).lockPll

theorem startWork_noteTap (h : Hw) (tap : Nat) : StartWork h (h.noteTap tap) :=
  (startWork_setReg h _ (by unfold userioA powerA; omega)).trans (startWork_setReg _ _ (by unfold powerA; omega))

theorem fget_noteTap (h : Hw) (tap : Nat) : (h.noteTap tap).fget (userioA 0x100) 15 0 = tap % 2 ^ 16 := by
  rw [Hw.noteTap, Hw.lockPll, fget_fset_ne _ _ _ _ _ _ _ _ (by omega) (.inl (by unfold userioA; omega)),
    fget_fset_same _ _ _ _ _ (by omega)]

/-- The firmware is ready, and the events that tell of the start are raised. -/
def Hw.declareReady (h : Hw) (bootMs : Nat) (first : Bool) (last : Nat) : Hw :=
  let h : Hw := { h with host := { h.host with ready := true, booted := true, mpRestart := false, bootMs := bootMs } }
  let h := if first && last == 2 then h.raise evBrownOutReset else h
  if first && last == 3 then h.raise evThermalReset else h

theorem declareReady_only (h : Hw) (bootMs : Nat) (first : Bool) (last : Nat) : ∃ path, h.declareReady bootMs first last =
    { h with host := { h.host with ready := true, booted := true, mpRestart := false, bootMs := bootMs },
             fault := { h.fault with path := path } } := by
  unfold Hw.declareReady
  dsimp only
  split <;> split <;> exact ⟨_, rfl⟩

theorem declareReady_path (h : Hw) (bootMs last : Nat) : (h.declareReady bootMs false last).fault.path = h.fault.path := rfl

/-- An event raised while the HUB is on stands on the path. -/
theorem raise_mem_path (h : Hw) (id : Nat) (hp : h.pstate < 3) : ∃ e ∈ (h.raise id).fault.path, e.id = id :=
  ⟨⟨id, 0, h.seq.frame, false, h.seq.ticks⟩, by simp [Hw.raise, Hw.raiseWith, hp], rfl⟩

theorem declareReady_brownOut (h : Hw) (bootMs : Nat) (hp : h.pstate < 3) :
    ∃ e ∈ (h.declareReady bootMs true 2).fault.path, e.id = evBrownOutReset :=
  raise_mem_path { h with host := { h.host with ready := true, booted := true, mpRestart := false, bootMs := bootMs } } _ hp

theorem declareReady_thermal (h : Hw) (bootMs : Nat) (hp : h.pstate < 3) :
    ∃ e ∈ (h.declareReady bootMs true 3).fault.path, e.id = evThermalReset :=
  raise_mem_path { h with host := { h.host with ready := true, booted := true, mpRestart := false, bootMs := bootMs } } _ hp

theorem execFirmwareReady_starts {h : Hw} (hp : h.power.powered = true) (hh : h.power.hot = false) (hr : h.host.ready = false)
    (hs : h.fw.stuck = false) (hst : h.pstate < 3) (bootMs tap : BitVec 16) :
    execFirmwareReady h bootMs tap =
      let g := (if !h.host.booted then h.firstStart else h).noteTap tap.toNat
      g.declareReady bootMs.toNat (!h.host.booted) (g.fget (powerA 0x20) 18 17) := by
  have hnot : (!h.power.powered || h.power.hot || h.host.ready || h.fw.stuck || decide (h.pstate ≥ 3)) = false := by
    simp [hp, hh, hr, hs, hst]
  exact if_neg (by rw [hnot]; exact Bool.false_ne_true)

/-- Settles O8: the start's own work keeps the array and the power registers, and its events are raised last. -/
theorem firmwareReady : Obligations.FirmwareReady := by
  intro s bootMs tap hp hh hr hs hst
  refine does_of rfl ?_
  rw [effect, execFirmwareReady_starts hp hh hr hs hst]
  have hwork : StartWork s.hw ((if !s.hw.host.booted then s.hw.firstStart else s.hw).noteTap tap.toNat) := by
    split
    · exact (startWork_firstStart s.hw).trans (startWork_noteTap _ _)
    · exact startWork_noteTap _ _
  have htap := fget_noteTap (if !s.hw.host.booted then s.hw.firstStart else s.hw) tap.toNat
  have hkeep : s.hw.host.booted = true →
      ((if !s.hw.host.booted then s.hw.firstStart else s.hw).noteTap tap.toNat).fault.path = s.hw.fault.path := by
    intro hb
    rw [hb]
    rfl
  generalize (if !s.hw.host.booted then s.hw.firstStart else s.hw).noteTap tap.toNat = g at hwork htap hkeep
  obtain ⟨⟨_, _, _, _, _, _, hg⟩, hpow⟩ := hwork
  have hpst : g.pstate < 3 := by
    rw [Hw.pstate, Hw.fget, hpow 0 (by omega)]
    exact hst
  have hlast : g.fget (powerA 0x20) 18 17 = s.hw.fget (powerA 0x20) 18 17 := by
    rw [Hw.fget, hpow 0x20 (by omega)]
    rfl
  obtain ⟨path, hd⟩ := declareReady_only g bootMs.toNat (!s.hw.host.booted) (g.fget (powerA 0x20) 18 17)
  dsimp only
  refine ⟨?_, ?_, ?_, ?_, ?_, ?_, ?_, fun hb h2 => ?_, fun hb h3 => ?_, fun hb => ?_⟩
  · rw [hd]
  · rw [hd]
  · rw [hd]
  · rw [hd]
    exact htap.trans (Nat.mod_eq_of_lt tap.isLt)
  · rw [hd, hg]
  · rw [hd, hg]
  · rw [hd, hg]
  · rw [hb, hlast, h2]
    exact declareReady_brownOut g _ hpst
  · rw [hb, hlast, h3]
    exact declareReady_thermal g _ hpst
  · rw [hb]
    exact (declareReady_path g _ _).trans (hkeep hb)

end Sys2Proof.Machine
end

section
-- As the tests above: declarations in order, so that checking the one text stays within its memory.
set_option Elab.async false
/-!
PROOFS. Writes of registers by their access codes (R6 to R9): one lemma for a plain write, the codes of the words shown, and where a
write of the internal map goes (O9).
-/

namespace Sys2Proof

/-- The number whose bit i is `f i`. -/
theorem testBit_foldr (w : Nat) (f : Nat → Bool) (n : Nat) :
    ((List.range w).foldr (fun i acc => (if f i then 1 else 0) + 2 * acc) 0).testBit n = (decide (n < w) && f n) := by
  induction w generalizing f n with
  | zero => simp
  | succ w ih =>
    rw [List.range_succ_eq_map, List.foldr_cons, List.foldr_map]
    have hrec := ih (fun i => f (i + 1))
    generalize (List.range w).foldr (fun i acc => (if f (i + 1) then 1 else 0) + 2 * acc) 0 = x at hrec
    cases n with
    | zero =>
      rw [Nat.testBit_zero]
      cases f 0 <;> simp
    | succ n =>
      rw [Nat.testBit_succ, show ((if f 0 = true then 1 else 0) + 2 * x) / 2 = x by split <;> omega, hrec n]
      simp

/-- Bit n of the vector whose bits are given. -/
theorem bit_ofBits (w : Nat) (f : Nat → Bool) (n : Nat) : bit (ofBits w f) n = (decide (n < w) && f n) := by
  rw [bit, ofBits, BitVec.getLsbD_ofNat, testBit_foldr]
  cases decide (n < w) <;> rfl

theorem bit_and {w : Nat} (a b : BitVec w) (n : Nat) : bit (a &&& b) n = (bit a n && bit b n) := BitVec.getLsbD_and ..
theorem bit_or {w : Nat} (a b : BitVec w) (n : Nat) : bit (a ||| b) n = (bit a n || bit b n) := BitVec.getLsbD_or ..
theorem bit_not {w : Nat} (a : BitVec w) {n : Nat} (hn : n < w) : bit (~~~ a) n = !bit a n := by
  simp [bit, hn]

theorem eq_of_bits {w : Nat} {a b : BitVec w} (e : ∀ n, n < w → bit a n = bit b n) : a = b :=
  BitVec.eq_of_getLsbD_eq fun n hn => e n hn

end Sys2Proof

namespace Sys2Proof.Machine

/-! ## A plain write -/

/-- The bits of a word that a write replaces, keeps pending, and clears by ones (R6). -/
def accessCodes (a : Nat) : Option (Word32 × Word32 × Word32) := (regRowAt a).map fun r => (rwMask a r, r.rwf, r.w1c)

/-- The value that a plain write stores. -/
def Hw.written (h : Hw) (a : Nat) (m c v : Word32) : Word32 :=
  ((h.reg a &&& ~~~ m) ||| (v &&& m)) &&& ~~~ (v &&& c &&& ~~~ h.setNow a)

/-- A plain write of a word without RWF fields. -/
theorem plainWrite_of_codes {h : Hw} {a : Nat} {m c : Word32} (hc : accessCodes a = some (m, 0, c)) (v : Word32) :
    h.plainWrite a v = h.setReg a (h.written a m c v) := by
  obtain ⟨r, hr, he⟩ := Option.map_eq_some_iff.1 hc
  simp only [Prod.mk.injEq] at he
  obtain ⟨hm, hf, hw⟩ := he
  rw [Hw.plainWrite, hr]
  simp only [hm, hf, hw, if_true]
  rfl

/-- A plain write of a word whose RWF fields become pending (R8). -/
theorem plainWrite_of_codes_rwf {h : Hw} {a : Nat} {m f c : Word32} (hc : accessCodes a = some (m, f, c)) (hf0 : f ≠ 0) (v : Word32) :
    h.plainWrite a v =
      { h.setReg a (h.written a m c v) with rwf := Store.set none h.rwf a (some (v &&& f)) } := by
  obtain ⟨r, hr, he⟩ := Option.map_eq_some_iff.1 hc
  simp only [Prod.mk.injEq] at he
  obtain ⟨hm, hf, hw⟩ := he
  rw [Hw.plainWrite, hr]
  simp only [hm, hf, hw, if_neg hf0]
  rfl

/-- A word without W1C bits takes the masked value. -/
theorem written_rw (h : Hw) (a : Nat) (m v : Word32) : h.written a m 0 v = (h.reg a &&& ~~~ m) ||| (v &&& m) := by
  change ((h.reg a &&& ~~~ m) ||| (v &&& m)) &&& ~~~ (v &&& 0#32 &&& ~~~ h.setNow a) = _
  rw [BitVec.and_zero, BitVec.zero_and, BitVec.not_zero, BitVec.and_allOnes]

theorem written_ro (h : Hw) (a : Nat) (v : Word32) : h.written a 0 0 v = h.reg a := by
  rw [written_rw]
  change (h.reg a &&& ~~~ 0#32) ||| (v &&& 0#32) = _
  rw [BitVec.not_zero, BitVec.and_allOnes, BitVec.and_zero, BitVec.or_zero]

/-- A word of W1C bits keeps what hardware sets in the same clock (R7). -/
theorem bit_written_w1c (h : Hw) (a : Nat) (c v : Word32) {n : Nat} (hn : n < 32) :
    bit (h.written a 0 c v) n = (bit (h.reg a) n && !(bit v n && bit c n && !bit (h.setNow a) n)) := by
  simp only [Hw.written, bit_and, bit_or, bit_not _ hn]
  simp [bit]

theorem bit_setNow (h : Hw) (a : Nat) {n : Nat} (hn : n < 32) :
    bit (h.setNow a) n = (h.done.contains (.w1c a n) || (n == 31 && h.done.contains (.cap a))) := by
  rw [Hw.setNow, bit_ofBits, decide_eq_true hn, Bool.true_and]

theorem onlyRegs_of_same {h : Hw} {a : Nat} {v : Word32} (hv : v = h.reg a) : OnlyRegs [] h (h.setReg a v) := by
  refine ⟨rfl, fun b _ => ?_⟩
  rw [reg_setReg, hv]
  split
  · next e => rw [e]
  · rfl

/-! ## Where a write of the internal map goes (R12, R471) -/

/-- The internal map while the HUB domain is on: a word that a write reaches. -/
theorem writeLoc_internal {h g : Hw} (hon : h.hubOn = true) {a : Nat} (h4 : a % 4 = 0) {v : Word32}
    (hw : h.writeWord a v = .ok g) : h.writeLoc (.internal a) v = g := by
  simp [Hw.writeLoc, hon, h4, hw]

/-- A word that refuses the write stays. -/
theorem writeLoc_internal_error {h : Hw} {a : Nat} {v : Word32} {e : Nat} (hw : h.writeWord a v = .error e) :
    h.writeLoc (.internal a) v = h := by
  unfold Hw.writeLoc
  simp only [hw]
  split <;> rfl

/-- The FAULT block of Table 18.13. -/
theorem blockAt_fault {o : Nat} (ho : o < 0x10000) : blockAt (faultA o) = some (0x60000, 0x10000, false, false) := by
  have blocks : regBlocks = (0, 0x10000, false, false) :: (0x10000, 0x10000, false, false) :: (0x20000, 0x10000, false, false) ::
    (0x30000, 0x10000, false, false) :: (0x40000, 0x10000, false, false) :: (0x50000, 0x10000, false, false) ::
    (0x60000, 0x10000, false, false) :: regBlocks.drop 7 := rfl
  unfold blockAt faultA
  rw [blocks, List.find?_cons_of_neg, List.find?_cons_of_neg, List.find?_cons_of_neg, List.find?_cons_of_neg,
    List.find?_cons_of_neg, List.find?_cons_of_neg, List.find?_cons_of_pos] <;> simp <;> omega

/-- The words of FAULT below ESC's end are written by their access codes. -/
theorem writeWord_fault (h : Hw) {o : Nat} (ho : o < 0x600) (v : Word32) :
    h.writeWord (faultA o) v = .ok (h.plainWrite (faultA o) v) := by
  have hhub : h.writeHub (faultA o) v = h.plainWrite (faultA o) v := by
    unfold Hw.writeHub faultA
    dsimp only
    rw [if_neg (by omega), if_neg (by omega), if_neg (by omega), if_neg (by omega), if_neg (by omega), if_neg (by omega),
      if_pos (by omega), if_neg (by omega), if_neg (by omega)]
  have hshut : h.arrayShut (faultA o) = false := by
    rw [Hw.arrayShut, decide_eq_false (by unfold faultA; omega), Bool.false_and]
  unfold Hw.writeWord
  rw [blockAt_fault (by omega)]
  simp only [hshut, Bool.false_and, Bool.false_eq_true, if_false]
  rw [if_neg (by unfold faultA; omega), if_neg (by unfold faultA; omega), if_neg (by simp only [scrA, hostifA, faultA]; omega),
    if_neg (by unfold faultA; omega), hhub]

/-- The array block of a sequencer, for the words that a plain write reaches. -/
theorem writeWord_seq (h : Hw) {d o : Nat} (hd : d < 2) (ho : o ∈ [0x30, 0x10, 4]) (v : Word32) :
    h.writeWord (seqA d o) v =
      if h.arrayShut (seqA d o) then .error stNotReady else .ok (h.plainWrite (seqA d o) v) := by
  have hd' : d = 0 ∨ d = 1 := by omega
  simp only [List.mem_cons, List.not_mem_nil, or_false] at ho
  rcases hd' with rfl | rfl <;> rcases ho with rfl | rfl | rfl <;> rfl

/-! ## The codes of the words shown -/

theorem accessCodes_grpStat : ∀ g, g < 72 → accessCodes (grpStatA g) = some (0, 0, 0xFFFF) := by decide +kernel

theorem accessCodes_grpMask : ∀ g, g < 72 → accessCodes (faultA (0x200 + 4 * g)) = some (0xFFFF, 0, 0) := by decide +kernel

theorem accessCodes_ridgeTimeout : accessCodes 0x40 = some (0xFFFF, 0, 0) := by decide +kernel

theorem accessCodes_waitLimit : ∀ d, d < 2 → accessCodes (seqA d 0x30) = some (0xFFFFFFFF, 0, 0) := by decide +kernel

theorem accessCodes_frameLen : ∀ d, d < 2 → accessCodes (seqA d 0x10) = some (0, 0xFFFFFF#32, 0) := by decide +kernel

theorem accessCodes_runStat : ∀ d, d < 2 → accessCodes (seqA d 4) = some (0, 0, 0) := by decide +kernel

/-! ## The words shown -/

/-- A bit of GRP_STAT after a write (R6, R7). -/
theorem bit_written_grpStat (h : Hw) (g : Nat) (v : Word32) {n : Nat} (hn : n < 32) :
    bit (h.written (grpStatA g) 0 0xFFFF v) n = true ↔
      bit (h.reg (grpStatA g)) n = true ∧ ¬ (n < 16 ∧ bit v n = true ∧ ¬ SetNow h (grpStatA g) n) := by
  have hmask : bit (0xFFFF : Word32) n = decide (n < 16) := by
    interval_cases n <;> rfl
  rw [bit_written_w1c _ _ _ _ hn, hmask, bit_setNow _ _ hn]
  by_cases h16 : n < 16
  · have h31 : (n == 31) = false := by simp; omega
    cases bit v n <;> simp [h16, h31, SetNow]
  · simp [h16]

/-- What FRAME_LEN shows while a value is pending is the value last written (R8). -/
theorem view_frameLen {h : Hw} {d : Nat} (hd : d < 2) {v : Word32} (hp : Store.get none h.rwf (seqA d 0x10) = some (v &&& 0xFFFFFF#32)) :
    h.view (seqA d 0x10) = (h.reg (seqA d 0x10) &&& 0xFF000000#32) ||| (v &&& 0xFFFFFF#32) := by
  have hrow : ((regRowAt (seqA d 0x10)).elim 0 (·.rwf) : Word32) = 0xFFFFFF#32 := by
    obtain ⟨r, hr, he⟩ := Option.map_eq_some_iff.1 (accessCodes_frameLen d hd)
    rw [hr]
    exact congrArg (fun x => x.2.1) he
  have hview : h.view (seqA d 0x10) = match Store.get none h.rwf (seqA d 0x10) with
      | some w => (h.reg (seqA d 0x10) &&& ~~~ ((regRowAt (seqA d 0x10)).elim 0 (·.rwf))) ||| w
      | none => h.reg (seqA d 0x10) := by
    have hd' : d = 0 ∨ d = 1 := by omega
    rcases hd' with rfl | rfl <;> rfl
  rw [hview, hp, hrow]
  rfl

theorem reg_withRwf (h : Hw) (m : Store (Option Word32)) (a : Nat) : ({ h with rwf := m } : Hw).reg a = h.reg a := rfl

/-- A write of a word of RWF fields alone makes their value pending, and every register stays (R8). -/
theorem plainWrite_rwf {h : Hw} {b : Nat} {f : Word32} (hc : accessCodes b = some (0, f, 0)) (hf : f ≠ 0) (v : Word32) :
    Store.get none (h.plainWrite b v).rwf b = some (v &&& f) ∧
      h.plainWrite b v = { h with regs := (h.plainWrite b v).regs, rwf := (h.plainWrite b v).rwf } ∧
      ∀ a, (h.plainWrite b v).reg a = h.reg a := by
  rw [plainWrite_of_codes_rwf hc hf, written_ro]
  refine ⟨Store.get_set_same none h.rwf b (some (v &&& f)), rfl, fun a => ?_⟩
  rw [reg_withRwf]
  exact (onlyRegs_of_same (h := h) (a := b) rfl).2 a List.not_mem_nil

theorem arrayShut_seq {h : Hw} {d o : Nat} (hd : d < 2) (ho : o < 0x800000) : h.arrayShut (seqA d o) = h.diesShut := by
  rw [Hw.arrayShut, decide_eq_true (by unfold seqA dieBase; omega), Bool.true_and]

/-- A write of a sequencer's word reaches it while the dies are on. -/
theorem execRegisterWrite_seq {h : Hw} (hon : h.hubOn = true) {d o : Nat} (hd : d < 2) (ho : o ∈ [0x30, 0x10, 4]) (hp : h.pstate < 2)
    (v : Word32) : execRegisterWrite h (.internal (seqA d o)) v = h.plainWrite (seqA d o) v := by
  have hlt : o < 0x800000 ∧ o % 4 = 0 := by
    simp only [List.mem_cons, List.not_mem_nil, or_false] at ho
    omega
  refine writeLoc_internal hon (by unfold seqA dieBase; omega) ?_
  rw [writeWord_seq h hd ho, arrayShut_seq hd hlt.1, Hw.diesShut, decide_eq_false (by omega)]
  rfl

/-- Settles O9, one access code for each clause. -/
theorem registerWriteAccess : Obligations.RegisterWriteAccess := by
  intro s v hon
  refine ⟨fun g hg => does_of rfl ?_, fun g hg => does_of rfl ?_, does_of rfl ?_, fun d a hd ha hp => ?_,
    fun d hd hp => does_of rfl ?_, fun d hd hp => does_of rfl ?_, fun d hd hp => does_of rfl ?_⟩
  · have hw : effect (.registerWrite (.internal (grpStatA g)) v) s.hw = s.hw.setReg (grpStatA g) (s.hw.written (grpStatA g) 0 0xFFFF v) :=
      writeLoc_internal hon (by unfold grpStatA faultA; omega)
        (by rw [grpStatA, writeWord_fault _ (by omega), ← grpStatA, plainWrite_of_codes (accessCodes_grpStat g hg)])
    rw [hw]
    exact ⟨fun n hn => by rw [reg_setReg_same]; exact bit_written_grpStat s.hw g v hn, onlyRegs_setReg _ _ _⟩
  · have hw : effect (.registerWrite (.internal (faultA (0x200 + 4 * g))) v) s.hw =
        s.hw.setReg (faultA (0x200 + 4 * g)) (s.hw.written (faultA (0x200 + 4 * g)) 0xFFFF 0 v) :=
      writeLoc_internal hon (by unfold faultA; omega)
        (by rw [writeWord_fault _ (by omega), plainWrite_of_codes (accessCodes_grpMask g hg)])
    rw [hw, written_rw]
    exact ⟨reg_setReg_same _ _ _, onlyRegs_setReg _ _ _⟩
  · have hw : effect (.registerWrite (.internal 0x40) v) s.hw = s.hw.setReg 0x40 (s.hw.written 0x40 0xFFFF 0 v) :=
      writeLoc_internal hon (by omega) (by rw [← plainWrite_of_codes accessCodes_ridgeTimeout]; rfl)
    rw [hw, written_rw]
    exact ⟨reg_setReg_same _ _ _, onlyRegs_setReg _ _ _⟩
  · have hmem : ∃ o, a = seqA d o ∧ o ∈ [0x30, 0x10, 4] ∧ o < 0x800000 := by
      simp only [List.mem_cons, List.not_mem_nil, or_false] at ha
      rcases ha with rfl | rfl | rfl <;> exact ⟨_, rfl, by simp, by omega⟩
    obtain ⟨o, rfl, ho, hlt⟩ := hmem
    rw [exec_ok rfl, effect, execRegisterWrite, writeLoc_internal_error (e := stNotReady)]
    rw [writeWord_seq _ hd ho, arrayShut_seq hd hlt, Hw.diesShut, decide_eq_true hp]
    rfl
  · rw [effect, execRegisterWrite_seq hon hd (by simp) hp, plainWrite_of_codes (accessCodes_waitLimit d hd), written_rw]
    refine ⟨?_, onlyRegs_setReg _ _ _⟩
    rw [reg_setReg_same]
    change (_ &&& ~~~ BitVec.allOnes 32) ||| (v &&& BitVec.allOnes 32) = v
    rw [BitVec.not_allOnes, BitVec.and_zero, BitVec.and_allOnes, BitVec.zero_or]
  · rw [effect, execRegisterWrite_seq hon hd (by simp) hp]
    obtain ⟨hpend, honly, hreg⟩ := plainWrite_rwf (h := s.hw) (accessCodes_frameLen d hd) (by decide) v
    refine ⟨?_, honly, hreg⟩
    rw [view_frameLen hd hpend, hreg]
  · rw [effect, execRegisterWrite_seq hon hd (by simp) hp, plainWrite_of_codes (accessCodes_runStat d hd), written_ro]
    exact onlyRegs_of_same rfl

end Sys2Proof.Machine
end

section
-- As the tests above: declarations in order, so that checking the one text stays within its memory.
set_option Elab.async false
/-!
PROOFS. The writes with CLEAR_COUNTS (O10): a control word written by its access codes, and the counters of its block set to zero.
-/

namespace Sys2Proof.Machine

/-- Words set to zero after one has been written. -/
def ClearsAfter (b : Nat) (w : Word32) (as : List Nat) (h g : Hw) : Prop :=
  (∀ a ∈ as, g.reg a = 0) ∧ g.reg b = w ∧ OnlyRegs (b :: as) h g

theorem clearsAfter_setReg (h : Hw) {b : Nat} (w : Word32) {as : List Nat} (hb : b ∉ as) :
    ClearsAfter b w as h ((h.setReg b w).clearRegs as) := by
  refine ⟨fun a ha => by rw [reg_clearRegs, if_pos ha], by rw [reg_clearRegs, if_neg hb, reg_setReg_same], ?_⟩
  exact (onlyRegs_setReg h b w).trans (onlyRegs_clearRegs _ as)

/-- A control word without RWF and W1C fields. -/
theorem clearsAfter_plainWrite (h : Hw) {b : Nat} {m : Word32} (hc : accessCodes b = some (m, 0, 0)) (v : Word32) {as : List Nat}
    (hb : b ∉ as) : ClearsAfter b ((h.reg b &&& ~~~ m) ||| (v &&& m)) as h ((h.plainWrite b v).clearRegs as) := by
  rw [plainWrite_of_codes hc, written_rw]
  exact clearsAfter_setReg h _ hb

theorem accessCodes_trussEcc : ∀ d, d < 2 → accessCodes (trussA d 0) = some (3#32, 0, 0) := by decide +kernel
theorem accessCodes_bankEcc : ∀ d, d < 2 → accessCodes (bankA d 0x104) = some (7#32, 0, 0) := by decide +kernel
theorem accessCodes_farCtrl : ∀ d, d < 2 → accessCodes (farA d 0xC) = some (7#32, 0, 0) := by decide +kernel
theorem accessCodes_callsCtrl : accessCodes (callsA 0) = some (0x1FF#32, 0, 0) := by decide +kernel

/-- Counters at rising offsets of a block lie beside its control word. -/
theorem not_mem_offsets {f : Nat → Nat} {b n : Nat} (hf : ∀ i, i < n → b ≠ f i) : b ∉ (List.range n).map f := by
  intro hm
  obtain ⟨i, hi, e⟩ := List.mem_map.1 hm
  exact hf i (List.mem_range.1 hi) e.symm

theorem mem_offsets {f : Nat → Nat} {n i : Nat} (hi : i < n) : f i ∈ (List.range n).map f :=
  List.mem_map_of_mem (List.mem_range.2 hi)

/-! ## The blocks of the array dies -/

section
variable (h : Hw) {d : Nat} {v : Word32} (hd : d < 2) (hopen : h.diesShut = false)
include hd hopen

theorem execTrusscfgClearCounts_clears (hv : bit v 2 = true) :
    ClearsAfter (trussA d 0) ((h.reg (trussA d 0) &&& ~~~ 3#32) ||| (v &&& 3#32)) [trussA d 4, trussA d 8] h
      (execTrusscfgClearCounts h d v) := by
  have he : execTrusscfgClearCounts h d v = (h.plainWrite (trussA d 0) v).clearRegs [trussA d 4, trussA d 8] := by
    simp [execTrusscfgClearCounts, Hw.writeTrussEcc, hd, hv, hopen]
  rw [he]
  exact clearsAfter_plainWrite h (accessCodes_trussEcc d hd) v (by simp [trussA])

theorem execBankClearCounts_clears (hv : bit v 3 = true) :
    ClearsAfter (bankA d 0x104) ((h.reg (bankA d 0x104) &&& ~~~ 7#32) ||| (v &&& 7#32))
      [bankA d 0x108, bankA d 0x10C, bankA d 0x110] h (execBankClearCounts h d v) := by
  have he : execBankClearCounts h d v =
      (h.plainWrite (bankA d 0x104) v).clearRegs [bankA d 0x108, bankA d 0x10C, bankA d 0x110] := by
    simp [execBankClearCounts, Hw.writeBankEcc, hd, hv, hopen]
  rw [he]
  exact clearsAfter_plainWrite h (accessCodes_bankEcc d hd) v (by simp [bankA])

theorem execFarClearCounts_clears (hv : bit v 3 = true) :
    ClearsAfter (farA d 0xC) ((h.reg (farA d 0xC) &&& ~~~ 7#32) ||| (v &&& 7#32))
      ((List.range 8).map fun n => farA d (0x10 + 4 * n)) h (execFarClearCounts h d v) := by
  have he : execFarClearCounts h d v =
      (h.plainWrite (farA d 0xC) v).clearRegs ((List.range 8).map fun n => farA d (0x10 + 4 * n)) := by
    simp [execFarClearCounts, Hw.writeFarCtrl, hd, hv, hopen]
  rw [he]
  exact clearsAfter_plainWrite h (accessCodes_farCtrl d hd) v (not_mem_offsets fun i _ => by unfold farA; omega)

theorem execScrubClearCounts_clears (hv : bit v 4 = true) :
    ClearsAfter (scrubA d 0) ((h.reg (scrubA d 0) &&& ~~~ 0xF#32) ||| (v &&& 0xF#32))
      (scrubA d 8 :: (List.range 4).map fun n => scrubA d (0x10 + 4 * n)) h (execScrubClearCounts h d v) := by
  have he : execScrubClearCounts h d v =
      (h.setReg (scrubA d 0) ((h.reg (scrubA d 0) &&& ~~~ 0xF#32) ||| (v &&& 0xF#32))).clearRegs
        (scrubA d 8 :: (List.range 4).map fun n => scrubA d (0x10 + 4 * n)) := by
    unfold execScrubClearCounts
    rw [hopen, hv, decide_eq_true hd]
    exact if_pos rfl
  rw [he]
  exact clearsAfter_setReg h _ (by simp [scrubA])

end

/-! ## The blocks of the hub -/

theorem execCallsClearCounts_clears (h : Hw) {v : Word32} (hv : bit v 9 = true) :
    ClearsAfter (callsA 0) ((h.reg (callsA 0) &&& ~~~ 0x1FF#32) ||| (v &&& 0x1FF#32))
      ((List.range 8).map fun n => callsA (0x10 + 4 * n)) h (execCallsClearCounts h v) := by
  rw [execCallsClearCounts, if_pos hv, Hw.writeCallsCtrl, if_pos hv]
  exact clearsAfter_plainWrite h accessCodes_callsCtrl v (not_mem_offsets fun i _ => by unfold callsA; omega)

theorem execProbeClearCounts_clears (h : Hw) {v : Word32} (hv : bit v 1 = true) :
    ClearsAfter (probeA 0) (v &&& 1#32) ((List.range 4).map fun n => probeA (0x40 + 4 * n)) h (execProbeClearCounts h v) := by
  rw [execProbeClearCounts, if_pos hv, Hw.writeProbeCtrl, if_pos hv]
  exact clearsAfter_setReg h _ (not_mem_offsets fun i _ => by unfold probeA; omega)

theorem execTraceClearCounts_clears (h : Hw) {v : Word32} (h7 : bit v 7 = true) (h6 : bit v 6 = false) (h0 : bit v 0 = false)
    (hoff : h.bget (traceA 0) 0 = false) :
    ClearsAfter (traceA 0) ((v &&& 0x3F#32) ||| 0x20#32) ((List.range 7).map fun n => traceA (0x20 + 4 * n)) h
      (execTraceClearCounts h v) := by
  have he : execTraceClearCounts h v = (h.setReg (traceA 0) ((v &&& 0x3F#32) ||| 0x20#32)).clearRegs
      ((List.range 7).map fun n => traceA (0x20 + 4 * n)) := by
    simp [execTraceClearCounts, Hw.writeTraceCtrl, h7, h6, h0, hoff]
  rw [he]
  exact clearsAfter_setReg h _ (not_mem_offsets fun i _ => by unfold traceA; omega)

/-! ## TIME.CFG (R294, R299, R313) -/

/-- CFG as it is written, with the status of the 10 MHz input that follows its enable (R290). -/
def Hw.cfgTaken (h : Hw) (v : Word32) : Hw :=
  (h.setReg (timeA 0x14) (v &&& 0x007FFFFF#32)).setTStat 8 (bit v 22 && h.time.ref10m)

/-- The domains whose number a write of CFG changes. -/
def Hw.cfgGone (h : Hw) (v : Word32) : List Nat := [0, 1].filter fun d => (h.cfgTaken v).domainNum d != h.domainNum d

theorem writeTimeCfg_eq (h : Hw) {v : Word32} (hv : bit v 23 = true) : h.writeTimeCfg v =
    (((h.cfgGone v).foldl Hw.forgetDomain (h.cfgTaken v)).sourceAfterCfg).clearRegs ((List.range 6).map fun n => timeA (0x30 + 4 * n)) :=
  if_pos hv

theorem reg_cfg_cfgTaken (h : Hw) (v : Word32) : (h.cfgTaken v).reg (timeA 0x14) = v &&& 0x007FFFFF#32 := by
  rw [Hw.cfgTaken, Hw.setTStat, reg_setReg, if_neg (by unfold timeA; omega), reg_setReg_same]

/-- What follows a write of CFG leaves CFG as written. -/
theorem reg_cfg_forgetDomain (h : Hw) (d : Nat) (hd : d < 2) : (h.forgetDomain d).reg (timeA 0x14) = h.reg (timeA 0x14) := by
  refine (reg_setReg (h.dropMaster d) (timeA (0x20 + 4 * d)) (timeA 0x14) _).trans ?_
  rw [if_neg (by unfold timeA; omega)]
  refine (reg_setReg h (timeA 0x10) (timeA 0x14) _).trans ?_
  rw [if_neg (by unfold timeA; omega)]

theorem reg_cfg_forgetDomains (h : Hw) (ds : List Nat) (hds : ∀ d ∈ ds, d < 2) :
    (ds.foldl Hw.forgetDomain h).reg (timeA 0x14) = h.reg (timeA 0x14) := by
  induction ds generalizing h with
  | nil => rfl
  | cons d ds ih =>
    rw [List.foldl_cons, ih _ fun x hx => hds x (List.mem_cons_of_mem _ hx), reg_cfg_forgetDomain h d (hds d List.mem_cons_self)]

theorem reg_cfg_holdover (h : Hw) : h.holdover.reg (timeA 0x14) = h.reg (timeA 0x14) := by
  unfold Hw.holdover
  split
  · refine (reg_setReg h (timeA 0x10) (timeA 0x14) _).trans ?_
    rw [if_neg (by unfold timeA; omega)]
  · rfl

theorem reg_cfg_selectDomain (h : Hw) (d : Nat) : (h.selectDomain d).reg (timeA 0x14) = h.reg (timeA 0x14) := by
  unfold Hw.selectDomain
  dsimp only
  rw [reg_setReg, if_neg (by unfold timeA; omega), Hw.raise, reg_raiseWith, Hw.count, Hw.bump, reg_fset,
    if_neg (by unfold timeA; omega), reg_fset, if_neg (by unfold timeA; omega)]

theorem reg_cfg_sourceAfterCfg (h : Hw) : h.sourceAfterCfg.reg (timeA 0x14) = h.reg (timeA 0x14) := by
  unfold Hw.sourceAfterCfg
  split_ifs
  · rfl
  · exact reg_cfg_holdover h
  · rfl
  · exact reg_cfg_selectDomain h _
  · exact reg_cfg_holdover h

/-- The numbers of the domains stand in bits 21 to 5 of CFG (R294). -/
theorem domainNum_of_bits {h g : Hw} (e : ∀ n, 5 ≤ n → n ≤ 21 → g.bget (timeA 0x14) n = h.bget (timeA 0x14) n) (d : Nat) :
    g.domainNum d = h.domainNum d := by
  have hfld : ∀ hi lo, 5 ≤ lo → hi ≤ 21 → fld (g.reg (timeA 0x14)) hi lo = fld (h.reg (timeA 0x14)) hi lo := by
    intro hi lo hlo hhi
    apply Nat.eq_of_testBit_eq
    intro n
    rw [fld_testBit, fld_testBit]
    by_cases hn : n < hi + 1 - lo
    · have hbit := e (lo + n) (by omega) (by omega)
      simp only [Hw.bget] at hbit
      rw [hbit]
    · simp [hn]
  have h21 := e 21 (by omega) (by omega)
  simp only [Hw.bget] at h21
  simp only [Hw.domainNum, hfld 12 5 (by omega) (by omega), hfld 20 13 (by omega) (by omega), h21]

theorem cfgGone_of_same {h : Hw} {v : Word32} (e : fld v 21 5 = h.fget (timeA 0x14) 21 5) : h.cfgGone v = [] := by
  have hnum : ∀ d, (h.cfgTaken v).domainNum d = h.domainNum d := by
    refine domainNum_of_bits fun n h5 h21 => ?_
    have hbit := congrArg (fun x => x.testBit (n - 5)) e
    simp only [Hw.fget, fld_testBit, decide_eq_true (show n - 5 < 21 + 1 - 5 by omega), Bool.true_and,
      show 5 + (n - 5) = n by omega] at hbit
    have hmask : bit 0x007FFFFF#32 n = true := by
      interval_cases n <;> rfl
    rw [Hw.bget, reg_cfg_cfgTaken, bit_and, hmask, Bool.and_true, hbit]
    rfl
  simp [Hw.cfgGone, hnum]

/-- With a source, nothing follows the write. -/
theorem sourceAfterCfg_of_source {h : Hw} (e : (if h.bget (timeA 0x14) 0 then h.bget (timeA 0x10) 9 else h.tValid h.tDomain) = true) :
    h.sourceAfterCfg = h := by
  unfold Hw.sourceAfterCfg
  split_ifs at e ⊢ <;> simp_all

/-- Only bit 8 of STAT moves with a write of CFG. -/
theorem bget_stat_cfgTaken (h : Hw) (v : Word32) {n : Nat} (hn : n ≠ 8) :
    (h.cfgTaken v).bget (timeA 0x10) n = h.bget (timeA 0x10) n := by
  rw [Hw.cfgTaken, Hw.setTStat, bget_setReg, if_pos rfl, bit_setBit _ _ _ _ (by omega), if_neg hn, reg_setReg,
    if_neg (by unfold timeA; omega)]
  rfl

theorem tDomain_cfgTaken (h : Hw) (v : Word32) : (h.cfgTaken v).tDomain = h.tDomain := by
  apply Nat.eq_of_testBit_eq
  intro n
  have hbit := bget_stat_cfgTaken h v (n := 4) (by omega)
  simp only [Hw.bget] at hbit
  simp only [Hw.tDomain, Hw.fget, fld_testBit]
  by_cases hn : n = 0
  · subst hn
    rw [hbit]
  · rw [decide_eq_false (by omega), Bool.false_and, Bool.false_and]

theorem tDomain_lt (h : Hw) : h.tDomain < 2 := fld_lt _ _ _

/-- TIME's write: the counters read 0 and CFG takes the other fields; nothing else but STAT moves where the domains stay and a source
is there. -/
theorem execTimeClearCounts_clears (h : Hw) {v : Word32} (hv : bit v 23 = true) :
    let g := execTimeClearCounts h v
    (∀ n, n < 6 → g.reg (timeA (0x30 + 4 * n)) = 0) ∧ g.reg (timeA 0x14) = v &&& 0x007FFFFF#32 ∧
      (fld v 21 5 = h.fget (timeA 0x14) 21 5 → (if bit v 0 then h.bget (timeA 0x10) 9 else h.tValid h.tDomain) = true →
        OnlyRegs (timeA 0x10 :: timeA 0x14 :: (List.range 6).map fun n => timeA (0x30 + 4 * n)) h g) := by
  have hds : ∀ d ∈ h.cfgGone v, d < 2 := by
    intro d hd
    have := (List.mem_filter.1 hd).1
    simp only [List.mem_cons, List.not_mem_nil, or_false] at this
    omega
  rw [execTimeClearCounts, if_pos hv, writeTimeCfg_eq h hv]
  refine ⟨fun n hn => ?_, ?_, fun hnum hsrc => ?_⟩
  · rw [reg_clearRegs, if_pos (mem_offsets (f := fun n => timeA (0x30 + 4 * n)) hn)]
  · rw [reg_clearRegs, if_neg (not_mem_offsets fun i _ => by unfold timeA; omega), reg_cfg_sourceAfterCfg,
      reg_cfg_forgetDomains _ _ hds, reg_cfg_cfgTaken]
  · have hbit0 : (h.cfgTaken v).bget (timeA 0x14) 0 = bit v 0 := by
      rw [Hw.bget, reg_cfg_cfgTaken, bit_and, show bit 0x007FFFFF#32 0 = true from rfl, Bool.and_true]
    have hkept : (h.cfgTaken v).sourceAfterCfg = h.cfgTaken v := by
      refine sourceAfterCfg_of_source ?_
      have hdom := tDomain_lt h
      rw [hbit0, bget_stat_cfgTaken h v (by omega), tDomain_cfgTaken, Hw.tValid, bget_stat_cfgTaken h v (by omega)]
      exact hsrc
    rw [cfgGone_of_same hnum, List.foldl_nil, hkept]
    exact (((onlyRegs_setReg h (timeA 0x14) _).trans (onlyRegs_setReg _ (timeA 0x10) _)).trans (onlyRegs_clearRegs _ _)).mono
      (by simp; tauto)

/-- Settles O10, block by block. -/
theorem clearCounts : Obligations.ClearCounts := by
  intro s v
  refine ⟨fun d hd hv ho => does_of (decide_eq_true hd) ?_, fun d hd hv ho => does_of (decide_eq_true hd) ?_,
    fun d hd hv ho => does_of (decide_eq_true hd) ?_, fun d hd hv ho => does_of (decide_eq_true hd) ?_, fun d hd ho i hi => ?_,
    fun hv => does_of rfl ?_, fun hv => does_of rfl ?_, fun hv => does_of rfl (execTimeClearCounts_clears s.hw hv),
    fun h7 h6 h0 hoff => does_of rfl ?_⟩
  · obtain ⟨hz, hb, honly⟩ := execTrusscfgClearCounts_clears s.hw hd ho hv
    exact ⟨hz _ (by simp), hz _ (by simp), hb, honly⟩
  · obtain ⟨hz, hb, honly⟩ := execBankClearCounts_clears s.hw hd ho hv
    exact ⟨hz _ (by simp), hz _ (by simp), hz _ (by simp), hb, honly⟩
  · obtain ⟨hz, hb, honly⟩ := execFarClearCounts_clears s.hw hd ho hv
    exact ⟨fun n hn => hz _ (mem_offsets (f := fun n => farA d (0x10 + 4 * n)) hn), hb, honly⟩
  · obtain ⟨hz, hb, honly⟩ := execScrubClearCounts_clears s.hw hd ho hv
    exact ⟨hz _ List.mem_cons_self, fun n hn =>
      hz _ (List.mem_cons_of_mem _ (mem_offsets (f := fun n => scrubA d (0x10 + 4 * n)) hn)), hb, honly⟩
  · have hwf : i.wellFormed = true ∧ effect i s.hw = s.hw := by
      simp only [List.mem_cons, List.not_mem_nil, or_false] at hi
      rcases hi with rfl | rfl | rfl | rfl <;> refine ⟨decide_eq_true hd, ?_⟩
      · simp [effect, execTrusscfgClearCounts, ho]
      · simp [effect, execBankClearCounts, ho]
      · simp [effect, execFarClearCounts, ho]
      · simp [effect, execScrubClearCounts, ho]
    rw [exec_ok hwf.1, hwf.2]
  · obtain ⟨hz, hb, honly⟩ := execCallsClearCounts_clears s.hw hv
    exact ⟨fun n hn => hz _ (mem_offsets (f := fun n => callsA (0x10 + 4 * n)) hn), hb, honly⟩
  · obtain ⟨hz, hb, honly⟩ := execProbeClearCounts_clears s.hw hv
    exact ⟨fun n hn => hz _ (mem_offsets (f := fun n => probeA (0x40 + 4 * n)) hn), hb, honly⟩
  · obtain ⟨hz, hb, honly⟩ := execTraceClearCounts_clears s.hw h7 h6 h0 hoff
    exact ⟨fun n hn => hz _ (mem_offsets (f := fun n => traceA (0x20 + 4 * n)) hn), hb, honly⟩

end Sys2Proof.Machine
end

section
-- As the tests above: declarations in order, so that checking the one text stays within its memory.
set_option Elab.async false
/-!
PROOFS. Owners of banks (O12), acknowledgement of log entries (O13), and the supplies and the course clock (O14): words of which a write
sets fields.
-/

namespace Sys2Proof.Machine

/-! ## Hand-over of banks (R172, R447) -/

/-- A request for a hand-over (R172). -/
theorem requestOwner_requests (h : Hw) (a : Nat) {o : Nat} (ho : o < 8) :
    let g := h.requestOwner a o
    g.fget a 2 0 = h.fget a 2 0 ∧ g.fget a 6 4 = o ∧ g.bget a 3 = decide (o ≠ h.fget a 2 0) ∧ OnlyRegs [a] h g := by
  have key : ∀ b, b < 2 → let g := (h.fset a 6 4 o).fset a 3 3 b
      g.fget a 2 0 = h.fget a 2 0 ∧ g.fget a 6 4 = o ∧ g.bget a 3 = decide (b = 1) ∧ OnlyRegs [a] h g := by
    intro b hb
    refine ⟨?_, ?_, ?_, ?_⟩
    · rw [fget_fset_ne _ _ _ _ _ _ _ _ (by omega) (by omega), fget_fset_ne _ _ _ _ _ _ _ _ (by omega) (by omega)]
    · rw [fget_fset_ne _ _ _ _ _ _ _ _ (by omega) (by omega), fget_fset_same _ _ _ _ _ (by omega)]
      exact Nat.mod_eq_of_lt ho
    · rw [bget_fset _ _ _ _ _ _ _ (by omega), if_pos ⟨rfl, by omega, by omega⟩]
      interval_cases b <;> rfl
    · exact ((onlyRegs_fset h a 6 4 o).trans (onlyRegs_fset _ a 3 3 b)).mono (by simp)
  unfold Hw.requestOwner
  split
  · next e =>
    obtain ⟨h1, h2, h3, h4⟩ := key 0 (by omega)
    exact ⟨h1, h2, by rw [h3]; simp [e], h4⟩
  · next e =>
    obtain ⟨h1, h2, h3, h4⟩ := key 1 (by omega)
    exact ⟨h1, h2, by rw [h3]; simp [e], h4⟩

/-- A hand-over that takes effect. -/
theorem handOver_takes (h : Hw) (a : Nat) :
    (h.handOver a).fget a 2 0 = h.fget a 6 4 ∧ (h.handOver a).bget a 3 = false ∧ OnlyRegs [a] h (h.handOver a) := by
  refine ⟨?_, ?_, ((onlyRegs_fset h a 2 0 _).trans (onlyRegs_fset _ a 3 3 0)).mono (by simp)⟩
  · rw [Hw.handOver, fget_fset_ne _ _ _ _ _ _ _ _ (by omega) (by omega), fget_fset_same _ _ _ _ _ (by omega)]
    exact Nat.mod_eq_of_lt (fld_lt _ 6 4)
  · rw [Hw.handOver, bget_fset _ _ _ _ _ _ _ (by omega), if_pos ⟨rfl, by omega, by omega⟩]
    rfl

/-- The owner register of design memory bank `ref`. -/
def ownerA (ref : Nat) : Nat := bankA (ref / 64) (4 * (ref % 64))

/-- An access of the design to a bank that it owns is in flight (R172). -/
theorem bankInFlight_ownerA (h : Hw) {ref : Nat} (hr : ref < 128) : h.bankInFlight (ownerA ref) =
    (h.fget (ownerA ref) 2 0 == 0 && (!(h.bank ref).rmw.isEmpty ||
      (h.truss (trussIx (ref / 64) (homeTruss (ref % 64)))).reads.any (·.bank))) := by
  have hd : (if ownerA ref < dieBase 1 then 0 else 1) = ref / 64 := by
    unfold ownerA bankA dieBase
    split <;> omega
  have hj : (ownerA ref - bankA (ref / 64) 0) / 4 = ref % 64 := by
    unfold ownerA bankA
    omega
  unfold Hw.bankInFlight
  dsimp only
  rw [hd, hj, show 64 * (ref / 64) + ref % 64 = ref by omega]

theorem exec_of_same {i : Instr} {s : State} (w : i.wellFormed = true) (e : effect i s.hw = s.hw) : exec i s = .next s := by
  rw [exec_ok w, e]

theorem execOwnerHandover_bank (h : Hw) {ref : Nat} (hr : ref < 128) : execOwnerHandover h ref =
    if h.bget (ownerA ref) 3 && h.mayHandOver (ownerA ref) then h.handOver (ownerA ref) else h := if_pos hr

/-- A bank that may not be handed over stays. -/
theorem execOwnerHandover_barred {h : Hw} {ref : Nat} (hr : ref < 128) (hb : h.mayHandOver (ownerA ref) = false) :
    execOwnerHandover h ref = h := by
  rw [execOwnerHandover_bank h hr, hb, Bool.and_false]
  exact if_neg Bool.false_ne_true

/-- Settles O12, from the request and the hand-over of one owner register. -/
theorem ownerHandOver : Obligations.OwnerHandOver := by
  refine ⟨fun s => ⟨fun d j v hd hj hshut => ?_, fun d j v hd hj hv hopen => ?_, fun d j v hd hj hv hs => ?_,
    fun k v h2 hk hlo hhi => ?_, fun k v hk hor => ?_, fun ref href => ?_⟩, fun s ref href => ?_⟩
  · exact exec_of_same (by simp [Instr.wellFormed, hd, hj]) (by simp [effect, execBankOwnerWrite, hshut])
  · refine does_of (by simp [Instr.wellFormed, hd, hj]) ?_
    have he : effect (.bankOwnerWrite d j v) s.hw = s.hw.requestOwner (bankA d (4 * j)) (fld v 2 0) := by
      simp [effect, execBankOwnerWrite, hd, hj, hopen, Hw.writeBankOwner, show fld v 2 0 ≠ 4 by omega,
        show ¬ 5 ≤ fld v 2 0 by omega]
    rw [he]
    exact requestOwner_requests s.hw _ (by omega)
  · refine exec_of_same (by simp [Instr.wellFormed, hd, hj]) ?_
    simp [effect, execBankOwnerWrite, Hw.writeBankOwner, hv, Hw.session, hs]
  · refine does_of (by simp [Instr.wellFormed, hk]) ?_
    have he : effect (.scrOwnerWrite k v) s.hw = s.hw.requestOwner (scrA k) (fld v 2 0) := by
      simp [effect, execScrOwnerWrite, hk, Hw.writeScrOwner, show ¬ k < 2 by omega, show ¬ fld v 2 0 < 2 by omega,
        show fld v 2 0 ≠ 4 by omega, show ¬ 5 ≤ fld v 2 0 by omega]
    rw [he]
    exact requestOwner_requests s.hw _ (by omega)
  · refine exec_of_same (by simp [Instr.wellFormed, hk]) ?_
    by_cases h2 : k < 2
    · simp [effect, execScrOwnerWrite, hk, Hw.writeScrOwner, h2]
    · simp [effect, execScrOwnerWrite, hk, Hw.writeScrOwner, h2, hor.resolve_left h2]
  · by_cases hb : ref < 128
    · dsimp only
      rw [if_pos hb]
      intro hp hmay
      obtain ⟨hidle, hload, hflight⟩ := hmay hb
      refine does_of (by simp [Instr.wellFormed, href]) ?_
      have hm : s.hw.mayHandOver (ownerA ref) = true := by
        have hnf : s.hw.bankInFlight (ownerA ref) = false := by
          rw [bankInFlight_ownerA _ hb]
          by_cases hc : s.hw.fget (ownerA ref) 2 0 = 0
          · obtain ⟨hr, ht⟩ := hflight hc
            simp [hr, ht]
          · simp [hc]
        have hl : (s.hw.fget (ownerA ref) 2 0 == 1 && s.hw.img.bay.isSome) = false := by
          by_cases hc : s.hw.fget (ownerA ref) 2 0 = 1
          · rw [hload hc]
            simp
          · simp [hc]
        have hi : ((s.hw.fget (ownerA ref) 2 0 == 0 || s.hw.fget (ownerA ref) 6 4 == 0) && s.hw.busy) = false := by
          rcases hidle with hi | ⟨hc, hn⟩
          · rw [hi, Bool.and_false]
          · change s.hw.fget (ownerA ref) 2 0 ≠ 0 at hc
            change s.hw.fget (ownerA ref) 6 4 ≠ 0 at hn
            simp [hc, hn]
        unfold Hw.mayHandOver
        dsimp only
        rw [hi, hl, hnf]
        rfl
      have he : effect (.ownerHandover ref) s.hw = s.hw.handOver (ownerA ref) :=
        (execOwnerHandover_bank s.hw hb).trans (if_pos (by rw [hm, Bool.and_true]; exact hp))
      rw [he]
      exact handOver_takes s.hw _
    · dsimp only
      rw [if_neg hb]
      intro hp _
      refine does_of (by simp [Instr.wellFormed, href]) ?_
      have he : effect (.ownerHandover ref) s.hw = s.hw.handOver (scrA (ref - 128)) := by
        simp [effect, execOwnerHandover, hb, href, hp]
      rw [he]
      exact handOver_takes s.hw _
  · refine ⟨fun hbusy hdes => exec_of_same ?_ (execOwnerHandover_barred href ?_),
      fun hcur hfl => exec_of_same ?_ (execOwnerHandover_barred href ?_)⟩
    · simp [Instr.wellFormed]
      omega
    · have hd : (s.hw.fget (ownerA ref) 2 0 == 0 || s.hw.fget (ownerA ref) 6 4 == 0) = true := by
        rw [Bool.or_eq_true, beq_iff_eq, beq_iff_eq]
        exact hdes
      unfold Hw.mayHandOver
      dsimp only
      rw [hd, hbusy]
      rfl
    · simp [Instr.wellFormed]
      omega
    · have hf : s.hw.bankInFlight (ownerA ref) = true := by
        have hc : s.hw.fget (ownerA ref) 2 0 = 0 := hcur
        rw [bankInFlight_ownerA _ href, hc]
        rcases hfl with hr | hr
        · simp [hr]
        · simp [hr]
      unfold Hw.mayHandOver
      dsimp only
      rw [hf, Bool.not_true, Bool.and_false]

/-! ## Log entries (R7, R419) -/

theorem setNow_eq_of {h : Hw} {a n : Nat} (hn : n < 31) : bit (h.setNow a) n = true ↔ SetNow h a n := by
  rw [bit_setNow _ _ (by omega), show (n == 31) = false by simp; omega, Bool.false_and, Bool.or_false, List.contains_iff_mem]

theorem execLogValidWrite_eq (h : Hw) (k : Nat) (v : Word32) : execLogValidWrite h k v =
    if k < 32 ∧ bit v 15 = true ∧ h.handled k = true ∧ ¬ SetNow h (logA k) 15 then
      (h.setReg (logA k) (setBit (h.reg (logA k)) 15 false)).reportHandled else h := by
  unfold execLogValidWrite
  congr 1
  rw [← setNow_eq_of (by omega)]
  simp [and_assoc]

/-- Settles O13: an entry is acknowledged by clearing its VALID, and POISON_STAT as a whole. -/
theorem logAcknowledge : Obligations.LogAcknowledge := by
  intro s v
  refine ⟨fun k hk hv hh hn hm => does_of (decide_eq_true hk) ?_, fun k hk hor => exec_of_same (decide_eq_true hk) ?_,
    fun hv hn hc => does_of rfl ?_, fun hor => exec_of_same rfl ?_⟩
  · have hrep : (s.hw.setReg (logA k) (setBit (s.hw.reg (logA k)) 15 false)).reportHandled =
        s.hw.setReg (logA k) (setBit (s.hw.reg (logA k)) 15 false) := by
      rw [Hw.reportHandled, isMember_setReg, hm, Bool.false_and]
      exact if_neg Bool.false_ne_true
    rw [effect, execLogValidWrite_eq, if_pos ⟨hk, hv, hh, hn⟩, hrep]
    refine ⟨?_, fun n hn hne => ?_, onlyRegs_setReg _ _ _⟩
    · rw [Hw.handled, bget_setReg, if_pos rfl, bit_setBit _ _ _ _ (by omega), if_pos rfl]
    · rw [reg_setReg_same, bit_setBit _ _ _ _ (by omega), if_neg hne]
  · refine (execLogValidWrite_eq s.hw k v).trans (if_neg ?_)
    rintro ⟨-, hv, hh, hn⟩
    rcases hor with e | e | e
    · rw [hv] at e
      exact Bool.noConfusion e
    · rw [hh] at e
      exact Bool.noConfusion e
    · exact hn e
  · have hset : bit (s.hw.setNow (faultA 0x614)) 31 = false := by
      rw [bit_setNow _ _ (by omega), Bool.or_eq_false_iff]
      exact ⟨by simpa using hn, by simpa using hc⟩
    have he : effect (.poisonStatWrite v) s.hw = s.hw.setReg (faultA 0x614) 0 := by
      simp [effect, execPoisonStatWrite, hv, hset]
    rw [he]
    exact ⟨reg_setReg_same _ _ _, onlyRegs_setReg _ _ _⟩
  · rcases hor with hv | hn
    · simp [effect, execPoisonStatWrite, hv]
    · have hset : bit (s.hw.setNow (faultA 0x614)) 31 = true := by
        rw [bit_setNow _ _ (by omega)]
        simp [hn]
      simp [effect, execPoisonStatWrite, hset]

/-! ## Supplies of the user I/O banks (R494) -/

theorem execVselWrite_eq {b : Nat} (h : Hw) (hb : b < 16) (v : Word32) : execVselWrite h b v =
    if h.busy || fld v 1 0 == h.fget (userioA (4 * b)) 1 0 then h.fset (userioA (4 * b)) 4 2 (fld v 4 2)
    else ((h.fset (userioA (4 * b)) 4 2 (fld v 4 2)).fset (userioA (4 * b)) 1 0 (fld v 1 0)).darkBank b := if_pos hb

/-- Another supply while the configuration is not running: it has to settle. -/
theorem execVselWrite_settles (h : Hw) {b : Nat} (hb : b < 16) {v : Word32} (hr : h.busy = false)
    (hne : fld v 1 0 ≠ h.fget (userioA (4 * b)) 1 0) :
    let g := execVselWrite h b v
    g.fget (userioA (4 * b)) 1 0 = fld v 1 0 ∧ g.bget (userioA (4 * b)) 5 = false ∧ g.reg (userioA (0xC0 + 4 * b)) = 0 ∧
      OnlyRegs [userioA (4 * b), userioA (0xC0 + 4 * b)] h g := by
  have hab : userioA (4 * b) ≠ userioA (0xC0 + 4 * b) := by unfold userioA; omega
  have he := execVselWrite_eq h hb v
  rw [hr, Bool.false_or, if_neg (by simpa using hne), Hw.darkBank] at he
  rw [he]
  refine ⟨?_, ?_, reg_setReg_same _ _ _, ?_⟩
  · rw [fget_setReg, if_neg hab, fget_fset_ne _ _ _ _ _ _ _ _ (by omega) (by omega), fget_fset_same _ _ _ _ _ (by omega)]
    exact Nat.mod_eq_of_lt (fld_lt _ 1 0)
  · rw [bget_setReg, if_neg hab, bget_fset _ _ _ _ _ _ _ (by omega), if_pos ⟨rfl, by omega, by omega⟩]
    rfl
  · exact ((((onlyRegs_fset h _ 4 2 _).trans (onlyRegs_fset _ _ 1 0 _)).trans (onlyRegs_fset _ _ 5 5 0)).trans
      (onlyRegs_setReg _ _ 0)).mono (by simp)

/-- While the configuration runs only the pull field moves. -/
theorem execVselWrite_running (h : Hw) {b : Nat} (hb : b < 16) {v : Word32} (hr : h.busy = true) :
    let g := execVselWrite h b v
    g.fget (userioA (4 * b)) 1 0 = h.fget (userioA (4 * b)) 1 0 ∧ g.bget (userioA (4 * b)) 5 = h.bget (userioA (4 * b)) 5 ∧
      g.fget (userioA (4 * b)) 4 2 = fld v 4 2 ∧ OnlyRegs [userioA (4 * b)] h g := by
  have he := execVselWrite_eq h hb v
  rw [hr, Bool.true_or, if_pos rfl] at he
  rw [he]
  refine ⟨fget_fset_ne _ _ _ _ _ _ _ _ (by omega) (by omega), ?_, ?_, onlyRegs_fset _ _ _ _ _⟩
  · rw [bget_fset _ _ _ _ _ _ _ (by omega), if_neg (by omega)]
  · rw [fget_fset_same _ _ _ _ _ (by omega)]
    exact Nat.mod_eq_of_lt (fld_lt _ 4 2)

/-! ## The course clock (R18, R19) -/

/-- LOCKED is the one bit that the PLL moves. -/
theorem lockPll_fields (h : Hw) : (h.lockPll).fget 0x44 1 0 = h.fget 0x44 1 0 ∧ (h.lockPll).fget 0x44 5 2 = h.fget 0x44 5 2 ∧
    OnlyRegs [0x44] h h.lockPll :=
  ⟨fget_fset_ne _ _ _ _ _ _ _ _ (by omega) (by omega), fget_fset_ne _ _ _ _ _ _ _ _ (by omega) (by omega),
    onlyRegs_fset _ _ _ _ _⟩

theorem lockPll_unlocked {h : Hw} (hs : h.fget 0x44 1 0 = 2) (hp : (h.port h.clkPort).state ≠ .active) :
    (h.lockPll).bget 0x44 6 = false := by
  have hu : (h.fget 0x44 1 0 = 2 && (h.port h.clkPort).state != .active) = true := by simp [hs, hp]
  rw [Hw.lockPll, bget_fset _ _ _ _ _ _ _ (by omega), if_pos ⟨rfl, by omega, by omega⟩, hu]
  simp

theorem execClkSrcWrite_held {h : Hw} {v : Word32} (hon : h.hubOn = true) (hf : h.framesOn = false) :
    execClkSrcWrite h v =
      (({ (h.fset 0x44 5 2 (fld v 5 2)) with seq := { h.seq with srcPending := none } } : Hw).fset 0x44 1 0 (fld v 1 0)).lockPll := by
  have hf' : (h.fset 0x44 5 2 (fld v 5 2)).framesOn = false := hf
  rw [execClkSrcWrite, if_pos hon, Hw.writeClk]
  dsimp only
  rw [hf', if_neg Bool.false_ne_true]
  rfl

theorem execClkSrcWrite_running {h : Hw} {v : Word32} (hon : h.hubOn = true) (hf : h.framesOn = true) :
    execClkSrcWrite h v = ({ (h.fset 0x44 5 2 (fld v 5 2)) with seq := { h.seq with
      srcPending := if fld v 1 0 = h.fget 0x44 1 0 then none else some (fld v 1 0) } } : Hw).lockPll := by
  have hf' : (h.fset 0x44 5 2 (fld v 5 2)).framesOn = true := hf
  have hsrc : (h.fset 0x44 5 2 (fld v 5 2)).fget 0x44 1 0 = h.fget 0x44 1 0 :=
    fget_fset_ne _ _ _ _ _ _ _ _ (by omega) (by omega)
  rw [execClkSrcWrite, if_pos hon, Hw.writeClk]
  dsimp only
  rw [hf', if_pos rfl, hsrc]
  rfl

theorem fget_withSeq (h : Hw) (q : Seq) (a hi lo : Nat) : ({ h with seq := q } : Hw).fget a hi lo = h.fget a hi lo := rfl

/-- Settles O14, rule by rule. -/
theorem supplyAndClock : Obligations.SupplyAndClock := by
  intro s v
  refine ⟨fun b hb hr hne => does_of (decide_eq_true hb) (execVselWrite_settles s.hw hb hr hne),
    fun b hb hr => does_of (decide_eq_true hb) (execVselWrite_running s.hw hb hr), fun b hb hne => does_of (decide_eq_true hb) ?_,
    fun b hb h0 => exec_of_same (decide_eq_true hb) ?_, fun hoff => exec_of_same rfl ?_, fun hon hf => does_of rfl ?_,
    fun hon hf => does_of rfl ?_⟩
  · have he : effect (.vccoReady b) s.hw = s.hw.fset (userioA (4 * b)) 5 5 1 := by
      simp [effect, execVccoReady, hb, hne]
    rw [he]
    refine ⟨?_, fget_fset_ne _ _ _ _ _ _ _ _ (by omega) (by omega), onlyRegs_fset _ _ _ _ _⟩
    rw [bget_fset _ _ _ _ _ _ _ (by omega), if_pos ⟨rfl, by omega, by omega⟩]
    rfl
  · simp [effect, execVccoReady, h0]
  · simp [effect, execClkSrcWrite, hoff]
  · rw [effect, execClkSrcWrite_held hon hf]
    obtain ⟨hsrc, hport, honly⟩ := lockPll_fields
      (({ (s.hw.fset 0x44 5 2 (fld v 5 2)) with seq := { s.hw.seq with srcPending := none } } : Hw).fset 0x44 1 0 (fld v 1 0))
    have hsrc' := fget_fset_same { (s.hw.fset 0x44 5 2 (fld v 5 2)) with seq := { s.hw.seq with srcPending := none } } 0x44 1 0
      (fld v 1 0) (by omega)
    rw [Nat.mod_eq_of_lt (fld_lt v 1 0)] at hsrc'
    have hport' : (({ (s.hw.fset 0x44 5 2 (fld v 5 2)) with seq := { s.hw.seq with srcPending := none } } : Hw).fset 0x44 1 0
        (fld v 1 0)).fget 0x44 5 2 = fld v 5 2 := by
      rw [fget_fset_ne _ _ _ _ _ _ _ _ (by omega) (by omega), fget_withSeq, fget_fset_same _ _ _ _ _ (by omega)]
      exact Nat.mod_eq_of_lt (fld_lt v 5 2)
    refine ⟨hsrc.trans hsrc', hport.trans hport', fun h2 hst => lockPll_unlocked (hsrc'.trans h2) ?_, ?_⟩
    · rw [Hw.clkPort, hport']
      exact hst
    · have hpend : OnlyRegs [0x44] { s.hw with seq := { s.hw.seq with srcPending := none } }
          { (s.hw.fset 0x44 5 2 (fld v 5 2)) with seq := { s.hw.seq with srcPending := none } } :=
        onlyRegs_fset { s.hw with seq := { s.hw.seq with srcPending := none } } 0x44 5 2 (fld v 5 2)
      exact ((hpend.trans (onlyRegs_fset _ 0x44 1 0 _)).trans honly).mono (by simp)
  · rw [effect, execClkSrcWrite_running hon hf]
    obtain ⟨hsrc, hport, honly⟩ := lockPll_fields ({ (s.hw.fset 0x44 5 2 (fld v 5 2)) with seq := { s.hw.seq with
      srcPending := if fld v 1 0 = s.hw.fget 0x44 1 0 then none else some (fld v 1 0) } } : Hw)
    refine ⟨?_, ?_, fun a ha => ?_, rfl, rfl⟩
    · rw [hsrc, fget_withSeq, fget_fset_ne _ _ _ _ _ _ _ _ (by omega) (by omega)]
    · rw [hport, fget_withSeq, fget_fset_same _ _ _ _ _ (by omega)]
      exact Nat.mod_eq_of_lt (fld_lt v 5 2)
    · rw [honly.2 a (by simpa using ha)]
      exact (onlyRegs_fset s.hw 0x44 5 2 (fld v 5 2)).2 a (by simpa using ha)

end Sys2Proof.Machine
end

section
-- As the tests above: declarations in order, so that checking the one text stays within its memory.
set_option Elab.async false
/-!
PROOFS. Commands of a mailbox slot: one that ends at once, the status commands (O15), and the argument tests that come before every
command's own rule (O17).
-/

namespace Sys2Proof.Machine

/-! ## A command that ends at once -/

/-- The answer of a slot's command that leaves `mid` and ends with a status and a reply, whatever it writes to host memory. -/
theorem answers_of_endCmd {i : Instr} {s : State} {k st : Nat} {P : Hw → List Byte → Prop} {mid : Hw} {reply output : List Byte}
    {ds : List Desc} (w : i.wellFormed = true) (he : effect i s.hw = mid.endCmd (.slot k) ds st reply output) (hst : st < 256)
    (hr : reply.length ≤ 224) (hP : P mid reply) : Answers i s k st P :=
  does_of w (by
    rw [he]
    exact ⟨mid, reply, hP, endCmd_done mid k st reply output ds hst hr, endCmd_onlySlot mid k st reply output ds⟩)

/-- The same of a command without descriptors that ends at once with what `f` gives. -/
theorem answers_of_runNow {i : Instr} {s : State} {k code : Nat} {args : List Byte} {io : HostIo} {sp : CmdSpec}
    {st : Nat} {reply : List Byte} {mid : Hw} {P : Hw → List Byte → Prop} (f : Call0 → Hw → Nat × List Byte × Hw)
    (r : SlotRuns s.hw k code args) (w : i.wellFormed = true) (he : effect i s.hw = s.hw.runNow (.slot k) code io f)
    (hs : specOf code = some sp) (ha : sp.args args = true) (hi : sp.inLen args = 0) (ho : sp.outLen args = 0)
    (hf : f ⟨.slot k, code, args, false, []⟩ s.hw = (st, reply, mid)) (hst : st < 256) (hr : reply.length ≤ 224)
    (hP : P mid reply) : Answers i s k st P := by
  refine answers_of_endCmd (output := []) (ds := []) w ?_ hst hr hP
  rw [he, runNow_slot r hs ha hi ho, hf]

/-- A slot that holds a command is one of the module's eight. -/
theorem SlotBegins.src_ok {h : Hw} {k code : Nat} {args : List Byte} (r : SlotBegins h k code args) :
    (CmdSrc.slot k).ok = true := decide_eq_true r.1

/-! ## Parts of a reply -/

theorem arg_skip {m v o n : Nat} {b : List Byte} (ho : m ≤ o) : arg (bytesOf m v ++ b) o n = arg b (o - m) n := by
  rw [arg, List.drop_append, List.drop_eq_nil_of_le ((bytesOf_length m v).trans_le ho), List.nil_append, bytesOf_length]
  rfl

/-- A field that may cut the value. -/
theorem arg_field (n v : Nat) (b : List Byte) : arg (bytesOf n v ++ b) 0 n = v % 256 ^ n := by
  rw [arg, List.drop_zero, List.take_left' (bytesOf_length n v), ofBytes_bytesOf]

theorem fit_length (n : Nat) (a : List Byte) (h : a.length ≤ n) : (fit n a).length = n := by
  rw [fit, List.length_append, List.length_replicate]; omega

/-- Words at the head of a reply of a fixed length. -/
theorem replyWords_fit (h : Hw) (as : List Nat) (n : Nat) : ReplyWords 0 as h (fit n (h.words as)) := by
  have := replyWords_words h as [] (List.replicate (n - (h.words as).length) 0)
  simpa [fit] using this

/-- Words that are the whole of a reply. -/
theorem replyWords_self (h : Hw) (as : List Nat) : ReplyWords 0 as h (h.words as) := by
  have := replyWords_words h as [] []
  simpa using this

theorem arg_one (a : Byte) (as : List Byte) : arg (a :: as) 0 1 = a.toNat := by
  simp [arg, ofBytes]

/-! ## The status commands (Tables 18.2, 18.3, 18.7, 18.8, 18.10, 18.11) -/

section
variable (s : State) (k : Nat) (io : HostIo)

theorem identify_answers (r : SlotRuns s.hw k 0x0101 []) :
    Answers (.identify (.slot k) io) s k stOk fun m r => m = s.hw ∧ r.length = 48 ∧
      arg r 0 4 = 0x640000F6 + 256 * identityCode s.hw.stepping ∧ arg r 4 1 = s.hw.devIndex % 256 ∧
      arg r 5 3 = s.hw.fw.active % 2 ^ 24 ∧ arg r 16 8 = s.hw.configId.toNat ∧ arg r 32 8 = s.hw.serial.toNat := by
  have hlen : s.hw.identity.length = 48 := by
    unfold Hw.identity
    apply fit_length
    simp only [List.length_append, bytesOf_length]
    decide
  refine answers_of_runNow (fun _ h => (stOk, h.identity, h)) r r.1.src_ok rfl rfl rfl rfl rfl rfl (by decide)
    (hlen.trans_le (by decide)) ⟨rfl, hlen, ?_⟩
  have hid : (s.hw.bar0Word 0).toNat = 0x640000F6 + 256 * identityCode s.hw.stepping := by
    cases hs : s.hw.stepping <;> simp [Hw.bar0Word, identityCode, hs]
  unfold Hw.identity fit
  simp only [List.append_assoc]
  refine ⟨?_, ?_, ?_, ?_, ?_⟩
  · rw [arg_bytesOf _ _ _ (s.hw.bar0Word 0).isLt, hid]
  · simp (disch := decide) only [arg_skip]
    exact arg_field _ _ _
  · simp (disch := decide) only [arg_skip]
    exact arg_field _ _ _
  · simp (disch := decide) only [arg_skip]
    exact arg_bytesOf _ _ _ s.hw.configId.isLt
  · simp (disch := decide) only [arg_skip]
    exact arg_bytesOf _ _ _ s.hw.serial.isLt

theorem status_answers (r : SlotRuns s.hw k 0x0102 []) :
    Answers (.status (.slot k) io) s k stOk fun m r => m = s.hw ∧ r.length = 48 ∧ arg r 0 4 = (s.hw.bar0Word 8).toNat ∧
      ReplyWords 4 [seqA 0 4, seqA 0 8, seqA 0 0xC, timeA 0x10, faultA 0x600, powerA 0, hostifA 0x88, hostifA 0x8C] s.hw r := by
  have hlen : s.hw.statusReply.length = 48 := by
    unfold Hw.statusReply
    simp [bytesOf_length, words_length]
  refine answers_of_runNow (fun _ h => (stOk, h.statusReply, h)) r r.1.src_ok rfl rfl rfl rfl rfl rfl (by decide)
    (hlen.trans_le (by decide)) ⟨rfl, hlen, ?_, ?_⟩
  · unfold Hw.statusReply
    rw [List.append_assoc, arg_bytesOf _ _ _ (s.hw.bar0Word 8).isLt]
  · unfold Hw.statusReply
    rw [List.append_assoc]
    have := replyWords_words s.hw [seqA 0 4, seqA 0 8, seqA 0 0xC, timeA 0x10, faultA 0x600, powerA 0, hostifA 0x88, hostifA 0x8C]
      (bytesOf 4 (s.hw.bar0Word 8).toNat)
    rw [bytesOf_length] at this
    exact this _

theorem portStatus_answers {p : Nat} (hp : p < 12) (r : SlotRuns s.hw k 0x0103 [BitVec.ofNat 8 p]) :
    Answers (.portStatus (.slot k) io) s k stOk fun m r => m = s.hw ∧ r.length = 64 ∧
      ReplyWords 0 ([4, 8, 0xC, 0x10, 0x100, 0x104].map (eaveA p) ++ (List.range 8).map (fun n => eaveA p (0x20 + 4 * n)) ++
        [eaveA p 0x14]) s.hw r := by
  have harg : arg [BitVec.ofNat 8 p] 0 1 = p := by
    rw [arg_one, BitVec.toNat_ofNat, Nat.mod_eq_of_lt (by omega)]
  have hlen : (s.hw.portReply p).length = 64 := by
    unfold Hw.portReply
    apply fit_length
    rw [words_length]
    simp [wordsFrom]
  have hok : (isLen 1 [BitVec.ofNat 8 p] && decide (arg [BitVec.ofNat 8 p] 0 1 < 12)) = true := by
    rw [harg]; simp [isLen, hp]
  refine answers_of_runNow (fun c h => (stOk, h.portReply (arg c.args 0 1), h)) r r.1.src_ok rfl rfl hok rfl rfl rfl (by decide)
    ?_ ⟨rfl, ?_, ?_⟩
  all_goals rw [harg]
  · exact hlen.trans_le (by decide)
  · exact hlen
  · exact replyWords_fit _ _ _

theorem imageStatus_answers (r : SlotRuns s.hw k 0x0204 []) :
    Answers (.imageStatus (.slot k) io) s k stOk fun m r => m = s.hw ∧ r.length = 24 ∧
       arg r 0 4 = s.hw.imgStat.toNat ∧ arg r 4 4 = s.hw.imgRecv % 2 ^ 32 ∧ arg r 8 8 = s.hw.configId.toNat := by
  refine answers_of_runNow (fun _ h =>
    (stOk, bytesOf 4 h.imgStat.toNat ++ bytesOf 4 h.imgRecv ++ bytesOf 8 h.configId.toNat ++ bytesOf 8 h.lowestMissing, h))
    r r.1.src_ok rfl rfl rfl rfl rfl rfl (by decide) (by simp [bytesOf_length]) ⟨rfl, by simp [bytesOf_length], ?_⟩
  simp only [List.append_assoc]
  refine ⟨arg_bytesOf _ _ _ s.hw.imgStat.isLt, ?_, ?_⟩
  · simp (disch := decide) only [arg_skip]
    exact arg_field _ _ _
  · simp (disch := decide) only [arg_skip]
    exact arg_bytesOf _ _ _ s.hw.configId.isLt

theorem fwStatus_answers (r : SlotRuns s.hw k 0x0B04 []) :
    Answers (.fwStatus (.slot k) io) s k stOk fun m r => m = s.hw ∧ r.length = 32 ∧
       arg r 0 4 = s.hw.fw.bankA.version % 2 ^ 32 ∧ arg r 4 4 = s.hw.fw.bankB.version % 2 ^ 32 ∧
       arg r 8 1 = s.hw.fw.active % 256 ∧ arg r 12 4 = s.hw.fw.fuses % 2 ^ 32 := by
  have hlen : s.hw.fwStatus.length = 32 := by
    simp only [Hw.fwStatus, List.length_append, bytesOf_length]
  refine answers_of_runNow (fun _ h => (stOk, h.fwStatus, h)) r r.1.src_ok rfl rfl rfl rfl rfl rfl (by decide)
    (hlen.trans_le (by decide)) ⟨rfl, hlen, ?_⟩
  simp only [Hw.fwStatus, List.append_assoc]
  refine ⟨arg_field _ _ _, ?_, ?_, ?_⟩
  all_goals
    simp (disch := decide) only [arg_skip]
    exact arg_field _ _ _

theorem timeStatus_answers (r : SlotRuns s.hw k 0x0601 []) :
    Answers (.timeStatus (.slot k) io) s k stOk fun m r => m = s.hw ∧ r.length = 48 ∧
       ReplyWords 0 ([0, 4, 8, 0xC, 0x10, 0x1C, 0x20, 0x24, 0x58, 0x28].map timeA) s.hw r := by
  have hlen : (fit 48 (s.hw.words ([0, 4, 8, 0xC, 0x10, 0x1C, 0x20, 0x24, 0x58, 0x28].map timeA))).length = 48 :=
    fit_length _ _ (by rw [words_length]; decide)
  exact answers_of_runNow
    (fun _ h => (stOk, fit 48 (h.words (wordsFrom (timeA 0) 4 ++ [0x10, 0x1C, 0x20, 0x24, 0x58, 0x28].map timeA)), h))
    r r.1.src_ok rfl rfl rfl rfl rfl rfl (by decide) (hlen.trans_le (by decide)) ⟨rfl, hlen, replyWords_fit _ _ _⟩

theorem callStatus_answers (r : SlotRuns s.hw k 0x0802 []) :
    Answers (.callStatus (.slot k) io) s k stOk fun m r => m = s.hw ∧ r.length = 36 ∧
       ReplyWords 0 ([4, 0x10, 0x14, 0x18, 0x1C, 0x20, 0x24, 0x28, 0x2C].map callsA) s.hw r := by
  have hlen : (s.hw.words ([4, 0x10, 0x14, 0x18, 0x1C, 0x20, 0x24, 0x28, 0x2C].map callsA)).length = 36 := words_length _ _
  exact answers_of_runNow (fun _ h => (stOk, h.words (callsA 4 :: wordsFrom (callsA 0x10) 8), h))
    r r.1.src_ok rfl rfl rfl rfl rfl rfl (by decide) (hlen.trans_le (by decide)) ⟨rfl, hlen, replyWords_self _ _⟩

theorem acqStatus_answers (r : SlotRuns s.hw k 0x0703 []) :
    Answers (.acqStatus (.slot k) io) s k stOk fun m r => m = s.hw ∧ r.length = 48 ∧
       ReplyWords 0 (([0x24, 0x28, 0x2C, 0x30, 0x34, 0x38, 0x3C].map acqA) ++ [probeA 0x48]) s.hw r := by
  have hlen : (fit 48 (s.hw.words (([0x24, 0x28, 0x2C, 0x30, 0x34, 0x38, 0x3C].map acqA) ++ [probeA 0x48]))).length = 48 :=
    fit_length _ _ (by rw [words_length]; decide)
  exact answers_of_runNow
    (fun _ h => (stOk, fit 48 (h.words (([0x24, 0x28, 0x2C, 0x30, 0x34, 0x38, 0x3C].map acqA) ++ [probeA 0x48])), h))
    r r.1.src_ok rfl rfl rfl rfl rfl rfl (by decide) (hlen.trans_le (by decide)) ⟨rfl, hlen, replyWords_fit _ _ _⟩

theorem arg_second (a b : Byte) (as : List Byte) : arg (a :: b :: as) 1 1 = b.toNat := arg_one b as

theorem eventRead_answers (a n : BitVec 8) (h1 : 1 ≤ n.toNat) (h2 : n.toNat ≤ 52) (h3 : a.toNat + n.toNat ≤ 72)
    (r : SlotRuns s.hw k 0x0A01 [a, n]) :
    Answers (.eventRead (.slot k) io) s k stOk fun m r => m = s.hw ∧ r.length = 4 + 4 * n.toNat ∧
      ReplyWords 0 (faultA 0x600 :: (List.range n.toNat).map fun i => grpStatA (a.toNat + i)) s.hw r := by
  have hgrp : wordsFrom (grpStatA a.toNat) n.toNat = (List.range n.toNat).map fun i => grpStatA (a.toNat + i) :=
    List.map_congr_left fun i _ => by simp only [grpStatA, faultA]; omega
  have hlen : (s.hw.words (faultA 0x600 :: wordsFrom (grpStatA a.toNat) n.toNat)).length = 4 + 4 * n.toNat := by
    rw [words_length]; simp [wordsFrom]; omega
  have hok : (isLen 2 [a, n] && decide (1 ≤ arg [a, n] 1 1) && decide (arg [a, n] 1 1 ≤ 52) &&
      decide (arg [a, n] 0 1 + arg [a, n] 1 1 ≤ 72)) = true := by
    rw [arg_one, arg_second]; simp [isLen, h1, h2, h3]
  refine answers_of_runNow
    (fun c h => (stOk, h.words (faultA 0x600 :: wordsFrom (grpStatA (arg c.args 0 1)) (arg c.args 1 1)), h))
    r r.1.src_ok rfl rfl hok rfl rfl rfl (by decide) ?_ ⟨rfl, ?_, ?_⟩
  all_goals rw [arg_one, arg_second]
  · omega
  · exact hlen
  · rw [hgrp]; exact replyWords_self _ _

theorem logRead_answers (a n : BitVec 8) (h1 : 1 ≤ n.toNat) (h2 : n.toNat ≤ 13) (h3 : a.toNat + n.toNat ≤ 32)
    (r : SlotRuns s.hw k 0x0A03 [a, n]) :
    Answers (.logRead (.slot k) io) s k stOk fun m r => m = s.hw ∧ r.length = 16 + 16 * n.toNat ∧
      ReplyWords 0 ([faultA 0x608, faultA 0x60C, faultA 0x610, faultA 0x614] ++
        (List.range (4 * n.toNat)).map fun i => logA a.toNat + 4 * i) s.hw r := by
  have hlen : (s.hw.words ([0x608, 0x60C, 0x610, 0x614].map faultA ++ wordsFrom (logA a.toNat) (4 * n.toNat))).length =
      16 + 16 * n.toNat := by
    rw [words_length]; simp [wordsFrom]; omega
  have hok : (isLen 2 [a, n] && decide (1 ≤ arg [a, n] 1 1) && decide (arg [a, n] 1 1 ≤ 13) &&
      decide (arg [a, n] 0 1 + arg [a, n] 1 1 ≤ 32)) = true := by
    rw [arg_one, arg_second]; simp [isLen, h1, h2, h3]
  refine answers_of_runNow
    (fun c h => (stOk, h.words ([0x608, 0x60C, 0x610, 0x614].map faultA ++ wordsFrom (logA (arg c.args 0 1)) (4 * arg c.args 1 1)), h))
    r r.1.src_ok rfl rfl hok rfl rfl rfl (by decide) ?_ ⟨rfl, ?_, ?_⟩
  all_goals rw [arg_one, arg_second]
  · omega
  · exact hlen
  · exact replyWords_self _ _

end

/-- Settles O15: each command ends at once, on the state that it finds, with the reply that its definition spells. -/
theorem statusCommands : Obligations.StatusCommands := by
  unfold Obligations.StatusCommands
  refine ⟨fun s k io => ⟨identify_answers s k io, status_answers s k io, fun p hp => portStatus_answers s k io hp,
    imageStatus_answers s k io, fwStatus_answers s k io⟩, fun s k io => ⟨timeStatus_answers s k io, callStatus_answers s k io,
    acqStatus_answers s k io, eventRead_answers s k io, logRead_answers s k io⟩⟩

/-! ## Argument bytes that no table allows (R453, R455) -/

/-- Command `i` runs the command of a code from slot `k`, by a rule of its own. -/
def RunsCode (i : Instr) (k code : Nat) : Prop :=
  i.wellFormed = (CmdSrc.slot k).ok ∧ (specOf code).isSome = true ∧ ∀ h, ∃ io act, effect i h = h.runCmd (.slot k) code io act

theorem runCmd_badArgs {h : Hw} {k code : Nat} {args : List Byte} {sp : CmdSpec} {io : HostIo} (r : SlotBegins h k code args)
    (hs : specOf code = some sp) (ha : sp.args args = false) (act : Call0 → Hw → Res × Hw) :
    h.runCmd (.slot k) code io act = h.endCmd (.slot k) [] stBadArgument [] [] := by
  have hpk := pick_slot r
  obtain ⟨-, hm, -⟩ := r
  simp [Hw.runCmd, hpk, hs, hm, ha]

/-- Argument bytes that the table of a code does not allow end a command of it before its own rule. -/
theorem RunsCode.badArgs {i : Instr} {s : State} {k code : Nat} {args : List Byte} (c : RunsCode i k code)
    (r : SlotBegins s.hw k code args) (ha : ∀ sp, specOf code = some sp → sp.args args = false) :
    Answers i s k stBadArgument fun m r => m = s.hw ∧ r = [] := by
  obtain ⟨hw, hsp, he⟩ := c
  obtain ⟨sp, hs⟩ := Option.isSome_iff_exists.1 hsp
  obtain ⟨io, act, he⟩ := he s.hw
  exact answers_of_endCmd (hw.trans r.src_ok) (he.trans (runCmd_badArgs r hs (ha sp hs) act)) (by decide) (by decide) ⟨rfl, rfl⟩

/-- The commands of the tables but IMAGE_BLOCK, from slot `k`, with their codes. -/
def codedCommands (k : Nat) (io : HostIo) (f : FormFacts) : List (Instr × Nat) := [
      (Instr.identify (.slot k) io, 0x0101), (.status (.slot k) io, 0x0102), (.portStatus (.slot k) io, 0x0103),
      (.imageBegin (.slot k) io, 0x0201), (.imageCommit (.slot k) io, 0x0203), (.imageStatus (.slot k) io, 0x0204),
      (.configForm (.slot k) io f, 0x0301), (.configLeave (.slot k) io, 0x0302), (.runStart (.slot k) io, 0x0303),
      (.runHalt (.slot k) io, 0x0304), (.bar2Map (.slot k) io, 0x0401), (.memRead (.slot k) io, 0x0402),
      (.memWrite (.slot k) io, 0x0403), (.poolAlloc (.slot k) io, 0x0404), (.poolFree (.slot k) io, 0x0405),
      (.snapTake (.slot k) io, 0x0406), (.snapRestore (.slot k) io, 0x0407), (.readback (.slot k) io, 0x0408),
      (.linkRetrain (.slot k) io, 0x0501), (.linkEnable (.slot k) io, 0x0502), (.timeStatus (.slot k) io, 0x0601),
      (.timePhase (.slot k) io, 0x0602), (.timeSet (.slot k) io, 0x0603), (.acqArm (.slot k) io, 0x0701),
      (.acqStop (.slot k) io, 0x0702), (.acqStatus (.slot k) io, 0x0703), (.callCancel (.slot k) io, 0x0801),
      (.callStatus (.slot k) io, 0x0802), (.powerState (.slot k) io, 0x0901), (.levelReq (.slot k) io, 0x0902),
      (.padRelease (.slot k) io, 0x0903), (.eventRead (.slot k) io, 0x0A01), (.eventClear (.slot k) io, 0x0A02),
      (.logRead (.slot k) io, 0x0A03), (.logAck (.slot k) io, 0x0A04), (.fwBlock (.slot k) io, 0x0B01),
      (.fwVerify (.slot k) io, 0x0B02), (.fwActivate (.slot k) io, 0x0B03), (.fwStatus (.slot k) io, 0x0B04),
      (.accessChallenge (.slot k) io, 0x0B05), (.accessResponse (.slot k) io, 0x0B06), (.accessClose (.slot k) io, 0x0B07),
      (.regRead (.slot k) io, 0x0C01), (.regWrite (.slot k) io, 0x0C02)]

/-- Each of them runs the command of its code: its rule is what stands in its definition. -/
theorem runsCode_codedCommands (k : Nat) (io : HostIo) {f : FormFacts} (hf : f.ok = true) :
    ∀ x ∈ codedCommands k io f, RunsCode x.1 k x.2 := by
  intro x hm
  simp only [codedCommands, List.mem_cons] at hm
  rcases hm with
    rfl | rfl | rfl | rfl | rfl | rfl | rfl | rfl | rfl | rfl | rfl | rfl | rfl | rfl | rfl | rfl | rfl | rfl
    | rfl | rfl | rfl | rfl | rfl | rfl | rfl | rfl | rfl | rfl | rfl | rfl | rfl | rfl | rfl | rfl | rfl |
    rfl | rfl | rfl | rfl | rfl | rfl | rfl | rfl | rfl | hm
  case inr => cases hm
  all_goals
    refine ⟨by simp only [Instr.wellFormed, hf, Bool.and_true], rfl, fun h => ?_⟩
    dsimp only [effect, execIdentify, execStatus, execPortStatus, execImageBegin, execImageCommit, execImageStatus, execConfigForm,
    execConfigLeave, execRunStart, execRunHalt, execBar2Map, execMemRead, execMemWrite, execPoolAlloc, execPoolFree,
    execSnapTake, execSnapRestore, execReadback, execLinkRetrain, execLinkEnable, execTimeStatus, execTimePhase,
    execTimeSet, execAcqArm, execAcqStop, execAcqStatus, execCallCancel, execCallStatus, execPowerState, execLevelReq,
    execPadRelease, execEventRead, execEventClear, execLogRead, execLogAck, execFwBlock, execFwVerify, execFwActivate,
    execFwStatus, execAccessChallenge, execAccessResponse, execAccessClose, execRegRead, execRegWrite, Hw.runNow]
    exact ⟨_, _, rfl⟩

/-- Settles O17: the argument tests of a code come before the rule of its command. -/
theorem badArguments : Obligations.BadArguments := by
  unfold Obligations.BadArguments
  intro s k io f args i code hf hm r ha
  exact (runsCode_codedCommands k io hf _ hm).badArgs r ha

end Sys2Proof.Machine
end

section
-- As the tests above: declarations in order, so that checking the one text stays within its memory.
set_option Elab.async false
/-!
PROOFS. The commands over registers, network time, calls and the log (O16).
-/

namespace Sys2Proof.Machine

/-! ## Events, apertures and register access -/

section
variable (s : State) (k : Nat) (io : HostIo)

theorem arg_pair (a b : Byte) (as : List Byte) : arg (a :: b :: as) 0 2 = a.toNat + 256 * b.toNat := by
  simp [arg, ofBytes]

theorem eventClear_answers (g m0 m1 : BitVec 8) (hg : g.toNat < 72) (r : SlotRuns s.hw k 0x0A02 [g, 0, m0, m1]) :
    Answers (.eventClear (.slot k) io) s k stOk fun m r => r = [] ∧ OnlyRegs [grpStatA g.toNat] s.hw m ∧
         ∀ n, n < 32 → (bit (m.reg (grpStatA g.toNat)) n = true ↔ bit (s.hw.reg (grpStatA g.toNat)) n = true ∧
           ¬ ((m0.toNat + 256 * m1.toNat).testBit n = true ∧ ¬ SetNow s.hw (grpStatA g.toNat) n)) := by
  have hok : (isLen 4 [g, 0, m0, m1] && decide (arg [g, 0, m0, m1] 0 1 < 72) && arg [g, 0, m0, m1] 1 1 == 0) = true := by
    rw [arg_one]; simp [isLen, hg, arg, ofBytes]
  have hmask : arg [g, 0, m0, m1] 2 2 = m0.toNat + 256 * m1.toNat := arg_pair m0 m1 []
  refine answers_of_runNow (fun c h => (stOk, [], h.plainWrite (grpStatA (arg c.args 0 1)) (BitVec.ofNat 32 (arg c.args 2 2))))
    r r.1.src_ok rfl rfl hok rfl rfl rfl (by decide) (by decide) ?_
  rw [arg_one, hmask, plainWrite_of_codes (accessCodes_grpStat _ hg)]
  refine ⟨rfl, onlyRegs_setReg _ _ _, fun n hn => ?_⟩
  rw [reg_setReg, if_pos rfl, bit_written_grpStat _ _ _ hn]
  have hlt : m0.toNat + 256 * m1.toNat < 2 ^ 16 := by
    have := m0.isLt; have := m1.isLt; omega
  have hbit : n < 16 ∧ bit (BitVec.ofNat 32 (m0.toNat + 256 * m1.toNat)) n = true ↔ (m0.toNat + 256 * m1.toNat).testBit n = true := by
    rw [bit, BitVec.getLsbD_ofNat, decide_eq_true hn, Bool.true_and]
    refine and_iff_right_of_imp fun ht => ?_
    by_contra hge
    rw [Nat.testBit_lt_two_pow (hlt.trans_le (Nat.pow_le_pow_right (by decide) (by omega)))] at ht
    cases ht
  rw [← and_assoc, hbit]

theorem bar2Map_answers (a tgt die off : BitVec 8) (ha : a.toNat < 4) (ht : tgt.toNat < 4) (hd : die.toNat ≤ 1)
    (ho : off.toNat ≤ 191) (r : SlotRuns s.hw k 0x0401 [a, tgt, die, off]) :
    Answers (.bar2Map (.slot k) io) s k stOk fun m r => r = [] ∧
         OnlyRegs [hostifA (0x40 + 8 * a.toNat)] s.hw m ∧ m.fget (hostifA (0x40 + 8 * a.toNat)) 1 0 = tgt.toNat ∧
         m.fget (hostifA (0x40 + 8 * a.toNat)) 2 2 = die.toNat ∧ m.fget (hostifA (0x40 + 8 * a.toNat)) 15 8 = off.toNat := by
  have h0 : arg [a, tgt, die, off] 0 1 = a.toNat := arg_one _ _
  have h1 : arg [a, tgt, die, off] 1 1 = tgt.toNat := arg_one _ _
  have h2 : arg [a, tgt, die, off] 2 1 = die.toNat := arg_one _ _
  have h3 : arg [a, tgt, die, off] 3 1 = off.toNat := arg_one _ _
  have hok : (isLen 4 [a, tgt, die, off] && decide (arg [a, tgt, die, off] 0 1 < 4) && decide (arg [a, tgt, die, off] 1 1 < 4) &&
      decide (arg [a, tgt, die, off] 2 1 ≤ 1) && decide (arg [a, tgt, die, off] 3 1 ≤ 191)) = true := by
    rw [h0, h1, h2, h3]; simp [isLen, ha, ht, hd, ho]
  refine answers_of_runNow (fun c h => (stOk, [], h.setReg (hostifA (0x40 + 8 * arg c.args 0 1))
      (BitVec.ofNat 32 (arg c.args 1 1 + 4 * arg c.args 2 1 + 256 * arg c.args 3 1))))
    r r.1.src_ok rfl rfl hok rfl rfl rfl (by decide) (by decide) ?_
  rw [h0, h1, h2, h3]
  refine ⟨rfl, onlyRegs_setReg _ _ _, ?_, ?_, ?_⟩
  all_goals
    rw [fget_setReg, if_pos rfl, fld, BitVec.extractLsb'_toNat, BitVec.toNat_ofNat, Nat.shiftRight_eq_div_pow]
    omega

/-- A mask word of the event groups is a word of its own: a read of it captures nothing (R5). -/
theorem readWord_grpMask (h : Hw) {g : Nat} (hg : g < 72) :
    h.readWord (faultA (0x200 + 4 * g)) = (h.view (faultA (0x200 + 4 * g)), h) := by
  have hw : wordIndex (faultA (0x200 + 4 * g)) = 0 ∧ higherWords (faultA (0x200 + 4 * g)) = [] :=
    (by decide +kernel : ∀ g, g < 72 → wordIndex (faultA (0x200 + 4 * g)) = 0 ∧ higherWords (faultA (0x200 + 4 * g)) = []) g hg
  rw [Hw.readWord, if_neg (by unfold faultA; omega), if_pos hw.1, hw.2]
  rfl

theorem regRange_grpMask {args : List Byte} {g : Nat} (hg : g < 72) (h0 : arg args 0 4 = faultA (0x200 + 4 * g))
    (h4 : arg args 4 1 = 1) (h5 : arg args 5 3 = 0) : regRange args = true := by
  have hb := blockAt_fault (o := 0x200 + 4 * g) (by omega)
  unfold regRange
  rw [h0, h4, h5]
  have ha : faultA (0x200 + 4 * g) = 0x60200 + 4 * g := by unfold faultA; omega
  simp only [hb]
  simp only [ha, Bool.and_eq_true, beq_iff_eq, decide_eq_true_eq, true_and]
  omega

theorem arrayShut_fault (h : Hw) {o : Nat} (ho : o < 0x10000) : h.arrayShut (faultA o) = false := by
  rw [Hw.arrayShut, decide_eq_false (by unfold faultA; omega), Bool.false_and]

theorem serviceShut_fault (h : Hw) {o : Nat} (ho : o < 0x10000) : h.serviceShut (faultA o) = false := by
  rw [Hw.serviceShut, blockAt_fault ho]
  rfl

theorem regRead_answers (args : List Byte) (h8 : args.length = 8) (h4 : arg args 4 1 = 1) (h5 : arg args 5 3 = 0)
    (hm : ∃ g, g < 72 ∧ arg args 0 4 = faultA (0x200 + 4 * g)) (r : SlotRuns s.hw k 0x0C01 args) :
    Answers (.regRead (.slot k) io) s k stOk fun m r => m = s.hw ∧ r.length = 4 ∧
      arg r 0 4 = (s.hw.view (arg args 0 4)).toNat := by
  obtain ⟨g, hg, h0⟩ := hm
  have hok : (isLen 8 args && regRange args) = true := by
    rw [regRange_grpMask hg h0 h4 h5, isLen, h8]; rfl
  have hf : s.hw.regRead args = (stOk, bytesOf 4 (s.hw.view (faultA (0x200 + 4 * g))).toNat ++ [], s.hw) := by
    have hwords : wordsFrom (faultA (0x200 + 4 * g)) 1 = [faultA (0x200 + 4 * g)] := rfl
    unfold Hw.regRead
    simp only [h0, h4, arrayShut_fault s.hw (show 0x200 + 4 * g < 0x10000 by omega),
      serviceShut_fault s.hw (show 0x200 + 4 * g < 0x10000 by omega), hwords, Hw.readWords, readWord_grpMask s.hw hg]
    rfl
  refine answers_of_runNow (fun c h => h.regRead c.args) r r.1.src_ok rfl rfl hok rfl rfl hf (by decide) ?_ ?_
  · simp [bytesOf_length]
  · refine ⟨rfl, by simp [bytesOf_length], ?_⟩
    rw [h0]
    exact arg_bytesOf _ _ _ (s.hw.view _).isLt

theorem regWrite_answers (args : List Byte) (h12 : args.length = 12) (h4 : arg args 4 1 = 1) (h5 : arg args 5 3 = 0)
    (hm : ∃ g, g < 72 ∧ arg args 0 4 = faultA (0x200 + 4 * g)) (r : SlotRuns s.hw k 0x0C02 args) :
    Answers (.regWrite (.slot k) io) s k stOk fun m r => r = [1] ∧
         OnlyRegs [arg args 0 4] s.hw m ∧ m.fget (arg args 0 4) 15 0 = arg args 8 4 % 65536 := by
  obtain ⟨g, hg, h0⟩ := hm
  have hok : (args.length == 8 + 4 * arg args 4 1 && regRange args) = true := by
    rw [regRange_grpMask hg h0 h4 h5, h12, h4]; rfl
  have hf : s.hw.regWrite args = (stOk, bytesOf 1 1, s.hw.setReg (faultA (0x200 + 4 * g))
      (s.hw.written (faultA (0x200 + 4 * g)) 0xFFFF 0 (BitVec.ofNat 32 (arg args 8 4)))) := by
    have hwords : regWords args = [(faultA (0x200 + 4 * g), (BitVec.ofNat 32 (arg args 8 4) : Word32))] := by
      unfold regWords
      rw [h4, h0]
      rfl
    unfold Hw.regWrite
    rw [hwords, Hw.writeWords, writeWord_fault _ (by omega), plainWrite_of_codes (accessCodes_grpMask g hg)]
    rfl
  refine answers_of_runNow (fun c h => h.regWrite c.args) r r.1.src_ok rfl rfl hok rfl rfl hf (by decide) (by decide) ?_
  rw [h0]
  refine ⟨rfl, onlyRegs_setReg _ _ _, ?_⟩
  rw [fget_setReg, if_pos rfl]
  refine Nat.eq_of_testBit_eq fun n => ?_
  have hmask : bit (0xFFFF : Word32) n = decide (n < 16) := by
    by_cases hn : n < 32
    · interval_cases n <;> rfl
    · rw [bit, BitVec.getLsbD_of_ge _ _ (by omega), decide_eq_false (by omega)]
  rw [fld_testBit, show (65536 : Nat) = 2 ^ 16 from rfl, Nat.testBit_mod_two_pow]
  by_cases hn : n < 16
  · rw [decide_eq_true hn, Bool.true_and, Bool.true_and, Nat.zero_add, written_rw, bit_or, bit_and, bit_and,
      bit_not _ (by omega), hmask, decide_eq_true hn]
    simp [bit, BitVec.getLsbD_ofNat]
    omega
  · rw [decide_eq_false hn, Bool.false_and, Bool.false_and]

/-! ## Network time and the log -/

theorem timePhase_enters {v : BitVec 8} (hv : v = 2 ∨ v = 3) (r : SlotRuns s.hw k 0x0602 [v]) :
    Answers (.timePhase (.slot k) io) s k stOk fun m r => r = [v] ∧ m.tPhase = v.toNat ∧ m.time.first = true ∧
      (∀ a, a ≠ timeA 0x10 → m.reg a = s.hw.reg a) ∧ m = { s.hw with regs := m.regs, time := { s.hw.time with first := true } } := by
  have hok : (isLen 1 [v] && decide (1 ≤ arg [v] 0 1) && decide (arg [v] 0 1 ≤ 3)) = true := by
    rcases hv with rfl | rfl <;> rfl
  have hlt : v.toNat < 4 ∧ v.toNat ≠ 1 := by rcases hv with rfl | rfl <;> decide
  have hph : (s.hw.enterPhase v.toNat).tPhase = v.toNat :=
    (fget_fset_same s.hw (timeA 0x10) 3 2 v.toNat (by decide)).trans (Nat.mod_eq_of_lt hlt.1)
  refine answers_of_runNow (reply := bytesOf 1 v.toNat) (mid := s.hw.enterPhase v.toNat)
    (fun c h => if arg c.args 0 1 = 1 && h.tPhase != 2 then (stRefused, [], h)
      else (stOk, bytesOf 1 (h.enterPhase (if arg c.args 0 1 = 1 then 1 else arg c.args 0 1)).tPhase,
        h.enterPhase (if arg c.args 0 1 = 1 then 1 else arg c.args 0 1)))
    r r.1.src_ok rfl rfl hok rfl rfl ?_ (by decide) (by simp [bytesOf_length]) ?_
  · simp only [arg_one, if_neg hlt.2, decide_eq_false hlt.2, Bool.false_and, hph, Bool.false_eq_true, if_false]
  · refine ⟨by simp [bytesOf], hph, rfl, fun a ha => ?_, rfl⟩
    exact (reg_fset s.hw (timeA 0x10) 3 2 v.toNat a).trans (if_neg ha)

theorem timePhase_refused (h2 : s.hw.tPhase ≠ 2) (r : SlotRuns s.hw k 0x0602 [1]) :
    Answers (.timePhase (.slot k) io) s k stRefused fun m r => m = s.hw ∧ r = [] := by
  refine answers_of_runNow (reply := []) (mid := s.hw)
    (fun c h => if arg c.args 0 1 = 1 && h.tPhase != 2 then (stRefused, [], h)
      else (stOk, bytesOf 1 (h.enterPhase (if arg c.args 0 1 = 1 then 1 else arg c.args 0 1)).tPhase,
        h.enterPhase (if arg c.args 0 1 = 1 then 1 else arg c.args 0 1)))
    r r.1.src_ok rfl rfl rfl rfl rfl ?_ (by decide) (by decide) ⟨rfl, rfl⟩
  simp [arg_one, h2]

/-- Without generators a step of network time passes over no instant. -/
theorem stepTime_noGenerators {h : Hw} (hte : h.time.te = []) (new : Nat) : h.stepTime new =
    { h with time := { h.time with now := new, ppsSec := new / unitsPerSec, servo := { h.time.servo with left := 0 } } } := by
  have hnone : ∀ (g : Hw) (ks : List Nat), g.time.te = [] → ks.foldl Hw.teLate g = g := by
    intro g ks hg
    have hlate : ∀ k, g.teLate k = g := fun k => by
      rw [Hw.teLate, Hw.teDue, show (g.te k).armed = false by rw [Hw.te, hg]; rfl]
      rfl
    induction ks with
    | nil => rfl
    | cons k ks ih => rw [List.foldl_cons, hlate, ih]
  exact hnone _ _ hte

theorem timeSet_answers (args : List Byte) (h8 : args.length = 8) (hp : s.hw.tPhase = 0 ∨ s.hw.tPhase = 2)
    (hon : s.hw.bget (timeA 0x14) 0 = true) (hte : s.hw.time.te = []) (r : SlotRuns s.hw k 0x0603 args) :
    Answers (.timeSet (.slot k) io) s k stOk fun m r => r = [] ∧
         m.time.now / unitsPerSec = arg args 0 8 ∧ m.time.now % unitsPerSec = s.hw.time.now % unitsPerSec ∧
         m.seq = s.hw.seq ∧ m.regs = s.hw.regs := by
  have hok : isLen 8 args = true := by rw [isLen, h8]; rfl
  refine answers_of_runNow (reply := []) (mid := s.hw.stepTime (arg args 0 8 * unitsPerSec + s.hw.time.now % unitsPerSec))
    (fun c h => if !(h.tPhase = 0 || h.tPhase = 2) || !h.bget (timeA 0x14) 0 then (stRefused, [], h)
      else (stOk, [], h.stepTime (arg c.args 0 8 * unitsPerSec + h.time.now % unitsPerSec)))
    r r.1.src_ok rfl rfl hok rfl rfl ?_ (by decide) (by decide) ?_
  · have : (!(decide (s.hw.tPhase = 0) || decide (s.hw.tPhase = 2)) || !s.hw.bget (timeA 0x14) 0) = false := by
      rw [hon]; rcases hp with hp | hp <;> simp [hp]
    simp only [this, Bool.false_eq_true, if_false]
  · rw [stepTime_noGenerators hte]
    have hpos : 0 < unitsPerSec := by decide
    have hlt := Nat.mod_lt s.hw.time.now hpos
    refine ⟨rfl, ?_, ?_, rfl, rfl⟩
    · change (arg args 0 8 * unitsPerSec + s.hw.time.now % unitsPerSec) / unitsPerSec = _
      rw [Nat.mul_comm, Nat.mul_add_div hpos, Nat.div_eq_of_lt hlt, Nat.add_zero]
    · change (arg args 0 8 * unitsPerSec + s.hw.time.now % unitsPerSec) % unitsPerSec = _
      rw [Nat.mul_comm, Nat.mul_add_mod, Nat.mod_mod]

/-- What acknowledging entries has left: the log words alone have changed, and these entries are handled no more. -/
def Acknowledged (ks : List Nat) (h g : Hw) : Prop :=
  OnlyRegs ((List.range 32).map logA) h g ∧ ∀ e, e < 32 → g.handled e = (h.handled e && !ks.contains e)

theorem isMember_onlyRegs {as : List Nat} {h g : Hw} (e : OnlyRegs as h g) : g.isMember = h.isMember := by
  rw [e.1]; rfl

theorem execLogValidWrite_acks {h : Hw} {k : Nat} (hk : k < 32) (hm : h.isMember = false) (hn : ¬ SetNow h (logA k) 15) :
    Acknowledged [k] h (execLogValidWrite h k 0x8000) := by
  rw [execLogValidWrite_eq]
  by_cases hh : h.handled k = true
  · have hrep : (h.setReg (logA k) (setBit (h.reg (logA k)) 15 false)).reportHandled =
        h.setReg (logA k) (setBit (h.reg (logA k)) 15 false) := by
      rw [Hw.reportHandled, isMember_setReg, hm, Bool.false_and]
      exact if_neg Bool.false_ne_true
    rw [if_pos ⟨hk, by decide, hh, hn⟩, hrep]
    refine ⟨(onlyRegs_setReg _ _ _).mono fun a ha => ?_, fun e he => ?_⟩
    · rw [List.mem_singleton.1 ha]; exact mem_offsets hk
    · rw [Hw.handled, bget_setReg, bit_setBit _ _ _ _ (by omega), if_pos rfl]
      by_cases hek : e = k
      · rw [hek]; simp
      · rw [if_neg (by unfold logA faultA; omega)]
        simp [Hw.handled, hek]
  · rw [if_neg fun c => hh c.2.2.1]
    refine ⟨(OnlyRegs.refl h).mono (by simp), fun e he => ?_⟩
    by_cases hek : e = k
    · rw [hek, Bool.eq_false_iff.2 hh]; rfl
    · simp [hek]

theorem foldl_execLogValidWrite_acks (ks : List Nat) (hks : ∀ k ∈ ks, k < 32) (h : Hw) (hm : h.isMember = false)
    (hn : ∀ e, e < 32 → ¬ SetNow h (logA e) 15) :
    Acknowledged ks h (ks.foldl (fun h k => execLogValidWrite h k 0x8000) h) := by
  induction ks generalizing h with
  | nil => exact ⟨(OnlyRegs.refl h).mono (by simp), fun e _ => by simp⟩
  | cons k ks ih =>
    have hk := hks k (by simp)
    obtain ⟨honly, hhand⟩ := execLogValidWrite_acks hk hm (hn k hk)
    have hn' : ∀ e, e < 32 → ¬ SetNow (execLogValidWrite h k 0x8000) (logA e) 15 := by
      unfold SetNow
      rw [honly.1]
      exact hn
    obtain ⟨honly', hhand'⟩ := ih (fun j hj => hks j (by simp [hj])) _ ((isMember_onlyRegs honly).trans hm) hn'
    refine ⟨(honly.trans honly').mono fun a ha => by simpa using ha, fun e he => ?_⟩
    rw [List.foldl_cons, hhand' e he, hhand e he, List.contains_cons, List.contains_cons, List.contains_nil, Bool.or_false,
      Bool.not_or, Bool.and_assoc]

theorem logAck_answers (args : List Byte) (h4 : args.length = 4) (hn : ∀ e, e < 32 → ¬ SetNow s.hw (logA e) 15)
    (r : SlotRuns s.hw k 0x0A04 args) :
    Answers (.logAck (.slot k) io) s k stOk fun m r => r = [BitVec.ofNat 8 m.handledList.length] ∧
         (∀ e, e < 32 → m.handled e = (s.hw.handled e && !(arg args 0 4).testBit e)) ∧
         OnlyRegs ((List.range 32).map logA) s.hw m := by
  have hok : isLen 4 args = true := by rw [isLen, h4]; rfl
  obtain ⟨honly, hhand⟩ := foldl_execLogValidWrite_acks ((List.range 32).filter (arg args 0 4).testBit)
    (fun j hj => List.mem_range.1 (List.mem_filter.1 hj).1) s.hw r.1.2.2.2.1 hn
  refine answers_of_runNow (fun c h =>
      (stOk, bytesOf 1 (((List.range 32).filter (arg c.args 0 4).testBit).foldl (fun h k => execLogValidWrite h k 0x8000) h).handledList.length,
        ((List.range 32).filter (arg c.args 0 4).testBit).foldl (fun h k => execLogValidWrite h k 0x8000) h))
    r r.1.src_ok rfl rfl hok rfl rfl rfl (by decide) (by simp [bytesOf_length]) ?_
  refine ⟨by simp [bytesOf], fun e he => ?_, honly⟩
  rw [hhand e he]
  congr 2
  rw [Bool.eq_iff_iff, List.contains_iff_mem, List.mem_filter, List.mem_range]
  exact and_iff_right he

/-! ## Latched pins (R398) -/

/-- An edge on each pin whose level changes from that in `h` to that in `r`. -/
def changedEdges (h r : Hw) (r' : Hw) (n : Nat) : Hw :=
  if h.pinLevel n = r.pinLevel n then r' else r'.pinEdge n (r.pinValue n) r.time.now

/-- Edges are sent after what has been sent, and change nothing else. -/
theorem foldl_changedEdges (h r : Hw) (ns : List Nat) (o : List Out) :
    ∃ es, ns.foldl (changedEdges h r) { r with out := o } = { r with out := o ++ es } ∧
      ∀ n ∈ ns, r.pinDrives n = true → h.pinLevel n ≠ r.pinLevel n → ∃ t, Out.edge n (r.pinValue n) t ∈ es := by
  induction ns generalizing o with
  | nil => exact ⟨[], by rw [List.append_nil]; rfl, by simp⟩
  | cons n ns ih =>
    rw [List.foldl_cons]
    obtain ⟨e, he, hmem⟩ : ∃ e, changedEdges h r { r with out := o } n = { r with out := o ++ e } ∧
        (r.pinDrives n = true → h.pinLevel n ≠ r.pinLevel n → ∃ t, Out.edge n (r.pinValue n) t ∈ e) := by
      unfold changedEdges
      split
      · next heq => exact ⟨[], by rw [List.append_nil], fun _ hne => absurd heq hne⟩
      · rw [Hw.pinEdge]
        split
        · exact ⟨[_], rfl, fun _ _ => ⟨_, List.mem_singleton.2 rfl⟩⟩
        · next hd => exact ⟨[], by rw [List.append_nil], fun hd' => absurd hd' hd⟩
    rw [he]
    obtain ⟨es, hes, hall⟩ := ih (o ++ e)
    refine ⟨e ++ es, by rw [hes, List.append_assoc], fun m hm hd hne => ?_⟩
    rcases List.mem_cons.1 hm with rfl | hm
    · obtain ⟨t, ht⟩ := hmem hd hne
      exact ⟨t, List.mem_append_left _ ht⟩
    · obtain ⟨t, ht⟩ := hall m hm hd hne
      exact ⟨t, List.mem_append_right _ ht⟩

/-- The latch register after the banks of a mask are released. -/
def released (h : Hw) (mask : Nat) : Hw :=
  h.fset (powerA 0x28) 15 0 (h.fget (powerA 0x28) 15 0 &&& (0xFFFF - mask % 0x10000))

theorem bget_released (h : Hw) (mask : Nat) {b : Nat} (hb : b < 16) :
    (released h mask).bget (powerA 0x28) b = (h.bget (powerA 0x28) b && !mask.testBit b) := by
  rw [released, bget_fset _ _ _ _ _ _ _ (by omega), if_pos ⟨rfl, by omega, by omega⟩, Nat.sub_zero, Nat.testBit_and, Hw.fget, fld_testBit,
    decide_eq_true (by omega), Bool.true_and, Nat.zero_add,
    show 0xFFFF - mask % 0x10000 = 2 ^ 16 - (mask % 2 ^ 16 + 1) by omega,
    Nat.testBit_two_pow_sub_succ (Nat.mod_lt _ (by decide)), decide_eq_true hb, Bool.true_and, Nat.testBit_mod_two_pow,
    decide_eq_true hb, Bool.true_and]
  rfl

theorem releasePads_eq (h : Hw) (mask : Nat) : ∃ es, h.releasePads mask = { released h mask with out := h.out ++ es } ∧
    ∀ n, n < 512 → (released h mask).pinDrives n = true → h.pinLevel n ≠ (released h mask).pinLevel n →
      ∃ t, Out.edge n ((released h mask).pinValue n) t ∈ es := by
  obtain ⟨es, hes, hall⟩ := foldl_changedEdges h (released h mask) (List.range 512) h.out
  exact ⟨es, hes, fun n hn => hall n (List.mem_range.2 hn)⟩

/-- What has been sent says nothing of a pin. -/
theorem pin_withOut (h : Hw) (o : List Out) (n : Nat) : ({ h with out := o } : Hw).pinDrives n = h.pinDrives n ∧
    ({ h with out := o } : Hw).pinLevel n = h.pinLevel n ∧ ({ h with out := o } : Hw).pinValue n = h.pinValue n := ⟨rfl, rfl, rfl⟩

/-- PAD_RELEASE without ALL. -/
theorem padRelease_effect (h : Hw) {k : Nat} {args : List Byte} (io : HostIo) (r : SlotRuns h k 0x0903 args)
    (hok : (isLen 4 args && decide (arg args 2 1 ≤ 1) && arg args 3 1 == 0) = true) (hall : arg args 2 1 = 0) :
    effect (.padRelease (.slot k) io) h = (h.releasePads (arg args 0 2)).endCmd (.slot k) [] stOk
      (bytesOf 2 (h.fget (powerA 0x28) 15 0 &&& arg args 0 2)) [] := by
  change execPadRelease h (.slot k) io = _
  unfold execPadRelease
  rw [runCmd_slot r rfl hok rfl rfl]
  simp [hall, finishRes, Hw.sendShares]

theorem padRelease_answers (m0 m1 : BitVec 8) (r : SlotRuns s.hw k 0x0903 [m0, m1, 0, 0]) :
    Answers (.padRelease (.slot k) io) s k stOk fun m r => OnlyRegs [powerA 0x28] { s.hw with out := m.out } m ∧
         s.hw.out <+: m.out ∧
         (∀ n, n < 512 → m.pinDrives n = true → s.hw.pinLevel n ≠ m.pinLevel n → ∃ t, Out.edge n (m.pinValue n) t ∈ m.out) ∧
         ∀ b, b < 16 → (m.bget (powerA 0x28) b =
             (s.hw.bget (powerA 0x28) b && !(m0.toNat + 256 * m1.toNat).testBit b)) ∧
           (arg r 0 2).testBit b = (s.hw.bget (powerA 0x28) b && (m0.toNat + 256 * m1.toNat).testBit b) := by
  have hmask : arg [m0, m1, 0, 0] 0 2 = m0.toNat + 256 * m1.toNat := arg_pair m0 m1 _
  have he := padRelease_effect s.hw io r (by simp [isLen, arg, ofBytes]) (by simp [arg, ofBytes])
  obtain ⟨es, hg, hall⟩ := releasePads_eq s.hw (arg [m0, m1, 0, 0] 0 2)
  rw [hg] at he
  refine answers_of_endCmd r.1.src_ok he (by decide) (by simp [bytesOf_length]) ?_
  rw [hmask] at hall ⊢
  generalize m0.toNat + 256 * m1.toNat = mask at hall
  refine ⟨⟨rfl, fun a ha => ?_⟩, ⟨es, rfl⟩, fun n hn => ?_, fun b hb => ⟨bget_released s.hw mask hb, ?_⟩⟩
  · exact (onlyRegs_fset s.hw _ _ _ _).2 a ha
  · obtain ⟨hd, hl, hv⟩ := pin_withOut (released s.hw mask) (s.hw.out ++ es) n
    rw [hd, hl, hv]
    intro hdr hne
    obtain ⟨t, ht⟩ := hall n hn hdr hne
    exact ⟨t, List.mem_append_right _ ht⟩
  · rw [← List.append_nil (bytesOf 2 _), arg_field, show (256 : Nat) ^ 2 = 2 ^ 16 from rfl, Nat.testBit_mod_two_pow, decide_eq_true hb,
      Bool.true_and, Nat.testBit_and, Hw.fget, fld_testBit, decide_eq_true (by omega), Bool.true_and, Nat.zero_add]
    rfl

end

/-! ## Cancelled calls (R333) -/

/-- No released call waits with its dependence counter at 0. -/
def NoneReady (h : Hw) : Prop := ∀ x ∈ h.callList, x.2.state = .waiting → x.2.deps ≠ []

theorem settle_of_noneReady {h : Hw} (hn : NoneReady h) (n : Nat) : h.settle n = h := by
  cases n with
  | zero => rfl
  | succ n =>
    have hnil : (h.callList.filter fun sc => sc.2.state == .waiting && sc.2.deps.isEmpty) = [] := by
      refine List.filter_eq_nil_iff.2 fun x hx => ?_
      rw [Bool.and_eq_true, beq_iff_eq, List.isEmpty_iff]
      exact fun ⟨hs, hd⟩ => hn x hx hs hd
    rw [Hw.settle, hnil]
    rfl

theorem mem_callList {h : Hw} {x : Nat × Call} : x ∈ h.callList ↔ (x.1, some x.2) ∈ h.calls.slots := by
  unfold Hw.callList
  rw [List.mem_filterMap]
  constructor
  · rintro ⟨⟨a, o⟩, hmem, he⟩
    cases o with
    | none => cases he
    | some c => cases he; exact hmem
  · exact fun hx => ⟨(x.1, some x.2), hx, rfl⟩

/-- A freed slot takes its call from the list. -/
theorem callList_putCall_none {h : Hw} {j : Nat} {x : Nat × Call} (hx : x ∈ (h.putCall j none).callList) : x ∈ h.callList := by
  rw [mem_callList] at hx ⊢
  exact Store.mem_erase hx

/-- A call that is nobody's predecessor is dropped by none. -/
theorem dropDeps_of_free {h : Hw} {j : Nat} (hf : ∀ x ∈ h.callList, j ∉ x.2.deps) (a b : Bool) : h.dropDeps j a b = h := by
  have hmap : (h.calls.slots.map fun kv => (kv.1, kv.2.map (dropDep j a b))) = h.calls.slots := by
    refine (List.map_congr_left fun kv hkv => ?_).trans (List.map_id _)
    obtain ⟨i, o⟩ := kv
    cases o with
    | none => rfl
    | some c =>
      have : dropDep j a b c = c := by
        rw [dropDep, if_neg]
        rw [List.contains_iff_mem]
        exact hf (i, c) (mem_callList.2 hkv)
      rw [Option.map_some, this]
      rfl
  rw [Hw.dropDeps, hmap]

theorem offer_only (h : Hw) (n : Nat) (p : BitVec 128) : h.offer n p = { h with trace := (h.offer n p).trace } := by
  unfold Hw.offer
  split <;> rfl

theorem callEvent_only (h : Hw) (e st n : Nat) (c : Call) :
    h.callEvent e st n c = { h with trace := (h.callEvent e st n c).trace } := offer_only _ _ _

/-- The ready list of a worker without a call that was ready for it. -/
def Hw.unready (h : Hw) (j : Nat) (c : Call) : Hw :=
  match c.state with
  | .ready w => h.setReady w ((h.readyList w).erase j)
  | _ => h

theorem unready_only (h : Hw) (j : Nat) (c : Call) :
    h.unready j c = { h with calls := { h.calls with ready := (h.unready j c).calls.ready } } := by
  unfold Hw.unready
  split <;> rfl

theorem readyList_unready (h : Hw) (j : Nat) (c : Call) (w : Nat) :
    (h.unready j c).readyList w = if c.state = .ready w then (h.readyList w).erase j else h.readyList w := by
  unfold Hw.unready
  split
  · next v hv =>
    rw [hv]
    by_cases he : w = v
    · subst he
      rw [if_pos rfl]
      exact Store.get_set_same _ _ _ _
    · rw [if_neg (fun e => he (by injection e with e; exact e.symm))]
      exact Store.get_set_ne _ _ _ _ he
  · next hne => rw [if_neg (hne w)]

/-- A call of slot j that nobody depends on has been cancelled: it is gone, from its worker's ready list too, and counted. -/
def CallGone (j : Nat) (c : Call) (h m : Hw) : Prop :=
  m.call j = none ∧ (∀ i, i ≠ j → m.call i = h.call i) ∧
    (∀ w, m.readyList w = if c.state = .ready w then (h.readyList w).erase j else h.readyList w) ∧
    m.reg (callsA 0xC) = 1 ∧ m.fget (callsA 0x28) 31 0 = min (2 ^ 32 - 1) (h.fget (callsA 0x28) 31 0 + 1) ∧
    OnlyRegs [callsA 0xC, callsA 0x28] h { m with calls := h.calls, trace := h.trace }

/-- The cancellation of a call that does not run on the MP, before calls that depend on it are looked at. -/
theorem cancelCall_active {h : Hw} {j g : Nat} {c : Call} (hc : h.call j = some c) (ha : c.active = true) (hr : c.state ≠ .running 32)
    (hg : c.gen = g) : h.cancelCall j g =
      ((((((h.unready j c).count (callsA 0x28)).callEvent 4 2 j c).putCall j none).dropDeps j false true).setReg (callsA 0xC) 1).settleCalls := by
  have hrun : h.cancelRunning j c = h := by
    simp [Hw.cancelRunning, hr]
  unfold Hw.cancelCall
  simp only [hc, ha, hg, hrun]
  simp only [Bool.not_true, bne_self_eq_false, Bool.or_false, Bool.false_eq_true, if_false]
  rfl

theorem cancelCall_gone {h : Hw} {j g : Nat} {c : Call} (hc : h.call j = some c) (ha : c.active = true) (hr : c.state ≠ .running 32)
    (hg : c.gen = g) (hn : NoneReady h) (hf : ∀ x ∈ h.callList, j ∉ x.2.deps) : CallGone j c h (h.cancelCall j g) := by
  have hslots : (((h.unready j c).count (callsA 0x28)).callEvent 4 2 j c).calls = (h.unready j c).calls := by
    rw [callEvent_only]; rfl
  have hregs : (((h.unready j c).count (callsA 0x28)).callEvent 4 2 j c).regs = (h.count (callsA 0x28)).regs := by
    rw [callEvent_only, unready_only]; rfl
  have hcalls : (h.unready j c).calls.slots = h.calls.slots := by rw [unready_only]
  have honly : (((h.unready j c).count (callsA 0x28)).callEvent 4 2 j c) =
      { h.count (callsA 0x28) with
        calls := (((h.unready j c).count (callsA 0x28)).callEvent 4 2 j c).calls
        trace := (((h.unready j c).count (callsA 0x28)).callEvent 4 2 j c).trace } := by
    rw [callEvent_only, unready_only]; rfl
  rw [cancelCall_active hc ha hr hg]
  generalize ((h.unready j c).count (callsA 0x28)).callEvent 4 2 j c = u at hslots hregs honly
  have hlist : ∀ x ∈ (u.putCall j none).callList, x ∈ h.callList := fun x hx => by
    have := callList_putCall_none hx
    rw [mem_callList, hslots, hcalls] at this
    exact mem_callList.2 this
  rw [dropDeps_of_free fun x hx => hf x (hlist x hx), Hw.settleCalls,
    settle_of_noneReady (h := (u.putCall j none).setReg (callsA 0xC) 1) fun x hx => hn x (hlist x hx)]
  have hreg : ∀ a, u.reg a = (h.count (callsA 0x28)).reg a := fun a => by rw [honly]; rfl
  refine ⟨?_, fun i hi => ?_, fun w => ?_, reg_setReg_same _ _ _, ?_, ?_, fun a ha => ?_⟩
  · exact Store.get_set_same none u.calls.slots j none
  · refine (Store.get_set_ne none none u.calls.slots none hi).trans ?_
    rw [hslots, hcalls]; rfl
  · refine Eq.trans ?_ (readyList_unready h j c w)
    change Store.get [] u.calls.ready w = Store.get [] (h.unready j c).calls.ready w
    rw [hslots]
  · rw [fget_setReg, if_neg (by decide)]
    change fld (u.reg (callsA 0x28)) 31 0 = _
    rw [hreg]
    exact fget_bump_same h (callsA 0x28) 1 (by decide)
  · rw [honly]; rfl
  · rw [List.mem_cons, List.mem_singleton, not_or] at ha
    change (u.setReg (callsA 0xC) 1).reg a = h.reg a
    rw [reg_setReg, if_neg ha.1, hreg, Hw.count, Hw.bump, reg_fset, if_neg ha.2]

/-- Of a slot without an incomplete call of that generation there is nothing to cancel. -/
theorem cancelCall_none {h : Hw} {j g : Nat} (hc : ∀ c, h.call j = some c → c.active = false ∨ c.gen ≠ g) :
    h.cancelCall j g = h.setReg (callsA 0xC) 2 := by
  unfold Hw.cancelCall
  cases hcall : h.call j with
  | none => rfl
  | some c =>
    rcases hc c hcall with ha | hg
    · simp [ha]
    · simp [hg]

section
variable (s : State) (k : Nat) (io : HostIo)

theorem callCancel_answers (a0 a1 g : BitVec 8) (h1 : a1.toNat < 16) (hg : g.toNat < 16) {P : Hw → List Byte → Prop}
    (r : SlotRuns s.hw k 0x0801 [a0, a1, g, 0])
    (hP : ∀ m, m = s.hw.cancelCall (a0.toNat + 256 * a1.toNat) g.toNat → P m [BitVec.ofNat 8 (m.fget (callsA 0xC) 1 0)]) :
    Answers (.callCancel (.slot k) io) s k stOk P := by
  have h0 : arg [a0, a1, g, 0] 0 2 = a0.toNat + 256 * a1.toNat := arg_pair _ _ _
  have h2 : arg [a0, a1, g, 0] 2 1 = g.toNat := arg_one _ _
  have hok : (isLen 4 [a0, a1, g, 0] && decide (arg [a0, a1, g, 0] 0 2 < 4096) && decide (arg [a0, a1, g, 0] 2 1 < 16) &&
      arg [a0, a1, g, 0] 3 1 == 0) = true := by
    rw [h0, h2]
    simp [isLen, arg, ofBytes, hg]
    have := a0.isLt
    omega
  refine answers_of_runNow (fun c h => (stOk, bytesOf 1 ((h.cancelCall (arg c.args 0 2) (arg c.args 2 1)).fget (callsA 0xC) 1 0),
      h.cancelCall (arg c.args 0 2) (arg c.args 2 1))) r r.1.src_ok rfl rfl hok rfl rfl rfl (by decide) (by simp [bytesOf_length]) ?_
  rw [h0, h2]
  have := hP _ rfl
  simpa [bytesOf] using this

/-- CALLS.CANCEL holds a slot and a generation. -/
theorem execCancelWrite_fields (h : Hw) {j g : Nat} (hj : j < 4096) (hg : g < 16) :
    execCancelWrite h (BitVec.ofNat 32 (j + 2 ^ 12 * g)) = h.cancelCall j g := by
  have h0 : fld (BitVec.ofNat 32 (j + 2 ^ 12 * g)) 11 0 = j := by
    rw [fld, BitVec.extractLsb'_toNat, BitVec.toNat_ofNat, Nat.shiftRight_eq_div_pow]; omega
  have h1 : fld (BitVec.ofNat 32 (j + 2 ^ 12 * g)) 15 12 = g := by
    rw [fld, BitVec.extractLsb'_toNat, BitVec.toNat_ofNat, Nat.shiftRight_eq_div_pow]; omega
  rw [execCancelWrite, h0, h1]

end

/-- Settles O16: each command is its write or its read of the registers, and CALL_CANCEL the write of CALLS.CANCEL. -/
theorem registerCommands : Obligations.RegisterCommands := by
  unfold Obligations.RegisterCommands
  refine ⟨fun s k io => ⟨eventClear_answers s k io, bar2Map_answers s k io, padRelease_answers s k io, regRead_answers s k io,
    regWrite_answers s k io⟩, fun s k io => ⟨fun v => timePhase_enters s k io, timePhase_refused s k io, timeSet_answers s k io,
    fun a0 a1 g h1 hg r => ?_, logAck_answers s k io⟩⟩
  have hj : a0.toNat + 256 * a1.toNat < 4096 := by
    have := a0.isLt
    omega
  refine ⟨callCancel_answers s k io a0 a1 g h1 hg r fun m hm => ⟨rfl, ?_⟩, fun c hc ha hr hgen _ hn hf => ?_, fun hno => ?_⟩
  · rw [exec_ok rfl, effect, execCancelWrite_fields _ hj hg, hm]
  · refine callCancel_answers s k io a0 a1 g h1 hg r fun m hm => ?_
    obtain ⟨hgone, hother, hready, hreg, hcount, honly⟩ := cancelCall_gone hc ha hr hgen hn hf
    rw [← hm] at hgone hother hready hreg hcount honly
    exact ⟨by rw [Hw.fget, hreg]; rfl, hgone, hother, hready, hreg, hcount, honly⟩
  · refine callCancel_answers s k io a0 a1 g h1 hg r fun m hm => ?_
    rw [cancelCall_none hno] at hm
    have hreg : m.reg (callsA 0xC) = 2 := by rw [hm, reg_setReg_same]
    exact ⟨by rw [Hw.fget, hreg]; rfl, hreg, hm ▸ onlyRegs_setReg _ _ _⟩

end Sys2Proof.Machine
end

section
-- As the tests above: declarations in order, so that checking the one text stays within its memory.
set_option Elab.async false
/-!
PROOFS. Forming and leaving a configuration (O18), and the commands that start, halt and change the level of a run (O19).
-/

namespace Sys2Proof.Machine

/-! ## Messages to members -/

theorem sendShares_only (h : Hw) (c : Call0) (ms : List Nat) (phase : Byte) (ops : List Byte) :
    h.sendShares c ms phase ops =
      { h with ports := (h.sendShares c ms phase ops).ports, out := (h.sendShares c ms phase ops).out } :=
  List.foldlRecOn (motive := fun g : Hw => g = { h with ports := g.ports, out := g.out }) _ _ rfl
    fun g hg m _ => by rw [sendMsg_only, hg]

theorem crew_alone {h : Hw} (c : Call0) (hm : h.conf.members = []) : h.crew c = [] := by
  unfold Hw.crew
  split
  · rfl
  · exact hm

/-- Without members to ask, the command acts when this module's own tests pass, and ends with their status when they do not. -/
theorem crewRun_alone (h : Hw) (c : Call0) (own : Nat) (ops : List Byte) (act : Call0 → Hw → Res × Hw) :
    h.crewRun c [] own ops act = if own = stOk then act c h else (.done own [] [], h) := by
  simp [Hw.crewRun]

/-- No frames run on a module that is not busy. -/
theorem framesOn_of_not_busy {h : Hw} (hb : h.busy = false) : h.framesOn = false := by
  simp only [Hw.busy, Bool.or_eq_false_iff] at hb
  obtain ⟨⟨⟨h1, h2⟩, h3⟩, h4⟩ := hb
  simp [Hw.framesOn, h1, h2, h3, h4]

/-! ## CONFIG_FORM and CONFIG_LEAVE (R30, R32, R459) -/

/-- SRC set on a module whose frames do not run (R19, R32). -/
theorem setSrc_held {h : Hw} (hb : h.framesOn = false) {src : Nat} (hs : src < 4) :
    (h.setSrc src).fget 0x44 1 0 = src ∧ (∀ a, a ≠ 0x44 → (h.setSrc src).reg a = h.reg a) ∧
      h.setSrc src = { h with regs := (h.setSrc src).regs, seq := { h.seq with srcPending := none } } := by
  generalize hv : setFld (h.reg 0x44) 1 0 src = v
  have hsrc : fld v 1 0 = src := by
    rw [← hv, fld_setFld _ _ _ _ (by omega)]
    exact Nat.mod_eq_of_lt hs
  have he : h.setSrc src =
      (({ (h.fset 0x44 5 2 (fld v 5 2)) with seq := { h.seq with srcPending := none } } : Hw).fset 0x44 1 0 src).lockPll := by
    have hb' : (h.fset 0x44 5 2 (fld v 5 2)).framesOn = false := hb
    rw [Hw.setSrc, hv, Hw.writeClk]
    dsimp only
    rw [hb', if_neg Bool.false_ne_true, hsrc]
    rfl
  rw [he]
  generalize hg : ({ (h.fset 0x44 5 2 (fld v 5 2)) with seq := { h.seq with srcPending := none } } : Hw) = g
  have hgreg : ∀ a, a ≠ 0x44 → g.reg a = h.reg a := fun a ha => by
    rw [← hg]
    exact (reg_fset h 0x44 5 2 (fld v 5 2) a).trans (if_neg ha)
  obtain ⟨hf, -, honly⟩ := lockPll_fields (g.fset 0x44 1 0 src)
  refine ⟨?_, fun a ha => ?_, ?_⟩
  · rw [hf, fget_fset_same _ _ _ _ _ (by omega)]
    exact Nat.mod_eq_of_lt hs
  · rw [honly.2 a (by simpa using ha), reg_fset, if_neg ha, hgreg a ha]
  · rw [honly.1, ← hg]
    rfl

section
variable (s : State) (k : Nat) (io : HostIo)

/-- The configuration that CONFIG_FORM makes of a module alone. -/
theorem form_alone (h : Hw) (c : Call0) (f : FormFacts) (hb : h.busy = false) (ha : arg c.args 8 1 ≤ 1) :
    ∃ m, h.form c [] f = (.done stOk [0, 0, 0, 0] [], m) ∧ m.conf.formed = true ∧ m.conf.head = h.devIndex ∧ m.conf.members = [] ∧
      m.conf.uplink = none ∧ m.img.unformed = false ∧ m.fget 0x44 1 0 = arg c.args 8 1 ∧ (∀ a, a ≠ 0x44 → m.reg a = h.reg a) ∧
      m.seq = { h.seq with srcPending := none } ∧ m.trusses = h.trusses := by
  generalize hgone : (if h.isHead then h.conf.members else []).filter (fun m => !([] : List Nat).contains m) = gone
  have hsent := sendShares_only h { c with code := 0x0302 } gone 1 []
  generalize hs : h.sendShares { c with code := 0x0302 } gone 1 [] = sent at hsent
  generalize hf : ({ sent with
    conf := { formed := true, head := sent.devIndex, members := [], treePorts := treePortsOf (sent.treeOf []) sent.devIndex, uplink := none
              crossPorts := sent.crossingPorts [], broken := false, links := sent.treeOf [], distance := 0
              branches := treePortsOf (sent.treeOf []) sent.devIndex, above := [] }
    img := { sent.img with unformed := false } } : Hw) = formed
  have he : h.form c [] f = (.done stOk [0, 0, 0, 0] [], formed.setSrc (arg c.args 8 1)) := by
    unfold Hw.form
    dsimp only
    rw [hgone, hs, hf]
    rfl
  have hframes : formed.framesOn = false := by
    rw [← hf, hsent]
    exact framesOn_of_not_busy hb
  obtain ⟨hsrc, hreg, honly⟩ := setSrc_held hframes (src := arg c.args 8 1) (by omega)
  refine ⟨_, he, ?_, ?_, ?_, ?_, ?_, hsrc, fun a ha => (hreg a ha).trans ?_, ?_, ?_⟩
  case refine_6 => rw [← hf, hsent]; rfl
  all_goals rw [honly, ← hf]
  all_goals rw [hsent]

/-- CONFIG_FORM that names no other module makes the checks of Table 18.5 at once. -/
theorem configForm_effect (f : FormFacts) (args : List Byte) (h16 : args.length = 16) (h8 : arg args 8 1 ≤ 1) (h9 : arg args 9 7 = 0)
    (hn : s.hw.named (arg args 0 8) = []) (r : SlotRuns s.hw k 0x0301 args) :
    effect (.configForm (.slot k) io f) s.hw =
      match s.hw.formCheck [] f with
      | some (c, st, d, p) => (s.hw.formEvent c d p).endCmd (.slot k) [] st ([c, d, p, 0].map (BitVec.ofNat 8)) []
      | none => finishRes (s.hw.form ⟨.slot k, 0x0301, args, false, []⟩ [] f).2 ⟨.slot k, 0x0301, args, false, []⟩ []
          (s.hw.form ⟨.slot k, 0x0301, args, false, []⟩ [] f).1 := by
  have hok : (isLen 16 args && decide (arg args 8 1 ≤ 1) && arg args 9 7 == 0) = true := by
    rw [isLen, h16, h9]; simp [h8]
  change execConfigForm s.hw (.slot k) io f = _
  unfold execConfigForm
  rw [runCmd_slot r rfl hok rfl rfl]
  simp only [hn, List.foldl_nil, List.all_nil, Bool.not_true, Bool.false_eq_true, if_false]
  cases s.hw.formCheck [] f with
  | none => rfl
  | some x => rfl

theorem configForm_answers (f : FormFacts) (args : List Byte) (hf : f.ok = true) (h16 : args.length = 16) (h8 : arg args 8 1 ≤ 1)
    (h9 : arg args 9 7 = 0) (hn : s.hw.named (arg args 0 8) = []) (hb : s.hw.busy = false) (r : SlotRuns s.hw k 0x0301 args)
    (hc : s.hw.formCheck [] f = none) :
    Answers (.configForm (.slot k) io f) s k stOk fun m r => r = [0, 0, 0, 0] ∧
        m.conf.formed = true ∧ m.conf.head = s.hw.devIndex ∧ m.conf.members = [] ∧ m.conf.uplink = none ∧
        m.img.unformed = false ∧ m.fget 0x44 1 0 = arg args 8 1 ∧ (∀ a, a ≠ 0x44 → m.reg a = s.hw.reg a) ∧
        m.seq = { s.hw.seq with srcPending := none } ∧ m.trusses = s.hw.trusses := by
  obtain ⟨m, hm, hP⟩ := form_alone s.hw ⟨.slot k, 0x0301, args, false, []⟩ f hb h8
  have hw : (Instr.configForm (.slot k) io f).wellFormed = true := by
    rw [Instr.wellFormed, hf, Bool.and_true]; exact r.1.src_ok
  have he := configForm_effect s k io f args h16 h8 h9 hn r
  rw [hc, hm] at he
  exact answers_of_endCmd hw he (by decide) (by decide) ⟨rfl, hP⟩

theorem configForm_fails (f : FormFacts) (args : List Byte) (hf : f.ok = true) (h16 : args.length = 16) (h8 : arg args 8 1 ≤ 1)
    (h9 : arg args 9 7 = 0) (hn : s.hw.named (arg args 0 8) = []) (r : SlotRuns s.hw k 0x0301 args) {c st d p : Nat}
    (hc : s.hw.formCheck [] f = some (c, st, d, p)) (hc9 : c < 9) (hst : st < 256) :
    Answers (.configForm (.slot k) io f) s k st fun m r =>
      m = s.hw ∧ r = [BitVec.ofNat 8 c, BitVec.ofNat 8 d, BitVec.ofNat 8 p, 0] := by
  have hw : (Instr.configForm (.slot k) io f).wellFormed = true := by
    rw [Instr.wellFormed, hf, Bool.and_true]; exact r.1.src_ok
  have hev : s.hw.formEvent c d p = s.hw := by
    rw [Hw.formEvent, if_neg (by omega), if_neg (by omega)]
  have he := configForm_effect s k io f args h16 h8 h9 hn r
  rw [hc] at he
  exact answers_of_endCmd hw he hst (by simp) ⟨hev, rfl⟩

/-- CONFIG_LEAVE of a head without members, or of a module that belongs to no configuration. -/
theorem configLeave_effect (hm : s.hw.conf.members = []) (r : SlotRuns s.hw k 0x0302 []) :
    effect (.configLeave (.slot k) io) s.hw =
      if s.hw.conf.formed = true then
        if s.hw.busy = true then s.hw.endCmd (.slot k) [] stRefused [] []
        else ({ s.hw with conf := {} } : Hw).endCmd (.slot k) [] stOk [1] []
      else s.hw.endCmd (.slot k) [] stOk [0] [] := by
  have hmem : s.hw.isMember = false := r.1.2.2.2.1
  have hleave : ∀ c, leaveDo c s.hw = if s.hw.conf.formed = true then (.done stOk [1] [], { s.hw with conf := {} })
      else (.done stOk [0] [], s.hw) := fun c => by
    unfold leaveDo
    dsimp only
    rw [crew_alone c hm]
    cases hf : s.hw.conf.formed with
    | false => rfl
    | true =>
      have hl : (s.hw.sendShares c [] 1 []).leaveConfig = { s.hw with conf := {} } := by
        change s.hw.leaveConfig = _
        rw [Hw.leaveConfig, hmem]
        rfl
      rw [hl]
      rfl
  change execConfigLeave s.hw (.slot k) io = _
  unfold execConfigLeave
  rw [runCmd_slot r rfl rfl rfl rfl]
  simp only [Bool.false_eq_true, if_false, crew_alone _ hm, crewRun_alone, hleave]
  cases s.hw.conf.formed <;> cases s.hw.busy <;> rfl

end

/-- Settles O18: a module alone forms by its own checks, and leaves without asking anyone. -/
theorem formAndLeave : Obligations.FormAndLeave := by
  unfold Obligations.FormAndLeave
  intro s k io
  refine ⟨fun f args hf hfm h16 h8 h9 hn hu hb r => ⟨configForm_answers s k io f args hf h16 h8 h9 hn hb r, fun c st d p hc h9c hst =>
    configForm_fails s k io f args hf h16 h8 h9 hn r hc h9c hst⟩, fun r hf hm hb => ?_, fun r hf hm => ?_, fun r hf hm hb => ?_⟩
  all_goals have he := configLeave_effect s k io hm r
  · rw [if_pos hf, if_neg (by simp [hb])] at he
    exact answers_of_endCmd r.1.src_ok he (by decide) (by decide) ⟨rfl, rfl⟩
  · rw [if_neg (by simp [hf])] at he
    exact answers_of_endCmd r.1.src_ok he (by decide) (by decide) ⟨rfl, rfl⟩
  · rw [if_pos hf, if_pos hb] at he
    exact answers_of_endCmd r.1.src_ok he (by decide) (by decide) ⟨rfl, rfl⟩

/-! ## RUN_START, RUN_HALT and LEVEL_REQ (R460, R461, R468) -/

/-- A configuration symbol that is sent waits for its effect clock; without tree ports no link carries it (R127). -/
theorem sendSym_alone (h : Hw) (k : SymKind) (op : Nat) (hr : h.seq.run ≠ .empty) (ht : h.conf.treePorts = []) :
    h.sendSym k op = { h with
      seq := { h.seq with syms := h.seq.syms ++ [⟨k, op, h.devIndex, h.seq.clk + h.seq.horizon, h.seq.clk⟩] }
      out := h.out ++ [.symbol k op h.seq.clk] } := by
  rw [Hw.sendSym, if_neg hr]
  simp [ht]

theorem run_of_startWaits {h : Hw} (hw : h.startWaits = true) : h.seq.run = .held := by
  simp only [Hw.startWaits, Hw.startSent, Bool.and_eq_true, beq_iff_eq] at hw
  exact hw.1

section
variable (s : State) (k : Nat) (io : HostIo)

/-- RUN_START on a module alone (R460). -/
theorem runStart_effect (args : List Byte) (h40 : args.length = 40) (h1 : arg args 1 1 ≤ 1) (h2 : arg args 2 2 = 0)
    (h8 : arg args 8 8 = 0) (h30 : arg args 30 2 = 0) (hm : s.hw.conf.members = []) (r : SlotRuns s.hw k 0x0303 args) :
    effect (.runStart (.slot k) io) s.hw =
      if startBad args = true then s.hw.endCmd (.slot k) [] stBadArgument [] []
      else if s.hw.startTest (arg args 0 1) (arg args 1 1 == 1) = stOk then
        finishRes (startDo ⟨.slot k, 0x0303, args, false, []⟩ s.hw).2 ⟨.slot k, 0x0303, args, false, []⟩ []
          (startDo ⟨.slot k, 0x0303, args, false, []⟩ s.hw).1
      else s.hw.endCmd (.slot k) [] (s.hw.startTest (arg args 0 1) (arg args 1 1 == 1)) [] [] := by
  have hok : (isLen 40 args && decide (arg args 1 1 ≤ 1) && arg args 2 2 == 0 && arg args 8 8 == 0 && arg args 30 2 == 0) = true := by
    rw [isLen, h40, h2, h8, h30]; simp [h1]
  have hp : s.hw.pstate = 0 := r.1.2.2.1
  have hne : s.hw.startTest (arg args 0 1) (arg args 1 1 == 1) ≠ stBadArgument := by
    unfold Hw.startTest
    split_ifs <;> decide
  change execRunStart s.hw (.slot k) io = _
  unfold execRunStart
  rw [runCmd_slot r rfl hok rfl rfl]
  simp only [hp, Bool.false_eq_true, if_false, crew_alone _ hm, crewRun_alone,
    show (decide ((0 : Nat) = 2) && s.hw.power.source.isNone) = false from rfl]
  cases startBad args with
  | true => rfl
  | false =>
    simp only [Bool.false_eq_true, if_false, hne]
    split_ifs <;> rfl

/-- The first grid point that a start serves: in TIMED mode the first at least HORIZON course clocks ahead (R311). -/
def firstPoint (h : Hw) (args : List Byte) : Nat :=
  if arg args 0 1 = 2 then
    timeOf (BitVec.ofNat 112 (arg args 16 14)) +
      h.pointsAhead (timeOf (BitVec.ofNat 112 (arg args 16 14))) (3 * arg args 32 8) h.seq.horizon * (3 * arg args 32 8)
  else 0

/-- The start of a head whose configuration uses no port. -/
theorem startDo_alone (h : Hw) (c : Call0) (hm : h.conf.members = []) (ht : h.conf.treePorts = []) (hc : h.conf.crossPorts = [])
    (hr : h.seq.run = .held) : startDo c h =
      (.done stOk (bytesOf 8 (h.seq.frame.toNat + natBit h.seq.deferred)) [],
        { h with
          seq := { h.seq with
            stepCount := arg c.args 4 4, gridPeriod := 3 * arg c.args 32 8, gridNext := firstPoint h c.args, goSent := false
            goEff := false
            syms := h.seq.syms ++ [⟨.runCtrl, arg c.args 0 1 - 1 + 32 * arg c.args 1 1, h.devIndex,
              h.seq.clk + h.seq.horizon, h.seq.clk⟩] }
          out := h.out ++ [.symbol .runCtrl (arg c.args 0 1 - 1 + 32 * arg c.args 1 1) h.seq.clk] }) := by
  have hwake : h.wakePorts ([] ++ []) = h := rfl
  have hsend := sendSym_alone (h.updSeq fun s => { s with
    stepCount := arg c.args 4 4, gridPeriod := 3 * arg c.args 32 8, gridNext := firstPoint h c.args, goSent := false, goEff := false })
    .runCtrl (arg c.args 0 1 - 1 + 32 * arg c.args 1 1) (by change h.seq.run ≠ .empty; rw [hr]; decide) ht
  unfold startDo
  dsimp only
  rw [crew_alone c hm, ht, hc, hwake, List.foldl_nil]
  unfold firstPoint at hsend ⊢
  rw [hsend]
  rfl

theorem runStart_answers (args : List Byte) (h40 : args.length = 40) (h1 : arg args 1 1 ≤ 1) (h2 : arg args 2 2 = 0)
    (h8 : arg args 8 8 = 0) (h30 : arg args 30 2 = 0) (hm : s.hw.conf.members = []) (r : SlotRuns s.hw k 0x0303 args)
    (hb : startBad args = false) (hs : s.hw.startTest (arg args 0 1) (arg args 1 1 == 1) = stOk) (ht : s.hw.conf.treePorts = [])
    (hc : s.hw.conf.crossPorts = []) :
    Answers (.runStart (.slot k) io) s k stOk fun m r =>
         r = bytesOf 8 (s.hw.seq.frame.toNat + natBit s.hw.seq.deferred) ∧
         m.seq = { s.hw.seq with
           stepCount := arg args 4 4, gridPeriod := 3 * arg args 32 8, gridNext := m.seq.gridNext, goSent := false, goEff := false
           syms := s.hw.seq.syms ++ [⟨.runCtrl, arg args 0 1 - 1 + 32 * arg args 1 1, s.hw.devIndex,
             s.hw.seq.clk + s.hw.seq.horizon, s.hw.seq.clk⟩] } ∧
         (arg args 0 1 = 2 → ∃ n, m.seq.gridNext = timeOf (BitVec.ofNat 112 (arg args 16 14)) + n * m.seq.gridPeriod) ∧
         m = { s.hw with seq := m.seq, ports := m.ports, out := m.out } ∧ ∀ p, m.port p = s.hw.port p := by
  have hheld : s.hw.seq.run = .held := by
    by_contra hne
    have : s.hw.startRefused (arg args 1 1 == 1) = true := by simp [Hw.startRefused, hne]
    rw [Hw.startTest, if_pos this] at hs
    cases hs
  have hdo := startDo_alone s.hw ⟨.slot k, 0x0303, args, false, []⟩ hm ht hc hheld
  have he := runStart_effect s k io args h40 h1 h2 h8 h30 hm r
  rw [hb, if_neg Bool.false_ne_true, if_pos hs, hdo] at he
  exact answers_of_endCmd r.1.src_ok he (by decide) (by simp [bytesOf_length]) 
    ⟨rfl, rfl, fun h2 => ⟨_, if_pos h2⟩, rfl, fun _ => rfl⟩

/-- A module that is not HELD, has no configuration, or whose image is not formed allows no start. -/
theorem startTest_refused {h : Hw} (hr : h.seq.run ≠ .held ∨ h.img.unformed = true ∨ h.conf.formed = false) (mode : Nat) (checked : Bool) :
    h.startTest mode checked = stRefused := by
  have : h.startRefused checked = true := by
    rcases hr with e | e | e <;> simp [Hw.startRefused, e]
  rw [Hw.startTest, this]
  rfl

theorem levelArg_ok {l : BitVec 8} (hl : l.toNat ≤ 3) : (isLen 1 [l] && decide (arg [l] 0 1 ≤ 3)) = true := by
  rw [arg_one]; simp [isLen, hl]

/-- LEVEL_REQ on a module without members, by the state of its run. -/
theorem levelReq_effect {l : BitVec 8} (hl : l.toNat ≤ 3) (r : SlotRuns s.hw k 0x0902 [l]) :
    effect (.levelReq (.slot k) io) s.hw =
      if s.hw.seq.run = .running ∨ s.hw.startWaits = true then
        (s.hw.sendSym .runCtrl (4 + 8 * l.toNat)).endCmd (.slot k) [] stOk (bytesOf 1 s.hw.seq.level) []
      else if s.hw.seq.run = .held then
        if s.hw.crew ⟨.slot k, 0x0902, [l], false, []⟩ = [] then
          (s.hw.requestLevel l.toNat).park ⟨.slot k, 0x0902, [l], false, []⟩ 1 stOk [] []
        else (s.hw.sendSym .runCtrl (4 + 8 * l.toNat)).park ⟨.slot k, 0x0902, [l], false, []⟩ 1 stOk [] []
      else s.hw.endCmd (.slot k) [] stRefused [] [] := by
  change execLevelReq s.hw (.slot k) io = _
  unfold execLevelReq
  rw [runCmd_slot r rfl (levelArg_ok hl) rfl rfl]
  simp only [arg_one]
  cases hrun : s.hw.seq.run with
  | running => simp [finishRes]
  | held =>
    cases hw : s.hw.startWaits with
    | true => simp [finishRes]
    | false =>
      by_cases hcrew : s.hw.crew ⟨.slot k, 0x0902, [l], false, []⟩ = []
      · simp [finishRes, hcrew]
      · simp [finishRes, hcrew]
  | _ =>
    have hw : s.hw.startWaits = false := by
      by_contra hne
      exact absurd ((run_of_startWaits (by simpa using hne)).symm.trans hrun) (by decide)
    simp [finishRes, hw]

theorem runHalt_effect (r : SlotRuns s.hw k 0x0304 []) :
    effect (.runHalt (.slot k) io) s.hw =
      if s.hw.seq.run = .running ∨ s.hw.seq.run = .halting ∨ s.hw.startWaits = true then
        (s.hw.sendSym .runCtrl 3).park ⟨.slot k, 0x0304, [], false, []⟩ 1 stOk [] []
      else s.hw.endCmd (.slot k) [] stRefused [] [] := by
  change execRunHalt s.hw (.slot k) io = _
  unfold execRunHalt
  rw [runCmd_slot r rfl rfl rfl rfl]
  simp only [Bool.or_eq_true, decide_eq_true_eq, or_assoc]
  split_ifs <;> rfl

/-- A level asked for in HELD (R143, R148). -/
theorem requestLevel_held {h : Hw} (hr : h.seq.run = .held) (l : Nat) :
    h.requestLevel l = { h with
      regs := (h.fset 0x44 6 6 0).regs
      seq := { h.seq with
        levelReq := l, run := .levelChange, inFrame := false, levelDue := none, realign := true, levelFail := false
        stretches := h.seq.noted
        levelChg := some ⟨false, h.seq.level, if h.seq.checked then max 2 l else l, 0, false⟩ } } := by
  have ha : h.requestLevel l = (h.updSeq fun s => { s with levelReq := l }).enterLevelChange l false false := by
    rw [Hw.requestLevel, Hw.askLevel, show (h.updSeq fun s => { s with levelReq := l }).seq.run = .held from hr]
  rw [ha]
  rfl

end

/-- What a start under RUN_CTRL leaves (R142, R143, R212). -/
def Started (m : RunMode) (checked : Bool) (h g : Hw) : Prop :=
  g.seq.run = .running ∧ g.seq.mode = m ∧ g.seq.checked = checked ∧ g.seq.frame = h.seq.frame ∧ g.seq.level = h.seq.level ∧
    g.seq.starting = some (if h.seq.deferred then 1 else 0) ∧
    (∀ a, g.reg a = if checked = true ∧ a ∈ [seqA 0 0x88, seqA 0 0x8C, seqA 1 0x88, seqA 1 0x8C] then 0 else h.reg a) ∧
    g = { h with seq := g.seq, regs := g.regs }

theorem started_runStart {h : Hw} (hr : h.seq.run = .held) (m : RunMode) (checked : Bool) : Started m checked h (h.runStart m checked) := by
  rw [Hw.runStart, if_neg (not_not.2 hr)]
  dsimp only
  generalize hu : (h.updSeq fun s => { s with
    run := .running, mode := m, checked := checked, starting := some (if s.deferred then 1 else 0)
    goSent := m = .timed && s.goSent, goEff := m != .timed, levelDue := s.startDue checked }) = u
  have hreg : ∀ a, u.reg a = h.reg a := fun a => by rw [← hu]; rfl
  cases checked with
  | false =>
    rw [if_neg Bool.false_ne_true]
    refine ⟨?_, ?_, ?_, ?_, ?_, ?_, fun a => ?_, ?_⟩
    case refine_7 => simp [hreg]
    all_goals rw [← hu]; rfl
  | true =>
    rw [if_pos rfl]
    refine ⟨?_, ?_, ?_, ?_, ?_, ?_, fun a => ?_, ?_⟩
    case refine_7 => rw [Hw.clearHazards, reg_clearRegs, hreg]; simp only [true_and]
    all_goals rw [Hw.clearHazards, clearRegs_only, ← hu]; rfl

/-- RUN_CTRL with a start code, on a module that is HELD (R142, R143). -/
theorem execRunCtrl_start (h : Hw) (origin : Nat) {mode : Nat} (hm : mode < 3) (checked : Bool) :
    ∃ syms, execRunCtrl h origin (mode + 32 * natBit checked) =
      ({ h with seq := { h.seq with syms := syms } } : Hw).runStart (match mode with | 0 => .free | 1 => .timed | _ => .step) checked := by
  have hctrl : ∀ (g : Hw) (x : Sym), x.arg = mode + 32 * natBit checked →
      g.runCtrl x = g.runStart (match mode with | 0 => .free | 1 => .timed | _ => .step) checked := by
    intro g x hx
    unfold Hw.runCtrl
    dsimp only
    rw [hx]
    interval_cases mode <;> cases checked <;> rfl
  unfold execRunCtrl Hw.symbolNow
  cases hfind : h.seq.syms.find? fun s => s.kind == .runCtrl && s.origin == origin && s.arg == mode + 32 * natBit checked with
  | none => exact ⟨h.seq.syms, hctrl h _ rfl⟩
  | some x =>
    have hx := List.find?_some hfind
    simp only [Bool.and_eq_true, beq_iff_eq] at hx
    obtain ⟨⟨hk, -⟩, ha⟩ := hx
    refine ⟨h.seq.syms.erase x, ?_⟩
    dsimp only
    rw [Hw.applySym]
    dsimp only
    rw [hk]
    exact hctrl _ _ ha

/-- Settles O19: a start and a halt are symbols on their way, a level request too but in HELD, and RUN_CTRL acts on the sequencer. -/
theorem runCommands : Obligations.RunCommands := by
  unfold Obligations.RunCommands
  refine ⟨⟨fun s k io args h40 h1 h2 h8 h30 hm r => ⟨fun hb => ?_, fun hb hr => ?_, fun hb hs ht hc =>
      runStart_answers s k io args h40 h1 h2 h8 h30 hm r hb hs ht hc⟩, fun s origin mode checked ho hm hr => ?_⟩,
    fun s k io => ⟨fun r hr ht => ?_, fun r hst => ?_, fun l hl r hr ht => ?_, fun l hl r hr hw hm => ?_, fun l hl r hr hh => ?_⟩⟩
  · have he := runStart_effect s k io args h40 h1 h2 h8 h30 hm r
    rw [if_pos hb] at he
    exact answers_of_endCmd r.1.src_ok he (by decide) (by decide) ⟨rfl, rfl⟩
  · have he := runStart_effect s k io args h40 h1 h2 h8 h30 hm r
    rw [hb, if_neg Bool.false_ne_true, startTest_refused hr, if_neg (by decide)] at he
    exact answers_of_endCmd r.1.src_ok he (by decide) (by decide) ⟨rfl, rfl⟩
  · obtain ⟨syms, he⟩ := execRunCtrl_start s.hw origin hm checked
    have hwf : (Instr.runCtrl origin (mode + 32 * natBit checked)).wellFormed = true := by
      have : natBit checked ≤ 1 := by cases checked <;> decide
      simp only [Instr.wellFormed, ho, decide_true, Bool.true_and, decide_eq_true_eq]
      omega
    refine does_of hwf ?_
    rw [effect, he]
    have hst := started_runStart (h := { s.hw with seq := { s.hw.seq with syms := syms } }) hr
    interval_cases mode
    · exact hst .free checked
    · exact hst .timed checked
    · exact hst .step checked
  · have hne : s.hw.seq.run ≠ .empty := by
      rcases hr with e | e
      · rw [e]; decide
      · rw [run_of_startWaits e]; decide
    have hor : s.hw.seq.run = .running ∨ s.hw.seq.run = .halting ∨ s.hw.startWaits = true := by tauto
    have he := runHalt_effect s k io r
    rw [if_pos hor, sendSym_alone _ _ _ hne ht] at he
    refine does_of r.1.src_ok ?_
    rw [he]
    have hstate : s.hw.slotState k = 2 := r.1.2.2.2.2.1
    exact ⟨rfl, hstate, ⟨_, List.mem_append_right _ (List.mem_singleton.2 rfl), rfl, rfl⟩, rfl, rfl, rfl⟩
  · have hno : ¬ (s.hw.seq.run = .running ∨ s.hw.seq.run = .halting ∨ s.hw.startWaits = true) := by
      simp only [Hw.stopped, Bool.and_eq_true, Bool.or_eq_true, decide_eq_true_eq, Bool.not_eq_true'] at hst
      obtain ⟨hrun, hw⟩ := hst
      rw [hw]
      rcases hrun with (e | e) | e <;> simp [e]
    have he := runHalt_effect s k io r
    rw [if_neg hno] at he
    exact answers_of_endCmd r.1.src_ok he (by decide) (by decide) ⟨rfl, rfl⟩
  · have hne : s.hw.seq.run ≠ .empty := by
      rcases hr with e | e
      · rw [e]; decide
      · rw [run_of_startWaits e]; decide
    have he := levelReq_effect s k io hl r
    rw [if_pos hr, sendSym_alone _ _ _ hne ht] at he
    exact answers_of_endCmd r.1.src_ok he (by decide) (by simp [bytesOf_length]) ⟨by simp [bytesOf], rfl, rfl, rfl⟩
  · have hno : ¬ (s.hw.seq.run = .running ∨ s.hw.startWaits = true) := by simp [hr, hw]
    have he := levelReq_effect s k io hl r
    rw [if_neg hno, if_pos hr, if_pos (crew_alone _ hm), requestLevel_held hr] at he
    refine does_of r.1.src_ok ?_
    rw [he]
    have hstate : s.hw.slotState k = 2 := r.1.2.2.2.2.1
    refine ⟨rfl, rfl, hstate, ⟨_, List.mem_append_right _ (List.mem_singleton.2 rfl), rfl, rfl⟩, ?_, rfl, rfl, rfl⟩
    exact bget_fset s.hw 0x44 0x44 6 6 6 0 (by omega)
  · have hno : ¬ (s.hw.seq.run = .running ∨ s.hw.startWaits = true) := by
      rintro (e | e)
      · exact hr e
      · exact hh (run_of_startWaits e)
    have he := levelReq_effect s k io hl r
    rw [if_neg hno, if_neg hh] at he
    exact answers_of_endCmd r.1.src_ok he (by decide) (by decide) ⟨rfl, rfl⟩

end Sys2Proof.Machine
end

section
-- As the tests above: declarations in order, so that checking the one text stays within its memory.
set_option Elab.async false
/-!
PROOFS. What work at one Eave port leaves alone, and the commands over links (O21).
-/

namespace Sys2Proof.Machine

/-! ## Messages that join what waits at the ports (R242) -/

theorem Queued.refl (a : EavePort) : Queued a a := ⟨rfl, List.prefix_refl _⟩

theorem Queued.trans {a b c : EavePort} (p : Queued a b) (q : Queued b c) : Queued a c :=
  ⟨by rw [q.1, p.1], p.2.trans q.2⟩

theorem Queued.state {a b : EavePort} (p : Queued a b) : b.state = a.state := by rw [p.1]

/-- Messages alone have been sent: they wait at ports, and nothing else has changed. -/
def Told (h g : Hw) : Prop :=
  g = { h with ports := g.ports, out := g.out } ∧ ∀ q, Queued (h.port q) (g.port q)

theorem Told.refl (h : Hw) : Told h h := ⟨rfl, fun _ => .refl _⟩

theorem Told.trans {h g k : Hw} (p : Told h g) (q : Told g k) : Told h k :=
  ⟨by rw [q.1, p.1], fun n => (p.2 n).trans (q.2 n)⟩

theorem Told.foldl {α : Type} {f : Hw → α → Hw} (step : ∀ g x, Told g (f g x)) (xs : List α) (h : Hw) : Told h (xs.foldl f h) :=
  List.foldlRecOn (motive := Told h) _ _ (.refl h) fun g hg x _ => hg.trans (step g x)

theorem Told.reg {h g : Hw} (p : Told h g) (a : Nat) : g.reg a = h.reg a := by rw [p.1]; rfl

theorem told_emit (h : Hw) (o : Out) : Told h (h.emit o) := ⟨rfl, fun _ => .refl _⟩

theorem told_queueMsg (h : Hw) (p : Nat) (b : MsgBody) (own : Option (Nat × Nat)) : Told h (h.queueMsg p b own) := by
  refine ⟨rfl, fun q => ?_⟩
  rw [Hw.queueMsg, Hw.updPort, port_setPort]
  split
  · next e => rw [e]; exact ⟨rfl, List.prefix_append _ _⟩
  · exact .refl _

theorem told_sendOn (h : Hw) (p dst code : Nat) (m : LinkMsg) : Told h (h.sendOn p dst code m) :=
  .foldl (fun g _ => told_queueMsg g ..) _ h

theorem told_sendMsg (h : Hw) (dst : Nat) (m : LinkMsg) (code : Nat) : Told h (h.sendMsg dst m code) :=
  (told_emit h _).trans (.foldl (fun g _ => told_sendOn g ..) _ _)

theorem told_tellNeighbours (h : Hw) (except : Option Nat) (m : LinkMsg) : Told h (h.tellNeighbours except m) :=
  .foldl (fun g _ => (told_emit g _).trans (told_sendOn ..)) _ h

theorem told_reportPort (h : Hw) (p : Nat) : Told h (h.reportPort p) := told_tellNeighbours h none _

/-! ## Work at one port -/

/-- An address outside the registers of port p, and not that of CLK_CTRL, whose LOCKED follows a port. -/
def OutsidePort (p a : Nat) : Prop := (a < eaveA p 0 ∨ eaveA p 0x10000 ≤ a) ∧ a ≠ 0x44

/-- From h to g port p has changed, with its registers; other ports have taken messages, and LOCKED may have followed. -/
def PortWork (p : Nat) (h g : Hw) : Prop :=
  g = { h with regs := g.regs, ports := g.ports, out := g.out } ∧ (∀ q, q ≠ p → Queued (h.port q) (g.port q)) ∧
    ∀ a, OutsidePort p a → g.reg a = h.reg a

theorem PortWork.refl (p : Nat) (h : Hw) : PortWork p h h := ⟨rfl, fun _ _ => .refl _, fun _ _ => rfl⟩

theorem PortWork.trans {p : Nat} {h g k : Hw} (a : PortWork p h g) (b : PortWork p g k) : PortWork p h k :=
  ⟨by rw [b.1, a.1], fun q hq => (a.2.1 q hq).trans (b.2.1 q hq), fun x hx => (b.2.2 x hx).trans (a.2.2 x hx)⟩

theorem PortWork.foldl {α : Type} {p : Nat} {f : Hw → α → Hw} (step : ∀ g x, PortWork p g (f g x)) (xs : List α) (h : Hw) :
    PortWork p h (xs.foldl f h) :=
  List.foldlRecOn (motive := PortWork p h) _ _ (.refl p h) fun g hg x _ => hg.trans (step g x)

theorem Told.portWork {h g : Hw} (t : Told h g) (p : Nat) : PortWork p h g :=
  ⟨by rw [t.1], fun q _ => t.2 q, fun a _ => t.reg a⟩

theorem portWork_setReg (h : Hw) {p o : Nat} (ho : o < 0x10000) (v : Word32) : PortWork p h (h.setReg (eaveA p o) v) := by
  refine ⟨rfl, fun _ _ => .refl _, fun a ⟨ha, _⟩ => ?_⟩
  rw [reg_setReg, if_neg (by unfold eaveA at *; omega)]

theorem portWork_eset (h : Hw) {p o : Nat} (ho : o < 0x10000) (hi lo v : Nat) : PortWork p h (h.eset p o hi lo v) :=
  portWork_setReg h ho _

theorem portWork_setPort (h : Hw) (p : Nat) (v : EavePort) : PortWork p h (h.setPort p v) := by
  refine ⟨rfl, fun q hq => ?_, fun _ _ => rfl⟩
  rw [port_setPort, if_neg hq]
  exact .refl _

theorem portWork_relock (h : Hw) (p q : Nat) : PortWork p h (h.relock q) := by
  unfold Hw.relock
  split
  · refine ⟨rfl, fun _ _ => .refl _, fun a ⟨_, ha⟩ => ?_⟩
    rw [Hw.lockPll, reg_fset, if_neg ha]
  · exact .refl p h

theorem portWork_setRole (h : Hw) (p : Nat) {r : Nat} (hr : r < 18) (lane : Nat) (erased : Bool) :
    PortWork p h (h.setRole p r lane erased) := portWork_setReg h (by omega) _

theorem portWork_setTaps (h : Hw) (p : Nat) {l : Nat} (hl : l < 19) (pre post : Nat) : PortWork p h (h.setTaps p l pre post) :=
  portWork_setReg h (by omega) _

/-- The same over the first n lanes or roles. -/
theorem PortWork.foldl_range {p n : Nat} {f : Hw → Nat → Hw} (step : ∀ g x, x < n → PortWork p g (f g x)) (h : Hw) :
    PortWork p h ((List.range n).foldl f h) :=
  List.foldlRecOn (motive := PortWork p h) _ _ (.refl p h) fun g hg x hx => hg.trans (step g x (List.mem_range.1 hx))

/-! ## A departure from a trained link (R217 to R223) -/

/-- What a port keeps of its state `old` when it departs for state st. -/
def EavePort.departed (old : EavePort) (st : PortState) : EavePort :=
  { (({} : EavePort)) with
    state := st
    started := old.started
    lanes := old.lanes.map Lane.forget
    unacked := old.unacked.zipIdx.map fun m => { m.1 with seq := m.2 % 256, sent := false }
    mseqTx := old.unacked.length % 256 }

theorem reg_eset_ne (h : Hw) {p o o' : Nat} (hi lo v : Nat) (ho : o' ≠ o) : (h.eset p o hi lo v).reg (eaveA p o') = h.reg (eaveA p o') := by
  rw [Hw.eset, reg_fset, if_neg (by unfold eaveA; omega)]

theorem reg_relock (h : Hw) (p : Nat) {a : Nat} (ha : a ≠ 0x44) : (h.relock p).reg a = h.reg a := by
  unfold Hw.relock
  split
  · rw [Hw.lockPll, reg_fset, if_neg ha]
  · rfl

theorem port_setReg (h : Hw) (a : Nat) (v : Word32) (q : Nat) : (h.setReg a v).port q = h.port q := rfl

theorem port_relock (h : Hw) (p q : Nat) : (h.relock p).port q = h.port q := by
  unfold Hw.relock
  split <;> rfl

/-- Words written in turn at distinct addresses, and those that none of the writes names. -/
theorem reg_foldl_setReg (h : Hw) (f : Nat → Nat) (v : Nat → Word32) (n : Nat) (hf : ∀ i j, f i = f j → i = j) :
    (∀ i, i < n → ((List.range n).foldl (fun g i => g.setReg (f i) (v i)) h).reg (f i) = v i) ∧
      ∀ a, (∀ i, i < n → a ≠ f i) → ((List.range n).foldl (fun g i => g.setReg (f i) (v i)) h).reg a = h.reg a := by
  induction n with
  | zero => exact ⟨fun i hi => absurd hi (by omega), fun a _ => rfl⟩
  | succ n ih =>
    obtain ⟨hin, hout⟩ := ih
    rw [List.range_succ, List.foldl_append]
    refine ⟨fun i hi => ?_, fun a ha => ?_⟩
    · rw [List.foldl_cons, List.foldl_nil, reg_setReg]
      split
      · next e => rw [hf i n e]
      · next e => exact hin i (lt_of_le_of_ne (Nat.lt_succ_iff.1 hi) fun x => e (by rw [x]))
    · rw [List.foldl_cons, List.foldl_nil, reg_setReg, if_neg (ha n (by omega))]
      exact hout a fun i hi => ha i (by omega)

/-- A departed port is told of by the others alone: it leads to no neighbour. -/
theorem port_sendOn_ne (h : Hw) (p q dst code : Nat) (m : LinkMsg) (hq : p ≠ q) : (h.sendOn q dst code m).port p = h.port p :=
  List.foldlRecOn (motive := fun g : Hw => g.port p = h.port p) _ _ rfl fun g hg b _ => by
    rw [← hg, Hw.queueMsg, Hw.updPort, port_setPort, if_neg hq]

theorem port_tellNeighbours (h : Hw) (except : Option Nat) (m : LinkMsg) {p : Nat} (hp : (h.port p).state ≠ .active) :
    (h.tellNeighbours except m).port p = h.port p := by
  refine List.foldlRecOn (motive := fun g : Hw => g.port p = h.port p) _ _ rfl fun g hg q hq => ?_
  rw [port_sendOn_ne _ p q _ _ _ ?_, ← hg]
  · rfl
  · rintro rfl
    have := (List.mem_filter.1 (List.mem_filter.1 hq).1).2
    simp_all

/-- What departing for state st makes of port p and its registers. -/
structure Departs (p : Nat) (st : PortState) (h g : Hw) : Prop where
  work : PortWork p h g
  port : g.port p = (h.port p).departed st
  roles : ∀ r, r < 18 → g.reg (eaveA p (0x40 + 4 * r)) = BitVec.ofNat 32 r
  kept : ∀ o, o < 0x40 → o ≠ 4 → o ≠ 0xC → g.reg (eaveA p o) = h.reg (eaveA p o)

/-- What a departure clears in the port's registers. -/
def Hw.unlinked (h : Hw) (p : Nat) : Hw :=
  ((((h.eset p 4 21 8 0).setReg (eaveA p 0xC) 0).eset p 0x100 17 9 0).eset p 0x100 31 31 0).setReg (eaveA p 0x104) 0

theorem portWork_unlinked (h : Hw) (p : Nat) : PortWork p h (h.unlinked p) :=
  ((portWork_eset h (by omega) 21 8 0).trans (portWork_setReg _ (by omega) 0)).trans <|
    ((portWork_eset _ (by omega) 17 9 0).trans (portWork_eset _ (by omega) 31 31 0)).trans (portWork_setReg _ (by omega) 0)

theorem reg_unlinked (h : Hw) {p o : Nat} (ho : o < 0x100) (h4 : o ≠ 4) (hc : o ≠ 0xC) :
    (h.unlinked p).reg (eaveA p o) = h.reg (eaveA p o) := by
  rw [Hw.unlinked, reg_setReg, if_neg (by unfold eaveA; omega), reg_eset_ne _ _ _ _ (by omega), reg_eset_ne _ _ _ _ (by omega),
    reg_setReg, if_neg (by unfold eaveA; omega), reg_eset_ne _ _ _ _ h4]

/-- Every receive role is that of its own lane. -/
def Hw.ownRoles (h : Hw) (p : Nat) : Hw := (List.range 18).foldl (fun g r => g.setRole p r r false) h

theorem portWork_ownRoles (h : Hw) (p : Nat) : PortWork p h (h.ownRoles p) :=
  .foldl_range (fun g r hr => portWork_setRole g p hr r false) h

theorem port_ownRoles (h : Hw) (p q : Nat) : (h.ownRoles p).port q = h.port q :=
  List.foldlRecOn (motive := fun g : Hw => g.port q = h.port q) _ _ rfl fun _ hg _ _ => hg

theorem reg_ownRoles (h : Hw) (p : Nat) : (∀ r, r < 18 → (h.ownRoles p).reg (eaveA p (0x40 + 4 * r)) = BitVec.ofNat 32 r) ∧
    ∀ o, o < 0x40 → (h.ownRoles p).reg (eaveA p o) = h.reg (eaveA p o) := by
  have hroles := reg_foldl_setReg h (fun r => eaveA p (0x40 + 4 * r)) (fun r => BitVec.ofNat 32 (r + 0)) 18
    (fun i j e => by unfold eaveA at e; omega)
  exact ⟨hroles.1, fun o ho => hroles.2 _ fun i _ => by unfold eaveA; omega⟩

/-- A departure up to the report of it. -/
theorem forgetLink_eq (h : Hw) (p : Nat) (st : PortState) :
    h.forgetLink p st =
      let g := (((h.setPort p ((h.port p).departed st)).ownRoles p).unlinked p).relock p
      if ((h.setPort p ((h.port p).departed st)).ownRoles p).bget (eaveA p 4) 18 then g.reportPort p else g := rfl

theorem Told.departs {p : Nat} {st : PortState} {h g m : Hw} (d : Departs p st h g) (t : Told g m) (e : m.port p = g.port p) :
    Departs p st h m :=
  ⟨d.work.trans (t.portWork p), e.trans d.port, fun r hr => (t.reg _).trans (d.roles r hr),
    fun o ho h4 hc => (t.reg _).trans (d.kept o ho h4 hc)⟩

theorem departs_unreported (h : Hw) (p : Nat) (st : PortState) :
    Departs p st h ((((h.setPort p ((h.port p).departed st)).ownRoles p).unlinked p).relock p) := by
  have hw := portWork_setPort h p ((h.port p).departed st)
  have hp := port_setPort_same h p ((h.port p).departed st)
  have hr : ∀ a, (h.setPort p ((h.port p).departed st)).reg a = h.reg a := fun _ => rfl
  generalize h.setPort p ((h.port p).departed st) = f at hw hp hr
  obtain ⟨hrole, hlow⟩ := reg_ownRoles f p
  have hwo := hw.trans (portWork_ownRoles f p)
  have hpo := (port_ownRoles f p p).trans hp
  generalize f.ownRoles p = g at hrole hlow hwo hpo
  have hkept : ∀ o, o < 0x100 → o ≠ 4 → o ≠ 0xC → ((g.unlinked p).relock p).reg (eaveA p o) = g.reg (eaveA p o) :=
    fun o ho h4 hc => (reg_relock _ p (by unfold eaveA; omega)).trans (reg_unlinked g ho h4 hc)
  exact ⟨hwo.trans ((portWork_unlinked g p).trans (portWork_relock ..)), (port_relock ..).trans hpo,
    fun r hr => (hkept _ (by omega) (by omega) (by omega)).trans (hrole r hr),
    fun o ho h4 hc => (hkept o (by omega) h4 hc).trans ((hlow o ho).trans (hr _))⟩

theorem departs_forgetLink (h : Hw) (p : Nat) {st : PortState} (hst : st ≠ .active) : Departs p st h (h.forgetLink p st) := by
  have d := departs_unreported h p st
  rw [forgetLink_eq]
  dsimp only
  generalize (((h.setPort p ((h.port p).departed st)).ownRoles p).unlinked p).relock p = g at d ⊢
  split
  · exact (told_reportPort g p).departs d (port_tellNeighbours _ _ _ (by rw [d.port]; exact hst))
  · exact d

/-- The word of a transmit lane's coefficients (Table 8.5). -/
def tapsWord (t : Nat × Nat) : Word32 := BitVec.ofNat 32 (t.1 + 2 ^ 8 * t.2 + 2 ^ 16 * (64 - t.1 - t.2))

theorem startTaps_reg (h : Hw) (p : Nat) (kept : Option (List (Nat × Nat))) :
    (∀ l, l < 19 → (h.startTaps p kept).reg (eaveA p (0x200 + 4 * l)) = tapsWord ((kept.getD []).getD l (presetTaps 2))) ∧
      ∀ o, o < 0x200 → (h.startTaps p kept).reg (eaveA p o) = h.reg (eaveA p o) := by
  have hregs := reg_foldl_setReg h (fun l => eaveA p (0x200 + 4 * l)) (fun l => tapsWord ((kept.getD []).getD l (presetTaps 2))) 19
    (fun i j e => by unfold eaveA at e; omega)
  exact ⟨hregs.1, fun o ho => hregs.2 _ fun i _ => by unfold eaveA; omega⟩

theorem portWork_startTaps (h : Hw) (p : Nat) (kept : Option (List (Nat × Nat))) : PortWork p h (h.startTaps p kept) :=
  .foldl_range (fun g _ hl => portWork_setTaps g p hl ..) h

theorem port_startTaps (h : Hw) (p q : Nat) (kept : Option (List (Nat × Nat))) : (h.startTaps p kept).port q = h.port q :=
  List.foldlRecOn (motive := fun g : Hw => g.port q = h.port q) _ _ rfl fun _ hg _ _ => hg

/-- DETECT is a departure after which every transmit lane is at preset 2. -/
theorem departs_enterDetect (h : Hw) (p : Nat) : Departs p .detect h (h.enterDetect p) ∧
    ∀ l, l < 19 → (h.enterDetect p).reg (eaveA p (0x200 + 4 * l)) = tapsWord (4, 8) := by
  have d := departs_forgetLink h p (st := .detect) (by decide)
  have t := startTaps_reg (h.forgetLink p .detect) p none
  exact ⟨⟨d.work.trans (portWork_startTaps ..), (port_startTaps ..).trans d.port,
    fun r hr => (t.2 _ (by omega)).trans (d.roles r hr), fun o ho h4 hc => (t.2 o (by omega)).trans (d.kept o ho h4 hc)⟩, t.1⟩

/-- A departure from a state that differs in registers of the port alone. -/
theorem Departs.after {p : Nat} {st : PortState} {h m g : Hw} (w : PortWork p h m) (e : m.port p = h.port p) (d : Departs p st m g) :
    PortWork p h g ∧ g.port p = (h.port p).departed st :=
  ⟨w.trans d.work, by rw [d.port, e]⟩

/-- RETRIES is 0, and the port departs for DETECT (R219, R223). -/
theorem restartPort_fields (h : Hw) (p : Nat) : PortWork p h (h.restartPort p) ∧
    (h.restartPort p).port p = (h.port p).departed .detect ∧ (h.restartPort p).fget (eaveA p 8) 7 0 = 0 ∧
    (h.restartPort p).reg (eaveA p 0) = h.reg (eaveA p 0) := by
  obtain ⟨d, -⟩ := departs_enterDetect (h.eset p 8 7 0 0) p
  obtain ⟨hw, hp⟩ := d.after (portWork_eset h (by omega) 7 0 0) rfl
  refine ⟨hw, hp, ?_, ?_⟩
  · exact (congrArg (fld · 7 0) (d.kept 8 (by omega) (by omega) (by omega))).trans (fget_fset_same h _ 7 0 0 (by omega))
  · exact (d.kept 0 (by omega) (by omega) (by omega)).trans (reg_eset_ne h 7 0 0 (by omega))

/-! ## A write of a port's CTRL (R217, R223) -/

theorem departed_state (old : EavePort) (st : PortState) : (old.departed st).state = st := rfl

theorem writePortCtrl_fields (h : Hw) {p : Nat} (hp : p < 12) (v : Word32) : PortWork p h (h.writePortCtrl p v) ∧
    (h.writePortCtrl p v).reg (eaveA p 0) = v &&& 0xFF05#32 ∧
    (bit v 0 = false → ((h.writePortCtrl p v).port p).state = .disabled) := by
  have hw := portWork_setReg h (p := p) (o := 0) (by omega) (v &&& 0xFF05#32)
  have hr : (h.setReg (eaveA p 0) (v &&& 0xFF05#32)).reg (eaveA p 0) = v &&& 0xFF05#32 := reg_setReg_same ..
  rw [Hw.writePortCtrl, if_neg (by omega)]
  dsimp only
  generalize h.setReg (eaveA p 0) (v &&& 0xFF05#32) = m at hw hr ⊢
  split
  · split
    · next e => exact ⟨hw, hr, fun _ => e⟩
    · have d := departs_forgetLink m p (st := .disabled) (by decide)
      exact ⟨hw.trans d.work, (d.kept 0 (by omega) (by omega) (by omega)).trans hr, fun _ => by rw [d.port]; rfl⟩
  · next hb =>
    have hbit : ¬ bit v 0 = false := by simpa using hb
    split
    · split
      · obtain ⟨d, -⟩ := departs_enterDetect m p
        exact ⟨hw.trans d.work, (d.kept 0 (by omega) (by omega) (by omega)).trans hr, fun e => absurd e hbit⟩
      · exact ⟨hw, hr, fun e => absurd e hbit⟩
    · split
      · obtain ⟨hw', -, -, h0⟩ := restartPort_fields m p
        exact ⟨hw.trans hw', h0.trans hr, fun e => absurd e hbit⟩
      · exact ⟨hw, hr, fun e => absurd e hbit⟩

/-! ## Work at one port after another -/

/-- Work at each of a list of ports: what it brings about at its own port stands afterwards, where work at another port keeps it. -/
theorem portsWork {f : Hw → Nat → Hw} {Q : Nat → Hw → Prop} (keep : ∀ p q g k, q < 12 → p ≠ q → PortWork q g k → Q p g → Q p k) (ps : List Nat)
    (step : ∀ g, ∀ p ∈ ps, p < 12 ∧ PortWork p g (f g p) ∧ Q p (f g p)) (h : Hw) :
    ps.foldl f h = { h with regs := (ps.foldl f h).regs, ports := (ps.foldl f h).ports, out := (ps.foldl f h).out } ∧
      (∀ p, p ∉ ps → Queued (h.port p) ((ps.foldl f h).port p) ∧ (Q p h → Q p (ps.foldl f h))) ∧
      ∀ p ∈ ps, Q p (ps.foldl f h) := by
  induction ps generalizing h with
  | nil => exact ⟨rfl, fun p _ => ⟨.refl _, id⟩, fun p hp => absurd hp List.not_mem_nil⟩
  | cons q ps ih =>
    obtain ⟨hq, hw, hQ⟩ := step h q List.mem_cons_self
    obtain ⟨honly, hothers, hthese⟩ := ih (fun g p hp => step g p (List.mem_cons_of_mem _ hp)) (f h q)
    rw [List.foldl_cons]
    refine ⟨by rw [honly, hw.1], fun p hp => ?_, fun p hp => ?_⟩
    · obtain ⟨hpq, hps⟩ := not_or.1 fun e => hp (List.mem_cons.2 e)
      exact ⟨(hw.2.1 p hpq).trans (hothers p hps).1, fun e => (hothers p hps).2 (keep p q h _ hq hpq hw e)⟩
    · by_cases hps : p ∈ ps
      · exact hthese p hps
      · obtain rfl := (List.mem_cons.1 hp).resolve_right hps
        exact (hothers p hps).2 hQ

/-- A register of another port. -/
theorem PortWork.reg_other {p q o : Nat} {g k : Hw} (w : PortWork q g k) (hp : p ≠ q) (ho : o < 0x10000) :
    k.reg (eaveA p o) = g.reg (eaveA p o) :=
  w.2.2 _ ⟨by unfold eaveA; omega, by unfold eaveA; omega⟩

theorem mem_portMask {m p : Nat} (hp : p ∈ portMask m) : p < 12 := List.mem_range.1 (List.mem_filter.1 hp).1

/-! ## The commands -/

section
variable (s : State) (k : Nat) (io : HostIo)

/-- What a command over links, refused where frames run over a named port, makes of the ports it names. -/
theorem link_answers {i : Instr} {code : Nat} {args : List Byte} {sp : CmdSpec} (go : Call0 → Hw → List Byte × Hw)
    (r : SlotRuns s.hw k code args) (w : i.wellFormed = true)
    (he : effect i s.hw = s.hw.runNow (.slot k) code io fun c h =>
      if h.linksBusy (portMask (arg c.args 0 2)) then (stRefused, [], h) else (stOk, (go c h).1, (go c h).2))
    (hs : specOf code = some sp) (ha : sp.args args = true) (hi : sp.inLen args = 0) (ho : sp.outLen args = 0) :
    (s.hw.linksBusy (portMask (arg args 0 2)) = true → Answers i s k stRefused fun m r => m = s.hw ∧ r = []) ∧
    (s.hw.linksBusy (portMask (arg args 0 2)) = false → ∀ P : Hw → List Byte → Prop,
      (go ⟨.slot k, code, args, false, []⟩ s.hw).1.length ≤ 224 →
      P (go ⟨.slot k, code, args, false, []⟩ s.hw).2 (go ⟨.slot k, code, args, false, []⟩ s.hw).1 → Answers i s k stOk P) :=
  ⟨fun hb => answers_of_runNow _ r w he hs ha hi ho (if_pos hb) (by decide) (by decide) ⟨rfl, rfl⟩,
    fun hb _ hlen hP => answers_of_runNow _ r w he hs ha hi ho (if_neg (ne_true_of_eq_false hb)) (by decide) hlen hP⟩

theorem linkRetrain_answers (a0 a1 : BitVec 8) (h1 : a1.toNat < 16) (r : SlotRuns s.hw k 0x0501 [a0, a1]) :
    let ps := portMask (a0.toNat + 256 * a1.toNat)
    (s.hw.linksBusy ps = true → Answers (.linkRetrain (.slot k) io) s k stRefused fun m r => m = s.hw ∧ r = []) ∧
    (s.hw.linksBusy ps = false →
      Answers (.linkRetrain (.slot k) io) s k stOk fun m r => r = bytesOf 2 (maskOf (s.hw.retrainable ps)) ∧
        (∀ p, p < 12 → (p ∈ s.hw.retrainable ps → (m.port p).state = .detect ∧ m.fget (eaveA p 8) 7 0 = 0) ∧
          (p ∉ s.hw.retrainable ps → Queued (s.hw.port p) (m.port p))) ∧
        m = { s.hw with regs := m.regs, ports := m.ports, out := m.out }) := by
  intro ps
  have hm : arg [a0, a1] 0 2 = a0.toNat + 256 * a1.toNat := arg_pair a0 a1 []
  obtain ⟨hbusy, hfree⟩ := link_answers s k io (i := .linkRetrain (.slot k) io)
    (fun c h => let go := h.retrainable (portMask (arg c.args 0 2)); (bytesOf 2 (maskOf go), go.foldl (fun h p => h.restartPort p) h))
    r r.1.src_ok rfl rfl (by have := a0.isLt; simp [isLen, hm]; omega) rfl rfl
  dsimp only at hbusy hfree
  rw [hm] at hbusy hfree
  refine ⟨hbusy, fun hb => hfree hb _ ?_ ?_⟩
  · rw [bytesOf_length]; decide
  · obtain ⟨honly, hothers, hthese⟩ := portsWork (f := fun h p => h.restartPort p)
      (Q := fun p g => (g.port p).state = .detect ∧ g.fget (eaveA p 8) 7 0 = 0)
      (fun p q g k _ hpq w ⟨h1, h2⟩ => ⟨(w.2.1 p hpq).state.trans h1, (congrArg (fld · 7 0) (w.reg_other hpq (by omega))).trans h2⟩)
      (s.hw.retrainable ps) (fun g p hp => by
        obtain ⟨hw, hport, h0, -⟩ := restartPort_fields g p
        exact ⟨mem_portMask (List.mem_filter.1 hp).1, hw, by rw [hport]; rfl, h0⟩) s.hw
    exact ⟨rfl, fun p _ => ⟨hthese p, fun hp => (hothers p hp).1⟩, honly⟩

theorem linkEnable_answers (a0 a1 e : BitVec 8) (h1 : a1.toNat < 16) (he : e.toNat ≤ 1) (r : SlotRuns s.hw k 0x0502 [a0, a1, e, 0]) :
    let ps := portMask (a0.toNat + 256 * a1.toNat)
    (s.hw.linksBusy ps = true → Answers (.linkEnable (.slot k) io) s k stRefused fun m r => m = s.hw ∧ r = []) ∧
    (s.hw.linksBusy ps = false →
      Answers (.linkEnable (.slot k) io) s k stOk fun m r =>
        r = bytesOf 2 (maskOf (ps.filter fun p => s.hw.bget (eaveA p 0) 0 != (e.toNat == 1))) ∧
        (∀ p, p < 12 → (p ∈ ps → m.bget (eaveA p 0) 0 = (e.toNat == 1) ∧ (e = 0 → (m.port p).state = .disabled)) ∧
          (p ∉ ps → Queued (s.hw.port p) (m.port p))) ∧ m = { s.hw with regs := m.regs, ports := m.ports, out := m.out }) := by
  intro ps
  have hm : arg [a0, a1, e, 0] 0 2 = a0.toNat + 256 * a1.toNat := arg_pair a0 a1 _
  have hon : arg [a0, a1, e, 0] 2 1 = e.toNat := arg_one e _
  have hz : arg [a0, a1, e, 0] 3 1 = 0 := arg_one 0 _
  have hlen : [a0, a1, e, 0].length = 4 := rfl
  generalize [a0, a1, e, 0] = args at r hm hon hz hlen
  obtain ⟨hbusy, hfree⟩ := link_answers s k io (i := .linkEnable (.slot k) io)
    (fun c h => let on := arg c.args 2 1 == 1
      (bytesOf 2 (maskOf ((portMask (arg c.args 0 2)).filter fun p => h.bget (eaveA p 0) 0 != on)),
        (portMask (arg c.args 0 2)).foldl (fun h p => h.writePortCtrl p (setBit (h.reg (eaveA p 0)) 0 on)) h))
    r r.1.src_ok rfl rfl (by have := a0.isLt; simp [isLen, hlen, hm, hon, hz, he]; omega) rfl rfl
  dsimp only at hbusy hfree
  rw [hm, hon] at hfree
  rw [hm] at hbusy
  refine ⟨hbusy, fun hb => hfree hb _ ?_ ?_⟩
  · rw [bytesOf_length]; decide
  · obtain ⟨honly, hothers, hthese⟩ := portsWork (f := fun h p => h.writePortCtrl p (setBit (h.reg (eaveA p 0)) 0 (e.toNat == 1)))
      (Q := fun p g => g.bget (eaveA p 0) 0 = (e.toNat == 1) ∧ (e = 0 → (g.port p).state = .disabled))
      (fun p q g k _ hpq w ⟨h1, h2⟩ => ⟨(congrArg (bit · 0) (w.reg_other hpq (by omega))).trans h1,
        fun e => (w.2.1 p hpq).state.trans (h2 e)⟩)
      ps (fun g p hp => by
        obtain ⟨hw, hreg, hoff⟩ := writePortCtrl_fields g (mem_portMask hp) (setBit (g.reg (eaveA p 0)) 0 (e.toNat == 1))
        refine ⟨mem_portMask hp, hw, ?_, fun h0 => hoff ?_⟩
        · rw [Hw.bget, hreg, bit_and, bit_setBit _ _ _ _ (by omega)]
          simp [bit]
        · rw [bit_setBit _ _ _ _ (by omega), h0]
          rfl) s.hw
    exact ⟨rfl, fun p _ => ⟨hthese p, fun hp => (hothers p hp).1⟩, honly⟩

end

/-- Settles O21: both commands do their work at one named port after another, and at every other port only tell of it. -/
theorem linkCommands : Obligations.LinkCommands := by
  unfold Obligations.LinkCommands
  intro s k io a0 a1 h1
  exact ⟨fun r => (linkRetrain_answers s k io a0 a1 h1 r).1, fun e he r => (linkEnable_answers s k io a0 a1 e h1 he r).1,
    fun r => (linkRetrain_answers s k io a0 a1 h1 r).2, fun e he r => (linkEnable_answers s k io a0 a1 e h1 he r).2⟩

end Sys2Proof.Machine
end

section
-- As the tests above: declarations in order, so that checking the one text stays within its memory.
set_option Elab.async false
/-!
PROOFS. The states of an Eave port (O50).
-/

namespace Sys2Proof.Machine

/-! ## A port that has left its link -/

/-- Port p has left for state st: it has forgotten its link, and the other ports have only been told. -/
def LeftLink (p : Nat) (st : PortState) (h g : Hw) : Prop :=
  g.port p = { ((h.port p).departed st) with started := (g.port p).started } ∧
    (∀ r, r < 18 → g.fget (eaveA p (0x40 + 4 * r)) 4 0 = r ∧ g.bget (eaveA p (0x40 + 4 * r)) 5 = false) ∧
    (∀ q, q ≠ p → Queued (h.port q) (g.port q)) ∧
    (st = .detect → ∀ l, l < 19 → g.reg (eaveA p (0x200 + 4 * l)) = tapsWord (4, 8))

theorem ownRole_word : ∀ r, r < 18 → fld (BitVec.ofNat 32 r) 4 0 = r ∧ bit (BitVec.ofNat 32 r) 5 = false := by decide +kernel

/-- A departure, after work that has left the port as it was but for the mark of its start time. -/
theorem Departs.leftLink {p : Nat} {st : PortState} {h m g : Hw} {b : Bool} (d : Departs p st m g) (w : PortWork p h m)
    (e : m.port p = { h.port p with started := b })
    (taps : st = .detect → ∀ l, l < 19 → g.reg (eaveA p (0x200 + 4 * l)) = tapsWord (4, 8)) : LeftLink p st h g := by
  refine ⟨?_, fun r hr => ?_, fun q hq => (w.2.1 q hq).trans (d.work.2.1 q hq), taps⟩
  · rw [d.port, e]; rfl
  · rw [Hw.fget, Hw.bget, d.roles r hr]
    exact ownRole_word r hr

theorem leftLink_forgetLink {h m : Hw} {p : Nat} {st : PortState} (w : PortWork p h m) (e : m.port p = h.port p) (hst : st ≠ .active)
    (hd : st ≠ .detect) : LeftLink p st h (m.forgetLink p st) :=
  (departs_forgetLink m p hst).leftLink w e fun x => absurd x hd

theorem leftLink_enterDetect {h m : Hw} {p : Nat} {b : Bool} (w : PortWork p h m) (e : m.port p = { h.port p with started := b }) :
    LeftLink p .detect h (m.enterDetect p) :=
  (departs_enterDetect m p).1.leftLink w e fun _ => (departs_enterDetect m p).2

theorem LeftLink.raise {p : Nat} {st : PortState} {h g : Hw} (l : LeftLink p st h g) (id : Nat) : LeftLink p st h (g.raise id) := l

theorem leftLink_restartPort {h m : Hw} {p : Nat} (w : PortWork p h m) (e : m.port p = h.port p) :
    LeftLink p .detect h (m.restartPort p) :=
  leftLink_enterDetect (w.trans (portWork_eset m (by omega) 7 0 0)) e

/-! ## What work at a port leaves -/

theorem PortWork.pstate {p : Nat} {h g : Hw} (w : PortWork p h g) : g.pstate = h.pstate :=
  congrArg (fld · 2 0) (w.2.2 (powerA 0) ⟨.inl (by unfold powerA eaveA; omega), by decide⟩)

theorem PortWork.fault {p : Nat} {h g : Hw} (w : PortWork p h g) : g.fault = h.fault := by rw [w.1]

theorem PortWork.seq {p : Nat} {h g : Hw} (w : PortWork p h g) : g.seq = h.seq := by rw [w.1]

theorem PortWork.conf {p : Nat} {h g : Hw} (w : PortWork p h g) : g.conf = h.conf := by rw [w.1]

theorem PortWork.devIndex {p : Nat} {h g : Hw} (w : PortWork p h g) : g.devIndex = h.devIndex := by rw [w.1]

/-- An event raised after work at a port. -/
theorem PortWork.raised {p : Nat} {h g : Hw} (w : PortWork p h g) (id : Nat) : Raised id 0 h (g.raise id) :=
  ⟨false, by rw [Hw.raise, Hw.raiseWith, w.pstate, w.fault, w.seq]⟩

/-! ## Training that fails (R222) -/

/-- The trainings that failed, and why the last one did. -/
def Hw.noteFailure (h : Hw) (p n reason : Nat) : Hw := (h.eset p 8 7 0 n).eset p 8 23 16 reason

theorem noteFailure_fields (h : Hw) (p : Nat) {n reason : Nat} (hn : n < 256) (hr : reason < 256) :
    PortWork p h (h.noteFailure p n reason) ∧ (h.noteFailure p n reason).fget (eaveA p 8) 7 0 = n ∧
      (h.noteFailure p n reason).fget (eaveA p 8) 23 16 = reason ∧
      (h.noteFailure p n reason).reg (eaveA p 0) = h.reg (eaveA p 0) := by
  refine ⟨(portWork_eset h (by omega) ..).trans (portWork_eset _ (by omega) ..), ?_, ?_, ?_⟩
  · refine (fget_fset_ne _ _ _ 7 0 23 16 reason (by omega) (by omega)).trans ((fget_fset_same h _ 7 0 n (by omega)).trans ?_)
    exact Nat.mod_eq_of_lt hn
  · exact (fget_fset_same _ _ 23 16 reason (by omega)).trans (Nat.mod_eq_of_lt hr)
  · exact (reg_eset_ne _ _ _ _ (by omega)).trans (reg_eset_ne h _ _ _ (by omega))

theorem failTraining_fields (h : Hw) (p : Nat) {reason : Nat} (hr : reason < 256) :
    let g := h.failTraining p reason
    let n := min 255 (h.fget (eaveA p 8) 7 0 + 1)
    g.fget (eaveA p 8) 7 0 = n ∧ g.fget (eaveA p 8) 23 16 = reason ∧
      (n < max 1 (h.fget (eaveA p 0) 15 8) → LeftLink p .retryWait h g) ∧
      (max 1 (h.fget (eaveA p 0) 15 8) ≤ n → LeftLink p .absent h g ∧ Raised (evLinkAbsent p) 0 h g) := by
  intro g n
  have hn : n < 256 := by omega
  obtain ⟨hw, h7, h23, h0⟩ := noteFailure_fields h p hn hr
  have hlimit : (h.noteFailure p n reason).eget p 0 15 8 = h.fget (eaveA p 0) 15 8 := congrArg (fld · 15 8) h0
  have hport : (h.noteFailure p n reason).port p = h.port p := rfl
  have hg : g = if max 1 ((h.noteFailure p n reason).eget p 0 15 8) ≤ n
      then ((h.noteFailure p n reason).forgetLink p .absent).raise (evLinkAbsent p)
      else (h.noteFailure p n reason).forgetLink p .retryWait := rfl
  clear_value g n
  generalize h.noteFailure p n reason = m at *
  rw [hlimit] at hg
  have kept : ∀ {st : PortState} {k : Hw}, Departs p st m k →
      k.fget (eaveA p 8) 7 0 = n ∧ k.fget (eaveA p 8) 23 16 = reason := fun d => by
    have hk := d.kept 8 (by omega) (by omega) (by omega)
    exact ⟨(congrArg (fld · 7 0) hk).trans h7, (congrArg (fld · 23 16) hk).trans h23⟩
  split at hg
  · next hle =>
    have d := departs_forgetLink m p (st := .absent) (by decide)
    rw [hg]
    exact ⟨(kept d).1, (kept d).2, fun hlt => by omega,
      fun _ => ⟨leftLink_forgetLink hw hport (by decide) (by decide), (hw.trans d.work).raised _⟩⟩
  · next hle =>
    have d := departs_forgetLink m p (st := .retryWait) (by decide)
    rw [hg]
    exact ⟨(kept d).1, (kept d).2, fun _ => leftLink_forgetLink hw hport (by decide) (by decide), fun h => absurd h hle⟩

/-! ## Signal (R217, R219) -/

theorem testBit_fld {w : Nat} (v : BitVec w) {hi lo n : Nat} (hn : lo + n ≤ hi) : (fld v hi lo).testBit n = bit v (lo + n) := by
  rw [fld_testBit]
  simp [show n < hi + 1 - lo by omega]

/-- The noted lanes with those of v added. -/
theorem setFld_or_lanes (sig : Word32) (lanes : BitVec 19) :
    setFld sig 18 0 (fld sig 18 0 ||| lanes.toNat) = sig ||| lanes.setWidth 32 := by
  refine BitVec.eq_of_getLsbD_eq fun n hn => ?_
  change bit _ n = bit _ n
  rw [bit_setFld _ _ _ _ _ hn, bit_or]
  split
  · rw [Nat.sub_zero, Nat.testBit_or, testBit_fld _ (by omega), Nat.zero_add, BitVec.testBit_toNat, bit, bit, BitVec.getLsbD_setWidth]
    simp [hn]
  · have : lanes.getLsbD n = false := BitVec.getLsbD_of_ge _ _ (by omega)
    simp [bit, BitVec.getLsbD_setWidth, this]

/-- The noted lanes without those of v. -/
theorem onesOf_setFld_fall (sig : Word32) (lanes : BitVec 19) :
    onesOf (setFld sig 18 0 (fld sig 18 0 &&& (2 ^ 19 - 1 - lanes.toNat))) 19 = onesOf (sig &&& ~~~ lanes.setWidth 32) 19 := by
  refine congrArg List.length (List.filter_congr fun n hn => ?_)
  have hlt := List.mem_range.1 hn
  rw [bit_setFld _ _ _ _ _ (by omega), if_pos (by omega), bit_and, bit_not _ (by omega), Nat.sub_zero, Nat.testBit_and,
    testBit_fld _ (by omega), Nat.zero_add, ← BitVec.toNat_not, BitVec.testBit_toNat, BitVec.getLsbD_not]
  simp [bit, hlt, show n < 32 by omega]

theorem port_updPort_same (h : Hw) (p : Nat) (f : EavePort → EavePort) : (h.updPort p f).port p = f (h.port p) :=
  port_setPort_same h p _

/-- The AON detectors have noted the lanes on which signal has come. -/
def Hw.noteSignal (h : Hw) (p : Nat) (lanes : BitVec 19) : Hw := h.eset p 0x10 18 0 (h.eget p 0x10 18 0 ||| lanes.toNat)

theorem noteSignal_eq (h : Hw) (p : Nat) (lanes : BitVec 19) :
    h.noteSignal p lanes = h.setReg (eaveA p 0x10) (h.reg (eaveA p 0x10) ||| lanes.setWidth 32) :=
  congrArg (h.setReg (eaveA p 0x10)) (setFld_or_lanes _ _)

theorem execSignalDetectRise_detect {h : Hw} {p : Nat} (hp : p < 12) (lanes : BitVec 19) (hst : (h.port p).state = .detect) :
    execSignalDetectRise h p lanes =
      if h.pstate = 0 ∧ 12 ≤ onesOf (h.reg (eaveA p 0x10) ||| lanes.setWidth 32) 19 then (h.noteSignal p lanes).enterTrain p
      else h.noteSignal p lanes := by
  have hw := portWork_eset h (p := p) (o := 0x10) (by omega) 18 0 (h.eget p 0x10 18 0 ||| lanes.toNat)
  have hst' : ((h.noteSignal p lanes).port p).state = .detect := hst
  have hps : (h.noteSignal p lanes).pstate = h.pstate := hw.pstate
  have hsig : (h.noteSignal p lanes).reg (eaveA p 0x10) = h.reg (eaveA p 0x10) ||| lanes.setWidth 32 := by
    rw [noteSignal_eq, reg_setReg_same]
  have hnote : h.eset p 0x10 18 0 (h.eget p 0x10 18 0 ||| lanes.toNat) = h.noteSignal p lanes := rfl
  rw [execSignalDetectRise, if_neg (by omega)]
  dsimp only
  rw [hnote, Hw.detectClock, Hw.portRuns, Hw.sigCount]
  simp [hst', hps, hsig]

theorem enterTrain_fields (h : Hw) {p : Nat} (hp : p < 12) :
    (h.enterTrain p).reg (eaveA p 0x10) = h.reg (eaveA p 0x10) ∧
      (h.enterTrain p).port p = { h.port p with state := .train, savedTaps := none } ∧
      ∀ l, l < 19 → (h.enterTrain p).reg (eaveA p (0x200 + 4 * l)) = tapsWord (((h.port p).savedTaps.getD []).getD l (4, 8)) := by
  obtain ⟨htaps, hlow⟩ := startTaps_reg h p (h.port p).savedTaps
  have hport := port_startTaps h p p (h.port p).savedTaps
  have he : h.enterTrain p = (((h.startTaps p (h.port p).savedTaps).updPort p
    fun pt => { pt with state := .train, savedTaps := none }).fset (hostifA 0x80) 0 0 0).reportPort p := rfl
  generalize h.startTaps p (h.port p).savedTaps = g at *
  have hreg : ∀ o, (h.enterTrain p).reg (eaveA p o) = g.reg (eaveA p o) := fun o => by
    rw [he, (told_reportPort _ p).reg, reg_fset, if_neg (by unfold eaveA hostifA; omega)]
    rfl
  refine ⟨(hreg _).trans (hlow _ (by omega)), ?_, fun l hl => (hreg _).trans (htaps l hl)⟩
  have hm : (((g.updPort p fun pt => { pt with state := .train, savedTaps := none }).fset (hostifA 0x80) 0 0 0)).port p =
      { g.port p with state := .train, savedTaps := none } :=
    (port_setReg _ _ _ p).trans (port_updPort_same g p _)
  rw [he, Hw.reportPort, port_tellNeighbours _ _ _ (by rw [hm]; exact nofun), hm, hport]

theorem train_taps (kept : Option (List (Nat × Nat))) (l : Nat) :
    (kept.getD []).getD l (4, 8) = match kept with | some kept => kept.getD l (4, 8) | none => (4, 8) := by
  cases kept <;> rfl

/-- Signal falls on a port in training: its departure for DETECT is counted (R219). -/
theorem execSignalDetectFall_few {h : Hw} {p : Nat} (hp : p < 12) (lanes : BitVec 19) (hps : h.pstate < 3)
    (hst : (h.port p).state = .train ∨ (h.port p).state = .align ∨ (h.port p).state = .calibrate)
    (hfew : onesOf (h.reg (eaveA p 0x10) &&& ~~~ lanes.setWidth 32) 19 < 12) :
    execSignalDetectFall h p lanes =
      ((h.eset p 0x10 18 0 (h.eget p 0x10 18 0 &&& (2 ^ 19 - 1 - lanes.toNat))).bump (eaveA p 8) 15 8).restartPort p := by
  have hw := portWork_eset h (p := p) (o := 0x10) (by omega) 18 0 (h.eget p 0x10 18 0 &&& (2 ^ 19 - 1 - lanes.toNat))
  have hcount : (h.eset p 0x10 18 0 (h.eget p 0x10 18 0 &&& (2 ^ 19 - 1 - lanes.toNat))).sigCount p < 12 := by
    rw [← onesOf_setFld_fall] at hfew
    rw [Hw.sigCount, Hw.eset, Hw.fset, reg_setReg_same]
    exact hfew
  have hstate : (h.eset p 0x10 18 0 (h.eget p 0x10 18 0 &&& (2 ^ 19 - 1 - lanes.toNat))).port p = h.port p := rfl
  rw [execSignalDetectFall, if_neg (by omega)]
  dsimp only
  generalize h.eset p 0x10 18 0 (h.eget p 0x10 18 0 &&& (2 ^ 19 - 1 - lanes.toNat)) = g at hw hcount hstate ⊢
  rw [hw.pstate, if_neg (by omega), hstate]
  rcases hst with e | e | e <;> rw [e] <;> simp [hcount]

theorem portWork_bump (h : Hw) {p o : Nat} (ho : o < 0x10000) (hi lo : Nat) : PortWork p h (h.bump (eaveA p o) hi lo) :=
  portWork_setReg h ho _

/-- A departure for DETECT that is counted as a loss (Table 8.14). -/
theorem lossCounted_fields {h a : Hw} {p : Nat} (hw : PortWork p h a) (hport : a.port p = h.port p)
    (hreg : a.reg (eaveA p 8) = h.reg (eaveA p 8)) :
    let g := (a.bump (eaveA p 8) 15 8).restartPort p
    LeftLink p .detect h g ∧ g.fget (eaveA p 8) 7 0 = 0 ∧ g.fget (eaveA p 8) 15 8 = min 255 (h.fget (eaveA p 8) 15 8 + 1) := by
  have hb := hw.trans (portWork_bump a (p := p) (o := 8) (by omega) 15 8)
  have hcount : (a.bump (eaveA p 8) 15 8).fget (eaveA p 8) 15 8 = min 255 (h.fget (eaveA p 8) 15 8 + 1) := by
    rw [fget_bump_same a _ 1 (by omega), Hw.fget, Hw.fget, hreg]
    rfl
  have hport' : (a.bump (eaveA p 8) 15 8).port p = h.port p := hport
  generalize a.bump (eaveA p 8) 15 8 = b at hb hcount hport' ⊢
  refine ⟨leftLink_restartPort hb hport', (restartPort_fields b p).2.2.1, ?_⟩
  have hk := (departs_enterDetect (b.eset p 8 7 0 0) p).1.kept 8 (by omega) (by omega) (by omega)
  exact (congrArg (fld · 15 8) hk).trans ((fget_fset_ne b _ _ 15 8 7 0 0 (by omega) (by omega)).trans hcount)

theorem signalDetectFall_fields (h : Hw) {p : Nat} (hp : p < 12) (lanes : BitVec 19) (hps : h.pstate < 3)
    (hst : (h.port p).state = .train ∨ (h.port p).state = .align ∨ (h.port p).state = .calibrate)
    (hfew : onesOf (h.reg (eaveA p 0x10) &&& ~~~ lanes.setWidth 32) 19 < 12) :
    let g := execSignalDetectFall h p lanes
    LeftLink p .detect h g ∧ g.fget (eaveA p 8) 7 0 = 0 ∧ g.fget (eaveA p 8) 15 8 = min 255 (h.fget (eaveA p 8) 15 8 + 1) := by
  rw [execSignalDetectFall_few hp lanes hps hst hfew]
  generalize h.eget p 0x10 18 0 &&& (2 ^ 19 - 1 - lanes.toNat) = x
  exact lossCounted_fields (portWork_eset h (by omega) 18 0 x) rfl (reg_eset_ne h 18 0 x (by omega))

/-! ## ALIGN is entered (R221) -/

theorem mapRoles_port (h : Hw) (p : Nat) :
    (h.mapRoles p).port p = { h.port p with spareDead := ((h.mapRoles p).port p).spareDead } := by
  rw [Hw.mapRoles]
  dsimp only
  rw [port_updPort_same]
  generalize hg : (List.range 18).foldl _ h = g
  have hp : g.port p = h.port p := by
    rw [← hg]
    refine List.foldlRecOn (motive := fun g : Hw => g.port p = h.port p) _ _ rfl fun g hg r _ => ?_
    split
    · exact hg
    · exact hg
  rw [← hp]
  rfl

theorem enterAlign_port (h : Hw) (p : Nat) :
    ((h.enterAlign p).port p).state = .align ∧ ((h.enterAlign p).port p).lanes = (h.port p).lanes := by
  rw [Hw.enterAlign, port_updPort_same]
  exact ⟨rfl, by rw [mapRoles_port]⟩

/-! ## Symbols and events, as far as a link that is lost needs them -/

/-- From h to g symbols have been sent and events raised; those that were there before are there still. -/
structure Alarmed (h g : Hw) : Prop where
  conf : g.conf = h.conf
  reg : ∀ a, g.reg a = h.reg a
  source : g.seq.srcPending = h.seq.srcPending
  syms : ∀ x ∈ h.seq.syms, x ∈ g.seq.syms
  path : ∀ e ∈ h.fault.path, e ∈ g.fault.path
  ports : ∀ q, h.conf.treePorts.contains q = false → g.port q = h.port q

theorem Alarmed.refl (h : Hw) : Alarmed h h := ⟨rfl, fun _ => rfl, rfl, fun _ => id, fun _ => id, fun _ _ => rfl⟩

theorem Alarmed.trans {h g k : Hw} (a : Alarmed h g) (b : Alarmed g k) : Alarmed h k :=
  ⟨b.conf.trans a.conf, fun x => (b.reg x).trans (a.reg x), b.source.trans a.source, fun x hx => b.syms x (a.syms x hx),
    fun e he => b.path e (a.path e he), fun q hq => (b.ports q (by rw [a.conf]; exact hq)).trans (a.ports q hq)⟩

/-- The ports that a symbol is not sent on. -/
theorem Store.get_map_of_key {α : Type} (d : α) (m : Store α) (c : Nat → Bool) (f : α → α) {k : Nat} (hk : c k = false) :
    Store.get d (m.map fun kv => if c kv.1 then (kv.1, f kv.2) else kv) k = Store.get d m k := by
  induction m with
  | nil => rfl
  | cons kv m ih =>
    obtain ⟨a, v⟩ := kv
    rw [List.map_cons]
    by_cases ha : a = k
    · rw [ha, hk]
      simp [Store.get]
    · have hskip : ∀ (w : α) (n : Store α), Store.get d ((a, w) :: n) k = Store.get d n k := fun w n => if_neg (Ne.symm ha)
      split
      · rw [hskip, hskip, ih]
      · rw [hskip, hskip, ih]

theorem alarmed_sendSym (h : Hw) (k : SymKind) (a : Nat) : Alarmed h (h.sendSym k a) := by
  unfold Hw.sendSym
  split
  · exact .refl h
  · exact ⟨rfl, fun _ => rfl, rfl, fun x hx => List.mem_append_left _ hx, fun _ => id,
      fun q hq => Store.get_map_of_key _ _ _ (fun pt : EavePort => { pt with txSyms := pt.txSyms ++ [_] }) hq⟩

theorem alarmed_sendHaltAtEnd (h : Hw) (reason : Nat) : Alarmed h (h.sendHaltAtEnd reason) := by
  unfold Hw.sendHaltAtEnd
  split
  · exact alarmed_sendSym h _ _
  · exact .refl h

theorem alarmed_raiseWith (h : Hw) (id : Nat) (d : Word32) (p : Bool) : Alarmed h (h.raiseWith id d p) :=
  ⟨rfl, fun _ => rfl, rfl, fun _ hx => hx, fun e he => by
    rw [Hw.raiseWith]
    dsimp only
    split
    · exact List.mem_append_left _ he
    · exact he, fun _ _ => rfl⟩

theorem alarmed_poison (h : Hw) : Alarmed h h.poison := by
  unfold Hw.poison
  split
  · have hp : Alarmed h { h with seq := { h.seq with poisoned := true } } := ⟨rfl, fun _ => rfl, rfl, fun _ => id, fun _ => id, fun _ _ => rfl⟩
    exact (hp.trans (alarmed_raiseWith ..)).trans (alarmed_sendHaltAtEnd ..)
  · exact .refl h

theorem alarmed_raisePoison (h : Hw) (id : Nat) (d : Word32) : Alarmed h (h.raisePoison id d) :=
  (alarmed_raiseWith h id d _).trans (alarmed_poison _)

theorem Alarmed.pstate {h g : Hw} (a : Alarmed h g) : g.pstate = h.pstate := congrArg (fld · 2 0) (a.reg _)

/-- An event is on the path once it has been raised (R409). -/
theorem mem_raiseWith {h : Hw} (hp : h.pstate < 3) (id : Nat) (d : Word32) (p : Bool) :
    ∃ e ∈ (h.raiseWith id d p).fault.path, e.id = id ∧ e.poison = p :=
  ⟨⟨id, d, h.seq.frame, p, h.seq.ticks⟩, by rw [Hw.raiseWith]; dsimp only; rw [if_pos hp]; exact List.mem_append_right _ List.mem_cons_self, rfl, rfl⟩

/-! ## A lost partner (R254, R255) -/

theorem partnerLost_idle {h : Hw} {p : Nat} (hc : h.carries p = false) : h.partnerLost p = (h.enterDetect p).raise (evLinkLost p) := by
  rw [Hw.partnerLost]
  simp [hc]

/-- The configuration is broken at port p, and a module cut off from its head waits for its own reference (R32, R255). -/
def Hw.breakAt (h : Hw) (p : Nat) (cut busy : Bool) : Hw :=
  { h with
    conf := { h.conf with
      broken := true
      treePorts := h.conf.treePorts.filter (· != p)
      uplink := if cut then none else h.conf.uplink }
    seq := { h.seq with srcPending := if cut && busy then some 0 else h.seq.srcPending } }

theorem breakAt_fault (h : Hw) (p : Nat) (cut busy : Bool) : (h.breakAt p cut busy).fault = h.fault := rfl

theorem breakAt_reg (h : Hw) (p : Nat) (cut busy : Bool) (a : Nat) : (h.breakAt p cut busy).reg a = h.reg a := rfl

theorem breakAt_devIndex (h : Hw) (p : Nat) (cut busy : Bool) : (h.breakAt p cut busy).devIndex = h.devIndex := rfl

theorem OnlyRegs.devIndex {as : List Nat} {h g : Hw} (o : OnlyRegs as h g) : g.devIndex = h.devIndex := by rw [o.1]

theorem breakAt_port (h : Hw) (p : Nat) (cut busy : Bool) (q : Nat) : (h.breakAt p cut busy).port q = h.port q := rfl

theorem OnlyRegs.port {as : List Nat} {h g : Hw} (o : OnlyRegs as h g) (q : Nat) : g.port q = h.port q := by rw [o.1]; rfl

theorem OnlyRegs.fault {as : List Nat} {h g : Hw} (o : OnlyRegs as h g) : g.fault = h.fault := by rw [o.1]

/-- What the clock of a module cut off from its head does. -/
def Hw.cutClock (h : Hw) (cut busy : Bool) : Hw :=
  if cut then (if busy then h.fset 0x44 6 6 0 else (h.fset 0x44 1 0 0).lockPll) else h

theorem partnerLost_carried {h : Hw} {p : Nat} (hc : h.carries p = true) :
    h.partnerLost p =
      let cut := decide (h.conf.uplink = some p)
      let g := ((h.enterDetect p).breakAt p cut h.framesOn).cutClock cut h.framesOn
      if h.framesOn then ((g.sendHaltAtEnd 4).raisePoison (evLinkLost p)).raise evConfigBroken
      else (g.raise (evLinkLost p)).raise evConfigBroken := by
  rw [Hw.partnerLost, hc]
  simp only [Bool.not_true, Bool.false_eq_true, if_false, Hw.breakAt, Hw.cutClock, Bool.and_eq_true, decide_eq_true_eq]

theorem cutClock_only (h : Hw) (cut busy : Bool) : OnlyRegs [0x44] h (h.cutClock cut busy) := by
  unfold Hw.cutClock
  cases cut
  · exact (OnlyRegs.refl h).mono (by simp)
  · cases busy
    · exact ((onlyRegs_fset h 0x44 1 0 0).trans (lockPll_fields _).2.2).mono (by simp)
    · exact onlyRegs_fset h 0x44 6 6 0

theorem cutClock_unlocked (h : Hw) : (h.cutClock true true).bget 0x44 6 = false :=
  (bget_fset h 0x44 0x44 6 6 6 0 (by omega)).trans rfl

theorem cutClock_local (h : Hw) : (h.cutClock true false).fget 0x44 1 0 = 0 :=
  (lockPll_fields _).1.trans (fget_fset_same h 0x44 1 0 0 (by omega))

/-- The state in which the events of a lost partner are raised. -/
theorem brokenAt_fields (h : Hw) (p : Nat) (cut busy : Bool) :
    let g := ((h.enterDetect p).breakAt p cut busy).cutClock cut busy
    g.port p = (h.port p).departed .detect ∧ g.pstate = h.pstate ∧
      g.conf = { h.conf with broken := true, treePorts := h.conf.treePorts.filter (· != p), uplink := if cut then none else h.conf.uplink } ∧
      g.seq = { h.seq with srcPending := if cut && busy then some 0 else h.seq.srcPending } ∧ g.devIndex = h.devIndex ∧
      g.fault = h.fault := by
  intro g
  have honly := cutClock_only ((h.enterDetect p).breakAt p cut busy) cut busy
  obtain ⟨d, -⟩ := departs_enterDetect h p
  have hreg : g.reg (powerA 0) = (h.enterDetect p).reg (powerA 0) :=
    (honly.2 _ (by decide)).trans (breakAt_reg (h.enterDetect p) p cut busy _)
  have hg : g = { (h.enterDetect p).breakAt p cut busy with regs := g.regs } := honly.1
  have hdev : g.devIndex = (h.enterDetect p).devIndex := honly.devIndex.trans (breakAt_devIndex (h.enterDetect p) p cut busy)
  have hport : g.port p = (h.enterDetect p).port p := (honly.port p).trans (breakAt_port (h.enterDetect p) p cut busy p)
  have hfault : g.fault = (h.enterDetect p).fault := honly.fault.trans (breakAt_fault (h.enterDetect p) p cut busy)
  clear_value g
  have hps : g.pstate = h.pstate := (congrArg (fld · 2 0) hreg).trans d.work.pstate
  exact ⟨hport.trans d.port, hps,
    (congrArg Hw.conf hg).trans (by rw [← d.work.conf]; rfl), (congrArg Hw.seq hg).trans (by rw [← d.work.seq]; rfl),
    hdev.trans d.work.devIndex, hfault.trans d.work.fault⟩

/-- Frames that run count as busy. -/
theorem busy_of_framesOn {h : Hw} (hf : h.framesOn = true) : h.busy = true := by
  by_contra hb
  exact absurd hf (by rw [framesOn_of_not_busy (by simpa using hb)]; decide)

theorem busy_congr {h g : Hw} (hr : g.seq.run = h.seq.run) (hs : g.seq.syms = h.seq.syms) : g.busy = h.busy := by
  rw [Hw.busy, Hw.busy, Hw.startWaits, Hw.startWaits, Hw.startSent, Hw.startSent, hr, hs]

theorem mem_sendHaltAtEnd {h : Hw} (hb : h.busy = true) (hr : h.seq.run ≠ .empty) (reason : Nat) :
    ∃ x ∈ (h.sendHaltAtEnd reason).seq.syms, x.kind = .haltAtEnd ∧ x.arg = reason ∧ x.origin = h.devIndex ∧ x.sent = h.seq.clk := by
  rw [Hw.sendHaltAtEnd, Hw.canHalt, if_pos hb, Hw.sendSym, if_neg hr]
  exact ⟨_, List.mem_append_right _ List.mem_cons_self, rfl, rfl, rfl, rfl⟩

/-- What the loss of a partner that carries the configuration leaves. -/
def LostLink (p : Nat) (h g : Hw) : Prop :=
  g.port p = (h.port p).departed .detect ∧ g.conf.broken = true ∧ g.conf.treePorts = h.conf.treePorts.filter (· != p) ∧
    OnPath (evLinkLost p) h g ∧ (h.pstate < 3 → ∃ e ∈ g.fault.path, e.id = evConfigBroken ∧ e.poison = false)

theorem partnerLost_running {h : Hw} {p : Nat} (hc : h.carries p = true) (hf : h.framesOn = true) :
    LostLink p h (h.partnerLost p) ∧
      (h.seq.run ≠ .empty → ∃ x ∈ (h.partnerLost p).seq.syms, x.kind = .haltAtEnd ∧ x.arg = 4 ∧ x.origin = h.devIndex ∧ x.sent = h.seq.clk) ∧
      (h.conf.uplink = some p → (h.partnerLost p).conf.uplink = none ∧ (h.partnerLost p).seq.srcPending = some 0 ∧
        (h.partnerLost p).bget 0x44 6 = false) := by
  obtain ⟨hport, hps, hconf, hseq, hdev, hfault⟩ := brokenAt_fields h p (decide (h.conf.uplink = some p)) true
  have hclk : h.conf.uplink = some p →
      (((h.enterDetect p).breakAt p (decide (h.conf.uplink = some p)) true).cutClock (decide (h.conf.uplink = some p)) true).bget 0x44 6 = false :=
    fun e => by rw [decide_eq_true e]; exact cutClock_unlocked _
  rw [partnerLost_carried hc, hf]
  dsimp only
  rw [if_pos rfl]
  generalize ((h.enterDetect p).breakAt p (decide (h.conf.uplink = some p)) true).cutClock (decide (h.conf.uplink = some p)) true = g at *
  have hbusy : g.busy = true := by
    rw [busy_congr (h := h) (by rw [hseq]) (by rw [hseq])]
    exact busy_of_framesOn hf
  have hhalt := alarmed_sendHaltAtEnd g 4
  have hpoison := alarmed_raisePoison (g.sendHaltAtEnd 4) (evLinkLost p) 0
  have hraise := alarmed_raiseWith ((g.sendHaltAtEnd 4).raisePoison (evLinkLost p)) evConfigBroken 0 false
  have hall := (hhalt.trans hpoison).trans hraise
  have hlost : OnPath (evLinkLost p) h ((g.sendHaltAtEnd 4).raisePoison (evLinkLost p)) := fun hlt => by
    obtain ⟨e, he, hid, -⟩ := mem_raiseWith (h := g.sendHaltAtEnd 4) (by rw [hhalt.pstate, hps]; exact hlt) (evLinkLost p) 0
      (g.sendHaltAtEnd 4).frameRuns
    exact ⟨e, (alarmed_poison _).path e he, hid⟩
  have hev : OnPath (evLinkLost p) h (((g.sendHaltAtEnd 4).raisePoison (evLinkLost p)).raise evConfigBroken) ∧
      (h.pstate < 3 → ∃ e ∈ (((g.sendHaltAtEnd 4).raisePoison (evLinkLost p)).raise evConfigBroken).fault.path,
        e.id = evConfigBroken ∧ e.poison = false) :=
    ⟨fun hlt => by
      obtain ⟨e, he, hid⟩ := hlost hlt
      exact ⟨e, hraise.path e he, hid⟩,
     fun hlt => mem_raiseWith (by rw [(hhalt.trans hpoison).pstate, hps]; exact hlt) evConfigBroken 0 false⟩
  change Alarmed g (((g.sendHaltAtEnd 4).raisePoison (evLinkLost p)).raise evConfigBroken) at hall
  have hgtree : g.conf.treePorts.contains p = false := by rw [hconf]; simp
  refine ⟨⟨(hall.ports p hgtree).trans hport, by rw [hall.conf, hconf], by rw [hall.conf, hconf], hev⟩, fun hr => ?_, fun hu => ?_⟩
  · obtain ⟨x, hx, hkind, harg, horigin, hsent⟩ := mem_sendHaltAtEnd hbusy (by rw [hseq]; exact hr) 4
    exact ⟨x, (hpoison.trans hraise).syms x hx, hkind, harg, horigin.trans hdev, hsent.trans (by rw [hseq])⟩
  · refine ⟨by rw [hall.conf, hconf]; simp [hu], by rw [hall.source, hseq]; simp [hu], ?_⟩
    exact (congrArg (bit · 6) (hall.reg 0x44)).trans (hclk hu)

theorem partnerLost_halted {h : Hw} {p : Nat} (hc : h.carries p = true) (hf : h.framesOn = false) :
    LostLink p h (h.partnerLost p) ∧ (h.partnerLost p).seq = h.seq ∧
      (h.conf.uplink = some p → (h.partnerLost p).conf.uplink = none ∧ (h.partnerLost p).fget 0x44 1 0 = 0) := by
  obtain ⟨hport, hps, hconf, hseq, hdev, hfault⟩ := brokenAt_fields h p (decide (h.conf.uplink = some p)) false
  have hclk : h.conf.uplink = some p →
      (((h.enterDetect p).breakAt p (decide (h.conf.uplink = some p)) false).cutClock (decide (h.conf.uplink = some p)) false).fget 0x44 1 0 = 0 :=
    fun e => by rw [decide_eq_true e]; exact cutClock_local _
  rw [partnerLost_carried hc, hf]
  dsimp only
  rw [if_neg Bool.false_ne_true]
  generalize ((h.enterDetect p).breakAt p (decide (h.conf.uplink = some p)) false).cutClock (decide (h.conf.uplink = some p)) false = g at *
  have hfirst : Alarmed g (g.raise (evLinkLost p)) := alarmed_raiseWith g (evLinkLost p) 0 false
  have hall := hfirst.trans (alarmed_raiseWith (g.raise (evLinkLost p)) evConfigBroken 0 false)
  change Alarmed g ((g.raise (evLinkLost p)).raise evConfigBroken) at hall
  refine ⟨⟨hport, by rw [hall.conf, hconf], by rw [hall.conf, hconf], fun hlt => ?_, fun hlt => ?_⟩, ?_, fun hu => ⟨?_, ?_⟩⟩
  · obtain ⟨e, he, hid, -⟩ := mem_raiseWith (h := g) (by rw [hps]; exact hlt) (evLinkLost p) 0 false
    exact ⟨e, (alarmed_raiseWith (g.raise (evLinkLost p)) ..).path e he, hid⟩
  · exact mem_raiseWith (by rw [hfirst.pstate, hps]; exact hlt) evConfigBroken 0 false
  · change g.seq = h.seq
    rw [hseq, Bool.and_false]
    rfl
  · rw [hall.conf, hconf, decide_eq_true hu]
    rfl
  · exact (congrArg (fld · 1 0) (hall.reg 0x44)).trans (hclk hu)

/-- A port's CTRL has been written, and has not acted yet. -/
def Hw.ctrlSet (h : Hw) (p : Nat) (v : Word32) : Hw := h.setReg (eaveA p 0) (v &&& 0xFF05#32)

theorem ctrlWritten (h : Hw) {p : Nat} (hp : p < 12) (v : Word32) :
    (PortWork p h (h.ctrlSet p v) ∧ (h.ctrlSet p v).port p = h.port p ∧ (h.ctrlSet p v).reg (eaveA p 0) = v &&& 0xFF05#32) ∧
      (bit v 0 = false → (h.port p).state ≠ .disabled → h.writePortCtrl p v = (h.ctrlSet p v).forgetLink p .disabled) ∧
      (bit v 0 = true → (h.port p).state = .disabled → (h.port p).started = true →
        h.writePortCtrl p v = (h.ctrlSet p v).enterDetect p) ∧
      (bit v 0 = true → bit v 1 = true → (h.port p).state ≠ .disabled → h.writePortCtrl p v = (h.ctrlSet p v).restartPort p) := by
  have hport : (h.ctrlSet p v).port p = h.port p := rfl
  have he : h.writePortCtrl p v = if !bit v 0 then (if ((h.ctrlSet p v).port p).state = .disabled then h.ctrlSet p v
        else (h.ctrlSet p v).forgetLink p .disabled)
      else if ((h.ctrlSet p v).port p).state = .disabled then
        (if ((h.ctrlSet p v).port p).started then (h.ctrlSet p v).enterDetect p else h.ctrlSet p v)
      else if bit v 1 then (h.ctrlSet p v).restartPort p else h.ctrlSet p v := if_neg (by omega)
  rw [hport] at he
  refine ⟨⟨portWork_setReg h (by omega) _, hport, reg_setReg_same ..⟩, fun h0 hst => ?_, fun h0 hst hs => ?_, fun h0 h1 hst => ?_⟩
  · rw [he, if_pos (by simp [h0]), if_neg hst]
  · rw [he, if_neg (by simp [h0]), if_pos hst, if_pos hs]
  · rw [he, if_neg (by simp [h0]), if_neg hst, if_pos h1]

section
variable (s : State) (p : Nat) (hp : p < 12)
include hp

theorem execPortStart_starts (hr : s.hw.host.ready = true) (hst : (s.hw.port p).state = .disabled) (hen : s.hw.bget (eaveA p 0) 0 = true) :
    LeftLink p .detect s.hw (execPortStart s.hw p) ∧ ((execPortStart s.hw p).port p).started = true := by
  have hport : (s.hw.updPort p fun pt => { pt with started := true }).port p = { s.hw.port p with started := true } :=
    port_updPort_same ..
  have hw : PortWork p s.hw (s.hw.updPort p fun pt => { pt with started := true }) := portWork_setPort ..
  have hbit : (s.hw.updPort p fun pt => { pt with started := true }).bget (eaveA p 0) 0 = true := hen
  have he : execPortStart s.hw p = (s.hw.updPort p fun pt => { pt with started := true }).enterDetect p := by
    rw [execPortStart, if_neg (by simp [hr]; omega)]
    dsimp only
    rw [if_pos (by rw [hport, hbit]; simp [hst])]
  rw [he]
  generalize s.hw.updPort p (fun pt => { pt with started := true }) = m at hport hw
  exact ⟨leftLink_enterDetect hw hport, by rw [(departs_enterDetect m p).1.port, hport]; rfl⟩

end

/-- Settles O50: every departure forgets the link in the same way, and the other clauses say what is noted beside it. -/
theorem eavePortStates : Obligations.EavePortStates := by
  intro s p hp
  have wf : ∀ {i : Instr}, i.wellFormed = decide (p < 12) → i.wellFormed = true := fun e => e.trans (decide_eq_true hp)
  have self := PortWork.refl p s.hw
  refine ⟨fun hr hst hen => ?_, fun lanes hst hz => ⟨fun hones hrun => ?_, fun hno => ?_⟩, fun lanes hps hst hz hfew => ?_,
    fun hst => ⟨fun h1 h2 => ?_, fun hno => ?_⟩, fun hst => ?_, fun hst => ?_, fun hst => ?_, fun v h0 h1 hst => ?_,
    fun v => ⟨fun h0 hst => ?_, fun h0 hst hstart => ?_⟩, fun hst hrx hc => ?_, fun hst hrx hc => ?_⟩
  · exact does_of (wf rfl) (execPortStart_starts s p hp hr hst hen)
  · have hf := enterTrain_fields (s.hw.noteSignal p lanes) hp
    rw [noteSignal_eq, reg_setReg_same, ← noteSignal_eq] at hf
    refine does_of (wf rfl) ?_
    rw [effect, execSignalDetectRise_detect hp lanes hst, if_pos ⟨hrun, hones⟩]
    refine ⟨hf.1, hf.2.1, fun l hl => (hf.2.2 l hl).trans ?_⟩
    exact congrArg tapsWord (train_taps _ l)
  · refine does_of (wf rfl) ?_
    rw [effect, execSignalDetectRise_detect hp lanes hst, if_neg (by omega), noteSignal_eq]
    exact ⟨reg_setReg_same .., onlyRegs_setReg ..⟩
  · exact does_of (wf rfl) (signalDetectFall_fields s.hw hp lanes hps hst hfew)
  · refine does_of (wf rfl) ?_
    rw [effect, execTrainTimeout]
    simp only [hst, ne_eq, not_true_eq_false, if_false, h1, h2, and_self, if_true]
    exact enterAlign_port s.hw p
  · refine does_of (wf rfl) ?_
    rw [effect, execTrainTimeout]
    simp only [hst, ne_eq, not_true_eq_false, if_false]
    rw [if_neg (by omega)]
    exact failTraining_fields s.hw p (by omega)
  · refine does_of (wf rfl) ?_
    rw [effect, execAlignTimeout, if_pos hst]
    exact failTraining_fields s.hw p (by omega)
  · refine does_of (wf rfl) ?_
    rw [effect, execCalibrateTimeout, if_pos hst]
    exact failTraining_fields s.hw p (by omega)
  · refine does_of (wf rfl) ?_
    rw [effect, execRetryWaitEnd, if_pos hst]
    exact leftLink_enterDetect self rfl
  · refine does_of (wf rfl) ?_
    obtain ⟨hreg, -, -, hwrite⟩ := ctrlWritten s.hw hp v
    obtain ⟨hw, hport, hr⟩ := hreg
    rw [effect, execPortRetrain, if_pos h1, hwrite h0 h1 hst]
    exact ⟨leftLink_restartPort hw hport, (restartPort_fields _ p).2.2.1, (restartPort_fields _ p).2.2.2.trans hr⟩
  · refine does_of (wf rfl) ?_
    obtain ⟨⟨hw, hport, hr⟩, hoff, -, -⟩ := ctrlWritten s.hw hp v
    rw [effect, execPortEnableWrite, hoff h0 hst]
    exact ⟨leftLink_forgetLink hw hport (by decide) (by decide),
      ((departs_forgetLink _ p (by decide)).kept 0 (by omega) (by omega) (by omega)).trans hr⟩
  · refine does_of (wf rfl) ?_
    obtain ⟨⟨hw, hport, hr⟩, -, hon, -⟩ := ctrlWritten s.hw hp v
    rw [effect, execPortEnableWrite, hon h0 hst hstart]
    exact ⟨leftLink_enterDetect hw hport, ((departs_enterDetect _ p).1.kept 0 (by omega) (by omega) (by omega)).trans hr⟩
  · refine does_of (wf rfl) ?_
    rw [effect, execMarkerTimeout, if_pos (by simp [hst, hrx]), partnerLost_idle hc]
    exact ⟨(leftLink_enterDetect self rfl).raise _, (departs_enterDetect s.hw p).1.work.raised _⟩
  · refine does_of (wf rfl) ?_
    rw [effect, execMarkerTimeout, if_pos (by simp [hst, hrx])]
    cases hf : s.hw.framesOn
    · obtain ⟨hlost, hseq, hup⟩ := partnerLost_halted hc hf
      exact ⟨hlost, nofun, fun _ => ⟨hseq, hup⟩⟩
    · obtain ⟨hlost, hhalt, hup⟩ := partnerLost_running hc hf
      exact ⟨hlost, fun _ hr => ⟨hhalt hr, hup⟩, nofun⟩

end Sys2Proof.Machine
end

section
-- As the tests above: declarations in order, so that checking the one text stays within its memory.
set_option Elab.async false
/-!
PROOFS. Areas of POOL: POOL_ALLOC and POOL_FREE (O22).
-/

namespace Sys2Proof.Machine

/-! ## What an allocation leaves alone -/

/-- From h to g the list of areas and registers have changed, and free values have been taken. -/
def PoolOnly (h g : Hw) : Prop := g = { h with pool := g.pool, regs := g.regs, free := g.free }

theorem OnlyRegs.poolOnly {as : List Nat} {h g : Hw} (o : OnlyRegs as h g) : PoolOnly h g := by
  unfold PoolOnly
  rw [o.1]

theorem PoolOnly.trans {h g k : Hw} (a : PoolOnly h g) (b : PoolOnly g k) : PoolOnly h k := by
  unfold PoolOnly at *
  rw [b, a]

theorem PoolOnly.img {h g : Hw} (a : PoolOnly h g) : g.img = h.img := by rw [a]

/-! ## POOL_FREE_MIB follows the allocation (R194) -/

theorem noteFree_fields (h : Hw) : OnlyRegs [farA 0 8, farA 1 8] h h.noteFree ∧
    (∀ d, d < 2 → h.noteFree.fget (farA d 8) 31 16 = (poolTop - h.designMib d - h.poolUsed d) % 65536) ∧
      ∀ d, h.noteFree.designMib d = h.designMib d := by
  have he : h.noteFree = (h.fset (farA 0 8) 31 16 (poolTop - h.designMib 0 - h.poolUsed 0)).fset (farA 1 8) 31 16
      (poolTop - (h.fset (farA 0 8) 31 16 (poolTop - h.designMib 0 - h.poolUsed 0)).designMib 1 - h.poolUsed 1) := rfl
  have hmib : ∀ (g : Hw) e v d, (g.fset (farA e 8) 31 16 v).designMib d = g.designMib d := fun g e v d =>
    fget_fset_ne g _ _ 15 0 31 16 v (by omega) (by omega)
  have hne : farA 0 8 ≠ farA 1 8 := by decide
  rw [he, hmib]
  refine ⟨(onlyRegs_fset ..).trans (onlyRegs_fset ..), fun d hd => ?_, fun d => by rw [hmib, hmib]⟩
  obtain rfl | rfl : d = 0 ∨ d = 1 := by omega
  · rw [fget_fset_ne _ _ _ _ _ _ _ _ (by omega) (.inl hne), fget_fset_same _ _ _ _ _ (by omega)]; norm_num
  · rw [fget_fset_same _ _ _ _ _ (by omega)]; norm_num

theorem poolFloor_congr {h g : Hw} (hi : g.img = h.img) {d : Nat} (hm : g.designMib d = h.designMib d) : g.poolFloor d = h.poolFloor d := by
  rw [Hw.poolFloor, Hw.poolFloor, hi, hm]

/-! ## Freeing (R463) -/

/-- The areas of POOL of other kinds and slots. -/
def Hw.otherAreas (h : Hw) (kind slot : Nat) : List PoolArea := h.pool.filter fun a => !(a.kind == kind && a.slot == slot)

theorem release_fields (h : Hw) (kind slot : Nat) : PoolOnly h (h.release kind slot) ∧
    (h.release kind slot).pool = h.otherAreas kind slot ∧ (h.release kind slot).free = h.free ∧
    (∀ d, d < 2 → (h.release kind slot).fget (farA d 8) 31 16 =
      (poolTop - h.designMib d - (h.release kind slot).poolUsed d) % 65536) ∧
    (∀ d, (h.release kind slot).designMib d = h.designMib d) ∧
    ∀ a, a ≠ farA 0 8 → a ≠ farA 1 8 → (h.release kind slot).reg a = h.reg a := by
  have hr : h.release kind slot = ({ h with pool := h.otherAreas kind slot } : Hw).noteFree := rfl
  obtain ⟨honly, hfree, hmib⟩ := noteFree_fields { h with pool := h.otherAreas kind slot }
  rw [← hr] at honly hfree hmib
  generalize h.release kind slot = g at *
  have hpool : g.pool = h.otherAreas kind slot := by rw [honly.1]
  refine ⟨(show PoolOnly h { h with pool := h.otherAreas kind slot } from rfl).trans honly.poolOnly, hpool, by rw [honly.1],
    fun d hd => (hfree d hd).trans ?_, hmib, fun a h0 h1 => honly.2 a (by simp [h0, h1])⟩
  rw [Hw.poolUsed, Hw.poolUsed, hpool]
  rfl

/-- Work after the release of an area: the registers that name it, and the list of snapshot areas. -/
theorem freeArea_snap (h : Hw) (slot : Nat) :
    let g := h.freeArea 1 slot
    g = { h with pool := h.otherAreas 1 slot, regs := g.regs, snap := { h.snap with areas := Store.set none h.snap.areas slot none } } ∧
      g.reg (snapSlotA slot 0) = 0 ∧ (slot < 16 → ∀ d, d < 2 → g.reg (farA d 8) = (h.release 1 slot).reg (farA d 8)) := by
  obtain ⟨honly, hpool, hfree, -, -, -⟩ := release_fields h 1 slot
  have hg : h.freeArea 1 slot = ((({ h.release 1 slot with
      snap := { (h.release 1 slot).snap with areas := Store.set none (h.release 1 slot).snap.areas slot none } } : Hw).setReg
        (snapSlotA slot 0) 0).setReg (snapSlotA slot 4) 0).setReg64 (snapSlotA slot 8) 0 := rfl
  have hreg : ∀ d, (h.release 1 slot).reg (farA d 8) = ({ h.release 1 slot with
      snap := { (h.release 1 slot).snap with areas := Store.set none (h.release 1 slot).snap.areas slot none } } : Hw).reg (farA d 8) :=
    fun _ => rfl
  intro g
  refine ⟨?_, ?_, fun hs d hd => ?_⟩
  · obtain ⟨regs, hr⟩ : ∃ regs, h.release 1 slot = { h with pool := h.otherAreas 1 slot, regs := regs } :=
      ⟨(h.release 1 slot).regs, by rw [← hpool, ← hfree]; exact honly⟩
    change h.freeArea 1 slot = { h with
      pool := h.otherAreas 1 slot, regs := (h.freeArea 1 slot).regs, snap := { h.snap with areas := Store.set none h.snap.areas slot none } }
    rw [hg, hr]
    rfl
  · change (h.freeArea 1 slot).reg _ = 0
    rw [hg, reg_setReg64, if_neg (by unfold snapSlotA hubA; omega), if_neg (by unfold snapSlotA hubA; omega), reg_setReg,
      if_neg (by unfold snapSlotA hubA; omega), reg_setReg_same]
  · change (h.freeArea 1 slot).reg _ = _
    rw [hreg, hg]
    have hlt : ∀ o, o < 0x10 → farA d 8 ≠ snapSlotA slot o := fun o ho => by unfold farA dieBase snapSlotA hubA; omega
    rw [reg_setReg64, if_neg (by have := hlt 12 (by omega); unfold snapSlotA hubA at *; omega), if_neg (hlt 8 (by omega)), reg_setReg,
      if_neg (hlt 4 (by omega)), reg_setReg, if_neg (hlt 0 (by omega))]

theorem freeArea_acq (h : Hw) : h.freeArea 2 0 = (h.release 2 0).setAcqBuffer 0 0 0 := rfl

theorem freeArea_gutter (h : Hw) : h.freeArea 3 0 = h.release 3 0 := rfl

/-! ## Placing (R463) -/

/-- An area of `size` MiB at b fits among others. -/
theorem mem_fits {h : Hw} {d size b : Nat} (hb : b ∈ h.fits d size) :
    h.poolFloor d ≤ b ∧ b + size ≤ poolTop ∧ ∀ a ∈ h.pool, a.die = d → b + size ≤ a.base ∨ a.base + a.size ≤ b := by
  unfold Hw.fits at hb
  dsimp only at hb
  split at hb
  · exact absurd hb List.not_mem_nil
  · obtain ⟨-, hok⟩ := List.mem_filter.1 hb
    simp only [Bool.and_eq_true, decide_eq_true_eq, List.all_eq_true, Bool.or_eq_true, List.mem_filter, beq_iff_eq] at hok
    obtain ⟨⟨h1, h2⟩, h3⟩ := hok
    exact ⟨h1, h2, fun a ha hd => h3 a ⟨ha, hd⟩⟩

theorem allocate_none {h : Hw} {kind slot d size : Nat} (hf : h.fits d size = []) : h.allocate kind slot d size = none := by
  rw [Hw.allocate, hf]

theorem getD_head_mem {α : Type} (b : α) (bs : List α) (i : Nat) : (b :: bs).getD i b ∈ b :: bs := by
  rw [List.getD_eq_getElem?_getD]
  cases hi : (b :: bs)[i]? with
  | none => exact List.mem_cons_self
  | some v => exact List.mem_of_getElem? hi

/-- The state with an area added. -/
def Hw.placed (h : Hw) (a : PoolArea) : Hw := ({ h with pool := h.pool ++ [a], free := h.free + 1 } : Hw).noteFree

theorem allocate_some {h : Hw} (kind slot : Nat) {d size : Nat} (hf : h.fits d size ≠ []) :
    ∃ b ∈ h.fits d size, h.allocate kind slot d size = some (b, h.placed ⟨kind, slot, d, b, size⟩) := by
  rw [Hw.allocate]
  split
  · next e => exact absurd e hf
  · next b bs e =>
    refine ⟨_, ?_, rfl⟩
    rw [e]
    exact getD_head_mem b bs _

theorem placed_fields (h : Hw) (a : PoolArea) : PoolOnly h (h.placed a) ∧ (h.placed a).pool = h.pool ++ [a] ∧
    (h.placed a).free = h.free + 1 ∧ (∀ d, (h.placed a).designMib d = h.designMib d) ∧
    ∀ x, x ≠ farA 0 8 → x ≠ farA 1 8 → (h.placed a).reg x = h.reg x := by
  obtain ⟨honly, -, hmib⟩ := noteFree_fields { h with pool := h.pool ++ [a], free := h.free + 1 }
  change OnlyRegs _ _ (h.placed a) at honly
  change ∀ d, (h.placed a).designMib d = h.designMib d at hmib
  generalize h.placed a = g at *
  exact ⟨(show PoolOnly h { h with pool := h.pool ++ [a], free := h.free + 1 } from rfl).trans honly.poolOnly, by rw [honly.1],
    by rw [honly.1], hmib, fun x h0 h1 => honly.2 x (by simp [h0, h1])⟩

/-! ## A ring buffer: the acquisition buffer or a gutter (R351, R365) -/

theorem words_of_word64 (v : Word64) : (v.extractLsb' 32 32 ++ v.extractLsb' 0 32 : Word64) = v := by
  refine BitVec.eq_of_getLsbD_eq fun i hi => ?_
  rw [BitVec.getLsbD_append, BitVec.getLsbD_extractLsb', BitVec.getLsbD_extractLsb']
  by_cases h : i < 32
  · simp [h]
  · simp [h, show i - 32 < 32 by omega, show 32 + (i - 32) = i by omega]

theorem reg64_setReg64 (h : Hw) (a : Nat) (v : Word64) : (h.setReg64 a v).reg64 a = v := by
  rw [Hw.reg64, reg_setReg64, if_pos rfl, reg_setReg64, if_neg (by omega), if_pos rfl, words_of_word64]

theorem reg64_setReg (h : Hw) {a b : Nat} (v : Word32) (h0 : a ≠ b) (h4 : a + 4 ≠ b) : (h.setReg b v).reg64 a = h.reg64 a := by
  rw [Hw.reg64, reg_setReg, if_neg h4, reg_setReg, if_neg h0, Hw.reg64]

theorem onlyRegs_setReg64 (h : Hw) (a : Nat) (v : Word64) : OnlyRegs [a, a + 4] h (h.setReg64 a v) :=
  (onlyRegs_setReg h a _).trans (onlyRegs_setReg _ (a + 4) _)

/-- The base and the size of a ring buffer in its registers. -/
theorem ringRegs (h : Hw) {a c : Nat} (v : Word64) (w : Word32) (h0 : a ≠ c) (h4 : a + 4 ≠ c) :
    OnlyRegs [a, a + 4, c] h ((h.setReg64 a v).setReg c w) ∧ ((h.setReg64 a v).setReg c w).reg64 a = v ∧
      ((h.setReg64 a v).setReg c w).reg c = w :=
  ⟨(onlyRegs_setReg64 h a v).trans (onlyRegs_setReg _ c w), by rw [reg64_setReg _ _ h0 h4, reg64_setReg64], reg_setReg_same ..⟩

theorem setAcqBuffer_fields (h : Hw) (d b size : Nat) :
    OnlyRegs [acqA 8, acqA 8 + 4, acqA 0x10] h (h.setAcqBuffer d b size) ∧
      (h.setAcqBuffer d b size).reg64 (acqA 8) = BitVec.ofNat 64 (mibBytes b + d * 2 ^ 36) ∧
      (h.setAcqBuffer d b size).reg (acqA 0x10) = BitVec.ofNat 32 (mibBytes size / 16) :=
  ringRegs h _ _ (by unfold acqA; decide) (by unfold acqA; decide)

theorem setGutter_fields (h : Hw) (d b size : Nat) :
    OnlyRegs [traceA 4, traceA 8, traceA 8 + 4, traceA 0x10] h (h.setGutter d b size) ∧ (h.setGutter d b size).bget (traceA 4) 0 = false ∧
      (h.setGutter d b size).reg64 (traceA 8) = BitVec.ofNat 64 (mibBytes b + d * 2 ^ 36) ∧
      (h.setGutter d b size).reg (traceA 0x10) = BitVec.ofNat 32 (mibBytes size / 16) := by
  obtain ⟨honly, hbase, hsize⟩ := ringRegs (h.fset (traceA 4) 0 0 0) (a := traceA 8) (c := traceA 0x10)
    (BitVec.ofNat 64 (mibBytes b + d * 2 ^ 36)) (BitVec.ofNat 32 (mibBytes size / 16)) (by decide) (by decide)
  change OnlyRegs _ _ (h.setGutter d b size) at honly
  change (h.setGutter d b size).reg64 _ = _ at hbase
  refine ⟨(onlyRegs_fset h ..).trans honly, ?_, hbase, hsize⟩
  rw [Hw.bget, honly.2 _ (by decide)]
  exact (bget_fset h (traceA 4) (traceA 4) 0 0 0 0 (by omega)).trans rfl

theorem designMib_congr {h g : Hw} {d : Nat} (e : g.reg (farA d 8) = h.reg (farA d 8)) : g.designMib d = h.designMib d :=
  congrArg (fld · 15 0) e

/-- The release of a ring buffer. -/
theorem freeArea_ring (h : Hw) {kind : Nat} (hk : kind = 2 ∨ kind = 3) :
    PoolOnly h (h.freeArea kind 0) ∧ (h.freeArea kind 0).pool = h.otherAreas kind 0 ∧ (h.freeArea kind 0).free = h.free ∧
      ∀ d, (h.freeArea kind 0).designMib d = h.designMib d := by
  rcases hk with rfl | rfl
  · obtain ⟨honly, hpool, hfree, -, hmib, -⟩ := release_fields h 2 0
    obtain ⟨ho, -, -⟩ := setAcqBuffer_fields (h.release 2 0) 0 0 0
    rw [freeArea_acq]
    refine ⟨honly.trans ho.poolOnly, ?_, ?_, fun d => (designMib_congr (ho.2 _ ?_)).trans (hmib d)⟩
    · rw [ho.1, hpool]
    · rw [ho.1, hfree]
    · simp only [List.mem_cons, List.not_mem_nil, or_false]
      unfold farA dieBase acqA probeA
      omega
  · obtain ⟨honly, hpool, hfree, -, hmib, -⟩ := release_fields h 3 0
    exact ⟨honly, hpool, hfree, hmib⟩

/-- The place of a ring buffer among the other areas, and the state in which its registers are then set. -/
theorem place_ring (h : Hw) {kind d size : Nat} (hk : kind = 2 ∨ kind = 3) (hf : (h.freeArea kind 0).fits d size ≠ []) :
    ∃ b, (h.freeArea kind 0).allocate kind 0 d size = some (b, (h.freeArea kind 0).placed ⟨kind, 0, d, b, size⟩) ∧
      h.poolFloor d ≤ b ∧ b + size ≤ poolTop ∧ (∀ a ∈ h.otherAreas kind 0, a.die = d → b + size ≤ a.base ∨ a.base + a.size ≤ b) ∧
      (h.freeArea kind 0).placed ⟨kind, 0, d, b, size⟩ = { h with
        pool := h.otherAreas kind 0 ++ [⟨kind, 0, d, b, size⟩], free := h.free + 1
        regs := ((h.freeArea kind 0).placed ⟨kind, 0, d, b, size⟩).regs } := by
  obtain ⟨ho, hpool, hfree, hmib⟩ := freeArea_ring h hk
  obtain ⟨b, hb, ha⟩ := allocate_some kind 0 hf
  obtain ⟨hlo, hhi, hothers⟩ := mem_fits hb
  obtain ⟨po, pp, pf, -, -⟩ := placed_fields (h.freeArea kind 0) ⟨kind, 0, d, b, size⟩
  have hall := ho.trans po
  refine ⟨b, ha, by rwa [poolFloor_congr ho.img (hmib d)] at hlo, hhi, by rwa [hpool] at hothers, ?_⟩
  rw [hpool] at pp
  rw [hfree] at pf
  generalize (h.freeArea kind 0).placed ⟨kind, 0, d, b, size⟩ = g at hall pp pf ⊢
  rw [← pp, ← pf]
  exact hall

theorem clearArea_only (h : Hw) (d base lo n : Nat) :
    h.clearArea d base lo n = { h with farMem := (h.clearArea d base lo n).farMem, farWb := (h.clearArea d base lo n).farWb } := rfl

/-- Words of a cleared area read 0, all others as before (Table 13.2). -/
theorem farWord_clearArea (h : Hw) {d b size : Nat} (hb : b + size ≤ poolTop) (e w : Nat) (hw : w < 2 ^ 33) :
    (h.clearArea d (mibBytes b) 0 (mibBytes size / 8)).farWord e w =
      if e = d ∧ mibBytes b / 8 ≤ w ∧ w < mibBytes b / 8 + mibBytes size / 8 then 0 else h.farWord e w := by
  have hb1 : mibBytes b / 8 = b * 131072 := by unfold mibBytes; omega
  have hs1 : mibBytes size / 8 = size * 131072 := by unfold mibBytes; omega
  have hin : inArea d (mibBytes b) 0 (mibBytes size / 8) (farKey e w) =
      decide (e = d ∧ mibBytes b / 8 ≤ w ∧ w < mibBytes b / 8 + mibBytes size / 8) := by
    unfold poolTop at hb
    rw [inArea, ← Bool.decide_and, decide_eq_decide, Nat.add_zero, hb1, hs1]
    unfold farKey
    constructor <;> intro hx <;> omega
  rw [Hw.farWord, Hw.clearArea, Hw.dropFar, Store.get_keep, hin]
  by_cases hc : e = d ∧ mibBytes b / 8 ≤ w ∧ w < mibBytes b / 8 + mibBytes size / 8
  · simp [hc]
  · simp only [hc, decide_false, Bool.not_false, if_true, if_false]
    rfl

/-! ## The commands -/

section
variable (s : State) (k : Nat) (io : HostIo)

theorem arg_two (as : List Byte) (o : Nat) : arg as o 2 = arg as o 1 + 256 * arg as (o + 1) 1 := by
  rw [arg, arg, arg, ← List.drop_drop]
  rcases as.drop o with _ | ⟨a, _ | ⟨b, l⟩⟩ <;> simp [ofBytes]

/-- POOL_ALLOC whose arguments are well formed. -/
theorem poolAlloc_answers {args : List Byte} {kind die slot size : Nat} {far : Bool} (h8 : args.length = 8) (hok : poolArgs args = true)
    (r : SlotRuns s.hw k 0x0404 args) (hkind : arg args 0 1 = kind) (hdie : arg args 1 1 = die) (hslot : arg args 2 1 = slot)
    (hfar : (arg args 3 1 == 1) = far) (hsize : arg args 4 4 = size) :
    (s.hw.areaBusy kind slot = true → Answers (.poolAlloc (.slot k) io) s k stBusy fun m r => m = s.hw ∧ r = []) ∧
    (s.hw.areaBusy kind slot = false → s.hw.poolAlloc kind die slot far size = none →
      Answers (.poolAlloc (.slot k) io) s k stNoResource fun m r => m = s.hw ∧ r = []) ∧
    (s.hw.areaBusy kind slot = false → ∀ b c m, s.hw.poolAlloc kind die slot far size = some ([b, c], m) →
      ∀ P : Hw → List Byte → Prop, P m (bytesOf 8 b ++ bytesOf 8 c) → Answers (.poolAlloc (.slot k) io) s k stOk P) := by
  subst hkind hdie hslot hfar hsize
  have hargs : (isLen 8 args && poolArgs args) = true := by rw [isLen, h8, hok]; rfl
  let f : Call0 → Hw → Nat × List Byte × Hw := fun c h =>
    let kind := arg c.args 0 1
    let slot := arg c.args 2 1
    if h.areaBusy kind slot then (stBusy, [], h)
    else match h.poolAlloc kind (arg c.args 1 1) slot (arg c.args 3 1 == 1) (arg c.args 4 4) with
      | none => (stNoResource, [], h)
      | some (bases, h) => (stOk, bases.flatMap (bytesOf 8), h)
  have ans : ∀ {st : Nat} {reply : List Byte} {mid : Hw} {P : Hw → List Byte → Prop},
      f ⟨.slot k, 0x0404, args, false, []⟩ s.hw = (st, reply, mid) → st < 256 → reply.length ≤ 224 → P mid reply →
      Answers (.poolAlloc (.slot k) io) s k st P := fun hf => answers_of_runNow f r r.1.src_ok rfl rfl hargs rfl rfl hf
  refine ⟨fun hb => ans (if_pos hb) (by decide) (by decide) ⟨rfl, rfl⟩, fun hb hn => ?_, fun hb b c m hm P hP => ?_⟩
  · exact ans ((if_neg (ne_true_of_eq_false hb)).trans (by rw [hn])) (by decide) (by decide) ⟨rfl, rfl⟩
  · refine ans ((if_neg (ne_true_of_eq_false hb)).trans (by rw [hm])) (by decide) ?_ ?_
    · simp [bytesOf_length]
    · simpa using hP

theorem arg_bases {b : Nat} (hb : b ≤ poolTop) {die : Nat} (hdie : die ≤ 1) :
    let r := bytesOf 8 (if die = 0 then mibBytes b else 0) ++ bytesOf 8 (if die = 0 then 0 else mibBytes b)
    r.length = 16 ∧ arg r (8 * die) 8 = mibBytes b ∧ arg r (8 * (1 - die)) 8 = 0 := by
  have hlt : mibBytes b < 256 ^ 8 := by unfold mibBytes; unfold poolTop at hb; omega
  obtain rfl | rfl : die = 0 ∨ die = 1 := by omega
  · refine ⟨by simp [bytesOf_length], arg_bytesOf 8 _ _ hlt, ?_⟩
    exact (arg_skip (by omega)).trans ((arg_field 8 0 []).symm ▸ by simp)
  · refine ⟨by simp [bytesOf_length], ?_, arg_bytesOf 8 0 _ (by omega)⟩
    exact (arg_skip (by omega)).trans ((arg_field 8 (mibBytes b) []).symm ▸ by simpa using hlt)

theorem bases_eq (die m : Nat) : (if die = 0 then [m, 0] else [0, m]) = [if die = 0 then m else 0, if die = 0 then 0 else m] := by
  split <;> rfl

theorem poolAlloc_placed (h : Hw) {kind die size b : Nat} {g : Hw} (hk : kind = 2 ∨ kind = 3)
    (ha : (h.freeArea kind 0).allocate kind 0 die size = some (b, g)) :
    h.poolAlloc kind die 0 false size = some ([if die = 0 then mibBytes b else 0, if die = 0 then 0 else mibBytes b],
      if kind = 2 then g.setAcqBuffer die b size
      else (g.clearArea die (mibBytes b) 0 (mibBytes size / 8)).setGutter die b size) := by
  rw [Hw.poolAlloc]
  dsimp only
  rw [if_neg (by omega), ha]
  dsimp only
  rw [bases_eq]

/-- POOL_ALLOC of a ring buffer that fits. -/
theorem poolAlloc_ring (h : Hw) {kind die size : Nat} (hk : kind = 2 ∨ kind = 3)
    (hf : (h.freeArea kind 0).fits die size ≠ []) : ∃ b m,
    h.poolAlloc kind die 0 false size = some ([if die = 0 then mibBytes b else 0, if die = 0 then 0 else mibBytes b], m) ∧
      m.pool = h.otherAreas kind 0 ++ [⟨kind, 0, die, b, size⟩] ∧ h.poolFloor die ≤ b ∧ b + size ≤ poolTop ∧
      (∀ a ∈ h.otherAreas kind 0, a.die = die → b + size ≤ a.base ∨ a.base + a.size ≤ b) ∧
      (kind = 2 → m.reg64 (acqA 8) = BitVec.ofNat 64 (mibBytes b + die * 2 ^ 36) ∧
        m.reg (acqA 0x10) = BitVec.ofNat 32 (mibBytes size / 16)) ∧
      (kind = 3 → m.bget (traceA 4) 0 = false ∧ m.reg64 (traceA 8) = BitVec.ofNat 64 (mibBytes b + die * 2 ^ 36) ∧
        m.reg (traceA 0x10) = BitVec.ofNat 32 (mibBytes size / 16)) ∧
      (kind = 2 → m.farMem = h.farMem ∧ m.farWb = h.farWb) ∧
      (kind = 3 → ∀ d w, w < 2 ^ 33 → m.farWord d w =
        if d = die ∧ mibBytes b / 8 ≤ w ∧ w < mibBytes b / 8 + mibBytes size / 8 then 0 else h.farWord d w) ∧
      m = { h with pool := m.pool, regs := m.regs, free := h.free + 1, farMem := m.farMem, farWb := m.farWb } := by
  obtain ⟨b, ha, hlo, hhi, hothers, hplaced⟩ := place_ring h hk hf
  have he := poolAlloc_placed h hk ha
  generalize (h.freeArea kind 0).placed ⟨kind, 0, die, b, size⟩ = g at he hplaced
  have hpool : g.pool = h.otherAreas kind 0 ++ [⟨kind, 0, die, b, size⟩] := by rw [hplaced]
  rcases hk with rfl | rfl
  · obtain ⟨ho, hbase, hsize⟩ := setAcqBuffer_fields g die b size
    rw [if_pos rfl] at he
    generalize g.setAcqBuffer die b size = m at he ho hbase hsize
    refine ⟨b, m, he, by rw [ho.1, hpool], hlo, hhi, hothers, fun _ => ⟨hbase, hsize⟩,
      fun e => absurd e (by decide), fun _ => ?_, fun e => absurd e (by decide), ?_⟩
    · rw [ho.1, hplaced]
      exact ⟨rfl, rfl⟩
    · rw [ho.1, hplaced]
  · have hfar : ∀ e w, g.farWord e w = h.farWord e w := fun e w => by rw [hplaced]; rfl
    have hclear := farWord_clearArea g (d := die) (b := b) (size := size) hhi
    have hc := clearArea_only g die (mibBytes b) 0 (mibBytes size / 8)
    rw [if_neg (show ¬ (3 : Nat) = 2 by decide)] at he
    generalize g.clearArea die (mibBytes b) 0 (mibBytes size / 8) = c at he hclear hc
    obtain ⟨ho, hkind, hbase, hsize⟩ := setGutter_fields c die b size
    generalize c.setGutter die b size = m at he ho hkind hbase hsize
    refine ⟨b, m, he, by rw [ho.1, hc, hpool], hlo, hhi, hothers, fun e => absurd e (by decide),
      fun _ => ⟨hkind, hbase, hsize⟩, fun e => absurd e (by decide), fun _ d w hw => ?_, ?_⟩
    · exact (congrArg (Store.get 0 · (farKey d w)) (congrArg Hw.farMem ho.1)).trans ((hclear d w hw).trans (by rw [hfar]))
    · rw [ho.1, hc, hplaced]

theorem poolAlloc_ring_none (h : Hw) {kind die size : Nat} (hk : kind = 2 ∨ kind = 3)
    (hf : (h.freeArea kind 0).fits die size = []) : h.poolAlloc kind die 0 false size = none := by
  rw [Hw.poolAlloc]
  dsimp only
  rw [if_neg (by omega), allocate_none hf]

/-- An area placed on one die leaves the places on the other. -/
theorem fits_placed (h : Hw) {a : PoolArea} {d : Nat} (hd : a.die ≠ d) (size : Nat) : (h.placed a).fits d size = h.fits d size := by
  obtain ⟨ho, hpool, -, hmib, -⟩ := placed_fields h a
  have hhere : (h.placed a).pool.filter (fun x => x.die == d) = h.pool.filter fun x => x.die == d := by
    rw [hpool, List.filter_append]
    simp [hd]
  rw [Hw.fits, Hw.fits, poolFloor_congr ho.img (hmib d), Hw.usedAbove, Hw.usedAbove, hhere, Hw.stagedMib, Hw.stagedMib, ho.img]

/-- A snapshot area named in its slot, empty (Table 14.2). -/
def Hw.nameArea (h : Hw) (slot : Nat) (ar : SnapArea) : Hw :=
  ((({ h with snap := { h.snap with areas := Store.set none h.snap.areas slot (some ar) } } : Hw).setReg
    (snapSlotA slot 0) (BitVec.ofNat 32 (1 + (if ar.far then 2 else 0)))).setReg (snapSlotA slot 4) 0).setReg64 (snapSlotA slot 8) 0

theorem nameArea_fields (h : Hw) (slot : Nat) (ar : SnapArea) :
    (h.nameArea slot ar).snapArea slot = some ar ∧ (h.nameArea slot ar).pool = h.pool ∧ (h.nameArea slot ar).areaState slot = 0 ∧
      (h.nameArea slot ar).reg (snapSlotA slot 4) = 0 ∧ (h.nameArea slot ar).reg64 (snapSlotA slot 8) = 0 := by
  refine ⟨Store.get_set_same none h.snap.areas slot (some ar), rfl, ?_, ?_, reg64_setReg64 ..⟩
  · have hr : (h.nameArea slot ar).reg (snapSlotA slot 0) = BitVec.ofNat 32 (1 + (if ar.far then 2 else 0)) := by
      rw [Hw.nameArea, reg_setReg64, if_neg (by unfold snapSlotA hubA; omega), if_neg (by unfold snapSlotA hubA; omega), reg_setReg,
        if_neg (by unfold snapSlotA hubA; omega), reg_setReg_same]
    rw [Hw.areaState, Hw.fget, hr]
    cases ar.far <;> decide
  · rw [Hw.nameArea, reg_setReg64, if_neg (by unfold snapSlotA hubA; omega), if_neg (by unfold snapSlotA hubA; omega), reg_setReg_same]

/-- POOL_ALLOC of a snapshot area that fits on both dies (R374). -/
theorem poolAlloc_snap (h : Hw) {slot : Nat} (far : Bool) (hs : slot < 16)
    (hf : ∀ d, d < 2 → (h.freeArea 1 slot).fits d (areaMib far (h.designMib d)) ≠ []) : ∃ b0 b1 m,
    let n := fun d => areaMib far (h.designMib d)
    h.poolAlloc 1 0 slot far 0 = some ([mibBytes b0, mibBytes b1], m) ∧
      m.snapArea slot = some ⟨[mibBytes b0, mibBytes b1], far, [n 0, n 1]⟩ ∧
      m.pool = h.otherAreas 1 slot ++ [⟨1, slot, 0, b0, n 0⟩, ⟨1, slot, 1, b1, n 1⟩] ∧
      h.poolFloor 0 ≤ b0 ∧ b0 + n 0 ≤ poolTop ∧ h.poolFloor 1 ≤ b1 ∧ b1 + n 1 ≤ poolTop ∧
      m.areaState slot = 0 ∧ m.reg (snapSlotA slot 4) = 0 ∧ m.reg64 (snapSlotA slot 8) = 0 := by
  obtain ⟨hfree, -, hregs⟩ := freeArea_snap h slot
  have hmib : ∀ d, d < 2 → (h.freeArea 1 slot).designMib d = h.designMib d := fun d hd =>
    (designMib_congr (hregs hs d hd)).trans ((release_fields h 1 slot).2.2.2.2.1 d)
  have himg : (h.freeArea 1 slot).img = h.img := by rw [hfree]
  have hpool : (h.freeArea 1 slot).pool = h.otherAreas 1 slot := by rw [hfree]
  have he : h.poolAlloc 1 0 slot far 0 = (h.freeArea 1 slot).allocSnap slot far := rfl
  generalize h.freeArea 1 slot = f at hf hmib himg hpool he
  obtain ⟨b0, hb0, ha0⟩ := allocate_some 1 slot (hf 0 (by omega))
  have hf1 : (f.placed ⟨1, slot, 0, b0, areaMib far (h.designMib 0)⟩).fits 1 (areaMib far (h.designMib 1)) ≠ [] := by
    rw [fits_placed f Nat.zero_ne_one]
    exact hf 1 (by omega)
  obtain ⟨b1, hb1, ha1⟩ := allocate_some 1 slot hf1
  rw [fits_placed f Nat.zero_ne_one] at hb1
  have hpool' := ((placed_fields _ _).2.1.trans (congrArg (· ++ [_]) (placed_fields f ⟨1, slot, 0, b0, areaMib far (h.designMib 0)⟩).2.1) :
    ((f.placed ⟨1, slot, 0, b0, areaMib far (h.designMib 0)⟩).placed ⟨1, slot, 1, b1, areaMib far (h.designMib 1)⟩).pool = _)
  rw [Hw.allocSnap] at he
  dsimp only at he
  rw [hmib 0 (by omega), ha0] at he
  dsimp only at he
  rw [hmib 1 (by omega), ha1] at he
  dsimp only at he
  generalize (f.placed ⟨1, slot, 0, b0, areaMib far (h.designMib 0)⟩).placed ⟨1, slot, 1, b1, areaMib far (h.designMib 1)⟩ = g
    at he hpool'
  obtain ⟨hname, hpoolN, hst, h4, h8⟩ := nameArea_fields g slot
    ⟨[mibBytes b0, mibBytes b1], far, [areaMib far (h.designMib 0), areaMib far (h.designMib 1)]⟩
  obtain ⟨hlo0, hhi0, -⟩ := mem_fits hb0
  obtain ⟨hlo1, hhi1, -⟩ := mem_fits hb1
  rw [poolFloor_congr himg (hmib 0 (by omega))] at hlo0
  rw [poolFloor_congr himg (hmib 1 (by omega))] at hlo1
  exact ⟨b0, b1, _, he, hname, hpoolN.trans (by rw [hpool', hpool, List.append_assoc]; rfl), hlo0, hhi0, hlo1, hhi1, hst, h4, h8⟩

end

/-- What POOL_FREE leaves (R463). -/
theorem freeArea_fields (h : Hw) {kind slot : Nat} (hk : 1 ≤ kind) (hk3 : kind ≤ 3) (hs : slot < 16) (h0 : kind ≠ 1 → slot = 0) :
    (h.freeArea kind slot).pool = h.otherAreas kind slot ∧
      (∀ d, d < 2 → (h.freeArea kind slot).fget (farA d 8) 31 16 = (poolTop - h.designMib d - (h.freeArea kind slot).poolUsed d) % 65536 ∧
        (h.freeArea kind slot).designMib d = h.designMib d) ∧
      (kind = 1 → (h.freeArea kind slot).snapArea slot = none ∧ (h.freeArea kind slot).reg (snapSlotA slot 0) = 0) ∧
      (kind = 2 → (h.freeArea kind slot).reg (acqA 0x10) = 0) ∧
      h.freeArea kind slot = { h with
        pool := (h.freeArea kind slot).pool, regs := (h.freeArea kind slot).regs
        snap := { h.snap with areas := (h.freeArea kind slot).snap.areas } } := by
  obtain ⟨honly, hpool, hfree, hmap, hmib, -⟩ := release_fields h kind slot
  -- what stands in FAR.MAP after the release stands there after the work that follows it
  have hmaps : ∀ g : Hw, g.pool = h.otherAreas kind slot → (∀ d, d < 2 → g.reg (farA d 8) = (h.release kind slot).reg (farA d 8)) →
      ∀ d, d < 2 → g.fget (farA d 8) 31 16 = (poolTop - h.designMib d - g.poolUsed d) % 65536 ∧ g.designMib d = h.designMib d :=
    fun g hp hr d hd => ⟨(congrArg (fld · 31 16) (hr d hd)).trans ((hmap d hd).trans (by rw [Hw.poolUsed, Hw.poolUsed, hp, hpool])),
      (designMib_congr (hr d hd)).trans (hmib d)⟩
  obtain rfl | rfl | rfl : kind = 1 ∨ kind = 2 ∨ kind = 3 := by omega
  · obtain ⟨hall, hslot, hregs⟩ := freeArea_snap h slot
    have hp : (h.freeArea 1 slot).pool = h.otherAreas 1 slot := by rw [hall]
    have hsnap : (h.freeArea 1 slot).snapArea slot = none := by
      rw [Hw.snapArea, hall]
      exact Store.get_set_same none h.snap.areas slot none
    exact ⟨hp, hmaps _ hp (hregs hs), fun _ => ⟨hsnap, hslot⟩, fun e => absurd e (by decide), by rw [hall]⟩
  · obtain rfl := h0 (by decide)
    obtain ⟨ho, -, hsize⟩ := setAcqBuffer_fields (h.release 2 0) 0 0 0
    rw [freeArea_acq]
    generalize (h.release 2 0).setAcqBuffer 0 0 0 = g at ho hsize ⊢
    have hp : g.pool = h.otherAreas 2 0 := by rw [ho.1, hpool]
    refine ⟨hp, hmaps g hp fun d hd => ho.2 _ ?_, fun e => absurd e (by decide), fun _ => hsize, ?_⟩
    · simp only [List.mem_cons, List.not_mem_nil, or_false]
      unfold farA dieBase acqA probeA
      omega
    · have hall := honly.trans ho.poolOnly
      have hf : g.free = h.free := by rw [ho.1, hfree]
      unfold PoolOnly at hall
      rw [hf] at hall
      rw [show g.snap = h.snap by rw [hall]]
      exact hall
  · obtain rfl := h0 (by decide)
    unfold PoolOnly at honly
    rw [hfree] at honly
    rw [freeArea_gutter, show (h.release 3 0).snap = h.snap by rw [honly]]
    exact ⟨hpool, hmaps _ hpool fun _ _ => rfl, fun e => absurd e (by decide), fun e => absurd e (by decide), honly⟩

/-- Settles O22: a place that fits lies above the floor and among the other areas, and nothing else than the area's registers and
words follows from taking it. -/
theorem poolAllocAndFree : Obligations.PoolAllocAndFree := by
  intro s k io
  refine ⟨fun args kind die size h8 hkind hdie hsize hd h2 hok r => ?_, fun slot far hslot hfar r hb hfits => ?_,
    fun kind slot h1 h3 hslot r => ?_⟩
  · have h23 : arg args 2 2 = arg args 2 1 + 256 * arg args 3 1 := arg_two args 2
    have hk : kind = 2 ∨ kind = 3 := hok.imp And.left And.left
    have hpool : poolArgs args = true := by
      rw [poolArgs, ← hkind, ← hdie, ← hsize, h2]
      rcases hok with ⟨rfl, hs⟩ | ⟨rfl, i, hi, rfl⟩
      · simp [hd, hs]
      · simp only [show ¬ (3 : Nat) = 1 by decide, show ¬ (3 : Nat) = 2 by decide, if_false, beq_self_eq_true, decide_eq_true hd,
          Bool.true_and, List.any_eq_true, List.mem_range]
        exact ⟨i, hi, beq_self_eq_true _⟩
    obtain ⟨hbusy, hnone, hsome⟩ := poolAlloc_answers s k io (slot := 0) (far := false) h8 hpool r hkind.symm hdie.symm (by omega)
      (by rw [show arg args 3 1 = 0 by omega]; rfl) hsize.symm
    refine ⟨hbusy, fun hb hf => hnone hb (poolAlloc_ring_none s.hw hk hf), fun hb hf => ?_⟩
    obtain ⟨b, m, he, hp, hlo, hhi, hothers, hacq, hgut, hfar, hclear, hm⟩ := poolAlloc_ring s.hw hk hf
    exact hsome hb _ _ m he _ ⟨b, hp, hlo, hhi, hothers, arg_bases (by omega) hd |>.1, arg_bases (by omega) hd |>.2.1,
      arg_bases (by omega) hd |>.2.2, hacq, hgut, hfar, hclear, hm⟩
  · have h0 : arg [1, 0, slot, far, 0, 0, 0, 0] 0 1 = 1 := arg_one 1 _
    have h1 : arg [1, 0, slot, far, 0, 0, 0, 0] 1 1 = 0 := arg_one 0 _
    have h2 : arg [1, 0, slot, far, 0, 0, 0, 0] 2 1 = slot.toNat := arg_one slot _
    have h3 : arg [1, 0, slot, far, 0, 0, 0, 0] 3 1 = far.toNat := arg_one far _
    have h4 : arg [1, 0, slot, far, 0, 0, 0, 0] 4 4 = 0 := rfl
    have h8 : [1, 0, slot, far, 0, 0, 0, 0].length = 8 := rfl
    generalize [1, 0, slot, far, 0, 0, 0, 0] = args at r h0 h1 h2 h3 h4 h8
    have hpool : poolArgs args = true := by simp [poolArgs, h0, h1, h2, h3, h4, hslot, hfar]
    obtain ⟨-, -, hsome⟩ := poolAlloc_answers s k io h8 hpool r h0 h1 h2 (congrArg (· == 1) h3) h4
    obtain ⟨b0, b1, m, he, harea, hp, hlo0, hhi0, hlo1, hhi1, hst, hr4, hr8⟩ := poolAlloc_snap s.hw (far.toNat == 1) hslot hfits
    exact hsome hb _ _ m he _ ⟨b0, b1, harea, hp, hlo0, hhi0, hlo1, hhi1, rfl, hst, hr4, hr8⟩
  · intro sl
    have hsl : sl = if kind.toNat = 1 then slot.toNat else 0 :=
      if_congr (⟨fun e => by rw [e]; rfl, fun e => BitVec.eq_of_toNat_eq e⟩ : kind = 1 ↔ kind.toNat = 1) rfl rfl
    have hargs : (isLen 2 [kind, slot] && decide (1 ≤ arg [kind, slot] 0 1) && decide (arg [kind, slot] 0 1 ≤ 3) &&
        decide (arg [kind, slot] 1 1 < 16)) = true := by
      rw [arg_one, arg_second]
      simp [isLen, h1, h3, hslot]
    let f : Call0 → Hw → Nat × List Byte × Hw := fun c h =>
      let kind := arg c.args 0 1
      let slot := if kind = 1 then arg c.args 1 1 else 0
      if h.areaBusy kind slot then (stBusy, [], h) else (stOk, [], h.freeArea kind slot)
    have hf : f ⟨.slot k, 0x0405, [kind, slot], false, []⟩ s.hw =
        if s.hw.areaBusy kind.toNat sl then (stBusy, [], s.hw) else (stOk, [], s.hw.freeArea kind.toNat sl) := by
      simp only [f, arg_one, arg_second, ← hsl]
    have hfree := freeArea_fields s.hw (kind := kind.toNat) (slot := sl) h1 h3 (by rw [hsl]; split <;> omega)
      (fun e => by rw [hsl, if_neg e])
    refine ⟨fun hb => ?_, fun hb => ?_⟩
    · exact answers_of_runNow f r r.1.src_ok rfl rfl hargs rfl rfl (hf.trans (if_pos hb)) (by decide) (by decide) ⟨rfl, rfl⟩
    · refine answers_of_runNow f r r.1.src_ok rfl rfl hargs rfl rfl (hf.trans (if_neg (ne_true_of_eq_false hb))) (by decide) (by decide) ?_
      obtain ⟨hp, hmap, hsnap, hacq, hm⟩ := hfree
      refine ⟨rfl, hp, hmap, fun e => ?_, fun e => hacq (by rw [e]; rfl), hm⟩
      have hsl' : sl = slot.toNat := if_pos e
      rw [← hsl']
      exact hsnap (by rw [e]; rfl)

end Sys2Proof.Machine
end

section
-- As the tests above: declarations in order, so that checking the one text stays within its memory.
set_option Elab.async false
/-!
PROOFS. Words of scratch banks: what an access reaches first (R448), and BAR2 (O25).
-/

namespace Sys2Proof.Machine

/-! ## A write twice -/

theorem Store.put_put {α : Type} (m : Store α) (a : Nat) (v : α) : Store.put (Store.put m a v) a v = Store.put m a v := by
  induction m with
  | nil => simp [Store.put]
  | cons kv m ih =>
    obtain ⟨k, w⟩ := kv
    by_cases h1 : a = k
    · simp [Store.put, h1]
    · by_cases h2 : a < k
      · simp [Store.put, h1, h2]
      · simp [Store.put, h1, h2, ih]

theorem Store.erase_erase {α : Type} (m : Store α) (a : Nat) : Store.erase (Store.erase m a) a = Store.erase m a := by
  induction m with
  | nil => rfl
  | cons kv m ih =>
    obtain ⟨k, w⟩ := kv
    by_cases h1 : a = k
    · simp [Store.erase, h1] at ih ⊢
      exact ih
    · simp [Store.erase, h1, ih]

theorem Store.set_set {α : Type} [DecidableEq α] (d : α) (m : Store α) (a : Nat) (v : α) :
    Store.set d (Store.set d m a v) a v = Store.set d m a v := by
  unfold Store.set
  split
  · exact Store.erase_erase m a
  · exact Store.put_put m a v

/-! ## The end of a borrowing (R448) -/

theorem scrA_ne (k : Nat) (hk : k < 16) : scrA k ≠ hostifA 0x144 := by unfold scrA hostifA; omega

/-- What the end of a slice of bank k may change. -/
structure SliceWork (k : Nat) (h g : Hw) : Prop where
  only : g = { h with regs := g.regs, host := { h.host with slice := g.host.slice, slices := g.host.slices }
                      fault := { h.fault with path := g.fault.path } }
  reg : ∀ a, a ≠ hostifA 0x144 → a ≠ scrA k → g.reg a = h.reg a
  owner : g.fget (scrA k) 2 0 = h.fget (scrA k) 2 0

theorem SliceWork.refl (k : Nat) (h : Hw) : SliceWork k h h := ⟨rfl, fun _ _ _ => rfl, rfl⟩

theorem SliceWork.trans {k : Nat} {h g m : Hw} (a : SliceWork k h g) (b : SliceWork k g m) : SliceWork k h m :=
  ⟨by rw [b.only, a.only], fun x h1 h2 => (b.reg x h1 h2).trans (a.reg x h1 h2), b.owner.trans a.owner⟩

theorem sliceWork_host (k : Nat) (h : Hw) (sl : Option SliceTest) (n : Store Nat) :
    SliceWork k h { h with host := { h.host with slice := sl, slices := n } } := ⟨rfl, fun _ _ _ => rfl, rfl⟩

theorem sliceWork_notBorrowed (k : Nat) (h : Hw) : SliceWork k h (h.fset (scrA k) 8 8 0) :=
  ⟨rfl, fun a _ ha => (reg_fset h _ 8 8 0 a).trans (if_neg ha), fget_fset_ne h _ _ 2 0 8 8 0 (by omega) (by omega)⟩

theorem sliceWork_result {k : Nat} (hk : k < 16) (h : Hw) (hi lo v : Nat) : SliceWork k h (h.fset (hostifA 0x144) hi lo v) :=
  ⟨rfl, fun a ha _ => (reg_fset h _ hi lo v a).trans (if_neg ha), fget_fset_ne h _ _ 2 0 hi lo v (by omega) (.inl (scrA_ne k hk))⟩

theorem sliceWork_raise (k : Nat) (h : Hw) (id : Nat) : SliceWork k h (h.raise id) := ⟨rfl, fun _ _ _ => rfl, rfl⟩

theorem sliceWork_endSlice {h : Hw} {s : SliceTest} (hs : h.host.slice = some s) (hk : s.bank < 16) :
    SliceWork s.bank h h.endSlice ∧ h.endSlice.host.slice = none := by
  have hret := (sliceWork_host s.bank h none h.host.slices).trans (sliceWork_notBorrowed s.bank _)
  rw [Hw.endSlice, hs]
  dsimp only
  cases s.ok
  · exact ⟨(hret.trans (sliceWork_result hk _ ..)).trans (sliceWork_raise ..), rfl⟩
  · exact ⟨(hret.trans (sliceWork_host s.bank _ none _)).trans (sliceWork_result hk _ ..), rfl⟩

/-- What reaching bank k may change (R448). -/
structure Reaches (k : Nat) (h g : Hw) : Prop where
  only : g = { h with regs := g.regs, fault := { h.fault with path := g.fault.path }
                      host := { h.host with slice := g.host.slice, slices := g.host.slices
                                            scrUsed := Store.set 0 h.host.scrUsed k h.calib } }
  reg : ∀ a, a ≠ hostifA 0x144 → a ≠ scrA k → g.reg a = h.reg a
  owner : g.fget (scrA k) 2 0 = h.fget (scrA k) 2 0
  free : g.host.slice.any (fun s => s.bank == k) = false

theorem reaches_reachBank (h : Hw) {k : Nat} (hk : k < 16) : Reaches k h (h.reachBank k) := by
  have mark : ∀ {g : Hw}, SliceWork k h g → g.host.slice.any (fun s => s.bank == k) = false →
      Reaches k h { g with host := { g.host with scrUsed := Store.set 0 g.host.scrUsed k g.calib } } := fun {g} w hf => by
    refine ⟨?_, w.reg, w.owner, hf⟩
    rw [w.only]
  unfold Hw.reachBank
  split
  · next hany =>
    cases hs : h.host.slice with
    | none => simp [hs] at hany
    | some s =>
      rw [hs] at hany
      obtain rfl : s.bank = k := by simpa using hany
      obtain ⟨w, hnone⟩ := sliceWork_endSlice hs hk
      exact mark w (by rw [hnone]; rfl)
  · next hno => exact mark (.refl k h) (by simpa using hno)

/-- A bank that has just been reached is reached again without effect. -/
theorem Reaches.again {k : Nat} {h g : Hw} (r : Reaches k h g) : g.reachBank k = g := by
  have hused : g.host.scrUsed = Store.set 0 h.host.scrUsed k h.calib := by rw [r.only]
  have hcal : g.calib = h.calib := by rw [r.only]
  have hsame : Store.set 0 g.host.scrUsed k g.calib = g.host.scrUsed := by rw [hused, hcal, Store.set_set]
  rw [Hw.reachBank, r.free, if_neg Bool.false_ne_true]
  dsimp only
  rw [hsame]

theorem Reaches.scrWord {k : Nat} {h g : Hw} (r : Reaches k h g) (c i : Nat) : g.scrWord c i = h.scrWord c i := by rw [r.only]; rfl

theorem Reaches.out {k : Nat} {h g : Hw} (r : Reaches k h g) : g.out = h.out := by rw [r.only]

theorem Reaches.pstate {k : Nat} {h g : Hw} (r : Reaches k h g) : g.pstate = h.pstate :=
  congrArg (fld · 2 0) (r.reg (powerA 0) (by decide) (by unfold powerA scrA hostifA; omega))

/-! ## One word of a scratch bank (R447) -/

theorem scrHostRead_ok {h : Hw} {k w : Nat} (hk : k < 16) (ho : h.fget (scrA k) 2 0 = 3) (hd : (decDecode (h.scrWord k w)).2 ≠ .bad) :
    h.scrHostRead k w = (.ok (decDecode (h.scrWord k w)).1, h.reachBank k) := by
  have r := reaches_reachBank h hk
  have hne : ¬ (h.reachBank k).fget (scrA k) 2 0 ≠ 3 := by rw [r.owner, ho]; decide
  rw [Hw.scrHostRead, if_neg hne, r.scrWord]
  revert hd
  rcases decDecode (h.scrWord k w) with ⟨v, f⟩
  cases f
  · exact fun _ => rfl
  · exact fun _ => rfl
  · exact fun hd => absurd rfl hd

theorem scrHostRead_locked {h : Hw} {k : Nat} (w : Nat) (hk : k < 16) (ho : h.fget (scrA k) 2 0 ≠ 3) :
    h.scrHostRead k w = (.error .locked, h.reachBank k) := by
  rw [Hw.scrHostRead, if_pos (by rw [(reaches_reachBank h hk).owner]; exact ho)]

/-- A word stored with fresh check bits. -/
def Hw.putScr (h : Hw) (k w : Nat) (v : Word64) : Hw := { h with scratch := Store.set 0 h.scratch (k * 8192 + w) (decEncode v) }

theorem scrHostWrite_ok {h : Hw} {k : Nat} (w : Nat) (v : Word64) (hk : k < 16) (ho : h.fget (scrA k) 2 0 = 3) :
    h.scrHostWrite k w v = .ok ((h.reachBank k).putScr k w v) :=
  if_neg (by rw [(reaches_reachBank h hk).owner, ho]; decide)

theorem scrHostWrite_locked {h : Hw} {k : Nat} (w : Nat) (v : Word64) (hk : k < 16) (ho : h.fget (scrA k) 2 0 ≠ 3) :
    h.scrHostWrite k w v = .error .locked :=
  if_pos (by rw [(reaches_reachBank h hk).owner]; exact ho)

theorem scrWord_putScr (h : Hw) (k : Nat) {w : Nat} (hw : w < 8192) (v : Word64) (c : Nat) {i : Nat} (hi : i < 8192) :
    (h.putScr k w v).scrWord c i = if c = k ∧ i = w then decEncode v else h.scrWord c i := by
  rw [Hw.scrWord, Hw.putScr, Store.get_set]
  exact if_congr (by constructor <;> intro e <;> omega) rfl rfl

theorem hostReadWord_scratch {h : Hw} (hp : h.pstate < 3) (k w : Nat) (first : Bool) :
    h.hostReadWord (.scratch k w) first = h.scrHostRead k w := by
  simp [Hw.hostReadWord, Hw.placeUp, Hw.placeHeld, hp]

theorem hostWriteWord_scratch {h : Hw} (hp : h.pstate < 3) (k w : Nat) (v : Word64) :
    h.hostWriteWord (.scratch k w) v = h.scrHostWrite k w v := by
  simp [Hw.hostWriteWord, Hw.placeUp, Hw.placeHeld, hp]

/-! ## One aligned word through BAR2 (R444 to R446) -/

section
variable {h : Hw} {a x : Nat} (ha : a < 4) (hx : x + 8 ≤ 0x100000) (h8 : x % 8 = 0)
include ha hx h8

theorem wordOffs_one : wordOffs (a * 2 ^ 28 + x) 8 = [a * 2 ^ 28 + x] := by
  have h1 : (a * 2 ^ 28 + x + 8 - 1) / 8 + 1 - (a * 2 ^ 28 + x) / 8 = 1 := by omega
  rw [wordOffs, if_neg (by decide), h1]
  simp
  omega

omit ha in
theorem bar2Target_none (ht : h.fget (hostifA (0x40 + 8 * a)) 1 0 = 0) : h.bar2Target (a * 2 ^ 28 + x) 8 = .error .none := by
  have ho : (a * 2 ^ 28 + x) / 2 ^ 28 = a := by omega
  have hf : fld (h.reg (hostifA (0x40 + 8 * a))) 1 0 = 0 := ht
  rw [Hw.bar2Target, ho, hf]
  rfl

omit ha in
theorem bar2Target_scratch (ht : h.fget (hostifA (0x40 + 8 * a)) 1 0 = 3) :
    ∃ pl, h.bar2Target (a * 2 ^ 28 + x) 8 = .ok pl ∧ pl (a * 2 ^ 28 + x) = .scratch (x / 0x10000) (x % 0x10000 / 8) := by
  have ho : (a * 2 ^ 28 + x) / 2 ^ 28 = a := by omega
  have hm : (a * 2 ^ 28 + x) % 2 ^ 28 = x := by omega
  have hf : fld (h.reg (hostifA (0x40 + 8 * a))) 1 0 = 3 := ht
  refine ⟨fun y => .scratch (y % 2 ^ 28 / 0x10000) (y % 0x10000 / 8), ?_, ?_⟩
  · rw [Hw.bar2Target, ho, hf, hm]
    exact if_neg (by omega)
  · have h16 : (a * 2 ^ 28 + x) % 0x10000 = x % 0x10000 := by omega
    dsimp only
    rw [hm, h16]

end

/-- What a read of one word gives. -/
theorem bar2Read_one {h : Hw} {off : Nat} (hone : wordOffs off 8 = [off]) (hlow : off % 8 = 0) (hlt : off + 8 ≤ 2 ^ 30)
    (hr : h.reachable = true) (late : Bool) : h.bar2Read off 8 late =
    match h.bar2Target off 8 with
    | .error e => (h.bar2Failed off false e).emit (.readData (List.replicate 8 0xFF))
    | .ok pl =>
      if late && h.placeUp (pl off) then (h.bar2Failed off false .timeout).emit (.readData (List.replicate 8 0xFF))
      else match h.hostReadWord (pl off) true with
        | (.ok v, g) => g.emit (.readData (bytesOf 8 v.toNat))
        | (.error e, g) => (g.bar2Failed off false e).emit (.readData (List.replicate 8 0xFF)) := by
  rw [Hw.bar2Read, if_neg (by simp [hr]; omega)]
  dsimp only
  rw [hone, List.foldl_cons, List.foldl_nil, hlow]
  cases h.bar2Target off 8 with
  | error e => simp
  | ok pl =>
    cases hl : (late && h.placeUp (pl off)) with
    | true => simp only [hl, if_true]; simp
    | false =>
      rcases hw : h.hostReadWord (pl off) true with ⟨v | v, g⟩
      · simp only [hl, hw]; simp
      · simp only [hl, hw]; simp [List.take_of_length_le, bytesOf_length]

/-- What a write of bytes of one word does. -/
theorem bar2Write_one {h : Hw} {off : Nat} (hone : wordOffs off 8 = [off]) (hlow : off % 8 = 0) (hlt : off + 8 ≤ 2 ^ 30)
    (hr : h.reachable = true) (late : Bool) {bs : List (Option Byte)} (h8 : bs.length = 8) (hany : bs.any Option.isSome = true) :
    h.bar2Write off bs late =
    match h.bar2Target off 8 with
    | .error e => h.bar2Failed off true e
    | .ok pl =>
      if late && h.placeUp (pl off) then h.bar2Failed off true .timeout
      else match h.hostWriteBytes (pl off) bs with
        | (.ok _, g) => g
        | (.error e, g) => g.bar2Failed off true e := by
  have hbs : ((List.replicate (off % 8) none ++ bs ++ List.replicate 8 none).drop (8 * 0)).take 8 = bs := by
    rw [hlow]; simp [← h8]
  have hnone : ¬ (bs.all fun b => b.isNone) = true := by
    simp only [List.any_eq_true] at hany
    obtain ⟨b, hb, hs⟩ := hany
    simp only [List.all_eq_true, not_forall]
    exact ⟨b, hb, by cases b <;> simp_all⟩
  rw [Hw.bar2Write, h8, if_neg (by simp [hr]; omega)]
  dsimp only
  rw [hone, List.zipIdx_cons, List.zipIdx_nil, List.foldl_cons, List.foldl_nil]
  dsimp only
  rw [hbs, if_neg hnone]
  cases h.bar2Target off 8 with
  | error e => simp
  | ok pl =>
    cases hl : (late && h.placeUp (pl off)) with
    | true => simp only [hl, if_true]; simp
    | false =>
      rcases hw : h.hostWriteBytes (pl off) bs with ⟨v | v, g⟩
      · simp only [hl, hw]; simp
      · simp only [hl, hw]; simp

/-- What BAR2_ERR shows of a failed access (Table 17.8). -/
def bar2Word (off : Nat) (write : Bool) (cause : Nat) : Word64 :=
  BitVec.ofNat 64 (off + (if write then 2 ^ 30 else 0) + 2 ^ 32 * cause + 2 ^ 63)

/-- The first failed access is captured (R445). -/
def Hw.bar2Note (h : Hw) (v : Word64) : Hw :=
  if h.bget (hostifA 0x64) 31 then h else (h.setReg64 (hostifA 0x60) v).markDone (.w1c (hostifA 0x64) 31)

theorem bar2Failed_eq {h : Hw} (hp : h.pstate < 3) {off : Nat} (ho : off < 2 ^ 30) (write : Bool) (e : Failure) :
    h.bar2Failed off write e = (h.count (hostifA 0x68)).bar2Note (bar2Word off write e.cause) := by
  rw [Hw.bar2Failed, if_neg (by omega), Nat.mod_eq_of_lt ho]
  rfl

theorem bar2Note_fields (h : Hw) (v : Word64) :
    (h.bar2Note v).reg64 (hostifA 0x60) = (if h.bget (hostifA 0x64) 31 then h.reg64 (hostifA 0x60) else v) ∧
      OnlyRegs [hostifA 0x60, hostifA 0x60 + 4] h { h.bar2Note v with done := h.done } := by
  unfold Hw.bar2Note
  split
  · exact ⟨rfl, (OnlyRegs.refl h).mono (by simp)⟩
  · have hword := reg64_setReg64 h (hostifA 0x60) v
    have honly := onlyRegs_setReg64 h (hostifA 0x60) v
    have hdone : (h.setReg64 (hostifA 0x60) v).done = h.done := rfl
    generalize h.setReg64 (hostifA 0x60) v = m at *
    refine ⟨hword, ?_⟩
    rw [← hdone]
    exact honly

/-- A failed access counts, and the first one is captured (R445). -/
def Bar2Fails (off : Nat) (h g : Hw) (write : Bool) (cause : Nat) : Prop :=
  g.fget (hostifA 0x68) 31 0 = min (2 ^ 32 - 1) (h.fget (hostifA 0x68) 31 0 + 1) ∧
    g.reg64 (hostifA 0x60) = (if h.bget (hostifA 0x64) 31 then h.reg64 (hostifA 0x60) else bar2Word off write cause) ∧
    OnlyRegs [hostifA 0x60, hostifA 0x64, hostifA 0x68] h { g with out := h.out, done := h.done }

theorem bar2Failed_fails {h : Hw} (hp : h.pstate < 3) {off : Nat} (ho : off < 2 ^ 30) (write : Bool) (e : Failure) :
    Bar2Fails off h (h.bar2Failed off write e) write e.cause ∧ (h.bar2Failed off write e).out = h.out := by
  have hcount : (h.count (hostifA 0x68)).fget (hostifA 0x68) 31 0 = min (2 ^ 32 - 1) (h.fget (hostifA 0x68) 31 0 + 1) :=
    fget_bump_same h _ 1 (by omega)
  have honly : OnlyRegs [hostifA 0x68] h (h.count (hostifA 0x68)) := onlyRegs_fset ..
  have hdone : (h.count (hostifA 0x68)).done = h.done := rfl
  rw [bar2Failed_eq hp ho]
  unfold Bar2Fails
  generalize bar2Word off write e.cause = v
  generalize h.count (hostifA 0x68) = g at *
  obtain ⟨hword, hset⟩ := bar2Note_fields g v
  rw [hdone] at hset
  generalize g.bar2Note v = m at *
  have hall := honly.trans hset
  have hout : m.out = h.out := by have := hall.1; exact (congrArg Hw.out this).trans rfl
  have hvalid : g.bget (hostifA 0x64) 31 = h.bget (hostifA 0x64) 31 := congrArg (bit · 31) (honly.2 _ (by decide))
  have h64 : g.reg64 (hostifA 0x60) = h.reg64 (hostifA 0x60) := by
    rw [Hw.reg64, honly.2 _ (by decide), honly.2 _ (by decide), Hw.reg64]
  refine ⟨⟨?_, by rw [hword, hvalid, h64], ?_⟩, hout⟩
  · exact (congrArg (fld · 31 0) (hset.2 _ (by decide))).trans hcount
  · rw [← hout]
    exact hall.mono (by simp [hostifA])

/-! ## Bytes of a word (R446) -/

theorem testBit_ofBytes (bs : List Byte) (n : Nat) : (ofBytes bs).testBit n = (bs.getD (n / 8) 0).getLsbD (n % 8) := by
  induction bs generalizing n with
  | nil => simp [ofBytes]
  | cons b bs ih =>
    have hc : ofBytes (b :: bs) = 2 ^ 8 * ofBytes bs + b.toNat := by simp only [ofBytes, List.foldr_cons]; omega
    rw [hc, Nat.testBit_two_pow_mul_add _ b.isLt]
    by_cases h : n < 8
    · rw [if_pos h, show n / 8 = 0 by omega, show n % 8 = n by omega, List.getD_cons_zero]
      rfl
    · rw [if_neg h, ih, show n / 8 = (n - 8) / 8 + 1 by omega, List.getD_cons_succ, show (n - 8) % 8 = n % 8 by omega]

/-- Byte i of a word put together from its bytes. -/
theorem byte_ofBytes (bs : List Byte) {i : Nat} (hi : i < 8) : (BitVec.ofNat 64 (ofBytes bs)).extractLsb' (8 * i) 8 = bs.getD i 0 := by
  refine BitVec.eq_of_getLsbD_eq fun n hn => ?_
  rw [BitVec.getLsbD_extractLsb', BitVec.getLsbD_ofNat, testBit_ofBytes, show (8 * i + n) / 8 = i by omega,
    show (8 * i + n) % 8 = n by omega]
  simp [hn, show 8 * i + n < 64 by omega]

/-- The enabled bytes over those of an older word. -/
def mixBytes (old : Word64) (bs : List (Option Byte)) : Word64 :=
  BitVec.ofNat 64 (ofBytes (bs.zipIdx.map fun x => x.1.getD (old.extractLsb' (8 * x.2) 8)))

theorem byte_mixBytes (old : Word64) {bs : List (Option Byte)} (h8 : bs.length = 8) {i : Nat} (hi : i < 8) :
    (mixBytes old bs).extractLsb' (8 * i) 8 = (bs.getD i none).getD (old.extractLsb' (8 * i) 8) := by
  rw [mixBytes, byte_ofBytes _ hi]
  simp [List.getD_eq_getElem?_getD, h8, hi]

theorem wholeBytes_mix (old : Word64) {bs : List (Option Byte)} (hall : bs.all (·.isSome) = true) :
    BitVec.ofNat 64 (ofBytes (bs.map (·.getD 0))) = mixBytes old bs := by
  rw [mixBytes]
  congr 2
  refine List.ext_getElem (by simp) fun n h1 h2 => ?_
  have hn : n < bs.length := by simpa using h1
  have hs := List.all_eq_true.1 hall bs[n] (List.getElem_mem hn)
  obtain ⟨b, hb⟩ := Option.isSome_iff_exists.1 hs
  simp [hb]

/-- A write of enabled bytes to a scratch bank of the host: the other bytes keep their value (R446). -/
theorem hostWriteBytes_scratch {h : Hw} (hp : h.pstate < 3) {b w : Nat} (hb : b < 16) (ho : h.fget (scrA b) 2 0 = 3)
    (hd : (decDecode (h.scrWord b w)).2 ≠ .bad) (bs : List (Option Byte)) :
    h.hostWriteBytes (.scratch b w) bs = (.ok (), (h.reachBank b).putScr b w (mixBytes (decDecode (h.scrWord b w)).1 bs)) := by
  have r := reaches_reachBank h hb
  have hwrite : ∀ v, h.hostWriteWord (.scratch b w) v = .ok ((h.reachBank b).putScr b w v) := fun v =>
    (hostWriteWord_scratch hp b w v).trans (scrHostWrite_ok w v hb ho)
  have hread : h.hostReadWord (.scratch b w) false = (.ok (decDecode (h.scrWord b w)).1, h.reachBank b) :=
    (hostReadWord_scratch hp b w false).trans (scrHostRead_ok hb ho hd)
  have hagain : ∀ v, (h.reachBank b).hostWriteWord (.scratch b w) v = .ok ((h.reachBank b).putScr b w v) := fun v =>
    (hostWriteWord_scratch (by rw [r.pstate]; exact hp) b w v).trans
      ((scrHostWrite_ok w v hb (r.owner.trans ho)).trans (by rw [r.again]))
  rw [Hw.hostWriteBytes]
  dsimp only
  split
  · next hall => rw [hwrite, wholeBytes_mix _ hall]
  · rw [Hw.writeBarred, hwrite]
    dsimp only
    rw [hread]
    dsimp only
    rw [hagain]
    rfl

/-! ## The obligation -/

theorem placeUp_scratch {h : Hw} (hp : h.pstate < 3) (k w : Nat) : h.placeUp (.scratch k w) = true := decide_eq_true hp

/-- A failed read gives ones, and a failed write nothing (R445). -/
theorem bar2Failed_blank {h m : Hw} (hp : m.pstate < 3) {off : Nat} (ho : off < 2 ^ 30) (hout : m.out = h.out) (e : Failure) :
    Bar2Fails off m ((m.bar2Failed off false e).emit (.readData (List.replicate 8 0xFF))) false e.cause ∧
      ((m.bar2Failed off false e).emit (.readData (List.replicate 8 0xFF))).out = h.out ++ [.readData (List.replicate 8 0xFF)] := by
  obtain ⟨hf, ho'⟩ := bar2Failed_fails hp ho false e
  rw [← hout, ← ho']
  exact ⟨hf, rfl⟩

/-- Settles O25: the access comes down to one word of its place, which ends with its data or with its cause. -/
theorem bar2Access : Obligations.Bar2Access := by
  intro s a x ha hx h8 hr hp off target b w reached failed blank
  have hb : b < 16 := by omega
  have hw : w < 8192 := by omega
  have hoff : off < 2 ^ 30 := by omega
  have hone : wordOffs off 8 = [off] := wordOffs_one ha hx h8
  have hlow : off % 8 = 0 := by omega
  have hread := bar2Read_one hone hlow (by omega) hr
  have hwrite := fun late {bs} => bar2Write_one hone hlow (by omega) hr late (bs := bs)
  have r := reaches_reachBank s.hw hb
  have hrp : reached.pstate < 3 := r.pstate.trans_lt hp
  have hrout : reached.out = s.hw.out := r.out
  have wfr : (Instr.bar2Read off 8).wellFormed = true := decide_eq_true (by omega)
  have wfw : ∀ {bs : List (Option Byte)}, bs.length = 8 → (Instr.bar2Write off bs).wellFormed = true := fun hlen =>
    decide_eq_true (by omega)
  have some_of_all : ∀ {bs : List (Option Byte)}, bs.length = 8 → bs.all Option.isSome = true → bs.any Option.isSome = true :=
    fun {bs} hlen hall => by
      cases bs with
      | nil => exact absurd hlen (by decide)
      | cons o os => simp only [List.all_cons, Bool.and_eq_true] at hall; simp [hall.1]
  have scratch := fun ht => bar2Target_scratch hx h8 (h := s.hw) (a := a) ht
  refine ⟨fun ht ho hd => ?_, fun bs hlen hall => ⟨fun ht ho => ?_, fun ht => ?_, fun ht => ?_⟩⟩
  · obtain ⟨pl, htgt, hpl⟩ := scratch ht
    refine ⟨does_of wfr ?_, fun bs hlen hany => does_of (wfw hlen) ?_⟩
    · rw [effect, execBar2Read, hread, htgt]
      dsimp only
      rw [hpl, Bool.false_and, if_neg Bool.false_ne_true, hostReadWord_scratch hp, scrHostRead_ok hb ho hd]
    · rw [effect, execBar2Write, hwrite false hlen hany, htgt]
      dsimp only
      rw [hpl, Bool.false_and, if_neg Bool.false_ne_true, hostWriteBytes_scratch hp hb ho hd]
      refine ⟨⟨mixBytes (decDecode (s.hw.scrWord b w)).1 bs, ?_, fun i hi => byte_mixBytes _ hlen hi⟩, fun c i hi hne => ?_, rfl⟩
      · rw [scrWord_putScr _ b hw _ b hw, if_pos ⟨rfl, rfl⟩]
      · rw [scrWord_putScr _ b hw _ c hi, if_neg fun e => hne (Prod.ext e.1 e.2), r.scrWord]
  · obtain ⟨pl, htgt, hpl⟩ := scratch ht
    refine ⟨does_of wfr ?_, does_of (wfw hlen) ?_⟩
    · rw [effect, execBar2Read, hread, htgt]
      dsimp only
      rw [hpl, Bool.false_and, if_neg Bool.false_ne_true, hostReadWord_scratch hp, scrHostRead_locked w hb ho]
      exact bar2Failed_blank hrp hoff hrout .locked
    · have hput : s.hw.hostWriteBytes (.scratch b w) bs = (.error .locked, s.hw) := by
        rw [Hw.hostWriteBytes, if_pos hall]
        dsimp only
        rw [hostWriteWord_scratch hp, scrHostWrite_locked w _ hb ho]
      rw [effect, execBar2Write, hwrite false hlen (some_of_all hlen hall), htgt]
      dsimp only
      rw [hpl, Bool.false_and, if_neg Bool.false_ne_true, hput]
      exact bar2Failed_fails hp hoff true .locked
  · refine ⟨does_of wfr ?_, does_of (wfw hlen) ?_⟩
    · rw [effect, execBar2Read, hread, bar2Target_none hx h8 ht]
      exact bar2Failed_blank hp hoff rfl .none
    · rw [effect, execBar2Write, hwrite false hlen (some_of_all hlen hall), bar2Target_none hx h8 ht]
      exact bar2Failed_fails hp hoff true .none
  · obtain ⟨pl, htgt, hpl⟩ := scratch ht
    refine ⟨does_of (i := .ridgeTimeout (.bar2Read off 8)) wfr ?_, does_of (i := .ridgeTimeout (.bar2Write off bs)) (wfw hlen) ?_⟩
    · rw [effect, execRidgeTimeout, hread, htgt]
      dsimp only
      rw [hpl, placeUp_scratch hp, Bool.true_and, if_pos rfl]
      exact bar2Failed_blank hp hoff rfl .timeout
    · rw [effect, execRidgeTimeout, hwrite true hlen (some_of_all hlen hall), htgt]
      dsimp only
      rw [hpl, placeUp_scratch hp, Bool.true_and, if_pos rfl]
      exact bar2Failed_fails hp hoff true .timeout

end Sys2Proof.Machine
end

section
-- As the tests above: declarations in order, so that checking the one text stays within its memory.
set_option Elab.async false
/-!
PROOFS. The memory commands and READBACK (O24).
-/

namespace Sys2Proof.Machine

/-! ## A command with an output stream -/

/-- The answer of a slot's command that writes a stream to host memory as it ends. -/
theorem answers_of_stream {i : Instr} {s : State} {k st : Nat} {P : Hw → List Byte → Prop} {mid : Hw} {reply output : List Byte}
    {ds : List Desc} (w : i.wellFormed = true) (he : effect i s.hw = mid.endCmd (.slot k) ds st reply output) (hst : st < 256)
    (hr : reply.length ≤ 224) (hP : P (mid.writeOut ds output) reply) : Answers i s k st P := by
  refine does_of w ?_
  rw [he]
  refine ⟨_, reply, hP, ?_, ?_⟩
  · obtain ⟨h1, h2, h3, h4, h5⟩ := endCmd_done mid k st reply output ds hst hr
    refine ⟨h1, h2, h3, h4, ?_⟩
    rw [writeOut_only]
    exact h5
  · obtain ⟨h1, h2, h3⟩ := endCmd_onlySlot mid k st reply output ds
    rw [writeOut_only]
    exact ⟨h1, h2, h3⟩

/-- A slot's command of another code is not the one that runs. -/
theorem runCmd_otherCode {h : Hw} {k code code' : Nat} {args : List Byte} (r : SlotBegins h k code args) (hc : code ≠ code')
    (io : HostIo) (act : Call0 → Hw → Res × Hw) : h.runCmd (.slot k) code' io act = h := by
  have hp : h.pick (.slot k) code' = none := by simp [Hw.pick, r.2.2.2.2.2.1, hc]
  rw [Hw.runCmd, hp]

/-! ## Words of a scratch bank in turn (R447, R448) -/

/-- Bank k has just been reached: reaching it again changes nothing. -/
def Hw.InReach (h : Hw) (k : Nat) : Prop :=
  h.host.slice.any (fun s => s.bank == k) = false ∧ Store.set 0 h.host.scrUsed k h.calib = h.host.scrUsed

theorem Hw.InReach.again {h : Hw} {k : Nat} (r : h.InReach k) : h.reachBank k = h := by
  rw [Hw.reachBank, r.1, if_neg Bool.false_ne_true]
  dsimp only
  rw [r.2]

theorem inReach_reachBank (h : Hw) {k : Nat} (hk : k < 16) : (h.reachBank k).InReach k := by
  have r := reaches_reachBank h hk
  have hused : (h.reachBank k).host.scrUsed = Store.set 0 h.host.scrUsed k h.calib := by rw [r.only]
  have hcal : (h.reachBank k).calib = h.calib := by rw [r.only]
  exact ⟨r.free, by rw [hused, hcal, Store.set_set]⟩

/-- The first n words of a stream stored in a bank from word w on. -/
def Hw.putWords (h : Hw) (b w : Nat) (word : Nat → Word64) (n : Nat) : Hw :=
  (List.range n).foldl (fun g i => g.putScr b (w + i) (word i)) h

theorem putWords_succ (h : Hw) (b w : Nat) (word : Nat → Word64) (n : Nat) :
    h.putWords b w word (n + 1) = (h.putWords b w word n).putScr b (w + n) (word n) := by
  rw [Hw.putWords, List.range_succ, List.foldl_append]
  rfl

theorem putWords_only (h : Hw) (b w : Nat) (word : Nat → Word64) (n : Nat) :
    h.putWords b w word n = { h with scratch := (h.putWords b w word n).scratch } := by
  induction n with
  | zero => rfl
  | succ n ih => rw [putWords_succ, Hw.putScr, ih]

theorem scrWord_putWords (h : Hw) (b w : Nat) (word : Nat → Word64) {n : Nat} (hn : w + n ≤ 8192) (c : Nat) {i : Nat} (hi : i < 8192) :
    (h.putWords b w word n).scrWord c i = if c = b ∧ w ≤ i ∧ i < w + n then decEncode (word (i - w)) else h.scrWord c i := by
  induction n with
  | zero => rw [if_neg (by omega)]; rfl
  | succ n ih =>
    rw [putWords_succ, scrWord_putScr _ b (by omega) _ c hi, ih (by omega)]
    by_cases hc : c = b ∧ i = w + n
    · rw [if_pos hc, if_pos (by omega), hc.2, Nat.add_sub_cancel_left]
    · rw [if_neg hc]
      exact if_congr (by omega) rfl rfl

/-! ## MEM_WRITE (R462) -/

/-- The state after n words of a write: nothing is reached before the first. -/
def Hw.scrWritten (h : Hw) (b w : Nat) (word : Nat → Word64) (n : Nat) : Hw :=
  if n = 0 then h else (h.reachBank b).putWords b w word n

theorem scrWritten_succ (h : Hw) (b w : Nat) (word : Nat → Word64) (n : Nat) :
    h.scrWritten b w word (n + 1) = (h.reachBank b).putWords b w word (n + 1) := if_neg (by omega)

section
variable {h : Hw} {b : Nat} (hp : h.pstate < 3) (hb : b < 16) (ho : h.fget (scrA b) 2 0 = 3) (w : Nat) (word : Nat → Word64)
include hp hb

theorem pstate_scrWritten (n : Nat) : (h.scrWritten b w word n).pstate < 3 := by
  rw [Hw.scrWritten]
  split
  · exact hp
  · rw [putWords_only]
    exact (reaches_reachBank h hb).pstate.trans_lt hp

include ho

theorem hostWriteWord_next (n : Nat) :
    (h.scrWritten b w word n).hostWriteWord (.scratch b (w + n)) (word n) = .ok (h.scrWritten b w word (n + 1)) := by
  have r := reaches_reachBank h hb
  rw [hostWriteWord_scratch (pstate_scrWritten hp hb w word n), scrWritten_succ, putWords_succ]
  cases n with
  | zero => exact scrHostWrite_ok _ _ hb ho
  | succ n =>
    have honly := putWords_only (h.reachBank b) b w word (n + 1)
    have hreach : ((h.reachBank b).putWords b w word (n + 1)).InReach b := by
      rw [honly]
      exact inReach_reachBank h hb
    have howner : ((h.reachBank b).putWords b w word (n + 1)).fget (scrA b) 2 0 = 3 := by
      rw [honly]
      exact r.owner.trans ho
    rw [scrWritten_succ]
    generalize (h.reachBank b).putWords b w word (n + 1) = g at hreach howner
    rw [scrHostWrite_ok _ _ hb howner, hreach.again]

end

/-! ## MEM_WRITE (R462) -/

/-- The word of a stream that a write stores at its place i. -/
def inputWord (input : List Byte) (i : Nat) : Word64 := BitVec.ofNat 64 (ofBytes ((input.drop (8 * i)).take 8))

/-- The run of a write after m words of its stream. -/
def Hw.memWriting (h : Hw) (args input : List Byte) (stop : Option Nat) (m : Nat) : MemRun × Hw :=
  (List.range m).foldl (fun (x : MemRun × Hw) i => x.2.memWriteOne args input stop x.1 i) ({}, h)

theorem memWriting_succ (h : Hw) (args input : List Byte) (stop : Option Nat) (m : Nat) :
    h.memWriting args input stop (m + 1) =
      (h.memWriting args input stop m).2.memWriteOne args input stop (h.memWriting args input stop m).1 m := by
  rw [Hw.memWriting, List.range_succ, List.foldl_append]
  rfl

theorem memWrite_eq (h : Hw) (args input : List Byte) (stop : Option Nat) : h.memWrite args input stop =
    (.done (h.memWriting args input stop (arg args 16 4 / 8)).1.status
      (bytesOf 8 (8 * (h.memWriting args input stop (arg args 16 4 / 8)).1.words)) [],
      (h.memWriting args input stop (arg args 16 4 / 8)).2) := rfl

section
variable {h : Hw} {args input : List Byte} {b w : Nat} (hp : h.pstate < 3) (hb : b < 16) (ho : h.fget (scrA b) 2 0 = 3)
  (hplace : ∀ i, memPlace args i = .scratch b (w + i))
include hp hb ho hplace

theorem memWriting_scratch {stop : Option Nat} (m : Nat) (hstop : ∀ i, stop = some i → m ≤ i) :
    h.memWriting args input stop m = ({ words := m }, h.scrWritten b w (inputWord input) m) := by
  induction m with
  | zero => rfl
  | succ m ih =>
    rw [memWriting_succ, ih fun i hi => (hstop i hi).trans' (by omega), Hw.memWriteOne]
    have hne : ¬ stop = some m := fun e => by have := hstop m e; omega
    have hput := hostWriteWord_next hp hb ho w (inputWord input) m
    simp only [Option.isSome_none, Bool.false_eq_true, if_false, hne, decide_false, Bool.false_and, hplace]
    change (match (h.scrWritten b w (inputWord input) m).hostWriteWord (.scratch b (w + m)) (inputWord input m) with | .ok h => _ | .error e => _) = _
    rw [hput]

theorem memWriting_timeout {done : Nat} (m : Nat) :
    h.memWriting args input (some done) (done + 1 + m) =
      ({ words := done, fail := some .timeout }, h.scrWritten b w (inputWord input) done) := by
  induction m with
  | zero =>
    have hup := placeUp_scratch (pstate_scrWritten hp hb w (inputWord input) done) b (w + done)
    rw [Nat.add_zero, memWriting_succ, memWriting_scratch hp hb ho hplace done fun i hi => (Option.some.inj hi).le, Hw.memWriteOne]
    simp [hplace, hup]
  | succ m ih =>
    rw [← Nat.add_assoc, memWriting_succ, ih]
    rfl

end

/-! ## MEM_READ (R462) -/

/-- The run of a read after m words. -/
def Hw.memReading (h : Hw) (args : List Byte) (m : Nat) : MemRun × Hw :=
  (List.range m).foldl (fun (x : MemRun × Hw) i => x.2.memReadOne args none x.1 i) ({}, h)

theorem memReading_succ (h : Hw) (args : List Byte) (m : Nat) :
    h.memReading args (m + 1) = (h.memReading args m).2.memReadOne args none (h.memReading args m).1 m := by
  rw [Hw.memReading, List.range_succ, List.foldl_append]
  rfl

theorem memRead_eq (h : Hw) (args : List Byte) : h.memRead args none =
    (.done (h.memReading args (arg args 16 4 / 8)).1.status (bytesOf 8 (8 * (h.memReading args (arg args 16 4 / 8)).1.words))
      ((h.memReading args (arg args 16 4 / 8)).1.data ++
        List.replicate (arg args 16 4 - (h.memReading args (arg args 16 4 / 8)).1.data.length) 0xFF),
      (h.memReading args (arg args 16 4 / 8)).2) := rfl

/-- The data of m words of a scratch bank. -/
def Hw.scrBytes (h : Hw) (b w m : Nat) : List Byte :=
  (List.range m).flatMap fun i => bytesOf 8 (decDecode (h.scrWord b (w + i))).1.toNat

theorem scrBytes_length (h : Hw) (b w m : Nat) : (h.scrBytes b w m).length = 8 * m := by
  simp [Hw.scrBytes, List.length_flatMap, bytesOf_length, Nat.mul_comm]

theorem memReading_scratch {h : Hw} {args : List Byte} {b w : Nat} (hp : h.pstate < 3) (hb : b < 16) (ho : h.fget (scrA b) 2 0 = 3)
    (hplace : ∀ i, memPlace args i = .scratch b (w + i)) (m : Nat) (hd : ∀ i, i < m → (decDecode (h.scrWord b (w + i))).2 ≠ .bad) :
    h.memReading args m = ({ words := m, data := h.scrBytes b w m }, if m = 0 then h else h.reachBank b) := by
  have r := reaches_reachBank h hb
  induction m with
  | zero => rfl
  | succ m ih =>
    have hread : (if m = 0 then h else h.reachBank b).hostReadWord (.scratch b (w + m)) true =
        (.ok (decDecode (h.scrWord b (w + m))).1, h.reachBank b) := by
      split
      · rw [hostReadWord_scratch hp, scrHostRead_ok hb ho (hd m (by omega))]
      · rw [hostReadWord_scratch (r.pstate.trans_lt hp), scrHostRead_ok hb (r.owner.trans ho) (by rw [r.scrWord]; exact hd m (by omega)),
          r.scrWord, r.again]
    rw [memReading_succ, ih fun i hi => hd i (by omega), Hw.memReadOne]
    simp only [Option.isSome_none, Bool.false_eq_true, if_false, reduceCtorEq, decide_false, Bool.false_and, hplace, hread]
    rw [Hw.scrBytes, Hw.scrBytes, List.range_succ, List.flatMap_append]
    simp

/-! ## The arguments of a memory command (R462) -/

/-- What a well-formed range in SCRATCH gives. -/
theorem memRange_scratch {args : List Byte} (hr : memRange args = true) (h3 : arg args 0 1 = 3) :
    arg args 2 2 < 16 ∧ arg args 8 8 / 8 + arg args 16 4 / 8 ≤ 8192 ∧
      ∀ i, memPlace args i = .scratch (arg args 2 2) (arg args 8 8 / 8 + i) := by
  simp only [memRange, h3, Bool.and_eq_true, decide_eq_true_eq, beq_iff_eq] at hr
  norm_num at hr
  refine ⟨by omega, by omega, fun i => ?_⟩
  rw [memPlace, h3]
  rfl

theorem memRange_len {args : List Byte} (hr : memRange args = true) : arg args 16 4 % 8 = 0 ∧ 8 ≤ arg args 16 4 := by
  simp only [memRange, Bool.and_eq_true, decide_eq_true_eq, beq_iff_eq] at hr
  omega

theorem failure_status_lt (e : Failure) : e.status < 256 := by cases e <;> decide

section
variable {s : State} {k : Nat} {io : HostIo} {args input : List Byte} {ds : List Desc} (h24 : args.length = 24)
  (hr : memRange args = true) (r : SlotBegins s.hw k 0x0403 args) (hst : s.hw.streams k io (arg args 16 4) 0 = some (.ok (ds, input)))
include h24 hr r hst

/-- MEM_WRITE ends as its run does, and so does one that times out. -/
theorem memWrite_answers (stop : Option Nat) {i : Instr} (hi : i.wellFormed = true)
    (he : effect i s.hw = s.hw.runCmd (.slot k) 0x0403 io fun c h => h.memWrite c.args c.input stop) {P : Hw → List Byte → Prop}
    (hP : P (s.hw.memWriting args input stop (arg args 16 4 / 8)).2
      (bytesOf 8 (8 * (s.hw.memWriting args input stop (arg args 16 4 / 8)).1.words))) :
    Answers i s k (s.hw.memWriting args input stop (arg args 16 4 / 8)).1.status P := by
  have hargs : (isLen 24 args && memRange args) = true := by simp [isLen, h24, hr]
  have hrun := runCmd_begins r rfl hargs hst fun c h => h.memWrite c.args c.input stop
  refine answers_of_endCmd hi (he.trans (hrun.trans (by rw [memWrite_eq]; rfl))) ?_ (by rw [bytesOf_length]; decide) hP
  rw [MemRun.status]
  split
  · exact failure_status_lt _
  · decide

end

section
variable {s : State} {k : Nat} {io : HostIo} {args input : List Byte} {ds : List Desc} (h24 : args.length = 24)
  (hr : memRange args = true) (r : SlotBegins s.hw k 0x0402 args) (hst : s.hw.streams k io 0 (arg args 16 4) = some (.ok (ds, input)))
include h24 hr r hst

/-- MEM_READ ends as its run does, and writes its output to host memory. -/
theorem memRead_answers {P : Hw → List Byte → Prop} {n : Nat} {run : MemRun} {g : Hw} (hn : arg args 16 4 / 8 = n)
    (hrun : s.hw.memReading args n = (run, g))
    (hP : P (g.writeOut ds (run.data ++ List.replicate (arg args 16 4 - run.data.length) 0xFF)) (bytesOf 8 (8 * run.words))) :
    Answers (.memRead (.slot k) io) s k run.status P := by
  have hargs : (isLen 24 args && memRange args) = true := by simp [isLen, h24, hr]
  have he := runCmd_begins r rfl hargs hst fun c h => h.memRead c.args none
  refine answers_of_stream r.src_ok (he.trans (by rw [memRead_eq, hn, hrun]; rfl)) ?_ (by rw [bytesOf_length]; decide) hP
  rw [MemRun.status]
  split
  · exact failure_status_lt _
  · decide

end

/-- The first word of a read, which is all of it. -/
theorem memReading_one (h : Hw) (args : List Byte) : h.memReading args 1 =
    match h.hostReadWord (memPlace args 0) true with
    | (.ok v, g) => ({ words := 1, data := bytesOf 8 v.toNat }, g)
    | (.error e, g) => ({ fail := some e }, g) := by
  rw [memReading_succ]
  rcases hw : h.hostReadWord (memPlace args 0) true with ⟨v | v, g⟩ <;> simp [Hw.memReading, Hw.memReadOne, hw]

/-- The first word of a write, which is all of it. -/
theorem memWriting_one (h : Hw) (args input : List Byte) : h.memWriting args input none 1 =
    match h.hostWriteWord (memPlace args 0) (inputWord input 0) with
    | .ok g => ({ words := 1 }, g)
    | .error e => ({ fail := some e }, h) := by
  rw [memWriting_succ]
  rcases hw : h.hostWriteWord (memPlace args 0) (inputWord input 0) with v | v <;>
    simp [Hw.memWriting, Hw.memWriteOne, inputWord] at hw ⊢ <;> rw [hw]

/-- RIDGE_TIMEOUT of a command acts as the command of that slot, with the word that times out. -/
theorem effect_memoryTimeout {s : State} {k : Nat} {io : HostIo} {args : List Byte} (done : Nat) (r : SlotBegins s.hw k 0x0403 args) :
    effect (.ridgeTimeout (.memory (.slot k) io done)) s.hw =
      s.hw.runCmd (.slot k) 0x0403 io fun c h => h.memWrite c.args c.input (some done) := by
  have he : effect (.ridgeTimeout (.memory (.slot k) io done)) s.hw =
      (s.hw.runCmd (.slot k) 0x0402 io fun c g => g.memRead c.args (some done)).runCmd (.slot k) 0x0403 io
        fun c g => g.memWrite c.args c.input (some done) := rfl
  rw [he, runCmd_otherCode r (by decide)]

theorem runNow_otherCode {h : Hw} {k code code' : Nat} {args : List Byte} (r : SlotBegins h k code args) (hc : code ≠ code')
    (io : HostIo) (f : Call0 → Hw → Nat × List Byte × Hw) : h.runNow (.slot k) code' io f = h := by
  unfold Hw.runNow
  exact runCmd_otherCode r hc io _

theorem effect_registerTimeout (h : Hw) (src : CmdSrc) (io : HostIo) (words : Nat) :
    effect (.ridgeTimeout (.register src io words)) h =
      (h.runNow src 0x0C01 io fun c g => g.regReadLate c.args words).runNow src 0x0C02 io fun c g => g.regWriteLate c.args words := rfl

/-- A write of WAIT_LIMIT whose first word times out (R23). -/
theorem regWrite_timeout {s : State} {k : Nat} {io : HostIo} {args : List Byte} {d : Nat} (hd : d < 2) (h12 : args.length = 12)
    (ha : arg args 0 4 = seqA d 0x30) (h1 : arg args 4 1 = 1) (h3 : arg args 5 3 = 0) (r : SlotRuns s.hw k 0x0C02 args) :
    Answers (.ridgeTimeout (.register (.slot k) io 0)) s k stTimeout fun m r => m = s.hw ∧ r = [0] := by
  have hlow : ∀ d, d < 2 → overRidge (seqA d 0x30) = true := by decide
  have hlate : s.hw.regWriteLate args 0 = (stTimeout, [0], s.hw) := by
    have hopen : s.hw.arrayShut (arg args 0 4) = false := by simp [Hw.arrayShut, Hw.diesShut, r.1.2.2.1]
    rw [Hw.regWriteLate, hopen, ha, hlow d hd, h1]
    rfl
  have he : effect (.ridgeTimeout (.register (.slot k) io 0)) s.hw =
      s.hw.runNow (.slot k) 0x0C02 io fun c h => h.regWriteLate c.args 0 := by
    rw [effect_registerTimeout, runNow_otherCode r.1 (by decide)]
  have hok : (args.length == 8 + 4 * arg args 4 1 && regRange args) = true := by
    have hblock : ∀ d, d < 2 → seqA d 0x30 % 4 = 0 ∧ ∃ b, blockAt (seqA d 0x30) = some b ∧ seqA d 0x30 < b.1 + b.2.1 := fun d hd => by
      obtain rfl | rfl : d = 0 ∨ d = 1 := by omega
      · exact ⟨by decide, _, rfl, by decide⟩
      · exact ⟨by decide, _, rfl, by decide⟩
    obtain ⟨h4, b, hb, hlt⟩ := hblock d hd
    rw [regRange, ha, h1, h3, h12, hb, h4]
    simpa using hlt
  exact answers_of_runNow (fun c h => h.regWriteLate c.args 0) r r.1.src_ok he rfl hok rfl rfl hlate (by decide) (by decide) ⟨rfl, rfl⟩

/-- READBACK of a module with an image, and without one (R464). -/
theorem readback_answers {s : State} {k : Nat} {io : HostIo} {args input : List Byte} {ds : List Desc} (h16 : args.length = 16)
    (hok : readbackOk args = true) (r : SlotBegins s.hw k 0x0408 args)
    (hst : s.hw.streams k io 0 (arg args 8 4 * (readbackUnit (arg args 0 1)).2.2) = some (.ok (ds, input))) :
    (s.hw.seq.run ≠ .empty → Answers (.readback (.slot k) io) s k stOk fun m r => r = bytesOf 4 (arg args 8 4) ∧
      m = s.hw.writeOut ds ((List.range (arg args 8 4)).flatMap fun i =>
        s.hw.readbackItem (arg args 0 1) (arg args 1 1) (arg args 2 2) (arg args 4 4 + i))) ∧
    (s.hw.seq.run = .empty → Answers (.readback (.slot k) io) s k stNotReady fun m r => m = s.hw ∧ r = []) := by
  have hargs : (isLen 16 args && readbackOk args) = true := by simp [isLen, h16, hok]
  have he : effect (.readback (.slot k) io) s.hw =
      if s.hw.seq.run = .empty then s.hw.endCmd (.slot k) ds stNotReady [] []
      else s.hw.endCmd (.slot k) ds stOk (bytesOf 4 (arg args 8 4)) ((List.range (arg args 8 4)).flatMap fun i =>
        s.hw.readbackItem (arg args 0 1) (arg args 1 1) (arg args 2 2) (arg args 4 4 + i)) := by
    change execReadback s.hw (.slot k) io = _
    unfold execReadback
    rw [runCmd_begins r rfl hargs hst]
    split <;> rfl
  refine ⟨fun hr => ?_, fun hr => ?_⟩
  · rw [if_neg hr] at he
    exact answers_of_stream r.src_ok he (by decide) (by rw [bytesOf_length]; decide) ⟨rfl, rfl⟩
  · rw [if_pos hr] at he
    exact answers_of_endCmd r.src_ok he (by decide) (by decide) ⟨rfl, rfl⟩

/-- Settles O24: a memory command goes on word by word, and reaches a scratch bank at its first word alone. -/
theorem memoryCommands : Obligations.MemoryCommands := by
  intro s k io args ds input
  refine ⟨fun h24 hr r hst => ?_, fun h24 hr r hst => ?_, fun d hd h12 ha h1 h3 r => regWrite_timeout hd h12 ha h1 h3 r,
    fun h16 hok r hst => readback_answers h16 hok r hst⟩
  · have hp : s.hw.pstate < 3 := by rw [r.2.2.1]; decide
    obtain ⟨hmod, hge⟩ := memRange_len hr
    refine ⟨fun h3 ho => ?_, fun hn => ⟨fun g hg => ?_, fun e he => ?_⟩⟩
    · obtain ⟨hb, hlen, hplace⟩ := memRange_scratch hr h3
      have hscr : ∀ m, m ≤ arg args 16 4 / 8 → ∀ c i, i < 8192 →
          (s.hw.scrWritten (arg args 2 2) (arg args 8 8 / 8) (inputWord input) m).scrWord c i =
            if c = arg args 2 2 ∧ arg args 8 8 / 8 ≤ i ∧ i < arg args 8 8 / 8 + m then decEncode (inputWord input (i - arg args 8 8 / 8))
            else s.hw.scrWord c i := fun m hm c i hi => by
        rw [Hw.scrWritten]
        split
        · next h0 => rw [if_neg (by omega)]
        · rw [scrWord_putWords _ _ _ _ (by omega) c hi, (reaches_reachBank s.hw hb).scrWord]
      have honly : ∀ m, s.hw.scrWritten (arg args 2 2) (arg args 8 8 / 8) (inputWord input) m =
          { (if m = 0 then s.hw else s.hw.reachBank (arg args 2 2)) with
            scratch := (s.hw.scrWritten (arg args 2 2) (arg args 8 8 / 8) (inputWord input) m).scratch } := fun m => by
        rw [Hw.scrWritten]
        split
        · rfl
        · exact putWords_only ..
      refine ⟨?_, fun done hdone => ?_⟩
      · have hrun := memWriting_scratch (args := args) (input := input) hp hb ho hplace (stop := none) (arg args 16 4 / 8) nofun
        have hall := hscr _ le_rfl
        have heach := honly (arg args 16 4 / 8)
        rw [if_neg (by omega)] at heach
        have ans := fun {P} => memWrite_answers h24 hr r hst none (i := .memWrite (.slot k) io) r.src_ok rfl (P := P)
        rw [hrun] at ans
        exact ans ⟨rfl, hall, heach⟩
      · obtain ⟨m, hm⟩ : ∃ m, arg args 16 4 / 8 = done + 1 + m := ⟨arg args 16 4 / 8 - done - 1, by omega⟩
        have hrun := memWriting_timeout (args := args) (input := input) hp hb ho hplace (done := done) m
        rw [← hm] at hrun
        have ans := fun {P} => memWrite_answers h24 hr r hst (some done) (i := .ridgeTimeout (.memory (.slot k) io done)) r.src_ok
          (effect_memoryTimeout done r) (P := P)
        rw [hrun] at ans
        exact ans ⟨rfl, hscr done (by omega), honly done⟩
    · have ans := fun {P} => memWrite_answers h24 hr r hst none (i := .memWrite (.slot k) io) r.src_ok rfl (P := P)
      have hg' : s.hw.hostWriteWord (memPlace args 0) (inputWord input 0) = .ok g := hg
      rw [hn, memWriting_one, hg'] at ans
      exact ans ⟨rfl, rfl⟩
    · have ans := fun {P} => memWrite_answers h24 hr r hst none (i := .memWrite (.slot k) io) r.src_ok rfl (P := P)
      have he' : s.hw.hostWriteWord (memPlace args 0) (inputWord input 0) = .error e := he
      rw [hn, memWriting_one, he'] at ans
      exact ans ⟨rfl, rfl⟩
  · have hp : s.hw.pstate < 3 := by rw [r.2.2.1]; decide
    obtain ⟨hmod, hge⟩ := memRange_len hr
    refine ⟨fun h3 ho hd => ?_, fun hn => ⟨fun v g hg => ?_, fun e g hg => ?_⟩⟩
    · obtain ⟨hb, hlen, hplace⟩ := memRange_scratch hr h3
      have hrun := memReading_scratch hp hb ho hplace _ hd
      rw [if_neg (by omega)] at hrun
      refine memRead_answers h24 hr r hst rfl hrun ⟨rfl, ?_⟩
      rw [scrBytes_length, show arg args 16 4 - 8 * (arg args 16 4 / 8) = 0 by omega]
      exact congrArg _ (List.append_nil _)
    · have hrun := memReading_one s.hw args
      rw [hg] at hrun
      refine memRead_answers h24 hr r hst hn hrun ⟨?_, rfl⟩
      rw [bytesOf_length, show arg args 16 4 - 8 = 0 by omega]
      exact congrArg _ (List.append_nil _)
    · have hrun := memReading_one s.hw args
      rw [hg] at hrun
      refine memRead_answers h24 hr r hst hn hrun ⟨?_, rfl⟩
      have h8 : arg args 16 4 = 8 := by omega
      rw [h8]
      rfl

end Sys2Proof.Machine
end

section
-- As the tests above: declarations in order, so that checking the one text stays within its memory.
set_option Elab.async false
/-!
PROOFS. The loft slot of a truss (R57 to R66): reads, full and masked writes, the commits of the merged words, the read
bus and the write-backs, in normal mode.
-/

namespace Sys2Proof.Machine

/-! ## Operations of one course -/

theorem once_due (h : Hw) {t : OpTag} {c : Bool} (f : Hw → Hw) (hc : c = true) (hd : h.done.contains t = false) :
    h.once t c f = (f h).markDone t := by
  unfold Hw.once
  rw [hc, hd]
  rfl

theorem once_idle (h : Hw) {t : OpTag} {c : Bool} {f : Hw → Hw} (hf : f h = h) :
    h.once t c f = { h with done := (h.once t c f).done } := by
  unfold Hw.once
  split
  · rw [hf]; rfl
  · rfl

/-- In normal mode there are no hazards (R207). -/
theorem hazard_unchecked {h : Hw} (hc : h.seq.checked = false) (d code t : Nat) (bp : Option Nat) (detail : Nat) :
    h.hazard d code t bp detail = h := by
  simp [Hw.hazard, hc]

theorem truss_markDone (h : Hw) (t : OpTag) (U : Nat) : (h.markDone t).truss U = h.truss U := rfl

theorem loft_markDone (h : Hw) (t : OpTag) (U b : Nat) : (h.markDone t).loft U b = h.loft U b := rfl

theorem loft_setTruss (h : Hw) (T : Nat) (k : Truss) (U b : Nat) : (h.setTruss T k).loft U b = h.loft U b := rfl

theorem truss_setLoft (h : Hw) (T a : Nat) (v : Word78) (U : Nat) : (h.setLoft T a v).truss U = h.truss U := rfl

theorem truss_setTruss_ne (h : Hw) {T U : Nat} (k : Truss) (hU : U ≠ T) : (h.setTruss T k).truss U = h.truss U := by
  rw [truss_setTruss, if_neg hU]

/-- Only trusses, loft words and the marks of the course have changed. -/
def LoftWork (h g : Hw) : Prop := g = { h with trusses := g.trusses, lofts := g.lofts, done := g.done }

theorem LoftWork.trans {h g k : Hw} (a : LoftWork h g) (b : LoftWork g k) : LoftWork h k := by
  unfold LoftWork at *
  rw [b, a]

theorem loftWork_setTruss (h : Hw) (T : Nat) (k : Truss) : LoftWork h (h.setTruss T k) := rfl

theorem loftWork_setLoft (h : Hw) (T a : Nat) (v : Word78) : LoftWork h (h.setLoft T a v) := rfl

theorem loftWork_markDone (h : Hw) (t : OpTag) : LoftWork h (h.markDone t) := rfl

/-- No capture goes on, so that no old word is kept (R378). -/
theorem holdLoft_idle {h : Hw} (hc : h.snap.capture = none) (T a : Nat) : h.holdLoft T a = h := by
  simp [Hw.holdLoft, Hw.draining, hc]

theorem loft_setLoft_same (h : Hw) (T a : Nat) (v : Word78) : (h.setLoft T a v).loft T a = v := by
  simp [Hw.setLoft, Hw.loft]

theorem loft_setLoft_other (h : Hw) {T a U b : Nat} (v : Word78) (ha : a < 2048) (hb : b < 2048) (hn : (U, b) ≠ (T, a)) :
    (h.setLoft T a v).loft U b = h.loft U b := by
  have hk : U * 2048 + b ≠ T * 2048 + a := fun e => hn (by rw [Prod.mk.injEq]; omega)
  exact Store.get_set_ne _ _ _ _ hk

/-! ## The merged words of masked writes -/

/-- The merged words of a list of masked writes are stored in order. -/
def Hw.storeMerged (h : Hw) (T : Nat) (l : List LoftRmw) : Hw :=
  l.foldl (fun h r => h.setLoft T r.addr (decEncode r.merged)) h

theorem storeMerged_only (h : Hw) (T : Nat) (l : List LoftRmw) :
    h.storeMerged T l = { h with lofts := (h.storeMerged T l).lofts } := by
  induction l generalizing h with
  | nil => rfl
  | cons r l ih =>
    change (h.setLoft T r.addr (decEncode r.merged)).storeMerged T l = _
    rw [ih]; rfl

theorem loft_storeMerged (h : Hw) (T : Nat) (l : List LoftRmw) (hl : ∀ r ∈ l, r.addr < 2048) {U b : Nat} (hb : b < 2048) :
    (h.storeMerged T l).loft U b =
      if U = T then (match (l.filter fun r => r.addr == b).getLast? with
        | some r => decEncode r.merged
        | none => h.loft T b) else h.loft U b := by
  induction l generalizing h with
  | nil => by_cases hU : U = T <;> simp [Hw.storeMerged, hU]
  | cons r l ih =>
    have hr := hl r (List.mem_cons_self)
    change ((h.setLoft T r.addr (decEncode r.merged)).storeMerged T l).loft U b = _
    rw [ih _ fun x hx => hl x (List.mem_cons_of_mem _ hx)]
    by_cases hU : U = T
    · subst hU
      rw [if_pos rfl, if_pos rfl, List.filter_cons]
      by_cases hb' : r.addr = b
      · subst hb'
        rw [loft_setLoft_same, if_pos (by simp), List.getLast?_cons]
        cases (l.filter fun x => x.addr == r.addr).getLast? <;> rfl
      · rw [loft_setLoft_other _ _ hr hb (by simp; omega), if_neg (by simpa using hb')]
    · rw [if_neg hU, if_neg hU, loft_setLoft_other _ _ hr hb (by simp [hU])]

theorem flushRmw_stored {h : Hw} (hc : h.snap.capture = none) (T : Nat) (p : LoftRmw → Bool) :
    h.flushRmw T p = (h.storeMerged T ((h.truss T).rmw.filter p)).setTruss T
      { h.truss T with rmw := (h.truss T).rmw.filter fun r => !p r } := by
  have key : ∀ (l : List LoftRmw) (g : Hw), g.snap.capture = none →
      l.foldl (fun h r => (h.holdLoft T r.addr).setLoft T r.addr (decEncode r.merged)) g = g.storeMerged T l := by
    intro l
    induction l with
    | nil => intro g _; rfl
    | cons r l ih =>
      intro g hg
      rw [List.foldl_cons, holdLoft_idle hg]
      exact ih _ hg
  unfold Hw.flushRmw
  dsimp only
  rw [key _ _ hc]
  have : (h.storeMerged T ((h.truss T).rmw.filter p)).truss T = h.truss T := by rw [storeMerged_only]; rfl
  simp only [this]

theorem flushRmw_none {h : Hw} (hc : h.snap.capture = none) {T : Nat} {p : LoftRmw → Bool}
    (hp : ∀ r ∈ (h.truss T).rmw, p r = false) : h.flushRmw T p = h.setTruss T (h.truss T) := by
  rw [flushRmw_stored hc, List.filter_eq_nil_iff.2 fun r hr => by simp [hp r hr],
    List.filter_eq_self.2 fun r hr => by simp [hp r hr]]
  rfl

/-! ## The six operations -/

theorem execLoftRead_clean {h : Hw} {d t a : Nat} (hop : h.loftOp d t = (.read, a)) (hd : h.done.contains (.loft d t) = false)
    (hb : h.loftBlocked (trussIx d t) = false) (hf : (h.loftSees (trussIx d t) a).2 = .clean) :
    execLoftRead h d t = (h.setTruss (trussIx d t) { h.truss (trussIx d t) with
      reads := (h.truss (trussIx d t)).reads ++ [⟨h.seq.pos + 3, (h.loftSees (trussIx d t) a).1, false⟩] }).markDone
      (.loft d t) := by
  unfold execLoftRead
  rw [hop]
  dsimp only
  rw [once_due _ _ (decide_eq_true rfl) hd, if_neg (by simp [hb]), hf]
  rfl

theorem execLoftWrite_due {h : Hw} {d t a : Nat} (hop : h.loftOp d t = (.write, a)) (hd : h.done.contains (.loft d t) = false)
    (hb : h.loftBlocked (trussIx d t) = false) {en v : Word64} (hw : h.loftWriteBits d t = (en, v)) :
    execLoftWrite h d t = (if en = 0 then h
      else if en = 0xFFFFFFFFFFFFFFFF#64 then
        (((h.flushRmw (trussIx d t) fun r => r.addr == a).dropWb (trussIx d t) a).holdLoft (trussIx d t) a).setLoft
          (trussIx d t) a (decEncode v)
      else
        let (old, f) := h.loftSees (trussIx d t) a
        let h := h.loftFinding d t a f
        let h := h.dropWb (trussIx d t) a
        let k := h.truss (trussIx d t)
        let merged := (old &&& ~~~ en) ||| (v &&& en)
        h.setTruss (trussIx d t) { k with
          blocked := some (h.seq.pos + 1)
          rmw := if f = .bad then k.rmw else k.rmw ++ [⟨a, merged, h.seq.pos + 4⟩] }).markDone (.loft d t) := by
  unfold execLoftWrite
  rw [hop]
  dsimp only
  rw [once_due _ _ (decide_eq_true rfl) hd, if_neg (by simp [hb]), hw]

theorem execLoftWrite_full {h : Hw} {d t a : Nat} (hop : h.loftOp d t = (.write, a)) (hd : h.done.contains (.loft d t) = false)
    (hb : h.loftBlocked (trussIx d t) = false) (hc : h.snap.capture = none) {v : Word64}
    (hw : h.loftWriteBits d t = (0xFFFFFFFFFFFFFFFF#64, v)) (hr : ∀ r ∈ (h.truss (trussIx d t)).rmw, r.addr ≠ a) :
    execLoftWrite h d t = (((h.setTruss (trussIx d t) (h.truss (trussIx d t))).setTruss (trussIx d t) { h.truss (trussIx d t) with
      wb := (h.truss (trussIx d t)).wb.filter fun w => w.addr != a }).setLoft (trussIx d t) a (decEncode v)).markDone
      (.loft d t) := by
  rw [execLoftWrite_due hop hd hb hw, if_neg (by decide), if_pos rfl, flushRmw_none hc fun r hx => by simpa using hr r hx,
    holdLoft_idle (by exact hc)]
  unfold Hw.dropWb
  rw [truss_setTruss_same]

theorem execLoftWrite_masked {h : Hw} {d t a : Nat} (hop : h.loftOp d t = (.write, a))
    (hd : h.done.contains (.loft d t) = false) (hb : h.loftBlocked (trussIx d t) = false) {en v : Word64}
    (hw : h.loftWriteBits d t = (en, v)) (h0 : en ≠ 0) (h1 : en ≠ 0xFFFFFFFFFFFFFFFF)
    (hf : (h.loftSees (trussIx d t) a).2 = .clean) :
    execLoftWrite h d t = ((h.setTruss (trussIx d t) { h.truss (trussIx d t) with
      wb := (h.truss (trussIx d t)).wb.filter fun w => w.addr != a }).setTruss (trussIx d t) { h.truss (trussIx d t) with
      wb := (h.truss (trussIx d t)).wb.filter fun w => w.addr != a
      blocked := some (h.seq.pos + 1)
      rmw := (h.truss (trussIx d t)).rmw ++
        [⟨a, ((h.loftSees (trussIx d t) a).1 &&& ~~~ en) ||| (v &&& en), h.seq.pos + 4⟩] }).markDone (.loft d t) := by
  rw [execLoftWrite_due hop hd hb hw, if_neg h0, if_neg (show ¬ en = 18446744073709551615#64 from h1)]
  dsimp only
  rw [hf]
  unfold Hw.loftFinding Hw.dropWb
  dsimp only
  rw [truss_setTruss_same, if_neg (by decide)]
  rfl

theorem execLoftReadDeliver_due {h : Hw} {d t : Nat} (hc : h.seq.checked = false) (he : h.execRow d ≠ none)
    (hd : h.done.contains (.busDeliver d t) = false) (hr : ∃ r ∈ (h.truss (trussIx d t)).reads, r.pos = h.seq.pos) :
    execLoftReadDeliver h d t = (h.setTruss (trussIx d t) { h.truss (trussIx d t) with
      bus := (h.truss (trussIx d t)).busWord h.seq.pos }).markDone (.busDeliver d t) := by
  obtain ⟨r, hm, hp⟩ := hr
  have hne : ((h.truss (trussIx d t)).reads.filter fun r => r.pos == h.seq.pos) ≠ [] := fun e => by
    have := List.filter_eq_nil_iff.1 e r hm
    simp [hp] at this
  unfold execLoftReadDeliver
  dsimp only
  rw [once_due _ _ (by simp [Option.isSome_iff_ne_none, he, hne]) hd, hazard_unchecked hc, ite_self]

theorem execLoftWriteback_first {h : Hw} {d t : Nat} {w : WriteBack} {rest : List WriteBack} (he : h.execClock = true)
    (hop : (h.loftOp d t).1 = .none) (hr : (h.truss (trussIx d t)).rmw = []) (hw : (h.truss (trussIx d t)).wb = w :: rest)
    (hp : w.pos ≠ h.seq.pos) (hd : h.done.contains (.writeback d t) = false) :
    execLoftWriteback h d t = ((h.setTruss (trussIx d t) { h.truss (trussIx d t) with wb := rest }).setLoft (trussIx d t) w.addr
      (decEncode w.data)).markDone (.writeback d t) := by
  unfold execLoftWriteback
  dsimp only
  rw [once_due _ _ (by simp [he, hop, hr, hw, hp]) hd, hw]
  simp [hp]

theorem execLoftRead_blocked {h : Hw} {d t : Nat} (hc : h.seq.checked = false) (hb : h.loftBlocked (trussIx d t) = true) :
    execLoftRead h d t = { h with done := (execLoftRead h d t).done } := by
  unfold execLoftRead
  refine once_idle h ?_
  dsimp only
  rw [if_pos hb]
  exact hazard_unchecked hc ..

theorem execLoftWrite_blocked {h : Hw} {d t : Nat} (hc : h.seq.checked = false) (hb : h.loftBlocked (trussIx d t) = true) :
    execLoftWrite h d t = { h with done := (execLoftWrite h d t).done } := by
  unfold execLoftWrite
  refine once_idle h ?_
  dsimp only
  rw [if_pos hb]
  exact hazard_unchecked hc ..

/-- Settles O36: each operation of a loft slot by the equation that says what it does to its truss and its loft. -/
theorem loftSlot : Obligations.LoftSlot := by
  intro s d t hd ht hc T k q same
  have wf : (decide (d < 2) && decide (t < 512)) = true := by simp [hd, ht]
  refine ⟨fun a hop hdn hb hf => does_of wf ?_, fun a hop ha hdn hb hs => ?_, fun hs hr => does_of wf ?_,
    fun he hdn hr => does_of wf ?_, fun w rest he hop hr hw hp hdn => does_of wf ?_, fun hb => ⟨does_of wf ?_, does_of wf ?_⟩⟩
  · rw [show effect (.loftRead d t) s.hw = _ from execLoftRead_clean hop hdn hb hf]
    exact ⟨truss_setTruss_same .., fun U hU => truss_setTruss_ne _ _ hU, rfl⟩
  · intro en v
    have hw : s.hw.loftWriteBits d t = (en, v) := rfl
    clear_value en v
    refine ⟨fun he hr => does_of wf ?_, fun h0 h1 hf => does_of wf ?_, fun h0 => does_of wf ?_⟩
    · subst he
      rw [show effect (.loftWrite d t) s.hw = _ from execLoftWrite_full hop hdn hb hs hw hr]
      refine ⟨?_, fun U b hb hn => ?_, ?_, fun U hU => ?_, (((loftWork_setTruss ..).trans (loftWork_setTruss ..)).trans (loftWork_setLoft ..)).trans (loftWork_markDone ..)⟩
      · exact (loft_markDone ..).trans (loft_setLoft_same ..)
      · exact (loft_markDone ..).trans (loft_setLoft_other _ _ ha hb hn)
      · exact (truss_markDone ..).trans ((truss_setLoft ..).trans (truss_setTruss_same ..))
      · exact (truss_markDone ..).trans ((truss_setLoft ..).trans
          ((truss_setTruss_ne _ _ hU).trans (truss_setTruss_ne _ _ hU)))
    · rw [show effect (.loftWrite d t) s.hw = _ from execLoftWrite_masked hop hdn hb hw h0 h1 hf]
      exact ⟨truss_setTruss_same .., fun U hU => (truss_setTruss_ne _ _ hU).trans (truss_setTruss_ne _ _ hU), rfl⟩
    · rw [show effect (.loftWrite d t) s.hw = _ from execLoftWrite_due hop hdn hb hw, if_pos h0]
      rfl
  · have hnot : ((s.hw.truss T).rmw.filter fun r => !decide (r.pos ≤ s.hw.seq.pos)) = k.rmw.filter fun r => decide (q < r.pos) :=
      List.filter_congr fun r _ => by
      rw [← decide_not, decide_eq_decide]; exact Nat.not_le
    have hlt : ∀ r ∈ (s.hw.truss T).rmw.filter (fun r => decide (r.pos ≤ s.hw.seq.pos)), r.addr < 2048 :=
      fun r hx => hr r (List.mem_filter.1 hx).1
    rw [show effect (.loftRmwCommit d t) s.hw = _ from flushRmw_stored hs T _, hnot]
    refine ⟨truss_setTruss_same .., fun U hU => ?_, fun b hb => ?_, fun U b hU hb => ?_, ?_⟩
    · rw [truss_setTruss_ne _ _ hU, storeMerged_only]; rfl
    · rw [loft_setTruss, loft_storeMerged _ _ _ hlt hb, if_pos rfl, List.filter_filter]
      simp only [Bool.and_comm]
      rfl
    · rw [loft_setTruss, loft_storeMerged _ _ _ hlt hb, if_neg hU]
    · rw [storeMerged_only]; rfl
  · rw [show effect (.loftReadDeliver d t) s.hw = _ from execLoftReadDeliver_due hc he hdn hr]
    exact ⟨truss_setTruss_same .., fun U hU => truss_setTruss_ne _ _ hU, rfl⟩
  · rw [show effect (.loftWriteback d t) s.hw = _ from execLoftWriteback_first he hop hr hw hp hdn]
    exact ⟨truss_setTruss_same .., loft_setLoft_same .., fun U hU => truss_setTruss_ne _ _ hU, rfl⟩
  · exact execLoftRead_blocked hc hb
  · exact execLoftWrite_blocked hc hb

end Sys2Proof.Machine
end

section
-- As the tests above: declarations in order, so that checking the one text stays within its memory.
set_option Elab.async false
/-!
PROOFS. The commands that a design memory bank samples in a course (R158 to R174): reads, full and masked writes, their
commit, the delivery of what has been read, the write-backs, and the refusal of another owner, in normal mode.
-/

namespace Sys2Proof.Machine

/-! ## The state of a bank and its words -/

theorem bank_setBank_ne (h : Hw) {B b : Nat} (k : Bank) (hb : b ≠ B) : (h.setBank B k).bank b = h.bank b := by
  rw [bank_setBank, if_neg hb]

theorem bank_markDone (h : Hw) (t : OpTag) (b : Nat) : (h.markDone t).bank b = h.bank b := rfl

theorem holdBank_idle {h : Hw} (hc : h.snap.capture = none) (B a : Nat) : h.holdBank B a = h := by
  simp [Hw.holdBank, Hw.draining, hc]

theorem setBankWord_same (h : Hw) (B a : Nat) (v : Word64) :
    (h.setBankWord B a v).bankWord B a = decEncode v ∧ (h.setBankWord B a v).bankWritten B a = true := by
  simp [Hw.setBankWord, Hw.bankWord, Hw.bankWritten]

theorem setBankWord_other (h : Hw) {B a b x : Nat} (v : Word64) (ha : a < 32768) (hx : x < 32768) (hn : (b, x) ≠ (B, a)) :
    (h.setBankWord B a v).bankWord b x = h.bankWord b x ∧ (h.setBankWord B a v).bankWritten b x = h.bankWritten b x := by
  have hk : b * 32768 + x ≠ B * 32768 + a := fun e => hn (by rw [Prod.mk.injEq]; omega)
  exact ⟨Store.get_set_ne 0 0 h.bankMem _ hk, Store.get_set_ne false false h.bankValid true hk⟩

theorem bank_setBankWord (h : Hw) (B a : Nat) (v : Word64) (b : Nat) : (h.setBankWord B a v).bank b = h.bank b := rfl

/-! ## What an event that poisons a frame changes -/

/-- From h to g events have been raised, and symbols sent: nothing else has changed. -/
structure Signals (h g : Hw) : Prop where
  rest : g = { h with seq := { h.seq with syms := g.seq.syms, poisoned := g.seq.poisoned }
                      fault := { h.fault with path := g.fault.path }, ports := g.ports, out := g.out }
  port : ∀ p, g.port p = { h.port p with txSyms := (g.port p).txSyms }
  path : ∀ e ∈ h.fault.path, e ∈ g.fault.path

theorem Signals.refl (h : Hw) : Signals h h := ⟨rfl, fun _ => rfl, fun _ he => he⟩

theorem Signals.trans {h g k : Hw} (a : Signals h g) (b : Signals g k) : Signals h k :=
  ⟨by rw [b.rest, a.rest], fun p => by rw [b.port, a.port], fun e he => b.path e (a.path e he)⟩

theorem get_map_txSyms (m : Store EavePort) (c : Nat → Bool) (s : Sym) (p : Nat) :
    ∃ l, Store.get {} (m.map fun kv => if c kv.1 then (kv.1, { kv.2 with txSyms := kv.2.txSyms ++ [s] }) else kv) p =
      { Store.get {} m p with txSyms := l } := by
  induction m with
  | nil => exact ⟨_, rfl⟩
  | cons kv m ih =>
    obtain ⟨k, v⟩ := kv
    rw [List.map_cons]
    by_cases hc : c k = true <;> by_cases hp : p = k <;> simp only [hc, Store.get, hp, if_true, if_false, Bool.false_eq_true] <;>
      first | exact ⟨_, rfl⟩ | exact ih

theorem signals_sendSym (h : Hw) (k : SymKind) (a : Nat) : Signals h (h.sendSym k a) := by
  unfold Hw.sendSym
  split
  · exact .refl h
  · refine ⟨rfl, fun p => ?_, fun _ he => he⟩
    obtain ⟨l, hl⟩ := get_map_txSyms h.ports h.conf.treePorts.contains ⟨k, a, h.devIndex, h.seq.clk + h.seq.horizon, h.seq.clk⟩ p
    unfold Hw.port
    rw [hl]

theorem signals_sendHaltAtEnd (h : Hw) (reason : Nat) : Signals h (h.sendHaltAtEnd reason) := by
  unfold Hw.sendHaltAtEnd
  split
  · exact signals_sendSym ..
  · exact .refl h

theorem signals_sendHaltNow (h : Hw) (reason : Nat) : Signals h (h.sendHaltNow reason) := by
  unfold Hw.sendHaltNow
  split
  · exact signals_sendSym ..
  · exact .refl h

theorem signals_raiseWith (h : Hw) (id : Nat) (d : Word32) (p : Bool) : Signals h (h.raiseWith id d p) := by
  refine ⟨rfl, fun _ => rfl, fun e he => ?_⟩
  unfold Hw.raiseWith
  dsimp only
  split
  · exact List.mem_append_left _ he
  · exact he

theorem signals_poison (h : Hw) : Signals h h.poison := by
  unfold Hw.poison
  split
  · have hp : Signals h { h with seq := { h.seq with poisoned := true } } := ⟨rfl, fun _ => rfl, fun _ he => he⟩
    exact (hp.trans (signals_raiseWith ..)).trans (signals_sendHaltAtEnd ..)
  · exact .refl h

theorem signals_raisePoison (h : Hw) (id : Nat) (d : Word32) : Signals h (h.raisePoison id d) :=
  (signals_raiseWith ..).trans (signals_poison _)

theorem Signals.pstate {h g : Hw} (s : Signals h g) : g.pstate = h.pstate := by rw [s.rest]; rfl

/-- An event that has been raised is on the path, whatever has set out after it. -/
theorem onPath_raised {h m g : Hw} {id : Nat} {d : Word32} {p : Bool} (hp : m.pstate = h.pstate)
    (s : Signals (m.raiseWith id d p) g) : OnPath id h g := fun hlt => by
  refine ⟨⟨id, d, m.seq.frame, p, m.seq.ticks⟩, s.path _ ?_, rfl⟩
  unfold Hw.raiseWith
  dsimp only
  rw [if_pos (hp ▸ hlt)]
  exact List.mem_append_right _ (List.mem_singleton.2 rfl)

theorem onPath_raisePoison {h m : Hw} (id : Nat) (d : Word32) (hp : m.pstate = h.pstate) : OnPath id h (m.raisePoison id d) :=
  onPath_raised hp (signals_poison _)

/-! ## What every command meets first -/

theorem bankCommand_owned {h : Hw} {d j op : Nat} (f : Nat → Hw → Hw) (he : h.execRow d ≠ none) (hj : j < 64)
    (hd : h.done.contains (.bank d j) = false) (hb : (h.bank (d * 64 + j)).blocked ≠ some h.seq.pos)
    (ho : h.bankOwner d j = 0) (hop : cmdOp (h.bankCmd d j) = op) :
    h.bankCommand d j op f = (f (cmdAddr (h.bankCmd d j)) h).markDone (.bank d j) := by
  unfold Hw.bankCommand
  dsimp only
  rw [once_due _ _ (by simp [Option.isSome_iff_ne_none, he, hj, hop]) hd, if_neg (by simpa using hb), if_neg (by simp [ho])]

/-- The count and the place of a refused command (R174). -/
def Hw.noteRefused (h : Hw) (d j : Nat) : Hw :=
  (h.bump (bankA d 0x110) 15 8).bankLoc d j (cmdAddr (h.bankCmd d j)) 1 false

theorem bankCommand_refused {h : Hw} {d j op : Nat} (f : Nat → Hw → Hw) (he : h.execRow d ≠ none) (hj : j < 64)
    (hd : h.done.contains (.bank d j) = false) (hb : (h.bank (d * 64 + j)).blocked ≠ some h.seq.pos)
    (ho : h.bankOwner d j ≠ 0) (hop : cmdOp (h.bankCmd d j) = op) :
    h.bankCommand d j op f =
      ((h.noteRefused d j).raisePoison (evBankNotOwned d) ((h.noteRefused d j).reg (bankA d 0x114))).markDone (.bank d j) := by
  unfold Hw.bankCommand
  dsimp only
  rw [once_due _ _ (by simp [Option.isSome_iff_ne_none, he, hj, hop]) hd, if_neg (by simpa using hb), if_pos ho]
  rfl

/-- A word that has been written and is sound, and that no masked write takes, reads as it stands. -/
theorem bankSees_sound {h : Hw} {d j a : Nat} (hr : (h.bank (d * 64 + j)).rmw = []) (hw : h.bankWritten (d * 64 + j) a = true)
    (hf : (decDecode (h.bankWord (d * 64 + j) a)).2 = .clean) :
    h.bankSees d j a = (some (decDecode (h.bankWord (d * 64 + j) a)).1, .clean, false) := by
  unfold Hw.bankSees
  dsimp only
  rw [hr, hw]
  dsimp only [List.filter_nil, List.getLast?_nil]
  rw [if_neg (by decide)]
  generalize decDecode (h.bankWord (d * 64 + j) a) = p at hf ⊢
  obtain ⟨v, f⟩ := p
  obtain rfl : f = .clean := hf
  rfl

/-! ## The commands -/

theorem bankFinding_sound (h : Hw) (d j a : Nat) : h.bankFinding d j a .clean false = h := by
  unfold Hw.bankFinding
  dsimp only
  rw [if_neg (by simp)]

theorem execBankRead_sound {h : Hw} {d j : Nat} (he : h.execRow d ≠ none) (hj : j < 64)
    (hd : h.done.contains (.bank d j) = false) (hb : (h.bank (d * 64 + j)).blocked ≠ some h.seq.pos)
    (ho : h.bankOwner d j = 0) (hop : cmdOp (h.bankCmd d j) = 1) (hr : (h.bank (d * 64 + j)).rmw = [])
    (hw : h.bankWritten (d * 64 + j) (cmdAddr (h.bankCmd d j)) = true)
    (hf : (decDecode (h.bankWord (d * 64 + j) (cmdAddr (h.bankCmd d j)))).2 = .clean) :
    execBankRead h d j = (h.setTruss (trussIx d (homeTruss j)) { h.truss (trussIx d (homeTruss j)) with
      reads := (h.truss (trussIx d (homeTruss j))).reads ++
        [⟨h.seq.pos + h.latFull d, (decDecode (h.bankWord (d * 64 + j) (cmdAddr (h.bankCmd d j)))).1, true⟩] }).markDone
      (.bank d j) := by
  unfold execBankRead
  rw [bankCommand_owned _ he hj hd hb ho hop, bankSees_sound hr hw hf]
  rfl

theorem execBankWrite_owned {h : Hw} {d j : Nat} (he : h.execRow d ≠ none) (hj : j < 64)
    (hd : h.done.contains (.bank d j) = false) (hb : (h.bank (d * 64 + j)).blocked ≠ some h.seq.pos)
    (ho : h.bankOwner d j = 0) (hop : cmdOp (h.bankCmd d j) = 2) (hr : (h.bank (d * 64 + j)).rmw = []) :
    ∃ k', execBankWrite h d j = ((h.setBank (d * 64 + j) k').setBank (d * 64 + j) { h.bank (d * 64 + j) with
      wb := (h.bank (d * 64 + j)).wb.filter fun w => w.addr != cmdAddr (h.bankCmd d j)
      rmw := [⟨cmdAddr (h.bankCmd d j), (h.truss (trussIx d (homeTruss j))).outv, some 0xFFFFFFFFFFFFFFFF, some 0,
        h.seq.pos + h.latFull d⟩] }).markDone (.bank d j) := by
  refine ⟨{ h.bank (d * 64 + j) with
    wb := (h.bank (d * 64 + j)).wb.filter fun w => w.addr != cmdAddr (h.bankCmd d j) }, ?_⟩
  unfold execBankWrite
  rw [bankCommand_owned _ he hj hd hb ho hop]
  unfold Hw.bankWbDrop
  dsimp only
  rw [bank_setBank_same, hr]
  rfl

theorem execBankMaskedWrite_sound {h : Hw} {d j : Nat} (he : h.execRow d ≠ none) (hj : j < 64)
    (hd : h.done.contains (.bank d j) = false) (hb : (h.bank (d * 64 + j)).blocked ≠ some h.seq.pos)
    (ho : h.bankOwner d j = 0) (hop : cmdOp (h.bankCmd d j) = 3) (hr : (h.bank (d * 64 + j)).rmw = [])
    (hw : h.bankWritten (d * 64 + j) (cmdAddr (h.bankCmd d j)) = true)
    (hf : (decDecode (h.bankWord (d * 64 + j) (cmdAddr (h.bankCmd d j)))).2 = .clean) :
    ∃ k', execBankMaskedWrite h d j = ((h.setBank (d * 64 + j) k').setBank (d * 64 + j) { h.bank (d * 64 + j) with
      wb := (h.bank (d * 64 + j)).wb.filter fun w => w.addr != cmdAddr (h.bankCmd d j)
      blocked := some (h.seq.pos + 1)
      rmw := [⟨cmdAddr (h.bankCmd d j), (h.truss (trussIx d (homeTruss j))).outv, none,
        some (decDecode (h.bankWord (d * 64 + j) (cmdAddr (h.bankCmd d j)))).1, h.seq.pos + h.latMasked d⟩] }).markDone
      (.bank d j) := by
  refine ⟨{ h.bank (d * 64 + j) with
    wb := (h.bank (d * 64 + j)).wb.filter fun w => w.addr != cmdAddr (h.bankCmd d j) }, ?_⟩
  unfold execBankMaskedWrite
  rw [bankCommand_owned _ he hj hd hb ho hop]
  dsimp only
  rw [bankSees_sound hr hw hf]
  dsimp only
  rw [bankFinding_sound]
  unfold Hw.bankWbDrop
  rw [bank_setBank_same]
  dsimp only
  rw [hr]
  rfl

theorem execBankMaskedCommit_one {h : Hw} {d j : Nat} {r : BankRmw} {o : Word64} (hr : (h.bank (d * 64 + j)).rmw = [r])
    (hp : r.pos ≤ h.seq.pos) (ho : r.old = some o) (hs : h.snap.capture = none) :
    execBankMaskedCommit h d j = (h.setBankWord (d * 64 + j) r.addr
      ((o &&& ~~~ r.mask.getD 0) ||| (r.data &&& r.mask.getD 0))).setBank (d * 64 + j)
        { h.bank (d * 64 + j) with rmw := [] } := by
  have hdue : dueRmw h.seq.pos [r] = [r] := by simp [dueRmw, hp]
  unfold execBankMaskedCommit Hw.bankCommit
  dsimp only
  rw [hr, hdue]
  simp [ho, holdBank_idle hs, bank_setBankWord]

theorem execBankReadDeliver_due {h : Hw} {d j : Nat} (hc : h.seq.checked = false) (he : h.execRow d ≠ none)
    (hd : h.done.contains (.busDeliver d (homeTruss j)) = false)
    (hr : ∃ r ∈ (h.truss (trussIx d (homeTruss j))).reads, r.pos = h.seq.pos ∧ r.bank = true) :
    execBankReadDeliver h d j = (h.setTruss (trussIx d (homeTruss j)) { h.truss (trussIx d (homeTruss j)) with
      bus := (h.truss (trussIx d (homeTruss j))).busWord h.seq.pos }).markDone (.busDeliver d (homeTruss j)) := by
  obtain ⟨r, hm, hp, hb⟩ := hr
  unfold execBankReadDeliver
  rw [if_pos (List.any_eq_true.2 ⟨r, hm, by simp [hp, hb]⟩)]
  exact execLoftReadDeliver_due hc he hd ⟨r, hm, hp⟩

theorem execBankWriteback_first {h : Hw} {d j : Nat} {w : WriteBack} {rest : List WriteBack} (he : h.execClock = true)
    (hop : cmdOp (h.bankCmd d j) = 0) (hr : (h.bank (d * 64 + j)).rmw = []) (hw : (h.bank (d * 64 + j)).wb = w :: rest)
    (hp : w.pos ≠ h.seq.pos) (hd : h.done.contains (.bankWb d j) = false) :
    execBankWriteback h d j = ((h.setBank (d * 64 + j) { h.bank (d * 64 + j) with wb := rest }).setBankWord (d * 64 + j) w.addr
      w.data).markDone (.bankWb d j) := by
  unfold execBankWriteback
  dsimp only
  rw [once_due _ _ (by simp [he, hop, hr, hw, hp]) hd, hw]
  simp [hp, hr]

/-! ## A bank of another owner -/

theorem capture32_fields (h : Hw) (a : Nat) (v : Word32) (rank : Word32 → Nat) : ∃ r dn,
    h.capture32 a v rank = { h with regs := r, done := dn } ∧ ∀ b, b ≠ a → (h.capture32 a v rank).reg b = h.reg b := by
  unfold Hw.capture32
  split
  · exact ⟨_, _, rfl, fun b hb => (show ((h.setReg a _).markDone _).reg b = (h.setReg a _).reg b from rfl).trans
      ((reg_setReg ..).trans (if_neg hb))⟩
  · split
    · exact ⟨_, _, rfl, fun b hb => (reg_setReg ..).trans (if_neg hb)⟩
    · exact ⟨_, _, rfl, fun _ _ => rfl⟩

theorem fset_fields (h : Hw) (a hi lo v : Nat) : ∃ r, h.fset a hi lo v = { h with regs := r } ∧
    ∀ b, b ≠ a → (h.fset a hi lo v).reg b = h.reg b :=
  ⟨_, rfl, fun _ hb => (reg_setReg ..).trans (if_neg hb)⟩

/-- A refused command is counted and located: its bank, its truss and every word stay. -/
theorem noteRefused_fields (h : Hw) (d j : Nat) : ∃ r dn, h.noteRefused d j = { h with regs := r, done := dn } ∧
    (h.noteRefused d j).pstate = h.pstate := by
  have h1 : powerA 0 ≠ bankA d 0x114 := by unfold powerA bankA dieBase; omega
  have h2 : powerA 0 ≠ bankA d 0x110 := by unfold powerA bankA dieBase; omega
  unfold Hw.noteRefused Hw.bankLoc Hw.bump
  generalize bankA d 0x114 = a, bankA d 0x110 = a' at h1 h2
  obtain ⟨r', e', hreg'⟩ := fset_fields h a' 15 8 (satAdd (2 ^ (15 + 1 - 8) - 1) (h.fget a' 15 8) 1)
  generalize h.fset a' 15 8 (satAdd (2 ^ (15 + 1 - 8) - 1) (h.fget a' 15 8) 1) = g at e' hreg'
  obtain ⟨r, dn, e, hreg⟩ := capture32_fields g a (BitVec.ofNat 32 (j + 2 ^ 6 * cmdAddr (h.bankCmd d j) + 2 ^ 21 * 1 +
    (if false then 2 ^ 22 else 0))) fun v => fld v 5 0
  exact ⟨r, dn, by rw [e, e'], congrArg (fld · 2 0) ((hreg _ h1).trans (hreg' _ h2))⟩

theorem refused_fields {h : Hw} (d j : Nat) :
    let g := (((h.noteRefused d j).raisePoison (evBankNotOwned d) ((h.noteRefused d j).reg (bankA d 0x114))).markDone
      (.bank d j) : Hw)
    g.bankMem = h.bankMem ∧ g.bankValid = h.bankValid ∧ g.trusses = h.trusses ∧ g.banks = h.banks ∧
      OnPath (evBankNotOwned d) h g := by
  obtain ⟨r, dn, e, hp⟩ := noteRefused_fields h d j
  have hs := signals_raisePoison (h.noteRefused d j) (evBankNotOwned d) ((h.noteRefused d j).reg (bankA d 0x114))
  have hon := onPath_raisePoison (h := h) (evBankNotOwned d) ((h.noteRefused d j).reg (bankA d 0x114)) hp
  generalize (h.noteRefused d j).raisePoison (evBankNotOwned d) ((h.noteRefused d j).reg (bankA d 0x114)) = g at hs hon
  have hr := hs.rest
  rw [e] at hr
  rw [hr] at hon ⊢
  exact ⟨rfl, rfl, rfl, rfl, hon⟩

/-- Settles O37: each bank command by the equation that says what it does to its bank, and a refused one by what it leaves. -/
theorem bankCommands : Obligations.BankCommands := by
  intro s d j hd hj hc B k T c a q words
  have wf : (decide (d < 2) && decide (j < 64)) = true := by simp [hd, hj]
  refine ⟨fun he hdn hb => ⟨fun ho hr => ⟨fun hop hw hf => does_of wf ?_, fun hop => does_of wf ?_, fun hop hw hf => does_of wf ?_⟩,
    fun ho p hp hop => ?_⟩, fun r o hr hp ho ha hs => does_of wf ?_, fun he hdn hr => does_of wf ?_,
    fun w rest he hop hr hw hp hdn => does_of wf ?_⟩
  · rw [show effect (.bankRead d j) s.hw = _ from execBankRead_sound he hj hdn hb ho hop hr hw hf]
    exact ⟨truss_setTruss_same .., fun U hU => truss_setTruss_ne _ _ hU, rfl⟩
  · obtain ⟨k', e⟩ := execBankWrite_owned he hj hdn hb ho hop hr
    rw [show effect (.bankWrite d j) s.hw = _ from e]
    exact ⟨(bank_markDone ..).trans (bank_setBank_same ..), fun b hb => (bank_markDone ..).trans
      ((bank_setBank_ne _ _ hb).trans (bank_setBank_ne _ _ hb)), rfl⟩
  · obtain ⟨k', e⟩ := execBankMaskedWrite_sound he hj hdn hb ho hop hr hw hf
    rw [show effect (.bankMaskedWrite d j) s.hw = _ from e]
    exact ⟨(bank_markDone ..).trans (bank_setBank_same ..), fun b hb => (bank_markDone ..).trans
      ((bank_setBank_ne _ _ hb).trans (bank_setBank_ne _ _ hb)), rfl⟩
  · have refused : ∀ f, words (s.hw.bankCommand d j p.2 f) (fun _ _ => True) ∧ (s.hw.bankCommand d j p.2 f).trusses = s.hw.trusses ∧
        (s.hw.bankCommand d j p.2 f).banks = s.hw.banks ∧ OnPath (evBankNotOwned d) s.hw (s.hw.bankCommand d j p.2 f) := by
      intro f
      obtain ⟨h1, h2, h3, h4, h5⟩ := refused_fields (h := s.hw) d j
      rw [bankCommand_refused f he hj hdn hb ho hop]
      exact ⟨fun b x _ _ => ⟨congrArg (Store.get 0 · _) h1, congrArg (Store.get false · _) h2⟩, h3, h4, h5⟩
    simp only [List.mem_cons, List.not_mem_nil, or_false] at hp
    rcases hp with rfl | rfl | rfl
    · exact does_of wf (refused _)
    · exact does_of wf (refused _)
    · exact does_of wf (refused _)
  · rw [show effect (.bankMaskedCommit d j) s.hw = _ from execBankMaskedCommit_one hr hp ho hs]
    obtain ⟨hw, hv⟩ := setBankWord_same s.hw B r.addr ((o &&& ~~~ r.mask.getD 0) ||| (r.data &&& r.mask.getD 0))
    exact ⟨hw, hv, fun b x hx hn => setBankWord_other s.hw _ ha hx hn, bank_setBank_same .., rfl⟩
  · rw [show effect (.bankReadDeliver d j) s.hw = _ from execBankReadDeliver_due hc he hdn hr]
    exact ⟨truss_setTruss_same .., rfl⟩
  · rw [show effect (.bankWriteback d j) s.hw = _ from execBankWriteback_first he hop hr hw hp hdn]
    exact ⟨(setBankWord_same ..).1, (bank_markDone ..).trans ((bank_setBankWord ..).trans (bank_setBank_same ..)), rfl⟩

end Sys2Proof.Machine
end

section
-- As the tests above: declarations in order, so that checking the one text stays within its memory.
set_option Elab.async false
/-!
PROOFS. The requests at the head of a far-memory queue pair (R176 to R193): reads, writes and masked writes inside the DESIGN
region, the refusal of a request that leaves it, and the completion of the responses.
-/

namespace Sys2Proof.Machine

/-! ## Words of far memory -/

theorem reqAddr_lt (w : Word64) : reqAddr w < 2 ^ 33 := fld_lt w 40 8

theorem reqLen_le (w : Word64) : reqLen w ≤ 4 := by
  have := fld_lt w 3 2
  unfold reqLen
  omega

theorem reqWordAddr_lt (w : Word64) (k : Nat) : reqWordAddr w k < 2 ^ 33 := by
  have := reqAddr_lt w
  unfold reqWordAddr
  omega

theorem reqWordAddr_zero (w : Word64) : reqWordAddr w 0 = reqAddr w := by
  unfold reqWordAddr
  omega

/-- The addressed words of a request are distinct. -/
theorem reqWordAddr_inj (w : Word64) {i k : Nat} (hi : i < 4) (hk : k < 4) (h : reqWordAddr w i = reqWordAddr w k) : i = k := by
  unfold reqWordAddr at h
  omega

theorem farKey_inj {d e a b : Nat} (ha : a < 2 ^ 33) (hb : b < 2 ^ 33) (h : farKey e b = farKey d a) : e = d ∧ b = a := by
  unfold farKey at h
  omega

/-- What a write of the design to a written word changes: the word, and the write-back that waited for it. -/
def Hw.putFar (h : Hw) (d a : Nat) (v : Word64) : Hw :=
  { h with farMem := Store.set 0 h.farMem (farKey d a) (decEncode v), farWb := Store.set none h.farWb (farKey d a) none }

theorem farDesignWrite_written {h : Hw} {d a : Nat} (hc : h.snap.capture = none) (hw : h.farWritten d a = true) (v m : Word64)
    (after : Bool) : h.farDesignWrite d a v m after = h.putFar d a v := by
  have hold : h.holdFar d a after = h := by simp [Hw.holdFar, Hw.draining, hc]
  have hset : h.setFarWord d a v = { h with farMem := Store.set 0 h.farMem (farKey d a) (decEncode v) } := by
    simp only [Hw.setFarWord, hw, if_true]
  have late : ∀ g : Hw, g.snap.capture = none → g.lateFar d a v m after = g := fun g hg => by simp [Hw.lateFar, Hw.farArea, hg]
  unfold Hw.farDesignWrite
  dsimp only
  rw [hold, hset, late { h with farMem := Store.set 0 h.farMem (farKey d a) (decEncode v) } hc]
  rfl

theorem farWord_putFar_same (h : Hw) (d a : Nat) (v : Word64) : (h.putFar d a v).farWord d a = decEncode v :=
  Store.get_set_same ..

theorem farWord_putFar_ne (h : Hw) {d a e b : Nat} (v : Word64) (ha : a < 2 ^ 33) (hb : b < 2 ^ 33) (hn : e ≠ d ∨ b ≠ a) :
    (h.putFar d a v).farWord e b = h.farWord e b :=
  Store.get_set_ne _ _ _ _ fun he => by
    obtain ⟨h1, h2⟩ := farKey_inj ha hb he
    exact hn.elim (fun f => f h1) (fun f => f h2)

/-- Only far memory and its write-backs have changed. -/
def FarWork (h g : Hw) : Prop := g = { h with farMem := g.farMem, farWb := g.farWb }

theorem FarWork.trans {h g k : Hw} (a : FarWork h g) (b : FarWork g k) : FarWork h k := by
  unfold FarWork at *
  rw [b, a]

theorem farWork_putFar (h : Hw) (d a : Nat) (v : Word64) : FarWork h (h.putFar d a v) := rfl

theorem FarWork.written {h g : Hw} (w : FarWork h g) (d a : Nat) : g.farWritten d a = h.farWritten d a := by rw [w]; rfl

theorem FarWork.capture {h g : Hw} (w : FarWork h g) : g.snap.capture = h.snap.capture := by rw [w]

/-! ## Serving the head of a pair -/

/-- The head of the pair has left its queue. -/
def Hw.headTaken (h : Hw) (Q : Nat) (rest : List FmqReq) : Hw := h.setQpair Q { h.qpair Q with reqs := rest }

/-- The responses of pair Q once the words have joined them. -/
def QPair.answered (q : QPair) (rest : List FmqReq) (r : FmqReq) (ws : Option (List Word64)) : QPair :=
  { q with reqs := rest
           resps := q.resps ++ (match ws with | some x => [⟨x, r.pushed, r.pushPos, false, r.delayed⟩] | none => []) }

/-- A request that has been served: `k` is the state without its response. -/
def Hw.respond (k : Hw) (Q : Nat) (r : FmqReq) (ws : Option (List Word64)) : Hw :=
  match ws with
  | some x => k.setQpair Q { k.qpair Q with resps := (k.qpair Q).resps ++ [⟨x, r.pushed, r.pushPos, false, r.delayed⟩] }
  | none => k

theorem serve_head {h : Hw} {Q op : Nat} {r : FmqReq} {rest : List FmqReq} (hQ : Q < 256)
    (hr : (h.qpair Q).reqs = r :: rest) (hop : reqOp (r.words.headD 0) = op)
    {f : Nat → Nat → FmqReq → Hw → Option (List Word64) × Hw} {ans : Option (List Word64)} {k : Hw}
    (hf : f (Q / 128) (Q % 128) r (h.headTaken Q rest) = (ans, k)) : h.serve Q op f = k.respond Q r ans := by
  unfold Hw.serve
  dsimp only
  rw [hr]
  dsimp only
  rw [if_neg (by rw [hop]; simp; omega), show h.setQpair Q { h.qpair Q with reqs := rest } = h.headTaken Q rest from rfl, hf]
  cases ans <;> rfl

theorem qpair_headTaken (h : Hw) (Q : Nat) (rest : List FmqReq) (P : Nat) :
    (h.headTaken Q rest).qpair P = if P = Q then { h.qpair Q with reqs := rest } else h.qpair P := by
  unfold Hw.headTaken
  rw [qpair_setQpair]

/-- The pairs after a request has been served. -/
theorem qpair_respond {h k : Hw} {Q : Nat} {r : FmqReq} {rest : List FmqReq} (hk : k.qpairs = (h.headTaken Q rest).qpairs)
    (ws : Option (List Word64)) : (k.respond Q r ws).qpair Q = (h.qpair Q).answered rest r ws ∧
      ∀ P, P ≠ Q → (k.respond Q r ws).qpair P = h.qpair P := by
  have hq : ∀ P, k.qpair P = if P = Q then { h.qpair Q with reqs := rest } else h.qpair P := fun P =>
    (congrArg (fun m => Store.get ({} : QPair) m P) hk).trans (qpair_headTaken ..)
  have hQ := (hq Q).trans (if_pos rfl)
  have hother : ∀ P, P ≠ Q → k.qpair P = h.qpair P := fun P hP => (hq P).trans (if_neg hP)
  cases ws with
  | none =>
    refine ⟨hQ.trans ?_, hother⟩
    unfold QPair.answered
    rw [List.append_nil]
  | some x =>
    unfold Hw.respond QPair.answered
    dsimp only
    refine ⟨?_, fun P hP => ?_⟩
    · rw [qpair_setQpair_same, hQ]
    · rw [qpair_setQpair, if_neg hP, hother P hP]

theorem respond_only (k : Hw) (Q : Nat) (r : FmqReq) (ws : Option (List Word64)) :
    k.respond Q r ws = { k with qpairs := (k.respond Q r ws).qpairs } := by
  cases ws <;> rfl

theorem headTaken_only (h : Hw) (Q : Nat) (rest : List FmqReq) :
    h.headTaken Q rest = { h with qpairs := (h.headTaken Q rest).qpairs } := rfl

theorem reg_headTaken (h : Hw) (Q : Nat) (rest : List FmqReq) (a : Nat) : (h.headTaken Q rest).reg a = h.reg a := by
  unfold Hw.headTaken Hw.reg
  rw [setQpair_regs, setQpair_stepping]

theorem designMib_headTaken (h : Hw) (Q : Nat) (rest : List FmqReq) (d : Nat) :
    (h.headTaken Q rest).designMib d = h.designMib d := congrArg (fld · 15 0) (reg_headTaken ..)

theorem reqOut_headTaken (h : Hw) (Q : Nat) (rest : List FmqReq) (d : Nat) (w : Word64) :
    (h.headTaken Q rest).reqOut d w = h.reqOut d w := by
  unfold Hw.reqOut Hw.inDesign
  simp only [designMib_headTaken]

theorem farWord_headTaken (h : Hw) (Q : Nat) (rest : List FmqReq) (d a : Nat) :
    (h.headTaken Q rest).farWord d a = h.farWord d a := by
  unfold Hw.headTaken Hw.farWord
  rw [setQpair_farMem]

theorem farWritten_headTaken (h : Hw) (Q : Nat) (rest : List FmqReq) (d a : Nat) :
    (h.headTaken Q rest).farWritten d a = h.farWritten d a := by
  unfold Hw.farWritten Hw.inDesign
  rw [designMib_headTaken]
  unfold Hw.headTaken
  rw [setQpair_farValid]

theorem farMem_respond (k : Hw) (Q : Nat) (r : FmqReq) (ws : Option (List Word64)) : (k.respond Q r ws).farMem = k.farMem := by
  rw [respond_only]

theorem fault_respond (k : Hw) (Q : Nat) (r : FmqReq) (ws : Option (List Word64)) : (k.respond Q r ws).fault = k.fault := by
  rw [respond_only]

theorem farWord_respond (k : Hw) (Q : Nat) (r : FmqReq) (ws : Option (List Word64)) (e a : Nat) :
    (k.respond Q r ws).farWord e a = k.farWord e a := by
  unfold Hw.farWord
  rw [farMem_respond]

/-! ## Reads -/

theorem farRead_sound {h : Hw} {d a : Nat} (hw : h.farWritten d a = true) (hf : (decDecode (h.farWord d a)).2 = .clean) (q : Nat)
    (ridge first : Bool) : h.farRead d a q ridge first = (some (decDecode (h.farWord d a)).1, h) := by
  unfold Hw.farRead
  rw [hw, if_neg (by decide)]
  generalize decDecode (h.farWord d a) = p at hf ⊢
  obtain ⟨v, f⟩ := p
  obtain rfl : f = .clean := hf
  rfl

/-- Reads that leave the state as it is, one after the other. -/
theorem foldl_reads {h : Hw} {f : List Word64 × Hw → Nat → List Word64 × Hw} {val : Nat → Word64} {l : List Nat}
    (hf : ∀ acc, ∀ i ∈ l, f (acc, h) i = (acc ++ [val i], h)) (acc : List Word64) :
    l.foldl f (acc, h) = (acc ++ l.map val, h) := by
  induction l generalizing acc with
  | nil => simp
  | cons i l ih =>
    rw [List.foldl_cons, hf acc i List.mem_cons_self, ih fun a x hx => hf a x (List.mem_cons_of_mem _ hx), List.map_cons,
      List.append_assoc, List.singleton_append]

theorem execFmqReqRead_sound {h : Hw} {Q : Nat} {r : FmqReq} {rest : List FmqReq} (hQ : Q < 256)
    (hr : (h.qpair Q).reqs = r :: rest) (hin : h.reqOut (Q / 128) (r.words.headD 0) = none) (hop : reqOp (r.words.headD 0) = 0)
    (hs : ∀ i, i < reqLen (r.words.headD 0) → h.farWritten (Q / 128) (reqWordAddr (r.words.headD 0) i) = true ∧
      (decDecode (h.farWord (Q / 128) (reqWordAddr (r.words.headD 0) i))).2 = .clean) :
    execFmqReqRead h Q = (h.headTaken Q rest).respond Q r (some ((List.range (reqLen (r.words.headD 0))).map fun i =>
      (decDecode (h.farWord (Q / 128) (reqWordAddr (r.words.headD 0) i))).1)) := by
  unfold execFmqReqRead
  refine serve_head hQ hr hop ?_
  dsimp only
  rw [reqOut_headTaken, hin]
  dsimp only
  rw [foldl_reads (h := h.headTaken Q rest) (val := fun i =>
    (decDecode (h.farWord (Q / 128) (reqWordAddr (r.words.headD 0) i))).1) ?_ [], List.nil_append]
  intro acc i hi
  obtain ⟨hw, hf⟩ := hs i (List.mem_range.1 hi)
  rw [← farWord_headTaken h Q rest] at hf ⊢
  rw [farRead_sound ((farWritten_headTaken ..).trans hw) hf]
  rfl

/-! ## Writes -/

/-- The words of a write, stored one after the other. -/
def Hw.putWordsOf (h : Hw) (d : Nat) (addr : Nat → Nat) (val : Nat → Word64) (l : List Nat) : Hw :=
  l.foldl (fun h k => h.putFar d (addr k) (val k)) h

theorem farWork_putWordsOf (h : Hw) (d : Nat) (addr : Nat → Nat) (val : Nat → Word64) (l : List Nat) :
    FarWork h (h.putWordsOf d addr val l) := by
  induction l generalizing h with
  | nil => rfl
  | cons i l ih => exact (farWork_putFar h d (addr i) (val i)).trans (ih _)

theorem foldl_farDesignWrite (d : Nat) (addr : Nat → Nat) (val : Nat → Word64) (m : Word64) (after : Bool) (l : List Nat) (h : Hw)
    (hc : h.snap.capture = none) (hl : ∀ i ∈ l, h.farWritten d (addr i) = true) :
    l.foldl (fun h k => h.farDesignWrite d (addr k) (val k) m after) h = h.putWordsOf d addr val l := by
  induction l generalizing h with
  | nil => rfl
  | cons i l ih =>
    rw [List.foldl_cons, farDesignWrite_written hc (hl i List.mem_cons_self)]
    have w := farWork_putFar h d (addr i) (val i)
    exact ih _ (w.capture.trans hc) fun x hx => (w.written ..).trans (hl x (List.mem_cons_of_mem _ hx))

theorem farWord_putWordsOf_ne (h : Hw) {d : Nat} {addr : Nat → Nat} (val : Nat → Word64) {l : List Nat} {e b : Nat} (hb : b < 2 ^ 33)
    (ha : ∀ i, addr i < 2 ^ 33) (hn : e ≠ d ∨ ∀ i ∈ l, b ≠ addr i) : (h.putWordsOf d addr val l).farWord e b = h.farWord e b := by
  induction l generalizing h with
  | nil => rfl
  | cons i l ih =>
    refine (ih (h.putFar d (addr i) (val i)) (hn.imp_right fun f x hx => f x (List.mem_cons_of_mem _ hx))).trans ?_
    exact farWord_putFar_ne h _ (ha i) hb (hn.imp_right fun f => f i List.mem_cons_self)

theorem farWord_putWordsOf_mem (h : Hw) {d : Nat} {addr : Nat → Nat} (val : Nat → Word64) {l : List Nat} (hnd : l.Nodup)
    (ha : ∀ i, addr i < 2 ^ 33) (hinj : ∀ i ∈ l, ∀ k ∈ l, addr i = addr k → i = k) {i : Nat} (hi : i ∈ l) :
    (h.putWordsOf d addr val l).farWord d (addr i) = decEncode (val i) := by
  induction l generalizing h with
  | nil => cases hi
  | cons x l ih =>
    obtain ⟨hx, hnd⟩ := List.nodup_cons.1 hnd
    by_cases he : i = x
    · subst he
      refine (farWord_putWordsOf_ne (h.putFar d (addr i) (val i)) val (ha i) ha (.inr fun k hk e => ?_)).trans
        (farWord_putFar_same ..)
      exact hx (hinj i List.mem_cons_self k (List.mem_cons_of_mem _ hk) e ▸ hk)
    · exact ih (h.putFar d (addr x) (val x)) hnd (fun a h1 b h2 => hinj a (List.mem_cons_of_mem _ h1) b (List.mem_cons_of_mem _ h2))
        (List.mem_of_ne_of_mem he hi)

theorem execFmqReqWrite_written {h : Hw} {Q : Nat} {r : FmqReq} {rest : List FmqReq} (hQ : Q < 256)
    (hr : (h.qpair Q).reqs = r :: rest) (hc : h.snap.capture = none) (hin : h.reqOut (Q / 128) (r.words.headD 0) = none)
    (hop : reqOp (r.words.headD 0) = 1)
    (hs : ∀ i, i < reqLen (r.words.headD 0) → h.farWritten (Q / 128) (reqWordAddr (r.words.headD 0) i) = true) :
    execFmqReqWrite h Q = ((h.headTaken Q rest).putWordsOf (Q / 128) (reqWordAddr (r.words.headD 0))
      (fun k => r.words.getD (k + 1) 0) (List.range (reqLen (r.words.headD 0)))).respond Q r (ackOf (r.words.headD 0)) := by
  unfold execFmqReqWrite
  refine serve_head hQ hr hop ?_
  dsimp only
  rw [reqOut_headTaken, hin]
  dsimp only
  rw [foldl_farDesignWrite (Q / 128) (reqWordAddr (r.words.headD 0)) (fun k => r.words.getD (k + 1) 0) (-1) _ _
    (h.headTaken Q rest) hc fun i hi => (farWritten_headTaken ..).trans (hs i (List.mem_range.1 hi))]

theorem execFmqReqMaskedWrite_sound {h : Hw} {Q : Nat} {r : FmqReq} {rest : List FmqReq} (hQ : Q < 256)
    (hr : (h.qpair Q).reqs = r :: rest) (hc : h.snap.capture = none) (hin : h.reqOut (Q / 128) (r.words.headD 0) = none)
    (hop : reqOp (r.words.headD 0) = 2) (hw : h.farWritten (Q / 128) (reqAddr (r.words.headD 0)) = true)
    (hf : (decDecode (h.farWord (Q / 128) (reqAddr (r.words.headD 0)))).2 = .clean) :
    execFmqReqMaskedWrite h Q = ((h.headTaken Q rest).putFar (Q / 128) (reqAddr (r.words.headD 0))
      (((decDecode (h.farWord (Q / 128) (reqAddr (r.words.headD 0)))).1 &&& ~~~ r.words.getD 2 0) |||
        (r.words.getD 1 0 &&& r.words.getD 2 0))).respond Q r (ackOf (r.words.headD 0)) := by
  unfold execFmqReqMaskedWrite
  refine serve_head hQ hr hop ?_
  dsimp only
  rw [reqOut_headTaken, hin]
  dsimp only
  rw [farRead_sound ((farWritten_headTaken ..).trans hw) (by rw [farWord_headTaken]; exact hf)]
  dsimp only
  rw [farDesignWrite_written (h := h.headTaken Q rest) hc ((farWritten_headTaken ..).trans hw), farWord_headTaken]

/-! ## A request that leaves the DESIGN region -/

theorem reg_afterMark (h : Hw) (t : OpTag) (a : Nat) : (h.markDone t).reg a = h.reg a := rfl

/-- A capture in a register of two words changes these, and marks the course. -/
theorem capture64_fields (h : Hw) (a : Nat) (v : Word64) (rank : Word64 → Nat) : ∃ r dn,
    h.capture64 a v rank = { h with regs := r, done := dn } ∧
      ∀ b, b ≠ a → b ≠ a + 4 → (h.capture64 a v rank).reg b = h.reg b := by
  have key : ∀ (w : Word64) (b : Nat), b ≠ a → b ≠ a + 4 → (h.setReg64 a w).reg b = h.reg b := fun w b h1 h2 => by
    unfold Hw.setReg64
    rw [reg_setReg, if_neg h2, reg_setReg, if_neg h1]
  unfold Hw.capture64
  split
  · exact ⟨_, _, rfl, fun b h1 h2 => (reg_afterMark ..).trans (key _ b h1 h2)⟩
  · split
    · exact ⟨_, _, rfl, key _⟩
    · exact ⟨_, _, rfl, fun _ _ _ => rfl⟩

theorem farLoc_fields (h : Hw) (d a q kind : Nat) (ridge : Bool) : ∃ r dn,
    h.farLoc d a q kind ridge = { h with regs := r, done := dn } ∧
      ∀ b, b ≠ farA d 0x40 → b ≠ farA d 0x40 + 4 → (h.farLoc d a q kind ridge).reg b = h.reg b :=
  capture64_fields ..

theorem count_fields (h : Hw) (a : Nat) : ∃ r, h.count a = { h with regs := r } ∧ ∀ b, b ≠ a → (h.count a).reg b = h.reg b :=
  fset_fields ..

theorem farRange_eq (h : Hw) (d q a : Nat) : h.farRange d q a =
    ((h.count (farA d 0x24)).farLoc d a q 1 false).raisePoison (evFmqRange d)
      (((h.count (farA d 0x24)).farLoc d a q 1 false).reg (farA d 0x40)) := rfl

theorem farRange_fields (h : Hw) (d q a : Nat) : (h.farRange d q a).qpairs = h.qpairs ∧ (h.farRange d q a).farMem = h.farMem ∧
    OnPath (evFmqRange d) h (h.farRange d q a) := by
  have h1 : powerA 0 ≠ farA d 0x24 := by unfold powerA farA dieBase; omega
  have h2 : powerA 0 ≠ farA d 0x40 := by unfold powerA farA dieBase; omega
  have h3 : powerA 0 ≠ farA d 0x40 + 4 := by unfold powerA farA dieBase; omega
  rw [farRange_eq]
  obtain ⟨r', e', hreg'⟩ := count_fields h (farA d 0x24)
  generalize h.count (farA d 0x24) = g at e' hreg'
  obtain ⟨r, dn, e, hreg⟩ := farLoc_fields g d a q 1 false
  generalize g.farLoc d a q 1 false = k at e hreg
  have hp : k.pstate = h.pstate := congrArg (fld · 2 0) ((hreg _ h2 h3).trans (hreg' _ h1))
  generalize k.reg (farA d 0x40) = det
  have hs := signals_raisePoison k (evFmqRange d) det
  have hon := onPath_raisePoison (h := h) (evFmqRange d) det hp
  generalize k.raisePoison (evFmqRange d) det = f at hs hon
  refine ⟨?_, ?_, hon⟩
  · rw [hs.rest, e, e']
  · rw [hs.rest, e, e']

theorem OnPath.congr {id : Nat} {h h' g g' : Hw} (o : OnPath id h g) (hr : h'.reg (powerA 0) = h.reg (powerA 0))
    (hp : g'.fault = g.fault) : OnPath id h' g' := fun hlt => by
  have hps : h'.pstate = h.pstate := congrArg (fld · 2 0) hr
  obtain ⟨e, he, hid⟩ := o (hps ▸ hlt)
  exact ⟨e, hp ▸ he, hid⟩

theorem serve_out {h : Hw} {Q op : Nat} {r : FmqReq} {rest : List FmqReq} {a : Nat} (hQ : Q < 256)
    (hr : (h.qpair Q).reqs = r :: rest) (hop : reqOp (r.words.headD 0) = op)
    {f : Nat → Nat → FmqReq → Hw → Option (List Word64) × Hw} {ans : Option (List Word64)}
    (hf : f (Q / 128) (Q % 128) r (h.headTaken Q rest) = (ans, (h.headTaken Q rest).farRange (Q / 128) (Q % 128) a)) :
    ((h.serve Q op f).qpair Q = (h.qpair Q).answered rest r ans ∧ ∀ P, P ≠ Q → (h.serve Q op f).qpair P = h.qpair P) ∧
      (h.serve Q op f).farMem = h.farMem ∧ OnPath (evFmqRange (Q / 128)) h (h.serve Q op f) := by
  obtain ⟨hq, hm, hon⟩ := farRange_fields (h.headTaken Q rest) (Q / 128) (Q % 128) a
  rw [serve_head hQ hr hop hf]
  generalize (h.headTaken Q rest).farRange (Q / 128) (Q % 128) a = k at hq hm hon
  refine ⟨qpair_respond hq ans, ?_, ?_⟩
  · exact (farMem_respond ..).trans (hm.trans (setQpair_farMem ..))
  · exact hon.congr (reg_headTaken ..).symm (fault_respond ..)

theorem serve_refused {h : Hw} {Q : Nat} {r : FmqReq} {rest : List FmqReq} {a : Nat} (hQ : Q < 256)
    (hr : (h.qpair Q).reqs = r :: rest) (hout : h.reqOut (Q / 128) (r.words.headD 0) = some a) :
    ∀ p ∈ [(Instr.fmqReqRead Q, 0, some (List.replicate (reqLen (r.words.headD 0)) (0 : Word64))),
        (.fmqReqWrite Q, 1, ackOf (r.words.headD 0)), (.fmqReqMaskedWrite Q, 2, ackOf (r.words.headD 0))],
      reqOp (r.words.headD 0) = p.2.1 →
        ((effect p.1 h).qpair Q = (h.qpair Q).answered rest r p.2.2 ∧ ∀ P, P ≠ Q → (effect p.1 h).qpair P = h.qpair P) ∧
          (effect p.1 h).farMem = h.farMem ∧ OnPath (evFmqRange (Q / 128)) h (effect p.1 h) := by
  have hout' : (h.headTaken Q rest).reqOut (Q / 128) (r.words.headD 0) = some a :=
    (reqOut_headTaken ..).trans hout
  intro p hp hop
  simp only [List.mem_cons, List.not_mem_nil, or_false] at hp
  rcases hp with rfl | rfl | rfl
  · exact serve_out (a := a) hQ hr hop (by dsimp only; rw [hout'])
  · exact serve_out (a := a) hQ hr hop (by dsimp only; rw [hout'])
  · exact serve_out (a := a) hQ hr hop (by dsimp only; rw [hout'])

/-! ## The pad of the responses -/

theorem execFmqResponseComplete_fields (h : Hw) (Q : Nat) :
    execFmqResponseComplete h Q = h.setQpair Q { h.qpair Q with resps := (h.qpair Q).resps.map fun x =>
      { x with complete := x.complete || decide (x.pushed + h.fget (farA (Q / 128) 0) 24 16 ≤ h.seq.padClk) } } := by
  have key : ∀ x : FmqResp, (if h.padEnded (Q / 128) x then { x with complete := true } else x) =
      { x with complete := x.complete || decide (x.pushed + h.fget (farA (Q / 128) 0) 24 16 ≤ h.seq.padClk) } := fun x => by
    unfold Hw.padEnded
    split
    · rename_i hx
      rw [hx, Bool.or_true]
    · rename_i hx
      rw [Bool.eq_false_iff.2 hx, Bool.or_false]
  unfold execFmqResponseComplete
  dsimp only
  simp only [key]

theorem ackOf_eq (w : Word64) : (if reqAck w then some [(1 : Word64)] else none) = ackOf w := rfl

/-- Settles O39: the head of a pair is served by the equation of its operation, and `qpair_respond` says what becomes of the pair. -/
theorem farRequests : Obligations.FarRequests := by
  intro s Q r rest hQ hr hc d pr w n responds ack sound
  have wf : decide (Q < 256) = true := decide_eq_true hQ
  have hn : n ≤ 4 := reqLen_le w
  refine ⟨fun hin => ⟨fun hop hs => does_of wf ?_, fun hop hs => does_of wf ?_, fun hop hs => does_of wf ?_⟩,
    fun a hout p hp hop => ?_, does_of wf ?_⟩
  · rw [show effect (.fmqReqRead Q) s.hw = _ from execFmqReqRead_sound hQ hr hin hop hs]
    exact ⟨qpair_respond rfl _, rfl⟩
  · rw [show effect (.fmqReqWrite Q) s.hw = _ from execFmqReqWrite_written hQ hr hc hin hop hs]
    have hw := farWork_putWordsOf (s.hw.headTaken Q rest) d (reqWordAddr w) (fun k => r.words.getD (k + 1) 0) (List.range n)
    refine ⟨qpair_respond (by rw [hw]) _, fun i hi => ?_, fun e a ha hne => ?_, ?_⟩
    · refine (farWord_respond ..).trans (farWord_putWordsOf_mem _ _ List.nodup_range (reqWordAddr_lt w)
        (fun i hi k hk he => ?_) (List.mem_range.2 hi))
      exact reqWordAddr_inj w (Nat.lt_of_lt_of_le (List.mem_range.1 hi) hn) (Nat.lt_of_lt_of_le (List.mem_range.1 hk) hn) he
    · exact (farWord_respond ..).trans (farWord_putWordsOf_ne _ _ ha (reqWordAddr_lt w)
        (hne.imp_right fun f i hi => f i (List.mem_range.1 hi))) |>.trans (farWord_headTaken ..)
    · rw [respond_only, hw]; rfl
  · obtain ⟨hw, hf⟩ := hs
    rw [show effect (.fmqReqMaskedWrite Q) s.hw = _ from execFmqReqMaskedWrite_sound hQ hr hc hin hop hw hf]
    have hq := farWork_putFar (s.hw.headTaken Q rest) d (reqAddr w)
      (((decDecode (s.hw.farWord d (reqAddr w))).1 &&& ~~~ r.words.getD 2 0) ||| (r.words.getD 1 0 &&& r.words.getD 2 0))
    refine ⟨qpair_respond (by rw [hq]) _, (farWord_respond ..).trans (farWord_putFar_same ..), fun e a ha hne => ?_, ?_⟩
    · exact (farWord_respond ..).trans ((farWord_putFar_ne _ _ (reqAddr_lt w) ha hne).trans (farWord_headTaken ..))
    · rw [respond_only]; rfl
  · obtain ⟨hq, hm, hon⟩ := serve_refused hQ hr hout p hp hop
    refine does_of ?_ ⟨hq, hm, hon⟩
    simp only [List.mem_cons, List.not_mem_nil, or_false] at hp
    rcases hp with rfl | rfl | rfl <;> exact wf
  · rw [show effect (.fmqResponseComplete Q) s.hw = _ from execFmqResponseComplete_fields s.hw Q]
    simp only [qpair_setQpair_same]
    refine ⟨rfl, rfl, rfl, fun P hP => ?_, rfl⟩
    rw [qpair_setQpair, if_neg hP]

end Sys2Proof.Machine
end

section
-- As the tests above: declarations in order, so that checking the one text stays within its memory.
set_option Elab.async false
/-!
PROOFS. The far-memory queue pairs as the design reaches them (R84, R178, R182 to R185): the words of an entry, its enqueue
and its refusals, plain pulls and wait pulls, in normal mode.
-/

namespace Sys2Proof.Machine

/-! ## Ports of this course -/

theorem portOnce_due {h : Hw} {d unit n t : Nat} {o : PortOp} {rest : List (Nat × PortOp)} {supply : Bool}
    (hu : h.portUsers d unit n supply = (t, o) :: rest) (hd : h.done.contains (.port d unit n supply) = false)
    (f : List (Nat × PortOp) → PortOp → Hw → Hw) :
    h.portOnce d unit n supply f = (f ((t, o) :: rest) o h).markDone (.port d unit n supply) := by
  unfold Hw.portOnce
  rw [hu]
  exact once_due h _ rfl hd

theorem qpair_setQpair_ne (h : Hw) {Q P : Nat} (v : QPair) (hP : P ≠ Q) : (h.setQpair Q v).qpair P = h.qpair P := by
  rw [qpair_setQpair, if_neg hP]

theorem qpair_afterMark (h : Hw) (t : OpTag) (Q : Nat) : (h.markDone t).qpair Q = h.qpair Q := rfl

/-- What a push that stores changes. -/
theorem pushed_only (h : Hw) (Q : Nat) (v : QPair) (t : OpTag) :
    (h.setQpair Q v).markDone t =
      { h with qpairs := ((h.setQpair Q v).markDone t).qpairs, done := ((h.setQpair Q v).markDone t).done } := rfl

/-! ## Pushes -/

/-- The entry being assembled, with the word of this course. -/
def QPair.assembled (q : QPair) (word : Nat) (v : Word64) : Store Word64 := Store.set 0 q.asm word v

theorem get_assembled (q : QPair) (word : Nat) (v : Word64) (i : Nat) :
    Store.get 0 (q.assembled word v) i = if i = word then v else Store.get 0 q.asm i := by
  unfold QPair.assembled
  rw [Store.get_set]

theorem execFmqPush_word {h : Hw} {d q t : Nat} {o : PortOp} {rest : List (Nat × PortOp)}
    (hu : h.portUsers d 0 q true = (t, o) :: rest) (hd : h.done.contains (.port d 0 q true) = false) (hl : o.last = false) :
    execFmqPush h d q = (h.setQpair (d * 128 + q) { h.qpair (d * 128 + q) with
      asm := (h.qpair (d * 128 + q)).assembled o.word (h.supplyWord d ((t, o) :: rest)) }).markDone (.port d 0 q true) := by
  unfold execFmqPush
  rw [portOnce_due hu hd, hl]
  rfl

theorem execFmqPush_last {h : Hw} {d q t : Nat} {o : PortOp} {rest : List (Nat × PortOp)}
    (hu : h.portUsers d 0 q true = (t, o) :: rest) (hd : h.done.contains (.port d 0 q true) = false) (hl : o.last = true)
    (hn : (h.qpair (d * 128 + q)).outstanding < 256) {asm : Store Word64}
    (ha : (h.qpair (d * 128 + q)).assembled o.word (h.supplyWord d ((t, o) :: rest)) = asm) :
    execFmqPush h d q = (if reqBad (Store.get 0 asm 0) then
        (h.setQpair (d * 128 + q) { h.qpair (d * 128 + q) with asm := [] }).raisePoison (evFmqBadRequest d)
      else h.setQpair (d * 128 + q) { h.qpair (d * 128 + q) with
        asm := []
        reqs := (h.qpair (d * 128 + q)).reqs ++
          [⟨(List.range 4).map (Store.get 0 asm), h.seq.padClk, h.absPos, false⟩] }).markDone (.port d 0 q true) := by
  subst ha
  unfold execFmqPush
  rw [portOnce_due hu hd, hl]
  dsimp only
  rw [if_neg (by decide), if_neg (Nat.not_le.2 hn)]
  rfl

theorem execFmqPush_overflow {h : Hw} {d q t : Nat} {o : PortOp} {rest : List (Nat × PortOp)}
    (hu : h.portUsers d 0 q true = (t, o) :: rest) (hd : h.done.contains (.port d 0 q true) = false) (hl : o.last = true)
    (hn : 256 ≤ (h.qpair (d * 128 + q)).outstanding) :
    execFmqPush h d q = ((h.count (farA d 0x20)).raisePoison (evFmqOverflow d)).markDone (.port d 0 q true) := by
  unfold execFmqPush
  rw [portOnce_due hu hd, hl]
  dsimp only
  rw [if_neg (by decide), if_pos hn]

theorem OnPath.marked {id : Nat} {h g : Hw} (o : OnPath id h g) (t : OpTag) : OnPath id h (g.markDone t) := o.congr rfl rfl

/-- A count, and the event that it makes: no queue pair changes. -/
theorem countRaised_fields (h : Hw) {a : Nat} (ha : powerA 0 ≠ a) (id : Nat) :
    ((h.count a).raisePoison id).qpairs = h.qpairs ∧ OnPath id h ((h.count a).raisePoison id) := by
  obtain ⟨r, e, hreg⟩ := count_fields h a
  generalize h.count a = g at e hreg
  have hs := signals_raisePoison g id 0
  have hon := onPath_raisePoison (h := h) (m := g) id 0 (congrArg (fld · 2 0) (hreg _ ha))
  generalize g.raisePoison id = k at hs hon
  exact ⟨by rw [hs.rest, e], hon⟩

/-! ## Pulls -/

theorem earlyPull_unchecked {h : Hw} (hc : h.seq.checked = false) (d q t : Nat) : h.earlyPull d q t = h := by
  unfold Hw.earlyPull
  dsimp only
  split
  · rw [hazard_unchecked hc, ite_self]
  · rfl

theorem fmqReceive_due {h : Hw} {d q t : Nat} {o : PortOp} {rest : List (Nat × PortOp)} (hc : h.seq.checked = false)
    (hu : h.portUsers d 0 q false = (t, o) :: rest) (hd : h.done.contains (.port d 0 q false) = false) :
    h.fmqReceive d q = (if o.op = 2 then h.plainPull d q o
      else if h.waitGuarded d q o.last then
        (if (h.qpair (d * 128 + q)).head.isNone then h.deliverWord d 0 q 0
        else if o.last then (h.plainPull d q o).noteTaken d q else h.plainPull d q o)
      else if (h.qpair (d * 128 + q)).head.isNone then (h.plainPull d q o).raisePoison (evWaitUnguarded d)
      else h.plainPull d q o).markDone (.port d 0 q false) := by
  unfold Hw.fmqReceive
  rw [portOnce_due hu hd]
  dsimp only
  rw [earlyPull_unchecked hc, hazard_unchecked hc]

theorem recvOp_first {h : Hw} {d unit n t : Nat} {o : PortOp} {rest : List (Nat × PortOp)}
    (hu : h.portUsers d unit n false = (t, o) :: rest) : h.recvOp d unit n = some o.op := by
  unfold Hw.recvOp
  rw [hu]
  rfl

/-- What a pull of a complete response leaves. -/
structure PulledHead (d q : Nat) (o : PortOp) (r : FmqResp) (h g : Hw) : Prop where
  word : Store.get 0 g.portWords (portKey d 0 q) = r.words.getD o.word 0
  pair : g.qpair (d * 128 + q) = if o.last then { h.qpair (d * 128 + q) with resps := (h.qpair (d * 128 + q)).resps.tail }
    else h.qpair (d * 128 + q)
  others : ∀ P, P ≠ d * 128 + q → g.qpair P = h.qpair P
  rest : g = { h with qpairs := g.qpairs, portWords := g.portWords }

theorem plainPull_head {h : Hw} {d q : Nat} {r : FmqResp} (hr : (h.qpair (d * 128 + q)).head = some r) (o : PortOp) :
    PulledHead d q o r h (h.plainPull d q o) := by
  unfold Hw.plainPull
  dsimp only
  rw [hr]
  dsimp only
  have hw : Store.get 0 (h.deliverWord d 0 q (r.words.getD o.word 0)).portWords (portKey d 0 q) = r.words.getD o.word 0 :=
    Store.get_set_same ..
  have hq : (h.deliverWord d 0 q (r.words.getD o.word 0)).qpairs = h.qpairs := rfl
  have hb : h.deliverWord d 0 q (r.words.getD o.word 0) =
    { h with portWords := (h.deliverWord d 0 q (r.words.getD o.word 0)).portWords } := rfl
  generalize h.deliverWord d 0 q (r.words.getD o.word 0) = g at hw hq hb
  have hqp : ∀ P, g.qpair P = h.qpair P := fun P => congrArg (fun m => Store.get ({} : QPair) m P) hq
  split <;> rename_i hl
  · exact ⟨hw, (qpair_setQpair_same ..).trans (if_pos hl).symm, fun P hP => (qpair_setQpair_ne _ _ hP).trans (hqp P), by rw [hb]; rfl⟩
  · exact ⟨hw, (hqp _).trans (if_neg hl).symm, fun P _ => hqp P, by rw [hb]⟩

theorem plainPull_empty {h : Hw} {d q : Nat} (hr : (h.qpair (d * 128 + q)).head = none) (o : PortOp) :
    let g := h.plainPull d q o
    Store.get 0 g.portWords (portKey d 0 q) = 0 ∧ g.qpairs = h.qpairs ∧ g.pstate = h.pstate ∧
      g.fget (farA d 0x1C) 31 0 = min (2 ^ 32 - 1) (h.fget (farA d 0x1C) 31 0 + 1) := by
  have ha : powerA 0 ≠ farA d 0x1C := by unfold powerA farA dieBase; omega
  unfold Hw.plainPull
  dsimp only
  rw [hr]
  dsimp only
  have hw : Store.get 0 (h.deliverWord d 0 q 0).portWords (portKey d 0 q) = 0 :=
    Store.get_set_same 0 h.portWords (portKey d 0 q) 0
  have hf : (h.deliverWord d 0 q 0).fget (farA d 0x1C) 31 0 = h.fget (farA d 0x1C) 31 0 := rfl
  have hp : (h.deliverWord d 0 q 0).reg (powerA 0) = h.reg (powerA 0) := rfl
  have hq : (h.deliverWord d 0 q 0).qpairs = h.qpairs := rfl
  generalize h.deliverWord d 0 q 0 = g at hw hf hp hq
  generalize farA d 0x1C = a at ha hf
  have hcount : (g.count a).fget a 31 0 = min (2 ^ 32 - 1) (h.fget a 31 0 + 1) := by
    rw [← hf]
    exact fget_bump_same g a 1 (by decide)
  have hps : (g.count a).pstate = h.pstate := congrArg (fld · 2 0) (((count_fields g a).choose_spec.2 _ ha).trans hp)
  have hkeep : ((g.count a).portWords = g.portWords) ∧ (g.count a).qpairs = g.qpairs := ⟨rfl, rfl⟩
  generalize g.count a = k at hcount hps hkeep
  obtain ⟨h1, h2⟩ := hkeep
  have done : ∀ m : Hw, m.portWords = k.portWords → m.qpairs = k.qpairs → m.regs = k.regs → m.stepping = k.stepping →
      Store.get 0 m.portWords (portKey d 0 q) = 0 ∧ m.qpairs = h.qpairs ∧ m.pstate = h.pstate ∧
        m.fget a 31 0 = min (2 ^ 32 - 1) (h.fget a 31 0 + 1) := fun m e1 e2 e3 e4 => by
    have hreg : ∀ b, m.reg b = k.reg b := fun b => by unfold Hw.reg; rw [e3, e4]
    exact ⟨by rw [e1, h1, hw], by rw [e2, h2, hq], (congrArg (fld · 2 0) (hreg _)).trans hps,
      (congrArg (fld · 31 0) (hreg _)).trans hcount⟩
  split
  · exact done _ rfl rfl rfl rfl
  · exact done _ rfl rfl rfl rfl

theorem PulledHead.marked {d q : Nat} {o : PortOp} {r : FmqResp} {h g : Hw} (p : PulledHead d q o r h g) (t : OpTag) :
    Store.get 0 (g.markDone t).portWords (portKey d 0 q) = r.words.getD o.word 0 ∧
      (g.markDone t).qpair (d * 128 + q) = (if o.last then { h.qpair (d * 128 + q) with
        resps := (h.qpair (d * 128 + q)).resps.tail } else h.qpair (d * 128 + q)) ∧
      ∀ P, P ≠ d * 128 + q → (g.markDone t).qpair P = h.qpair P :=
  ⟨p.word, p.pair, p.others⟩

theorem unguarded_fields {h : Hw} {d q : Nat} (hr : (h.qpair (d * 128 + q)).head = none) (o : PortOp) (t : OpTag) :
    let g := ((h.plainPull d q o).raisePoison (evWaitUnguarded d)).markDone t
    Store.get 0 g.portWords (portKey d 0 q) = 0 ∧ g.qpairs = h.qpairs ∧ OnPath (evWaitUnguarded d) h g := by
  obtain ⟨hw, hq, hp, _⟩ := plainPull_empty hr o
  generalize h.plainPull d q o = m at hw hq hp
  have hs := signals_raisePoison m (evWaitUnguarded d) 0
  have hon := onPath_raisePoison (h := h) (m := m) (evWaitUnguarded d) 0 hp
  generalize m.raisePoison (evWaitUnguarded d) = k at hs hon
  have hkw : k.portWords = m.portWords := by rw [hs.rest]
  have hkq : k.qpairs = m.qpairs := by rw [hs.rest]
  exact ⟨(congrArg (fun w => Store.get 0 w (portKey d 0 q)) hkw).trans hw, hkq.trans hq, hon.marked t⟩

/-- A pull that takes a response of the wait set notes it (R129). -/
theorem noted_fields {d q : Nat} {o : PortOp} {r : FmqResp} {h g : Hw} (p : PulledHead d q o r h g) (t : OpTag) :
    let k := (if o.last then g.noteTaken d q else g).markDone t
    (Store.get 0 k.portWords (portKey d 0 q) = r.words.getD o.word 0 ∧
      k.qpair (d * 128 + q) = (if o.last then { h.qpair (d * 128 + q) with
        resps := (h.qpair (d * 128 + q)).resps.tail } else h.qpair (d * 128 + q)) ∧
      ∀ P, P ≠ d * 128 + q → k.qpair P = h.qpair P) ∧
    k.seq.waitTaken = (if o.last then (d * 256 + q) :: h.seq.waitTaken else h.seq.waitTaken) ∧ k.regs = h.regs := by
  have hseq : g.seq = h.seq := by rw [p.rest]
  have hregs : g.regs = h.regs := by rw [p.rest]
  obtain ⟨hw, hp, ho, -⟩ := p
  by_cases hl : o.last = true
  · rw [if_pos hl] at hp ⊢
    rw [if_pos hl]
    exact ⟨⟨hw, hp, ho⟩, (congrArg (fun s : Seq => (d * 256 + q) :: s.waitTaken) hseq).trans (if_pos hl).symm, hregs⟩
  · rw [if_neg hl] at hp ⊢
    rw [if_neg hl]
    exact ⟨⟨hw, hp, ho⟩, (congrArg Seq.waitTaken hseq).trans (if_neg hl).symm, hregs⟩

/-- The four words of an enqueued entry. -/
theorem entry_words {f g : Nat → Word64} (h : ∀ i, f i = g i) : (List.range 4).map f = [g 0, g 1, g 2, g 3] := by
  rw [funext h]
  rfl

theorem execFmqPush_enqueues {h : Hw} {d q t : Nat} {o : PortOp} {rest : List (Nat × PortOp)} {w : Nat → Word64}
    (hu : h.portUsers d 0 q true = (t, o) :: rest) (hd : h.done.contains (.port d 0 q true) = false) (hl : o.last = true)
    (hn : (h.qpair (d * 128 + q)).outstanding < 256)
    (hw : ∀ i, Store.get 0 ((h.qpair (d * 128 + q)).assembled o.word (h.supplyWord d ((t, o) :: rest))) i = w i)
    (hb : reqBad (w 0) = false) :
    execFmqPush h d q = (h.setQpair (d * 128 + q) { h.qpair (d * 128 + q) with
      asm := []
      reqs := (h.qpair (d * 128 + q)).reqs ++ [⟨[w 0, w 1, w 2, w 3], h.seq.padClk, h.absPos, false⟩] }).markDone
      (.port d 0 q true) := by
  rw [execFmqPush_last hu hd hl hn rfl, hw, if_neg (by simp [hb]), entry_words hw]

theorem execFmqPush_malformed {h : Hw} {d q t : Nat} {o : PortOp} {rest : List (Nat × PortOp)} {w : Nat → Word64}
    (hu : h.portUsers d 0 q true = (t, o) :: rest) (hd : h.done.contains (.port d 0 q true) = false) (hl : o.last = true)
    (hn : (h.qpair (d * 128 + q)).outstanding < 256)
    (hw : ∀ i, Store.get 0 ((h.qpair (d * 128 + q)).assembled o.word (h.supplyWord d ((t, o) :: rest))) i = w i)
    (hb : reqBad (w 0) = true) :
    (execFmqPush h d q).qpair (d * 128 + q) = { h.qpair (d * 128 + q) with asm := [] } ∧
      (∀ P, P ≠ d * 128 + q → (execFmqPush h d q).qpair P = h.qpair P) ∧ OnPath (evFmqBadRequest d) h (execFmqPush h d q) := by
  rw [execFmqPush_last hu hd hl hn rfl, hw, if_pos hb]
  have hp : (h.setQpair (d * 128 + q) { h.qpair (d * 128 + q) with asm := [] }).pstate = h.pstate := by
    unfold Hw.pstate Hw.fget Hw.reg
    rw [setQpair_regs, setQpair_stepping]
  have hq := qpair_setQpair_same h (d * 128 + q) { h.qpair (d * 128 + q) with asm := [] }
  have ho := fun P (hP : P ≠ d * 128 + q) => qpair_setQpair_ne h { h.qpair (d * 128 + q) with asm := [] } hP
  generalize h.setQpair (d * 128 + q) { h.qpair (d * 128 + q) with asm := [] } = m at hp hq ho
  have hs := signals_raisePoison m (evFmqBadRequest d) 0
  have hon := onPath_raisePoison (h := h) (m := m) (evFmqBadRequest d) 0 hp
  generalize m.raisePoison (evFmqBadRequest d) = k at hs hon
  have hk : ∀ P, (k.markDone (.port d 0 q true)).qpair P = m.qpair P := fun P => by
    rw [qpair_afterMark, hs.rest]
    rfl
  exact ⟨(hk _).trans hq, fun P hP => (hk P).trans (ho P hP), hon.marked _⟩

theorem execFmqPull_due {h : Hw} {d q t : Nat} {o : PortOp} {rest : List (Nat × PortOp)} (hc : h.seq.checked = false)
    (hu : h.portUsers d 0 q false = (t, o) :: rest) (hd : h.done.contains (.port d 0 q false) = false) (hop : o.op = 2) :
    execFmqPull h d q = (h.plainPull d q o).markDone (.port d 0 q false) := by
  unfold execFmqPull
  rw [recvOp_first hu, hop, if_pos rfl, fmqReceive_due hc hu hd, if_pos hop]

/-- A wait pull: guarded with a head, guarded without one, and unguarded without one. -/
theorem execFmqWaitPull_due {h : Hw} {d q t : Nat} {o : PortOp} {rest : List (Nat × PortOp)} (hc : h.seq.checked = false)
    (hu : h.portUsers d 0 q false = (t, o) :: rest) (hd : h.done.contains (.port d 0 q false) = false) (hop : o.op = 3) :
    execFmqWaitPull h d q = (if h.waitGuarded d q o.last then
        (if (h.qpair (d * 128 + q)).head.isNone then h.deliverWord d 0 q 0
        else if o.last then (h.plainPull d q o).noteTaken d q else h.plainPull d q o)
      else if (h.qpair (d * 128 + q)).head.isNone then (h.plainPull d q o).raisePoison (evWaitUnguarded d)
      else h.plainPull d q o).markDone (.port d 0 q false) := by
  unfold execFmqWaitPull
  rw [recvOp_first hu, hop, if_pos rfl, fmqReceive_due hc hu hd, if_neg (by rw [hop]; decide)]

/-- Settles O38: pushes by the equation of their case, pulls by what a plain pull of a head or of none leaves. -/
theorem queuePairs : Obligations.QueuePairs := by
  intro s d q t o rest hd hq hc Q pr others
  have wf : (decide (d < 2) && decide (q < 128)) = true := by simp [hd, hq]
  refine ⟨fun hu hw hdn => ?_, fun hu hdn => ?_⟩
  · intro v w
    have hwords : ∀ i, Store.get 0 (pr.assembled o.word v) i = w i := get_assembled pr o.word v
    refine ⟨fun hl => does_of wf ?_, fun hl hn hb => does_of wf ?_, fun hl hn => does_of wf ?_, fun hl hn hb => does_of wf ?_⟩
    · rw [show effect (.fmqPush d q) s.hw = _ from execFmqPush_word hu hdn hl]
      have e := (qpair_afterMark (s.hw.setQpair Q { pr with asm := pr.assembled o.word v }) (.port d 0 q true) Q).trans
        (qpair_setQpair_same ..)
      refine ⟨fun i => ?_, (congrArg QPair.reqs e :), (congrArg QPair.resps e :), fun P hP => ?_, pushed_only ..⟩
      · exact (congrArg (fun k : QPair => Store.get 0 k.asm i) e).trans (hwords i)
      · exact (qpair_afterMark ..).trans (qpair_setQpair_ne _ _ hP)
    · rw [show effect (.fmqPush d q) s.hw = _ from execFmqPush_enqueues hu hdn hl hn hwords hb]
      exact ⟨(qpair_afterMark ..).trans (qpair_setQpair_same ..), fun P hP => (qpair_afterMark ..).trans
        (qpair_setQpair_ne _ _ hP), pushed_only ..⟩
    · rw [show effect (.fmqPush d q) s.hw = _ from execFmqPush_overflow hu hdn hl hn]
      obtain ⟨hqp, hon⟩ := countRaised_fields s.hw (a := farA d 0x20) (by unfold powerA farA dieBase; omega) (evFmqOverflow d)
      exact ⟨hqp, hon.marked _⟩
    · exact execFmqPush_malformed hu hdn hl hn hwords hb
  · intro word pulled
    refine ⟨fun hop => ⟨fun r hr => does_of wf ?_, fun hr => does_of wf ?_⟩,
      fun hop => ⟨fun r hg hr => does_of wf ?_, fun hg hr => does_of wf ?_, fun hg hr => does_of wf ?_⟩⟩
    · rw [show effect (.fmqPull d q) s.hw = _ from execFmqPull_due hc hu hdn hop]
      have hp := plainPull_head hr o
      generalize s.hw.plainPull d q o = g at hp
      exact ⟨hp.marked _, by rw [hp.rest]; rfl⟩
    · rw [show effect (.fmqPull d q) s.hw = _ from execFmqPull_due hc hu hdn hop]
      obtain ⟨h1, h2, -, h3⟩ := plainPull_empty hr o
      generalize s.hw.plainPull d q o = g at h1 h2 h3
      exact ⟨h1, h2, h3⟩
    · rw [show effect (.fmqWaitPull d q) s.hw = _ from execFmqWaitPull_due hc hu hdn hop, if_pos hg,
        if_neg (by rw [hr]; exact Bool.false_ne_true)]
      have hp := plainPull_head hr o
      generalize s.hw.plainPull d q o = g at hp
      exact noted_fields hp _
    · rw [show effect (.fmqWaitPull d q) s.hw = _ from execFmqWaitPull_due hc hu hdn hop, if_pos hg,
        if_pos (by rw [hr]; rfl)]
      exact ⟨Store.get_set_same 0 s.hw.portWords (portKey d 0 q) 0, rfl⟩
    · rw [show effect (.fmqWaitPull d q) s.hw = _ from execFmqWaitPull_due hc hu hdn hop, if_neg (by rw [hg]; decide),
        if_pos (by rw [hr]; rfl)]
      exact unguarded_fields hr o _

end Sys2Proof.Machine
end

section
-- As the tests above: declarations in order, so that checking the one text stays within its memory.
set_option Elab.async false
/-!
PROOFS. What a Boolean processor meets beside its instruction (R54, R69, R82, R208): findings and hazards, which change no
truss and none of what a course presents.
-/

namespace Sys2Proof.Machine

/-! ## Findings -/

/-- The registers in which die d counts and locates findings and hazards. -/
def findingRegs (d : Nat) : List Nat := [trussA d 8, trussA d 0xC, seqA d 0x88, seqA d 0x80, seqA d 0x80 + 4]

/-- From h to g die d has noted findings and hazards: counters, locations, events, symbols and the marks of the course. -/
structure Noted (d : Nat) (h g : Hw) : Prop where
  rest : g = { h with regs := g.regs, done := g.done, ports := g.ports, out := g.out
                      seq := { h.seq with syms := g.seq.syms, poisoned := g.seq.poisoned }
                      fault := { h.fault with path := g.fault.path } }
  port : ∀ p, g.port p = { h.port p with txSyms := (g.port p).txSyms }
  reg : ∀ a, a ∉ findingRegs d → g.reg a = h.reg a
  mark : ∀ t, g.done.contains (.mark d t) = h.done.contains (.mark d t)

theorem Noted.refl (d : Nat) (h : Hw) : Noted d h h := ⟨rfl, fun _ => rfl, fun _ _ => rfl, fun _ => rfl⟩

theorem Noted.trans {d : Nat} {h g k : Hw} (a : Noted d h g) (b : Noted d g k) : Noted d h k :=
  ⟨by rw [b.rest, a.rest], fun p => by rw [b.port, a.port], fun x hx => (b.reg x hx).trans (a.reg x hx),
    fun t => (b.mark t).trans (a.mark t)⟩

theorem Signals.noted {h g : Hw} (s : Signals h g) (d : Nat) : Noted d h g :=
  ⟨by rw [s.rest], s.port, fun a _ => by rw [s.rest]; rfl, fun t => by rw [s.rest]⟩

/-- A count or a location in a finding register. -/
theorem noted_regs {d a : Nat} (ha : a ∈ findingRegs d) {h g : Hw} (e : g = { h with regs := g.regs, done := g.done })
    (hr : ∀ b, b ≠ a → g.reg b = h.reg b) (hm : ∀ t, g.done.contains (.mark d t) = h.done.contains (.mark d t)) : Noted d h g :=
  ⟨by rw [e], fun p => by rw [e]; rfl, fun _ hb => hr _ fun x => hb (x ▸ ha), hm⟩

theorem noted_fset {d a : Nat} (ha : a ∈ findingRegs d) (h : Hw) (hi lo v : Nat) : Noted d h (h.fset a hi lo v) := by
  obtain ⟨r, e, hr⟩ := fset_fields h a hi lo v
  have hd : (h.fset a hi lo v).done = h.done := rfl
  generalize h.fset a hi lo v = g at e hr hd
  exact noted_regs ha (by rw [e]) hr fun t => by rw [hd]

theorem contains_mark_cons (d t : Nat) (x : OpTag) (l : List OpTag) (hx : x ≠ .mark d t) :
    (x :: l).contains (.mark d t) = l.contains (.mark d t) := by
  rw [List.contains_cons, beq_false_of_ne (Ne.symm hx), Bool.false_or]

theorem noted_markDone (d : Nat) (h : Hw) {x : OpTag} (hx : ∀ t, x ≠ .mark d t) : Noted d h (h.markDone x) :=
  ⟨rfl, fun _ => rfl, fun _ _ => rfl, fun t => contains_mark_cons d t x h.done (hx t)⟩

theorem noted_setReg {d a : Nat} (ha : a ∈ findingRegs d) (h : Hw) (v : Word32) : Noted d h (h.setReg a v) :=
  noted_regs ha rfl (fun _ hb => (reg_setReg ..).trans (if_neg hb)) fun _ => rfl

theorem noted_capture32 {d a : Nat} (ha : a ∈ findingRegs d) (h : Hw) (v : Word32) (rank : Word32 → Nat) :
    Noted d h (h.capture32 a v rank) := by
  unfold Hw.capture32
  split
  · exact (noted_setReg ha h _).trans (noted_markDone d _ nofun)
  · split
    · exact noted_setReg ha h _
    · exact .refl d h

theorem noted_setReg64 {d a : Nat} (ha : a ∈ findingRegs d) (hb : a + 4 ∈ findingRegs d) (h : Hw) (v : Word64) :
    Noted d h (h.setReg64 a v) := (noted_setReg ha h _).trans (noted_setReg hb _ _)

theorem noted_capture64 {d a : Nat} (ha : a ∈ findingRegs d) (hb : a + 4 ∈ findingRegs d) (h : Hw) (v : Word64)
    (rank : Word64 → Nat) : Noted d h (h.capture64 a v rank) := by
  unfold Hw.capture64
  split
  · exact (noted_setReg64 ha hb h _).trans (noted_markDone d _ nofun)
  · split
    · exact noted_setReg64 ha hb h _
    · exact .refl d h

theorem noted_raisePoison (d : Nat) (h : Hw) (id : Nat) (v : Word32) : Noted d h (h.raisePoison id v) :=
  (signals_raisePoison h id v).noted d

theorem trussUe_eq (h : Hw) (d t addr kind unit lo id : Nat) : h.trussUe d t addr kind unit lo id =
    (((h.bump (trussA d 8) (lo + 7) lo).capture32 (trussA d 0xC)
      (BitVec.ofNat 32 (t + 2 ^ 9 * addr + 2 ^ 20 * kind + 2 ^ 22 * unit)) ueRank).raisePoison id
        (((h.bump (trussA d 8) (lo + 7) lo).capture32 (trussA d 0xC)
          (BitVec.ofNat 32 (t + 2 ^ 9 * addr + 2 ^ 20 * kind + 2 ^ 22 * unit)) ueRank).reg (trussA d 0xC))) := rfl

theorem noted_trussUe (h : Hw) (d t addr kind unit lo id : Nat) : Noted d h (h.trussUe d t addr kind unit lo id) := by
  rw [trussUe_eq]
  exact ((noted_fset (by simp [findingRegs]) h _ _ _).trans (noted_capture32 (by simp [findingRegs]) _ _ _)).trans
    (noted_raisePoison ..)

theorem noted_hazard (h : Hw) (d code truss : Nat) (bp : Option Nat) (detail : Nat) :
    Noted d h (h.hazard d code truss bp detail) := by
  unfold Hw.hazard
  split
  · exact .refl d h
  · have h1 := noted_fset (d := d) (a := seqA d 0x88) (by simp [findingRegs]) h 15 0
      (satAdd (2 ^ (15 + 1 - 0) - 1) (h.fget (seqA d 0x88) 15 0) 1)
    have h2 := fun g v rank => noted_capture64 (d := d) (a := seqA d 0x80) (by simp [findingRegs]) (by simp [findingRegs]) g v rank
    exact ((h1.trans (h2 _ _ _)).trans ((signals_raiseWith ..).noted d)).trans ((signals_sendHaltNow ..).noted d)

theorem noted_once {d : Nat} {h : Hw} {x : OpTag} {c : Bool} {f : Hw → Hw} (hx : ∀ t, x ≠ .mark d t) (hf : Noted d h (f h)) :
    Noted d h (h.once x c f) := by
  unfold Hw.once
  split
  · exact hf.trans (noted_markDone d _ hx)
  · exact .refl d h

theorem noted_foldl {α : Type} {d : Nat} {f : Hw → α → Hw} (hf : ∀ g x, Noted d g (f g x)) (l : List α) (h : Hw) :
    Noted d h (l.foldl f h) :=
  List.foldlRecOn (motive := Noted d h) _ _ (.refl d h) fun g hg x _ => hg.trans (hf g x)

/-! ## What a course presents after findings -/

section
variable {d : Nat} {h g : Hw} (n : Noted d h g)
include n

theorem Noted.trusses : g.trusses = h.trusses := by rw [n.rest]

theorem Noted.truss (T : Nat) : g.truss T = h.truss T := by unfold Hw.truss; rw [n.trusses]

theorem Noted.pos : g.seq.pos = h.seq.pos := by rw [n.rest]

theorem Noted.checked : g.seq.checked = h.seq.checked := by rw [n.rest]

theorem Noted.execRow (e : Nat) : g.execRow e = h.execRow e := by
  unfold Hw.execRow Hw.execClock Hw.kindNow Hw.rowAt Hw.segAt
  rw [n.rest]

theorem Noted.isolated (e t : Nat) : g.isolated e t = h.isolated e t := by
  unfold Hw.isolated Hw.bayPhase Hw.fget
  rw [n.reg]
  simp only [findingRegs, List.mem_cons, List.not_mem_nil, or_false, trussA, seqA, dieBase]
  omega

theorem Noted.marked (e t r : Nat) : g.marked e t r = h.marked e t r := by
  unfold Hw.marked
  rw [Bool.eq_iff_iff]
  simp only [List.any_eq_true, List.mem_range]
  refine exists_congr fun k => and_congr_right fun hk => ?_
  rw [n.reg]
  simp only [findingRegs, List.mem_cons, List.not_mem_nil, or_false, trussA, seqA, scrubA, dieBase]
  omega

theorem Noted.rowListed (t r : Nat) : g.rowListed t r = h.rowListed t r := by
  unfold Hw.rowListed
  rw [n.rest]

theorem Noted.ctl (e t : Nat) : g.ctl e t = h.ctl e t := by
  unfold Hw.ctl
  simp only [n.execRow, n.isolated, n.marked, n.rowListed]

theorem Noted.ins (e t i : Nat) : g.ins e t i = h.ins e t i := by
  unfold Hw.ins
  simp only [n.execRow, n.isolated, n.marked, n.rowListed]

theorem Noted.cellValue (c : Nat) : g.cellValue c = h.cellValue c := by
  unfold Hw.cellValue
  rw [n.rest]

theorem Noted.sbPast (T m lat : Nat) : g.sbPast T m lat = h.sbPast T m lat := by
  unfold Hw.sbPast
  rw [n.truss]

theorem Noted.bridgeLat (e : Nat) : g.bridgeLat e = h.bridgeLat e := by
  unfold Hw.bridgeLat Hw.fget
  rw [n.reg]
  simp only [findingRegs, List.mem_cons, List.not_mem_nil, or_false, trussA, seqA, bridgeA, dieBase]
  omega

theorem Noted.eaveLat (p : Nat) : g.fget (eaveA p 0x100) 8 0 = h.fget (eaveA p 0x100) 8 0 := by
  unfold Hw.fget
  rw [n.reg]
  simp only [findingRegs, List.mem_cons, List.not_mem_nil, or_false, trussA, seqA, eaveA, dieBase]
  omega

theorem Noted.portState (p : Nat) : (g.port p).state = (h.port p).state := by rw [n.port p]

theorem Noted.groupFor (p frm pos : Nat) : (g.port p).groupFor frm pos = (h.port p).groupFor frm pos := by rw [n.port p]; rfl

theorem Noted.inBatten (e t k : Nat) : g.inBatten e t k = h.inBatten e t k := by
  have hc : g.conf = h.conf := by rw [n.rest]
  have hf : g.seq.frame = h.seq.frame := by rw [n.rest]
  have hb : g.bridgeErr = h.bridgeErr := by rw [n.rest]
  unfold Hw.inBatten
  simp only [n.isolated, n.cellValue, n.sbPast, n.bridgeLat, n.eaveLat, n.portState, n.groupFor, n.pos, hc, hf, hb]

theorem Noted.inPurlin (e t p : Nat) : g.inPurlin e t p = h.inPurlin e t p := by
  unfold Hw.inPurlin
  simp only [n.isolated, n.cellValue, n.truss]

theorem Noted.age (T i a : Nat) : g.age T i a = h.age T i a := by
  unfold Hw.age
  rw [n.pos, n.truss]

theorem Noted.lane (e t : Nat) (c : Ctl) (j : Nat) : g.lane e t c j = h.lane e t c j := by
  unfold Hw.lane
  simp only [n.age, n.inBatten, n.inPurlin]

theorem Noted.operand (e t i sel : Nat) : g.operand e t i sel = h.operand e t i sel := by
  unfold Hw.operand
  simp only [n.age, n.ctl, n.lane]

theorem Noted.srcOn (s : Nat) : g.srcOn s = h.srcOn s := by
  unfold Hw.srcOn Hw.bget
  rw [n.reg]
  simp only [findingRegs, List.mem_cons, List.not_mem_nil, or_false, trussA, seqA, traceA, dieBase]
  omega

theorem Noted.bundle (T e : Nat) : g.bundle T e = h.bundle T e := by
  unfold Hw.bundle
  rw [n.rest]

end

/-! ## Findings of one Boolean processor -/

/-- Findings of die d that, where `quiet` holds, are none: only the marks of the course change. -/
structure Aside (d : Nat) (quiet : Prop) (h g : Hw) : Prop where
  noted : Noted d h g
  quiet : quiet → g = { h with done := g.done }

theorem Aside.refl (d : Nat) (Q : Prop) (h : Hw) : Aside d Q h h := ⟨.refl d h, fun _ => rfl⟩

theorem Aside.trans {d : Nat} {Q : Prop} {h g k : Hw} (a : Aside d Q h g) (b : Aside d Q g k) : Aside d Q h k :=
  ⟨a.noted.trans b.noted, fun q => by rw [b.quiet q, a.quiet q]⟩

theorem Noted.aside {d : Nat} {Q : Prop} {h g : Hw} (n : Noted d h g) (hq : ¬ Q) : Aside d Q h g := ⟨n, fun q => absurd q hq⟩

theorem aside_hazard {d : Nat} {Q : Prop} {h : Hw} (hc : Q → h.seq.checked = false) (code t : Nat) (bp : Option Nat) (detail : Nat) :
    Aside d Q h (h.hazard d code t bp detail) :=
  ⟨noted_hazard .., fun q => by rw [hazard_unchecked (hc q)]⟩

theorem aside_once {d : Nat} {Q : Prop} {h : Hw} {x : OpTag} {c : Bool} {f : Hw → Hw} (hx : ∀ t, x ≠ .mark d t)
    (hf : Aside d Q h (f h)) : Aside d Q h (h.once x c f) := by
  refine ⟨noted_once hx hf.noted, fun q => ?_⟩
  unfold Hw.once
  split
  · exact (hf.trans ⟨noted_markDone d _ hx, fun _ => rfl⟩).quiet q
  · rfl

theorem Aside.checked {d : Nat} {Q : Prop} {h g : Hw} (a : Aside d Q h g) (hc : Q → h.seq.checked = false) :
    Q → g.seq.checked = false := fun q => a.noted.checked.trans (hc q)

/-- The control word is checked before the instruction (R54): a sound one is found sound. -/
theorem aside_checkCtl {d : Nat} {Q : Prop} {h : Hw} {t : Nat} (hs : Q → h.ctl d t ≠ none) : Aside d Q h (h.checkCtl d t) := by
  have hctl := hs
  unfold Hw.ctl at hctl
  unfold Hw.checkCtl
  cases he : h.execRow d with
  | none => exact .refl d Q h
  | some r =>
    rw [he] at hctl
    dsimp only at hctl ⊢
    split
    · exact .refl d Q h
    · rename_i hi
      refine aside_once nofun ?_
      split
      · rename_i hm
        refine Noted.aside ?_ fun q => hctl q (by rw [if_pos (by simp [hm])])
        exact (noted_fset (by simp [findingRegs]) h _ _ _).trans (noted_raisePoison ..)
      · rename_i hm
        cases hr : h.rowListed (trussIx d t) r with
        | none => exact .refl d Q h
        | some row =>
          dsimp only
          by_cases hb : badSegs row = []
          · rw [hb]; exact .refl d Q h
          · refine Noted.aside (noted_foldl (fun g s => noted_trussUe ..) _ h) fun q => hctl q ?_
            rw [if_neg (by simp [hi, hm]), hr]
            exact if_neg hb

theorem aside_consume {d : Nat} {Q : Prop} {h : Hw} (hc : Q → h.seq.checked = false) (t i sel : Nat) :
    Aside d Q h (h.consume d t i sel) := by
  unfold Hw.consume
  split
  · split
    · exact aside_hazard hc ..
    · exact .refl d Q h
  · split
    · exact .refl d Q h
    · refine aside_once nofun ?_
      split
      · exact aside_hazard hc ..
      · split
        · exact aside_hazard hc ..
        · exact .refl d Q h

theorem aside_consumeAll {d : Nat} {Q : Prop} {h : Hw} (hc : Q → h.seq.checked = false) (t i : Nat) (sels : List Nat) :
    Aside d Q h (h.consumeAll d t i sels) :=
  List.foldlRecOn (motive := Aside d Q h) _ _ (.refl d Q h) fun _ hg _ _ => hg.trans (aside_consume (hg.checked hc) ..)

theorem aside_reservedIns {d : Nat} {Q : Prop} {h : Hw} (hc : Q → h.seq.checked = false) (t i row : Nat) :
    Aside d Q h (h.reservedIns d t i row) := aside_hazard hc ..

end Sys2Proof.Machine
end

section
-- As the tests above: declarations in order, so that checking the one text stays within its memory.
set_option Elab.async false
/-!
PROOFS. The six kinds of instruction of a Boolean processor (R35 to R43, R54, R70 to R80): what each gives, and that in normal
mode nothing changes beyond the truss and its probe group.
-/

namespace Sys2Proof.Machine

/-! ## The result of one course -/

/-- The truss with the result of BP i. -/
def Truss.gave (k : Truss) (i : Nat) (v drive : Bool) : Truss :=
  { k with res := setBit k.res i v, drv := setBit k.drv i drive, bpDone := setBit k.bpDone i true }

theorem ctl_withTrusses (h : Hw) (x : Store Truss) (d t : Nat) : ({ h with trusses := x } : Hw).ctl d t = h.ctl d t := rfl

theorem ctl_setTruss (h : Hw) (T : Nat) (k : Truss) (d t : Nat) : (h.setTruss T k).ctl d t = h.ctl d t := ctl_withTrusses h _ d t

/-- The contribution of a tap to its probe group (R72). -/
def tapped (p : Store (Word64 × Word64)) (n i : Nat) (v : Bool) : Store (Word64 × Word64) :=
  Store.set (0, 0) p n (setBit (Store.get (0, 0) p n).1 i true,
    if v then setBit (Store.get (0, 0) p n).2 i true else (Store.get (0, 0) p n).2)

theorem result_eq (h : Hw) (d t i : Nat) (v drive tap : Bool) : h.result d t i v drive tap =
    { h.setTruss (trussIx d t) ((h.truss (trussIx d t)).gave i v drive) with
      probeIn := match h.ctl d t with
        | some c => if tap && bit c 551 then tapped h.probeIn (d * 128 + fld c 550 544) i v else h.probeIn
        | none => h.probeIn } := by
  unfold Hw.result
  dsimp only
  rw [ctl_setTruss]
  cases h.ctl d t with
  | none => rfl
  | some c => dsimp only; split <;> rfl

theorem result_truss (h : Hw) (d t i : Nat) (v drive tap : Bool) :
    (h.result d t i v drive tap).truss (trussIx d t) = (h.truss (trussIx d t)).gave i v drive := by
  rw [result_eq]
  exact truss_setTruss_same ..

theorem result_truss_ne (h : Hw) {d t T : Nat} (i : Nat) (v drive tap : Bool) (hT : T ≠ trussIx d t) :
    (h.result d t i v drive tap).truss T = h.truss T := by
  rw [result_eq]
  exact truss_setTruss_ne h _ hT

theorem result_portWords (h : Hw) (d t i : Nat) (v drive tap : Bool) : (h.result d t i v drive tap).portWords = h.portWords := by
  rw [result_eq]
  rfl

theorem result_offers (h : Hw) (d t i : Nat) (v drive tap : Bool) : (h.result d t i v drive tap).trace = h.trace := by
  rw [result_eq]
  rfl

theorem result_only (h : Hw) (d t i : Nat) (v drive tap : Bool) : h.result d t i v drive tap =
    { h with trusses := (h.result d t i v drive tap).trusses, probeIn := (h.result d t i v drive tap).probeIn } := by
  rw [result_eq]
  rfl

theorem result_probeIn {h : Hw} {d t : Nat} {c : Ctl} (hc : h.ctl d t = some c) (i : Nat) (v drive tap : Bool) :
    (h.result d t i v drive tap).probeIn =
      if tap && bit c 551 then tapped h.probeIn (d * 128 + fld c 550 544) i v else h.probeIn := by
  rw [result_eq, hc]

/-- BP i has given v with its drive and tap, after findings that are none where `Q` holds. -/
def Executed (d t i : Nat) (Q : Prop) (h g : Hw) (v drive tap : Bool) : Prop :=
  ∃ m, Aside d Q h m ∧ g = m.result d t i v drive tap

theorem Aside.executed {d t i : Nat} {Q : Prop} {h k g : Hw} {v drive tap : Bool} (a : Aside d Q h k)
    (e : Executed d t i Q k g v drive tap) : Executed d t i Q h g v drive tap :=
  let ⟨m, b, hm⟩ := e
  ⟨m, a.trans b, hm⟩

/-- What BP i has given, as the obligations state it. -/
def Gives (d t i : Nat) (h g : Hw) (v drive : Bool) : Prop :=
  g.truss (trussIx d t) = (h.truss (trussIx d t)).gave i v drive ∧ ∀ T, T ≠ trussIx d t → g.truss T = h.truss T

theorem gives_result {h m : Hw} (hm : m.trusses = h.trusses) (d t i : Nat) (v drive tap : Bool) :
    Gives d t i h (m.result d t i v drive tap) v drive := by
  have ht : ∀ T, m.truss T = h.truss T := fun T => by unfold Hw.truss; rw [hm]
  exact ⟨by rw [result_truss, ht], fun T hT => by rw [result_truss_ne _ _ _ _ _ hT, ht]⟩

theorem Executed.gives {d t i : Nat} {Q : Prop} {h g : Hw} {v drive tap : Bool} (e : Executed d t i Q h g v drive tap) :
    Gives d t i h g v drive := by
  obtain ⟨m, a, rfl⟩ := e
  exact gives_result a.noted.trusses ..

theorem Executed.congr {d t i : Nat} {Q : Prop} {h g : Hw} {v v' drive tap : Bool} (e : Executed d t i Q h g v drive tap)
    (hv : v = v') : Executed d t i Q h g v' drive tap := hv ▸ e

/-! ## The kinds of instruction -/

/-- What EVAL gives (R40, R42, R74). -/
def Hw.evalGives (h : Hw) (d t i : Nat) (x : Ins) : Bool :=
  (bundleDecode (h.bundle (trussIx d t) (fld x 45 38))).2 != .bad &&
    (bit (bundleDecode (h.bundle (trussIx d t) (fld x 45 38))).1 (truthIndex ((evalSels x).map (h.operand d t i))) ^^ bit x 2)

theorem evalBp_executed {d : Nat} {Q : Prop} {h : Hw} (hc : Q → h.seq.checked = false) {t : Nat} {x : Ins}
    (hb : Q → (bundleDecode (h.bundle (trussIx d t) (fld x 45 38))).2 ≠ .bad) (i : Nat) :
    Executed d t i Q h (h.evalBp d t i x) (h.evalGives d t i x) (bit x 1) (bit x 0) := by
  unfold Hw.evalBp
  dsimp only
  have h1 : Aside d Q h (if (bundleDecode (h.bundle (trussIx d t) (fld x 45 38))).2 = .bad then
      h.once (.bundle (trussIx d t) (fld x 45 38)) true fun h => h.trussUe d t (fld x 45 38) 3 0 16 (evBundleUncorrectable d)
      else h) := by
    split
    · rename_i hbad
      refine Noted.aside (noted_once ?_ (noted_trussUe ..)) fun q => hb q hbad
      exact nofun
    · exact .refl d Q h
  exact ⟨_, h1.trans (aside_consumeAll (h1.checked hc) t i _), rfl⟩

/-- What LOFT gives (R54, R60, R61, R75). -/
def Hw.loftGives (h : Hw) (d t i : Nat) (x : Ins) : Bool :=
  if bit x 45 then (h.ctl d t).isSome && h.operand d t i (fld x 44 38)
  else bit ((h.truss (trussIx d t)).busWord h.seq.pos) i

theorem loftBp_executed {d : Nat} {Q : Prop} {h : Hw} (hc : Q → h.seq.checked = false) (t i : Nat) (x : Ins) :
    Executed d t i Q h (h.loftBp d t i x) (h.loftGives d t i x) (bit x 1) (bit x 0) := by
  unfold Hw.loftBp
  dsimp only
  have h1 : Aside d Q h (if fld x 36 2 ≠ 0 then h.reservedIns d t i 2 else h) := by
    split
    · exact aside_reservedIns hc ..
    · exact .refl d Q h
  generalize (if fld x 36 2 ≠ 0 then h.reservedIns d t i 2 else h) = k at h1
  have hg : k.loftGives d t i x = h.loftGives d t i x := by
    unfold Hw.loftGives
    rw [h1.noted.ctl, h1.noted.operand, h1.noted.truss, h1.noted.pos]
  rw [← hg]
  unfold Hw.loftGives
  by_cases hx : bit x 45 = true
  · rw [if_pos hx, if_pos hx]
    by_cases hn : (k.ctl d t).isNone = true
    · rw [if_pos hn]
      exact ⟨k, h1, by rw [Option.isNone_iff_eq_none.1 hn]; rfl⟩
    · rw [if_neg hn]
      refine ⟨_, h1.trans (aside_consume (h1.checked hc) t i (fld x 44 38)), ?_⟩
      rw [Option.isSome_iff_ne_none.2 fun e => hn (by rw [e]; rfl), Bool.true_and]
      rfl
  · rw [if_neg hx, if_neg hx]
    exact ⟨k, h1, rfl⟩

/-- The hazards of the reserved fields of a PORT instruction (R93). -/
def Hw.portFields (h : Hw) (d t i : Nat) (x : Ins) : Hw :=
  let h := if fld x 34 2 ≠ 0 then h.reservedIns d t i 2 else h
  if fld x 45 42 ≥ 8 then h.reservedIns d t i 3 else h

theorem aside_portFields {d : Nat} {Q : Prop} {h : Hw} (hc : Q → h.seq.checked = false) (t i : Nat) (x : Ins) :
    Aside d Q h (h.portFields d t i x) := by
  have h1 : Aside d Q h (if fld x 34 2 ≠ 0 then h.reservedIns d t i 2 else h) := by
    split
    · exact aside_reservedIns hc ..
    · exact .refl d Q h
  unfold Hw.portFields
  dsimp only
  generalize (if fld x 34 2 ≠ 0 then h.reservedIns d t i 2 else h) = k at h1
  split
  · exact h1.trans (aside_reservedIns (h1.checked hc) ..)
  · exact h1

theorem portBp_eq (recv : Hw → Nat → PortOp → Hw) (h : Hw) (d t i : Nat) (x : Ins) : h.portBp recv d t i x =
    (let k := h.portFields d t i x
    match k.ctl d t with
    | none => k.result d t i false (bit x 1) (bit x 0)
    | some c => match portField c with
      | none => (if fld x 45 42 ≥ 8 then k else k.reservedIns d t i 4).result d t i false (bit x 1) (bit x 0)
      | some o =>
        if !subopPairs (fld x 45 42) o.op then
          (if fld x 45 42 ≥ 8 then k else k.reservedIns d t i 4).result d t i false (bit x 1) (bit x 0)
        else if opSupplies o.op then
          (k.consume d t i (fld x 41 35)).result d t i (k.operand d t i (fld x 41 35)) (bit x 1) (bit x 0)
        else (recv k d o).result d t i (bit (Store.get 0 (recv k d o).portWords (portKey d (opUnit o.op) o.port)) i)
          (bit x 1) (bit x 0)) := rfl

theorem portBp_supplies {recv : Hw → Nat → PortOp → Hw} {d : Nat} {Q : Prop} {h : Hw} (hc : Q → h.seq.checked = false) {t : Nat}
    {x : Ins} {c : Ctl} {o : PortOp} (hctl : h.ctl d t = some c) (ho : portField c = some o)
    (hs : subopPairs (fld x 45 42) o.op = true) (hsup : opSupplies o.op = true) (i : Nat) :
    Executed d t i Q h (h.portBp recv d t i x) (h.operand d t i (fld x 41 35)) (bit x 1) (bit x 0) := by
  have h1 := aside_portFields (d := d) hc t i x
  rw [portBp_eq]
  generalize h.portFields d t i x = k at h1
  dsimp only
  rw [h1.noted.ctl, hctl]
  dsimp only
  rw [ho]
  dsimp only
  rw [if_neg (by simp [hs]), if_pos hsup, h1.noted.operand]
  exact ⟨_, h1.trans (aside_consume (h1.checked hc) t i _), rfl⟩

/-- A PORT instruction that does not take part gives 0 (R76). -/
theorem portBp_unpaired {recv : Hw → Nat → PortOp → Hw} {d : Nat} {Q : Prop} {h : Hw} (hc : Q → h.seq.checked = false) {t : Nat}
    {x : Ins} (hn : ∀ c o, h.ctl d t = some c → portField c = some o → subopPairs (fld x 45 42) o.op = false) (i : Nat) :
    Executed d t i Q h (h.portBp recv d t i x) false (bit x 1) (bit x 0) := by
  have h1 := aside_portFields (d := d) hc t i x
  rw [portBp_eq]
  generalize h.portFields d t i x = k at h1
  dsimp only
  rw [h1.noted.ctl]
  have h2 : Executed d t i Q h ((if fld x 45 42 ≥ 8 then k else k.reservedIns d t i 4).result d t i false (bit x 1) (bit x 0))
      false (bit x 1) (bit x 0) := by
    refine ⟨_, h1.trans ?_, rfl⟩
    split
    · exact .refl d Q k
    · exact aside_reservedIns (h1.checked hc) ..
  cases hctl : h.ctl d t with
  | none => exact ⟨k, h1, rfl⟩
  | some c =>
    cases ho : portField c with
    | none => simpa only [ho] using h2
    | some o => simpa only [ho, hn c o hctl ho, Bool.not_false, if_true] using h2

/-- The hazards of a CTRL instruction (R93, R208). -/
def Hw.ctrlFields (h : Hw) (d t i : Nat) (x : Ins) : Hw :=
  let h := if fld x 45 44 = 3 then h.reservedIns d t i 1 else h
  let h := if fld x 43 2 ≠ 0 then h.reservedIns d t i 2 else h
  if fld x 45 44 = 1 && h.seq.pos == 0 then h.hazard d 2 t (some i) 0 else h

theorem aside_ctrlFields {d : Nat} {Q : Prop} {h : Hw} (hc : Q → h.seq.checked = false) (t i : Nat) (x : Ins) :
    Aside d Q h (h.ctrlFields d t i x) := by
  have h1 : Aside d Q h (if fld x 45 44 = 3 then h.reservedIns d t i 1 else h) := by
    split
    · exact aside_reservedIns hc ..
    · exact .refl d Q h
  unfold Hw.ctrlFields
  dsimp only
  generalize (if fld x 45 44 = 3 then h.reservedIns d t i 1 else h) = k at h1
  have h2 : Aside d Q h (if fld x 43 2 ≠ 0 then k.reservedIns d t i 2 else k) := by
    split
    · exact h1.trans (aside_reservedIns (h1.checked hc) ..)
    · exact h1
  generalize (if fld x 43 2 ≠ 0 then k.reservedIns d t i 2 else k) = m at h2
  split
  · exact h2.trans (aside_hazard (h2.checked hc) ..)
  · exact h2

/-- The MARK packet that a CTRL instruction offers, once (R80). -/
def Hw.markOffer (h : Hw) (d t : Nat) (x : Ins) : Hw :=
  match h.ctl d t with
  | some c =>
    if fld x 45 44 = 2 && bit c 567 then
      h.once (.mark d t) true fun h => h.offer d (markPacket d h.frameLo (fld c 566 560) t h.seq.pos)
    else h
  | none => h

/-- What NOP, KEEP and MARK give (R78, R79). -/
def Hw.ctrlGives (h : Hw) (d t i : Nat) (x : Ins) : Bool := fld x 45 44 == 1 && h.age (trussIx d t) i 1

theorem ctrlBp_eq (h : Hw) (d t i : Nat) (x : Ins) : h.ctrlBp d t i x =
    ((h.ctrlFields d t i x).markOffer d t x).result d t i (h.ctrlGives d t i x) (bit x 1) (bit x 0) := by
  have hc : False → h.seq.checked = false := nofun
  have h1 : Aside d False h (if fld x 45 44 = 3 then h.reservedIns d t i 1 else h) := by
    split
    · exact aside_reservedIns hc ..
    · exact .refl d False h
  unfold Hw.ctrlBp Hw.ctrlFields Hw.ctrlGives
  dsimp only
  generalize (if fld x 45 44 = 3 then h.reservedIns d t i 1 else h) = k at h1
  have h2 : Aside d False h (if fld x 43 2 ≠ 0 then k.reservedIns d t i 2 else k) := by
    split
    · exact h1.trans (aside_reservedIns (h1.checked hc) ..)
    · exact h1
  generalize (if fld x 43 2 ≠ 0 then k.reservedIns d t i 2 else k) = m at h2
  rw [h2.noted.age]
  rfl

theorem markOffer_other {h : Hw} {d t : Nat} {x : Ins} (hx : fld x 45 44 ≠ 2) : h.markOffer d t x = h := by
  unfold Hw.markOffer
  split
  · rw [if_neg (by simp [hx])]
  · rfl

theorem ctrlBp_executed {d : Nat} {Q : Prop} {h : Hw} (hc : Q → h.seq.checked = false) {t : Nat} {x : Ins}
    (hx : fld x 45 44 ≠ 2) (i : Nat) :
    Executed d t i Q h (h.ctrlBp d t i x) (h.ctrlGives d t i x) (bit x 1) (bit x 0) := by
  refine ⟨_, aside_ctrlFields hc t i x, ?_⟩
  rw [ctrlBp_eq, markOffer_other hx]

theorem trusses_once {h : Hw} {t : OpTag} {c : Bool} {f : Hw → Hw} (hf : (f h).trusses = h.trusses) :
    (h.once t c f).trusses = h.trusses := by
  unfold Hw.once
  split
  · exact hf
  · rfl

theorem trusses_offer (h : Hw) (s : Nat) (p : BitVec 128) : (h.offer s p).trusses = h.trusses := by
  unfold Hw.offer
  split <;> rfl

theorem markOffer_trusses (h : Hw) (d t : Nat) (x : Ins) : (h.markOffer d t x).trusses = h.trusses := by
  unfold Hw.markOffer
  split
  · split
    · exact trusses_once (trusses_offer ..)
    · rfl
  · rfl

theorem markOffer_offers {h : Hw} {d t : Nat} {x : Ins} {c : Ctl} (hx : fld x 45 44 = 2) (hctl : h.ctl d t = some c)
    (hb : bit c 567 = true) (hs : h.srcOn d = true) (hd : h.done.contains (.mark d t) = false) :
    (h.markOffer d t x).trace.offers = h.trace.offers ++ [⟨d, markPacket d h.frameLo (fld c 566 560) t h.seq.pos⟩] := by
  unfold Hw.markOffer
  rw [hctl]
  dsimp only
  rw [if_pos (by simp [hx, hb]), once_due _ _ rfl hd]
  unfold Hw.offer
  rw [if_pos hs]
  rfl

/-! ## The execution of an instruction -/

theorem bpCommand_due {recv : Hw → Nat → PortOp → Hw} {c : BpClass} {h : Hw} {d t i : Nat} {x : Ins} (hi : h.ins d t i = some (x, false))
    (hd : h.bpDue d t i = true) (hc : bpClass x = c) : h.bpCommand recv c d t i = h.bpExec recv d t i := by
  unfold Hw.bpCommand
  rw [hi]
  exact if_pos (by simp [hd, hc])

/-- The instruction of a sound word, after the check of the control word. -/
def Hw.bpAct (recv : Hw → Nat → PortOp → Hw) (h : Hw) (d t i : Nat) (x : Ins) : Hw :=
  match bpClass x with
  | .eval => h.evalBp d t i x
  | .loft => h.loftBp d t i x
  | .port => h.portBp recv d t i x
  | _ => h.ctrlBp d t i x

theorem bpExec_sound {recv : Hw → Nat → PortOp → Hw} {h : Hw} {d t i : Nat} {x : Ins} (hi : h.ins d t i = some (x, false)) :
    h.bpExec recv d t i = (h.checkCtl d t).bpAct recv d t i x := by
  unfold Hw.bpExec
  rw [hi]
  rfl

theorem bpClass_nop {x : Ins} (h : bpClass x = .nop) : fld x 45 44 ≠ 1 ∧ fld x 45 44 ≠ 2 := by
  unfold bpClass at h
  split at h <;> try cases h
  split at h
  · cases h
  · cases h
  · exact ⟨‹_›, ‹_›⟩

theorem bpClass_keep {x : Ins} (h : bpClass x = .keep) : fld x 45 44 = 1 := by
  unfold bpClass at h
  split at h <;> try cases h
  split at h
  · assumption
  · cases h
  · cases h

theorem bpClass_mark {x : Ins} (h : bpClass x = .mark) : fld x 45 44 = 2 := by
  unfold bpClass at h
  split at h <;> try cases h
  split at h
  · cases h
  · assumption
  · cases h

/-- What an instruction that is neither MARK nor a receiving PORT gives. -/
def Hw.bpGives (h : Hw) (d t i : Nat) (x : Ins) : Bool :=
  match bpClass x with
  | .eval => h.evalGives d t i x
  | .loft => h.loftGives d t i x
  | .port => h.operand d t i (fld x 41 35)
  | _ => h.ctrlGives d t i x

theorem Noted.bpGives {d : Nat} {h g : Hw} (n : Noted d h g) (t i : Nat) (x : Ins) : g.bpGives d t i x = h.bpGives d t i x := by
  have ho : g.operand d t i = h.operand d t i := funext (n.operand d t i)
  unfold Hw.bpGives Hw.evalGives Hw.loftGives Hw.ctrlGives
  rw [n.bundle, ho, n.ctl, n.truss, n.pos, n.age]

/-- An instruction that is neither MARK nor a PORT that receives or takes no part. -/
theorem bpAct_executed {recv : Hw → Nat → PortOp → Hw} {d : Nat} {Q : Prop} {h : Hw} (hc : Q → h.seq.checked = false) {t : Nat} {x : Ins}
    (hb : Q → (bundleDecode (h.bundle (trussIx d t) (fld x 45 38))).2 ≠ .bad) (hm : bpClass x ≠ .mark)
    (hp : bpClass x = .port → ∃ c o, h.ctl d t = some c ∧ portField c = some o ∧ subopPairs (fld x 45 42) o.op = true ∧
      opSupplies o.op = true) (i : Nat) :
    Executed d t i Q h (h.bpAct recv d t i x) (h.bpGives d t i x) (bit x 1) (bit x 0) := by
  unfold Hw.bpAct Hw.bpGives
  cases hx : bpClass x with
  | eval => exact evalBp_executed hc hb i
  | loft => exact loftBp_executed hc t i x
  | port =>
    obtain ⟨c, o, hctl, ho, hs, hsup⟩ := hp hx
    exact portBp_supplies hc hctl ho hs hsup i
  | nop => exact ctrlBp_executed hc (bpClass_nop hx).2 i
  | keep => exact ctrlBp_executed hc (by rw [bpClass_keep hx]; decide) i
  | mark => exact absurd hx hm

/-- What a BP that is due gives, by its class. -/
theorem bpCommand_executed {c : BpClass} {d : Nat} {Q : Prop} {h : Hw} (hc : Q → h.seq.checked = false) {t i : Nat} {x : Ins}
    (hi : h.ins d t i = some (x, false)) (hd : h.bpDue d t i = true) (hx : bpClass x = c) (hs : Q → h.ctl d t ≠ none)
    (hb : Q → (bundleDecode (h.bundle (trussIx d t) (fld x 45 38))).2 ≠ .bad) (hm : bpClass x ≠ .mark)
    (hp : bpClass x = .port → ∃ c o, h.ctl d t = some c ∧ portField c = some o ∧ subopPairs (fld x 45 42) o.op = true ∧
      opSupplies o.op = true) :
    Executed d t i Q h (h.bpCommand Hw.recvAny c d t i) (h.bpGives d t i x) (bit x 1) (bit x 0) := by
  have h1 := aside_checkCtl hs
  rw [bpCommand_due hi hd hx, bpExec_sound hi]
  generalize h.checkCtl d t = k at h1
  rw [← h1.noted.bpGives]
  exact h1.executed (bpAct_executed (h1.checked hc) (by rw [h1.noted.bundle]; exact hb) hm (by rw [h1.noted.ctl]; exact hp) i)

/-- Settles O35: in normal mode the findings of a sound BP are none, and `result_only` says what its result changes. -/
theorem booleanProcessorFrame : Obligations.BooleanProcessorFrame := by
  intro s d t i x c hd ht hi hck hins hdue hctl hbun hport p hp hx
  have wf : (decide (d < 2) && decide (t < 512) && decide (i < 64)) = true := by simp [hd, ht, hi]
  have hm : bpClass x ≠ .mark := by
    simp only [List.mem_cons, List.not_mem_nil, or_false] at hp
    rcases hp with rfl | rfl | rfl | rfl | rfl <;> rw [hx] <;> nofun
  have hex : Executed d t i True s.hw (s.hw.bpCommand Hw.recvAny p.2 d t i) (s.hw.bpGives d t i x) (bit x 1) (bit x 0) :=
    bpCommand_executed (fun _ => hck) hins hdue hx (fun _ => by rw [hctl]; nofun) (fun _ => hbun) hm fun h =>
      let ⟨o, ho, hsup, hs⟩ := hport h
      ⟨c, o, hctl, ho, hs, hsup⟩
  obtain ⟨m, a, e⟩ := hex
  have hq := a.quiet trivial
  have hprobe := result_probeIn ((a.noted.ctl d t).trans hctl) i (s.hw.bpGives d t i x) (bit x 1) (bit x 0)
  have hmp : m.probeIn = s.hw.probeIn := by rw [hq]
  have goal : ∀ g : Hw, g = m.result d t i (s.hw.bpGives d t i x) (bit x 1) (bit x 0) →
      g = { s.hw with trusses := g.trusses, probeIn := g.probeIn, done := g.done } ∧
        (bit x 0 = false ∨ bit c 551 = false → g.probeIn = s.hw.probeIn) ∧
        ∀ n, n ≠ d * 128 + fld c 550 544 → Store.get (0, 0) g.probeIn n = Store.get (0, 0) s.hw.probeIn n := by
    rintro g rfl
    refine ⟨?_, fun hno => ?_, fun n hn => ?_⟩
    · have := result_only m d t i (s.hw.bpGives d t i x) (bit x 1) (bit x 0)
      generalize m.result d t i (s.hw.bpGives d t i x) (bit x 1) (bit x 0) = g at this
      rw [this, hq]
    · rw [hprobe, hmp, if_neg (by rcases hno with h | h <;> simp [h])]
    · rw [hprobe, hmp]
      split
      · exact Store.get_set_ne _ _ _ _ hn
      · rfl
  simp only [List.mem_cons, List.not_mem_nil, or_false] at hp
  rcases hp with rfl | rfl | rfl | rfl | rfl <;> exact does_of wf (goal _ e)

/-! ## The receiving operations -/

theorem trusses_raisePoison (h : Hw) (id : Nat) (v : Word32) : (h.raisePoison id v).trusses = h.trusses :=
  (noted_raisePoison 0 h id v).trusses

theorem trusses_portOnce {h : Hw} {d unit n : Nat} {supply : Bool} {f : List (Nat × PortOp) → PortOp → Hw → Hw}
    (hf : ∀ us o, (f us o h).trusses = h.trusses) : (h.portOnce d unit n supply f).trusses = h.trusses := by
  unfold Hw.portOnce
  split
  · rfl
  · exact trusses_once (hf _ _)

theorem trusses_earlyPull (h : Hw) (d q t : Nat) : (h.earlyPull d q t).trusses = h.trusses := by
  unfold Hw.earlyPull
  dsimp only
  split
  · split
    · exact (noted_hazard ..).trusses
    · rfl
  · rfl

theorem trusses_count (h : Hw) (a : Nat) : (h.count a).trusses = h.trusses := rfl

theorem trusses_plainPull (h : Hw) (d q : Nat) (o : PortOp) : (h.plainPull d q o).trusses = h.trusses := by
  unfold Hw.plainPull
  dsimp only
  split
  · split <;> rfl
  · have hk := trusses_count (h.deliverWord d 0 q 0) (farA d 0x1C)
    generalize (h.deliverWord d 0 q 0).count (farA d 0x1C) = k at hk
    split
    · exact hk
    · exact hk

theorem trusses_fmqReceive (h : Hw) (d q : Nat) : (h.fmqReceive d q).trusses = h.trusses := by
  refine trusses_portOnce fun us o => ?_
  have he := trusses_earlyPull h d q (us.headD (0, o)).1
  dsimp only
  generalize h.earlyPull d q (us.headD (0, o)).1 = k at he
  split
  · exact (trusses_plainPull ..).trans he
  · split
    · split
      · exact he
      · split
        · exact (trusses_plainPull ..).trans he
        · exact (trusses_plainPull ..).trans he
    · have hz := ((trusses_plainPull _ d q o).trans (noted_hazard k d 9 (us.headD (0, o)).1 none q).trusses).trans he
      split
      · exact (trusses_raisePoison ..).trans hz
      · exact hz

theorem trusses_callPull (h : Hw) (d n : Nat) (o : PortOp) : (h.callPull d n o).trusses = h.trusses := by
  unfold Hw.callPull
  dsimp only
  split
  · split <;> rfl
  · have hk := trusses_count (h.deliverWord d 2 n 0) (callsA 0x20)
    generalize (h.deliverWord d 2 n 0).count (callsA 0x20) = k at hk
    split
    · exact hk
    · exact hk

theorem trusses_callReceive (h : Hw) (d n : Nat) : (h.callReceive d n).trusses = h.trusses := by
  refine trusses_portOnce fun us o => ?_
  dsimp only
  split
  · exact trusses_callPull ..
  · split
    · split
      · rfl
      · split
        · exact trusses_callPull ..
        · exact trusses_callPull ..
    · have hz := (trusses_callPull _ d n o).trans (noted_hazard h d 9 (us.headD (0, o)).1 none (0x80 + n)).trusses
      split
      · exact (trusses_raisePoison ..).trans hz
      · exact hz

theorem trusses_recvAny (h : Hw) (d : Nat) (o : PortOp) : (h.recvAny d o).trusses = h.trusses := by
  unfold Hw.recvAny
  split
  · exact trusses_fmqReceive ..
  · exact trusses_portOnce fun _ _ => rfl
  · exact trusses_callReceive ..
  · rfl

/-- A PORT instruction that receives gives bit i of the word that its port has delivered. -/
theorem portBp_receives {d : Nat} {h : Hw} {t : Nat} {x : Ins} {c : Ctl} {o : PortOp} (hctl : h.ctl d t = some c)
    (ho : portField c = some o) (hs : subopPairs (fld x 45 42) o.op = true) (hsup : opSupplies o.op = false) (i : Nat) :
    let g := h.portBp Hw.recvAny d t i x
    Gives d t i h g (bit (Store.get 0 g.portWords (portKey d (opUnit o.op) o.port)) i) (bit x 1) := by
  have h1 := aside_portFields (d := d) (Q := False) nofun t i x (h := h)
  dsimp only
  rw [portBp_eq]
  generalize h.portFields d t i x = k at h1
  dsimp only
  rw [h1.noted.ctl, hctl]
  dsimp only
  rw [ho]
  dsimp only
  rw [if_neg (by simp [hs]), if_neg (by simp [hsup]), result_portWords]
  exact gives_result ((trusses_recvAny ..).trans h1.noted.trusses) ..

/-! ## The obligation -/

theorem bpExec_bad {recv : Hw → Nat → PortOp → Hw} {h : Hw} {d t i : Nat} {x : Ins} (hi : h.ins d t i = some (x, true)) :
    Gives d t i h (h.bpExec recv d t i) false false := by
  unfold Hw.bpExec
  rw [hi]
  have h1 := aside_checkCtl (d := d) (Q := False) (h := h) (t := t) nofun
  dsimp only
  rw [if_pos rfl]
  generalize h.checkCtl d t = k at h1
  exact gives_result ((noted_trussUe ..).trusses.trans h1.noted.trusses) ..

theorem bpCommand_bad {recv : Hw → Nat → PortOp → Hw} {h : Hw} {d t i : Nat} {x : Ins} (hi : h.ins d t i = some (x, true))
    (hd : h.bpDue d t i = true) : h.bpCommand recv .nop d t i = h.bpExec recv d t i := by
  unfold Hw.bpCommand
  rw [hi]
  exact if_pos (by simp [hd])

theorem bpCommand_idle {recv : Hw → Nat → PortOp → Hw} {h : Hw} {d t i : Nat} (hd : h.bpDue d t i = false) (c : BpClass) :
    h.bpCommand recv c d t i = h := by
  unfold Hw.bpCommand
  split
  · exact if_neg (by simp [hd])
  · rfl

theorem exec_unchanged {i : Instr} {s : State} (w : i.wellFormed = true) (e : effect i s.hw = s.hw) : exec i s = .next s := by
  rw [exec_ok w, e]

/-- A PORT instruction that is due, after the check of the control word. -/
theorem port_gives {h : Hw} {d t i : Nat} {x : Ins} (hi : h.ins d t i = some (x, false)) (hd : h.bpDue d t i = true)
    (hx : bpClass x = .port) {P : Hw → Prop} (hP : ∀ k, Noted d h k → P (k.portBp Hw.recvAny d t i x)) :
    P (h.bpCommand Hw.recvAny .port d t i) := by
  have h1 := aside_checkCtl (d := d) (Q := False) (h := h) (t := t) nofun
  rw [bpCommand_due hi hd hx, bpExec_sound hi]
  unfold Hw.bpAct
  rw [hx]
  exact hP _ h1.noted

theorem Gives.of_noted {d t i : Nat} {h k g : Hw} {v drive : Bool} (n : Noted d h k) (e : Gives d t i k g v drive) :
    Gives d t i h g v drive :=
  ⟨by rw [e.1, n.truss], fun T hT => (e.2 T hT).trans (n.truss T)⟩

theorem mark_gives {h : Hw} {d t i : Nat} {x : Ins} (hi : h.ins d t i = some (x, false)) (hd : h.bpDue d t i = true)
    (hx : bpClass x = .mark) :
    let g := h.bpCommand Hw.recvAny .mark d t i
    Gives d t i h g false (bit x 1) ∧ ∀ c, h.ctl d t = some c → bit c 567 = true → h.srcOn d = true →
      h.done.contains (.mark d t) = false →
        g.trace.offers = h.trace.offers ++ [⟨d, markPacket d h.frameLo (fld c 566 560) t h.seq.pos⟩] := by
  have h1 := (aside_checkCtl (d := d) (Q := False) (h := h) (t := t) nofun).noted
  have hop := bpClass_mark hx
  dsimp only
  rw [bpCommand_due hi hd hx, bpExec_sound hi]
  unfold Hw.bpAct
  rw [hx]
  dsimp only
  generalize h.checkCtl d t = k at h1
  rw [ctrlBp_eq, show k.ctrlGives d t i x = false by simp [Hw.ctrlGives, hop]]
  have h2 := h1.trans (aside_ctrlFields (d := d) (Q := False) nofun t i x (h := k)).noted
  generalize k.ctrlFields d t i x = m at h2
  refine ⟨gives_result ((markOffer_trusses ..).trans h2.trusses) .., fun c hctl hb hs hdn => ?_⟩
  have ho := markOffer_offers hop ((h2.ctl d t).trans hctl) hb ((h2.srcOn d).trans hs) ((h2.mark t).trans hdn)
  have hframe : m.frameLo = h.frameLo := by unfold Hw.frameLo; rw [h2.rest]
  have htrace : m.trace = h.trace := by rw [h2.rest]
  rw [result_offers, ho, hframe, h2.pos, htrace]

/-- Settles O34: each kind of instruction by what it gives after findings, which change no truss. -/
theorem booleanProcessors : Obligations.BooleanProcessors := by
  intro s d t i hd ht hi k gives
  have wf : (decide (d < 2) && decide (t < 512) && decide (i < 64)) = true := by simp [hd, ht, hi]
  have plain : ∀ {c : BpClass} {x : Ins}, s.hw.ins d t i = some (x, false) → s.hw.bpDue d t i = true → bpClass x = c →
      bpClass x ≠ .mark → bpClass x ≠ .port →
      gives (s.hw.bpCommand Hw.recvAny c d t i) (s.hw.bpGives d t i x) (bit x 1) := fun hins hdue hx hm hp =>
    (bpCommand_executed (Q := False) nofun hins hdue hx nofun nofun hm fun h => absurd h hp).gives
  refine ⟨fun x hins hdue => ⟨fun hx => does_of wf ?_, fun hx => does_of wf ?_, fun hx => ⟨fun c o hctl ho hs =>
    ⟨fun hsup => does_of wf ?_, fun hsup => does_of wf ?_⟩, fun c hctl hn => does_of wf ?_, fun hctl => does_of wf ?_⟩,
    fun hx => does_of wf ?_, fun hx => does_of wf ?_, fun hx => does_of wf (mark_gives hins hdue hx)⟩,
    fun x hins hdue => does_of wf ?_, fun hdue c hc => ?_⟩
  · have := plain hins hdue hx (by rw [hx]; nofun) (by rw [hx]; nofun)
    unfold Hw.bpGives at this
    rw [hx] at this
    exact this
  · have := plain hins hdue hx (by rw [hx]; nofun) (by rw [hx]; nofun)
    unfold Hw.bpGives at this
    rw [hx] at this
    exact this
  · have := (bpCommand_executed (Q := False) (h := s.hw) nofun hins hdue hx nofun nofun (by rw [hx]; nofun)
      fun _ => ⟨c, o, hctl, ho, hs, hsup⟩).gives
    unfold Hw.bpGives at this
    rw [hx] at this
    exact this
  · refine port_gives (P := fun g => gives g (bit (Store.get 0 g.portWords (portKey d (opUnit o.op) o.port)) i) (bit x 1))
      hins hdue hx fun k n => ?_
    exact Gives.of_noted n (portBp_receives ((n.ctl d t).trans hctl) ho hs hsup i)
  · refine port_gives (P := fun g => gives g false (bit x 1)) hins hdue hx fun k n => ?_
    refine Gives.of_noted n (portBp_unpaired (Q := False) nofun (fun c' o' hc' ho' => ?_) i).gives
    obtain rfl : c = c' := Option.some.inj (hctl.symm.trans ((n.ctl d t).symm.trans hc'))
    exact hn o' ho'
  · refine port_gives (P := fun g => gives g false (bit x 1)) hins hdue hx fun k n => ?_
    refine Gives.of_noted n (portBp_unpaired (Q := False) nofun (fun c' o' hc' ho' => ?_) i).gives
    exact absurd (hctl.symm.trans ((n.ctl d t).symm.trans hc')) nofun
  · have := plain hins hdue hx (by rw [hx]; nofun) (by rw [hx]; nofun)
    unfold Hw.bpGives Hw.ctrlGives at this
    rw [hx, show (fld x 45 44 == 1) = false by simp [(bpClass_nop hx).1]] at this
    exact this
  · have := plain hins hdue hx (by rw [hx]; nofun) (by rw [hx]; nofun)
    unfold Hw.bpGives Hw.ctrlGives at this
    rw [hx, show (fld x 45 44 == 1) = true by simp [bpClass_keep hx]] at this
    exact this
  · have := bpExec_bad (recv := Hw.recvAny) hins
    rw [← bpCommand_bad hins hdue] at this
    exact this
  · simp only [List.mem_cons, List.not_mem_nil, or_false] at hc
    rcases hc with rfl | rfl | rfl | rfl | rfl | rfl <;> exact exec_unchanged wf (bpCommand_idle hdue _)

end Sys2Proof.Machine
end

section
-- As the tests above: declarations in order, so that checking the one text stays within its memory.
set_option Elab.async false
/-!
PROOFS. The ports that a course supplies (R16, R84 to R88, R315, R337): the I/O path, the arguments of calls and the words of probe
groups.
-/

namespace Sys2Proof.Machine

/-! ## The I/O path -/

theorem partition_left {x : IoOut} {later : List IoOut} (hx : x.left = 0) (hl : ∀ y ∈ later, y.left ≠ 0) :
    (x :: later).partition (fun y => y.left == 0) = ([x], later) := by
  rw [List.partition_eq_filter_filter, List.filter_cons_of_pos (by simp [hx]), List.filter_eq_nil_iff.2 fun y hy => by simp [hl y hy],
    List.filter_cons_of_neg (by simp [hx]), List.filter_eq_self.2 fun y hy => by simp [hl y hy]]

theorem ioDeliver_none {h : Hw} (hl : ∀ y ∈ h.ioOut, y.left ≠ 0) : h.ioDeliver = h := by
  unfold Hw.ioDeliver
  rw [List.partition_eq_filter_filter, List.filter_eq_nil_iff.2 fun y hy => by simp [hl y hy],
    List.filter_eq_self.2 fun y hy => by simp [hl y hy]]
  rfl

theorem ioDeliver_one {h : Hw} {x : IoOut} {later : List IoOut} (ho : h.ioOut = x :: later) (hx : x.left = 0)
    (hl : ∀ y ∈ later, y.left ≠ 0) :
    h.ioDeliver = ({ h with ioOut := later } : Hw).setReg (userioA (0x80 + 4 * x.bank))
      ((h.reg (userioA (0x80 + 4 * x.bank)) &&& ~~~ x.mask) ||| (x.value &&& x.mask)) := by
  unfold Hw.ioDeliver
  rw [ho, partition_left hx hl]
  rfl

/-- What the delivery of one value changes beside the path. -/
theorem delivered_only (h : Hw) (l : List IoOut) (a : Nat) (v : Word32) :
    OnlyRegs [a] h { (({ h with ioOut := l } : Hw).setReg a v) with ioOut := h.ioOut } := onlyRegs_setReg h a v

theorem execIoOut_due {h : Hw} {d n t : Nat} {o : PortOp} {rest : List (Nat × PortOp)}
    (hu : h.portUsers d 1 n true = (t, o) :: rest) (hd : h.done.contains (.port d 1 n true) = false) :
    execIoOut h d n = ({ h with ioOut := h.ioOut ++
      [⟨20, 8 * d + 2 * n, (h.supplyMask d ((t, o) :: rest)).extractLsb' 0 32, (h.supplyWord d ((t, o) :: rest)).extractLsb' 0 32⟩,
        ⟨20, 8 * d + 2 * n + 1, (h.supplyMask d ((t, o) :: rest)).extractLsb' 32 32,
          (h.supplyWord d ((t, o) :: rest)).extractLsb' 32 32⟩] } : Hw).markDone (.port d 1 n true) := by
  unfold execIoOut
  rw [portOnce_due hu hd]

theorem execIoIn_due {h : Hw} {d n t : Nat} {o : PortOp} {rest : List (Nat × PortOp)}
    (hu : h.portUsers d 1 n false = (t, o) :: rest) (hd : h.done.contains (.port d 1 n false) = false) :
    execIoIn h d n = (h.deliverWord d 1 n (h.inputsPast ((if n < 4 then 8 * d + 2 * n else 16 + 8 * d + 2 * (n - 4)) + 1) ++
      h.inputsPast (if n < 4 then 8 * d + 2 * n else 16 + 8 * d + 2 * (n - 4)))).markDone (.port d 1 n false) := by
  unfold execIoIn
  rw [portOnce_due hu hd]

theorem deliverWord_fields (h : Hw) (d unit n : Nat) (w : Word64) (x : OpTag) :
    let g := (h.deliverWord d unit n w).markDone x
    Store.get 0 g.portWords (portKey d unit n) = w ∧ g = { h with portWords := g.portWords, done := g.done } :=
  ⟨Store.get_set_same 0 h.portWords (portKey d unit n) w, rfl⟩

theorem execProbeWord_due {h : Hw} {d n t : Nat} {o : PortOp} {rest : List (Nat × PortOp)}
    (hu : h.portUsers d 3 n true = (t, o) :: rest) (hd : h.done.contains (.port d 3 n true) = false) :
    execProbeWord h d n = ({ h with
      probeIn := Store.set (0, 0) h.probeIn (d * 128 + n)
        (0xFFFFFFFFFFFFFFFF#64, (Store.get (0, 0) h.probeIn (d * 128 + n)).2 ||| h.supplyWord d ((t, o) :: rest)) } : Hw).markDone
      (.port d 3 n true) := by
  unfold execProbeWord
  rw [portOnce_due hu hd]

theorem probed_fields (h : Hw) (a : Nat) (v : Word64 × Word64) (x : OpTag) :
    let g := ({ h with probeIn := Store.set (0, 0) h.probeIn a v } : Hw).markDone x
    Store.get (0, 0) g.probeIn a = v ∧ (∀ y, y ≠ a → Store.get (0, 0) g.probeIn y = Store.get (0, 0) h.probeIn y) ∧
      g = { h with probeIn := g.probeIn, done := g.done } :=
  ⟨Store.get_set_same (0, 0) h.probeIn a v, fun _ hy => Store.get_set_ne (0, 0) (0, 0) h.probeIn v hy, rfl⟩

/-! ## The arguments of a call -/

theorem get_foldl_zero (m : Store Word64) (k a : Nat) :
    Store.get 0 ((List.range 4).foldl (fun m i => Store.set 0 m (k * 4 + i) 0) m) a =
      if k * 4 ≤ a ∧ a < k * 4 + 4 then 0 else Store.get 0 m a := by
  have hr : List.range 4 = [0, 1, 2, 3] := by decide
  rw [hr]
  simp only [List.foldl_cons, List.foldl_nil, Store.get_set]
  split
  · rw [if_pos (by omega)]
  · split
    · rw [if_pos (by omega)]
    · split
      · rw [if_pos (by omega)]
      · split
        · rw [if_pos (by omega)]
        · rw [if_neg (by omega)]

/-- The words of the arguments with the word of this course. -/
def argWords (h : Hw) (k : Nat) (o : PortOp) (v : Word64) : Store Word64 := Store.set 0 h.calls.asm (k * 4 + o.word) v

theorem get_argWords (h : Hw) (k : Nat) (o : PortOp) (v : Word64) (i : Nat) :
    Store.get 0 (argWords h k o v) (k * 4 + i) = if i = o.word then v else Store.get 0 h.calls.asm (k * 4 + i) := by
  unfold argWords
  rw [Store.get_set]
  by_cases hi : i = o.word
  · rw [if_pos hi, if_pos (by omega)]
  · rw [if_neg hi, if_neg (by omega)]

theorem execCallArg_word {h : Hw} {d n t : Nat} {o : PortOp} {rest : List (Nat × PortOp)}
    (hu : h.portUsers d 2 n true = (t, o) :: rest) (hd : h.done.contains (.port d 2 n true) = false) (hl : o.last = false) :
    execCallArg h d n = ({ h with calls := { h.calls with
      asm := argWords h (32 * d + n) o (h.supplyWord d ((t, o) :: rest)) } } : Hw).markDone (.port d 2 n true) := by
  unfold execCallArg
  rw [portOnce_due hu hd]
  dsimp only
  rw [if_pos (by rw [hl]; rfl)]
  rfl

theorem execCallArg_last {h : Hw} {d n t : Nat} {o : PortOp} {rest : List (Nat × PortOp)} {w : Nat → Word64}
    (hu : h.portUsers d 2 n true = (t, o) :: rest) (hd : h.done.contains (.port d 2 n true) = false) (hl : o.last = true)
    (hw : ∀ i, Store.get 0 (argWords h (32 * d + n) o (h.supplyWord d ((t, o) :: rest))) ((32 * d + n) * 4 + i) = w i) :
    execCallArg h d n = ({ h with calls := { h.calls with
      asm := (List.range 4).foldl (fun m i => Store.set 0 m ((32 * d + n) * 4 + i) 0)
        (argWords h (32 * d + n) o (h.supplyWord d ((t, o) :: rest)))
      raises := h.calls.raises ++ [⟨h.seq.frame, h.seq.pos, 32 * d + n, h.reg (callsA (0x100 + 16 * (32 * d + n))),
        h.reg64 (callsA (0x104 + 16 * (32 * d + n))), w 3 ++ w 2 ++ w 1 ++ w 0⟩] } } : Hw).markDone (.port d 2 n true) := by
  unfold execCallArg
  rw [portOnce_due hu hd]
  dsimp only
  rw [if_neg (by rw [hl]; decide), ← hw 0, ← hw 1, ← hw 2, ← hw 3]
  rfl

/-- Settles O41: each supplying port by the equation of what it stores. -/
theorem supplyingPorts : Obligations.SupplyingPorts := by
  intro s d n t o rest hd v m
  refine ⟨fun hn hu hdn => does_of (by simp [Instr.wellFormed, hd, hn]) ?_, fun hn hu hdn => does_of (by simp [Instr.wellFormed, hd, hn]) ?_,
    fun x later ho hx hl hb => does_of (by simp [Instr.wellFormed]) ?_, fun b w hb hl => ⟨fun hr => does_of (by simp [Instr.wellFormed, hb]) ?_,
      fun hr => exec_unchanged (by simp [Instr.wellFormed, hb]) ?_⟩, fun hn hu hw hdn => ?_,
    fun hn hu hdn => does_of (by simp [Instr.wellFormed, hd, hn]) ?_⟩
  · rw [show effect (.ioOut d n) s.hw = _ from execIoOut_due hu hdn]
    exact ⟨rfl, rfl⟩
  · rw [show effect (.ioIn d n) s.hw = _ from execIoIn_due hu hdn]
    exact deliverWord_fields ..
  · rw [show effect (.ioPathDeliver []) s.hw = _ from ioDeliver_one ho hx hl]
    exact ⟨rfl, reg_setReg_same .., delivered_only ..⟩
  · rw [show effect (.ioPathDeliver [(b, w)]) s.hw = s.hw.setReg (userioA (0xC0 + 4 * b)) w from by
      change (s.hw.ioDeliver).samplePins [(b, w)] = _
      rw [ioDeliver_none hl]
      exact if_pos (by simp [hb, hr])]
    exact ⟨reg_setReg_same .., onlyRegs_setReg ..⟩
  · change (s.hw.ioDeliver).samplePins [(b, w)] = _
    rw [ioDeliver_none hl]
    exact if_neg (by simp [hr])
  · intro k w others
    have hwords : ∀ i, Store.get 0 (argWords s.hw k o v) (k * 4 + i) = w i := get_argWords s.hw k o v
    have houter : ∀ a, a < k * 4 ∨ k * 4 + 4 ≤ a → Store.get 0 (argWords s.hw k o v) a = Store.get 0 s.hw.calls.asm a :=
      fun a ha => Store.get_set_ne _ _ _ _ (by omega)
    refine does_of (by simp [Instr.wellFormed, hd, hn]) ?_
    cases hl : o.last with
    | false =>
      rw [show effect (.callArg d n) s.hw = _ from execCallArg_word hu hdn hl]
      exact ⟨houter, fun _ => ⟨fun i _ => hwords i, rfl⟩, nofun, rfl⟩
    | true =>
      rw [show effect (.callArg d n) s.hw = _ from execCallArg_last hu hdn hl hwords]
      exact ⟨fun a ha => (get_foldl_zero _ k a).trans ((if_neg (by omega)).trans (houter a ha)), nofun,
        fun _ => ⟨fun i hi => (get_foldl_zero _ k (k * 4 + i)).trans (if_pos (by omega)), rfl⟩, rfl⟩
  · rw [show effect (.probeWord d n) s.hw = _ from execProbeWord_due hu hdn]
    exact probed_fields ..

end Sys2Proof.Machine
end

section
-- As the tests above: declarations in order, so that checking the one text stays within its memory.
set_option Elab.async false
/-!
PROOFS. The deliveries of the fabric, the die bridge and the Eave slots, and the captures of the vector source (R96 to R109, R125,
R126, R235).
-/

namespace Sys2Proof.Machine

/-! ## Incoming bits of a truss -/

/-- Only trusses have changed. -/
def TrussWork (h g : Hw) : Prop := g = { h with trusses := g.trusses }

theorem TrussWork.trans {h g k : Hw} (a : TrussWork h g) (b : TrussWork g k) : TrussWork h k := by
  unfold TrussWork at *
  rw [b, a]

theorem trussWork_setTruss (h : Hw) (T : Nat) (k : Truss) : TrussWork h (h.setTruss T k) := rfl

theorem setIn_fields (h : Hw) (T n : Nat) (v : Bool) : (h.setIn T n v).truss T = { h.truss T with inb := setBit (h.truss T).inb n v } ∧
    (∀ U, U ≠ T → (h.setIn T n v).truss U = h.truss U) ∧ TrussWork h (h.setIn T n v) :=
  ⟨truss_setTruss_same .., fun _ hU => truss_setTruss_ne h _ hU, trussWork_setTruss ..⟩

/-- A truss of which only the incoming battens differ. -/
def SameButIn (k m : Truss) : Prop := m = { k with inb := m.inb }

theorem setIn_sameButIn (h : Hw) (T n : Nat) (v : Bool) (U : Nat) : SameButIn (h.truss U) ((h.setIn T n v).truss U) := by
  obtain ⟨h1, h2, -⟩ := setIn_fields h T n v
  by_cases hU : U = T
  · subst hU
    rw [h1]
    rfl
  · rw [h2 U hU]
    rfl

theorem SameButIn.trans {a b c : Truss} (x : SameButIn a b) (y : SameButIn b c) : SameButIn a c := by
  unfold SameButIn at *
  rw [y, x]

theorem inb_setIn (h : Hw) (T : Nat) {n : Nat} (hn : n < 48) (v : Bool) (U m : Nat) :
    bit ((h.setIn T n v).truss U).inb m = if U = T ∧ m = n then v else bit (h.truss U).inb m := by
  obtain ⟨h1, h2, -⟩ := setIn_fields h T n v
  by_cases hU : U = T
  · subst hU
    rw [h1]
    refine (bit_setBit _ _ _ _ hn).trans ?_
    simp only [true_and]
  · rw [h2 U hU, if_neg fun e => hU e.1]

/-- The bits of a slot group, set one after the other at the places that `T` and `n` name. -/
def Hw.setIns (h : Hw) (T n : Nat → Nat) (b : Nat → Bool) (l : List Nat) : Hw := l.foldl (fun h s => h.setIn (T s) (n s) (b s)) h

theorem trussWork_setIns (h : Hw) (T n : Nat → Nat) (b : Nat → Bool) (l : List Nat) : TrussWork h (h.setIns T n b l) :=
  List.foldlRecOn (motive := TrussWork h) _ _ rfl fun _ hg _ _ => hg.trans (setIn_fields ..).2.2

theorem sameButIn_setIns (h : Hw) (T n : Nat → Nat) (b : Nat → Bool) (l : List Nat) (U : Nat) :
    SameButIn (h.truss U) ((h.setIns T n b l).truss U) :=
  List.foldlRecOn (motive := fun g : Hw => SameButIn (h.truss U) (g.truss U)) l _ (by rfl) fun _ hg _ _ =>
    hg.trans (setIn_sameButIn ..)

theorem inb_setIns_other (h : Hw) {T n : Nat → Nat} (b : Nat → Bool) {l : List Nat} (hn : ∀ s ∈ l, n s < 48) {U m : Nat}
    (ho : ∀ s ∈ l, (U, m) ≠ (T s, n s)) : bit ((h.setIns T n b l).truss U).inb m = bit (h.truss U).inb m := by
  induction l generalizing h with
  | nil => rfl
  | cons s l ih =>
    refine (ih (h.setIn (T s) (n s) (b s)) (fun x hx => hn x (List.mem_cons_of_mem _ hx))
      fun x hx => ho x (List.mem_cons_of_mem _ hx)).trans ?_
    rw [inb_setIn h _ (hn s List.mem_cons_self), if_neg fun e => ho s List.mem_cons_self (Prod.ext e.1 e.2)]

theorem inb_setIns_mem (h : Hw) {T n : Nat → Nat} (b : Nat → Bool) {l : List Nat} (hn : ∀ s ∈ l, n s < 48) (hd : l.Nodup)
    (hinj : ∀ s ∈ l, ∀ r ∈ l, (T s, n s) = (T r, n r) → s = r) {s : Nat} (hs : s ∈ l) :
    bit ((h.setIns T n b l).truss (T s)).inb (n s) = b s := by
  induction l generalizing h with
  | nil => cases hs
  | cons r l ih =>
    obtain ⟨hr, hd⟩ := List.nodup_cons.1 hd
    have hn' := fun x hx => hn x (List.mem_cons_of_mem _ hx)
    by_cases he : s = r
    · subst he
      refine (inb_setIns_other (h.setIn (T s) (n s) (b s)) b hn' fun x hx e => ?_).trans ?_
      · exact hr (hinj s List.mem_cons_self x (List.mem_cons_of_mem _ hx) e ▸ hx)
      · rw [inb_setIn h _ (hn s List.mem_cons_self), if_pos ⟨rfl, rfl⟩]
    · exact ih (h.setIn (T r) (n r) (b r)) hn' hd
        (fun x hx y hy => hinj x (List.mem_cons_of_mem _ hx) y (List.mem_cons_of_mem _ hy)) (List.mem_of_ne_of_mem he hs)

/-! ## The ends of the slots of a port (Table 4.5) -/

theorem slotEnds_cases (p s : Nat) :
    (p % 6 < 2 ∧ slotEnds p s = (p / 6, (p % 6 % 2 * 8 + s / 12) * 32, 36 + s % 12, 36 + s % 12)) ∨
    (2 ≤ p % 6 ∧ p % 6 < 4 ∧ slotEnds p s = (p / 6, (p % 6 % 2 * 8 + s / 12) * 32 + 31, 12 + s % 12, 12 + s % 12)) ∨
    (4 ≤ p % 6 ∧ p / 6 = 0 ∧ slotEnds p s = (0, p % 6 % 2 * 16 + s / 6, s % 6, s % 6)) ∨
    (4 ≤ p % 6 ∧ p / 6 ≠ 0 ∧ slotEnds p s = (1, 480 + (p % 6 % 2 * 16 + s / 6), 24 + s % 6, 24 + s % 6)) := by
  unfold slotEnds
  dsimp only
  by_cases h1 : p % 6 < 2
  · exact .inl ⟨h1, if_pos h1⟩
  · rw [if_neg h1]
    by_cases h2 : p % 6 < 4
    · exact .inr (.inl ⟨by omega, h2, if_pos h2⟩)
    · rw [if_neg h2]
      by_cases h3 : p / 6 = 0
      · exact .inr (.inr (.inl ⟨by omega, h3, if_pos h3⟩))
      · exact .inr (.inr (.inr ⟨by omega, h3, if_neg h3⟩))

theorem slotEnds_lt (p s : Nat) : (slotEnds p s).2.2.2 < 48 := by
  rcases slotEnds_cases p s with ⟨_, e⟩ | ⟨_, _, e⟩ | ⟨_, _, e⟩ | ⟨_, _, e⟩ <;> rw [e] <;> dsimp only <;> omega

theorem slotEnds_inj (p : Nat) {s r : Nat}
    (e : (trussIx (slotEnds p s).1 (slotEnds p s).2.1, (slotEnds p s).2.2.2) =
      (trussIx (slotEnds p r).1 (slotEnds p r).2.1, (slotEnds p r).2.2.2)) : s = r := by
  obtain ⟨e1, e2⟩ := Prod.mk.inj e
  unfold trussIx at e1
  rcases slotEnds_cases p s with ⟨hp, es⟩ | ⟨hp, hp', es⟩ | ⟨hp, hp', es⟩ | ⟨hp, hp', es⟩ <;>
    rcases slotEnds_cases p r with ⟨hq, er⟩ | ⟨hq, hq', er⟩ | ⟨hq, hq', er⟩ | ⟨hq, hq', er⟩ <;>
    rw [es, er] at e1 e2 <;> dsimp only at e1 e2 <;> omega

/-- The battens that a slot of a port ends at come from that slot. -/
theorem eaveSlot_slotEnds {p s : Nat} (hp : p < 12) (hs : s < 96) :
    eaveSlot (slotEnds p s).1 (slotEnds p s).2.1 ((slotEnds p s).2.2.2 / 12) ((slotEnds p s).2.2.2 % 12) = some (p, s) := by
  unfold eaveSlot
  dsimp only
  rcases slotEnds_cases p s with ⟨h1, e⟩ | ⟨h1, h2, e⟩ | ⟨h1, h2, e⟩ | ⟨h1, h2, e⟩ <;> rw [e] <;> dsimp only
  · rw [if_pos (by omega)]
    exact congrArg some (Prod.ext (by dsimp only; omega) (by dsimp only; omega))
  · rw [if_neg (by omega), if_pos (by omega)]
    exact congrArg some (Prod.ext (by dsimp only; omega) (by dsimp only; omega))
  · rw [if_neg (by omega), if_neg (by omega), if_pos (by omega)]
    exact congrArg some (Prod.ext (by dsimp only; omega) (by dsimp only; omega))
  · rw [if_neg (by omega), if_neg (by omega), if_neg (by omega), if_pos (by omega)]
    exact congrArg some (Prod.ext (by dsimp only; omega) (by dsimp only; omega))

/-! ## Battens, purlins and the bridge -/

theorem fabricDeliver_batten {h : Hw} {d t n : Nat} (he : h.execRow d ≠ none) (ht : t < 512) (hn : n < 48) :
    h.fabricDeliver (.batten d t n) = h.setIn (trussIx d t) n (h.inBatten d t n) :=
  if_pos (by simp [Option.isSome_iff_ne_none, he, ht, hn])

theorem fabricDeliver_purlin {h : Hw} {d t n : Nat} (he : h.execRow d ≠ none) (ht : t < 512) (hn : n < 8) :
    h.fabricDeliver (.purlin d t n) = h.setTruss (trussIx d t) { h.truss (trussIx d t) with
      pin := setBit (h.truss (trussIx d t)).pin n (h.inPurlin d t n) } :=
  if_pos (by simp [Option.isSome_iff_ne_none, he, ht, hn])

theorem fld_setBit_other {w : Nat} (v : BitVec w) {hi lo n : Nat} (b : Bool) (hn : n < w) (ho : hi < n ∨ n < lo) :
    fld (setBit v n b) hi lo = fld v hi lo := by
  refine Nat.eq_of_testBit_eq fun i => ?_
  rw [fld_testBit, fld_testBit]
  by_cases hi' : i < hi + 1 - lo
  · rw [bit_setBit _ _ _ _ hn, if_neg (by omega)]
  · simp [hi']

/-- What the bridge has found wrong: the count, and the first group while VALID is 0 (R107). -/
def Hw.bridgeWrong (h : Hw) (a g n : Nat) : Hw :=
  if (h.bump a 15 0 n).bget a 31 then h.bump a 15 0 n else ((h.bump a 15 0 n).fset a 19 16 g).setW1c a 31

theorem bridgeWrong_fields (h : Hw) (a : Nat) {g : Nat} (hg : g < 12) (n : Nat) :
    (h.bridgeWrong a g n).fget a 15 0 = min 65535 (h.fget a 15 0 + n) ∧
      (h.bget a 31 = false → (h.bridgeWrong a g n).fget a 19 16 = g ∧ (h.bridgeWrong a g n).bget a 31 = true) ∧
      (∀ b, b ≠ a → (h.bridgeWrong a g n).reg b = h.reg b) ∧ (h.bridgeWrong a g n).bridgeErr = h.bridgeErr := by
  have hb : (h.bump a 15 0 n).bget a 31 = h.bget a 31 := by
    unfold Hw.bump
    rw [bget_fset _ _ _ _ _ _ _ (by decide)]
    simp
  have hc : (h.bump a 15 0 n).fget a 15 0 = min 65535 (h.fget a 15 0 + n) := fget_bump_same h a n (by decide)
  have hr : ∀ b, b ≠ a → (h.bump a 15 0 n).reg b = h.reg b := (fset_fields ..).choose_spec.2
  have he : (h.bump a 15 0 n).bridgeErr = h.bridgeErr := rfl
  unfold Hw.bridgeWrong
  rw [hb]
  generalize h.bump a 15 0 n = k at hc hr he
  cases hv : h.bget a 31 with
  | true => exact ⟨hc, nofun, hr, he⟩
  | false =>
    rw [if_neg Bool.false_ne_true]
    have hreg : ((k.fset a 19 16 g).setW1c a 31).reg a = setBit (setFld (k.reg a) 19 16 g) 31 true := by
      unfold Hw.setW1c
      rw [reg_afterMark, reg_setReg_same]
      unfold Hw.fset
      rw [reg_setReg_same]
    have hother : ∀ b, b ≠ a → ((k.fset a 19 16 g).setW1c a 31).reg b = k.reg b := fun b hb => by
      unfold Hw.setW1c
      rw [reg_afterMark, reg_setReg, if_neg hb]
      exact (fset_fields ..).choose_spec.2 b hb
    refine ⟨?_, fun _ => ⟨?_, ?_⟩, fun b hb => (hother b hb).trans (hr b hb), he⟩
    · rw [← hc]
      unfold Hw.fget
      rw [hreg, fld_setBit_other _ _ (by decide) (by decide), fld_setFld_ne _ _ _ _ _ _ (by decide) (by decide)]
    · unfold Hw.fget
      rw [hreg, fld_setBit_other _ _ (by decide) (by decide), fld_setFld _ _ _ _ (by decide)]
      exact Nat.mod_eq_of_lt (by omega)
    · unfold Hw.bget
      rw [hreg, bit_setBit _ _ _ _ (by decide), if_pos rfl]

theorem bridgeArrive_sound {h : Hw} {d : Nat} (hx : h.execClock = true) (hd : d < 2) (hn : h.done.contains (.bridge d) = false)
    {flips : BitVec 384} {par : BitVec 12} (hg : failingGroups flips par = []) :
    h.bridgeArrive d flips par = ({ h with bridgeErr := Store.set 0 h.bridgeErr d flips } : Hw).markDone (.bridge d) := by
  unfold Hw.bridgeArrive
  rw [once_due _ _ (by simp [hx, hd]) hn, hg]

theorem bridgeArrive_wrong {h m : Hw} {d : Nat} (hx : h.execClock = true) (hd : d < 2) (hn : h.done.contains (.bridge d) = false)
    {flips : BitVec 384} {par : BitVec 12} {g : Nat} {gs : List Nat} (hg : failingGroups flips par = g :: gs)
    (hm : ({ h with bridgeErr := Store.set 0 h.bridgeErr d flips } : Hw) = m) :
    h.bridgeArrive d flips par = ((m.bridgeWrong (bridgeA d 4) g (gs.length + 1)).raisePoison (evBridgeParity d)
      ((m.bridgeWrong (bridgeA d 4) g (gs.length + 1)).reg (bridgeA d 4))).markDone (.bridge d) := by
  unfold Hw.bridgeArrive
  rw [once_due _ _ (by simp [hx, hd]) hn, hg, hm]
  rfl

theorem failingGroups_lt {flips : BitVec 384} {par : BitVec 12} {g : Nat} (hg : g ∈ failingGroups flips par) : g < 12 :=
  List.mem_range.1 (List.mem_filter.1 hg).1

/-- What wrong groups leave, with the count and the location at a. -/
theorem bridgeFound_fields {h m : Hw} {a g n d id : Nat} (ha : powerA 0 ≠ a) (hg : g < 12) (hm : ∀ b, m.reg b = h.reg b) :
    let f := ((m.bridgeWrong a g n).raisePoison id ((m.bridgeWrong a g n).reg a)).markDone (.bridge d)
    f.bridgeErr = m.bridgeErr ∧ f.fget a 15 0 = min 65535 (h.fget a 15 0 + n) ∧
      (h.bget a 31 = false → f.fget a 19 16 = g ∧ f.bget a 31 = true) ∧ OnPath id h f := by
  obtain ⟨h1, h2, h3, h4⟩ := bridgeWrong_fields m a hg n
  dsimp only
  generalize m.bridgeWrong a g n = k at h1 h2 h3 h4
  have hs := signals_raisePoison k id (k.reg a)
  have hon := onPath_raisePoison (h := h) id (k.reg a)
    (show k.pstate = h.pstate from congrArg (fld · 2 0) ((h3 _ ha).trans (hm _)))
  generalize k.raisePoison id (k.reg a) = f at hs hon
  have hreg : ∀ b, (f.markDone (.bridge d)).reg b = k.reg b := fun b => by rw [reg_afterMark, hs.rest]; rfl
  have hma : m.reg a = h.reg a := hm a
  unfold Hw.fget Hw.bget at *
  rw [hma] at h1 h2
  refine ⟨(show f.bridgeErr = k.bridgeErr by rw [hs.rest]).trans h4, ?_, fun hv => ?_, hon.marked _⟩
  · rw [hreg]
    exact h1
  · rw [hreg]
    exact h2 hv

/-- The words of the bridge as the receivers of die d see them. -/
def Hw.bridged (h : Hw) (d : Nat) (flips : BitVec 384) : Hw := { h with bridgeErr := Store.set 0 h.bridgeErr d flips }

theorem bridged_fields (h : Hw) (d : Nat) (flips : BitVec 384) :
    Store.get 0 (h.bridged d flips).bridgeErr d = flips ∧ ∀ b, (h.bridged d flips).reg b = h.reg b :=
  ⟨Store.get_set_same 0 h.bridgeErr d flips, fun _ => rfl⟩

theorem bridgeA_ne_power (d : Nat) : powerA 0 ≠ bridgeA d 4 := by unfold powerA bridgeA dieBase; omega

/-! ## Slot groups -/

/-- The battens of a slot group have taken their bits. -/
def Hw.groupIn (h : Hw) (p : Nat) (bits : BitVec 96) : Hw :=
  h.setIns (fun i => trussIx (slotEnds p i).1 (slotEnds p i).2.1) (fun i => (slotEnds p i).2.2.2) (bit bits) (List.range 96)

theorem groupIn_fields (h : Hw) (p : Nat) (bits : BitVec 96) :
    ((∀ i, i < 96 → bit ((h.groupIn p bits).truss (trussIx (slotEnds p i).1 (slotEnds p i).2.1)).inb (slotEnds p i).2.2.2 = bit bits i) ∧
      ∀ T, (h.groupIn p bits).truss T = { h.truss T with inb := ((h.groupIn p bits).truss T).inb } ∧
        ∀ n, (∀ i, i < 96 → (T, n) ≠ (trussIx (slotEnds p i).1 (slotEnds p i).2.1, (slotEnds p i).2.2.2)) →
          bit ((h.groupIn p bits).truss T).inb n = bit (h.truss T).inb n) ∧ TrussWork h (h.groupIn p bits) := by
  refine ⟨⟨fun i hi => ?_, fun T => ⟨sameButIn_setIns .., fun n hn => ?_⟩⟩, trussWork_setIns ..⟩
  · exact inb_setIns_mem h (bit bits) (fun s _ => slotEnds_lt p s) List.nodup_range (fun s _ r _ e => slotEnds_inj p e)
      (List.mem_range.2 hi)
  · exact inb_setIns_other h (bit bits) (fun s _ => slotEnds_lt p s) fun s hs => hn s (List.mem_range.1 hs)

theorem execSlotGroupDeliver_due {h : Hw} {p : Nat} (hx : h.execClock = true) (hc : h.conf.crossPorts.contains p = true)
    (ha : (h.port p).state = .active) (hn : h.done.contains (.slotGroup p) = false) (hl : h.fget (eaveA p 0x100) 8 0 ≤ h.seq.pos)
    (hp : h.seq.pos < h.seq.schedLen) :
    execSlotGroupDeliver h p =
      (match (h.port p).groupFor (h.seq.frame.toNat % 16) (h.seq.pos - h.fget (eaveA p 0x100) 8 0) with
      | some g => (h.groupIn p g.bits).setPort p { (h.groupIn p g.bits).port p with
          rxGroups := ((h.groupIn p g.bits).port p).rxGroups.erase g, arrived := some g }
      | none => ((h.groupIn p 0).count (eaveA p 0x2C)).raisePoison (evSlotMissing p) : Hw).markDone (.slotGroup p) := by
  unfold execSlotGroupDeliver
  dsimp only
  rw [once_due _ _ (by simp only [hx, hc, ha, hl, hp, decide_true, Bool.true_and]) hn]
  cases (h.port p).groupFor (h.seq.frame.toNat % 16) (h.seq.pos - h.fget (eaveA p 0x100) 8 0) <;> rfl

/-- A group that the port delivers is the one that a batten of it reads in this course. -/
theorem groupFor_arrived {pt : EavePort} {frm pos : Nat} {x : Group} (hx : pt.groupFor frm pos = some x) (l : List Group) :
    ({ pt with rxGroups := l, arrived := some x } : EavePort).groupFor frm pos = some x := by
  have hp := List.find?_some hx
  unfold EavePort.groupFor
  exact List.find?_cons_of_pos hp

theorem inBatten_slot {g : Hw} {p n : Nat} {x : Group} (hp : p < 12) (hn : n < 96)
    (hb : battenFrom (slotEnds p n).1 (slotEnds p n).2.1 ((slotEnds p n).2.2.2 / 12) ((slotEnds p n).2.2.2 % 12) = none)
    (hc : g.conf.crossPorts.contains p = true) (ha : (g.port p).state = .active) (hl : g.fget (eaveA p 0x100) 8 0 ≤ g.seq.pos)
    (hf : (g.port p).groupFor (g.seq.frame.toNat % 16) (g.seq.pos - g.fget (eaveA p 0x100) 8 0) = some x) :
    g.inBatten (slotEnds p n).1 (slotEnds p n).2.1 (slotEnds p n).2.2.2 = bit x.bits n := by
  unfold Hw.inBatten
  dsimp only
  rw [hb, eaveSlot_slotEnds hp hn]
  dsimp only
  rw [if_pos (by simp only [hc, ha, hl, decide_true, Bool.true_and]), hf]

/-- The battens of port p carry `bits`, and nothing else of the trusses has changed. -/
def GroupArrived (p : Nat) (bits : BitVec 96) (h g : Hw) : Prop :=
  (∀ i, i < 96 → bit (g.truss (trussIx (slotEnds p i).1 (slotEnds p i).2.1)).inb (slotEnds p i).2.2.2 = bit bits i) ∧
    ∀ T, g.truss T = { h.truss T with inb := (g.truss T).inb } ∧
      ∀ n, (∀ i, i < 96 → (T, n) ≠ (trussIx (slotEnds p i).1 (slotEnds p i).2.1, (slotEnds p i).2.2.2)) →
        bit (g.truss T).inb n = bit (h.truss T).inb n

theorem GroupArrived.congr {p : Nat} {bits : BitVec 96} {h g k : Hw} (a : GroupArrived p bits h g) (e : k.trusses = g.trusses) :
    GroupArrived p bits h k := by
  have ht : ∀ T, k.truss T = g.truss T := fun T => by unfold Hw.truss; rw [e]
  unfold GroupArrived
  simp only [ht]
  exact a

/-- A port whose group is delivered. -/
def EavePort.delivered (pt : EavePort) (x : Group) : EavePort := { pt with rxGroups := pt.rxGroups.erase x, arrived := some x }

theorem slotTaken_fields {h m : Hw} {p : Nat} {x : Group} (hp : p < 12) (hc : h.conf.crossPorts.contains p = true)
    (ha : (h.port p).state = .active) (hl : h.fget (eaveA p 0x100) 8 0 ≤ h.seq.pos)
    (hf : (h.port p).groupFor (h.seq.frame.toNat % 16) (h.seq.pos - h.fget (eaveA p 0x100) 8 0) = some x)
    (h1 : GroupArrived p x.bits h m) (h2 : TrussWork h m) :
    let g := (m.setPort p ((m.port p).delivered x)).markDone (.slotGroup p)
    GroupArrived p x.bits h g ∧ g.port p = (h.port p).delivered x ∧
      (∀ side n, battenFrom (slotEnds p n).1 (slotEnds p n).2.1 side ((slotEnds p n).2.2.2 % 12) = none → n < 96 →
        (slotEnds p n).2.2.2 / 12 = side →
        g.inBatten (slotEnds p n).1 (slotEnds p n).2.1 (slotEnds p n).2.2.2 = bit x.bits n) ∧
      (∀ r, r ≠ p → g.port r = h.port r) ∧ g = { h with trusses := g.trusses, ports := g.ports, done := g.done } := by
  have hports : ∀ r, m.port r = h.port r := fun r => by unfold Hw.port; rw [h2]
  rw [hports]
  have hgroup : ((h.port p).delivered x).groupFor (h.seq.frame.toNat % 16) (h.seq.pos - h.fget (eaveA p 0x100) 8 0) = some x :=
    groupFor_arrived hf _
  have hact : ((h.port p).delivered x).state = .active := ha
  generalize (h.port p).delivered x = v at hgroup hact
  have hsame : ((m.setPort p v).markDone (.slotGroup p)).port p = v := port_setPort_same m p v
  have hother : ∀ r, r ≠ p → ((m.setPort p v).markDone (.slotGroup p)).port r = m.port r := fun r hr =>
    (port_setPort m p r v).trans (if_neg hr)
  have honly : (m.setPort p v).markDone (.slotGroup p) = { m with
    ports := ((m.setPort p v).markDone (.slotGroup p)).ports, done := ((m.setPort p v).markDone (.slotGroup p)).done } := rfl
  dsimp only
  generalize (m.setPort p v).markDone (.slotGroup p) = g at hsame hother honly
  have hrest : g = { h with trusses := g.trusses, ports := g.ports, done := g.done } := by rw [honly, h2]
  have hreg : ∀ a, g.reg a = h.reg a := fun a => by rw [hrest]; rfl
  have hseq : g.seq = h.seq := by rw [hrest]
  have hconf : g.conf = h.conf := by rw [hrest]
  have hlat : g.fget (eaveA p 0x100) 8 0 = h.fget (eaveA p 0x100) 8 0 := congrArg (fld · 8 0) (hreg _)
  refine ⟨h1.congr (by rw [honly]), hsame, fun side n hb hn hside => ?_, fun r hr => (hother r hr).trans (hports r), hrest⟩
  subst hside
  refine inBatten_slot hp hn hb (by rw [hconf]; exact hc) (by rw [hsame]; exact hact) (by rw [hlat, hseq]; exact hl) ?_
  rw [hsame, hlat, hseq]
  exact hgroup

theorem slotMissing_fields {h m : Hw} {p : Nat} (h1 : GroupArrived p 0 h m) (h2 : TrussWork h m) :
    let g := ((m.count (eaveA p 0x2C)).raisePoison (evSlotMissing p)).markDone (.slotGroup p)
    GroupArrived p 0 h g ∧ g.fget (eaveA p 0x2C) 31 0 = min (2 ^ 32 - 1) (h.fget (eaveA p 0x2C) 31 0 + 1) ∧
      OnPath (evSlotMissing p) h g := by
  have ha : powerA 0 ≠ eaveA p 0x2C := by unfold powerA eaveA; omega
  have hreg : ∀ a, m.reg a = h.reg a := fun a => by rw [h2]; rfl
  dsimp only
  generalize eaveA p 0x2C = a at ha
  have hcount : (m.count a).fget a 31 0 = min (2 ^ 32 - 1) (h.fget a 31 0 + 1) := by
    rw [show h.fget a 31 0 = m.fget a 31 0 from (congrArg (fld · 31 0) (hreg a)).symm]
    exact fget_bump_same m a 1 (by decide)
  have ht : (m.count a).trusses = m.trusses := trusses_count m a
  have hps : (m.count a).pstate = h.pstate := congrArg (fld · 2 0) (((count_fields m a).choose_spec.2 _ ha).trans (hreg _))
  generalize m.count a = k at hcount ht hps
  have hs := signals_raisePoison k (evSlotMissing p) 0
  have hon := onPath_raisePoison (h := h) (m := k) (evSlotMissing p) 0 hps
  generalize k.raisePoison (evSlotMissing p) = f at hs hon
  have hk : (f.markDone (.slotGroup p)).reg a = k.reg a := by rw [reg_afterMark, hs.rest]; rfl
  exact ⟨h1.congr ((show f.trusses = k.trusses by rw [hs.rest]).trans ht), (congrArg (fld · 31 0) hk).trans hcount, hon.marked _⟩

/-! ## Captures -/

theorem get_map_txCaps (m : Store EavePort) (c : Nat → Bool) (x : CapSym) (p : Nat) :
    let k := Store.get {} (m.map fun kv => if c kv.1 then (kv.1, { kv.2 with txCaps := kv.2.txCaps ++ [x] }) else kv) p
    k = Store.get {} m p ∨ c p = true ∧ k = { Store.get {} m p with txCaps := (Store.get {} m p).txCaps ++ [x] } := by
  induction m with
  | nil => exact .inl rfl
  | cons kv m ih =>
    obtain ⟨k, v⟩ := kv
    dsimp only at ih
    rw [List.map_cons]
    by_cases hp : p = k
    · subst hp
      cases c p <;> simp [Store.get]
    · cases hc : c k <;> simpa [Store.get, hp, hc] using ih

theorem execDevCapture_due {h : Hw} {d t : Nat} {sg : Seg} (hx : h.execClock = true) (hv : h.seq.vecSource = some (d, t))
    (hs : h.segAt d h.seq.pos = some sg) (hp : sg.pos = h.seq.pos) (hc : sg.cap ≠ 0) (hn : h.done.contains .dev = false) :
    execDevCapture h = (if h.seq.pos > h.seq.schedLen - h.seq.horizon ∨ h.seq.schedLen < h.seq.horizon then h.raise evDevLate
      else
        let v := (h.truss (trussIx d t)).outv
        let c : CapSym := ⟨if sg.cap % 2 = 1 then some v else none, if sg.cap ≥ 2 then some (fld v 3 0) else none,
          h.seq.clk + h.seq.horizon⟩
        let h := h.updSeq fun q => { q with caps := q.caps ++ [c] }
        ({ h with ports := h.ports.map fun kv =>
          if h.conf.treePorts.contains kv.1 then (kv.1, { kv.2 with txCaps := kv.2.txCaps ++ [c] }) else kv } : Hw).emit
          (.capture c)).markDone .dev := by
  unfold execDevCapture
  rw [hv]
  dsimp only
  rw [hs]
  dsimp only
  rw [once_due _ _ (by simp [hx, hp, hc]) hn]

/-- What a capture that is sent changes. -/
theorem captured_fields (h : Hw) (c : CapSym) :
    let k := h.updSeq fun q => { q with caps := q.caps ++ [c] }
    let g := (({ k with ports := k.ports.map fun kv =>
      if k.conf.treePorts.contains kv.1 then (kv.1, { kv.2 with txCaps := kv.2.txCaps ++ [c] }) else kv } : Hw).emit
      (.capture c)).markDone .dev
    g.seq = { h.seq with caps := h.seq.caps ++ [c] } ∧ g.out = h.out ++ [.capture c] ∧
      (∀ p, g.port p = h.port p ∨ h.conf.treePorts.contains p = true ∧
        g.port p = { h.port p with txCaps := (h.port p).txCaps ++ [c] }) ∧
      g = { h with seq := g.seq, out := g.out, ports := g.ports, done := g.done } :=
  ⟨rfl, rfl, get_map_txCaps h.ports h.conf.treePorts.contains c, rfl⟩

theorem late_fields (h : Hw) :
    let g := (h.raise evDevLate).markDone .dev
    Raised evDevLate 0 h g ∧ g = { h with fault := { h.fault with path := g.fault.path }, done := g.done } :=
  ⟨⟨false, rfl⟩, rfl⟩

/-- Settles O42: battens and purlins, the bridge, the slot groups and the captures, each by the lemma of what it delivers. -/
theorem fabricDeliveries : Obligations.FabricDeliveries := by
  intro s hx
  refine ⟨fun d t n hd ht he => ⟨fun hn => does_of (by simp [Instr.wellFormed, FabricPath.ok, hd, ht, hn]) ?_,
    fun hn => does_of (by simp [Instr.wellFormed, FabricPath.ok, hd, ht, hn]) ?_⟩,
    fun d flips par hd hn => ?_, ?_, ?_⟩
  · rw [show effect (.fabricDelivery (.batten d t n)) s.hw = _ from fabricDeliver_batten he ht hn]
    exact setIn_fields ..
  · rw [show effect (.fabricDelivery (.purlin d t n)) s.hw = _ from fabricDeliver_purlin he ht hn]
    exact ⟨truss_setTruss_same .., fun T hT => truss_setTruss_ne _ _ hT, rfl⟩
  · intro a gs
    refine does_of (by simp [Instr.wellFormed, FabricPath.ok, hd]) ?_
    obtain ⟨he, hr⟩ := bridged_fields s.hw d flips
    generalize hm : s.hw.bridged d flips = m at he hr
    cases hgs : failingGroups flips par with
    | nil =>
      rw [show effect (.fabricDelivery (.bridge d flips par)) s.hw = m.markDone (.bridge d) from
        hm ▸ bridgeArrive_sound hx hd hn hgs, ← hm]
      exact ⟨hm ▸ he, fun _ => rfl, fun hne => absurd hgs hne⟩
    | cons g rest =>
      rw [show effect (.fabricDelivery (.bridge d flips par)) s.hw = _ from bridgeArrive_wrong hx hd hn hgs hm]
      obtain ⟨h1, h2, h3, h4⟩ := bridgeFound_fields (h := s.hw) (m := m) (g := g) (n := rest.length + 1) (d := d)
        (id := evBridgeParity d) (bridgeA_ne_power d) (failingGroups_lt (hgs ▸ List.mem_cons_self)) hr
      have hlen : gs.length = rest.length + 1 := congrArg List.length hgs
      have hhead : gs.headD 0 = g := congrArg (List.headD · 0) hgs
      refine ⟨(congrArg (fun x : Store (BitVec 384) => Store.get 0 x d) h1).trans he, fun h0 => absurd (hgs.symm.trans h0) nofun,
        fun _ => ⟨?_, fun hv => ?_, h4⟩⟩
      · rw [hlen]
        exact h2
      · rw [hhead]
        exact h3 hv
  · intro p hp hc ha hn lx hl hpos found arrives
    have wf : decide (p < 12) = true := decide_eq_true hp
    refine ⟨fun x hf => does_of wf ?_, fun hf => does_of wf ?_⟩
    · rw [show effect (.slotGroupDeliver p) s.hw = _ from execSlotGroupDeliver_due hx hc ha hn hl hpos,
        show (s.hw.port p).groupFor _ _ = some x from hf]
      dsimp only
      obtain ⟨h1, h2⟩ := groupIn_fields s.hw p x.bits
      exact slotTaken_fields hp hc ha hl hf h1 h2
    · rw [show effect (.slotGroupDeliver p) s.hw = _ from execSlotGroupDeliver_due hx hc ha hn hl hpos,
        show (s.hw.port p).groupFor _ _ = none from hf]
      dsimp only
      obtain ⟨h1, h2⟩ := groupIn_fields s.hw p 0
      exact slotMissing_fields h1 h2
  · intro d t sg hv hs hp hc hn v c
    refine ⟨fun hle => does_of rfl ?_, fun hlt => does_of rfl ?_⟩
    · rw [show effect .devCapture s.hw = _ from execDevCapture_due hx hv hs hp hc hn, if_neg (by omega)]
      exact captured_fields s.hw c
    · rw [show effect .devCapture s.hw = _ from execDevCapture_due hx hv hs hp hc hn, if_pos (by omega)]
      exact late_fields s.hw

end Sys2Proof.Machine
end

section
-- As the tests above: declarations in order, so that checking the one text stays within its memory.
set_option Elab.async false
/-!
PROOFS. The scrubber's write-back of a bundle entry (O40): the support mask of the entry is computed with it (R43).
-/

namespace Sys2Proof.Machine

/-- A slot at its clock 3 that has to write back a bundle entry of which only bit 1 is set. -/
def entryToFix : ScrubRead := ⟨3, 0, 0, false, none, 0, none, some 2⟩

/-- Refutes O40: in the state of defaults the write-back of an entry at clock 4 also stores the support mask of its table, 31, where none
was stored, as R43 has it; the clause names bundle entries and slots as all that changes. -/
theorem not_memoryUpkeep : ¬ Obligations.MemoryUpkeep := by
  intro h
  obtain ⟨-, -, -, -, -, hback, -⟩ := h ⟨[], {}⟩ 0 (by decide)
  obtain ⟨-, -, honly⟩ := hback entryToFix 2 (by decide) (by decide) rfl rfl rfl (by decide +kernel)
  exact absurd (congrArg Hw.support honly) (by decide +kernel)

end Sys2Proof.Machine
end

section
-- As the tests above: declarations in order, so that checking the one text stays within its memory.
set_option Elab.async false
/-!
PROOFS. The call ports as the design pulls from them (R331, R135), and a write of CALLS.CANCEL (R333).
-/

namespace Sys2Proof.Machine

theorem call_putCall_same (h : Hw) (j : Nat) (c : Option Call) : (h.putCall j c).call j = c := Store.get_set_same ..

theorem call_putCall_ne (h : Hw) {i j : Nat} (c : Option Call) (hi : i ≠ j) : (h.putCall j c).call i = h.call i :=
  Store.get_set_ne none none h.calls.slots c hi

theorem results_setResults_same (h : Hw) (p : Nat) (l : List Nat) : (h.setResults p l).results p = l := Store.get_set_same ..

theorem results_setResults_ne (h : Hw) {p k : Nat} (l : List Nat) (hp : p ≠ k) : (h.setResults k l).results p = h.results p :=
  Store.get_set_ne [] [] h.calls.results l hp

/-! ## Pulls -/

theorem callReceive_due {h : Hw} {d n t : Nat} {o : PortOp} {rest : List (Nat × PortOp)} (hc : h.seq.checked = false)
    (hu : h.portUsers d 2 n false = (t, o) :: rest) (hd : h.done.contains (.port d 2 n false) = false) :
    h.callReceive d n = (if o.op = 7 then h.callPull d n o
      else if h.waitGuarded d (0x80 + n) o.last then
        (if (h.headResult (32 * d + n)).isNone then h.deliverWord d 2 n 0
        else if o.last then (h.callPull d n o).noteTaken d (0x80 + n) else h.callPull d n o)
      else if (h.headResult (32 * d + n)).isNone then (h.callPull d n o).raisePoison (evWaitUnguarded d)
      else h.callPull d n o).markDone (.port d 2 n false) := by
  unfold Hw.callReceive
  rw [portOnce_due hu hd]
  dsimp only
  rw [hazard_unchecked hc]

/-- What a pull of the head result leaves. -/
structure PulledCall (d n : Nat) (o : PortOp) (j : Nat) (c : Call) (h g : Hw) : Prop where
  word : Store.get 0 g.portWords (portKey d 2 n) = c.result.extractLsb' (64 * o.word) 64
  kept : o.last = false → g.calls = h.calls
  taken : o.last = true → g.call j = none ∧ g.results (32 * d + n) = (h.results (32 * d + n)).tail ∧
    (∀ i, i ≠ j → g.call i = h.call i) ∧ (∀ p, p ≠ 32 * d + n → g.results p = h.results p) ∧
    g.calls = { h.calls with slots := g.calls.slots, results := g.calls.results }
  rest : g = { h with calls := g.calls, portWords := g.portWords }

theorem callPull_head {h : Hw} {d n j : Nat} {c : Call} (hr : h.headResult (32 * d + n) = some (j, c)) (o : PortOp) :
    PulledCall d n o j c h (h.callPull d n o) := by
  unfold Hw.callPull
  dsimp only
  rw [hr]
  dsimp only
  have hw : Store.get 0 (h.deliverWord d 2 n (c.result.extractLsb' (64 * o.word) 64)).portWords (portKey d 2 n) =
      c.result.extractLsb' (64 * o.word) 64 := Store.get_set_same ..
  have hb : h.deliverWord d 2 n (c.result.extractLsb' (64 * o.word) 64) =
    { h with portWords := (h.deliverWord d 2 n (c.result.extractLsb' (64 * o.word) 64)).portWords } := rfl
  generalize h.deliverWord d 2 n (c.result.extractLsb' (64 * o.word) 64) = g at hw hb
  have hcalls : g.calls = h.calls := by rw [hb]
  split <;> rename_i hl
  · refine ⟨hw, fun h0 => absurd (h0.symm.trans hl) (by decide), fun _ => ⟨call_putCall_same .., ?_, fun i hi => ?_, fun p hp => ?_, ?_⟩, ?_⟩
    · refine (results_setResults_same g (32 * d + n) _).trans ?_
      unfold Hw.results
      rw [hcalls]
    · refine (call_putCall_ne _ _ hi).trans ?_
      change Store.get none g.calls.slots i = _
      rw [hcalls]
      rfl
    · refine (results_setResults_ne g _ hp).trans ?_
      unfold Hw.results
      rw [hcalls]
    · rw [← hcalls]; rfl
    · rw [hb]; rfl
  · exact ⟨hw, fun _ => hcalls, fun h1 => absurd h1 hl, by rw [hb]⟩

theorem callPull_empty {h : Hw} {d n : Nat} (hr : h.headResult (32 * d + n) = none) (o : PortOp) :
    let g := h.callPull d n o
    Store.get 0 g.portWords (portKey d 2 n) = 0 ∧ g.calls = h.calls ∧ g.pstate = h.pstate ∧
      g.fget (callsA 0x20) 31 0 = min (2 ^ 32 - 1) (h.fget (callsA 0x20) 31 0 + 1) := by
  have ha : powerA 0 ≠ callsA 0x20 := by decide
  unfold Hw.callPull
  dsimp only
  rw [hr]
  dsimp only
  have hw : Store.get 0 (h.deliverWord d 2 n 0).portWords (portKey d 2 n) = 0 :=
    Store.get_set_same 0 h.portWords (portKey d 2 n) 0
  have hf : (h.deliverWord d 2 n 0).fget (callsA 0x20) 31 0 = h.fget (callsA 0x20) 31 0 := rfl
  have hp : (h.deliverWord d 2 n 0).reg (powerA 0) = h.reg (powerA 0) := rfl
  have hq : (h.deliverWord d 2 n 0).calls = h.calls := rfl
  generalize h.deliverWord d 2 n 0 = g at hw hf hp hq
  generalize callsA 0x20 = a at ha hf
  have hcount : (g.count a).fget a 31 0 = min (2 ^ 32 - 1) (h.fget a 31 0 + 1) := by
    rw [← hf]
    exact fget_bump_same g a 1 (by decide)
  have hps : (g.count a).pstate = h.pstate := congrArg (fld · 2 0) (((count_fields g a).choose_spec.2 _ ha).trans hp)
  have hkeep : ((g.count a).portWords = g.portWords) ∧ (g.count a).calls = g.calls := ⟨rfl, rfl⟩
  generalize g.count a = k at hcount hps hkeep
  obtain ⟨h1, h2⟩ := hkeep
  have done : ∀ m : Hw, m.portWords = k.portWords → m.calls = k.calls → m.regs = k.regs → m.stepping = k.stepping →
      Store.get 0 m.portWords (portKey d 2 n) = 0 ∧ m.calls = h.calls ∧ m.pstate = h.pstate ∧
        m.fget a 31 0 = min (2 ^ 32 - 1) (h.fget a 31 0 + 1) := fun m e1 e2 e3 e4 => by
    have hreg : ∀ b, m.reg b = k.reg b := fun b => by unfold Hw.reg; rw [e3, e4]
    exact ⟨by rw [e1, h1, hw], by rw [e2, h2, hq], (congrArg (fld · 2 0) (hreg _)).trans hps,
      (congrArg (fld · 31 0) (hreg _)).trans hcount⟩
  split
  · exact done _ rfl rfl rfl rfl
  · exact done _ rfl rfl rfl rfl

/-- A note of the wait set, which a pull makes after it (R129), changes the sequencer alone. -/
theorem noteTaken_kept (g : Hw) (b : Bool) (d q : Nat) :
    let m := if b then g.noteTaken d q else g
    m.calls = g.calls ∧ m.portWords = g.portWords ∧ m.regs = g.regs ∧
      m.seq.waitTaken = (if b then (d * 256 + q) :: g.seq.waitTaken else g.seq.waitTaken) := by
  cases b <;> exact ⟨rfl, rfl, rfl, rfl⟩

/-- The same pull on a state that agrees on the calls and the port words. -/
theorem PulledCall.pulled {d n j : Nat} {o : PortOp} {c : Call} {h g m : Hw} (p : PulledCall d n o j c h g)
    (hc : m.calls = g.calls) (hw : m.portWords = g.portWords) :
    Store.get 0 m.portWords (portKey d 2 n) = c.result.extractLsb' (64 * o.word) 64 ∧ (o.last = false → m.calls = h.calls) ∧
      (o.last = true → m.call j = none ∧ m.results (32 * d + n) = (h.results (32 * d + n)).tail ∧
        (∀ i, i ≠ j → m.call i = h.call i) ∧ (∀ k, k ≠ 32 * d + n → m.results k = h.results k) ∧
        m.calls = { h.calls with slots := m.calls.slots, results := m.calls.results }) := by
  unfold Hw.call Hw.results
  rw [hc, hw]
  exact ⟨p.word, p.kept, p.taken⟩

theorem unguardedCall_fields {h : Hw} {d n : Nat} (hr : h.headResult (32 * d + n) = none) (o : PortOp) (t : OpTag) :
    let g := ((h.callPull d n o).raisePoison (evWaitUnguarded d)).markDone t
    Store.get 0 g.portWords (portKey d 2 n) = 0 ∧ g.calls = h.calls ∧ OnPath (evWaitUnguarded d) h g := by
  obtain ⟨hw, hq, hp, _⟩ := callPull_empty hr o
  generalize h.callPull d n o = m at hw hq hp
  have hs := signals_raisePoison m (evWaitUnguarded d) 0
  have hon := onPath_raisePoison (h := h) (m := m) (evWaitUnguarded d) 0 hp
  generalize m.raisePoison (evWaitUnguarded d) = k at hs hon
  have hkw : k.portWords = m.portWords := by rw [hs.rest]
  have hkq : k.calls = m.calls := by rw [hs.rest]
  exact ⟨(congrArg (fun w => Store.get 0 w (portKey d 2 n)) hkw).trans hw, hkq.trans hq, hon.marked t⟩

theorem execCallPull_due {h : Hw} {d n t : Nat} {o : PortOp} {rest : List (Nat × PortOp)} (hc : h.seq.checked = false)
    (hu : h.portUsers d 2 n false = (t, o) :: rest) (hd : h.done.contains (.port d 2 n false) = false) (hop : o.op = 7) :
    execCallPull h d n = (h.callPull d n o).markDone (.port d 2 n false) := by
  unfold execCallPull
  rw [recvOp_first hu, hop, if_pos rfl, callReceive_due hc hu hd, if_pos hop]

/-- A wait pull: guarded with a head, guarded without one, and unguarded without one. -/
theorem execCallWaitPull_due {h : Hw} {d n t : Nat} {o : PortOp} {rest : List (Nat × PortOp)} (hc : h.seq.checked = false)
    (hu : h.portUsers d 2 n false = (t, o) :: rest) (hd : h.done.contains (.port d 2 n false) = false) (hop : o.op = 8) :
    execCallWaitPull h d n = (if h.waitGuarded d (0x80 + n) o.last then
        (if (h.headResult (32 * d + n)).isNone then h.deliverWord d 2 n 0
        else if o.last then (h.callPull d n o).noteTaken d (0x80 + n) else h.callPull d n o)
      else if (h.headResult (32 * d + n)).isNone then (h.callPull d n o).raisePoison (evWaitUnguarded d)
      else h.callPull d n o).markDone (.port d 2 n false) := by
  unfold execCallWaitPull
  rw [recvOp_first hu, hop, if_pos rfl, callReceive_due hc hu hd, if_neg (by rw [hop]; decide)]

/-! ## Cancellation -/

theorem execCancelWrite_eq (h : Hw) (v : Word32) : execCancelWrite h v = h.cancelCall (fld v 11 0) (fld v 15 12) := rfl

/-- Settles O45: pulls by what a plain pull of a head or of none leaves, the cancel write by what the cancellation of a call leaves. -/
theorem callPullsAndCancel : Obligations.CallPullsAndCancel := by
  intro s
  refine ⟨fun d n t o rest hd hn hc hw hu hdn => ?_, fun v hs hn => ?_⟩
  · intro k word pulled
    have wf : (decide (d < 2) && decide (n < 32)) = true := by simp [hd, hn]
    refine ⟨fun hop => ⟨fun j c hr => does_of wf ?_, fun hr => does_of wf ?_⟩,
      fun hop => ⟨fun j c hg hr => does_of wf ?_, fun hg hr => does_of wf ?_, fun hg hr => does_of wf ?_⟩⟩
    · rw [show effect (.callPull d n) s.hw = _ from execCallPull_due hc hu hdn hop]
      have hp := callPull_head hr o
      generalize s.hw.callPull d n o = g at hp
      exact ⟨⟨hp.word, hp.kept, hp.taken⟩, by rw [hp.rest]; rfl⟩
    · rw [show effect (.callPull d n) s.hw = _ from execCallPull_due hc hu hdn hop]
      obtain ⟨h1, h2, -, h3⟩ := callPull_empty hr o
      generalize s.hw.callPull d n o = g at h1 h2 h3
      exact ⟨h1, h2, h3⟩
    · rw [show effect (.callWaitPull d n) s.hw = _ from execCallWaitPull_due hc hu hdn hop, if_pos hg,
        if_neg (by rw [hr]; exact Bool.false_ne_true)]
      have hp := callPull_head hr o
      generalize s.hw.callPull d n o = g at hp
      obtain ⟨hk, hw', hregs, ht⟩ := noteTaken_kept g o.last d (0x80 + n)
      generalize (if o.last then g.noteTaken d (0x80 + n) else g) = m at hk hw' hregs ht
      have hseq : g.seq = s.hw.seq := by rw [hp.rest]
      have hg' : g.regs = s.hw.regs := by rw [hp.rest]
      exact ⟨hp.pulled (m := m.markDone _) hk hw', hregs.trans hg', by rw [← hseq]; exact ht⟩
    · rw [show effect (.callWaitPull d n) s.hw = _ from execCallWaitPull_due hc hu hdn hop, if_pos hg,
        if_pos (by rw [hr]; rfl)]
      exact ⟨Store.get_set_same 0 s.hw.portWords (portKey d 2 n) 0, rfl⟩
    · rw [show effect (.callWaitPull d n) s.hw = _ from execCallWaitPull_due hc hu hdn hop, if_neg (by rw [hg]; decide),
        if_pos (by rw [hr]; rfl)]
      exact unguardedCall_fields hr o _
  · intro k
    refine ⟨fun c hc ha hr hg hf => does_of rfl ?_, fun hno => does_of rfl ?_⟩
    · rw [show effect (.cancelWrite v) s.hw = _ from execCancelWrite_eq s.hw v]
      exact cancelCall_gone hc ha hr hg hn hf
    · rw [show effect (.cancelWrite v) s.hw = _ from execCancelWrite_eq s.hw v, cancelCall_none hno]
      exact ⟨reg_setReg_same .., onlyRegs_setReg ..⟩

end Sys2Proof.Machine
end

section
-- As the tests above: declarations in order, so that checking the one text stays within its memory.
set_option Elab.async false
/-!
PROOFS. Calls are raised, stored, released and assigned (R314 to R320).
-/

namespace Sys2Proof.Machine

/-! ## Entries of a store with rising keys -/

section
variable {α : Type}

theorem Store.get_none_of_above {m : Store (Option α)} {a : Nat} (h : Store.above a m = true) : Store.get none m a = none := by
  induction m with
  | nil => rfl
  | cons kv m ih =>
    obtain ⟨k, v⟩ := kv
    simp only [Store.above, List.all_cons, Bool.and_eq_true, decide_eq_true_eq] at h
    rw [Store.get, if_neg (Nat.ne_of_lt h.1)]
    exact ih h.2

theorem Store.get_of_mem {m : Store (Option α)} (hr : Store.rising m = true) {a : Nat} {v : Option α} (hm : (a, v) ∈ m) :
    Store.get none m a = v := by
  induction m with
  | nil => cases hm
  | cons kv m ih =>
    obtain ⟨k, w⟩ := kv
    rw [Store.rising_cons, Bool.and_eq_true] at hr
    rcases List.mem_cons.1 hm with he | hm
    · cases he
      rw [Store.get, if_pos rfl]
    · have hlt : k < a := by
        have := hr.1
        simp only [Store.above, List.all_eq_true, decide_eq_true_eq] at this
        exact this _ hm
      rw [Store.get, if_neg (Nat.ne_of_gt hlt)]
      exact ih hr.2 hm

theorem Store.mem_of_get {m : Store (Option α)} {a : Nat} {v : α} (h : Store.get none m a = some v) : (a, some v) ∈ m := by
  induction m with
  | nil => cases h
  | cons kv m ih =>
    obtain ⟨k, w⟩ := kv
    rw [Store.get] at h
    split at h <;> rename_i he
    · subst he h
      exact List.mem_cons_self
    · exact List.mem_cons_of_mem _ (ih h)

theorem Store.rising_set [DecidableEq α] {m : Store α} (d : α) (a : Nat) (v : α) (hr : Store.rising m = true) :
    Store.rising (Store.set d m a v) = true := by
  unfold Store.set
  split
  · exact Store.rising_erase hr
  · exact Store.rising_put hr

theorem Store.rising_map {m : Store α} (f : α → α) (hr : Store.rising m = true) :
    Store.rising (m.map fun kv => (kv.1, f kv.2)) = true := by
  induction m with
  | nil => rfl
  | cons kv m ih =>
    obtain ⟨k, v⟩ := kv
    rw [Store.rising_cons, Bool.and_eq_true] at hr
    rw [List.map_cons, Store.rising_cons, Bool.and_eq_true]
    refine ⟨?_, ih hr.2⟩
    have := hr.1
    simp only [Store.above, List.all_map] at this ⊢
    exact this

theorem Store.get_map_none {m : Store (Option α)} (f : α → α) (a : Nat) :
    Store.get none (m.map fun kv => (kv.1, kv.2.map f)) a = (Store.get none m a).map f := by
  induction m with
  | nil => rfl
  | cons kv m ih =>
    obtain ⟨k, v⟩ := kv
    rw [List.map_cons, Store.get, Store.get]
    split
    · rfl
    · exact ih

/-- A new entry that a selection passes over leaves what it selects. -/
theorem Store.filterMap_put {β : Type} {m : Store α} (f : Nat × α → Option β) {a : Nat} {v : α} (hv : f (a, v) = none)
    (hm : ∀ w, (a, w) ∈ m → f (a, w) = none) : (Store.put m a v).filterMap f = m.filterMap f := by
  induction m with
  | nil => simp [Store.put, hv]
  | cons kv m ih =>
    obtain ⟨k, w⟩ := kv
    have ih := ih fun w hw => hm w (List.mem_cons_of_mem _ hw)
    unfold Store.put
    split
    · next he =>
      subst he
      rw [List.filterMap_cons_none hv, List.filterMap_cons_none (hm w List.mem_cons_self)]
    · split
      · rw [List.filterMap_cons_none hv]
      · cases hk : f (k, w) with
        | none => rw [List.filterMap_cons_none hk, List.filterMap_cons_none hk, ih]
        | some b => rw [List.filterMap_cons_some hk, List.filterMap_cons_some hk, ih]

end

/-! ## The calls of a state -/

/-- Slots in their order, as the memory keeps them. -/
abbrev SlotsRise (h : Hw) : Prop := Store.rising h.calls.slots = true

theorem call_of_mem {h : Hw} (hr : SlotsRise h) {x : Nat × Call} (hx : x ∈ h.callList) : h.call x.1 = some x.2 :=
  Store.get_of_mem hr (mem_callList.1 hx)

theorem mem_of_call {h : Hw} {k : Nat} {c : Call} (hc : h.call k = some c) : (k, c) ∈ h.callList :=
  mem_callList.2 (Store.mem_of_get hc)

/-- No released call waits with its dependence counter at 0, read slot by slot. -/
theorem noneReady_of_call {h : Hw} (hr : SlotsRise h) (hn : ∀ k c, h.call k = some c → c.state = .waiting → c.deps ≠ []) :
    NoneReady h := fun x hx => hn x.1 x.2 (call_of_mem hr hx)

theorem slotsRise_putCall {h : Hw} (hr : SlotsRise h) (k : Nat) (c : Option Call) : SlotsRise (h.putCall k c) :=
  Store.rising_set none k c hr

theorem call_dropDeps (h : Hw) (k : Nat) (a b : Bool) (i : Nat) : (h.dropDeps k a b).call i = (h.call i).map (dropDep k a b) :=
  Store.get_map_none (m := h.calls.slots) (dropDep k a b) i

theorem slotsRise_dropDeps {h : Hw} (hr : SlotsRise h) (k : Nat) (a b : Bool) : SlotsRise (h.dropDeps k a b) :=
  Store.rising_map (Option.map (dropDep k a b)) hr

theorem dropDep_of_noDeps {c : Call} (hc : c.deps = []) (k : Nat) (a b : Bool) : dropDep k a b c = c := by
  rw [dropDep, if_neg (by rw [hc]; exact Bool.false_ne_true)]

/-! ## The first of a list in an order -/

theorem firstBy_mem {α : Type} {lt : α → α → Bool} {l : List α} {x : α} (h : firstBy lt l = some x) : x ∈ l := by
  induction l generalizing x with
  | nil => cases h
  | cons y l ih =>
    rw [firstBy] at h
    split at h
    · next z hz =>
      split at h
      · cases h; exact List.mem_cons_of_mem _ (ih hz)
      · cases h; exact List.mem_cons_self
    · cases h; exact List.mem_cons_self

theorem firstBy_ne_none {α : Type} {lt : α → α → Bool} {l : List α} {x : α} (hx : x ∈ l) : firstBy lt l ≠ none := by
  cases l with
  | nil => cases hx
  | cons y l =>
    rw [firstBy]
    split
    · split <;> simp
    · simp

/-- The only one is the first. -/
theorem firstBy_only {α : Type} {lt : α → α → Bool} {l : List α} {x : α} (hx : x ∈ l) (ho : ∀ y ∈ l, y = x) :
    firstBy lt l = some x := by
  cases h : firstBy lt l with
  | none => exact absurd h (firstBy_ne_none hx)
  | some y => rw [ho y (firstBy_mem h)]

/-- With one call to be assigned, settling begins with it. -/
theorem settle_one {h : Hw} (hr : SlotsRise h) {k : Nat} {c : Call} (hk : h.call k = some c) (hw : c.state = .waiting)
    (hd : c.deps = []) (ho : ∀ i c', i ≠ k → h.call i = some c' → c'.state = .waiting → c'.deps ≠ []) (n : Nat) :
    h.settle (n + 1) = (h.assign k c).settle n := by
  have hmem : ∀ x : Nat × Call, x ∈ (h.callList.filter fun sc => sc.2.state == .waiting && sc.2.deps.isEmpty) ↔
      x ∈ h.callList ∧ x.2.state = .waiting ∧ x.2.deps = [] := fun x => by
    rw [List.mem_filter, Bool.and_eq_true, beq_iff_eq, List.isEmpty_iff]
  have hf : firstBy (fun a b : Nat × Call => a.2.before b.2)
      (h.callList.filter fun sc => sc.2.state == .waiting && sc.2.deps.isEmpty) = some (k, c) := by
    refine firstBy_only ((hmem _).2 ⟨mem_of_call hk, hw, hd⟩) fun y hy => ?_
    obtain ⟨hy, hyw, hyd⟩ := (hmem y).1 hy
    have hcall := call_of_mem hr hy
    by_cases he : y.1 = k
    · rw [he, hk] at hcall
      exact Prod.ext he (Option.some.inj hcall).symm
    · exact absurd hyd (ho _ _ he hcall hyw)
  rw [Hw.settle, hf]

/-! ## The worker that is chosen -/

theorem chooseWorker_lt {h : Hw} {cls w : Nat} (hw : h.chooseWorker cls = some w) : w < 33 := by
  have hel : ∀ v ∈ h.eligible cls, v < 33 := fun v hv => List.mem_range.1 (List.mem_filter.1 hv).1
  unfold Hw.chooseWorker at hw
  dsimp only at hw
  split at hw <;> rename_i hl
  · cases hw
    rw [Bool.and_eq_true, List.contains_iff_mem] at hl
    exact hel _ hl.1
  · exact hel _ (firstBy_mem hw)

/-- The choice reads CLASSES, the workers' enables, READY_LIMIT, the ready lists and how many calls each worker runs. -/
theorem chooseWorker_congr {h g : Hw} (hreg : ∀ a, a = callsA 0 ∨ callsA 0x800 ≤ a → g.reg a = h.reg a)
    (hready : g.calls.ready = h.calls.ready) (hrun : ∀ w, (g.runningOn w).length = (h.runningOn w).length) (cls : Nat) :
    g.chooseWorker cls = h.chooseWorker cls := by
  have hlist : ∀ w, g.readyList w = h.readyList w := fun w => by unfold Hw.readyList; rw [hready]
  have hload : ∀ w, g.load w = h.load w := fun w => by unfold Hw.load; rw [hlist, hrun]
  have hb : ∀ a n, callsA 0x800 ≤ a → g.bget a n = h.bget a n := fun a n ha => by unfold Hw.bget; rw [hreg a (Or.inr ha)]
  have hel : g.eligible cls = h.eligible cls := by
    unfold Hw.eligible
    refine List.filter_congr fun w _ => ?_
    rw [hb (callsA (0x804 + 8 * cls)) _ (by unfold callsA; omega), hb (callsA (0x800 + 8 * cls)) _ (by unfold callsA; omega),
      hb (callsA (0x1000 + 64 * w)) _ (by unfold callsA; omega)]
  unfold Hw.chooseWorker
  rw [hel]
  dsimp only
  rw [Hw.fget, Hw.fget, hreg (callsA 0) (Or.inl rfl), hreg (callsA (0x804 + 8 * cls)) (Or.inr (by unfold callsA; omega))]
  simp only [hlist, hload]
  rfl

/-- Which calls run on a worker, read off the slots. -/
theorem runningOn_eq (h : Hw) (w : Nat) : h.runningOn w = h.calls.slots.filterMap fun kv =>
    (kv.2.map fun c => (kv.1, c)).filter fun sc => sc.2.state == .running w := by
  unfold Hw.runningOn Hw.callList
  rw [List.filter_filterMap]

/-- A stored call that does not run runs on no worker. -/
theorem runningOn_putCall {h : Hw} (hr : SlotsRise h) {k : Nat} {c : Call} (hk : h.call k = none) {w : Nat} (hc : c.state ≠ .running w) :
    (h.putCall k (some c)).runningOn w = h.runningOn w := by
  rw [runningOn_eq, runningOn_eq]
  refine Store.filterMap_put (m := h.calls.slots) _ ?_ fun v hv => ?_
  · simp [Option.filter, hc]
  · rw [show v = none from (Store.get_of_mem hr hv).symm.trans hk]
    rfl

/-! ## Assignment (R319, R320) -/

/-- What an assignment to worker w leaves. -/
structure Assigned (k : Nat) (c : Call) (w : Nat) (h g : Hw) : Prop where
  call : g.call k = some { c with state := .ready w, worker := w }
  others : ∀ j, j ≠ k → g.call j = h.call j
  list : g.readyList w = h.readyList w ++ [k]
  lists : ∀ v, v ≠ w → g.readyList v = h.readyList v
  last : g.fget (callsA (0x804 + 8 * c.cls)) 6 1 = w
  regs : ∀ a, a < callsA 0x800 → g.reg a = h.reg a
  rise : SlotsRise h → SlotsRise g
  rest : g = { h with regs := g.regs, calls := { h.calls with slots := g.calls.slots, ready := g.calls.ready } }

theorem assign_worker {h : Hw} {c : Call} {w : Nat} (hw : h.chooseWorker c.cls = some w) (k : Nat) :
    Assigned k c w h (h.assign k c) := by
  have hlt := chooseWorker_lt hw
  have he : h.assign k c = ((h.putCall k (some { c with state := .ready w, worker := w })).setReady w
      (h.readyList w ++ [k])).fset (callsA (0x804 + 8 * c.cls)) 6 1 w := by
    unfold Hw.assign
    rw [hw]
    rfl
  rw [he]
  exact {
    call := Store.get_set_same none h.calls.slots k (some { c with state := .ready w, worker := w })
    others := fun j hj => Store.get_set_ne none none h.calls.slots (some { c with state := .ready w, worker := w }) hj
    list := Store.get_set_same [] h.calls.ready w _
    lists := fun v hv => Store.get_set_ne [] [] h.calls.ready _ hv
    last := (fget_fset_same _ _ 6 1 w (by decide)).trans (Nat.mod_eq_of_lt (by omega))
    regs := fun a ha => (reg_fset ..).trans (if_neg (by unfold callsA at ha ⊢; omega))
    rise := fun hr => (slotsRise_putCall hr k (some { c with state := .ready w, worker := w }) :)
    rest := rfl }

theorem Assigned.noneReady {k : Nat} {c : Call} {w : Nat} {h g : Hw} (a : Assigned k c w h g) (hr : SlotsRise h)
    (ho : ∀ i c', i ≠ k → h.call i = some c' → c'.state = .waiting → c'.deps ≠ []) : NoneReady g := by
  refine noneReady_of_call (a.rise hr) fun i c' hi hst => ?_
  by_cases he : i = k
  · rw [he, a.call] at hi
    cases hi
    exact absurd hst (by simp)
  · exact ho i c' he ((a.others i he).symm.trans hi) hst

/-- The one call to be assigned goes to its worker, and nothing follows. -/
theorem settleCalls_assigned {h : Hw} (hr : SlotsRise h) {k : Nat} {c : Call} {w : Nat} (hk : h.call k = some c)
    (hst : c.state = .waiting) (hd : c.deps = []) (ho : ∀ i c', i ≠ k → h.call i = some c' → c'.state = .waiting → c'.deps ≠ [])
    (hw : h.chooseWorker c.cls = some w) : Assigned k c w h h.settleCalls := by
  have a := assign_worker hw k
  rw [Hw.settleCalls, settle_one hr hk hst hd ho, settle_of_noneReady (a.noneReady hr ho)]
  exact a

/-! ## What settling never touches -/

/-- Slot k and the events on their way stay. -/
structure KeepsCall (k : Nat) (h g : Hw) : Prop where
  call : g.call k = h.call k
  path : ∀ e ∈ h.fault.path, e ∈ g.fault.path
  rise : SlotsRise h → SlotsRise g

theorem KeepsCall.trans {k : Nat} {h g m : Hw} (a : KeepsCall k h g) (b : KeepsCall k g m) : KeepsCall k h m :=
  ⟨b.call.trans a.call, fun e he => b.path e (a.path e he), fun hr => b.rise (a.rise hr)⟩

/-- A call that is complete, and waits for no other. -/
def Untouched (h : Hw) (k : Nat) : Prop := ∀ c, h.call k = some c → c.state ≠ .waiting ∧ c.deps = []

theorem completeCall_eq (h : Hw) (j : Nat) (c : Call) (failed : Bool) (v : BitVec 256) :
    h.completeCall j c failed v = (((if failed then h.count (callsA 0x2C) else h).callEvent 2 (if failed then 1 else 0) j c).putCall j
      (if c.resultEn then some { c with state := .held, status := if failed then 1 else 0, result := v } else none)).dropDeps
        j failed false := rfl

/-- A completion before other calls drop the completed one: only a register and the trace change beside the slot. -/
theorem counted_callEvent (h : Hw) (j : Nat) (c : Call) (failed : Bool) : ∃ r t,
    (if failed then h.count (callsA 0x2C) else h).callEvent 2 (if failed then 1 else 0) j c = { h with regs := r, trace := t } := by
  rw [callEvent_only]
  cases failed
  · exact ⟨_, _, rfl⟩
  · exact ⟨_, _, rfl⟩

theorem keepsCall_completeCall {h : Hw} {k j : Nat} (hu : Untouched h k) (hj : j ≠ k) (c : Call) (failed : Bool) (v : BitVec 256) :
    KeepsCall k h (h.completeCall j c failed v) := by
  obtain ⟨r, t, e⟩ := counted_callEvent h j c failed
  rw [completeCall_eq, e]
  refine ⟨?_, fun _ he => he, fun hr => slotsRise_dropDeps (slotsRise_putCall (h := { h with regs := r, trace := t }) hr _ _) _ _ _⟩
  rw [call_dropDeps, call_putCall_ne _ _ (Ne.symm hj)]
  change (h.call k).map _ = _
  cases hk : h.call k with
  | none => rfl
  | some c' => rw [Option.map_some, dropDep_of_noDeps (hu c' hk).2]

theorem keepsCall_raise (h : Hw) (k a id : Nat) : KeepsCall k h ((h.count a).raise id) :=
  ⟨rfl, fun e he => (signals_raiseWith (h.count a) id 0 false).path e he, fun hr => hr⟩

theorem keepsCall_assign {h : Hw} {k j : Nat} (hu : Untouched h k) (hj : j ≠ k) (c : Call) : KeepsCall k h (h.assign j c) := by
  cases hw : h.chooseWorker c.cls with
  | some w =>
    have a := assign_worker hw j
    exact ⟨a.others k (Ne.symm hj), fun e he => by rw [a.rest]; exact he, a.rise⟩
  | none =>
    have he : h.assign j c = ((h.count (callsA 0x1C)).raise evCallNoWorker).completeCall j c true 0 := by
      unfold Hw.assign
      rw [hw]
    have h1 := keepsCall_raise h k (callsA 0x1C) evCallNoWorker
    rw [he]
    exact h1.trans (keepsCall_completeCall (fun c' hc' => hu c' (h1.call.symm.trans hc')) hj c true 0)

theorem keepsCall_settle {k : Nat} (n : Nat) : ∀ {h : Hw}, SlotsRise h → Untouched h k → KeepsCall k h (h.settle n) := by
  induction n with
  | zero => exact fun _ _ => ⟨rfl, fun _ he => he, id⟩
  | succ n ih =>
    intro h hr hu
    rw [Hw.settle]
    split
    · next j c hf =>
      obtain ⟨hm, hc⟩ := List.mem_filter.1 (firstBy_mem hf)
      rw [Bool.and_eq_true, beq_iff_eq] at hc
      have hj : j ≠ k := fun he => (hu c (he ▸ call_of_mem hr hm)).1 hc.1
      have ha := keepsCall_assign hu hj c
      exact ha.trans (ih (ha.rise hr) fun c' hc' => hu c' (ha.call.symm.trans hc'))
    · exact ⟨rfl, fun _ he => he, id⟩

/-- Without an eligible worker the one call to be assigned ends FAILED, whatever its end lets others do. -/
theorem settleCalls_failed {h : Hw} (hr : SlotsRise h) {k : Nat} {c : Call} (hk : h.call k = some c)
    (hst : c.state = .waiting) (hd : c.deps = []) (ho : ∀ i c', i ≠ k → h.call i = some c' → c'.state = .waiting → c'.deps ≠ [])
    (hw : h.chooseWorker c.cls = none) :
    h.settleCalls.call k = (if c.resultEn then some { c with state := .held, status := 1, result := 0 } else none) ∧
      OnPath evCallNoWorker h h.settleCalls := by
  have he : h.assign k c = ((h.count (callsA 0x1C)).raise evCallNoWorker).completeCall k c true 0 := by
    unfold Hw.assign
    rw [hw]
  have hon : OnPath evCallNoWorker h ((h.count (callsA 0x1C)).raise evCallNoWorker) :=
    onPath_raised (h := h) (m := h.count (callsA 0x1C)) (congrArg (fld · 2 0) ((reg_fset ..).trans (if_neg (by decide)))) (Signals.refl _)
  have hr1 : SlotsRise ((h.count (callsA 0x1C)).raise evCallNoWorker) := hr
  rw [Hw.settleCalls, settle_one hr hk hst hd ho, he]
  generalize (h.count (callsA 0x1C)).raise evCallNoWorker = m at hon hr1
  obtain ⟨r, t, e⟩ := counted_callEvent m k c true
  have hcall : (m.completeCall k c true 0).call k =
      (if c.resultEn then some { c with state := .held, status := 1, result := 0 } else none) := by
    rw [completeCall_eq, call_dropDeps, call_putCall_same]
    split
    · exact congrArg some (dropDep_of_noDeps (c := { c with state := .held, status := 1, result := 0 }) hd _ _ _)
    · rfl
  have hpath : (m.completeCall k c true 0).fault = m.fault := by rw [completeCall_eq, e]; rfl
  have hrise : SlotsRise (m.completeCall k c true 0) := by
    rw [completeCall_eq, e]
    exact slotsRise_dropDeps (slotsRise_putCall (h := { m with regs := r, trace := t }) hr1 _ _) _ _ _
  generalize m.completeCall k c true 0 = n at hcall hpath hrise
  have hkeep : KeepsCall k n (n.settle 4095) := keepsCall_settle _ hrise fun c' hc' => by
    rw [hcall] at hc'
    split at hc'
    · cases hc'; exact ⟨by simp, hd⟩
    · cases hc'
  refine ⟨hkeep.call.trans hcall, fun hp => ?_⟩
  obtain ⟨ev, hm, hid⟩ := hon hp
  exact ⟨ev, hkeep.path ev (hpath ▸ hm), hid⟩

/-! ## Raises (R314 to R317) -/

/-- The call that a raise stores in slot k. -/
def Hw.raisedCall (h : Hw) (r : Raise) (k : Nat) : Call where
  gen := (Store.get 0 h.calls.gens k + 1) % 16
  port := r.port
  cls := fld r.cfg 8 1
  flow := fld r.cfg 14 9
  inFlow := bit r.cfg 15
  resultEn := bit r.cfg 24
  args := r.args
  frame := r.frame
  pos := r.pos
  release := r.frame.toNat + fld r.cfg 23 16
  deps := h.predecessors r.port r.mask
  depFail := false
  depCancel := false
  state := if fld r.cfg 23 16 = 0 then .waiting else .delayed
  status := 0
  worker := 63
  result := 0

/-- A state with the raise's call stored, before calls that are ready are assigned. -/
structure Stored (r : Raise) (k : Nat) (c : Call) (h g : Hw) : Prop where
  call : g.call k = some c
  others : ∀ j, j ≠ k → g.call j = h.call j
  gen : Store.get 0 g.calls.gens k = c.gen
  raises : g.calls.raises = h.calls.raises.erase r
  ready : g.calls.ready = h.calls.ready
  count : g.fget (callsA 0x10) 31 0 = min (2 ^ 32 - 1) (h.fget (callsA 0x10) 31 0 + 1)
  regs : ∀ a, a ≠ callsA 0x10 → g.reg a = h.reg a
  running : ∀ w, g.runningOn w = h.runningOn w
  rise : SlotsRise g
  rest : g = { h with regs := g.regs, calls := g.calls, trace := g.trace }

/-- The state with a raise taken away and its call stored. -/
def Hw.withRaised (h : Hw) (r : Raise) (k : Nat) : Hw :=
  let c := h.raisedCall r k
  let m := (({ h with calls := { h.calls with raises := h.calls.raises.erase r } } : Hw).count (callsA 0x10)).putCall k (some c)
  ({ m with calls := { m.calls with gens := Store.set 0 m.calls.gens k c.gen } } : Hw).offer 2
    (callPacket (r.frame.toNat % 65536) 0 0 63 r.port c.gen k r.pos)

theorem stored_withRaised {h : Hw} (hr : SlotsRise h) (r : Raise) {k : Nat} (hk : h.call k = none) :
    Stored r k (h.raisedCall r k) h (h.withRaised r k) := by
  unfold Hw.withRaised
  dsimp only
  rw [offer_only]
  generalize (Hw.offer _ 2 _).trace = t
  have hne : ∀ w, (h.raisedCall r k).state ≠ .running w := fun w => by
    unfold Hw.raisedCall
    dsimp only
    split <;> simp
  generalize h.raisedCall r k = c at hne
  exact {
    call := Store.get_set_same none h.calls.slots k (some c)
    others := fun j hj => Store.get_set_ne none none h.calls.slots (some c) hj
    gen := Store.get_set_same 0 h.calls.gens k c.gen
    raises := rfl
    ready := rfl
    count := fget_bump_same h (callsA 0x10) 1 (by decide)
    regs := fun a ha => (reg_fset h ..).trans (if_neg ha)
    running := fun w => runningOn_putCall hr hk (hne w)
    rise := (slotsRise_putCall hr k (some c) :)
    rest := rfl }

theorem execCallRaise_off {h : Hw} {r : Raise} (hf : firstBy Raise.before h.calls.raises = some r) (ho : bit r.cfg 0 = false) :
    execCallRaise h = ({ h with calls := { h.calls with raises := h.calls.raises.erase r } } : Hw).discardRaise 0x18 evCallPortOff := by
  unfold execCallRaise
  rw [hf]
  dsimp only
  rw [ho]
  rfl

theorem execCallRaise_stores {h : Hw} {r : Raise} {k : Nat} (hf : firstBy Raise.before h.calls.raises = some r)
    (ho : bit r.cfg 0 = true) (hk : h.freeSlot = some k)
    (hd : fld r.cfg 23 16 = 0 ∨ (h.callList.filter fun x => x.2.state == .delayed).length < 1024) :
    execCallRaise h = (h.withRaised r k).settleCalls := by
  have hfull : ((fld r.cfg 23 16 != 0) && decide ((h.callList.filter fun sc => sc.2.state == .delayed).length ≥ 1024)) = false := by
    rcases hd with hd | hd
    · simp [hd]
    · simp [hd]
  unfold execCallRaise
  rw [hf]
  dsimp only
  rw [ho]
  rw [if_neg (by decide)]
  rw [show ({ h with calls := { h.calls with raises := h.calls.raises.erase r } } : Hw).freeSlot = some k from hk]
  dsimp only
  rw [show ({ h with calls := { h.calls with raises := h.calls.raises.erase r } } : Hw).callList = h.callList from rfl, hfull]
  rfl

theorem call_freeSlot {h : Hw} {k : Nat} (hk : h.freeSlot = some k) : h.call k = none :=
  Option.isNone_iff_eq_none.1 (List.find?_some hk :)

/-! ## Release (R318) -/

/-- A delayed call whose release frame has begun, released. -/
def Call.freed (now : Nat) (c : Call) : Call :=
  if c.state == .delayed && decide (c.release ≤ now) then { c with state := .waiting } else c

/-- The state with every such call released. -/
def Hw.released318 (h : Hw) : Hw :=
  { h with calls := { h.calls with slots := h.calls.slots.map fun kv => (kv.1, kv.2.map (Call.freed h.seq.frame.toNat)) } }

theorem execCallRelease_eq (h : Hw) : execCallRelease h = h.released318.settleCalls := rfl

theorem freed_due {c : Call} {now : Nat} (hd : c.state = .delayed ∧ c.release ≤ now) : c.freed now = { c with state := .waiting } := by
  unfold Call.freed
  rw [if_pos (by simp [hd.1, hd.2])]

theorem freed_notDue {c : Call} {now : Nat} (hd : ¬(c.state = .delayed ∧ c.release ≤ now)) : c.freed now = c := by
  unfold Call.freed
  rw [if_neg (by simpa using hd)]

theorem call_released (h : Hw) (k : Nat) : h.released318.call k = (h.call k).map (Call.freed h.seq.frame.toNat) :=
  Store.get_map_none (m := h.calls.slots) (Call.freed h.seq.frame.toNat) k

theorem slotsRise_released {h : Hw} (hr : SlotsRise h) : SlotsRise h.released318 :=
  Store.rising_map (Option.map (Call.freed h.seq.frame.toNat)) hr

theorem runningOn_released (h : Hw) (w : Nat) : h.released318.runningOn w = h.runningOn w := by
  rw [runningOn_eq, runningOn_eq]
  unfold Hw.released318
  dsimp only
  rw [List.filterMap_map]
  refine congrArg (List.filterMap · _) (funext fun kv => ?_)
  obtain ⟨k, o⟩ := kv
  cases o with
  | none => rfl
  | some c =>
    by_cases hd : c.state = .delayed ∧ c.release ≤ h.seq.frame.toNat
    · simp [freed_due hd, hd.1, Option.filter]
    · simp [freed_notDue hd]

/-- A released state in which the calls of other slots than k are as they must be. -/
theorem released_waits {h : Hw} (hn : NoneReady h) {i : Nat} {c' : Call} (hi : h.released318.call i = some c')
    (hst : c'.state = .waiting) (hdue : ∀ c, h.call i = some c → c.state = .delayed ∧ c.release ≤ h.seq.frame.toNat → c.deps ≠ []) :
    c'.deps ≠ [] := by
  rw [call_released] at hi
  cases hc : h.call i with
  | none => rw [hc] at hi; cases hi
  | some c =>
    rw [hc, Option.map_some] at hi
    cases hi
    by_cases hd : c.state = .delayed ∧ c.release ≤ h.seq.frame.toNat
    · rw [freed_due hd]; exact hdue c hc hd
    · rw [freed_notDue hd] at hst ⊢
      exact hn (i, c) (mem_of_call hc) hst

/-- Settles O43: a raise is its discard or its stored call, which settling leaves, assigns or ends; a release is the released state,
settled. -/
theorem callRaiseAndRelease : Obligations.CallRaiseAndRelease := by
  intro s hr hn assigned
  refine ⟨fun r hf => ⟨fun hoff => does_of rfl ?_, ?_⟩, ?_⟩
  · rw [show effect .callRaise s.hw = _ from execCallRaise_off hf hoff]
    have hm : ({ s.hw with calls := { s.hw.calls with raises := s.hw.calls.raises.erase r } } : Hw).fget (callsA 0x18) 31 0 =
      s.hw.fget (callsA 0x18) 31 0 := rfl
    have hp : ({ s.hw with calls := { s.hw.calls with raises := s.hw.calls.raises.erase r } } : Hw).pstate = s.hw.pstate := rfl
    have hc : ({ s.hw with calls := { s.hw.calls with raises := s.hw.calls.raises.erase r } } : Hw).calls =
      { s.hw.calls with raises := s.hw.calls.raises.erase r } := rfl
    generalize ({ s.hw with calls := { s.hw.calls with raises := s.hw.calls.raises.erase r } } : Hw) = m at hm hp hc
    have hcount := (fget_bump_same (hi := 31) (lo := 0) m (callsA 0x18) 1 (by decide)).trans (congrArg (fun n => min (2 ^ 32 - 1) (n + 1)) hm)
    have hps : (m.count (callsA 0x18)).pstate = s.hw.pstate :=
      (congrArg (fld · 2 0) ((reg_fset m ..).trans (if_neg (by decide)))).trans hp
    have hcalls : (m.count (callsA 0x18)).calls = m.calls := rfl
    change (m.count (callsA 0x18)).fget (callsA 0x18) 31 0 = _ at hcount
    rw [Hw.discardRaise]
    generalize m.count (callsA 0x18) = u at hcount hps hcalls
    have hs := signals_raisePoison u evCallPortOff 0
    have hpath := onPath_raisePoison (h := s.hw) evCallPortOff 0 hps
    generalize u.raisePoison evCallPortOff = g at hs hpath
    have hreg : g.reg = u.reg := by rw [hs.rest]; rfl
    exact ⟨by rw [hs.rest, ← hc, ← hcalls], hpath, by rw [Hw.fget, hreg]; exact hcount⟩
  · intro k hon hk delay hroom deps c stored
    have hfree := call_freeSlot hk
    have st : Stored r k c s.hw (s.hw.withRaised r k) := stored_withRaised hr r hfree
    have heff : effect .callRaise s.hw = (s.hw.withRaised r k).settleCalls := execCallRaise_stores hf hon hk hroom
    have hothers : ∀ i c', i ≠ k → (s.hw.withRaised r k).call i = some c' → c'.state = .waiting → c'.deps ≠ [] :=
      fun i c' hi hc' => hn (i, c') (mem_of_call ((st.others i hi).symm.trans hc'))
    have hchoose := chooseWorker_congr (fun a ha => st.regs a (by unfold callsA at ha ⊢; omega)) st.ready
      (fun w => by rw [st.running]) c.cls
    generalize s.hw.withRaised r k = m at st heff hothers hchoose
    have hstored : stored m := ⟨st.others, st.gen, st.raises, st.count⟩
    refine ⟨fun hwait => does_of rfl ?_, fun h0 hnil w hw => does_of rfl ?_, fun h0 hnil hw => does_of rfl ?_⟩
    · have hset : m.settleCalls = m := settle_of_noneReady (noneReady_of_call st.rise fun i c' hi hst => by
        by_cases he : i = k
        · rw [he, st.call] at hi
          cases hi
          rcases hwait with hd | hd
          · exact absurd hst (by change (if delay = 0 then CallState.waiting else .delayed) ≠ .waiting; rw [if_neg hd]; simp)
          · exact hd
        · exact hothers i c' he hi hst) _
      rw [heff, hset]
      exact ⟨st.call, hstored, st.rest⟩
    · have a := settleCalls_assigned st.rise st.call (if_pos h0) hnil hothers (hchoose.trans hw)
      rw [heff]
      generalize m.settleCalls = g at a
      have hgens : g.calls.gens = m.calls.gens := by rw [a.rest]
      have hraises : g.calls.raises = m.calls.raises := by rw [a.rest]
      have hlist : ∀ v, m.readyList v = s.hw.readyList v := fun v => by unfold Hw.readyList; rw [st.ready]
      refine ⟨⟨a.call, a.list.trans (by rw [hlist]), fun v hv => (a.lists v hv).trans (hlist v), a.last⟩,
        ⟨fun j hj => (a.others j hj).trans (st.others j hj), ?_, hraises.trans st.raises, ?_⟩, ?_⟩
      · rw [hgens]; exact hstored.2.1
      · rw [Hw.fget, a.regs _ (by decide)]; exact st.count
      · rw [a.rest, st.rest]
    · have a := settleCalls_failed st.rise st.call (if_pos h0) hnil hothers (hchoose.trans hw)
      rw [heff]
      generalize m.settleCalls = g at a
      refine ⟨a.1, fun hp => a.2 ?_⟩
      rwa [show m.pstate = s.hw.pstate from congrArg (fld · 2 0) (st.regs _ (by decide))]
  · intro due
    have hrise := slotsRise_released hr
    refine ⟨fun hwait => does_of rfl ?_, fun k c w hk hdue hnil honly hw => ?_⟩
    · rw [show effect .callRelease s.hw = _ from execCallRelease_eq s.hw, Hw.settleCalls,
        settle_of_noneReady (noneReady_of_call hrise fun i c' hi hst => released_waits hn hi hst fun c hc hd =>
          hwait (i, c) (mem_of_call hc) hd)]
      refine ⟨fun k c hc => ⟨fun hd => ?_, fun hd => ?_⟩, rfl⟩
      · rw [call_released, hc, Option.map_some, freed_due hd]
      · rw [call_released, hc, Option.map_some, freed_notDue hd]
    · refine does_of rfl ?_
      have hcall : s.hw.released318.call k = some { c with state := .waiting } := by
        rw [call_released, hk, Option.map_some, freed_due hdue]
      have hchoose : s.hw.released318.chooseWorker c.cls = some w :=
        (chooseWorker_congr (h := s.hw) (g := s.hw.released318) (fun _ _ => rfl) rfl (fun w => by rw [runningOn_released]) c.cls).trans hw
      have hothers : ∀ i, i ≠ k → s.hw.released318.call i = s.hw.call i := fun i hi => by
        rw [call_released]
        cases hc : s.hw.call i with
        | none => rfl
        | some c' =>
          rw [Option.map_some, freed_notDue fun hd => hi (congrArg Prod.fst (honly (i, c') (mem_of_call hc) hd))]
      have a := settleCalls_assigned hrise hcall rfl hnil
        (fun i c' hi hc' hst => hn (i, c') (mem_of_call ((hothers i hi).symm.trans hc')) hst) hchoose
      rw [show effect .callRelease s.hw = _ from execCallRelease_eq s.hw]
      have hrest : s.hw.released318 = { s.hw with calls := { s.hw.calls with slots := s.hw.released318.calls.slots } } := rfl
      have hready : ∀ v, s.hw.released318.readyList v = s.hw.readyList v := fun _ => rfl
      generalize s.hw.released318 = m at hothers a hrest hready
      generalize m.settleCalls = g at a
      refine ⟨⟨a.call, a.list.trans (by rw [hready]), fun v hv => (a.lists v hv).trans (hready v), a.last⟩,
        fun j hj => (a.others j hj).trans (hothers j hj), ?_⟩
      rw [a.rest, hrest]

end Sys2Proof.Machine
end

section
-- As the tests above: declarations in order, so that checking the one text stays within its memory.
set_option Elab.async false
/-!
PROOFS. The service of calls: dispatch (R321 to R323), completion records (R324, R325, R327), the classes that the MP serves
(R328), and delivery (R330).
-/

namespace Sys2Proof.Machine

/-! ## The head of a ready list runs (R321) -/

/-- The state in which worker w has taken call c of slot k, with the trace t. -/
def Hw.took (h : Hw) (w k : Nat) (c : Call) (rest : List Nat) (t : TraceSt) : Hw :=
  { h with
    calls := { h.calls with
      ready := Store.set [] h.calls.ready w rest
      slots := Store.set none h.calls.slots k (some { c with state := .running w }) }
    trace := t }

theorem takeReady_head {h : Hw} {w k : Nat} {rest : List Nat} {c : Call} (hl : h.readyList w = k :: rest) (hc : h.call k = some c) :
    h.takeReady w = some (k, c, h.took w k c rest h.trace) := by
  unfold Hw.takeReady
  rw [hl]
  dsimp only
  rw [hc]
  rfl

theorem took_callEvent (h : Hw) (w k : Nat) (c : Call) (rest : List Nat) (t : TraceSt) (e st : Nat) :
    ∃ t', (h.took w k c rest t).callEvent e st k c = h.took w k c rest t' := by
  rw [callEvent_only]
  exact ⟨_, rfl⟩

/-- The taken call runs, the list has lost its head, and every other slot and list is as it was. -/
theorem took_runs (h : Hw) (w k : Nat) (c : Call) (rest : List Nat) (t : TraceSt) {g : Hw} (hg : g.calls = (h.took w k c rest t).calls) :
    g.call k = some { c with state := .running w } ∧ g.readyList w = rest ∧ (∀ j, j ≠ k → g.call j = h.call j) ∧
      ∀ v, v ≠ w → g.readyList v = h.readyList v := by
  unfold Hw.call Hw.readyList
  rw [hg]
  exact ⟨Store.get_set_same none h.calls.slots k (some { c with state := .running w }), Store.get_set_same [] h.calls.ready w rest,
    fun j hj => Store.get_set_ne none none h.calls.slots (some { c with state := .running w }) hj,
    fun v hv => Store.get_set_ne [] [] h.calls.ready rest hv⟩

theorem msix_fields (h : Hw) (v : Nat) : ∃ hs m, h.msix v = { h with host := hs, out := h.out ++ m } := by
  unfold Hw.msix
  split
  · exact ⟨_, _, rfl⟩
  · exact ⟨_, [], by rw [List.append_nil]⟩

/-- The dispatch record names the module, and the call as it is. -/
theorem dispatchRecord_congr {h g : Hw} (hd : g.devIndex = h.devIndex) (k : Nat) (c : Call) (ph : Nat) :
    dispatchRecord g k c ph = dispatchRecord h k c ph := by
  unfold dispatchRecord
  rw [hd]

theorem hostTake_head {h : Hw} {w k : Nat} {rest : List Nat} {c : Call} (hl : h.readyList w = k :: rest) (hc : h.call k = some c)
    (he : h.bget (callsA (0x1000 + 64 * w)) 0 = true)
    (hroom : (h.fget (callsA (0x1000 + 64 * w) + 0x18) 12 0 + 8192 - h.fget (callsA (0x1000 + 64 * w) + 0x1C) 12 0) % 8192 <
      ringSize (h.fget (callsA (0x1000 + 64 * w)) 11 8)) (hb : h.bme = true) (hm : h.isMember = false) :
    let a := callsA (0x1000 + 64 * w)
    let size := ringSize (h.fget a 11 8)
    let tail := h.fget (a + 0x18) 12 0
    ∃ t, h.hostTake w =
      let m := ((h.took w k c rest t).emit (.hostWrite ((h.reg64 (a + 8)).toNat + 64 * (tail % size))
        (dispatchRecord h k c ((tail / size + 1) % 2)))).fset (a + 0x18) 12 0 ((tail + 1) % 8192)
      if m.bget a 7 then m.msix (m.fget a 6 1) else m := by
  obtain ⟨t, ht⟩ := took_callEvent h w k c rest h.trace 1 0
  refine ⟨t, ?_⟩
  unfold Hw.hostTake
  dsimp only
  rw [if_neg (by simp [he, hb]; omega), takeReady_head hl hc]
  dsimp only
  rw [ht]
  have hmem : (h.took w k c rest t).isMember = false := hm
  have hreg : (h.took w k c rest t).reg64 = h.reg64 := rfl
  have hrec := dispatchRecord_congr (h := h) (g := h.took w k c rest t) rfl k c
  rw [hreg, hrec]
  unfold Hw.workerWrite
  rw [hmem]
  rfl

theorem mpTake_head {h : Hw} {k : Nat} {rest : List Nat} {c : Call} (hl : h.readyList 32 = k :: rest) (hc : h.call k = some c)
    (hr : h.runningOn 32 = []) (hlost : h.calls.mpLost = none) (hready : h.host.ready = true) (hsw : h.host.fwSwitch = false)
    (hs : mpServes c.cls = true) : ∃ t, h.mpTake = h.took 32 k c rest t := by
  obtain ⟨t, ht⟩ := took_callEvent h 32 k c rest h.trace 1 0
  refine ⟨t, ?_⟩
  unfold Hw.mpTake
  rw [if_neg (by simp [hr, hlost, hready, hsw]), takeReady_head hl hc]
  dsimp only
  rw [ht, hs]
  rfl

/-! ## Completion (R329, R332) -/

/-- What the end of a call that is nobody's predecessor leaves. -/
structure Completed (k : Nat) (c : Call) (failed : Bool) (v : BitVec 256) (h g : Hw) : Prop where
  call : g.call k = if c.resultEn then some { c with state := .held, status := if failed then 1 else 0, result := v } else none
  others : ∀ j, j ≠ k → g.call j = h.call j
  calls : g.calls = { h.calls with slots := g.calls.slots }
  reg : ∀ a, a ≠ callsA 0x2C → g.reg a = h.reg a
  regs : failed = false → g.regs = h.regs
  rest : g = { h with regs := g.regs, calls := g.calls, trace := g.trace }

theorem mem_callList_putCall {h : Hw} {k : Nat} {c : Call} {x : Nat × Call} (hx : x ∈ (h.putCall k (some c)).callList) :
    x = (k, c) ∨ x ∈ h.callList := by
  rw [mem_callList] at hx
  rcases Store.mem_put hx with he | hm
  · left
    exact Prod.ext (congrArg Prod.fst he :) (Option.some.inj (congrArg Prod.snd he :))
  · exact Or.inr (mem_callList.2 hm)

/-- A call that ends is complete, and no call waits for it. -/
theorem completeCall_fields {h : Hw} (hn : NoneReady h) {k : Nat} {c : Call} (hc : h.call k = some c) (hf : ∀ x ∈ h.callList, k ∉ x.2.deps)
    (failed : Bool) (v : BitVec 256) : Completed k c failed v h (h.completeCall k c failed v).settleCalls := by
  obtain ⟨r, t, e⟩ := counted_callEvent h k c failed
  have hreg : ∀ a, a ≠ callsA 0x2C → ((if failed then h.count (callsA 0x2C) else h).callEvent 2 (if failed then 1 else 0) k c).reg a =
      h.reg a := fun a ha => by
    rw [callEvent_only]
    cases failed
    · rfl
    · exact (reg_fset h ..).trans (if_neg ha)
  have hregs : failed = false →
      ((if failed then h.count (callsA 0x2C) else h).callEvent 2 (if failed then 1 else 0) k c).regs = h.regs := fun h0 => by
    rw [callEvent_only, h0]
    rfl
  have hcall : ∀ i, ((if failed then h.count (callsA 0x2C) else h).callEvent 2 (if failed then 1 else 0) k c).call i = h.call i :=
    fun i => by rw [e]; rfl
  have hlist : ((if failed then h.count (callsA 0x2C) else h).callEvent 2 (if failed then 1 else 0) k c).callList = h.callList := by
    rw [e]; rfl
  have hcalls : ((if failed then h.count (callsA 0x2C) else h).callEvent 2 (if failed then 1 else 0) k c).calls = h.calls := by rw [e]
  have hrest : ((if failed then h.count (callsA 0x2C) else h).callEvent 2 (if failed then 1 else 0) k c) =
      { h with
        regs := ((if failed then h.count (callsA 0x2C) else h).callEvent 2 (if failed then 1 else 0) k c).regs
        trace := ((if failed then h.count (callsA 0x2C) else h).callEvent 2 (if failed then 1 else 0) k c).trace } := by rw [e]
  rw [completeCall_eq]
  generalize (if failed then h.count (callsA 0x2C) else h).callEvent 2 (if failed then 1 else 0) k c = m at *
  generalize ho : (if c.resultEn then some { c with state := CallState.held, status := if failed then 1 else 0, result := v }
    else none) = o
  have hcases : ∀ x ∈ (m.putCall k o).callList, x.2.state ≠ .waiting ∧ x.2.deps = c.deps ∨ x ∈ h.callList := fun x hx => by
    cases o with
    | none => exact Or.inr (hlist ▸ callList_putCall_none hx)
    | some c' =>
      rcases mem_callList_putCall hx with he | hm
      · refine Or.inl ?_
        split at ho
        · cases ho
          rw [he]
          exact ⟨by simp, rfl⟩
        · cases ho
      · exact Or.inr (hlist ▸ hm)
  have hdeps : ∀ x ∈ (m.putCall k o).callList, k ∉ x.2.deps := fun x hx => by
    rcases hcases x hx with h1 | h1
    · rw [h1.2]; exact hf _ (mem_of_call hc)
    · exact hf x h1
  rw [dropDeps_of_free hdeps, Hw.settleCalls, settle_of_noneReady fun x hx hst => by
    rcases hcases x hx with h1 | h1
    · exact absurd hst h1.1
    · exact hn x h1 hst]
  exact {
    call := (call_putCall_same m k o).trans ho.symm
    others := fun j hj => (call_putCall_ne m o hj).trans (hcall j)
    calls := by rw [← hcalls]; rfl
    reg := hreg
    regs := hregs
    rest := by rw [hrest]; rfl }

/-- An end that has not failed changes no register. -/
theorem Completed.plain {k : Nat} {c : Call} {v : BitVec 256} {h g : Hw} (d : Completed k c false v h g) :
    g = { h with calls := g.calls, trace := g.trace } := by
  have hregs := d.regs rfl
  rw [d.rest, hregs]

/-- The end, told of a state that agrees on the calls. -/
theorem Completed.done {k : Nat} {c : Call} {failed : Bool} {v : BitVec 256} {h m g : Hw} (d : Completed k c failed v m g)
    (hm : m.calls = h.calls) :
    g.call k = (if c.resultEn then some { c with state := .held, status := if failed then 1 else 0, result := v } else none) ∧
      (∀ j, j ≠ k → g.call j = h.call j) ∧ g.calls.ready = h.calls.ready ∧ g.calls.results = h.calls.results := by
  refine ⟨d.call, fun j hj => (d.others j hj).trans (by unfold Hw.call; rw [hm]), ?_, ?_⟩
  · rw [d.calls, hm]
  · rw [d.calls, hm]

theorem NoneReady.congr {h g : Hw} (hn : NoneReady h) (he : g.calls = h.calls) : NoneReady g := by
  unfold NoneReady Hw.callList
  rw [he]
  exact hn

/-! ## Completion records (R324, R325) -/

/-- COMP_HEAD has advanced. -/
def Hw.headMoved (h : Hw) (w : Nat) : Hw :=
  h.fset (callsA (0x1000 + 64 * w) + 0x24) 12 0 ((h.fget (callsA (0x1000 + 64 * w) + 0x24) 12 0 + 1) % 8192)

theorem headMoved_fields (h : Hw) (w : Nat) : (∃ r, h.headMoved w = { h with regs := r }) ∧
    (h.headMoved w).fget (callsA (0x1000 + 64 * w) + 0x24) 12 0 = (h.fget (callsA (0x1000 + 64 * w) + 0x24) 12 0 + 1) % 8192 ∧
    ∀ a, a < callsA 0x1000 ∨ callsA 0x1000 + 0x10000 ≤ a → w < 32 → (h.headMoved w).reg a = h.reg a := by
  refine ⟨⟨_, rfl⟩, (fget_fset_same h _ 12 0 _ (by decide)).trans (Nat.mod_mod _ _), fun a ha hw => ?_⟩
  exact (reg_fset h ..).trans (if_neg (by unfold callsA at *; omega))

theorem takeRecord_eq {h : Hw} {w : Nat} (hw : w < 32) {rec : List Byte}
    (hne : h.fget (callsA (0x1000 + 64 * w) + 0x24) 12 0 ≠ h.fget (callsA (0x1000 + 64 * w) + 0x20) 12 0) {c : Call} {w0 : Word32}
    (h0 : w0 = BitVec.ofNat 32 (ofBytes (rec.take 4))) (hc : h.call (fld w0 11 0) = some c) :
    h.takeRecord w rec = if c.state == .running w && c.gen == fld w0 15 12 then
        ((h.headMoved w).completeCall (fld w0 11 0) c (fld w0 17 16 != 0)
          (BitVec.ofNat 256 (ofBytes ((rec.drop 32).take 32)))).settleCalls
      else (h.headMoved w).staleCompletion := by
  subst h0
  unfold Hw.takeRecord
  dsimp only
  rw [if_neg (by simp [hne]; omega)]
  change (match (h.headMoved w).call _ with | some c => _ | none => _) = _
  rw [show (h.headMoved w).call (fld (BitVec.ofNat 32 (ofBytes (rec.take 4))) 11 0) = some c from hc]
  rfl

theorem execCompletionRecord_own {h : Hw} (hb : h.bme = true) (hm : h.isMember = false) (w : Nat) (rec : List Byte) :
    execCompletionRecord h w ⟨rec, none⟩ = h.takeRecord w rec := by
  unfold execCompletionRecord
  rw [hb, hm]
  rfl

theorem staleCompletion_fields (h : Hw) : h.staleCompletion.calls = h.calls ∧ Raised evCallStale 0 h h.staleCompletion ∧
    h.staleCompletion.fget (callsA 0x24) 31 0 = min (2 ^ 32 - 1) (h.fget (callsA 0x24) 31 0 + 1) ∧
    ∀ a, a ≠ callsA 0x24 → h.staleCompletion.reg a = h.reg a := by
  have hp : (h.count (callsA 0x24)).pstate = h.pstate := congrArg (fld · 2 0) ((reg_fset h ..).trans (if_neg (by decide)))
  refine ⟨rfl, ⟨false, ?_⟩, fget_bump_same h (callsA 0x24) 1 (by decide), fun a ha => (reg_fset h ..).trans (if_neg ha)⟩
  rw [← hp]
  rfl

/-- The oldest request for a record has been served. -/
def Hw.dropAsk (h : Hw) (k : Nat × Nat × Nat) : Hw := { h with host := { h.host with asks := h.host.asks.erase k } }

theorem execCompletionRecord_asked {h : Hw} {m w : Nat} {rec : List Byte} {k : Nat × Nat × Nat} (hb : h.bme = true)
    (hk : h.host.asks.find? (fun k => k.1 == m && k.2.1 == w) = some k) : execCompletionRecord h w ⟨rec, some m⟩ =
      (h.dropAsk k).sendMsg m (.completionRecord w rec) := by
  unfold execCompletionRecord
  rw [hb, if_neg (by decide)]
  dsimp only
  unfold Hw.passRecord
  rw [hk]
  dsimp only
  unfold Hw.dropAsk
  rfl

theorem out_sendOn (h : Hw) (p dst code : Nat) (m : LinkMsg) : (h.sendOn p dst code m).out = h.out :=
  List.foldlRecOn (motive := fun g : Hw => g.out = h.out) _ _ rfl fun _ hg _ _ => hg

theorem out_sendMsg (h : Hw) (dst : Nat) (m : LinkMsg) : (h.sendMsg dst m).out = h.out ++ [.message dst m] := by
  unfold Hw.sendMsg
  refine List.foldlRecOn (motive := fun g : Hw => g.out = h.out ++ [.message dst m]) _ _ ?_ fun g hg p _ => ?_
  · rfl
  · exact (out_sendOn g p dst 0 m).trans hg

/-! ## The classes of the MP (R328) -/

theorem mpServe_running {h : Hw} {k cls : Nat} {c : Call} (hl : h.calls.mpLost = none) (hc : h.call k = some c)
    (hr : c.state = .running 32) (hcls : c.cls = cls) (f : Call → Hw → Option (BitVec 256) × Hw) :
    h.mpServe k cls f = match (f c h).1 with
      | some v => ((f c h).2.completeCall k c false v).settleCalls
      | none => ((f c h).2.completeCall k c true 0).settleCalls := by
  unfold Hw.mpServe
  rw [if_neg (by rw [hl]; simp), hc]
  dsimp only
  rw [if_pos (by simp [hr, hcls])] <;> rfl

theorem execEcho_running {h : Hw} {k : Nat} {c : Call} (hl : h.calls.mpLost = none) (hc : h.call k = some c)
    (hr : c.state = .running 32) (hcls : c.cls = 0xF0) : execEcho h k = (h.completeCall k c false c.args).settleCalls := by
  unfold execEcho
  rw [mpServe_running hl hc hr hcls]

theorem execTimeRead_running {h : Hw} {k : Nat} {c : Call} (hl : h.calls.mpLost = none) (hc : h.call k = some c)
    (hr : c.state = .running 32) (hcls : c.cls = 0xF3) :
    execTimeRead h k = (h.completeCall k c false ((timeValue h.time.now).setWidth 256)).settleCalls := by
  unfold execTimeRead
  rw [mpServe_running hl hc hr hcls]

theorem ridgeWaits_idle {h : Hw} (hf : FarIdle h) (d a : Nat) : h.ridgeWaits d a = h := by
  unfold Hw.ridgeWaits
  refine List.foldlRecOn (motive := fun g => g = h) _ _ rfl fun g hg kv hkv => ?_
  rw [hg, hf kv (List.mem_filter.1 hkv).1]
  rfl

theorem farRidgeRead_sound {h : Hw} (hi : FarIdle h) {d a : Nat} (hw : h.farWritten d a = true)
    (hf : (decDecode (h.farWord d a)).2 = .clean) (first : Bool) :
    h.farRidgeRead d a first = (some (decDecode (h.farWord d a)).1, h) := by
  unfold Hw.farRidgeRead
  rw [ridgeWaits_idle hi]
  exact farRead_sound hw hf ..

theorem farRidgeWrite_written {h : Hw} (hi : FarIdle h) (hc : h.snap.capture = none) {d a : Nat} (hw : h.farWritten d a = true)
    (v : Word64) : h.farRidgeWrite d a v = h.putFar d a v := by
  have hold : h.holdFar d a true = h := by simp [Hw.holdFar, Hw.draining, hc]
  have hset : h.setFarWord d a v = { h with farMem := Store.set 0 h.farMem (farKey d a) (decEncode v) } := by
    simp only [Hw.setFarWord, hw, if_true]
  unfold Hw.farRidgeWrite
  rw [ridgeWaits_idle hi]
  dsimp only
  rw [hold, hset]
  rfl

theorem FarWork.idle {h g : Hw} (w : FarWork h g) (hi : FarIdle h) : FarIdle g := by
  rw [w]
  exact hi

theorem mpAddr_lt {h : Hw} {c : Call} {d a : Nat} (hm : h.mpAddr c = some (d, a)) : a < 2 ^ 33 ∧ a % 4 = 0 := by
  have hlt := fld_lt c.args 35 0
  unfold Hw.mpAddr at hm
  dsimp only at hm
  split at hm
  · next hcond =>
    cases hm
    constructor <;> omega
  · cases hm

/-- Four words, each in its place of an argument value. -/
def fourWords (x : Nat → Word64) : BitVec 256 :=
  (List.range 4).foldl (fun v i => v ||| BitVec.ofNat 256 ((x i).toNat * 2 ^ (64 * i))) 0

theorem ofNat_shifted (x : Word64) (n : Nat) : BitVec.ofNat 256 (x.toNat * 2 ^ n) = x.setWidth 256 <<< n := by
  refine BitVec.eq_of_toNat_eq ?_
  have hx : x.toNat % 2 ^ 256 = x.toNat := Nat.mod_eq_of_lt (Nat.lt_of_lt_of_le x.isLt (Nat.pow_le_pow_right (by decide) (by decide)))
  rw [BitVec.toNat_ofNat, BitVec.toNat_shiftLeft, BitVec.toNat_setWidth, hx, Nat.shiftLeft_eq]

theorem extract_fourWords (x : Nat → Word64) {i : Nat} (hi : i < 4) : (fourWords x).extractLsb' (64 * i) 64 = x i := by
  unfold fourWords
  simp only [ofNat_shifted, List.range, List.range.loop, List.foldl_cons, List.foldl_nil]
  refine BitVec.eq_of_getLsbD_eq fun j hj => ?_
  simp only [BitVec.getLsbD_extractLsb', BitVec.getLsbD_or, BitVec.getLsbD_shiftLeft, BitVec.getLsbD_setWidth]
  have far : ∀ k n, 64 ≤ n → (x k).getLsbD n = false := fun k n hn => BitVec.getLsbD_of_ge _ _ hn
  obtain rfl | rfl | rfl | rfl : i = 0 ∨ i = 1 ∨ i = 2 ∨ i = 3 := by omega
  · simp [hj, show j < 256 by omega, show j < 128 by omega, show j < 192 by omega]
  · simp [hj, show j < 256 by omega, show 64 + j < 256 by omega, show 64 + j < 128 by omega, show 64 + j < 192 by omega]
  · simp [hj, show j < 256 by omega, show 128 + j < 256 by omega, show 128 + j < 192 by omega, far 0 (128 + j) (by omega),
      far 1 (128 + j - 64) (by omega)]
  · simp [hj, show j < 256 by omega, show 192 + j < 256 by omega, far 0 (192 + j) (by omega), far 1 (192 + j - 64) (by omega),
      far 2 (192 + j - 128) (by omega)]

/-- One word of a FAR_READ, and what has been read before it. -/
def farReadStep (d a : Nat) (acc : Option (BitVec 256) × Hw) (i : Nat) : Option (BitVec 256) × Hw :=
  match acc.1 with
  | none => acc
  | some v =>
    match acc.2.farRidgeRead d (a + i) true with
    | (some x, h) => (some (v ||| BitVec.ofNat 256 (x.toNat * 2 ^ (64 * i))), h)
    | (none, h) => (none, h)

theorem farReadStep_word {h : Hw} {d a i : Nat} {x : Word64} (hr : h.farRidgeRead d (a + i) true = (some x, h)) (v : BitVec 256) :
    farReadStep d a (some v, h) i = (some (v ||| BitVec.ofNat 256 (x.toNat * 2 ^ (64 * i))), h) := by
  unfold farReadStep
  dsimp only
  generalize h.farRidgeRead d (a + i) true = p at hr ⊢
  subst hr
  rfl

theorem foldl_farReadStep {h : Hw} {d a : Nat} {x : Nat → Word64} {l : List Nat}
    (hr : ∀ i ∈ l, h.farRidgeRead d (a + i) true = (some (x i), h)) (v : BitVec 256) : l.foldl (farReadStep d a) (some v, h) =
      (some (l.foldl (fun v i => v ||| BitVec.ofNat 256 ((x i).toNat * 2 ^ (64 * i))) v), h) := by
  induction l generalizing v with
  | nil => rfl
  | cons i l ih =>
    rw [List.foldl_cons, farReadStep_word (hr i List.mem_cons_self), List.foldl_cons]
    exact ih (fun j hj => hr j (List.mem_cons_of_mem _ hj)) _

theorem execFarRead_eq (h : Hw) (k : Nat) : execFarRead h k = h.mpServe k 0xF1 fun c h =>
    match h.mpAddr c with
    | none => (none, h)
    | some (d, a) => (List.range 4).foldl (farReadStep d a) (some 0, h) := rfl

theorem execFarRead_words {h : Hw} {k d a : Nat} {c : Call} (hl : h.calls.mpLost = none) (hc : h.call k = some c)
    (hr : c.state = .running 32) (hcls : c.cls = 0xF1) (ha : h.mpAddr c = some (d, a)) {x : Nat → Word64}
    (hread : ∀ i, i < 4 → h.farRidgeRead d (a + i) true = (some (x i), h)) :
    execFarRead h k = (h.completeCall k c false (fourWords x)).settleCalls := by
  rw [execFarRead_eq, mpServe_running hl hc hr hcls, ha]
  dsimp only
  rw [foldl_farReadStep fun i hi => hread i (List.mem_range.1 hi)]
  rfl

theorem execFarRead_sound {h : Hw} (hi : FarIdle h) {k d a : Nat} {c : Call} (hl : h.calls.mpLost = none) (hc : h.call k = some c)
    (hr : c.state = .running 32) (hcls : c.cls = 0xF1) (ha : h.mpAddr c = some (d, a))
    (hs : ∀ i, i < 4 → h.farWritten d (a + i) = true ∧ (decDecode (h.farWord d (a + i))).2 = .clean) :
    execFarRead h k = (h.completeCall k c false (fourWords fun i => (decDecode (h.farWord d (a + i))).1)).settleCalls :=
  execFarRead_words hl hc hr hcls ha fun i hi4 => farRidgeRead_sound hi (hs i hi4).1 (hs i hi4).2 true

/-- The state with the three words of a FAR_WRITE stored. -/
def Hw.wrote3 (h : Hw) (c : Call) (d a : Nat) : Hw :=
  ((h.putFar d (a + 0) (c.args.extractLsb' (64 * (0 + 1)) 64)).putFar d (a + 1) (c.args.extractLsb' (64 * (1 + 1)) 64)).putFar d
    (a + 2) (c.args.extractLsb' (64 * (2 + 1)) 64)

theorem farWork_wrote3 (h : Hw) (c : Call) (d a : Nat) : FarWork h (h.wrote3 c d a) :=
  ((farWork_putFar h ..).trans (farWork_putFar ..)).trans (farWork_putFar ..)

theorem mpWrite_written {h : Hw} (hi : FarIdle h) (hcap : h.snap.capture = none) {d a : Nat} (c : Call)
    (hw : ∀ i, i < 3 → h.farWritten d (a + i) = true) : h.mpWrite c d a 3 = h.wrote3 c d a := by
  unfold Hw.mpWrite Hw.wrote3
  have f0 := farWork_putFar h d (a + 0) (c.args.extractLsb' (64 * (0 + 1)) 64)
  have f1 := f0.trans (farWork_putFar _ d (a + 1) (c.args.extractLsb' (64 * (1 + 1)) 64))
  simp only [List.range, List.range.loop, List.foldl_cons, List.foldl_nil]
  rw [farRidgeWrite_written hi hcap (hw 0 (by decide)),
    farRidgeWrite_written (f0.idle hi) (f0.capture.trans hcap) ((f0.written ..).trans (hw 1 (by decide))),
    farRidgeWrite_written (f1.idle hi) (f1.capture.trans hcap) ((f1.written ..).trans (hw 2 (by decide)))]

theorem farWord_wrote3 (h : Hw) (c : Call) {d a : Nat} (ha : a + 2 < 2 ^ 33) :
    (∀ i, i < 3 → (h.wrote3 c d a).farWord d (a + i) = decEncode (c.args.extractLsb' (64 * (i + 1)) 64)) ∧
      ∀ e b, b < 2 ^ 33 → e ≠ d ∨ b < a ∨ a + 3 ≤ b → (h.wrote3 c d a).farWord e b = h.farWord e b := by
  unfold Hw.wrote3
  refine ⟨fun i hi => ?_, fun e b hb ho => ?_⟩
  · obtain rfl | rfl | rfl : i = 0 ∨ i = 1 ∨ i = 2 := by omega
    · rw [farWord_putFar_ne _ _ (by omega) (by omega) (Or.inr (by omega)), farWord_putFar_ne _ _ (by omega) (by omega) (Or.inr (by omega)),
        farWord_putFar_same]
    · rw [farWord_putFar_ne _ _ (by omega) (by omega) (Or.inr (by omega)), farWord_putFar_same]
    · rw [farWord_putFar_same]
  · rw [farWord_putFar_ne _ _ (by omega) hb (by omega), farWord_putFar_ne _ _ (by omega) hb (by omega),
      farWord_putFar_ne _ _ (by omega) hb (by omega)]

theorem execFarWrite_written {h : Hw} (hi : FarIdle h) (hcap : h.snap.capture = none) {k d a : Nat} {c : Call}
    (hl : h.calls.mpLost = none) (hc : h.call k = some c) (hr : c.state = .running 32) (hcls : c.cls = 0xF2)
    (ha : h.mpAddr c = some (d, a)) (hw : ∀ i, i < 3 → h.farWritten d (a + i) = true) :
    execFarWrite h k = ((h.wrote3 c d a).completeCall k c false 0).settleCalls := by
  unfold execFarWrite
  rw [mpServe_running hl hc hr hcls, ha]
  dsimp only
  rw [mpWrite_written hi hcap c hw]

/-- A far-memory class outside the DESIGN region. -/
theorem farClass_outside {h : Hw} {k : Nat} {c : Call} (hl : h.calls.mpLost = none) (hc : h.call k = some c)
    (hr : c.state = .running 32) (ha : h.mpAddr c = none) :
    (c.cls = 0xF1 → execFarRead h k = (h.completeCall k c true 0).settleCalls) ∧
      (c.cls = 0xF2 → execFarWrite h k = (h.completeCall k c true 0).settleCalls) := by
  refine ⟨fun hcls => ?_, fun hcls => ?_⟩
  · unfold execFarRead
    rw [mpServe_running hl hc hr hcls, ha]
  · unfold execFarWrite
    rw [mpServe_running hl hc hr hcls, ha]

/-! ## Delivery (R330) -/

theorem execCallDeliver_due {h : Hw} {k : Nat} {c : Call} (hc : h.call k = some c) (hd : h.deliverable c = true) : ∃ t,
    execCallDeliver h k =
      { (h.putCall k (some { c with state := .delivered })).setResults c.port (h.results c.port ++ [k]) with trace := t } := by
  unfold execCallDeliver
  rw [hc]
  dsimp only
  rw [if_pos hd, callEvent_only]
  exact ⟨_, rfl⟩

section
variable {s : State} (hn : NoneReady s.hw)
include hn

/-- A completion record of this module's own worker ends the call that it names, or is stale. -/
theorem record_ends {k w : Nat} {c : Call} {rec : List Byte} (hc : s.hw.call k = some c) (hf : ∀ x ∈ s.hw.callList, k ∉ x.2.deps)
    (hw : w < 32) (hne : s.hw.fget (callsA (0x1000 + 64 * w) + 0x24) 12 0 ≠ s.hw.fget (callsA (0x1000 + 64 * w) + 0x20) 12 0)
    {w0 : Word32} (h0 : w0 = BitVec.ofNat 32 (ofBytes (rec.take 4))) (hk : fld w0 11 0 = k) :
    let g := s.hw.takeRecord w rec
    let moved := g.fget (callsA (0x1000 + 64 * w) + 0x24) 12 0 = (s.hw.fget (callsA (0x1000 + 64 * w) + 0x24) 12 0 + 1) % 8192
    (c.state = .running w → c.gen = fld w0 15 12 → ∃ m, m.calls = s.hw.calls ∧
      Completed k c (fld w0 17 16 != 0) (BitVec.ofNat 256 (ofBytes ((rec.drop 32).take 32))) m g ∧ moved ∧
        g = { s.hw with regs := g.regs, calls := g.calls, trace := g.trace }) ∧
    (c.state ≠ .running w ∨ c.gen ≠ fld w0 15 12 → g.calls = s.hw.calls ∧ moved ∧ Raised evCallStale 0 s.hw g ∧
      g.fget (callsA 0x24) 31 0 = min (2 ^ 32 - 1) (s.hw.fget (callsA 0x24) 31 0 + 1)) := by
  intro g moved
  obtain ⟨⟨r, he⟩, hhead, hother⟩ := headMoved_fields s.hw w
  have hg : g = _ := takeRecord_eq hw hne h0 (hk.symm ▸ hc)
  have hcalls : (s.hw.headMoved w).calls = s.hw.calls := by rw [he]
  have hseq : (s.hw.headMoved w).seq = s.hw.seq ∧ (s.hw.headMoved w).fault = s.hw.fault := by rw [he]; exact ⟨rfl, rfl⟩
  rw [hk] at hg
  generalize hmm : s.hw.headMoved w = m at he hhead hother hg hcalls hseq
  refine ⟨fun hst hgen => ⟨m, hcalls, ?_⟩, fun hst => ?_⟩
  · rw [if_pos (by simp [hst, hgen])] at hg
    have hcm : m.call k = some c := by unfold Hw.call; rw [hcalls]; exact hc
    have hfm : ∀ x ∈ m.callList, k ∉ x.2.deps := by unfold Hw.callList; rw [hcalls]; exact hf
    have d := completeCall_fields (hn.congr hcalls) hcm hfm (fld w0 17 16 != 0) (BitVec.ofNat 256 (ofBytes ((rec.drop 32).take 32)))
    rw [← hg] at d
    refine ⟨d, ?_, by rw [d.rest, he]⟩
    change g.fget _ 12 0 = _
    rw [Hw.fget, d.reg _ (by unfold callsA; omega)]
    exact hhead
  · rw [if_neg (by rw [Bool.and_eq_true, beq_iff_eq, beq_iff_eq, not_and_or]; exact hst)] at hg
    obtain ⟨h1, ⟨p, h2⟩, h3, h4⟩ := staleCompletion_fields m
    rw [← hg] at h1 h2 h3 h4
    have hps : m.pstate = s.hw.pstate := congrArg (fld · 2 0) (hother _ (Or.inr (by decide)) hw)
    refine ⟨h1.trans hcalls, ?_, ⟨p, ?_⟩, h3.trans ?_⟩
    · change g.fget _ 12 0 = _
      rw [Hw.fget, h4 _ (by unfold callsA; omega)]
      exact hhead
    · rw [h2, hps, hseq.1, hseq.2]
    · rw [Hw.fget, hother _ (Or.inl (by decide)) hw]
      rfl

end

/-- Settles O44: a dispatch takes the head of its ready list, an end of a call is a completion that lets no other go on, and a
delivery joins its port's queue. -/
theorem callService : Obligations.CallService := by
  intro s hr hcap hn
  have hn : NoneReady s.hw := hn
  refine ⟨fun w k rest c hl hc => ?_, fun k c hc hf => ?_, fun w rec hw hlen => ⟨fun hb o ho => ?_, fun hm => ?_, fun m k hm64 hb hk => ?_⟩,
    fun k c hk hc hd => ?_⟩
  · intro runs a size tail
    refine ⟨fun hw he hroom hb hm => does_of (by simp [Instr.wellFormed]; omega) ?_,
      fun hw hrun hlost hready hsw hs => does_of (by simp [Instr.wellFormed]; omega) ?_⟩
    · obtain ⟨t, ht⟩ := hostTake_head hl hc he hroom hb hm
      rw [show effect (.callDispatch w) s.hw = s.hw.hostTake w from if_pos hw, ht]
      dsimp only
      generalize (Out.hostWrite _ _) = o
      have htail : (((s.hw.took w k c rest t).emit o).fset (a + 0x18) 12 0 ((tail + 1) % 8192)).fget (a + 0x18) 12 0 = (tail + 1) % 8192 :=
        (fget_fset_same _ _ 12 0 _ (by decide)).trans (Nat.mod_mod _ _)
      have hcalls : (((s.hw.took w k c rest t).emit o).fset (a + 0x18) 12 0 ((tail + 1) % 8192)).calls = (s.hw.took w k c rest t).calls := rfl
      have hout : (((s.hw.took w k c rest t).emit o).fset (a + 0x18) 12 0 ((tail + 1) % 8192)).out = s.hw.out ++ [o] := rfl
      have hbit : (((s.hw.took w k c rest t).emit o).fset (a + 0x18) 12 0 ((tail + 1) % 8192)).bget a 7 = s.hw.bget a 7 :=
        congrArg (bit · 7) ((reg_fset ..).trans (if_neg (by omega)))
      have hreg : ∀ b, b ∉ [a + 0x18] → (((s.hw.took w k c rest t).emit o).fset (a + 0x18) 12 0 ((tail + 1) % 8192)).reg b = s.hw.reg b :=
        fun b hb => (reg_fset ..).trans (if_neg (by simpa using hb))
      have hrest : ((s.hw.took w k c rest t).emit o).fset (a + 0x18) 12 0 ((tail + 1) % 8192) =
          { s.hw with
            regs := (((s.hw.took w k c rest t).emit o).fset (a + 0x18) 12 0 ((tail + 1) % 8192)).regs
            calls := (s.hw.took w k c rest t).calls
            trace := t
            out := s.hw.out ++ [o] } := rfl
      generalize ((s.hw.took w k c rest t).emit o).fset (a + 0x18) 12 0 ((tail + 1) % 8192) = u at htail hcalls hout hbit hreg hrest ⊢
      obtain ⟨hs, m, hmsix⟩ := msix_fields u (u.fget a 6 1)
      have key : ∀ (hs : HostSt) (m : List Out), (s.hw.bget a 7 = false → m = []) → ∀ g : Hw, g = { u with host := hs, out := u.out ++ m } →
          runs g ∧ g.fget (a + 0x18) 12 0 = (tail + 1) % 8192 ∧
            (∃ m, g.out = s.hw.out ++ o :: m ∧ (s.hw.bget a 7 = false → m = [])) ∧
            OnlyRegs [a + 0x18] s.hw { g with calls := s.hw.calls, trace := s.hw.trace, host := s.hw.host, out := s.hw.out } := by
        rintro hs m hm g rfl
        exact ⟨took_runs s.hw w k c rest t hcalls, htail, ⟨m, by change u.out ++ m = _; rw [hout, List.append_assoc]; rfl, hm⟩,
          by rw [hrest], hreg⟩
      split <;> rename_i h7
      · exact key hs m (fun h0 => absurd (h0.symm.trans (hbit.symm.trans h7)) (by decide)) _ hmsix
      · exact key u.host [] (fun _ => rfl) _ (by rw [List.append_nil])
    · subst hw
      obtain ⟨t, ht⟩ := mpTake_head hl hc hrun hlost hready hsw hs
      rw [show effect (.callDispatch 32) s.hw = s.hw.mpTake from rfl, ht]
      exact ⟨took_runs s.hw 32 k c rest t rfl, rfl⟩
  · intro done
    refine ⟨?_, ?_⟩
    · intro w rec hw hlen hb hm a head hne w0 hk
      have wf : (Instr.completionRecord w ⟨rec, none⟩).wellFormed = true := by simp [Instr.wellFormed, hw, hlen]
      have he : effect (.completionRecord w ⟨rec, none⟩) s.hw = s.hw.takeRecord w rec := execCompletionRecord_own hb hm w rec
      obtain ⟨hend, hstale⟩ := record_ends hn hc hf hw hne (w0 := w0) rfl hk
      refine ⟨fun hst hgen => does_of wf ?_, fun hst => does_of wf ?_⟩
      · rw [he]
        obtain ⟨m, hm, d, hmoved, hrest⟩ := hend hst hgen
        exact ⟨d.done hm, hmoved, hrest⟩
      · rw [he]
        exact hstale hst
    · intro hk hi hst hlost plain
      have wfk : decide (k < 4096) = true := by simp [hk]
      refine ⟨fun hcls => does_of wfk ?_, fun hcls => does_of wfk ?_, fun d a ha hd => ⟨fun hcls hs => does_of wfk ?_,
        fun hcls hw => does_of wfk ?_⟩, fun ha p hp hcls => ?_⟩
      · rw [show effect (.echo k) s.hw = _ from execEcho_running hlost hc hst hcls]
        have d := completeCall_fields hn hc hf false c.args
        exact ⟨d.done rfl, d.plain⟩
      · rw [show effect (.timeRead k) s.hw = _ from execTimeRead_running hlost hc hst hcls]
        have d := completeCall_fields hn hc hf false ((timeValue s.hw.time.now).setWidth 256)
        exact ⟨d.done rfl, d.plain⟩
      · rw [show effect (.farRead k) s.hw = _ from execFarRead_sound hi hlost hc hst hcls ha hs]
        have d := completeCall_fields hn hc hf false (fourWords fun i => (decDecode (s.hw.farWord d (a + i))).1)
        exact ⟨d.plain, _, d.done rfl, fun i hi4 => extract_fourWords _ hi4⟩
      · rw [show effect (.farWrite k) s.hw = _ from execFarWrite_written hi hcap hlost hc hst hcls ha hw]
        obtain ⟨hlt, hal⟩ := mpAddr_lt ha
        have hwork := farWork_wrote3 s.hw c d a
        obtain ⟨hin, hout⟩ := farWord_wrote3 s.hw c (d := d) (a := a) (by omega)
        have hcalls : (s.hw.wrote3 c d a).calls = s.hw.calls := by rw [hwork]
        generalize s.hw.wrote3 c d a = m at hwork hin hout hcalls
        have hcm : m.call k = some c := by unfold Hw.call; rw [hcalls]; exact hc
        have hfm : ∀ x ∈ m.callList, k ∉ x.2.deps := by unfold Hw.callList; rw [hcalls]; exact hf
        have dd := completeCall_fields (hn.congr hcalls) hcm hfm false 0
        generalize (m.completeCall k c false 0).settleCalls = g at dd
        have hmem : g.farMem = m.farMem := by rw [dd.plain]
        have hword : ∀ e b, g.farWord e b = m.farWord e b := fun e b => by unfold Hw.farWord; rw [hmem]
        refine ⟨dd.done hcalls, fun i hi3 => (hword ..).trans (hin i hi3), fun e b hb ho => (hword ..).trans (hout e b hb ho), ?_⟩
        rw [dd.plain, hwork]
      · obtain ⟨hread, hwrite⟩ := farClass_outside hlost hc hst ha
        have d := completeCall_fields hn hc hf true 0
        have fin : ∀ g : Hw, g = (s.hw.completeCall k c true 0).settleCalls → done g true 0 ∧ g.farMem = s.hw.farMem := by
          rintro g rfl
          exact ⟨d.done rfl, by rw [d.rest]⟩
        rcases List.mem_cons.1 hp with rfl | hp
        · exact does_of wfk (fin _ (hread hcls))
        · rw [List.mem_singleton] at hp
          subst hp
          exact does_of wfk (fin _ (hwrite hcls))
  · refine exec_unchanged ?_ ?_
    · cases o with
      | none => simp [Instr.wellFormed, hw, hlen]
      | some m => simp [Instr.wellFormed, hw, hlen, ho m rfl]
    · change execCompletionRecord s.hw w ⟨rec, o⟩ = s.hw
      unfold execCompletionRecord
      rw [hb]
      rfl
  · refine exec_unchanged (by simp [Instr.wellFormed, hw, hlen]) ?_
    change execCompletionRecord s.hw w ⟨rec, none⟩ = s.hw
    unfold execCompletionRecord
    dsimp only
    rw [hm, if_pos rfl, ite_self]
  · refine does_of (by simp [Instr.wellFormed, hw, hlen, hm64]) ?_
    rw [show effect (.completionRecord w ⟨rec, some m⟩) s.hw = _ from execCompletionRecord_asked hb hk]
    have hhost : (s.hw.dropAsk k).host = { s.hw.host with asks := s.hw.host.asks.erase k } := rfl
    have hout : (s.hw.dropAsk k).out = s.hw.out := rfl
    have hports : (s.hw.dropAsk k).port = s.hw.port := rfl
    have hrest : s.hw.dropAsk k = { s.hw with host := (s.hw.dropAsk k).host } := rfl
    generalize s.hw.dropAsk k = u at hhost hout hports hrest
    have ht := told_sendMsg u m (.completionRecord w rec) 0
    have ho := out_sendMsg u m (.completionRecord w rec)
    generalize u.sendMsg m (.completionRecord w rec) = g at ht ho
    have hh : g.host = u.host := by rw [ht.1]
    have hasks : ({ s.hw.host with asks := g.host.asks } : HostSt) = u.host := by rw [hh, hhost]
    refine ⟨by rw [hh, hhost], ho.trans (by rw [hout]), fun p => hports ▸ ht.2 p, ?_⟩
    rw [hasks]
    exact ht.1.trans (by rw [hrest])
  · refine does_of (by simp [Instr.wellFormed, hk]) ?_
    obtain ⟨t, ht⟩ := execCallDeliver_due hc hd
    rw [show effect (.callDeliver k) s.hw = _ from ht]
    exact ⟨Store.get_set_same none s.hw.calls.slots k (some { c with state := .delivered }),
      Store.get_set_same [] s.hw.calls.results c.port _,
      fun j hj => Store.get_set_ne none none s.hw.calls.slots (some { c with state := .delivered }) hj,
      fun p hp => Store.get_set_ne [] [] s.hw.calls.results _ hp, rfl⟩

end Sys2Proof.Machine
end

section
-- As the tests above: declarations in order, so that checking the one text stays within its memory.
set_option Elab.async false
/-!
PROOFS. The writing phase of a bay reload (O28): the support masks of the bundle entries are computed with them (R43).
-/

namespace Sys2Proof.Machine

/-- An image whose one section gives truss 0 the bundle entries 0xAAAAAAAA and then zeros. -/
def oneBundleImage : List Byte :=
  List.replicate 0x20 0 ++ bytesOf 4 0x28 ++ bytesOf 4 1 ++
    (bytesOf 2 2 ++ bytesOf 2 0 ++ bytesOf 4 0x10000 ++ bytesOf 8 0x48 ++ bytesOf 8 4 ++ bytesOf 8 0) ++ bytesOf 4 0xAAAAAAAA

/-- A module whose bay 0 is being reloaded with that image, in the writing phase. -/
def rewriting : Hw := { img := { bay := some ⟨0, oneBundleImage, 1, 0⟩ } }

/-- Changes of the course rows, the bundles and the image alone keep the support masks. -/
theorem support_kept {h g : Hw} (e : g = { h with rows := g.rows, bundles := g.bundles, img := g.img }) : g.support = h.support := by rw [e]

theorem support_rewritten : (effect .bayWriteDone rewriting).support ≠ rewriting.support := by decide +kernel

/-- Refutes O28: BAY_WRITE_DONE of a reload of bay 0 with that image also stores the support mask 1 of entry 0, where none was stored, as
R43 has it; the clause names course rows, bundles and the image as all that changes. -/
theorem not_bayReloadPhases : ¬ Obligations.BayReloadPhases := by
  intro h
  obtain ⟨-, hwrite, -⟩ := h ⟨[], rewriting⟩ ⟨0, oneBundleImage, 1, 0⟩ rfl (by decide)
  obtain ⟨-, -, honly⟩ := (hwrite rfl).of_effect
  exact support_rewritten (support_kept honly)

end Sys2Proof.Machine
end

section
-- As the tests above: declarations in order, so that checking the one text stays within its memory.
set_option Elab.async false
/-!
PROOFS. The trace unit (chapter 13): its enable, its sink, the packets that are accepted and refused, and the gutter (O60).
-/

namespace Sys2Proof.Machine

/-! ## Staging -/

/-- The packets have been staged: of the registers only the counters `as` may have changed. -/
structure Staged (as : List Nat) (ps : List (BitVec 128)) (h g : Hw) : Prop where
  trace : g.trace = { h.trace with staging := h.trace.staging ++ ps }
  reg : ∀ a, a ∉ as → g.reg a = h.reg a
  rest : g = { h with regs := g.regs, trace := g.trace }

theorem Staged.trans {as : List Nat} {ps qs : List (BitVec 128)} {h g k : Hw} (a : Staged as ps h g) (b : Staged as qs g k) :
    Staged as (ps ++ qs) h k where
  trace := by rw [b.trace, a.trace, List.append_assoc]
  reg := fun x hx => (b.reg x hx).trans (a.reg x hx)
  rest := by rw [b.rest, a.rest]

theorem Staged.mono {as bs : List Nat} {ps : List (BitVec 128)} {h g : Hw} (a : Staged as ps h g) (hs : as ⊆ bs) : Staged bs ps h g :=
  ⟨a.trace, fun x hx => a.reg x fun hm => hx (hs hm), a.rest⟩

/-- The counter of a packet's type (R363, R367). -/
def countedBy (p : BitVec 128) : List Nat :=
  if fld p 127 124 = 7 then [traceA 0x30] else if fld p 127 124 = 5 then [traceA 0x34] else []

theorem countedBy_sub (p : BitVec 128) : countedBy p ⊆ [traceA 0x30, traceA 0x34] := by
  unfold countedBy
  split
  · simp
  · split <;> simp

theorem staged_stage (h : Hw) (p : BitVec 128) : Staged (countedBy p) [p] h (h.stage p) := by
  have key : ∀ a, Staged [a] [p] h (({ h with trace := { h.trace with staging := h.trace.staging ++ [p] } } : Hw).count a) := fun a =>
    ⟨rfl, fun b hb => (reg_fset _ ..).trans (if_neg (by simpa using hb)), rfl⟩
  unfold Hw.stage countedBy
  dsimp only
  split
  · exact key _
  · split
    · exact key _
    · exact ⟨rfl, fun _ _ => rfl, rfl⟩

/-- The type field of a packet whose other fields fit below it. -/
theorem fld_pkt {type src rest : Nat} (ht : type < 16) (hs : src < 16) (hr : rest < 2 ^ 120) : fld (pkt type src rest) 127 124 = type := by
  rw [fld, pkt, BitVec.extractLsb'_toNat, BitVec.toNat_ofNat, Nat.shiftRight_eq_div_pow]
  omega

theorem frameLo_lt (h : Hw) : h.frameLo < 65536 := Nat.mod_lt _ (by decide)

theorem timeField_lt (t : Nat) : timeField t < 2 ^ 96 := by
  unfold timeField timeParts unitsPerSec
  dsimp only
  omega

theorem type_timePacket {f : Nat} (hf : f < 65536) (b : Bool) (t : Nat) : fld (timePacket f b t) 127 124 = 6 := by
  have ht := timeField_lt t
  refine fld_pkt (by decide) (by decide) ?_
  cases b
  · simp only [Bool.false_eq_true, if_false]; omega
  · simp only [if_true]; omega

theorem type_syncPacket (w : Word64) {r : Nat} (hr : r < 16) : fld (syncPacket w r) 127 124 = 5 := by
  have := w.isLt
  exact fld_pkt (by decide) (by decide) (by omega)

/-- The TIME packet of the present clock (R364). -/
def Hw.timeNow (h : Hw) : BitVec 128 :=
  timePacket h.frameLo (!h.seq.inFrame) (if h.seq.inFrame then h.time.lastTick else h.time.now)

theorem timeNow_congr {h g : Hw} (hs : g.seq = h.seq) (ht : g.time = h.time) : g.timeNow = h.timeNow := by
  unfold Hw.timeNow Hw.frameLo
  rw [hs, ht]

theorem stageSync_eq (h : Hw) (r : Nat) : h.stageSync r = (h.stage (syncPacket h.seq.frame r)).stage h.timeNow := by
  have hrest := (staged_stage h (syncPacket h.seq.frame r)).rest
  have hst : ∀ g : Hw, g.stageTime = g.stage g.timeNow := fun _ => rfl
  unfold Hw.stageSync
  rw [hst, timeNow_congr (h := h) (by rw [hrest]) (by rw [hrest])]

theorem staged_two {p q : BitVec 128} (hp : fld p 127 124 = 5) (hq : fld q 127 124 = 6) (h : Hw) :
    Staged [traceA 0x34] [p, q] h ((h.stage p).stage q) := by
  have h1 := staged_stage h p
  have h2 := staged_stage (h.stage p) q
  rw [countedBy, hp, if_neg (by decide), if_pos rfl] at h1
  rw [countedBy, hq, if_neg (by decide), if_neg (by decide)] at h2
  exact h1.trans (h2.mono (List.nil_subset _))

theorem staged_stageSync (h : Hw) {r : Nat} (hr : r < 16) :
    Staged [traceA 0x34] [syncPacket h.seq.frame r, h.timeNow] h (h.stageSync r) := by
  rw [stageSync_eq]
  exact staged_two (type_syncPacket _ hr) (type_timePacket (frameLo_lt _) _ _) h

/-! ## CTRL and the sink's registers -/

/-- The word that CTRL takes. -/
abbrev ctlTaken (v : Word32) : Word32 := (v &&& 0x3F#32) ||| 0x20#32

theorem bget_ctlTaken (h : Hw) (v : Word32) : (h.setReg (traceA 0) (ctlTaken v)).bget (traceA 0) 0 = bit v 0 := by
  rw [Hw.bget, reg_setReg_same, bit_or, bit_and]
  cases bit v 0 <;> rfl

/-- A write of CTRL that stages SYNC and TIME. -/
def SyncedBy (v : Word32) (reason : Nat) (h g : Hw) : Prop :=
  (g.trace = { h.trace with staging := h.trace.staging ++ [syncPacket h.seq.frame reason, h.timeNow] } ∧
    OnlyRegs [traceA 0, traceA 0x34] h { g with trace := h.trace }) ∧ g.reg (traceA 0) = ctlTaken v

theorem syncedBy_of_staged {h m g : Hw} {v : Word32} {r : Nat} (hm : m = h.setReg (traceA 0) (ctlTaken v))
    (hs : Staged [traceA 0x34] [syncPacket h.seq.frame r, h.timeNow] m g) : SyncedBy v r h g := by
  have hreg : ∀ b, b ≠ traceA 0 → m.reg b = h.reg b := fun b hb => by rw [hm]; exact (reg_setReg ..).trans (if_neg hb)
  have hsame : m.reg (traceA 0) = ctlTaken v := by rw [hm]; exact reg_setReg_same ..
  have hrest : m = { h with regs := m.regs } := by rw [hm]; rfl
  have htr : m.trace = h.trace := by rw [hrest]
  refine ⟨⟨by rw [hs.trace, htr], ?_, fun a ha => ?_⟩, (hs.reg _ (by decide)).trans hsame⟩
  · rw [hs.rest, hrest]
  · rw [List.mem_cons, not_or] at ha
    exact (hs.reg a ha.2).trans (hreg a ha.1)

theorem syncedBy_stageSync (h : Hw) (v : Word32) {r : Nat} (hr : r < 16) :
    SyncedBy v r h ((h.setReg (traceA 0) (ctlTaken v)).stageSync r) := by
  have hs := staged_stageSync (h.setReg (traceA 0) (ctlTaken v)) hr
  have hm : ∃ m, m = h.setReg (traceA 0) (ctlTaken v) := ⟨_, rfl⟩
  obtain ⟨m, hm⟩ := hm
  rw [← hm] at hs ⊢
  have hseq : m.seq = h.seq := by rw [hm]; rfl
  rw [timeNow_congr hseq (by rw [hm]; rfl), hseq] at hs
  exact syncedBy_of_staged hm hs

theorem sinkOne_noRoom {h : Hw} (hr : h.sinkRoom = false) : h.sinkOne = h := by
  unfold Hw.sinkOne
  rw [hr]
  split
  · rfl
  · exact if_neg Bool.false_ne_true

theorem flushTrace_noRoom {h : Hw} (hr : h.sinkRoom = false) (ho : h.trace.offers = []) : h.flushTrace = h := by
  have ht : h.takeOffers = h := by
    unfold Hw.takeOffers
    rw [ho]
    rfl
  unfold Hw.flushTrace
  rw [ht]
  exact List.foldlRecOn (motive := fun g => g = h) _ _ rfl fun g hg _ _ => by rw [hg, sinkOne_noRoom hr]

/-- A write of CTRL without CLEAR_COUNTS, by whether the unit was enabled and the bits EN and SYNC_REQ written. -/
theorem writeTraceCtrl_plain {h : Hw} {v : Word32} (h7 : bit v 7 = false) : h.writeTraceCtrl v =
    let m := h.setReg (traceA 0) (ctlTaken v)
    let u := if !h.bget (traceA 0) 0 && bit v 0 then m.stageSync 0 else m
    let w := if bit v 6 then u.syncIfOn 3 else u
    if h.bget (traceA 0) 0 && !bit v 0 then w.flushTrace else w := by
  unfold Hw.writeTraceCtrl
  dsimp only
  rw [h7]
  simp only [Bool.false_eq_true, if_false]

theorem writeTraceCtrl_starts {h : Hw} {v : Word32} (h6 : bit v 6 = false) (h7 : bit v 7 = false) (hw : h.bget (traceA 0) 0 = false)
    (hv : bit v 0 = true) : h.writeTraceCtrl v = (h.setReg (traceA 0) (ctlTaken v)).stageSync 0 := by
  rw [writeTraceCtrl_plain h7]
  dsimp only
  rw [h6, hw, hv, if_neg (by decide), if_neg (by decide), if_pos (by decide)]

theorem writeTraceCtrl_stops {h : Hw} {v : Word32} (h6 : bit v 6 = false) (h7 : bit v 7 = false) (hw : h.bget (traceA 0) 0 = true)
    (hv : bit v 0 = false) : h.writeTraceCtrl v = (h.setReg (traceA 0) (ctlTaken v)).flushTrace := by
  rw [writeTraceCtrl_plain h7]
  dsimp only
  rw [h6, hw, hv, if_pos (by decide), if_neg (by decide), if_neg (by decide)]

theorem writeTraceCtrl_syncs {h : Hw} {v : Word32} (h6 : bit v 6 = true) (h7 : bit v 7 = false) (hw : h.bget (traceA 0) 0 = true)
    (hv : bit v 0 = true) : h.writeTraceCtrl v = (h.setReg (traceA 0) (ctlTaken v)).stageSync 3 := by
  have hb := (bget_ctlTaken h v).trans hv
  rw [writeTraceCtrl_plain h7]
  dsimp only
  rw [h6, hw, hv, if_neg (by decide), if_pos rfl, if_neg (by decide), Hw.syncIfOn, hb, if_pos rfl]

theorem sinkRoom_ctl (h : Hw) (v : Word32) : (h.setReg (traceA 0) v).sinkRoom = h.sinkRoom := by
  have hreg : ∀ b, b ≠ traceA 0 → (h.setReg (traceA 0) v).reg b = h.reg b := fun b hb => (reg_setReg ..).trans (if_neg hb)
  unfold Hw.sinkRoom Hw.sinkHost Hw.gutterSize Hw.bget
  rw [hreg (traceA 4) (by decide), hreg (traceA 0x14) (by decide), hreg (traceA 0x18) (by decide), hreg (traceA 0x10) (by decide)]
  rfl

/-- The bits of SINK, BASE and SIZE that a write replaces. -/
def sinkMask (o : Nat) : Word32 := if o = 4 then 3 else if o = 8 then 0xFFFFFFF0 else 0xFFFFFFFF

theorem accessCodes_sink : ∀ o ∈ [4, 8, 0xC, 0x10], accessCodes (traceA o) = some (sinkMask o, 0, 0) := by decide +kernel

theorem execTraceSinkCfgWrite_on {h : Hw} (hb : h.bget (traceA 0) 0 = true) (o : Nat) (v : Word32) : execTraceSinkCfgWrite h o v = h := by
  unfold execTraceSinkCfgWrite
  rw [hb]
  exact if_pos rfl

theorem execTraceSinkCfgWrite_off {h : Hw} (hb : h.bget (traceA 0) 0 = false) {o : Nat} (ho : o ∈ [4, 8, 0xC, 0x10]) (v : Word32) :
    execTraceSinkCfgWrite h o v = h.setReg (traceA o) ((h.reg (traceA o) &&& ~~~ sinkMask o) ||| (v &&& sinkMask o)) := by
  have hcond : (o == 4 || o == 8 || o == 0xC || o == 0x10) = true := by
    simp only [List.mem_cons, List.not_mem_nil, or_false] at ho
    rcases ho with rfl | rfl | rfl | rfl <;> rfl
  unfold execTraceSinkCfgWrite
  rw [hb, hcond, if_neg (by decide), plainWrite_of_codes (accessCodes_sink o ho), written_rw]

/-! ## Packets accepted and refused (R367, R368) -/

/-- Packets have been staged on the way of an accepted one. -/
structure Grew (ps : List (BitVec 128)) (h g : Hw) : Prop where
  staging : g.trace.staging = h.trace.staging ++ ps
  offers : g.trace.offers = h.trace.offers
  reg : ∀ a, a ∉ [traceA 0x30, traceA 0x34] → g.reg a = h.reg a
  path : ∀ e ∈ h.fault.path, e ∈ g.fault.path
  rest : g = { h with regs := g.regs, trace := g.trace, fault := g.fault }

theorem Grew.trans {ps qs : List (BitVec 128)} {h g k : Hw} (a : Grew ps h g) (b : Grew qs g k) : Grew (ps ++ qs) h k where
  staging := by rw [b.staging, a.staging, List.append_assoc]
  offers := b.offers.trans a.offers
  reg := fun x hx => (b.reg x hx).trans (a.reg x hx)
  path := fun e he => b.path e (a.path e he)
  rest := by rw [b.rest, a.rest]

theorem Grew.refl (h : Hw) : Grew [] h h := ⟨(List.append_nil _).symm, rfl, fun _ _ => rfl, fun _ he => he, rfl⟩

theorem Staged.grew {as : List Nat} {ps : List (BitVec 128)} {h g : Hw} (a : Staged as ps h g)
    (hs : as ⊆ [traceA 0x30, traceA 0x34]) : Grew ps h g where
  staging := by rw [a.trace]
  offers := by rw [a.trace]
  reg := (a.mono hs).reg
  path := fun e he => by rw [a.rest]; exact he
  rest := by rw [a.rest]

/-- The GAP of what a source has been refused. -/
def Hw.gapOf (h : Hw) (src : Nat) : List (BitVec 128) :=
  if h.trace.refused.getD src 0 = 0 then []
  else [gapPacket h.frameLo 0 src (min (h.trace.refused.getD src 0) 0xFFFFFFFF)]

theorem set_getD_self {α : Type} (l : List α) (i : Nat) {v d : α} (h : l.getD i d = v) : l.set i v = l := by
  by_cases hi : i < l.length
  · have : l[i] = v := by rw [← h, List.getD_eq_getElem _ _ hi]
    rw [← this, List.set_getElem_self]
  · exact List.set_eq_of_length_le (Nat.le_of_not_lt hi)

/-- Source src has had its GAP, and a SYNC is due to it; TRACE_DROP is raised. -/
def Hw.gapNoted (m : Hw) (src : Nat) : Hw :=
  ({ m with trace := { m.trace with
    refused := m.trace.refused.set src 0, syncDue := m.trace.syncDue.set src true } } : Hw).raise evTraceDrop

theorem gapNoted_fields (m : Hw) (src : Nat) (hp : m.pstate < 3) : Grew [] m (m.gapNoted src) ∧
    (m.gapNoted src).trace.refused = m.trace.refused.set src 0 ∧ (m.gapNoted src).trace.syncDue = m.trace.syncDue.set src true ∧
    ∃ e ∈ (m.gapNoted src).fault.path, e.id = evTraceDrop := by
  unfold Hw.gapNoted
  have hq : ({ m with trace := { m.trace with
    refused := m.trace.refused.set src 0, syncDue := m.trace.syncDue.set src true } } : Hw).pstate = m.pstate := rfl
  have hon := onPath_raised (d := 0) (p := false) (id := evTraceDrop) hq (.refl _)
  have hsig := (signals_raiseWith ({ m with trace := { m.trace with
    refused := m.trace.refused.set src 0, syncDue := m.trace.syncDue.set src true } } : Hw) evTraceDrop 0 false).path
  exact ⟨⟨(List.append_nil _).symm, rfl, fun _ _ => rfl, hsig, rfl⟩, rfl, rfl, hon hp⟩

theorem stageGap_eq (h : Hw) (src : Nat) : h.stageGap src = if h.trace.refused.getD src 0 = 0 then h
    else (h.stage (gapPacket h.frameLo 0 src (min (h.trace.refused.getD src 0) 0xFFFFFFFF))).gapNoted src := rfl

theorem stageGap_fields (h : Hw) (src : Nat) (hp : h.pstate < 3) : Grew (h.gapOf src) h (h.stageGap src) ∧
    (h.stageGap src).trace.refused = h.trace.refused.set src 0 ∧
    (h.stageGap src).trace.syncDue = (if h.trace.refused.getD src 0 = 0 then h.trace.syncDue else h.trace.syncDue.set src true) ∧
    (h.trace.refused.getD src 0 ≠ 0 → ∃ e ∈ (h.stageGap src).fault.path, e.id = evTraceDrop) := by
  rw [stageGap_eq, Hw.gapOf]
  generalize gapPacket h.frameLo 0 src (min (h.trace.refused.getD src 0) 0xFFFFFFFF) = p
  split
  · next h0 =>
    exact ⟨.refl h, (set_getD_self _ _ h0).symm, rfl, fun hn => absurd h0 hn⟩
  · have hs := staged_stage h p
    have hg := hs.grew (countedBy_sub _)
    have htr := hs.trace
    generalize h.stage p = m at hg htr
    have hpm : m.pstate < 3 := by
      rw [Hw.pstate, Hw.fget, hg.reg _ (by decide)]
      exact hp
    obtain ⟨g2, hr, hd, hon⟩ := gapNoted_fields m src hpm
    have hfin := hg.trans g2
    rw [List.append_nil] at hfin
    exact ⟨hfin, by rw [hr, htr], by rw [hd, htr], fun _ => hon⟩

/-- The SYNC and TIME that are due to a source. -/
def Hw.dueOf (h : Hw) (b : Bool) : List (BitVec 128) := if b then [syncPacket h.seq.frame 2, h.timeNow] else []

theorem stageDueSync_fields (h : Hw) (src : Nat) : Grew (h.dueOf (h.trace.syncDue.getD src false)) h (h.stageDueSync src) ∧
    (h.stageDueSync src).trace.refused = h.trace.refused := by
  unfold Hw.stageDueSync Hw.dueOf
  split
  · have h0 : Grew [] h { h with trace := { h.trace with syncDue := h.trace.syncDue.set src false } } :=
      ⟨(List.append_nil _).symm, rfl, fun _ _ => rfl, fun _ he => he, rfl⟩
    have hseq : ({ h with trace := { h.trace with syncDue := h.trace.syncDue.set src false } } : Hw).seq = h.seq := rfl
    have htm : ({ h with trace := { h.trace with syncDue := h.trace.syncDue.set src false } } : Hw).time = h.time := rfl
    have href : ({ h with trace := { h.trace with syncDue := h.trace.syncDue.set src false } } : Hw).trace.refused = h.trace.refused := rfl
    generalize ({ h with trace := { h.trace with syncDue := h.trace.syncDue.set src false } } : Hw) = m at h0 hseq htm href
    have hs := staged_stageSync m (r := 2) (by decide)
    rw [timeNow_congr hseq htm, hseq] at hs
    generalize m.stageSync 2 = g at hs
    exact ⟨h0.trans (hs.grew (by simp)), by rw [hs.trace]; exact href⟩
  · exact ⟨.refl h, rfl⟩

/-- The state in which source src no longer waits for a frame's first packet. -/
def Hw.unsynced (h : Hw) (src : Nat) : Hw :=
  if src ≤ 1 then { h with trace := { h.trace with resync := h.trace.resync.set src false } } else h

theorem takeOffer_accepted {h : Hw} {o : TraceOffer} (hr : h.trace.resync.getD o.src false = false)
    (hl : h.trace.staging.length < stageLimit o.src) :
    h.takeOffer o = (((h.unsynced o.src).stageGap o.src).stageDueSync o.src).stage o.pkt := by
  unfold Hw.takeOffer
  dsimp only
  rw [hr, if_neg (by simp; omega)]
  rfl

theorem takeOffer_refused {h : Hw} {o : TraceOffer} (hl : stageLimit o.src ≤ h.trace.staging.length) :
    h.takeOffer o = h.refusePkt o.src (fld o.pkt 127 124 == 1) := by
  unfold Hw.takeOffer
  dsimp only
  rw [if_pos (by simp [hl])]

theorem unsynced_same {h : Hw} {src : Nat} (hr : h.trace.resync.getD src false = false) :
    h.unsynced src = h := by
  unfold Hw.unsynced
  split
  · rw [set_getD_self _ _ hr]
  · rfl

/-- Whether a SYNC is due to a source after its GAP. -/
theorem syncDue_afterGap {l : List Bool} (hl : l.length = 2) {src : Nat} (n : Nat) :
    ((if n = 0 then l else l.set src true).getD src false = true) = (l.getD src false = true ∨ (n ≠ 0 ∧ src ≤ 1)) := by
  by_cases hn : n = 0
  · simp [hn]
  · rw [if_neg hn, List.getD_eq_getElem?_getD, List.getElem?_set]
    by_cases hs : src ≤ 1
    · simp [hn, hs, show src < l.length by omega]
    · simp [hs, show ¬ src < l.length by omega, List.getD_eq_getElem?_getD]

/-! ## The gutter (R366) -/

theorem setFarWord_written {h : Hw} {d a : Nat} (hw : h.farWritten d a = true) (v : Word64) :
    h.setFarWord d a v = { h with farMem := Store.set 0 h.farMem (farKey d a) (decEncode v) } := by
  simp only [Hw.setFarWord, hw, if_true]

/-- Only far memory and the marks of its written lines have changed. -/
def FarStored (h g : Hw) : Prop := g = { h with farMem := g.farMem, farValid := g.farValid }

theorem farStored_setFarWord (h : Hw) (d a : Nat) (v : Word64) : FarStored h (h.setFarWord d a v) := by
  unfold Hw.setFarWord
  dsimp only
  split <;> rfl

theorem FarStored.trans {h g k : Hw} (a : FarStored h g) (b : FarStored g k) : FarStored h k := by
  unfold FarStored at *
  rw [b, a]

/-- The state after the packet itself has been written. -/
def Hw.packetOut (h : Hw) (p : BitVec 128) : Hw :=
  let off := (h.reg (traceA 0x14)).toNat % h.gutterSize * 16
  if h.sinkHost then h.emit (.hostWrite (((h.reg64 (traceA 8)).toNat / 16 * 16) + off) (bytesOf 16 p.toNat))
  else
    let w := (fld (h.reg64 (traceA 8)) 35 4 * 16 + off) / 8
    (h.setFarWord (fld (h.reg64 (traceA 8)) 36 36) w (p.extractLsb' 0 64)).setFarWord (fld (h.reg64 (traceA 8)) 36 36) (w + 1)
      (p.extractLsb' 64 64)

theorem packetOut_kept (h : Hw) (p : BitVec 128) : (h.packetOut p).regs = h.regs ∧ (h.packetOut p).stepping = h.stepping ∧
    (h.packetOut p).trace = h.trace := by
  unfold Hw.packetOut
  dsimp only
  split
  · exact ⟨rfl, rfl, rfl⟩
  · have h1 := (farStored_setFarWord h (fld (h.reg64 (traceA 8)) 36 36)
      ((fld (h.reg64 (traceA 8)) 35 4 * 16 + (h.reg (traceA 0x14)).toNat % h.gutterSize * 16) / 8) (p.extractLsb' 0 64)).trans
      (farStored_setFarWord _ (fld (h.reg64 (traceA 8)) 36 36)
        ((fld (h.reg64 (traceA 8)) 35 4 * 16 + (h.reg (traceA 0x14)).toNat % h.gutterSize * 16) / 8 + 1) (p.extractLsb' 64 64))
    rw [h1]
    exact ⟨rfl, rfl, rfl⟩

/-- A write of the gutter beside the packet: WR_INDEX, and perhaps the count of the rounds. -/
theorem gutterWrite_fields (h : Hw) (p : BitVec 128) : ∃ r, h.gutterWrite p = { h.packetOut p with regs := r } ∧
    (h.gutterWrite p).reg (traceA 0x14) = BitVec.ofNat 32 ((h.reg (traceA 0x14)).toNat + 1) := by
  have hg : h.gutterWrite p =
      let m := (h.packetOut p).setReg (traceA 0x14) (BitVec.ofNat 32 ((h.reg (traceA 0x14)).toNat + 1))
      if !m.bget (traceA 4) 1 && ((h.reg (traceA 0x14)).toNat + 1) % m.gutterSize == 0 then m.count (traceA 0x38) else m := rfl
  rw [hg]
  dsimp only
  generalize h.packetOut p = k
  split
  · refine ⟨_, rfl, ?_⟩
    rw [Hw.count, Hw.bump, reg_fset, if_neg (by decide)]
    exact reg_setReg_same ..
  · exact ⟨_, rfl, reg_setReg_same ..⟩

theorem execTraceSinkWrite_idle {h : Hw} (hc : h.bget (traceA 0) 0 = false ∨ h.sinkRoom = false ∨ ¬(h.sinkHost = true ∨ h.pstate < 2)) :
    execTraceSinkWrite h = h := by
  unfold execTraceSinkWrite
  rcases hc with hc | hc | hc
  · rw [hc]; rfl
  · rw [sinkOne_noRoom hc, ite_self]
  · rw [if_neg (by simpa using fun _ => not_or.1 hc)]

theorem execTraceSinkWrite_packet {h : Hw} {p : BitVec 128} {rest : List (BitVec 128)} (hs : h.trace.staging = p :: rest)
    (hb : h.bget (traceA 0) 0 = true) (hr : h.sinkRoom = true) (hc : h.sinkHost = true ∨ h.pstate < 2) :
    execTraceSinkWrite h = ({ h with trace := { h.trace with staging := rest } } : Hw).gutterWrite p := by
  unfold execTraceSinkWrite
  rw [if_pos (by simpa [hb] using hc)]
  unfold Hw.sinkOne
  rw [hs]
  dsimp only
  rw [if_pos hr]

theorem packetOut_host {h : Hw} (hs : h.sinkHost = true) (p : BitVec 128) : (h.packetOut p).farMem = h.farMem ∧
    (h.packetOut p).out = h.out ++ [.hostWrite ((h.reg64 (traceA 8)).toNat / 16 * 16 +
      (h.reg (traceA 0x14)).toNat % h.gutterSize * 16) (bytesOf 16 p.toNat)] := by
  unfold Hw.packetOut
  dsimp only
  rw [if_pos hs]
  exact ⟨rfl, rfl⟩

/-- Two neighbouring words stored in far memory. -/
theorem twoFarWords {h : Hw} {d w : Nat} (hw : h.farWritten d w = true) (hw1 : h.farWritten d (w + 1) = true) (u v : Word64) :
    let g := (h.setFarWord d w u).setFarWord d (w + 1) v
    g.farWord d w = decEncode u ∧ g.farWord d (w + 1) = decEncode v ∧
      ∀ e a, a < 2 ^ 33 → w + 1 < 2 ^ 33 → (e, a) ≠ (d, w) → (e, a) ≠ (d, w + 1) → g.farWord e a = h.farWord e a := by
  have h1 : ({ h with farMem := Store.set 0 h.farMem (farKey d w) (decEncode u) } : Hw).farWritten d (w + 1) = true := hw1
  have e1 := setFarWord_written hw u
  have e2 := setFarWord_written h1 v
  rw [e1, e2]
  have hk : farKey d w ≠ farKey d (w + 1) := by unfold farKey; omega
  refine ⟨?_, Store.get_set_same 0 (Store.set 0 h.farMem (farKey d w) (decEncode u)) (farKey d (w + 1)) (decEncode v),
    fun e a ha hlt hn hn1 => ?_⟩
  · exact (Store.get_set_ne 0 0 (Store.set 0 h.farMem (farKey d w) (decEncode u)) _ hk).trans
      (Store.get_set_same 0 h.farMem (farKey d w) (decEncode u))
  · refine (Store.get_set_ne 0 0 (Store.set 0 h.farMem (farKey d w) (decEncode u)) _ fun he => hn1 ?_).trans
      (Store.get_set_ne 0 0 h.farMem _ fun he => hn ?_)
    · obtain ⟨rfl, rfl⟩ := farKey_inj (by omega) ha he
      rfl
    · obtain ⟨rfl, rfl⟩ := farKey_inj (by omega) ha he
      rfl

/-- Settles O60: CTRL by the equation of its case, packets by what staging appends, the gutter by the packet written and WR_INDEX. -/
theorem traceUnit : Obligations.TraceUnit := by
  intro s t ctl time synced
  refine ⟨fun v h6 h7 => ⟨fun hw hv => does_of rfl ?_, fun hw hv hroom ho => does_of rfl ?_⟩, fun v h6 h7 hv hw => does_of rfl ?_,
    fun o ho v => ⟨fun hb => ?_, fun hb => ?_⟩, fun hp => ?_, ?_, ?_⟩
  · rw [show effect (.traceEnWrite v) s.hw = _ from writeTraceCtrl_starts h6 h7 hw hv]
    exact syncedBy_stageSync s.hw v (by decide)
  · rw [show effect (.traceEnWrite v) s.hw = _ from writeTraceCtrl_stops h6 h7 hw hv,
      flushTrace_noRoom ((sinkRoom_ctl s.hw _).trans hroom) ho]
    exact ⟨reg_setReg_same .., onlyRegs_setReg ..⟩
  · rw [show effect (.syncReq v) s.hw = s.hw.writeTraceCtrl v from if_pos h6, writeTraceCtrl_syncs h6 h7 hw hv]
    exact syncedBy_stageSync s.hw v (by decide)
  · exact exec_unchanged (List.contains_iff_mem.2 ho) (execTraceSinkCfgWrite_on hb o v)
  · refine does_of (List.contains_iff_mem.2 ho) ?_
    rw [show effect (.traceSinkCfgWrite o v) s.hw = _ from execTraceSinkCfgWrite_off hb ho v]
    exact ⟨reg_setReg_same .., onlyRegs_setReg ..⟩
  · exact exec_unchanged rfl (if_neg hp)
  · intro o rest hp ho hsrc hres hrl hsl n gap due
    have heff : effect .tracePacket s.hw = ({ s.hw with trace := { t with offers := rest } } : Hw).takeOffer o := by
      change execTracePacket s.hw = _
      unfold execTracePacket
      rw [if_pos hp]
      unfold Hw.takeFirst
      rw [ho]
    refine ⟨fun hl => does_of rfl ?_, fun hl => does_of rfl ?_⟩
    · rw [heff, takeOffer_accepted (h := { s.hw with trace := { t with offers := rest } }) hres hl,
        unsynced_same (h := { s.hw with trace := { t with offers := rest } }) hres]
      obtain ⟨u, hrest⟩ : ∃ u : Hw, u = { s.hw with trace := { t with offers := rest } } := ⟨_, rfl⟩
      rw [← hrest]
      have hu : u.trace = { t with offers := rest } := by rw [hrest]
      have hreg : u.reg = s.hw.reg := by rw [hrest]; rfl
      have hgap : u.gapOf o.src = gap := by rw [hrest]; rfl
      have hdue : ∀ b, u.dueOf b = if b then [syncPacket s.hw.seq.frame 2, time] else [] := fun _ => by rw [hrest]; rfl
      have hps : u.pstate < 3 := by
        rw [Hw.pstate, Hw.fget, hreg]
        exact Nat.lt_of_le_of_lt (Nat.le_of_eq hp) (by decide)
      obtain ⟨g1, hrefused, hsync, hdrop⟩ := stageGap_fields u o.src hps
      have hn0 : u.trace.refused.getD o.src 0 = n := by rw [hu]
      have hkeep : u.stageGap o.src = u ∨ n ≠ 0 := by
        by_cases h0 : n = 0
        · left
          unfold Hw.stageGap
          dsimp only
          rw [if_pos (hn0.trans h0)]
        · exact Or.inr h0
      rw [hgap] at g1
      rw [hn0] at hsync hdrop
      generalize u.stageGap o.src = a at g1 hrefused hsync hdrop hkeep
      obtain ⟨g2, hrefused2⟩ := stageDueSync_fields a o.src
      have hdue2 : a.dueOf (a.trace.syncDue.getD o.src false) = due := by
        have hb : a.dueOf (a.trace.syncDue.getD o.src false) = u.dueOf (a.trace.syncDue.getD o.src false) := by rw [g1.rest]; rfl
        rw [hb, hdue, hsync, hu]
        exact if_congr (iff_of_eq (syncDue_afterGap hsl n)) rfl rfl
      have hkeep2 : a.stageDueSync o.src = a ∨ due ≠ [] := by
        rw [← hdue2]
        unfold Hw.stageDueSync Hw.dueOf
        split
        · exact Or.inr (by simp)
        · exact Or.inl rfl
      rw [hdue2] at g2
      generalize a.stageDueSync o.src = b at g2 hrefused2 hkeep2
      have h3 := staged_stage b o.pkt
      have g3 := h3.grew (countedBy_sub _)
      have hexact : fld o.pkt 127 124 ≠ 5 → fld o.pkt 127 124 ≠ 7 →
          b.stage o.pkt = { b with trace := { b.trace with staging := b.trace.staging ++ [o.pkt] } } := fun h5 h7 => by
        unfold Hw.stage
        dsimp only
        rw [if_neg h7, if_neg h5]
      have href3 : (b.stage o.pkt).trace.refused = b.trace.refused := by rw [h3.trace]
      generalize b.stage o.pkt = c at g3 hexact href3
      have gf := (g1.trans g2).trans g3
      refine ⟨by rw [gf.offers, hu], ?_, ?_, fun hn _ => ?_, ⟨?_, fun x hx => ?_⟩, fun hnil h5 h7 => ?_⟩
      · rw [gf.staging, hu, List.append_assoc, List.append_assoc, List.append_assoc]
      · rw [href3, hrefused2, hrefused, hu]
      · obtain ⟨e, he, hid⟩ := hdrop hn
        exact ⟨e, g3.path e (g2.path e he), hid⟩
      · rw [gf.rest, hrest]
      · exact (gf.reg x hx).trans (congrFun hreg x)
      · obtain ⟨hg0, hd0⟩ := List.append_eq_nil_iff.1 hnil
        have hb : b = a := hkeep2.resolve_right fun hd => hd hd0
        have ha : a = u := hkeep.resolve_right fun hn => by
          rw [show gap = if n = 0 then [] else [gapPacket s.hw.frameLo 0 o.src (min n 0xFFFFFFFF)] from rfl, if_neg hn] at hg0
          cases hg0
        rw [hexact h5 h7, hb, ha, hrest]
    · rw [heff, takeOffer_refused (h := { s.hw with trace := { t with offers := rest } }) hl]
      refine ⟨rfl, rfl, rfl, ?_, rfl, fun a ha => ?_⟩
      · exact fget_bump_same s.hw (traceA (0x20 + 4 * o.src)) 1 (by decide)
      · exact (reg_fset s.hw ..).trans (if_neg (by simpa using ha))
  · intro p rest hs ix base off reached
    refine ⟨fun hc => exec_unchanged rfl (execTraceSinkWrite_idle hc), fun hb hr hc => does_of rfl ?_⟩
    rw [show effect .traceSinkWrite s.hw = _ from execTraceSinkWrite_packet hs hb hr hc]
    have hfar : ∀ d a, ({ s.hw with trace := { t with staging := rest } } : Hw).farWritten d a = s.hw.farWritten d a := fun _ _ => rfl
    have hword : ({ s.hw with trace := { t with staging := rest } } : Hw).farWord = s.hw.farWord := rfl
    have hmem : ({ s.hw with trace := { t with staging := rest } } : Hw).farMem = s.hw.farMem := rfl
    have hout : ({ s.hw with trace := { t with staging := rest } } : Hw).out = s.hw.out := rfl
    have htr : ({ s.hw with trace := { t with staging := rest } } : Hw).trace = { t with staging := rest } := rfl
    have hhost : ({ s.hw with trace := { t with staging := rest } } : Hw).sinkHost = s.hw.sinkHost := rfl
    have hix : (({ s.hw with trace := { t with staging := rest } } : Hw).reg (traceA 0x14)).toNat = ix := rfl
    have hoff : (({ s.hw with trace := { t with staging := rest } } : Hw).reg (traceA 0x14)).toNat %
      ({ s.hw with trace := { t with staging := rest } } : Hw).gutterSize * 16 = off := rfl
    have hbase : ({ s.hw with trace := { t with staging := rest } } : Hw).reg64 (traceA 8) = base := rfl
    generalize ({ s.hw with trace := { t with staging := rest } } : Hw) = u at hfar hword hmem hout htr hhost hix hoff hbase
    obtain ⟨r, he, hreg⟩ := gutterWrite_fields u p
    obtain ⟨-, -, hk⟩ := packetOut_kept u p
    generalize u.gutterWrite p = g at he hreg
    have htrace : g.trace = (u.packetOut p).trace := by rw [he]
    have hgmem : g.farMem = (u.packetOut p).farMem := by rw [he]
    have hgout : g.out = (u.packetOut p).out := by rw [he]
    refine ⟨htrace.trans (hk.trans htr), by rw [hreg, hix], fun hh => ?_, fun hh => ?_⟩
    · obtain ⟨h1, h2⟩ := packetOut_host (hhost.trans hh) p
      exact ⟨hgmem.trans (h1.trans hmem), by rw [hgout, h2, hout, hbase, hoff]⟩
    · have hpk : u.packetOut p = (u.setFarWord (fld base 36 36) ((fld base 35 4 * 16 + off) / 8) (p.extractLsb' 0 64)).setFarWord
          (fld base 36 36) ((fld base 35 4 * 16 + off) / 8 + 1) (p.extractLsb' 64 64) := by
        unfold Hw.packetOut
        dsimp only
        rw [hhost, hh, if_neg (by decide), hoff, hbase]
      have hst := (farStored_setFarWord u (fld base 36 36) ((fld base 35 4 * 16 + off) / 8) (p.extractLsb' 0 64)).trans
        (farStored_setFarWord _ (fld base 36 36) ((fld base 35 4 * 16 + off) / 8 + 1) (p.extractLsb' 64 64))
      rw [← hpk] at hst
      refine ⟨by rw [hgout, hst]; exact hout, ?_⟩
      intro d w hw hw1
      obtain ⟨h1, h2, h3⟩ := twoFarWords (h := u) ((hfar d w).trans hw) ((hfar d (w + 1)).trans hw1) (p.extractLsb' 0 64) (p.extractLsb' 64 64)
      have hgw : ∀ e a, g.farWord e a = (u.packetOut p).farWord e a := fun e a => by unfold Hw.farWord; rw [hgmem]
      rw [← hpk] at h1 h2 h3
      exact ⟨(hgw ..).trans h1, (hgw ..).trans h2, fun e a ha hlt hn hn1 => (hgw ..).trans ((h3 e a ha hlt hn hn1).trans (by rw [hword]))⟩

end Sys2Proof.Machine
end

section
-- As the tests above: declarations in order, so that checking the one text stays within its memory.
set_option Elab.async false
/-!
PROOFS. Service access (R484 to R487): challenges, responses, the end of a session, and the password key (O30).
-/

namespace Sys2Proof.Machine

/-! ## The banks that TEST owns, when a session ends (R486) -/

/-- Every owner word of `as` that names TEST asks for MP; the others, and TEST as the owner in force, stay. -/
structure TestEnded (as : List Nat) (h g : Hw) : Prop where
  others : ∀ a, h.fget a 2 0 ≠ 4 → g.reg a = h.reg a
  owner : ∀ a, h.fget a 2 0 = 4 → g.fget a 2 0 = 4
  asks : ∀ a, h.fget a 2 0 = 4 → a ∈ as ∨ (h.fget a 6 4 = 2 ∧ h.bget a 3 = true) → g.fget a 6 4 = 2 ∧ g.bget a 3 = true
  rest : g = { h with regs := g.regs }

theorem TestEnded.trans {as bs : List Nat} {h g k : Hw} (x : TestEnded as h g) (y : TestEnded bs g k) : TestEnded (as ++ bs) h k where
  others := fun a ha => (y.others a (by rw [Hw.fget, x.others a ha]; exact ha)).trans (x.others a ha)
  owner := fun a ha => y.owner a (x.owner a ha)
  asks := fun a ha hm => y.asks a (x.owner a ha) <| by
    rcases hm with hm | hm
    · rcases List.mem_append.1 hm with hm | hm
      · exact Or.inr (x.asks a ha (Or.inl hm))
      · exact Or.inl hm
    · exact Or.inr (x.asks a ha (Or.inr hm))
  rest := by rw [y.rest, x.rest]

theorem TestEnded.refl (h : Hw) : TestEnded [] h h :=
  ⟨fun _ _ => rfl, fun _ ha => ha, fun _ _ hm => hm.resolve_left List.not_mem_nil, rfl⟩

/-- One owner word of a session that ends. -/
def Hw.endTest (h : Hw) (a : Nat) : Hw := if h.fget a 2 0 = 4 then h.requestOwner a 2 else h

theorem testEnded_endTest (h : Hw) (a : Nat) : TestEnded [a] h (h.endTest a) := by
  unfold Hw.endTest
  split
  · next ht =>
    obtain ⟨h1, h2, h3, h4, h5⟩ := requestOwner_requests h a (o := 2) (by decide)
    have hne : ∀ b, b ≠ a → (h.requestOwner a 2).reg b = h.reg b := fun b hb => h5 b (by simpa using hb)
    refine ⟨fun b hb => hne b fun he => hb (he ▸ ht), fun b hb => ?_, fun b hb hm => ?_, h4⟩
    · by_cases he : b = a
      · rw [he, h1, ht]
      · rw [Hw.fget, hne b he]; exact hb
    · by_cases he : b = a
      · rw [he]
        exact ⟨h2, by rw [h3, ht]; rfl⟩
      · rw [Hw.fget, Hw.bget, hne b he]
        exact hm.resolve_left (by simpa using he)
  · next ht =>
    refine ⟨fun _ _ => rfl, fun _ hb => hb, fun b hb hm => hm.resolve_left fun he => ht ?_, rfl⟩
    rw [List.mem_singleton] at he
    rw [← he, hb]

theorem testEnded_foldl (as : List Nat) (h : Hw) : TestEnded as h (as.foldl Hw.endTest h) := by
  induction as generalizing h with
  | nil => exact .refl h
  | cons a as ih => exact (testEnded_endTest h a).trans (ih _)

/-- The owner words of the memories. -/
def ownerWords : List Nat := ((List.range 128).map fun b => bankA (b / 64) (4 * (b % 64))) ++ (List.range 16).map scrA

theorem endTestOwners_eq (h : Hw) : h.endTestOwners = ownerWords.foldl Hw.endTest h := by
  unfold ownerWords
  rw [List.foldl_append, List.foldl_map, List.foldl_map]
  rfl

theorem mem_ownerWords {d j : Nat} (hd : d < 2) (hj : j < 64) : bankA d (4 * j) ∈ ownerWords :=
  List.mem_append_left _ (List.mem_map.2 ⟨64 * d + j, List.mem_range.2 (by omega), by
    rw [show (64 * d + j) / 64 = d by omega, show (64 * d + j) % 64 = j by omega]⟩)

/-- A session has ended. -/
def SessionClosed (h g : Hw) : Prop :=
  g.fw = { h.fw with session := none } ∧
    (∀ d j, d < 2 → j < 64 →
      (h.fget (bankA d (4 * j)) 2 0 = 4 →
        g.fget (bankA d (4 * j)) 6 4 = 2 ∧ g.bget (bankA d (4 * j)) 3 = true ∧ g.fget (bankA d (4 * j)) 2 0 = 4) ∧
      (h.fget (bankA d (4 * j)) 2 0 ≠ 4 → g.reg (bankA d (4 * j)) = h.reg (bankA d (4 * j)))) ∧
    g = { h with fw := g.fw, regs := g.regs }

theorem endSession_open {h : Hw} (hs : h.fw.session ≠ none) : SessionClosed h h.endSession := by
  have he : h.endSession = ownerWords.foldl Hw.endTest { h with fw := { h.fw with session := none } } := by
    unfold Hw.endSession
    rw [if_neg (by simpa using hs), endTestOwners_eq]
  have t := testEnded_foldl ownerWords ({ h with fw := { h.fw with session := none } } : Hw)
  rw [← he] at t
  have hr := t.rest
  refine ⟨by rw [hr], fun d j hd hj => ⟨fun h4 => ?_, fun hne => t.others _ hne⟩, by rw [hr]⟩
  obtain ⟨h1, h2⟩ := t.asks _ h4 (Or.inl (mem_ownerWords hd hj))
  exact ⟨h1, h2, t.owner _ h4⟩

theorem endSession_none {h : Hw} (hs : h.fw.session = none) : h.endSession = h := by
  unfold Hw.endSession
  rw [hs]
  rfl

/-! ## Responses (R484, R485) -/

/-- The state that a wrong response leaves. -/
structure AccessFailed (h g : Hw) : Prop where
  nonce : g.fw.nonce = none
  failures : g.fw.failures = h.fw.failures + 1
  session : g.fw.session = h.fw.session
  lockLen : g.fw.lockLen = if h.fw.failures < 4 then h.fw.lockLen
    else if h.fw.lockLen = 0 then 60 else min 86400 (2 * h.fw.lockLen)
  lockLeft : g.fw.lockLeft = if h.fw.failures < 4 then h.fw.lockLeft else g.fw.lockLen * unitsPerSec
  rest : g = { h with fw := g.fw, fault := g.fault }

theorem accessFailed_fields (h : Hw) : AccessFailed h h.accessFailed := by
  unfold Hw.accessFailed
  dsimp only
  split
  · next hn =>
    have h4 : h.fw.failures < 4 := by omega
    exact ⟨rfl, rfl, rfl, (if_pos h4).symm, (if_pos h4).symm, rfl⟩
  · next hn =>
    have h4 : ¬ h.fw.failures < 4 := by omega
    exact ⟨rfl, rfl, rfl, (if_neg h4).symm, (if_neg h4).symm, rfl⟩

theorem raised_raise (h : Hw) (id : Nat) : Raised id 0 h (h.raise id) := ⟨false, rfl⟩

section
variable (s : State) (k : Nat) (io : HostIo)

theorem accessChallenge_answers (r : SlotRuns s.hw k 0x0B05 []) :
    (s.hw.fw.lockLeft = 0 → Answers (.accessChallenge (.slot k) io) s k stOk fun m r => ∃ n,
      r = bytesOf 32 n.toNat ++ [0, 0, 0, 0] ∧
        m = { s.hw with fw := { s.hw.fw with nonce := some n, nonces := s.hw.fw.nonces + 1 } }) ∧
    (s.hw.fw.lockLeft ≠ 0 → Answers (.accessChallenge (.slot k) io) s k stLocked fun m r => m = s.hw ∧
      r = List.replicate 32 0 ++ bytesOf 4 ((s.hw.fw.lockLeft + unitsPerSec - 1) / unitsPerSec)) := by
  have run := fun {st reply mid P} => answers_of_runNow (P := P) (st := st) (reply := reply) (mid := mid)
    (fun _ h => h.accessChallenge) r (i := .accessChallenge (.slot k) io) (io := io) r.1.src_ok rfl rfl rfl rfl rfl
  refine ⟨fun hl => ?_, fun hl => ?_⟩
  · refine run (st := stOk) (reply := bytesOf 32 (Config.freshNonce s.hw.fw.nonces).toNat ++ bytesOf 4 0) ?_ (by decide)
      (by rw [List.length_append, bytesOf_length, bytesOf_length]; decide) ⟨_, rfl, rfl⟩
    unfold Hw.accessChallenge
    rw [if_neg (by simp [Hw.locked, hl])]
  · refine run (st := stLocked) (mid := s.hw) (reply := List.replicate 32 0#8 ++ bytesOf 4 s.hw.lockSeconds) ?_ (by decide)
      (by rw [List.length_append, List.length_replicate, bytesOf_length]; decide) ⟨rfl, rfl⟩
    unfold Hw.accessChallenge
    rw [if_pos (by simp [Hw.locked, hl])]

theorem accessResponse_answers {args : List Byte} (h68 : args.length = 68) (hm : arg args 0 1 ≤ 1) (hz : arg args 1 3 = 0)
    (hr : arg args 0 1 = 0 ∨ arg args 36 32 = 0) (r : SlotRuns s.hw k 0x0B06 args) :
    (s.hw.fw.lockLeft ≠ 0 → Answers (.accessResponse (.slot k) io) s k stLocked fun m r => m = s.hw ∧ r = []) ∧
    (s.hw.fw.lockLeft = 0 → s.hw.fw.nonce = none →
      Answers (.accessResponse (.slot k) io) s k stRefused fun m r => m = s.hw ∧ r = []) ∧
    ∀ n, s.hw.fw.lockLeft = 0 → s.hw.fw.nonce = some n →
      (s.hw.responseOk n (arg args 0 1) (args.drop 4) = true →
        Answers (.accessResponse (.slot k) io) s k stOk fun m r => r = bytesOf 4 28800 ∧
          m.fw = { s.hw.fw with nonce := none, failures := 0, lockLen := 0, session := some (arg args 0 1) } ∧
          Raised evAccessOpened 0 s.hw m ∧ m = { s.hw with fw := m.fw, fault := m.fault }) ∧
      (s.hw.responseOk n (arg args 0 1) (args.drop 4) = false →
        Answers (.accessResponse (.slot k) io) s k stRefused fun m r => r = [] ∧ AccessFailed s.hw m) := by
  have hok : (isLen 68 args && decide (arg args 0 1 ≤ 1) && arg args 1 3 == 0 && (arg args 0 1 == 0 || arg args 36 32 == 0)) = true := by
    simpa [isLen, h68, hm, hz] using hr
  have run := fun {st reply mid P} => answers_of_runNow (P := P) (st := st) (reply := reply) (mid := mid)
    (fun c h => h.accessResponse (arg c.args 0 1) (c.args.drop 4)) r (i := .accessResponse (.slot k) io) (io := io) r.1.src_ok rfl rfl hok
    rfl rfl
  refine ⟨fun hl => ?_, fun hl hn => ?_, fun n hl hn => ⟨fun hv => ?_, fun hv => ?_⟩⟩
  · refine run (st := stLocked) (mid := s.hw) (reply := []) ?_ (by decide) (by decide) ⟨rfl, rfl⟩
    unfold Hw.accessResponse
    rw [if_pos (by simp [Hw.locked, hl])]
  · refine run (st := stRefused) (mid := s.hw) (reply := []) ?_ (by decide) (by decide) ⟨rfl, rfl⟩
    unfold Hw.accessResponse
    rw [if_neg (by simp [Hw.locked, hl]), hn]
  · refine run (st := stOk) (reply := bytesOf 4 28800) (mid := ({ s.hw with fw := { s.hw.fw with
        nonce := none, failures := 0, lockLen := 0, session := some (arg args 0 1) } } : Hw).raise evAccessOpened) ?_ (by decide)
      (by rw [bytesOf_length]; decide) ⟨rfl, rfl, raised_raise { s.hw with fw := { s.hw.fw with
        nonce := none, failures := 0, lockLen := 0, session := some (arg args 0 1) } } evAccessOpened, rfl⟩
    unfold Hw.accessResponse
    rw [if_neg (by simp [Hw.locked, hl]), hn]
    exact if_pos hv
  · refine run (st := stRefused) (reply := []) (mid := s.hw.accessFailed) ?_ (by decide) (by decide) ⟨rfl, accessFailed_fields s.hw⟩
    unfold Hw.accessResponse
    rw [if_neg (by simp [Hw.locked, hl]), hn]
    exact if_neg (by simp [hv])

theorem accessClose_answers (hs : s.hw.fw.session ≠ none) (r : SlotRuns s.hw k 0x0B07 []) :
    Answers (.accessClose (.slot k) io) s k stOk fun m r => r = [] ∧ SessionClosed s.hw m :=
  answers_of_runNow (fun _ h => (stOk, [], h.endSession)) r r.1.src_ok rfl rfl rfl rfl rfl rfl (by decide) (by decide)
    ⟨rfl, endSession_open hs⟩

end

/-! ## The password key (R487) -/

theorem execAccessKeyWrite_session {h : Hw} (hs : h.session = true) {k : Nat} (hk : k < 8) (v : Word32) : execAccessKeyWrite h k v =
    { h with fw := { h.fw with
      keyWords := setFld h.fw.keyWords (32 * k + 31) (32 * k) v.toNat
      key := if k = 7 then setFld h.fw.keyWords (32 * k + 31) (32 * k) v.toNat else h.fw.key } } := by
  unfold execAccessKeyWrite
  rw [if_neg (by simp [hs]; omega)]

theorem fld_keyWord (w : BitVec 256) {k : Nat} (hk : k < 8) (v : Word32) :
    fld (setFld w (32 * k + 31) (32 * k) v.toNat) (32 * k + 31) (32 * k) = v.toNat := by
  have := v.isLt
  rw [fld_setFld _ _ _ _ (by omega)]
  exact Nat.mod_eq_of_lt (by rw [show 32 * k + 31 + 1 - 32 * k = 32 by omega]; exact this)

/-- Settles O30: each answer by what the command's own operation answers, the end of a session by what happens to every owner word. -/
theorem serviceAccess : Obligations.ServiceAccess := by
  refine ⟨fun s => ⟨fun k io r => accessChallenge_answers s k io r, fun k io args h68 hm hz hr r => ?_, ⟨fun hs => ⟨?_, fun k io r => ?_⟩,
    fun hs => ?_⟩, does_of rfl rfl, fun hl => does_of rfl (if_pos hl), fun hl => exec_unchanged rfl (if_neg (Nat.not_le.2 hl))⟩,
    fun s v => ⟨fun k hk hs => ?_, fun hs => ?_, fun k hk hs => ?_⟩⟩
  · obtain ⟨h1, h2, h3⟩ := accessResponse_answers s k io h68 hm hz hr r
    refine ⟨h1, h2, fun n hl hn => ⟨(h3 n hl hn).1, fun hv => ?_⟩⟩
    obtain ⟨t, ht, hp, mid, reply, ⟨hrep, f⟩, hd, ho⟩ := (h3 n hl hn).2 hv
    exact ⟨t, ht, hp, mid, reply, ⟨hrep, f.nonce, f.failures, f.session, f.lockLen, hl ▸ f.lockLeft, f.rest⟩, hd, ho⟩
  · exact does_of rfl (endSession_open hs)
  · exact accessClose_answers s k io hs r
  · exact exec_unchanged rfl (endSession_none hs)
  · refine does_of (by simp [Instr.wellFormed]; omega) ?_
    rw [show effect (.accessKeyWrite k v) s.hw = _ from execAccessKeyWrite_session hs (by omega) v, if_neg (by omega)]
    exact ⟨fld_keyWord _ (by omega) v, rfl, rfl⟩
  · refine does_of rfl ?_
    rw [show effect (.accessKeyWrite 7 v) s.hw = _ from execAccessKeyWrite_session hs (by decide) v]
    exact ⟨fld_keyWord _ (by decide) v, fld_setFld_ne s.hw.fw.keyWords 223 0 255 224 v.toNat (by decide) (by decide), rfl⟩
  · refine exec_unchanged (by simp [Instr.wellFormed, hk]) ?_
    change execAccessKeyWrite s.hw k v = s.hw
    unfold execAccessKeyWrite
    rw [if_pos (by simp [hs])]

end Sys2Proof.Machine
end

section
-- As the tests above: declarations in order, so that checking the one text stays within its memory.
set_option Elab.async false
/-!
PROOFS. Events at the FAULT block, and the lockstep of the MP (O59).
-/

namespace Sys2Proof.Machine

/-! ## What the actions of a raise change (R416) -/

/-- The vector may have been signalled and a halting symbol sent. -/
def Acted (h g : Hw) : Prop :=
  g = { h with fault := { h.fault with irqDone := g.fault.irqDone }, host := g.host, out := g.out, seq := g.seq, ports := g.ports }

theorem Acted.refl (h : Hw) : Acted h h := rfl

theorem Acted.trans {h g k : Hw} (a : Acted h g) (b : Acted g k) : Acted h k := by
  unfold Acted at *
  rw [b, a]

theorem Acted.reg {h g : Hw} (a : Acted h g) (n : Nat) : g.reg n = h.reg n := by rw [a]; rfl

theorem Acted.path {h g : Hw} (a : Acted h g) : g.fault.path = h.fault.path := by rw [a]

theorem Acted.next {h g : Hw} (a : Acted h g) : g.fault.next = h.fault.next := by rw [a]

theorem Acted.number {h g : Hw} (a : Acted h g) : g.fault.seq = h.fault.seq := by rw [a]

theorem acted_sendSym (h : Hw) (k : SymKind) (n : Nat) : Acted h (h.sendSym k n) := by
  unfold Hw.sendSym
  split <;> rfl

theorem acted_sendHaltAtEnd (h : Hw) (n : Nat) : Acted h (h.sendHaltAtEnd n) := by
  unfold Hw.sendHaltAtEnd
  split
  · exact acted_sendSym ..
  · exact .refl h

theorem acted_sendHaltNow (h : Hw) (n : Nat) : Acted h (h.sendHaltNow n) := by
  unfold Hw.sendHaltNow
  split
  · exact acted_sendSym ..
  · exact .refl h

theorem signalIrq_fields (h : Hw) : Acted h h.signalIrq ∧ h.signalIrq.seq = h.seq ∧ h.signalIrq.devIndex = h.devIndex := by
  unfold Hw.signalIrq
  split
  · obtain ⟨hs, m, e⟩ := msix_fields { h with fault := { h.fault with irqDone := true } } (h.fget (faultA 0x604) 5 0)
    rw [e]
    exact ⟨rfl, rfl, rfl⟩
  · exact ⟨.refl h, rfl, rfl⟩

/-- The vector of a raise, from INTERRUPT on. -/
def Hw.signalAt (h : Hw) (level : Nat) : Hw := if level ≥ 1 then h.signalIrq else h

theorem signalAt_fields (h : Hw) (n : Nat) : Acted h (h.signalAt n) ∧ (h.signalAt n).seq = h.seq ∧ (h.signalAt n).devIndex = h.devIndex := by
  unfold Hw.signalAt
  split
  · exact signalIrq_fields h
  · exact ⟨.refl h, rfl, rfl⟩

theorem act_eq (h : Hw) (own level : Nat) : h.act own level =
    if (h.signalAt level).haltSent own level = 3 then (h.signalAt level).sendHaltNow 6
    else if (h.signalAt level).haltSent own level = 2 then (h.signalAt level).sendHaltAtEnd 5 else h.signalAt level := rfl

theorem acted_act (h : Hw) (own level : Nat) : Acted h (h.act own level) := by
  rw [act_eq]
  refine (signalAt_fields h level).1.trans ?_
  split
  · exact acted_sendHaltNow ..
  · split
    · exact acted_sendHaltAtEnd ..
    · exact .refl _

/-- Below HALT_AT_FRAME_END no symbol is sent. -/
theorem act_seq_low (h : Hw) {level : Nat} (hl : level ≤ 1) : (h.act level level).seq = h.seq := by
  have hs : (h.signalAt level).haltSent level level = level := by unfold Hw.haltSent; split <;> rfl
  rw [act_eq, hs, if_neg (by omega), if_neg (by omega)]
  exact (signalAt_fields h level).2.1

/-- A symbol sent while frames run and no other is on its way. -/
theorem sendSym_seq {h : Hw} (k : SymKind) (n : Nat) (hr : h.seq.run = .running) (hs : h.seq.syms = []) :
    (h.sendSym k n).seq = { h.seq with syms := [⟨k, n, h.devIndex, h.seq.clk + h.seq.horizon, h.seq.clk⟩] } := by
  rw [Hw.sendSym, if_neg (by rw [hr]; decide)]
  dsimp only
  rw [hs]
  rfl

theorem canHalt_running {h : Hw} (hr : h.seq.run = .running) : h.canHalt = true := by
  simp [Hw.canHalt, Hw.busy, hr]

theorem haltInProgress_none {h : Hw} (hr : h.seq.run = .running) (hh : h.seq.halts = []) (hs : h.seq.syms = []) :
    h.haltInProgress = 0 := by
  simp [Hw.haltInProgress, hr, hh, hs]

/-- A halting level that acts while frames run, with no halt in progress, sends its symbol (R416). -/
theorem act_seq_halts (h : Hw) (hr : h.seq.run = .running) (hs : h.seq.syms = []) {p : Nat × SymKind × Nat}
    (hp : p ∈ [(2, SymKind.haltAtEnd, 5), (3, SymKind.haltNow, 6)]) : (h.act p.1 p.1).seq =
      { h.seq with syms := [⟨p.2.1, p.2.2, h.devIndex, h.seq.clk + h.seq.horizon, h.seq.clk⟩] } := by
  obtain ⟨-, hseq, hd⟩ := signalAt_fields h p.1
  have hsent : (h.signalAt p.1).haltSent p.1 p.1 = p.1 := by unfold Hw.haltSent; split <;> rfl
  have sent (k : SymKind) (n : Nat) : ((h.signalAt p.1).sendSym k n).seq =
      { h.seq with syms := [⟨k, n, h.devIndex, h.seq.clk + h.seq.horizon, h.seq.clk⟩] } := by
    rw [sendSym_seq k n (by rw [hseq, hr]) (by rw [hseq, hs]), hseq, hd]
  have hc : (h.signalAt p.1).canHalt = true := canHalt_running (by rw [hseq, hr])
  rw [act_eq, hsent, Hw.sendHaltNow, Hw.sendHaltAtEnd, if_pos hc, if_pos hc]
  simp only [List.mem_cons, List.not_mem_nil, or_false] at hp
  rcases hp with rfl | rfl
  · exact sent ..
  · exact sent ..

/-! ## Levels of an event (R412, R416, R417) -/

theorem bget_congr {h g : Hw} {a : Nat} (e : g.reg a = h.reg a) (n : Nat) : g.bget a n = h.bget a n := by
  rw [Hw.bget, Hw.bget, e]

theorem fget_congr {h g : Hw} {a : Nat} (e : g.reg a = h.reg a) (hi lo : Nat) : g.fget a hi lo = h.fget a hi lo := by
  rw [Hw.fget, Hw.fget, e]

/-- The masks and the levels of the groups are the same. -/
def SameLevels (h g : Hw) : Prop := ∀ o, 0x200 ≤ o → o < 0x520 → g.reg (faultA o) = h.reg (faultA o)

theorem SameLevels.trans {h g k : Hw} (a : SameLevels h g) (b : SameLevels g k) : SameLevels h k :=
  fun o h1 h2 => (b o h1 h2).trans (a o h1 h2)

theorem sameLevels_setReg (h : Hw) {a : Nat} (v : Word32) (ha : a < faultA 0x200 ∨ faultA 0x520 ≤ a) : SameLevels h (h.setReg a v) :=
  fun o h1 h2 => by rw [reg_setReg, if_neg (by unfold faultA at *; omega)]

theorem SameLevels.masked {h g : Hw} (s : SameLevels h g) {id : Nat} (hid : id < 1152) : g.evMasked id = h.evMasked id :=
  bget_congr (s _ (by omega) (by omega)) _

theorem SameLevels.own {h g : Hw} (s : SameLevels h g) {id : Nat} (hid : id < 1152) : g.evOwn id = h.evOwn id := by
  rw [Hw.evOwn, Hw.evOwn, s.masked hid, Hw.evLevel, Hw.evLevel, fget_congr (s _ (by omega) (by omega))]

theorem SameLevels.entryLevel {h g : Hw} (s : SameLevels h g) {e : EvRec} (hid : e.id < 1152) : g.entryLevel e = h.entryLevel e := by
  rw [Hw.entryLevel, Hw.entryLevel, s.own hid, s.own (by decide)]

/-- A masked event that poisons no frame acts at level 0 (R412). -/
theorem entryLevel_masked {h : Hw} {e : EvRec} (hm : h.evMasked e.id = true) (hp : e.poison = false) : h.entryLevel e = 0 := by
  simp [Hw.entryLevel, hp, Hw.evOwn, hm]

/-! ## The entry of an event (R418, R419) -/

/-- The word of an entry that is not nested. -/
def entryWord (e : EvRec) (level number : Nat) : Word32 :=
  BitVec.ofNat 32 (e.id + 2 ^ 11 * level + (if e.poison then 2 ^ 14 else 0) + 2 ^ 15 + 2 ^ 16 * (number % 65536))

/-- The entry's registers are written. -/
def Hw.entryStored (h : Hw) (e : EvRec) (w0 : Word32) : Hw :=
  (((h.setReg (logA h.fault.next) w0).setReg (logA h.fault.next + 4) e.detail).setReg64 (logA h.fault.next + 8) e.frame).markDone
    (.w1c (logA h.fault.next) 15)

/-- The entry is counted, and the head told of it. -/
def Hw.entryNumbered (h : Hw) (e : EvRec) (w0 : Word32) : Hw :=
  { h.entryStored e w0 with fault := { h.fault with next := (h.fault.next + 1) % 32, seq := h.fault.seq + 1 } }

def Hw.entryTold (h : Hw) (level : Nat) : Hw :=
  if h.isMember && decide (level ≥ 1) then h.sendMsg h.conf.head (.logNotice h.devIndex true) else h

theorem writeEntry_eq {h : Hw} {e : EvRec} (hh : h.handledList = []) : h.writeEntry e =
    (((h.entryNumbered e (entryWord e (h.entryLevel e) h.fault.seq)).entryTold (h.entryLevel e)).act
      (((h.entryNumbered e (entryWord e (h.entryLevel e) h.fault.seq)).entryTold (h.entryLevel e)).entryLevel e) (h.entryLevel e)) := by
  have hl : h.appliedLevel e = h.entryLevel e := by
    rw [Hw.appliedLevel, hh, List.foldl_nil]
    split
    · next hc => simp only [Bool.and_eq_true, beq_iff_eq] at hc; exact hc.2.symm
    · rfl
  unfold Hw.writeEntry
  rw [hl, hh]
  rfl

theorem told_entryTold (h : Hw) (level : Nat) : Told h (h.entryTold level) := by
  unfold Hw.entryTold
  split
  · exact told_sendMsg ..
  · exact .refl h

theorem entryStored_only (h : Hw) (e : EvRec) (w0 : Word32) : ∃ r dn, h.entryStored e w0 = { h with regs := r, done := dn } := by
  have o := ((onlyRegs_setReg h (logA h.fault.next) w0).trans (onlyRegs_setReg _ (logA h.fault.next + 4) e.detail)).trans
    (onlyRegs_setReg64 _ (logA h.fault.next + 8) e.frame)
  unfold Hw.entryStored
  rw [o.1]
  exact ⟨_, _, rfl⟩

theorem entryNumbered_only (h : Hw) (e : EvRec) (w0 : Word32) : ∃ r dn, h.entryNumbered e w0 =
    { h with regs := r, done := dn, fault := { h.fault with next := (h.fault.next + 1) % 32, seq := h.fault.seq + 1 } } := by
  obtain ⟨r, dn, he⟩ := entryStored_only h e w0
  rw [Hw.entryNumbered, he]
  exact ⟨r, dn, rfl⟩

theorem reg_entryNumbered (h : Hw) (e : EvRec) (w0 : Word32) (a : Nat) : (h.entryNumbered e w0).reg a =
    if a = logA h.fault.next + 12 then e.frame.extractLsb' 32 32 else if a = logA h.fault.next + 8 then e.frame.extractLsb' 0 32
    else if a = logA h.fault.next + 4 then e.detail else if a = logA h.fault.next then w0 else h.reg a := by
  have h1 : (h.entryNumbered e w0).reg a =
    (((h.setReg (logA h.fault.next) w0).setReg (logA h.fault.next + 4) e.detail).setReg64 (logA h.fault.next + 8) e.frame).reg a := rfl
  rw [h1, reg_setReg64, reg_setReg, reg_setReg]

theorem sameLevels_entryNumbered (h : Hw) (e : EvRec) (w0 : Word32) : SameLevels h (h.entryNumbered e w0) := fun o h1 h2 => by
  rw [reg_entryNumbered, if_neg, if_neg, if_neg, if_neg] <;> unfold logA faultA <;> omega

theorem Told.seq {h g : Hw} (t : Told h g) : g.seq = h.seq := by rw [t.1]

theorem Told.devIndex {h g : Hw} (t : Told h g) : g.devIndex = h.devIndex := by rw [t.1]

theorem Told.fault {h g : Hw} (t : Told h g) : g.fault = h.fault := by rw [t.1]

theorem Told.sameLevels {h g : Hw} (t : Told h g) : SameLevels h g := fun _ _ _ => t.reg _

/-- An entry written while none is handled. -/
theorem writeEntry_fields {h : Hw} {e : EvRec} (hh : h.handledList = []) (hid : e.id < 1152) :
    ∃ m : Hw, h.writeEntry e = m.act (h.entryLevel e) (h.entryLevel e) ∧ m.seq = h.seq ∧ m.devIndex = h.devIndex ∧
      m.fault = { h.fault with next := (h.fault.next + 1) % 32, seq := h.fault.seq + 1 } ∧
      ∀ a, m.reg a = (h.entryNumbered e (entryWord e (h.entryLevel e) h.fault.seq)).reg a := by
  rw [writeEntry_eq hh]
  obtain ⟨w0, hw⟩ : ∃ w, entryWord e (h.entryLevel e) h.fault.seq = w := ⟨_, rfl⟩
  obtain ⟨l, hl⟩ : ∃ l, h.entryLevel e = l := ⟨_, rfl⟩
  have sl := sameLevels_entryNumbered h e w0
  obtain ⟨r, dn, only⟩ := entryNumbered_only h e w0
  rw [hw, hl]
  generalize h.entryNumbered e w0 = n at sl only
  have t := told_entryTold n l
  have he := (sl.trans t.sameLevels).entryLevel hid
  generalize n.entryTold l = m at t he
  refine ⟨m, by rw [he, hl], ?_, ?_, ?_, t.reg⟩
  · rw [t.seq, only]
  · rw [t.devIndex, only]
  · rw [t.fault, only]

/-! ## An event that arrives (R412) -/

/-- The event has left the path, and its status bit is set. -/
def Hw.statused (h : Hw) (e : EvRec) : Hw :=
  ({ h with fault := { h.fault with path := h.fault.path.erase e, irqDone := false } } : Hw).setW1c (grpStatA (e.id / 16)) (e.id % 16)

theorem reg_statused (h : Hw) (e : EvRec) (a : Nat) : (h.statused e).reg a =
    if a = grpStatA (e.id / 16) then setBit (h.reg (grpStatA (e.id / 16))) (e.id % 16) true else h.reg a := by
  have h1 : (h.statused e).reg a = (({ h with fault := { h.fault with path := h.fault.path.erase e, irqDone := false } } : Hw).setReg
    (grpStatA (e.id / 16)) (setBit (h.reg (grpStatA (e.id / 16))) (e.id % 16) true)).reg a := rfl
  rw [h1, reg_setReg]
  rfl

theorem sameLevels_statused {h : Hw} {e : EvRec} (hid : e.id < 1152) : SameLevels h (h.statused e) := fun o h1 h2 => by
  rw [reg_statused, if_neg]
  unfold grpStatA faultA
  omega

theorem handled_statused {h : Hw} {e : EvRec} (hid : e.id < 1152) (k : Nat) : (h.statused e).handled k = h.handled k :=
  bget_congr (by rw [reg_statused, if_neg (by unfold logA grpStatA faultA; omega)]) 15

/-- Whether the arrival of an event is written to the log. -/
def Hw.logs (h : Hw) (e : EvRec) : Prop :=
  evIsError e.id = true ∧ e.id ≠ evFrameFault ∧ h.bget (grpStatA (e.id / 16)) (e.id % 16) = false

theorem eventRaise_eq {h : Hw} {e : EvRec} (hp : h.pstate < 3) (hf : firstBy EvRec.before h.fault.path = some e) :
    effect .eventRaise h =
      if (evIsError e.id && e.id != evFrameFault && !h.bget (grpStatA (e.id / 16)) (e.id % 16)) = true then
        if (h.statused e).handled h.fault.next then (h.statused e).dropEntry e else (h.statused e).writeEntry e
      else (h.statused e).act ((h.statused e).entryLevel e) ((h.statused e).entryLevel e) := by
  have hn : h.nextEvent = some (e, { h with fault := { h.fault with path := h.fault.path.erase e } }) := by
    rw [Hw.nextEvent, hf]
  show execEventRaise h = _
  rw [execEventRaise, if_neg (by omega), hn]
  rfl

section
variable {h : Hw} {e : EvRec} (hp : h.pstate < 3) (hf : firstBy EvRec.before h.fault.path = some e)
  (hn : ∀ k, k < 32 → h.handled k = false) (hk : h.fault.next < 32) (hid : e.id < 1152)
include hp hf hid

theorem eventRaise_passes (hl : ¬ h.logs e) : effect .eventRaise h = (h.statused e).act (h.entryLevel e) (h.entryLevel e) := by
  rw [eventRaise_eq hp hf, if_neg, (sameLevels_statused hid).entryLevel hid]
  intro hc
  simp only [Bool.and_eq_true, bne_iff_ne, Bool.not_eq_true'] at hc
  exact hl ⟨hc.1.1, hc.1.2, hc.2⟩

include hn
omit hp hf in
theorem handledList_statused : (h.statused e).handledList = [] :=
  List.filter_eq_nil_iff.2 fun k hk' => by
    rw [handled_statused hid, hn k (List.mem_range.1 hk')]
    decide

include hk

theorem eventRaise_logs (hl : h.logs e) : effect .eventRaise h = (h.statused e).writeEntry e := by
  obtain ⟨h1, h2, h3⟩ := hl
  rw [eventRaise_eq hp hf, if_pos (by simp [h1, h2, h3]), handled_statused hid, hn _ hk]
  rfl

/-- Both ways an event arrives end in its actions, at its own level. -/
theorem eventRaise_acts : ∃ m : Hw, effect .eventRaise h = m.act (h.entryLevel e) (h.entryLevel e) ∧ m.seq = h.seq ∧ m.devIndex = h.devIndex ∧
    m.fault.path = h.fault.path.erase e ∧ m.reg (grpStatA (e.id / 16)) = (h.statused e).reg (grpStatA (e.id / 16)) ∧
    (h.logs e → m.fault.next = (h.fault.next + 1) % 32 ∧ m.fault.seq = h.fault.seq + 1 ∧
      ∀ a, m.reg a = ((h.statused e).entryNumbered e (entryWord e (h.entryLevel e) h.fault.seq)).reg a) ∧
    (¬ h.logs e → m = h.statused e) := by
  by_cases hl : h.logs e
  · obtain ⟨m, he, hs, hc, hfl, hr⟩ := writeEntry_fields (handledList_statused hn hid) hid
    rw [(sameLevels_statused hid).entryLevel hid] at he hr
    refine ⟨m, (eventRaise_logs hp hf hn hk hid hl).trans he, hs, hc, by rw [hfl]; rfl, ?_,
      fun _ => ⟨by rw [hfl]; rfl, by rw [hfl]; rfl, hr⟩, fun h' => absurd hl h'⟩
    rw [hr, reg_entryNumbered, if_neg, if_neg, if_neg, if_neg] <;> unfold logA grpStatA faultA <;> omega
  · exact ⟨_, eventRaise_passes hp hf hid hl, rfl, rfl, rfl, rfl, fun h' => absurd h' hl, fun _ => rfl⟩

end

/-! ## Every slot ends (R432) -/

/-- A busy slot has been answered in hardware, from h to g. -/
def HardDone (h g : Hw) (status k : Nat) : Prop :=
  g.slotState k = 5 ∧ (g.slotByte k 8).toNat = status ∧ (g.slotByte k 10).toNat = 0 ∧
    g.slotField k 0xC 4 = (h.slotField k 0xC 4 + 1) % 2 ^ 32 ∧ ∀ o, 0x10 ≤ o → o < 256 → g.slotByte k o = h.slotByte k o

theorem closeSlot_byte (h : Hw) (s status n j : Nat) {o : Nat} (ho : o < 256) : (h.closeSlot s status n).slotByte j o =
    if j = s ∧ 8 ≤ o ∧ o < 16 then
      ([BitVec.ofNat 8 status, 5, BitVec.ofNat 8 n, 0] ++ bytesOf 4 (h.slotField s 0xC 4 + 1)).getD (o - 8) 0
    else h.slotByte j o := by
  rw [closeSlot_slotByte, closing, slotByte_setSlotBytes, List.length_append, bytesOf_length]
  by_cases hjo : j = s ∧ 8 ≤ o ∧ o < 16
  · obtain ⟨rfl, h8, h16⟩ := hjo
    rw [if_pos ⟨by omega, by simp only [List.length_cons, List.length_nil]; omega⟩, if_pos ⟨rfl, h8, h16⟩]
    congr 1
    omega
  · rw [if_neg hjo, if_neg]
    simp only [List.length_cons, List.length_nil]
    omega

theorem closeSlot_other (h : Hw) {s j : Nat} (status n : Nat) (hj : j ≠ s) {o : Nat} (ho : o < 256) :
    (h.closeSlot s status n).slotByte j o = h.slotByte j o := by
  rw [closeSlot_byte h s status n j ho, if_neg fun hc => hj hc.1]

theorem hardDone_closeSlot (h : Hw) (s : Nat) {status : Nat} (hs : status < 256) : HardDone h (h.closeSlot s status 0) status s := by
  have at' {o : Nat} (h8 : 8 ≤ o) (h16 : o < 16) : (h.closeSlot s status 0).slotByte s o =
      ([BitVec.ofNat 8 status, 5, BitVec.ofNat 8 0, 0] ++ bytesOf 4 (h.slotField s 0xC 4 + 1)).getD (o - 8) 0 := by
    rw [closeSlot_byte h s status 0 s (by omega), if_pos ⟨rfl, h8, h16⟩]
  refine ⟨by rw [Hw.slotState, at' (by omega) (by omega)]; rfl, ?_, by rw [at' (by omega) (by omega)]; rfl, ?_,
    fun o h1 h2 => by rw [closeSlot_byte h s status 0 s h2, if_neg (by omega)]⟩
  · rw [at' (by omega) (by omega)]
    exact (BitVec.toNat_ofNat ..).trans (Nat.mod_eq_of_lt hs)
  · have hl : (List.range 4).map (fun i => (h.closeSlot s status 0).slotByte s (0xC + i)) = bytesOf 4 (h.slotField s 0xC 4 + 1) := by
      rw [show (List.range 4) = [0, 1, 2, 3] from rfl]
      simp only [List.map_cons, List.map_nil]
      rw [at' (by omega) (by omega), at' (by omega) (by omega), at' (by omega) (by omega), at' (by omega) (by omega)]
      rfl
    rw [Hw.slotField, hl, ofBytes_bytesOf]
    norm_num

theorem slotState_of_bytes {h g : Hw} {k : Nat} (e : ∀ o, o < 256 → g.slotByte k o = h.slotByte k o) : g.slotState k = h.slotState k := by
  rw [Hw.slotState, Hw.slotState, e 9 (by decide)]

theorem slotBusy_of_bytes {h g : Hw} {k : Nat} (e : ∀ o, o < 256 → g.slotByte k o = h.slotByte k o) : g.slotBusy k = h.slotBusy k := by
  rw [Hw.slotBusy, Hw.slotBusy, slotState_of_bytes e]

theorem HardDone.congr {h h' g g' : Hw} {st k : Nat} (d : HardDone h g st k) (e : ∀ o, o < 256 → h.slotByte k o = h'.slotByte k o)
    (e' : ∀ o, o < 256 → g'.slotByte k o = g.slotByte k o) : HardDone h' g' st k := by
  obtain ⟨h1, h2, h3, h4, h5⟩ := d
  refine ⟨(slotState_of_bytes e').trans h1, by rw [e' 8 (by decide)]; exact h2, by rw [e' 10 (by decide)]; exact h3, ?_,
    fun o ho ho' => by rw [e' o ho', h5 o ho ho', e o ho']⟩
  rw [slotField_congr fun i hi => e' (0xC + i) (by omega), h4, slotField_congr fun i hi => e (0xC + i) (by omega)]

/-- The slots of a list end one after the other, and nothing but slots changes. -/
theorem answerSlots (ks : List Nat) (hd : ks.Nodup) {status : Nat} (hs : status < 256) (h : Hw) :
    let g := ks.foldl (fun h s => if h.slotBusy s then h.hardAnswer s status else h) h
    g = { h with host := { h.host with slots := g.host.slots, pba := g.host.pba }, out := g.out } ∧
      (∀ k, k ∉ ks → ∀ o, o < 256 → g.slotByte k o = h.slotByte k o) ∧
      ∀ k ∈ ks, h.slotBusy k = true → HardDone h g status k := by
  induction ks generalizing h with
  | nil => exact ⟨rfl, fun _ _ _ _ => rfl, fun _ hk => absurd hk List.not_mem_nil⟩
  | cons s ks ih =>
    obtain ⟨hsn, hd'⟩ := List.nodup_cons.1 hd
    generalize hm : (if h.slotBusy s then h.hardAnswer s status else h) = m
    have step : m = { h with host := { h.host with slots := m.host.slots, pba := m.host.pba }, out := m.out } ∧
        (∀ k, k ≠ s → ∀ o, o < 256 → m.slotByte k o = h.slotByte k o) ∧ (h.slotBusy s = true → HardDone h m status s) := by
      rw [← hm]
      split
      · exact ⟨closeSlot_only .., fun k hk o ho => closeSlot_other h status 0 hk ho, fun _ => hardDone_closeSlot h s hs⟩
      · next hb => exact ⟨rfl, fun _ _ _ _ => rfl, fun h' => absurd h' hb⟩
    obtain ⟨s1, s2, s3⟩ := step
    obtain ⟨t1, t2, t3⟩ := ih hd' m
    simp only [List.foldl_cons, hm]
    refine ⟨t1.trans (by rw [s1]), fun k hk o ho => ?_, fun k hk hb => ?_⟩
    · rw [List.mem_cons, not_or] at hk
      rw [t2 k hk.2 o ho, s2 k hk.1 o ho]
    · by_cases hks : k = s
      · subst hks
        exact (s3 hb).congr (fun _ _ => rfl) (t2 k hsn)
      · have hk' : k ∈ ks := (List.mem_cons.1 hk).resolve_left hks
        exact (t3 k hk' (by rw [slotBusy_of_bytes (s2 k hks), hb])).congr (s2 k hks) fun _ _ => rfl

/-- Commands that came over a link end: no slot changes, what waits stays gone, and each leaves the list. -/
theorem endLinks (cs : List FwdCmd) (st : Nat) (h : Hw) (hw : h.host.waits = []) :
    let g := cs.foldl (fun h c => h.endCmd (.link c.origin c.slot) [] st [] []) h
    g = { h with host := { h.host with fwd := g.host.fwd }, ports := g.ports, out := g.out } ∧
      ∀ c ∈ g.host.fwd, c ∈ h.host.fwd ∧ ∀ b ∈ cs, (c.origin == b.origin && c.slot == b.slot) = false := by
  induction cs generalizing h with
  | nil => exact ⟨rfl, fun c hc => ⟨hc, fun _ hb => absurd hb List.not_mem_nil⟩⟩
  | cons b cs ih =>
    have step : ∃ f p o, h.endCmd (.link b.origin b.slot) [] st [] [] =
        { h with host := { h.host with fwd := f }, ports := p, out := o } ∧
          f = h.host.fwd.filter fun c => !(c.origin == b.origin && c.slot == b.slot) := by
      have hd : h.dropWaits (.link b.origin b.slot) = h := by
        rw [Hw.dropWaits, hw, List.filter_nil, ← hw]
      rw [Hw.endCmd, hd]
      exact ⟨_, _, _, (told_sendMsg ..).1, rfl⟩
    obtain ⟨f, p, o, e, hf⟩ := step
    simp only [List.foldl_cons]
    rw [e]
    obtain ⟨t1, t2⟩ := ih { h with host := { h.host with fwd := f }, ports := p, out := o } hw
    refine ⟨t1, fun c hc => ?_⟩
    obtain ⟨hc1, hc2⟩ := t2 c hc
    have hc1' : c ∈ h.host.fwd.filter fun c => !(c.origin == b.origin && c.slot == b.slot) := hf ▸ hc1
    obtain ⟨hm, hne⟩ := List.mem_filter.1 hc1'
    refine ⟨hm, fun x hx => ?_⟩
    rcases List.mem_cons.1 hx with rfl | hx'
    · exact Bool.not_eq_true' _ ▸ hne
    · exact hc2 x hx'

theorem reg_logA (h : Hw) (e : EvRec) (w0 : Word32) :
    (h.entryNumbered e w0).reg (logA h.fault.next) = w0 ∧ (h.entryNumbered e w0).reg (logA h.fault.next + 4) = e.detail ∧
      (h.entryNumbered e w0).reg64 (logA h.fault.next + 8) = e.frame := by
  refine ⟨?_, ?_, ?_⟩
  · rw [reg_entryNumbered, if_neg (by omega), if_neg (by omega), if_neg (by omega), if_pos rfl]
  · rw [reg_entryNumbered, if_neg (by omega), if_neg (by omega), if_pos rfl]
  · rw [Hw.reg64, reg_entryNumbered, if_pos rfl, reg_entryNumbered, if_neg (by omega), if_pos rfl, words_of_word64]

/-- An event that is not written changes its status word, and what actions change. -/
theorem onlyRegs_statused {h g : Hw} {e : EvRec} (a : Acted (h.statused e) g) : OnlyRegs [grpStatA (e.id / 16)] h
    { g with fault := h.fault, host := h.host, out := h.out, seq := h.seq, ports := h.ports, done := h.done } := by
  refine ⟨?_, fun b hb => ?_⟩
  · rw [a]; rfl
  · refine (a.reg b).trans ((reg_statused h e b).trans (if_neg ?_))
    simpa using hb

/-! ## The lockstep of the MP (R415, R432) -/

theorem lockstep_named {h : Hw} (hh : h.hubOn = true) (ha : h.host.mpAlone = false) : effect (.mpLockstepMismatch true) h =
    ({ h with host := { h.host with mpAlone := true } } : Hw).raise evLockstepMismatch := by
  show execMpLockstepMismatch h true = _
  simp [execMpLockstepMismatch, hh, ha]

/-- Every waiting command is forgotten. -/
def Hw.waitsGone (h : Hw) : Hw := { h with host := { h.host with waits := [] } }

def Hw.ringGone (h : Hw) : Hw := { h with host := { h.host with ring := [] } }

/-- The firmware restarts. -/
def Hw.mpLost (h : Hw) : Hw := { h with host := { h.host with ready := false, mpRestart := true } }

/-- The state in which every command has ended. -/
def Hw.allEnded (h : Hw) : Hw := ((h.raise evLockstepLost).endAllSlots stNotReady).mpLost

theorem lockstep_lost {h : Hw} {named : Bool} (hh : h.hubOn = true) (ha : named = false ∨ h.host.mpAlone = true) :
    effect (.mpLockstepMismatch named) h = h.allEnded.sendHaltAtEnd 3 := by
  have hc : (named && !h.host.mpAlone) = false := by
    rcases ha with rfl | ha
    · rfl
    · rw [ha, Bool.not_true, Bool.and_false]
  show execMpLockstepMismatch h named = _
  rw [execMpLockstepMismatch, hh, hc, Bool.not_true, if_neg Bool.false_ne_true, if_neg Bool.false_ne_true]
  rfl

theorem waitsGone_fields (h : Hw) : h.waitsGone.fault = h.fault ∧ h.waitsGone.host.waits = [] ∧ h.waitsGone.host.slots = h.host.slots :=
  ⟨rfl, rfl, rfl⟩

theorem ringGone_fields (h : Hw) : h.ringGone.fault = h.fault ∧ h.ringGone.host = { h.host with ring := [] } := ⟨rfl, rfl⟩

theorem answerAll_eq (h : Hw) (status : Nat) : h.answerAll status =
    ((List.range 8).foldl (fun h s => if h.slotBusy s then h.hardAnswer s status else h) h).ringGone := rfl

theorem endAllSlots_eq (h : Hw) (status : Nat) : h.endAllSlots status = (h.waitsGone.answerAll status).host.fwd.foldl
    (fun h c => h.endCmd (.link c.origin c.slot) [] status [] []) (h.waitsGone.answerAll status) := by
  unfold Hw.endAllSlots Hw.waitsGone
  dsimp only

/-- The slots have ended: what waits is gone, and the ring is empty. -/
theorem answerAll_fields (h : Hw) {status : Nat} (hs : status < 256) : (h.answerAll status).fault = h.fault ∧
    (h.answerAll status).host.ring = [] ∧ (h.answerAll status).host.waits = h.host.waits ∧
      ∀ k, k < 8 → h.slotBusy k = true → HardDone h (h.answerAll status) status k := by
  obtain ⟨a1, -, a3⟩ := answerSlots (List.range 8) List.nodup_range hs h
  rw [answerAll_eq]
  generalize (List.range 8).foldl (fun h s => if h.slotBusy s then h.hardAnswer s status else h) h = m at a1 a3 ⊢
  obtain ⟨r1, r2⟩ := ringGone_fields m
  refine ⟨by rw [r1, a1], by rw [r2], by rw [r2, a1], fun k hk hb => ?_⟩
  have d : HardDone h m status k := a3 k (List.mem_range.2 hk) hb
  exact d.congr (fun _ _ => rfl) fun o _ => slotByte_congr (by rw [r2]) k o

/-- Every command ends, and nothing but the host interface and what is sent changes. -/
theorem endAllSlots_fields (h : Hw) {status : Nat} (hs : status < 256) :
    (h.endAllSlots status).fault = h.fault ∧ (h.endAllSlots status).host.ring = [] ∧ (h.endAllSlots status).host.waits = [] ∧
      (h.endAllSlots status).host.fwd = [] ∧ ∀ k, k < 8 → h.slotBusy k = true → HardDone h (h.endAllSlots status) status k := by
  obtain ⟨w1, w2, w3⟩ := waitsGone_fields h
  obtain ⟨a1, a2, a3, a4⟩ := answerAll_fields h.waitsGone hs
  have hb' (k : Nat) : h.waitsGone.slotBusy k = h.slotBusy k := slotBusy_of_bytes fun o _ => slotByte_congr w3 k o
  rw [endAllSlots_eq]
  generalize h.waitsGone.answerAll status = m at a1 a2 a3 a4 ⊢
  obtain ⟨b1, b2⟩ := endLinks m.host.fwd status m (a3.trans w2)
  generalize m.host.fwd.foldl (fun h c => h.endCmd (.link c.origin c.slot) [] status [] []) m = g at b1 b2 ⊢
  refine ⟨by rw [b1]; exact a1.trans w1, by rw [b1]; exact a2, by rw [b1]; exact a3.trans w2, ?_, fun k hk hb => ?_⟩
  · refine List.eq_nil_iff_forall_not_mem.2 fun c hc => ?_
    obtain ⟨hm, hne⟩ := b2 c hc
    have := hne c hm
    simp at this
  · exact (a4 k hk ((hb' k).trans hb)).congr (fun o _ => slotByte_congr w3 k o) fun o _ => slotByte_congr (by rw [b1]) k o

theorem mpLost_fields (h : Hw) : h.mpLost.fault = h.fault ∧ h.mpLost.host = { h.host with ready := false, mpRestart := true } :=
  ⟨rfl, rfl⟩

/-- A halt that is sent leaves the host interface and the path alone. -/
theorem sendHaltAtEnd_host (h : Hw) (n : Nat) : (h.sendHaltAtEnd n).host = h.host ∧ (h.sendHaltAtEnd n).fault = h.fault := by
  unfold Hw.sendHaltAtEnd Hw.sendSym
  split
  · split <;> exact ⟨rfl, rfl⟩
  · exact ⟨rfl, rfl⟩

/-- Settles O59: both ways an event arrives, and a lockstep failure that ends every command. -/
theorem eventsAndLockstep : Obligations.EventsAndLockstep := by
  unfold Obligations.EventsAndLockstep
  intro s
  refine ⟨fun hp => exec_unchanged rfl ?_, ?_, fun hh => ⟨fun ha => ?_, fun named ha => ?_⟩⟩
  · show execEventRaise s.hw = s.hw
    rw [execEventRaise, if_pos hp]
  · intro e hp hf hn hk hid a n level logs
    obtain ⟨m, he, hseq, hdev, hpath, hst, hlog, hplain⟩ := eventRaise_acts hp hf hn hk hid
    have ha := acted_act m (s.hw.entryLevel e) (s.hw.entryLevel e)
    refine does_of rfl ?_
    rw [he]
    refine ⟨ha.path.trans hpath, (ha.reg a).trans (hst.trans ((reg_statused ..).trans (if_pos rfl))), fun hl => ?_, fun hl => ?_,
      fun hm hq => entryLevel_masked hm hq, fun hl => (act_seq_low m hl).trans hseq, fun hr hh hs p hpm hl => ?_⟩
    · obtain ⟨h1, h2, h3⟩ := hlog hl
      obtain ⟨r1, r2, r3⟩ := reg_logA (s.hw.statused e) e (entryWord e (s.hw.entryLevel e) s.hw.fault.seq)
      refine ⟨(ha.reg _).trans ((h3 _).trans r1), (ha.reg _).trans ((h3 _).trans r2), ?_, ha.next.trans h1, ha.number.trans h2⟩
      refine Eq.trans ?_ r3
      rw [Hw.reg64, Hw.reg64, ha.reg, ha.reg, h3, h3]
      rfl
    · have hm := hplain hl
      exact ⟨ha.next.trans (by rw [hm]; rfl), ha.number.trans (by rw [hm]; rfl), onlyRegs_statused (hm ▸ ha)⟩
    · have hl' : s.hw.entryLevel e = p.1 := hl
      rw [hl', act_seq_halts m (by rw [hseq, hr]) (by rw [hseq, hs]) hpm, hseq, hdev]
  · refine does_of rfl ?_
    rw [lockstep_named hh ha]
    exact ⟨rfl, ⟨false, rfl⟩, rfl⟩
  · refine does_of rfl ?_
    rw [lockstep_lost hh ha]
    obtain ⟨e1, e2, e3, e4, e5⟩ := endAllSlots_fields (s.hw.raise evLockstepLost) (status := stNotReady) (by decide)
    obtain ⟨e0, eh⟩ := mpLost_fields ((s.hw.raise evLockstepLost).endAllSlots stNotReady)
    rw [Hw.allEnded]
    generalize ((s.hw.raise evLockstepLost).endAllSlots stNotReady).mpLost = l at e0 eh ⊢
    obtain ⟨f1, f2⟩ := sendHaltAtEnd_host l 3
    generalize l.sendHaltAtEnd 3 = g at f1 f2 ⊢
    refine ⟨by rw [f1, eh], by rw [f1, eh], by rw [f1, eh, e2], by rw [f1, eh, e3], by rw [f1, eh, e4], ⟨false, ?_⟩,
      fun k hk hb => ?_⟩
    · rw [f2, e0, e1]
      rfl
    · have d : HardDone s.hw g stNotReady k := (e5 k hk hb).congr (fun _ _ => rfl) fun o _ => slotByte_congr (by rw [f1, eh]) k o
      exact d

end Sys2Proof.Machine
end

section
-- As the tests above: declarations in order, so that checking the one text stays within its memory.
set_option Elab.async false
/-!
PROOFS. Word channels and the trigger sequencer (O33).
-/

namespace Sys2Proof.Machine

/-! ## Word channels (R340, R498) -/

/-- One bit of a register word is set to a value. -/
theorem setRegBit_fields (h : Hw) (a : Nat) {k : Nat} (hk : k < 32) (b : Bool) :
    (h.setReg a (setBit (h.reg a) k b)).bget a k = b ∧
      (∀ n, n < 32 → n ≠ k → (h.setReg a (setBit (h.reg a) k b)).bget a n = h.bget a n) ∧
      OnlyRegs [a] h (h.setReg a (setBit (h.reg a) k b)) := by
  refine ⟨?_, fun n _ hne => ?_, onlyRegs_setReg ..⟩
  · rw [bget_setReg, if_pos rfl, bit_setBit _ _ _ _ hk, if_pos rfl]
  · rw [bget_setReg, if_pos rfl, bit_setBit _ _ _ _ hk, if_neg hne]
    rfl

theorem wordSample_unlocked {h : Hw} {k : Nat} (v : BitVec 16) (hl : h.bget (userioA 0x104) k = false) :
    effect (.wordSample k v) h = h := by
  show execWordSample h k v = h
  simp [execWordSample, hl]

theorem wordSample_locked {h : Hw} {k : Nat} (v : BitVec 16) (hk : k < 32) (hl : h.bget (userioA 0x104) k = true) :
    effect (.wordSample k v) h =
      if (h.inRun && h.bget (wchA k 0) 0) = true then
        { h.setReg (wchA k 8) (v.setWidth 32) with acq := { h.acq with inbox := h.acq.inbox ++ [(k, v)] } }
      else h.setReg (wchA k 8) (v.setWidth 32) := by
  have hb : (h.setReg (wchA k 8) (v.setWidth 32)).bget (wchA k 0) 0 = h.bget (wchA k 0) 0 := by
    rw [bget_setReg, if_neg (by unfold wchA probeA; omega)]
  show execWordSample h k v = _
  unfold execWordSample
  rw [if_neg (by simp [hl, hk])]
  dsimp only
  rw [hb]
  rfl

/-- What a numbered sample leaves behind, for it to be recorded or not. -/
def Hw.recordSample (h : Hw) (k : Nat) (v : BitVec 16) (s : Samp) : Hw :=
  if h.bget (wchA k 0) 2 && s.seq % (h.fget (wchA k 4) 15 0 + 1) == 0 then
    if h.acq.sq.length ≥ 1024 then
      { h.count (probeA 0x44) with acq := { h.acq with slost := h.acq.slost + 1 } }
    else
      { h with acq := { h.acq with
          sq := h.acq.sq ++ [⟨s.frame, s.clock, 256 + k,
            recBody 2 (v.toNat + k * 2 ^ 16 + (s.clock % 2 ^ 24) * 2 ^ 24 + (s.seq % 2 ^ 32) * 2 ^ 48), h.acq.slost⟩]
          slost := 0 } }
  else h

/-- The numbering of a sample: its register and its channel's next number and predecessor. -/
def Hw.numbered (h : Hw) (k : Nat) (p : Option Samp) (cross : List Cross) : Hw :=
  { h.setReg (wchA k 0xC) (BitVec.ofNat 32 (Store.get 0 h.acq.next k)) with
    acq := { h.acq with
      next := Store.set 0 h.acq.next k (Store.get 0 h.acq.next k + 1), prev := Store.set none h.acq.prev k p
      crossNow := h.acq.crossNow ++ cross } }

theorem takeSample_eq (h : Hw) (k : Nat) (v : BitVec 16) : ∃ cross, h.takeSample k v =
    (h.numbered k (some ⟨v, h.seq.frame.toNat, h.seq.fclk, h.seq.ticks, Store.get 0 h.acq.next k⟩) cross).recordSample k v
      ⟨v, h.seq.frame.toNat, h.seq.fclk, h.seq.ticks, Store.get 0 h.acq.next k⟩ := ⟨_, rfl⟩

theorem numberSample_eq (h : Hw) (k : Nat) : h.numberSample k = h.numbered k none [] := by
  unfold Hw.numberSample Hw.numbered
  rw [List.append_nil]
  rfl

/-- A record of a sample changes the hub's queue and its loss counts alone. -/
theorem recordSample_fields (h : Hw) (k : Nat) (v : BitVec 16) (s : Samp) :
    ∃ r q l, h.recordSample k v s = { h with regs := r, acq := { h.acq with sq := q, slost := l } } ∧
      ∀ a, a ≠ probeA 0x44 → (h.recordSample k v s).reg a = h.reg a := by
  unfold Hw.recordSample
  split
  · split
    · exact ⟨_, _, _, rfl, fun a ha => (reg_setReg h (probeA 0x44) a _).trans (if_neg ha)⟩
    · exact ⟨_, _, _, rfl, fun _ _ => rfl⟩
  · exact ⟨_, _, _, rfl, fun _ _ => rfl⟩

/-- A sample that has been numbered, from h to g, with what its channel now compares the next one with. -/
structure Numbered (k : Nat) (p : Option Samp) (h g : Hw) : Prop where
  rest : g = { h with regs := g.regs, acq := g.acq }
  shown : g.reg (wchA k 0xC) = BitVec.ofNat 32 (Store.get 0 h.acq.next k)
  next : Store.get 0 g.acq.next k = Store.get 0 h.acq.next k + 1
  prev : Store.get none g.acq.prev k = p
  regs : ∀ a, a ∉ [wchA k 0xC, probeA 0x44] → g.reg a = h.reg a
  inbox : g.acq.inbox = h.acq.inbox

theorem numbered_numbered (h : Hw) (k : Nat) (p : Option Samp) (cross : List Cross) : Numbered k p h (h.numbered k p cross) where
  rest := rfl
  shown := (reg_setReg h (wchA k 0xC) (wchA k 0xC) _).trans (if_pos rfl)
  next := Store.get_set_same 0 h.acq.next k (Store.get 0 h.acq.next k + 1)
  prev := Store.get_set_same none h.acq.prev k p
  regs a ha := (reg_setReg h (wchA k 0xC) a _).trans (if_neg (List.ne_of_not_mem_cons ha))
  inbox := rfl

theorem Numbered.recorded {k : Nat} {p : Option Samp} {h g : Hw} (n : Numbered k p h g) (v : BitVec 16) (s : Samp) :
    Numbered k p h (g.recordSample k v s) := by
  obtain ⟨r, q, l, e, hr⟩ := recordSample_fields g k v s
  refine ⟨?_, (hr _ (by unfold wchA probeA; omega)).trans n.shown, ?_, ?_, fun a ha => ?_, ?_⟩
  · rw [e, n.rest]
  · rw [e]; exact n.next
  · rw [e]; exact n.prev
  · rw [hr a fun hc => ha (by simp [hc]), n.regs a ha]
  · rw [e]; exact n.inbox

theorem takeSample_numbered (h : Hw) (k : Nat) (v : BitVec 16) :
    Numbered k (some ⟨v, h.seq.frame.toNat, h.seq.fclk, h.seq.ticks, Store.get 0 h.acq.next k⟩) h (h.takeSample k v) := by
  obtain ⟨cross, e⟩ := takeSample_eq h k v
  rw [e]
  exact (numbered_numbered ..).recorded ..

theorem flatMap_filter_single (k : Nat) (v : BitVec 16) (ks : List Nat) (hd : ks.Nodup) (hk : k ∈ ks) :
    (ks.flatMap fun n => [(k, v)].filter fun x => x.1 == n) = [(k, v)] := by
  induction ks with
  | nil => cases hk
  | cons n ks ih =>
    obtain ⟨hn, hd'⟩ := List.nodup_cons.1 hd
    rw [List.flatMap_cons]
    rcases List.mem_cons.1 hk with rfl | hk'
    · have hz : (ks.flatMap fun n => [(k, v)].filter fun x => x.1 == n) = [] := by
        refine List.flatMap_eq_nil_iff.2 fun n hm => ?_
        have hne : k ≠ n := fun h => hn (h ▸ hm)
        simp [hne]
      rw [hz]
      simp
    · have hne : k ≠ n := fun h => hn (h ▸ hk')
      rw [ih hd' hk']
      simp [hne]

/-- The one sample of a course clock is stamped in a frame, and numbered alone outside one. -/
theorem takeSamples_single {h : Hw} {k : Nat} {v : BitVec 16} (hk : k < 32) (hi : h.acq.inbox = [(k, v)]) :
    h.takeSamples = if h.frameClock then ({ h with acq := { h.acq with inbox := [] } } : Hw).takeSample k v
      else ({ h with acq := { h.acq with inbox := [] } } : Hw).numberSample k := by
  unfold Hw.takeSamples
  rw [hi, flatMap_filter_single k v _ List.nodup_range (List.mem_range.2 hk)]
  rfl

/-! ## The trigger sequencer (R347) -/

theorem countTimers_counted {h : Hw} {i : TrigInst} {rest : List TrigInst} {t : BitVec 4} (hi : h.acq.insts = i :: rest)
    (ht : i.timers = some t) : h.countTimers = h := by
  unfold Hw.countTimers
  rw [hi]
  dsimp only
  rw [ht, Option.isSome_some, if_pos rfl]

theorem autoTrigger_none {h : Hw} (ha : h.acq.autoAt = none) : execAutoTrigger h = h := by
  unfold execAutoTrigger
  rw [ha]

/-- The oldest instant leaves the queue. -/
def Hw.instTaken (h : Hw) (rest : List TrigInst) : Hw := { h with acq := { h.acq with insts := rest } }

theorem triggerEval_true {h : Hw} {i : TrigInst} {rest : List TrigInst} {t : BitVec 4} {c : Nat} (ha : h.acq.autoAt = none)
    (hi : h.acq.insts = i :: rest) (ht : i.timers = some t) (hf : (List.range 4).find? (h.slotTrue i) = some c) :
    execTriggerEval h = (h.instTaken rest).slotAct i c := by
  unfold execTriggerEval
  rw [autoTrigger_none ha, countTimers_counted hi ht]
  dsimp only
  rw [hi]
  dsimp only
  rw [show (List.range 4).find? (Hw.slotTrue { h with acq := { h.acq with insts := rest } } i) = some c from hf]
  rfl

theorem triggerEval_false {h : Hw} {i : TrigInst} {rest : List TrigInst} {t : BitVec 4} (ha : h.acq.autoAt = none)
    (hi : h.acq.insts = i :: rest) (ht : i.timers = some t) (hf : (List.range 4).find? (h.slotTrue i) = none) :
    execTriggerEval h = { h with acq := { h.acq with insts := rest, cntHit := 0 } } := by
  unfold execTriggerEval
  rw [autoTrigger_none ha, countTimers_counted hi ht]
  dsimp only
  rw [hi]
  dsimp only
  rw [show (List.range 4).find? (Hw.slotTrue { h with acq := { h.acq with insts := rest } } i) = none from hf]

theorem triggerEval_empty {h : Hw} (ha : h.acq.autoAt = none) (hi : h.acq.insts = []) : execTriggerEval h = h := by
  have hc : h.countTimers = h := by
    unfold Hw.countTimers
    rw [hi]
  unfold execTriggerEval
  rw [autoTrigger_none ha, hc]
  dsimp only
  rw [hi]

theorem find_slotTrue {h : Hw} {i : TrigInst} {c : Nat} (hc : c < 4) (ht : h.slotTrue i c = true)
    (hb : ∀ b, b < c → h.slotTrue i b = false) : (List.range 4).find? (h.slotTrue i) = some c := by
  rw [List.find?_range_eq_some]
  exact ⟨ht, List.mem_range.2 hc, fun b hlt => by rw [hb b hlt]; rfl⟩

/-- The counter, the timer, the symbol and the trigger of a slot's action word, in the order of R347. -/
def Hw.slotCount (h : Hw) (act : Word32) : Hw :=
  let ca := probeA (0xA00 + 16 * fld act 16 15)
  match fld act 18 17 with
  | 1 =>
    let n := min (2 ^ 48 - 1) ((h.reg64 ca).toNat + 1)
    let hit := n == (h.reg64 (ca + 8)).toNat && n != (h.reg64 ca).toNat
    { h.setReg64 ca (BitVec.ofNat 64 n) with acq := { h.acq with cntHit := setBit h.acq.cntHit (fld act 16 15) hit } }
  | 2 => h.setReg64 ca 0
  | _ => h

def Hw.slotTimer (h : Hw) (act : Word32) : Hw :=
  let t := fld act 20 19
  let ta := probeA (0xA40 + 16 * t)
  match fld act 22 21 with
  | 1 => { h.setReg64 ta (h.reg64 (ta + 8)) with acq := { h.acq with tmrOn := setBit h.acq.tmrOn t true } }
  | 2 => { h with acq := { h.acq with tmrOn := setBit h.acq.tmrOn t false } }
  | _ => h

def Hw.slotSymbol (h : Hw) (act : Word32) : Hw :=
  if bit act 6 && decide (fld act 14 7 ≤ 0xFC) then h.sendSym .trigger (fld act 14 7) else h

def Hw.slotTrigger (h : Hw) (i : TrigInst) (x act : Word32) : Hw :=
  if !bit act 5 then h else
  let inSeg := h.inSegment i.frame i.clock
  match fld x 3 0, i.cross.find? fun y => y.thr == fld x 13 4 with
  | 2, some y => h.trigger 2 y.chan y.frac y.frame y.clock (y.seq0 % 65536) inSeg
  | _, _ => h.trigger (fld x 3 0) (if fld x 3 0 = 5 ∨ fld x 3 0 = 8 then 0 else fld x 13 4) 0 i.frame i.clock i.pos inSeg

def Hw.slotGoto (h : Hw) (act : Word32) : Hw :=
  if bit act 4 then { h with acq := { h.acq with tstate := fld act 3 0 } } else h

def Hw.hitsGone (h : Hw) : Hw := { h with acq := { h.acq with cntHit := 0 } }

theorem slotAct_eq (h : Hw) (i : TrigInst) (c : Nat) : h.slotAct i c =
    ((((h.hitsGone.slotCount (h.reg (slotA h.acq.tstate c 4))).slotTimer (h.reg (slotA h.acq.tstate c 4))).slotSymbol
      (h.reg (slotA h.acq.tstate c 4))).slotTrigger i (h.reg (slotA h.acq.tstate c 0)) (h.reg (slotA h.acq.tstate c 4))).slotGoto
        (h.reg (slotA h.acq.tstate c 4)) := rfl

/-- A slot whose action word has only its GOTO. -/
theorem slotAct_goto {h : Hw} {i : TrigInst} {c : Nat} (h4 : bit (h.reg (slotA h.acq.tstate c 4)) 4 = true)
    (h5 : bit (h.reg (slotA h.acq.tstate c 4)) 5 = false) (h6 : bit (h.reg (slotA h.acq.tstate c 4)) 6 = false)
    (h17 : fld (h.reg (slotA h.acq.tstate c 4)) 18 17 = 0) (h21 : fld (h.reg (slotA h.acq.tstate c 4)) 22 21 = 0) :
    h.slotAct i c = { h with acq := { h.acq with cntHit := 0, tstate := fld (h.reg (slotA h.acq.tstate c 4)) 3 0 } } := by
  rw [slotAct_eq]
  generalize h.reg (slotA h.acq.tstate c 4) = act at *
  rw [Hw.slotCount, h17, Hw.slotTimer, h21, Hw.slotSymbol, h6, Bool.false_and, if_neg Bool.false_ne_true, Hw.slotTrigger, h5,
    Bool.not_false, if_pos rfl, Hw.slotGoto, if_pos h4]
  rfl

/-! ## Timers (R347) -/

/-- The timers that reach 0 at the oldest instant. -/
def Hw.timersOut (h : Hw) : BitVec 4 :=
  ofBits 4 fun k => bit h.acq.tmrOn k && decide ((h.reg64 (probeA (0xA40 + 16 * k))).toNat ≤ 1)

/-- One running timer counts down. -/
def countTimer (h : Hw) (k : Nat) : Hw :=
  if bit h.acq.tmrOn k then
    h.setReg64 (probeA (0xA40 + 16 * k)) (BitVec.ofNat 64 ((h.reg64 (probeA (0xA40 + 16 * k))).toNat - 1))
  else h

theorem countTimer_fields (h : Hw) (k : Nat) : (countTimer h k) = { h with regs := (countTimer h k).regs } ∧
    (∀ n, n ≠ k → (countTimer h k).reg64 (probeA (0xA40 + 16 * n)) = h.reg64 (probeA (0xA40 + 16 * n))) ∧
    (bit h.acq.tmrOn k = true → (countTimer h k).reg64 (probeA (0xA40 + 16 * k)) =
      BitVec.ofNat 64 ((h.reg64 (probeA (0xA40 + 16 * k))).toNat - 1)) ∧
    (bit h.acq.tmrOn k = false → countTimer h k = h) := by
  unfold countTimer
  split
  · next hb =>
    refine ⟨rfl, fun n hn => ?_, fun _ => reg64_setReg64 .., fun hf => absurd (hb.symm.trans hf) (by decide)⟩
    rw [Hw.reg64, reg_setReg64, reg_setReg64, if_neg, if_neg, if_neg, if_neg]
    · rfl
    all_goals unfold probeA; omega
  · next hb => exact ⟨rfl, fun _ _ => rfl, fun ht => absurd ht hb, fun _ => rfl⟩

/-- The timers of a list count down, each once. -/
theorem countTimer_foldl (ks : List Nat) (hd : ks.Nodup) (h : Hw) : (ks.foldl countTimer h) = { h with regs := (ks.foldl countTimer h).regs } ∧
    ∀ n, (ks.foldl countTimer h).reg64 (probeA (0xA40 + 16 * n)) =
      if n ∈ ks ∧ bit h.acq.tmrOn n = true then BitVec.ofNat 64 ((h.reg64 (probeA (0xA40 + 16 * n))).toNat - 1)
      else h.reg64 (probeA (0xA40 + 16 * n)) := by
  induction ks generalizing h with
  | nil => exact ⟨rfl, fun n => by simp⟩
  | cons k ks ih =>
    obtain ⟨hk, hd'⟩ := List.nodup_cons.1 hd
    obtain ⟨c1, c2, c3, c4⟩ := countTimer_fields h k
    obtain ⟨f1, f2⟩ := ih hd' (countTimer h k)
    have hon : (countTimer h k).acq = h.acq := by rw [c1]
    refine ⟨by rw [List.foldl_cons, f1, c1], fun n => ?_⟩
    rw [List.foldl_cons, f2, hon]
    by_cases hn : n = k
    · subst hn
      rw [if_neg fun hc => hk hc.1]
      by_cases hb : bit h.acq.tmrOn n = true
      · rw [c3 hb, if_pos ⟨List.mem_cons_self, hb⟩]
      · rw [c4 (by simpa using hb), if_neg fun hc => hb hc.2]
    · rw [c2 n hn]
      simp only [List.mem_cons, hn, false_or]

theorem countTimers_eq {h : Hw} {i : TrigInst} {rest : List TrigInst} (hi : h.acq.insts = i :: rest) (ht : i.timers = none)
    (hr : i.rearm = false) : ∃ r, h.countTimers = { h with regs := r, acq := { h.acq with
        tmrOn := h.acq.tmrOn &&& ~~~ h.timersOut, insts := { i with timers := some h.timersOut } :: rest } } ∧
      ∀ n, n < 4 → h.countTimers.reg64 (probeA (0xA40 + 16 * n)) =
        if bit h.acq.tmrOn n = true then BitVec.ofNat 64 ((h.reg64 (probeA (0xA40 + 16 * n))).toNat - 1)
        else h.reg64 (probeA (0xA40 + 16 * n)) := by
  obtain ⟨f1, f2⟩ := countTimer_foldl (List.range 4) List.nodup_range h
  have he : h.countTimers = { (List.range 4).foldl countTimer h with acq := { ((List.range 4).foldl countTimer h).acq with
      tmrOn := ((List.range 4).foldl countTimer h).acq.tmrOn &&& ~~~ h.timersOut
      insts := { i with timers := some h.timersOut, rearm := false } :: rest } } := by
    unfold Hw.countTimers
    rw [hi]
    dsimp only
    rw [ht, hr]
    rfl
  generalize (List.range 4).foldl countTimer h = m at f1 f2 he
  have hacq : m.acq = h.acq := by rw [f1]
  refine ⟨m.regs, ?_, fun n hn => ?_⟩
  · rw [he, hacq, f1, ← hr]
  · rw [he]
    refine (f2 n).trans ?_
    simp only [List.mem_range, hn, true_and]

/-- Settles O33: what a channel's lock, a sample, an instant and a timer do. -/
theorem triggerSequencer : Obligations.TriggerSequencer := by
  unfold Obligations.TriggerSequencer
  intro s
  refine ⟨fun k hk => ⟨?_, ?_, fun v => ⟨fun hl => ?_, fun hl ho => ?_, fun hl hr he => ?_, fun hi => ?_⟩⟩, ?_, ?_, fun ha hi => ?_⟩
  · refine does_of (decide_eq_true hk) ?_
    rw [show effect (.wordChannelFrameLock k) s.hw = _ from if_pos hk]
    exact setRegBit_fields s.hw _ hk true
  · refine does_of (decide_eq_true hk) ?_
    rw [show effect (.wordChannelLockLoss k) s.hw = _ from if_pos hk]
    exact setRegBit_fields s.hw _ hk false
  · exact exec_unchanged (decide_eq_true hk) (wordSample_unlocked v hl)
  · refine does_of (decide_eq_true hk) ?_
    rw [wordSample_locked v hk hl, if_neg (by rcases ho with h | h <;> simp [h])]
    exact ⟨(reg_setReg ..).trans (if_pos rfl), onlyRegs_setReg ..⟩
  · refine does_of (decide_eq_true hk) ?_
    rw [wordSample_locked v hk hl, if_pos (by rw [hr, he]; rfl)]
    exact ⟨(reg_setReg s.hw (wchA k 8) (wchA k 8) _).trans (if_pos rfl),
      fun a hne => (reg_setReg s.hw (wchA k 8) a _).trans (if_neg hne), rfl⟩
  · intro g
    have hg : g = _ := takeSamples_single hk hi
    have n : ∃ p, Numbered k p { s.hw with acq := { s.hw.acq with inbox := [] } } g ∧ (s.hw.frameClock = true → p =
        some ⟨v, s.hw.seq.frame.toNat, s.hw.seq.fclk, s.hw.seq.ticks, Store.get 0 s.hw.acq.next k⟩) := by
      rw [hg]
      split
      · exact ⟨_, takeSample_numbered .., fun _ => rfl⟩
      · next hf => exact ⟨none, by rw [numberSample_eq]; exact numbered_numbered .., fun h' => absurd h' hf⟩
    obtain ⟨p, n, hp⟩ := n
    exact ⟨n.shown, n.next, fun hf => ⟨_, n.prev.trans (hp hf), rfl, rfl, rfl, rfl⟩, n.regs, n.rest, n.inbox⟩
  · intro i rest t ha hi ht
    refine ⟨fun hno => does_of rfl ?_, ?_⟩
    · exact triggerEval_false ha hi ht (List.find?_eq_none.2 fun c hc => by rw [hno c (List.mem_range.1 hc)]; decide)
    · intro c hc htrue hb act h4 h5 h6 h17 h21
      refine does_of rfl ?_
      refine (triggerEval_true ha hi ht (find_slotTrue hc htrue hb)).trans ?_
      exact slotAct_goto (h := s.hw.instTaken rest) h4 h5 h6 h17 h21
  · intro k i rest hk hi ht hr hon hle
    obtain ⟨r, e, hreg⟩ := countTimers_eq hi ht hr
    have hout : bit s.hw.timersOut k = true := by rw [Hw.timersOut, bit_ofBits, hon]; simp [hk, hle]
    refine does_of (decide_eq_true hk) ?_
    rw [show effect (.triggerTimerExpiry k) s.hw = s.hw.countTimers from if_pos (by simp [hk, hon, hle])]
    have hacq : s.hw.countTimers.acq = { s.hw.acq with
        tmrOn := s.hw.acq.tmrOn &&& ~~~ s.hw.timersOut, insts := { i with timers := some s.hw.timersOut } :: rest } := by rw [e]
    refine ⟨?_, ?_, ⟨_, s.hw.timersOut, by rw [hacq], rfl, hout, rfl⟩, fun n hn hoff => ⟨?_, ?_⟩, by rw [e]⟩
    · rw [hreg k hk, if_pos hon, Nat.sub_eq_zero_of_le hle]
      rfl
    · rw [hacq, bit_and, bit_not _ hk, hout, Bool.not_true, Bool.and_false]
    · rw [hreg n hn, hoff, if_neg Bool.false_ne_true]
    · rw [hacq, bit_and, hoff, Bool.false_and]
  · exact exec_unchanged rfl (triggerEval_empty ha hi)

end Sys2Proof.Machine
end

section
-- As the tests above: declarations in order, so that checking the one text stays within its memory.
set_option Elab.async false
/-!
PROOFS. The end of a segment writes its descriptor, which can damage a capture whose slot number has no bound (O32).
-/

namespace Sys2Proof.Machine

/-- A segment of one has ended, in MODE 1, in a page that a capture has not copied and that begins with an uncorrectable word. The capture
names slot 0x309C, whose word 0 would be ACQ.CTRL, for the slots' words have no bound in the address that a slot number gives. -/
def segmentDone : Hw :=
  let h : Hw := {
    snap := {
      capture := some ⟨0x309C, 0, 0, some 0, [false, false], [], false, 0, false, false, [0, 0]⟩
      areas := [(0x309C, some ⟨[0, 0], true, [1, 1]⟩)] }
    acq := { trigIndex := some 0 }
    farMem := [(0, 7)]
    farValid := [(0, true)] }
  ((h.setReg (acqA 0) 1).setReg (acqA 0x24) 4).setReg (farA 0 8) 1

/-- The capture names that slot, no pair waits, and ACQ.CTRL reads r, with the acquisition in POST. -/
structure Damaging (r : Word32) (h : Hw) : Prop where
  qpairs : h.qpairs = []
  slot : ∀ c, h.snap.capture = some c → c.slot = 0x309C
  ctrl : h.reg (acqA 0) = r
  stat : h.reg (acqA 0x24) = 4

theorem damaging_areaWord {r : Word32} {h : Hw} (d : Damaging r h) (n b o : Nat) (v : Word64) : Damaging r (h.areaWord n b o v) :=
  ⟨d.qpairs, d.slot, d.ctrl, d.stat⟩

theorem damaging_raise {r : Word32} {h : Hw} (d : Damaging r h) (id : Nat) : Damaging r (h.raise id) :=
  ⟨d.qpairs, d.slot, d.ctrl, d.stat⟩

theorem damaging_areaValid {r : Word32} {h : Hw} (d : Damaging r h) (n b : Nat) (bits : List (Nat × Bool)) :
    Damaging r (h.areaValid n b bits) :=
  List.foldlRecOn (motive := Damaging r) _ _ d fun _ hg _ _ => damaging_areaWord hg ..

/-- DAMAGED of the capture's slot is a bit of SEGMENTS. -/
theorem damaging_noteDamage {r : Word32} {h : Hw} (d : Damaging r h) {c : Capture} (hc : c.slot = 0x309C) (n b : Nat) :
    Damaging (setFld r 6 6 1) (h.noteDamage c n b) := by
  have hs : snapSlotA c.slot 0 = acqA 0 := by rw [hc]; rfl
  unfold Hw.noteDamage
  dsimp only
  generalize hk : ({ h with snap := { h.snap with capture := some { c with damage := c.damage.set n (c.damage.getD n 0 + 1) } } } : Hw) = k
  have dk : Damaging r k := by
    rw [← hk]
    exact ⟨d.qpairs, fun c' hc' => by rw [← Option.some.inj hc']; exact hc, d.ctrl, d.stat⟩
  have dm := damaging_areaWord (damaging_areaWord dk n b 0x18 (setBit (k.areaRead n b 0x18) 26 true)) n b 0x60
    (BitVec.ofNat 64 ((c.damage.getD n 0 + 1) % 2 ^ 32))
  generalize ((k.areaWord n b 0x18 (setBit (k.areaRead n b 0x18) 26 true)).areaWord n b 0x60
    (BitVec.ofNat 64 ((c.damage.getD n 0 + 1) % 2 ^ 32))) = m at dm ⊢
  rw [hs]
  refine ⟨dm.qpairs, dm.slot, ?_, ?_⟩
  · exact (reg_setReg m (acqA 0) (acqA 0) _).trans ((if_pos rfl).trans (by rw [dm.ctrl]))
  · exact (reg_setReg m (acqA 0) (acqA 0x24) _).trans ((if_neg (by decide)).trans dm.stat)

theorem damaging_drainWord {h : Hw} (d : Damaging 0x41 h) (n b o : Nat) (w : Word78) : Damaging 0x41 (h.drainWord n b o w) := by
  have again : setFld (0x41 : Word32) 6 6 1 = 0x41 := by decide +kernel
  unfold Hw.drainWord
  split
  · next v c hdec hc => exact again ▸ damaging_noteDamage (damaging_areaWord d n b o 0) (d.slot c hc) n b
  · exact d
  · exact damaging_areaWord d ..

/-- The uncorrectable word. -/
theorem drainWord_damages {h : Hw} (d : Damaging 1 h) (hc : h.snap.capture ≠ none) (n b o : Nat) : Damaging 0x41 (h.drainWord n b o 7) := by
  obtain ⟨c, hc⟩ := Option.ne_none_iff_exists'.1 hc
  have first : setFld (1 : Word32) 6 6 1 = 0x41 := by decide +kernel
  have hbad : decDecode 7 = ((decDecode 7).1, .bad) := by decide +kernel
  unfold Hw.drainWord
  rw [hbad, hc]
  exact first ▸ damaging_noteDamage (damaging_areaWord d n b o 0) (d.slot c hc) n b

/-- The words of a page of die d that go to the area at b. -/
def Hw.pageDrained (h : Hw) (d b n : Nat) (is : List Nat) : Hw :=
  is.foldl (fun h i => h.drainWord d b (areaFarOff + 8 * (n * 512 + i))
    (if h.farWritten d (n * 512 + i) then h.farWord d (n * 512 + i) else 0)) h

def Hw.pageMarked (h : Hw) (d n : Nat) : Hw :=
  { h with snap := { h.snap with pages := Store.set false h.snap.pages (d * 2 ^ 24 + n) true } }

theorem damaging_pageMarked {r : Word32} {h : Hw} (k : Damaging r h) (d n : Nat) : Damaging r (h.pageMarked d n) :=
  ⟨k.qpairs, k.slot, k.ctrl, k.stat⟩

/-- A page that is copied. -/
theorem copyPage_eq {h : Hw} {a : SnapArea} (ha : h.farArea = some a) (d n : Nat) : ∃ bits, h.copyPage d n =
    ((h.pageDrained d (a.base.getD d 0) n (List.range 512)).areaValid d (a.base.getD d 0) bits).pageMarked d n := by
  unfold Hw.copyPage Hw.pageMarked Hw.pageDrained
  rw [ha]
  generalize List.range 512 = is
  exact ⟨_, rfl⟩

theorem damaging_copyPage {h : Hw} (d : Damaging 0x41 h) (n k : Nat) : Damaging 0x41 (h.copyPage n k) := by
  cases ha : h.farArea with
  | none =>
    unfold Hw.copyPage
    rw [ha]
    exact d
  | some a =>
    obtain ⟨bits, e⟩ := copyPage_eq ha n k
    rw [e]
    exact damaging_pageMarked (damaging_areaValid
      (List.foldlRecOn (motive := Damaging 0x41) _ _ d fun _ hg _ _ => damaging_drainWord hg ..) ..) ..

theorem damaging_setFarWord {r : Word32} {h : Hw} (d : Damaging r h) (n a : Nat) (v : Word64) : Damaging r (h.setFarWord n a v) := by
  rw [farStored_setFarWord h n a v]
  exact ⟨d.qpairs, d.slot, d.ctrl, d.stat⟩

theorem ridgeWaits_none {h : Hw} (hq : h.qpairs = []) (n a : Nat) : h.ridgeWaits n a = h := by
  unfold Hw.ridgeWaits
  rw [hq]
  rfl

theorem damaging_held {r : Word32} {h k : Hw} {n a : Nat} (hq : h.qpairs = []) (hk : h.holdFar n a true = k) (d : Damaging r k)
    (v : Word64) : Damaging r (h.farRidgeWrite n a v) := by
  unfold Hw.farRidgeWrite
  rw [ridgeWaits_none hq, hk]
  have ds := damaging_setFarWord d n a v
  generalize k.setFarWord n a v = m at ds ⊢
  exact ⟨ds.qpairs, ds.slot, ds.ctrl, ds.stat⟩

theorem damaging_farRidgeWrite {h : Hw} (d : Damaging 0x41 h) (n a : Nat) (v : Word64) : Damaging 0x41 (h.farRidgeWrite n a v) := by
  refine damaging_held d.qpairs rfl ?_ v
  unfold Hw.holdFar
  split
  · exact damaging_copyPage d ..
  · exact d

theorem damaging_segmentDone : Damaging 1 segmentDone :=
  ⟨rfl, fun c hc => by rw [← Option.some.inj hc], by decide +kernel, by decide +kernel⟩

theorem segmentDone_copied : Damaging 0x41 (segmentDone.copyPage 0 0) := by
  have ha : segmentDone.farArea = some ⟨[0, 0], true, [1, 1]⟩ := by decide +kernel
  have hw : segmentDone.farWritten 0 (0 * 512 + 0) = true := by decide +kernel
  have hv : segmentDone.farWord 0 (0 * 512 + 0) = 7 := by decide +kernel
  obtain ⟨bits, e⟩ := copyPage_eq ha 0 0
  rw [e]
  refine damaging_pageMarked (damaging_areaValid ?_ ..) ..
  unfold Hw.pageDrained
  rw [show List.range 512 = 0 :: (List.range 511).map Nat.succ from List.range_succ_eq_map, List.foldl_cons, hw, if_pos rfl, hv]
  exact List.foldlRecOn (motive := Damaging 0x41) _ _ (drainWord_damages damaging_segmentDone (by decide) ..)
    fun _ hg _ _ => damaging_drainWord hg ..

theorem segmentDone_holds : segmentDone.holdFar 0 0 true = segmentDone.copyPage 0 0 := by
  have hc : (segmentDone.draining 0 && segmentDone.farArea.isSome && true && segmentDone.inDesign 0 0 &&
    !Store.get false segmentDone.snap.pages (0 * 2 ^ 24 + 0 / 512)) = true := by decide +kernel
  unfold Hw.holdFar
  rw [hc, if_pos rfl, Nat.zero_div]

theorem segmentDone_firstWord (v : Word64) : Damaging 0x41 (segmentDone.farRidgeWrite 0 0 v) :=
  damaging_held damaging_segmentDone.qpairs segmentDone_holds segmentDone_copied v

/-- The descriptor damages the capture. -/
theorem segmentDone_descriptor : Damaging 0x41 (segmentDone.writeDescriptor 4) := by
  have hd : segmentDone.acqDie = 0 := by decide +kernel
  have hs : segmentDone.segBase = 0 := by decide +kernel
  unfold Hw.writeDescriptor
  dsimp only
  rw [show List.range 8 = 0 :: (List.range 7).map Nat.succ from List.range_succ_eq_map, List.foldl_cons, hd, hs]
  exact List.foldlRecOn (motive := Damaging 0x41) _ _ (segmentDone_firstWord _) fun _ hg _ _ => damaging_farRidgeWrite hg ..

theorem reg_noteEnded (h : Hw) (o a : Nat) : (h.noteEnded o).reg a = h.reg a := by
  unfold Hw.noteEnded
  split
  · rfl
  · dsimp only
    generalize (if h.acq.ended.contains o then h.acq.ended else o :: h.acq.ended) = l
    split
    · have hk : ({ h with acq := { h.acq with ended := [] } } : Hw).reg a = h.reg a := rfl
      generalize ({ h with acq := { h.acq with ended := [] } } : Hw) = k at hk ⊢
      rw [← hk]
      exact (acted_sendSym k .trigger 0xFE).reg a
    · rfl

/-- What tells the lead that a segment has ended leaves the registers alone (R356). -/
theorem reg_endTold {h g : Hw} (ht : g = h.sendSym .trigger 0xFF ∨ g = h.noteEnded h.devIndex ∨
    g = h.sendMsg (h.fget (acqA 0x20) 13 8) (.segmentEnd h.devIndex)) (a : Nat) : g.reg a = h.reg a := by
  rcases ht with rfl | rfl | rfl
  · exact (acted_sendSym ..).reg a
  · exact reg_noteEnded ..
  · exact (told_sendMsg ..).reg a

theorem acqState_setAcqState (h : Hw) (n v : Nat) (hn : n < 8) : ((h.setAcqState n).fset (acqA 0x24) 10 3 v).acqState = n := by
  unfold Hw.acqState Hw.setAcqState
  rw [fget_fset_ne _ _ _ _ _ _ _ _ (by decide) (Or.inr (Or.inl (by decide))), fget_fset_same _ _ _ _ _ (by decide)]
  omega

theorem acqState_newSegment (h : Hw) (n : Nat) {v : Nat} (hv : h.acqState = v) :
    ({ h with acq := { h.acq with deadFrom := n } } : Hw).newSegment.acqState = v := by
  unfold Hw.newSegment Hw.acqState Hw.fget Hw.reg
  exact hv

/-- With SEGMENTS as the damage leaves it, another segment is to come. -/
theorem segmentEnd_damaged {h : Hw} (hc : ¬ (h.acqState ≠ 4 ∨ h.acq.trigIndex.isNone ∨ h.acq.postLeft ≠ 0))
    (dw : Damaging 0x41 (h.writeDescriptor 4)) : (effect .segmentEnd h).acqState = 1 := by
  rw [show effect .segmentEnd h = execSegmentEnd h from rfl]
  unfold execSegmentEnd
  rw [if_neg hc]
  extract_lets k seg last next
  have d : Damaging 0x41 k := damaging_raise dw evAcqDone
  have hm : k.acqMode = 1 := by rw [Hw.acqMode, Hw.fget, d.ctrl]; decide +kernel
  have hg : k.acqSegment = 0 := by rw [Hw.acqSegment, Hw.fget, d.stat]; decide +kernel
  have hs : k.acqSegments = 17 := by rw [Hw.acqSegments, Hw.fget, d.ctrl]; decide +kernel
  have hl : ¬ last := by
    show ¬ k.acqSegment + 1 ≥ k.acqSegments
    rw [hg, hs]
    decide
  have hn : (next k (seg + 1)).acqState = 1 := by
    have hx := acqState_setAcqState k 1 (seg + 1) (by decide)
    unfold next
    generalize (k.setAcqState 1).fset (acqA 0x24) 10 3 (seg + 1) = x at hx ⊢
    have hy := acqState_newSegment x x.seq.ticks hx
    dsimp only
    generalize ({ x with acq := { x.acq with deadFrom := x.seq.ticks } } : Hw).newSegment = y at hy ⊢
    refine (fget_congr (reg_endTold ?_ (acqA 0x24)) 2 0).trans hy
    split
    · exact .inl rfl
    · split
      · exact .inr (.inl rfl)
      · exact .inr (.inr rfl)
  clear_value next
  split
  · rw [if_neg hl]
    exact hn
  · next h2 => exact absurd (hm.symm.trans h2) (by decide)
  · next h1 _ => exact absurd hm h1

theorem segmentDone_ends : ¬ (segmentDone.acqState ≠ 4 ∨ segmentDone.acq.trigIndex.isNone ∨ segmentDone.acq.postLeft ≠ 0) := by
  rw [not_or, not_or]
  have hs : segmentDone.acqState = 4 := by
    rw [Hw.acqState, Hw.fget, damaging_segmentDone.stat]
    decide
  exact ⟨not_not_intro hs, Bool.false_ne_true, not_not_intro rfl⟩

/-- Refutes O32: the descriptor of the last segment is written into a page whose uncorrectable word is noted in the capture's slot word;
with a slot number that no area has, that word is ACQ.CTRL, and SEGMENTS then names a further segment. -/
theorem not_acqRecords : ¬ Obligations.AcqRecords := by
  unfold Obligations.AcqRecords
  intro h
  obtain ⟨-, -, -, -, hend, -⟩ := h ⟨[], segmentDone⟩
  have he := (hend (by decide +kernel) (by decide +kernel) rfl).of_effect
  obtain ⟨-, -, -, -, hdone⟩ := he
  obtain ⟨hstate, -⟩ := hdone (Or.inr ⟨by decide +kernel, by decide +kernel⟩)
  rw [segmentEnd_damaged segmentDone_ends segmentDone_descriptor] at hstate
  exact absurd hstate (by decide)

end Sys2Proof.Machine
end

section
-- As the tests above: declarations in order, so that checking the one text stays within its memory.
set_option Elab.async false
/-!
PROOFS. The first record of a segment waits for the design's requests to its pseudo-channel (O31).
-/

namespace Sys2Proof.Machine

/-! ## Far-memory writes over the ridge network (R187) -/

/-- Far memory alone has changed. -/
def FarWrote (h g : Hw) : Prop := g = { h with farMem := g.farMem, farValid := g.farValid, farWb := g.farWb }

theorem FarWrote.trans {h g k : Hw} (a : FarWrote h g) (b : FarWrote g k) : FarWrote h k := by
  unfold FarWrote at *
  rw [b, a]

theorem FarWrote.seq {h g : Hw} (a : FarWrote h g) : g.seq = h.seq := by rw [a]

theorem FarWrote.capture {h g : Hw} (a : FarWrote h g) : g.snap.capture = h.snap.capture := by rw [a]

theorem FarWrote.idle {h g : Hw} (a : FarWrote h g) (hi : FarIdle h) : FarIdle g := by
  rw [a]
  exact hi

theorem farWrote_setFarWord (h : Hw) (d a : Nat) (v : Word64) : FarWrote h (h.setFarWord d a v) := by
  unfold Hw.setFarWord
  dsimp only
  split <;> rfl

/-- Once the requests before it are served and no capture goes on, a write changes far memory alone. -/
theorem farRidgeWrite_after {h k : Hw} {d a : Nat} (hk : h.ridgeWaits d a = k) (hc : k.snap.capture = none) (v : Word64) :
    FarWrote k (h.farRidgeWrite d a v) := by
  have hold : k.holdFar d a true = k := by simp [Hw.holdFar, Hw.draining, hc]
  unfold Hw.farRidgeWrite
  rw [hk, hold]
  have w := farWrote_setFarWord k d a v
  generalize k.setFarWord d a v = g at w
  exact w.trans rfl

theorem farRidgeWrite_idle {h : Hw} (hi : FarIdle h) (hc : h.snap.capture = none) (d a : Nat) (v : Word64) :
    FarWrote h (h.farRidgeWrite d a v) := farRidgeWrite_after (ridgeWaits_idle hi d a) hc v

/-- The one request that waits addresses the pseudo-channel of the access, and is served before it. -/
theorem ridgeWaits_one {h : Hw} {r : FmqReq} {a : Nat} (hq : h.qpairs = [(0, { reqs := [r] })])
    (ht : r.touches 0 (Config.pseudoChannel 0 a) = true) : h.ridgeWaits 0 a = h.serveHead 0 := by
  have hp : (h.qpair 0).reqs = [r] := by rw [Hw.qpair, hq]; rfl
  unfold Hw.ridgeWaits
  rw [hq, List.filter_cons, if_pos (show (0 / 128 == 0) = true by decide), List.filter_nil, List.foldl_cons, List.foldl_nil]
  show h.drainPair 0 (Config.pseudoChannel 0 a) 0 1 = _
  rw [Hw.drainPair, hp, List.any_cons, ht, Bool.true_or, if_pos rfl, Hw.drainPair]

/-- A read of word 8. -/
def readOf8 : FmqReq := ⟨[0x800], 0, 0, false⟩

theorem readOf8_touches : readOf8.touches 0 (Config.pseudoChannel 0 8) = true := by
  have hl : reqLen (readOf8.words.headD 0) = 1 := by decide
  have ha : reqWordAddr (readOf8.words.headD 0) 0 = 8 := by decide
  unfold FmqReq.touches
  dsimp only
  rw [hl, show List.range 1 = [0] from rfl, List.any_cons, ha, beq_self_eq_true, Bool.true_or]

/-! ## A segment that is armed while the frame's request waits -/

/-- A frame runs, the lead's 0xFE has come in ARMING, and pair 0 holds a read of word 8, where the segment's ring begins, outside the
DESIGN region. -/
def armingBusy : Hw :=
  let h : Hw := {
    seq := { run := .running, inFrame := true, syms := [⟨.trigger, 0xFE, 0, 0, 0⟩] }
    qpairs := [(0, { reqs := [readOf8] })] }
  h.setReg (acqA 0x24) 1

/-- The segment's registers are set, and the sequencer starts anew (R342, R348). -/
def Hw.segmentSet (h : Hw) : Hw :=
  let h := h.setReg (acqA 0x2C) (BitVec.ofNat 32 (min 0xFFFFFFFF (h.seq.ticks - h.acq.deadFrom)))
  let h := (h.setAcqState 2).trigReset
  ({ h with acq := { h.acq with armTag := h.nextTag, autoClks := 0, autoAt := none, autoSkip := true, ended := [] } } : Hw).newSegment

theorem segmentArm_arming {h : Hw} (hs : h.acqState = 1) (hi : h.acq.insts = []) :
    h.segmentArm = h.segmentSet.placeBase h.segmentSet.seq.frame.toNat := by
  have he : ((h.setReg (acqA 0x2C) (BitVec.ofNat 32 (min 0xFFFFFFFF (h.seq.ticks - h.acq.deadFrom)))).setAcqState 2).acq.insts.isEmpty =
    true := by
    show h.acq.insts.isEmpty = true
    rw [hi]
    rfl
  unfold Hw.segmentArm
  rw [if_neg (not_not_intro hs)]
  dsimp only
  rw [if_pos he]
  rfl

/-- The 0xFE has left the symbols. -/
def armingNow : Hw := { armingBusy with seq := { armingBusy.seq with syms := [] } }

theorem armingBusy_arms : effect .acqSegmentArm armingBusy = armingNow.segmentSet.placeBase armingNow.segmentSet.seq.frame.toNat := by
  have hf : armingBusy.seq.syms.find? (fun s => s.kind == .trigger && s.arg == 0xFE && s.origin == armingBusy.fget (acqA 0x20) 13 8 &&
    decide (s.eff ≤ armingBusy.seq.clk)) = some ⟨.trigger, 0xFE, 0, 0, 0⟩ := by decide +kernel
  have hs : armingNow.acqState = 1 := by decide +kernel
  rw [← segmentArm_arming hs rfl]
  show execAcqSegmentArm armingBusy = _
  unfold execAcqSegmentArm
  dsimp only
  rw [hf]
  rfl

/-- The state after the read has been served. -/
def servedBusy : Hw := armingNow.segmentSet.serveHead 0

theorem servedBusy_halts : servedBusy.seq.syms ≠ [] := by decide +kernel

theorem servedBusy_idle : FarIdle servedBusy := by
  have hq : ∀ kv ∈ servedBusy.qpairs, kv.2.reqs.isEmpty = true := by decide +kernel
  exact fun kv hkv => List.isEmpty_iff.1 (hq kv hkv)

theorem servedBusy_free : servedBusy.snap.capture = none := by decide +kernel

theorem countPlaced_seq (h : Hw) : h.countPlaced.seq = h.seq := by
  unfold Hw.countPlaced
  split
  · rfl
  · dsimp only
    split <;> rfl

/-- The two words of a record, once the first of them has waited for k. -/
theorem place_seq {h k : Hw} (body : BitVec 128) (f : Nat) (base : Bool) (hd : h.acqDie = 0)
    (hw : h.segBase + 8 + 2 * (h.acq.written % max 1 h.acqRing) = 8) (hk : h.ridgeWaits 0 8 = k) (hi : FarIdle k)
    (hc : k.snap.capture = none) : (h.place body f base).seq = k.seq := by
  unfold Hw.place
  dsimp only
  rw [hd, hw]
  generalize setFld body 123 88 (if base then 0 else f - h.acq.lastFrame) = v
  have f1 := farRidgeWrite_after hk hc (v.extractLsb' 0 64)
  have f2 := farRidgeWrite_idle (f1.idle hi) (f1.capture.trans hc) 0 (8 + 1) (v.extractLsb' 64 64)
  exact f2.seq.trans f1.seq

/-- HALT_AT_END has joined the symbols. -/
theorem armingBusy_halts : (effect .acqSegmentArm armingBusy).seq.syms ≠ [] := by
  have hk : armingNow.segmentSet.ridgeWaits 0 8 = servedBusy := ridgeWaits_one rfl readOf8_touches
  rw [armingBusy_arms, Hw.placeBase, countPlaced_seq,
    place_seq _ _ _ (by decide +kernel) (by decide +kernel) hk servedBusy_idle servedBusy_free]
  exact servedBusy_halts

/-- Refutes O31: a read outside the DESIGN region that waits for the pseudo-channel of the segment's first record is served before the
record is stored and poisons the frame, so that HALT_AT_END joins the symbols as the segment is armed. -/
theorem not_acqArmAndStop : ¬ Obligations.AcqArmAndStop := by
  unfold Obligations.AcqArmAndStop
  intro h
  obtain ⟨s, hs⟩ : ∃ s : State, s.hw = armingBusy := ⟨⟨[], armingBusy⟩, rfl⟩
  obtain ⟨-, -, harm⟩ := h s 0 ⟨.late, .late⟩
  rw [hs] at harm
  obtain ⟨hgo, -⟩ := harm ⟨.trigger, 0xFE, 0, 0, 0⟩ [] rfl rfl rfl (by decide +kernel) (by decide)
  have harms := (hgo (by decide +kernel)).of_effect
  obtain ⟨-, hsyms, -⟩ := harms
  rw [hs] at hsyms
  exact armingBusy_halts hsyms

end Sys2Proof.Machine
end

section
-- As the tests above: declarations in order, so that checking the one text stays within its memory.
set_option Elab.async false
/-!
PROOFS. What accesses to far memory change while no frame runs.
-/

namespace Sys2Proof.Machine

/-! ## Far memory while no frame runs -/

/-- What accesses to far memory may change while no frame runs, when nothing is sent. -/
def FarTouched (h g : Hw) : Prop :=
  g = { h with regs := g.regs, done := g.done, qpairs := g.qpairs, farMem := g.farMem, farValid := g.farValid, farWb := g.farWb
               snap := g.snap, fault := g.fault }

theorem FarTouched.refl (h : Hw) : FarTouched h h := rfl

theorem FarTouched.trans {h g k : Hw} (a : FarTouched h g) (b : FarTouched g k) : FarTouched h k := by
  unfold FarTouched at *
  rw [b, a]

theorem FarTouched.foldl {α : Type} {f : Hw → α → Hw} (step : ∀ g x, FarTouched g (f g x)) (xs : List α) (h : Hw) :
    FarTouched h (xs.foldl f h) :=
  List.foldlRecOn (motive := FarTouched h) _ _ (.refl h) fun g hg x _ => hg.trans (step g x)

theorem FarTouched.frameRuns {h g : Hw} (a : FarTouched h g) : g.frameRuns = h.frameRuns := by rw [a]; rfl

/-- A fold that gathers values beside the state. -/
theorem FarTouched.foldlPair {α β : Type} {f : β × Hw → α → β × Hw} {h : Hw} (hf : h.frameRuns = false)
    (step : ∀ acc x, acc.2.frameRuns = false → FarTouched acc.2 (f acc x).2) (xs : List α) (b : β) :
    FarTouched h (xs.foldl f (b, h)).2 :=
  List.foldlRecOn (motive := fun acc : β × Hw => FarTouched h acc.2) _ _ (FarTouched.refl h)
    fun acc ha x _ => ha.trans (step acc x (ha.frameRuns.trans hf))

theorem farTouched_fset (h : Hw) (a hi lo v : Nat) : FarTouched h (h.fset a hi lo v) := rfl

theorem farTouched_count (h : Hw) (a : Nat) : FarTouched h (h.count a) := rfl

theorem farTouched_raiseWith (h : Hw) (id : Nat) (d : Word32) (p : Bool) : FarTouched h (h.raiseWith id d p) := rfl

theorem farTouched_setQpair (h : Hw) (Q : Nat) (v : QPair) : FarTouched h (h.setQpair Q v) := rfl

theorem farTouched_farLoc (h : Hw) (d a q kind : Nat) (ridge : Bool) : FarTouched h (h.farLoc d a q kind ridge) := by
  obtain ⟨r, dn, e, -⟩ := farLoc_fields h d a q kind ridge
  rw [e]
  rfl

/-- Outside a frame nothing is poisoned (R423). -/
theorem farTouched_raisePoison {h : Hw} (hf : h.frameRuns = false) (id : Nat) (d : Word32) : FarTouched h (h.raisePoison id d) := by
  unfold Hw.raisePoison Hw.poison
  rw [show (h.raiseWith id d h.frameRuns).frameRuns = false from hf, if_neg Bool.false_ne_true]
  exact farTouched_raiseWith ..

theorem FarWrote.touched {h g : Hw} (a : FarWrote h g) : FarTouched h g := by
  rw [a]
  rfl

theorem farTouched_setFarWord (h : Hw) (d a : Nat) (v : Word64) : FarTouched h (h.setFarWord d a v) := (farWrote_setFarWord h d a v).touched

theorem farTouched_areaWord (h : Hw) (d b o : Nat) (v : Word64) : FarTouched h (h.areaWord d b o v) := rfl

theorem farTouched_areaValid (h : Hw) (d b : Nat) (bits : List (Nat × Bool)) : FarTouched h (h.areaValid d b bits) :=
  .foldl (fun g _ => farTouched_areaWord g ..) _ _

theorem farTouched_noteDamage (h : Hw) (c : Capture) (d b : Nat) : FarTouched h (h.noteDamage c d b) := by
  have h1 : FarTouched h { h with snap := { h.snap with capture := some { c with damage := c.damage.set d (c.damage.getD d 0 + 1) } } } := rfl
  unfold Hw.noteDamage
  exact (((h1.trans (farTouched_areaWord ..)).trans (farTouched_areaWord ..)).trans (farTouched_fset ..)).trans (farTouched_raiseWith ..)

theorem farTouched_drainWord (h : Hw) (d b o : Nat) (w : Word78) : FarTouched h (h.drainWord d b o w) := by
  unfold Hw.drainWord
  split
  · exact (farTouched_areaWord ..).trans (farTouched_noteDamage ..)
  · exact .refl h
  · exact farTouched_areaWord ..

theorem farTouched_copyPage (h : Hw) (d n : Nat) : FarTouched h (h.copyPage d n) := by
  cases ha : h.farArea with
  | none =>
    unfold Hw.copyPage
    rw [ha]
    exact .refl h
  | some a =>
    obtain ⟨bits, e⟩ := copyPage_eq ha d n
    have hd : FarTouched h (h.pageDrained d (a.base.getD d 0) n (List.range 512)) :=
      .foldl (fun g x => farTouched_drainWord g ..) _ _
    have hm (g : Hw) : FarTouched g (g.pageMarked d n) := rfl
    rw [e]
    exact (hd.trans (farTouched_areaValid ..)).trans (hm _)

theorem farTouched_holdFar (h : Hw) (d a : Nat) (p : Bool) : FarTouched h (h.holdFar d a p) := by
  unfold Hw.holdFar
  split
  · exact farTouched_copyPage ..
  · exact .refl h

theorem farTouched_lateFar (h : Hw) (d a : Nat) (v m : Word64) (p : Bool) : FarTouched h (h.lateFar d a v m p) := by
  unfold Hw.lateFar
  split
  · dsimp only
    split
    · exact (farTouched_areaWord ..).trans (farTouched_areaValid ..)
    · exact .refl h
  · exact .refl h

theorem farTouched_dropWb (h : Hw) (w : Store (Option Word64)) : FarTouched h { h with farWb := w } := rfl

theorem farTouched_farDesignWrite (h : Hw) (d a : Nat) (v m : Word64) (p : Bool) : FarTouched h (h.farDesignWrite d a v m p) := by
  unfold Hw.farDesignWrite
  have t := ((farTouched_holdFar h d a p).trans (farTouched_setFarWord _ d a v)).trans (farTouched_lateFar _ d a v m p)
  exact t.trans (farTouched_dropWb ..)

section
variable {h : Hw} (hf : h.frameRuns = false)
include hf

theorem farTouched_farUe (d a q : Nat) (ridge : Bool) : FarTouched h (h.farUe d a q ridge) := by
  have t : FarTouched h ((h.count (farA d 0x14)).farLoc d a (if ridge then 0 else q) 0 ridge) :=
    (farTouched_count ..).trans (farTouched_farLoc ..)
  unfold Hw.farUe
  dsimp only
  generalize (h.count (farA d 0x14)).farLoc d a (if ridge then 0 else q) 0 ridge = k at t ⊢
  split
  · exact t.trans (farTouched_raiseWith ..)
  · exact t.trans (farTouched_raisePoison (t.frameRuns.trans hf) ..)

theorem farTouched_farRead (d a q : Nat) (ridge first : Bool) : FarTouched h (h.farRead d a q ridge first).2 := by
  unfold Hw.farRead
  split
  · dsimp only
    split
    · exact (farTouched_count h (farA d 0x18)).trans (farTouched_raiseWith (h.count (farA d 0x18)) (evFarFirstRead d) 0 false)
    · exact .refl h
  · split
    · exact .refl h
    · have t : FarTouched h (if (h.count (farA d 0x10)).bget (farA d 0xC) 0 then (h.count (farA d 0x10)).raise (evFarCorrected d)
          else h.count (farA d 0x10)) := by
        have tc := farTouched_count h (farA d 0x10)
        generalize h.count (farA d 0x10) = k at tc
        split
        · exact tc.trans (farTouched_raiseWith ..)
        · exact tc
      exact t.trans (farTouched_dropWb ..)
    · exact farTouched_farUe hf ..

theorem farTouched_farRange (d q a : Nat) : FarTouched h (h.farRange d q a) := by
  have t : FarTouched h ((h.count (farA d 0x24)).farLoc d a q 1 false) := (farTouched_count ..).trans (farTouched_farLoc ..)
  rw [farRange_eq]
  exact t.trans (farTouched_raisePoison (t.frameRuns.trans hf) ..)

/-- Serving the head of a pair touches no more than its operation does. -/
theorem farTouched_serve (Q op : Nat) {f : Nat → Nat → FmqReq → Hw → Option (List Word64) × Hw}
    (step : ∀ d q r k, k.frameRuns = false → FarTouched k (f d q r k).2) : FarTouched h (h.serve Q op f) := by
  unfold Hw.serve
  dsimp only
  split
  · exact .refl h
  · next r rest hr =>
    split
    · exact .refl h
    · have t0 : FarTouched h (h.setQpair Q { h.qpair Q with reqs := rest }) := farTouched_setQpair ..
      have t := t0.trans (step (Q / 128) (Q % 128) r _ (t0.frameRuns.trans hf))
      split
      · exact t
      · exact t.trans (farTouched_setQpair ..)

theorem farTouched_reqRead (Q : Nat) : FarTouched h (execFmqReqRead h Q) := by
  refine farTouched_serve hf Q 0 fun d q r k hk => ?_
  dsimp only
  split
  · exact farTouched_farRange hk ..
  · refine FarTouched.foldlPair (β := List Word64) hk (fun acc n ha => ?_) _ []
    exact farTouched_farRead ha d (reqWordAddr (r.words.headD 0) n) q false true

theorem farTouched_reqWrite (Q : Nat) : FarTouched h (execFmqReqWrite h Q) := by
  refine farTouched_serve hf Q 1 fun d q r k hk => ?_
  dsimp only
  split
  · exact farTouched_farRange hk ..
  · exact .foldl (fun g _ => farTouched_farDesignWrite g ..) _ _

theorem farTouched_reqMaskedWrite (Q : Nat) : FarTouched h (execFmqReqMaskedWrite h Q) := by
  refine farTouched_serve hf Q 2 fun d q r k hk => ?_
  dsimp only
  split
  · exact farTouched_farRange hk ..
  · have t := farTouched_farRead hk d (reqAddr (r.words.headD 0)) q false false
    split
    · exact t
    · exact t.trans (farTouched_farDesignWrite ..)

theorem farTouched_serveHead (Q : Nat) : FarTouched h (h.serveHead Q) := by
  unfold Hw.serveHead
  split
  · exact .refl h
  · dsimp only
    split
    · exact farTouched_reqRead hf Q
    · split
      · exact farTouched_reqWrite hf Q
      · exact farTouched_reqMaskedWrite hf Q

theorem farTouched_drainPair (d ch Q n : Nat) : FarTouched h (h.drainPair d ch Q n) := by
  induction n generalizing h with
  | zero => exact .refl h
  | succ n ih =>
    unfold Hw.drainPair
    split
    · have t := farTouched_serveHead hf Q
      exact t.trans (ih (t.frameRuns.trans hf))
    · exact .refl h

theorem farTouched_ridgeWaits (d a : Nat) : FarTouched h (h.ridgeWaits d a) :=
  List.foldlRecOn (motive := FarTouched h) _ _ (.refl h) fun _ hg _ _ => hg.trans (farTouched_drainPair (hg.frameRuns.trans hf) ..)

theorem farTouched_farRidgeWrite (d a : Nat) (v : Word64) : FarTouched h (h.farRidgeWrite d a v) := by
  unfold Hw.farRidgeWrite
  exact (((farTouched_ridgeWaits hf d a).trans (farTouched_holdFar _ d a true)).trans (farTouched_setFarWord _ d a v)).trans
    (farTouched_dropWb ..)

theorem farTouched_writeDescriptor (n : Nat) : FarTouched h (h.writeDescriptor n) :=
  List.foldlRecOn (motive := FarTouched h) _ _ (.refl h) fun _ hg _ _ => hg.trans (farTouched_farRidgeWrite (hg.frameRuns.trans hf) ..)

/-- An acquisition that ends, while no frame runs (R355). -/
theorem farTouched_acqAbort : FarTouched h { h.acqAbort with acq := h.acq } := by
  unfold Hw.acqAbort
  split
  · exact .refl h
  · dsimp only
    have t : FarTouched h (if h.pstate < 2 then h.writeDescriptor 6 else h) := by
      split
      · exact farTouched_writeDescriptor hf 6
      · exact .refl h
    generalize (if h.pstate < 2 then h.writeDescriptor 6 else h) = k at t ⊢
    rw [t]
    rfl

end

end Sys2Proof.Machine
end

section
-- As the tests above: declarations in order, so that checking the one text stays within its memory.
set_option Elab.async false
/-!
PROOFS. Full images (O27).
-/

namespace Sys2Proof.Machine

/-! ## The actions on an image (Table 9.6) -/

/-- What the actions between the first and the last write: the memories, the plan and registers. -/
def Written (h g : Hw) : Prop :=
  g = { h with regs := g.regs, rwf := g.rwf, rows := g.rows, bundles := g.bundles, support := g.support, lofts := g.lofts
               bankMem := g.bankMem, bankValid := g.bankValid, farMem := g.farMem, farValid := g.farValid
               plan := g.plan, ptable := g.ptable, waitSets := g.waitSets, flash := g.flash, flashHeld := g.flashHeld }

theorem Written.refl (h : Hw) : Written h h := rfl

theorem Written.trans {h g k : Hw} (a : Written h g) (b : Written g k) : Written h k := by
  unfold Written at *
  rw [b, a]

theorem Written.foldl {α : Type} {f : Hw → α → Hw} (step : ∀ g x, Written g (f g x)) (xs : List α) (h : Hw) : Written h (xs.foldl f h) :=
  List.foldlRecOn (motive := Written h) _ _ (.refl h) fun g hg x _ => hg.trans (step g x)

/-- Registers alone have changed. -/
def RegsSet (h g : Hw) : Prop := g = { h with regs := g.regs }

theorem RegsSet.refl (h : Hw) : RegsSet h h := rfl

theorem RegsSet.trans {h g k : Hw} (a : RegsSet h g) (b : RegsSet g k) : RegsSet h k := by
  unfold RegsSet at *
  rw [b, a]

theorem RegsSet.foldl {α : Type} {f : Hw → α → Hw} (step : ∀ g x, RegsSet g (f g x)) (xs : List α) (h : Hw) : RegsSet h (xs.foldl f h) :=
  List.foldlRecOn (motive := RegsSet h) _ _ (.refl h) fun g hg x _ => hg.trans (step g x)

theorem RegsSet.written {h g : Hw} (a : RegsSet h g) : Written h g := by
  rw [a]
  rfl

theorem regsSet_setReg (h : Hw) (a : Nat) (v : Word32) : RegsSet h (h.setReg a v) := rfl

theorem regsSet_fset (h : Hw) (a hi lo v : Nat) : RegsSet h (h.fset a hi lo v) := rfl

theorem regsSet_clearRegs (h : Hw) (as : List Nat) : RegsSet h (h.clearRegs as) := .foldl (fun g a => regsSet_setReg g a 0) _ _

theorem regsSet_allBanks (h : Hw) (n : Nat) : RegsSet h (h.allBanks n) := .foldl (fun g _ => regsSet_setReg g ..) _ _

theorem written_setReg (h : Hw) (a : Nat) (v : Word32) : Written h (h.setReg a v) := rfl

theorem written_clearRegs (h : Hw) (as : List Nat) : Written h (h.clearRegs as) := (regsSet_clearRegs h as).written

theorem written_setRow (h : Hw) (t r : Nat) (v : Row) : Written h (h.setRow t r v) := rfl

theorem written_setBundle (h : Hw) (t e : Nat) (v : Bundle) : Written h (h.setBundle t e v) := rfl

theorem written_setLoft (h : Hw) (t a : Nat) (v : Word78) : Written h (h.setLoft t a v) := rfl

theorem written_setBankWord (h : Hw) (b a : Nat) (v : Word64) : Written h (h.setBankWord b a v) := rfl

theorem written_preloadFar (h : Hw) (d a : Nat) (v : Word64) : Written h (h.preloadFar d a v) := rfl

theorem written_writeRows (h : Hw) (ss : List Sect) : Written h (h.writeRows ss) := by
  refine .foldl (fun g s => ?_) _ _
  split
  · exact .foldl (fun g _ => written_setRow g ..) _ _
  · split
    · exact .foldl (fun _ _ => .foldl (fun g _ => written_setBundle g ..) _ _) _ _
    · exact .refl g

theorem written_writeLofts (h : Hw) (ss : List Sect) : Written h (h.writeLofts ss) :=
  .foldl (fun _ _ => .foldl (fun _ _ => .foldl (fun g _ => written_setLoft g ..) _ _) _ _) _ _

theorem written_writePreloads (h : Hw) (ss : List Sect) : Written h (h.writePreloads ss) := by
  refine .foldl (fun g s => ?_) _ _
  split
  · exact .foldl (fun g _ => written_setBankWord g ..) _ _
  · split
    · exact .foldl (fun g _ => written_preloadFar g ..) _ _
    · exact .refl g

theorem written_plan (h : Hw) (p : Store Word64) (t : Store Nat) (w : Store (BitVec 256)) :
    Written h { h with plan := p, ptable := t, waitSets := w } := rfl

theorem written_writePlan (h : Hw) (s : Sect) : Written h (h.writePlan s) := by
  unfold Hw.writePlan
  exact written_plan ..

theorem written_noteFree (h : Hw) : Written h h.noteFree := .foldl (fun g _ => written_setReg g ..) _ _

theorem written_clearAtLoad (h : Hw) : Written h h.clearAtLoad :=
  (written_clearRegs ..).trans (.foldl (fun g _ => written_clearRegs g ..) _ _)

theorem written_writePortMap (h : Hw) (s : Sect) : Written h (h.writePortMap s) :=
  .foldl (fun g _ => (written_setReg g ..).trans (written_setReg ..)) _ _

/-- The plan, the settings and the registers of the header, before the sequencer takes its fields (action 6, R199). -/
def Hw.headerWritten (h : Hw) (bs : List Byte) (ss : List Sect) : Hw :=
  let f (o n : Nat) : Nat := imgField bs o n
  let h : Hw := { h with plan := [], ptable := [], waitSets := [], flash := Store.setAll 0 [] (flashSettings ss)
                         flashHeld := [] }
  let h := (ss.filter fun s => s.type == 6).foldl (fun h s => h.writePlan s) h
  let h := [0, 1].foldl (fun h d =>
    (((h.fset (bridgeA d 0) 12 8 (f 0x64 1)).fset (bankA d 0x100) 20 16 (f 0x65 1)).fset (bankA d 0x100) 28 24
      (f 0x66 1)).fset (farA d 0) 24 16 (f 0x6A 2)) h
  let h := (List.range 12).foldl (fun h p =>
    let v := f (0x84 + 2 * p) 2
    h.fset (eaveA p 0x100) 8 0 (if v = 0 then 160 else v)) h
  let h := [0, 1].foldl (fun h d => (h.setReg (seqA d 0x10) (BitVec.ofNat 32 (f 0x48 4))).fset (farA d 8) 15 0 (headDesign bs d))
    { h with rwf := Store.keep (fun a => a != seqA 0 0x10 && a != seqA 1 0x10) h.rwf }
  h.noteFree

/-- What the sequencer takes from the header. -/
def headerSeq (bs : List Byte) (s : Seq) : Seq :=
  { s with
    schedLen := imgField bs 0x44 2, horizon := imgField bs 0x46 2
    vecSource := if (imgField bs 0x41 1).testBit 1 then
      some ((if (imgField bs 0x41 1).testBit 2 then 1 else 0), imgField bs 0x42 2) else none
    vecTruss := imgField bs 0x42 2
    dev := BitVec.ofNat 64 (imgField bs 0x50 8), devNext := BitVec.ofNat 64 (imgField bs 0x50 8), alt := 0, altNext := 0 }

theorem writeHeader_eq (h : Hw) (bs : List Byte) (ss : List Sect) :
    h.writeHeader bs ss = (h.headerWritten bs ss).updSeq (headerSeq bs) := rfl

theorem written_emptied (h : Hw) (f : Store Nat) :
    Written h { h with plan := [], ptable := [], waitSets := [], flash := f, flashHeld := [] } := rfl

theorem written_rwf (h : Hw) (r : Store (Option Word32)) : Written h { h with rwf := r } := rfl

theorem written_fset (h : Hw) (a hi lo v : Nat) : Written h (h.fset a hi lo v) := rfl

theorem written_headerWritten (h : Hw) (bs : List Byte) (ss : List Sect) : Written h (h.headerWritten bs ss) := by
  unfold Hw.headerWritten
  refine Written.trans ?_ (written_noteFree _)
  refine Written.trans ?_ (.foldl (fun g d => (written_setReg g ..).trans (written_fset ..)) _ _)
  refine Written.trans ?_ (written_rwf _ _)
  refine Written.trans ?_ (.foldl (fun g p => written_fset g ..) _ _)
  refine Written.trans ?_ (.foldl (fun g d =>
    (((written_fset g ..).trans (written_fset ..)).trans (written_fset ..)).trans (written_fset ..)) _ _)
  exact (written_emptied h _).trans (.foldl (fun g s => written_writePlan g s) _ _)

/-! ## One action after the other -/

/-- From h to g actions 2 to 8 have worked: the host side, network time, the ports and the calls are as they were, and of the image only
the count of the actions has changed. -/
def Loading (h g : Hw) : Prop :=
  g = { h with regs := g.regs, rwf := g.rwf, rows := g.rows, bundles := g.bundles, support := g.support, lofts := g.lofts
               bankMem := g.bankMem, bankValid := g.bankValid, farMem := g.farMem, farValid := g.farValid
               plan := g.plan, ptable := g.ptable, waitSets := g.waitSets, flash := g.flash, flashHeld := g.flashHeld
               trusses := g.trusses, banks := g.banks, portWords := g.portWords, bridgeErr := g.bridgeErr, probeIn := g.probeIn
               farWb := g.farWb, qpairs := g.qpairs, seq := g.seq, img := { h.img with actions := g.img.actions } }

theorem Loading.trans {h g k : Hw} (a : Loading h g) (b : Loading g k) : Loading h k := by
  unfold Loading at *
  rw [b, a]

theorem Written.loading {h g : Hw} (w : Written h g) : Loading h g := by
  rw [w]
  rfl

/-- Action n begins. -/
def Hw.acting (h : Hw) (n : Nat) : Hw := { h with img := { h.img with actions := n } }

theorem loading_acting (h : Hw) (n : Nat) : Loading h (h.acting n) := rfl

theorem loading_unloadArray (h : Hw) : Loading h h.unloadArray := rfl

theorem loading_updSeq (h : Hw) (f : Seq → Seq) : Loading h (h.updSeq f) := rfl

theorem loading_qpairs (h : Hw) (q : Store QPair) : Loading h { h with qpairs := q } := rfl

theorem written_rowsGone (h : Hw) : Written h { h with rows := [], bundles := [], support := [] } := rfl

theorem Written.seq {h g : Hw} (w : Written h g) : g.seq = h.seq := by rw [w]

theorem Written.trusses {h g : Hw} (w : Written h g) : g.trusses = h.trusses := by rw [w]

theorem Written.qpairs {h g : Hw} (w : Written h g) : g.qpairs = h.qpairs := by rw [w]

theorem applyAction_two (h : Hw) (bs : List Byte) : h.applyAction bs 2 = (h.acting 2).unloadArray := rfl

/-- Actions 3, 4, 5 and 7 write. -/
theorem written_applyAction (h : Hw) (bs : List Byte) {n : Nat} (hn : n = 3 ∨ n = 4 ∨ n = 5 ∨ n = 7) :
    Written (h.acting n) (h.applyAction bs n) := by
  rcases hn with rfl | rfl | rfl | rfl
  · exact (written_rowsGone _).trans (written_writeRows ..)
  · exact written_writeLofts ..
  · exact written_writePreloads ..
  · exact written_clearAtLoad _

theorem applyAction_six (h : Hw) (bs : List Byte) :
    h.applyAction bs 6 = ((h.acting 6).headerWritten bs (sectsOf bs)).updSeq (headerSeq bs) := rfl

/-- The scrubber's control words of both dies. -/
def Hw.scrubStill (h : Hw) : Hw := [0, 1].foldl (fun h d => h.setReg (scrubA d 4) 0) h

theorem applyAction_eight (h : Hw) (bs : List Byte) :
    h.applyAction bs 8 = ({ (h.acting 8).allBanks 0 with qpairs := [] } : Hw).scrubStill := rfl

theorem written_scrubStill (h : Hw) : Written h h.scrubStill := .foldl (fun g _ => written_setReg g ..) _ _

theorem reg_scrubStill (h : Hw) (d : Nat) {j : Nat} (hj : j < 64) : h.scrubStill.reg (bankA d (4 * j)) = h.reg (bankA d (4 * j)) := by
  unfold Hw.scrubStill
  rw [List.foldl_cons, List.foldl_cons, List.foldl_nil, reg_setReg, if_neg, reg_setReg, if_neg]
  all_goals unfold bankA scrubA dieBase; omega

/-- Every bank goes to one owner. -/
theorem reg_allBanks (h : Hw) (n : Nat) {d j : Nat} (hd : d < 2) (hj : j < 64) :
    (h.allBanks n).reg (bankA d (4 * j)) = BitVec.ofNat 32 (n + n * 2 ^ 4) := by
  have key (bs : List Nat) (hb : ∀ b ∈ bs, b < 128) (h : Hw) : (bs.foldl (fun h b =>
      h.setReg (bankA (b / 64) (4 * (b % 64))) (BitVec.ofNat 32 (n + n * 2 ^ 4))) h).reg (bankA d (4 * j)) =
        if 64 * d + j ∈ bs then BitVec.ofNat 32 (n + n * 2 ^ 4) else h.reg (bankA d (4 * j)) := by
    induction bs generalizing h with
    | nil => rw [if_neg List.not_mem_nil]; rfl
    | cons b bs ih =>
      have hlt := hb b List.mem_cons_self
      rw [List.foldl_cons, ih (fun x hx => hb x (List.mem_cons_of_mem b hx)), reg_setReg]
      have hiff : bankA d (4 * j) = bankA (b / 64) (4 * (b % 64)) ↔ 64 * d + j = b := by unfold bankA dieBase; omega
      simp only [List.mem_cons, hiff]
      by_cases hm : 64 * d + j ∈ bs
      · simp [hm]
      · simp [hm]
  unfold Hw.allBanks
  rw [key (List.range 128) (fun b hb => List.mem_range.1 hb), if_pos (List.mem_range.2 (by omega))]

/-! ## The first and the last action -/

/-- The acquisition, the calls and the outputs of the earlier design have ended, and every bank is the loader's. -/
def Hw.designStopped (h : Hw) : Hw :=
  ((h.acqAbort.clearCalls).clearRegs ((List.range 16).map fun b => userioA (0x40 + 4 * b))).allBanks 1

/-- What the image and the upkeep forget in action 1. -/
def Hw.imageOpened (h : Hw) : Hw :=
  { h with
    scrubSince := [], scrubSlots := [], ioOut := [], done := keepMarks h.done
    img := { h.img with loaded := none, bay := none, load := h.img.load.map fun l => { l with phase := .applying } } }

/-- What the sequencer forgets in action 1. -/
def emptySeq (s : Seq) : Seq :=
  { s with
    run := .empty, inFrame := false, starting := none, halts := [], stallReqs := [], levelChg := none, levelDue := none
    poisoned := false, path := [[], []], syms := [], caps := [] }

theorem applyAction_one (h : Hw) (bs : List Byte) : h.applyAction bs 1 = (h.acting 1).designStopped.imageOpened.updSeq emptySeq := rfl

/-- What holds of the state that action 1 leaves. -/
structure DesignStopped (h g : Hw) : Prop where
  host : g.host = h.host
  fw : g.fw = h.fw
  time : g.time = h.time
  ports : g.ports = h.ports
  img : g.img = h.img
  rows : g.rows = h.rows
  trusses : g.trusses = h.trusses
  calls : g.calls.slots = []
  banks : ∀ d j, d < 2 → j < 64 → g.reg (bankA d (4 * j)) = 0x11

/-- No call is left (R335). -/
def Hw.callsGone (h : Hw) (l : Option (Nat × Nat)) : Hw :=
  { h with calls := { h.calls with asm := [], raises := [], slots := [], ready := [], results := [], mpLost := l } }

theorem clearCalls_regs (h : Hw) : ∃ l, RegsSet (h.callsGone l) h.clearCalls := ⟨_, .foldl (fun g _ => regsSet_fset g ..) _ _⟩

theorem designStopped_fields {h : Hw} (hf : h.frameRuns = false) : DesignStopped h h.designStopped := by
  have t := farTouched_acqAbort hf
  have ta : h.acqAbort = { ({ h.acqAbort with acq := h.acq } : Hw) with acq := h.acqAbort.acq } := rfl
  obtain ⟨l, wc⟩ := clearCalls_regs h.acqAbort
  have w : RegsSet (h.acqAbort.callsGone l)
      ((h.acqAbort.clearCalls.clearRegs ((List.range 16).map fun b => userioA (0x40 + 4 * b))).allBanks 1) :=
    (wc.trans (regsSet_clearRegs ..)).trans (regsSet_allBanks ..)
  have hb (d j : Nat) (hd : d < 2) (hj : j < 64) := reg_allBanks
    (h.acqAbort.clearCalls.clearRegs ((List.range 16).map fun b => userioA (0x40 + 4 * b))) 1 hd hj
  unfold Hw.designStopped
  generalize ((h.acqAbort.clearCalls.clearRegs ((List.range 16).map fun b => userioA (0x40 + 4 * b))).allBanks 1) = g at w hb ⊢
  rw [ta] at w
  generalize ({ h.acqAbort with acq := h.acq } : Hw) = k at t w
  rw [t] at w
  exact {
    host := by rw [w]; rfl
    fw := by rw [w]; rfl
    time := by rw [w]; rfl
    ports := by rw [w]; rfl
    img := by rw [w]; rfl
    rows := by rw [w]; rfl
    trusses := by rw [w]; rfl
    calls := by rw [w]; rfl
    banks := hb }

/-- What action 1 leaves (Table 9.7). -/
structure Opened (h g : Hw) : Prop where
  host : g.host = h.host
  fw : g.fw = h.fw
  time : g.time = h.time
  ports : g.ports = h.ports
  rows : g.rows = h.rows
  trusses : g.trusses = h.trusses
  calls : g.calls.slots = []
  banks : ∀ d j, d < 2 → j < 64 → g.reg (bankA d (4 * j)) = 0x11
  img : g.img = { h.img with
    actions := 1, loaded := none, bay := none, load := h.img.load.map fun l => { l with phase := .applying } }
  scrub : g.scrubSlots = []
  run : g.seq.run = .empty
  outside : g.seq.inFrame = false

/-- The end of action 1 touches the image, the upkeep and the sequencer alone. -/
theorem opened_of_stopped {h m : Hw} (d : DesignStopped h m) (ha : h.img.actions = 1) :
    Opened h (m.imageOpened.updSeq emptySeq) where
  host := d.host
  fw := d.fw
  time := d.time
  ports := d.ports
  rows := d.rows
  trusses := d.trusses
  calls := d.calls
  banks := d.banks
  img := by
    rw [← ha, ← d.img]
    rfl
  scrub := rfl
  run := rfl
  outside := rfl

theorem opened_applyAction {h : Hw} (hf : h.frameRuns = false) (bs : List Byte) : Opened (h.acting 1) (h.applyAction bs 1) := by
  rw [applyAction_one]
  exact opened_of_stopped (designStopped_fields hf) rfl

/-- What the last action leaves of the state before it. -/
structure LoadDone (bs : List Byte) (h g : Hw) : Prop where
  seq : g.seq = { h.seq with run := .held, frame := 0, deferred := false, haltReason := 0, credits := [[], []] }
  img : g.img = { h.img with
    loaded := some ⟨bs.take 256, BitVec.ofNat 64 (imgField bs 0x10 8)⟩, load := none, unformed := true, applyPending := false
    actions := 0, markOverflow := false }
  host : g.host = h.host
  fw : g.fw = h.fw
  time : g.time = h.time
  ports : g.ports = h.ports
  calls : g.calls = h.calls
  trusses : g.trusses = h.trusses
  qpairs : g.qpairs = h.qpairs
  banks : ∀ d j, d < 2 → j < 64 → g.reg (bankA d (4 * j)) = h.reg (bankA d (4 * j))

theorem regsSet_writePortMap (h : Hw) (s : Sect) : RegsSet h (h.writePortMap s) :=
  .foldl (fun g _ => (regsSet_setReg g ..).trans (regsSet_setReg ..)) _ _

/-- Directions and outputs stand apart from the banks. -/
theorem reg_writePortMap (h : Hw) {s : Sect} (hs : s.die < 256) (d j : Nat) :
    (h.writePortMap s).reg (bankA d (4 * j)) = h.reg (bankA d (4 * j)) := by
  refine List.foldlRecOn (motive := fun g : Hw => g.reg (bankA d (4 * j)) = h.reg (bankA d (4 * j))) _ _ rfl fun g hg i hi => ?_
  have hlt := List.mem_range.1 hi
  rw [reg_setReg, if_neg (by unfold bankA userioA dieBase; omega), reg_setReg, if_neg (by unfold bankA userioA dieBase; omega), hg]

theorem imgField_byte (bs : List Byte) (o : Nat) : imgField bs o 1 < 256 := by
  unfold imgField
  cases (bs.drop o) with
  | nil => decide
  | cons b l =>
    have := b.isLt
    simp only [List.take_succ_cons, List.take_zero, ofBytes, List.foldr_cons, List.foldr_nil]
    omega

theorem die_sectsOf {bs : List Byte} {s : Sect} (hs : s ∈ sectsOf bs) : s.die < 256 := by
  obtain ⟨i, -, rfl⟩ := List.mem_map.1 hs
  exact imgField_byte ..

/-- SYNC in the trace, when it is on. -/
theorem syncIfOn_fields (h : Hw) : (h.syncIfOn 4) = { h with regs := (h.syncIfOn 4).regs, trace := (h.syncIfOn 4).trace } ∧
    ∀ a, a ≠ traceA 0x34 → (h.syncIfOn 4).reg a = h.reg a := by
  unfold Hw.syncIfOn
  split
  · have st := staged_stageSync h (r := 4) (by decide)
    exact ⟨st.rest, fun a ha => st.reg a (by simpa using ha)⟩
  · exact ⟨rfl, fun _ _ => rfl⟩

/-- The image is the loaded one, before SYNC. -/
def Hw.imageLoaded (h : Hw) (bs : List Byte) : Hw :=
  { h.updSeq fun s => { s with run := .held, frame := 0, deferred := false, haltReason := 0, credits := [[], []] } with
    img := { h.img with
      loaded := some ⟨bs.take 256, BitVec.ofNat 64 (imgField bs 0x10 8)⟩, load := none, unformed := true, applyPending := false
      actions := 0, markOverflow := false }
    acq := { h.acq with groups := [], force := [] }
    snap := { h.snap with bayGen := 0 } }

theorem applyEnd_eq (h : Hw) (bs : List Byte) (ss : List Sect) : h.applyEnd bs ss =
    (((ss.filter fun s => s.type == 8).foldl (fun h s => h.writePortMap s) h).imageLoaded bs).syncIfOn 4 := rfl

theorem loadDone_applyEnd (h : Hw) (bs : List Byte) : LoadDone bs h (h.applyEnd bs (sectsOf bs)) := by
  have hm : RegsSet h (((sectsOf bs).filter fun s => s.type == 8).foldl (fun h s => h.writePortMap s) h) :=
    .foldl (fun g s => regsSet_writePortMap g s) _ _
  have hb (d j : Nat) : (((sectsOf bs).filter fun s => s.type == 8).foldl (fun h s => h.writePortMap s) h).reg (bankA d (4 * j)) =
      h.reg (bankA d (4 * j)) :=
    List.foldlRecOn (motive := fun g : Hw => g.reg (bankA d (4 * j)) = h.reg (bankA d (4 * j))) _ _ rfl fun g hg s hs =>
      (reg_writePortMap g (die_sectsOf (List.mem_filter.1 hs).1) d j).trans hg
  rw [applyEnd_eq]
  generalize (((sectsOf bs).filter fun s => s.type == 8).foldl (fun h s => h.writePortMap s) h) = m at hm hb ⊢
  have hl : m.imageLoaded bs = { m with seq := (m.imageLoaded bs).seq, img := (m.imageLoaded bs).img, acq := (m.imageLoaded bs).acq,
                                         snap := (m.imageLoaded bs).snap } := rfl
  have hseq : (m.imageLoaded bs).seq = { m.seq with run := .held, frame := 0, deferred := false, haltReason := 0, credits := [[], []] } := rfl
  have himg : (m.imageLoaded bs).img = { m.img with
      loaded := some ⟨bs.take 256, BitVec.ofNat 64 (imgField bs 0x10 8)⟩, load := none, unformed := true, applyPending := false
      actions := 0, markOverflow := false } := rfl
  have hreg (a : Nat) : (m.imageLoaded bs).reg a = m.reg a := rfl
  generalize m.imageLoaded bs = l at hl hseq himg hreg ⊢
  obtain ⟨e, he⟩ := syncIfOn_fields l
  generalize l.syncIfOn 4 = g at e he ⊢
  have hms : m.seq = h.seq := by rw [hm]
  have hmi : m.img = h.img := by rw [hm]
  exact {
    seq := by rw [e]; exact hseq.trans (by rw [hms])
    img := by rw [e]; exact himg.trans (by rw [hmi])
    host := by rw [e, hl, hm]
    fw := by rw [e, hl, hm]
    time := by rw [e, hl, hm]
    ports := by rw [e, hl, hm]
    calls := by rw [e, hl, hm]
    trusses := by rw [e, hl, hm]
    qpairs := by rw [e, hl, hm]
    banks := fun d j _ _ => by rw [he _ (by unfold bankA traceA dieBase; omega), hreg, hb] }

theorem applyAction_nine (h : Hw) (bs : List Byte) : h.applyAction bs 9 = (h.acting 9).applyEnd bs (sectsOf bs) := rfl

/-! ## All of them -/

theorem loading_applyAction (h : Hw) (bs : List Byte) {n : Nat} (hn : 2 ≤ n ∧ n ≤ 8) : Loading h (h.applyAction bs n) := by
  obtain ⟨h2, h8⟩ := hn
  have hcases : n = 2 ∨ (n = 3 ∨ n = 4 ∨ n = 5 ∨ n = 7) ∨ n = 6 ∨ n = 8 := by omega
  have l0 := loading_acting h n
  rcases hcases with rfl | hw | rfl | rfl
  · rw [applyAction_two]
    exact l0.trans (loading_unloadArray (h.acting 2))
  · exact l0.trans (written_applyAction h bs hw).loading
  · rw [applyAction_six]
    have l1 := (written_headerWritten (h.acting 6) bs (sectsOf bs)).loading
    generalize (h.acting 6).headerWritten bs (sectsOf bs) = m at l1 ⊢
    have l2 : Loading h m := l0.trans l1
    exact l2.trans (loading_updSeq m (headerSeq bs))
  · have l1 := (regsSet_allBanks (h.acting 8) 0).written.loading
    rw [applyAction_eight]
    generalize (h.acting 8).allBanks 0 = m at l1 ⊢
    have l2 : Loading h m := l0.trans l1
    have l3 : Loading h { m with qpairs := [] } := l2.trans (loading_qpairs m [])
    exact l3.trans (written_scrubStill { m with qpairs := [] }).loading

theorem applyRest_all {h : Hw} (bs : List Byte) (ha : h.img.actions = 0) : h.applyRest bs =
    ((((((((h.applyAction bs 1).applyAction bs 2).applyAction bs 3).applyAction bs 4).applyAction bs 5).applyAction bs 6).applyAction
      bs 7).applyAction bs 8).applyAction bs 9 := by
  unfold Hw.applyRest
  rw [ha]
  rfl

/-- The last action always ends the load. -/
theorem applyRest_last {h : Hw} (bs : List Byte) (ha : h.img.actions < 9) : ∃ m : Hw, h.applyRest bs = m.applyAction bs 9 := by
  have hd : (List.range 9).drop h.img.actions = (List.range 8).drop h.img.actions ++ [8] := by
    rw [show List.range 9 = List.range 8 ++ [8] from List.range_succ,
      List.drop_append_of_le_length (by rw [List.length_range]; omega)]
  unfold Hw.applyRest
  rw [hd, List.foldl_append]
  exact ⟨_, rfl⟩

theorem trusses_acting (h : Hw) (n : Nat) : (h.acting n).trusses = h.trusses := by
  unfold Hw.acting
  rfl

theorem trusses_updSeq (h : Hw) (f : Seq → Seq) : (h.updSeq f).trusses = h.trusses := by
  unfold Hw.updSeq
  rfl

/-- The empty array of action 2, which the actions up to 8 keep. -/
theorem trusses_applyAction (h : Hw) (bs : List Byte) {n : Nat} (hn : 3 ≤ n ∧ n ≤ 8) (ht : h.trusses = []) :
    (h.applyAction bs n).trusses = [] := by
  have hcases : (n = 3 ∨ n = 4 ∨ n = 5 ∨ n = 7) ∨ n = 6 ∨ n = 8 := by omega
  have h0 := (trusses_acting h n).trans ht
  rcases hcases with hw | rfl | rfl
  · rw [(written_applyAction h bs hw).trusses, h0]
  · rw [applyAction_six, trusses_updSeq, (written_headerWritten ..).trusses, h0]
  · have wb := (regsSet_allBanks (h.acting 8) 0).written.trusses
    rw [applyAction_eight, (written_scrubStill _).trusses]
    generalize (h.acting 8).allBanks 0 = m at wb ⊢
    exact wb.trans h0

/-- Action 6 gives the sequencer the header's fields, which actions 7 and 8 keep. -/
theorem seq_applyAction_six (h : Hw) (bs : List Byte) : (h.applyAction bs 6).seq = headerSeq bs h.seq := by
  rw [applyAction_six]
  show headerSeq bs ((h.acting 6).headerWritten bs (sectsOf bs)).seq = _
  rw [(written_headerWritten ..).seq]
  rfl

theorem seq_applyAction_seven (h : Hw) (bs : List Byte) : (h.applyAction bs 7).seq = h.seq :=
  (written_applyAction h bs (by simp)).seq

/-- Action 8: the banks go to DESIGN, and no pair waits. -/
theorem applyAction_eight_fields (h : Hw) (bs : List Byte) : (h.applyAction bs 8).seq = h.seq ∧ (h.applyAction bs 8).qpairs = [] ∧
    ∀ d j, d < 2 → j < 64 → (h.applyAction bs 8).reg (bankA d (4 * j)) = 0 := by
  have hb (d j : Nat) (hd : d < 2) (hj : j < 64) := reg_allBanks (h.acting 8) 0 hd hj
  have ws := (regsSet_allBanks (h.acting 8) 0).written.seq
  rw [applyAction_eight]
  generalize (h.acting 8).allBanks 0 = m at hb ws ⊢
  have hq := written_scrubStill { m with qpairs := [] }
  refine ⟨hq.seq.trans ws, hq.qpairs, fun d j hd hj => ?_⟩
  rw [reg_scrubStill _ d hj]
  exact hb d j hd hj

/-- The state in which the last of the nine actions begins. -/
theorem applyRest_from_start {h : Hw} (bs : List Byte) (hf : h.frameRuns = false) (ha : h.img.actions = 0) : ∃ m : Hw,
    h.applyRest bs = m.applyAction bs 9 ∧ m.host = h.host ∧ m.fw = h.fw ∧ m.time = h.time ∧ m.ports = h.ports ∧ m.calls.slots = [] ∧
      m.trusses = [] ∧ m.qpairs = [] ∧ (∀ d j, d < 2 → j < 64 → m.reg (bankA d (4 * j)) = 0) ∧
      m.seq.schedLen = imgField bs 0x44 2 ∧ m.seq.horizon = imgField bs 0x46 2 ∧
      m.seq.dev = BitVec.ofNat 64 (imgField bs 0x50 8) := by
  have o := opened_applyAction hf bs
  refine ⟨_, applyRest_all bs ha, ?_⟩
  generalize h.applyAction bs 1 = h1 at o
  have l2 := loading_applyAction h1 bs (n := 2) (by decide)
  have t2 : (h1.applyAction bs 2).trusses = [] := rfl
  generalize h1.applyAction bs 2 = h2 at l2 t2
  have l3 := l2.trans (loading_applyAction h2 bs (n := 3) (by decide))
  have t3 := trusses_applyAction h2 bs (n := 3) (by decide) t2
  generalize h2.applyAction bs 3 = h3 at l3 t3
  have l4 := l3.trans (loading_applyAction h3 bs (n := 4) (by decide))
  have t4 := trusses_applyAction h3 bs (n := 4) (by decide) t3
  generalize h3.applyAction bs 4 = h4 at l4 t4
  have l5 := l4.trans (loading_applyAction h4 bs (n := 5) (by decide))
  have t5 := trusses_applyAction h4 bs (n := 5) (by decide) t4
  generalize h4.applyAction bs 5 = h5 at l5 t5
  have l6 := l5.trans (loading_applyAction h5 bs (n := 6) (by decide))
  have t6 := trusses_applyAction h5 bs (n := 6) (by decide) t5
  have s6 := seq_applyAction_six h5 bs
  generalize h5.applyAction bs 6 = h6 at l6 t6 s6
  have l7 := l6.trans (loading_applyAction h6 bs (n := 7) (by decide))
  have t7 := trusses_applyAction h6 bs (n := 7) (by decide) t6
  have s7 := (seq_applyAction_seven h6 bs).trans s6
  generalize h6.applyAction bs 7 = h7 at l7 t7 s7
  have l8 := l7.trans (loading_applyAction h7 bs (n := 8) (by decide))
  have t8 := trusses_applyAction h7 bs (n := 8) (by decide) t7
  obtain ⟨s8, q8, b8⟩ := applyAction_eight_fields h7 bs
  generalize h7.applyAction bs 8 = h8 at l8 t8 s8 q8 b8
  have hseq := s8.trans s7
  refine ⟨?_, ?_, ?_, ?_, ?_, t8, q8, b8, by rw [hseq]; rfl, by rw [hseq]; rfl, by rw [hseq]; rfl⟩
  · rw [l8]; exact o.host
  · rw [l8]; exact o.fw
  · rw [l8]; exact o.time
  · rw [l8]; exact o.ports
  · rw [l8]; exact o.calls

/-! ## IMAGE_APPLY and IMAGE_COMMIT -/

theorem imageApply_applies {h : Hw} {l : ImgLoad} {bs : List Byte} (hl : h.img.load = some l) (hw : l.whole = some bs)
    (hp : h.img.applyPending = true) (hb : h.busy = false) : effect .imageApply h = h.applyRest bs := by
  show execImageApply h = _
  unfold execImageApply Hw.applyWith
  rw [hl]
  dsimp only
  rw [hw]
  dsimp only
  rw [hp, hb]
  rfl

theorem imageApply_waits {h : Hw} (hn : h.img.applyPending = false ∨ h.busy = true) : effect .imageApply h = h := by
  show execImageApply h = h
  unfold execImageApply Hw.applyWith
  split
  · split
    · rw [if_neg]
      rcases hn with e | e <;> simp [e]
    · rfl
  · rfl

theorem frameRuns_of_not_busy {h : Hw} (hb : h.busy = false) : h.frameRuns = false := by
  simp only [Hw.busy, Bool.or_eq_false_iff, decide_eq_false_iff_not] at hb
  obtain ⟨⟨⟨h1, h2⟩, h3⟩, -⟩ := hb
  simp [Hw.frameRuns, h1, h2, h3]

/-- The image has passed its tests and is being checked: LAST_STATUS and LAST_CHECK show it. -/
def Hw.imagePassed (h : Hw) (l : ImgLoad) : Hw :=
  { h with img := { h.img with
      lastStatus := (h.verdict l).status, lastCheck := (h.verdict l).check, applyPending := true
      load := some { l with phase := .checking } } }

/-- What follows: action 1 at once, or a halt that the head makes (R269). -/
def Hw.imageFollows (h : Hw) (bs : List Byte) : Hw :=
  if !h.busy then h.applyAction bs 1
  else if h.isHead then h.sendSym .runCtrl 3 else h.sendMsg h.conf.head (.haltRequest h.devIndex)

theorem imageCommit_passes {h : Hw} {l : ImgLoad} {bs : List Byte} (hw : l.whole = some bs) (hk : l.kind = 0)
    (hv : (h.verdict l).status = stOk) : h.imageCommit l = (h.verdict l, true, (h.imagePassed l).imageFollows bs) := by
  unfold Hw.imageCommit
  extract_lets v g
  rw [if_neg (show ¬ v.status ≠ stOk from not_not_intro hv), hw]
  have hk1 : ¬ l.kind = 1 := by omega
  dsimp -zeta only
  rw [if_neg hk1]
  rfl

/-- What IMAGE_COMMIT does once it has begun. -/
def commitAct (c : Call0) (h : Hw) : Res × Hw :=
  match h.img.load with
  | none => (.done stRefused [] [], h.noteCommit stRefused)
  | some l =>
    if arg c.args 0 1 = 1 then (.done stOk (fit 12 []) [], h.closeLoad.noteCommit stOk)
    else if l.kind == 0 && h.snapHolds then (.done stBusy [] [], h)
    else
      let (v, waits, h) := h.imageCommit l
      (if waits then .wait 1 stOk v.reply [] else .done v.status v.reply [], h)

theorem imageCommit_runs {h : Hw} {k : Nat} {args : List Byte} (io : HostIo) (r : SlotRuns h k 0x0203 args)
    (ha : args.length = 1 ∧ arg args 0 1 ≤ 1) : effect (.imageCommit (.slot k) io) h =
      finishRes (commitAct ⟨.slot k, 0x0203, args, false, []⟩ h).2 ⟨.slot k, 0x0203, args, false, []⟩ []
        (commitAct ⟨.slot k, 0x0203, args, false, []⟩ h).1 :=
  runCmd_slot r rfl (by simp [isLen, ha]) rfl rfl io commitAct

theorem commitAct_loaded {h : Hw} {c : Call0} {l : ImgLoad} (hl : h.img.load = some l) (ha : arg c.args 0 1 = 0)
    (hs : l.kind = 0 → h.snapHolds = false) : commitAct c h =
      (if (h.imageCommit l).2.1 then .wait 1 stOk (h.imageCommit l).1.reply []
        else .done (h.imageCommit l).1.status (h.imageCommit l).1.reply [], (h.imageCommit l).2.2) := by
  unfold commitAct
  rw [hl]
  dsimp only
  rw [if_neg (by omega), if_neg]
  simp only [Bool.and_eq_true, beq_iff_eq, not_and, Bool.not_eq_true]
  exact hs

/-- IMAGE_COMMIT of a full image that passes waits in its slot. -/
theorem imageCommit_effect {h : Hw} {k : Nat} {l : ImgLoad} {bs : List Byte} (io : HostIo) (r : SlotRuns h k 0x0203 [0])
    (hl : h.img.load = some l) (hw : l.whole = some bs) (hk : l.kind = 0) (hs : h.snapHolds = false)
    (hv : (h.verdict l).status = stOk) : effect (.imageCommit (.slot k) io) h =
      ((h.imagePassed l).imageFollows bs).park ⟨.slot k, 0x0203, [0], false, []⟩ 1 stOk (h.verdict l).reply [] := by
  rw [imageCommit_runs io r (by decide), commitAct_loaded hl (show arg [0] 0 1 = 0 by decide) fun _ => hs, imageCommit_passes hw hk hv]
  rfl

/-- A command that waits changes the list of those that do. -/
theorem park_fields (h : Hw) (c : Call0) (reply : List Byte) : ∃ w, h.park c 1 stOk reply [] =
    { h with host := { h.host with waits := h.host.waits ++ [w] } } ∧ w.src = c.src ∧ w.code = c.code := ⟨_, rfl, rfl, rfl⟩

theorem imageFollows_idle {h : Hw} (hb : h.busy = false) (bs : List Byte) : h.imageFollows bs = h.applyAction bs 1 := by
  rw [Hw.imageFollows, hb]
  rfl

theorem imageFollows_head {h : Hw} (hb : h.busy = true) (hh : h.isHead = true) (bs : List Byte) :
    h.imageFollows bs = h.sendSym .runCtrl 3 := by
  rw [Hw.imageFollows, hb, hh]
  rfl

theorem run_of_busy {h : Hw} (hb : h.busy = true) : h.seq.run ≠ .empty := by
  simp only [Hw.busy, Bool.or_eq_true, decide_eq_true_eq] at hb
  rcases hb with ((e | e) | e) | e
  · rw [e]; decide
  · rw [e]; decide
  · rw [e]; decide
  · rw [run_of_startWaits e]; decide

/-- Settles O27: the nine actions on an image, from the start and from wherever they stand, and how IMAGE_COMMIT begins them. -/
theorem imageApplied : Obligations.ImageApplied := by
  unfold Obligations.ImageApplied
  intro s l bs hl hw
  refine ⟨fun hp hb ha => ?_, fun hp hb ha => ?_, fun hn => exec_unchanged rfl (imageApply_waits hn), fun k io r hk hs hv =>
    ⟨fun hb => ?_, fun hb hh ht => ?_⟩⟩
  · refine does_of rfl ?_
    rw [imageApply_applies hl hw hp hb]
    obtain ⟨m, e, hhost, hfw, htime, hports, hcalls, htruss, hq, hbanks, h1, h2, h3⟩ :=
      applyRest_from_start bs (frameRuns_of_not_busy hb) ha
    rw [e, applyAction_nine]
    have d := loadDone_applyEnd (m.acting 9) bs
    generalize (m.acting 9).applyEnd bs (sectsOf bs) = g at d
    refine ⟨by rw [d.seq], by rw [d.seq], by rw [d.seq]; exact h1, by rw [d.seq]; exact h2, by rw [d.seq]; exact h3, by rw [d.seq],
      by rw [d.img], by rw [d.img], by rw [d.img], fun d' j hd hj => (d.banks d' j hd hj).trans (hbanks d' j hd hj),
      d.trusses.trans htruss, d.qpairs.trans hq, by rw [d.calls]; exact hcalls, d.fw.trans hfw, d.host.trans hhost,
      d.time.trans htime, d.ports.trans hports⟩
  · refine does_of rfl ?_
    rw [imageApply_applies hl hw hp hb]
    obtain ⟨m, e⟩ := applyRest_last bs ha
    rw [e, applyAction_nine]
    have d := loadDone_applyEnd (m.acting 9) bs
    generalize (m.acting 9).applyEnd bs (sectsOf bs) = g at d
    exact ⟨by rw [d.seq], by rw [d.seq], by rw [d.img], by rw [d.img], by rw [d.img], by rw [d.img], by rw [d.img]⟩
  · refine does_of r.1.src_ok ?_
    rw [imageCommit_effect io r hl hw hk hs hv, imageFollows_idle (h := s.hw.imagePassed l) hb]
    have o := opened_applyAction (h := s.hw.imagePassed l) (frameRuns_of_not_busy hb) bs
    generalize (s.hw.imagePassed l).applyAction bs 1 = g at o
    obtain ⟨w, e, h1, h2⟩ := park_fields g ⟨.slot k, 0x0203, [0], false, []⟩ (s.hw.verdict l).reply
    rw [e]
    have hstate : s.hw.slotState k = 2 := r.1.2.2.2.2.1
    have hslots : g.host.slots = s.hw.host.slots := by rw [o.host]; rfl
    refine ⟨o.run, o.outside, by rw [o.img]; rfl, by rw [o.img], by rw [o.img], by rw [o.img]; rfl, o.calls, o.scrub, o.banks,
      o.rows, o.trusses, ?_, ⟨w, List.mem_append_right _ (List.mem_singleton.2 rfl), h1, h2⟩⟩
    exact (congrArg BitVec.toNat (slotByte_congr (h := s.hw)
      (g := { g with host := { g.host with waits := g.host.waits ++ [w] } }) hslots k 9)).trans hstate
  · refine does_of r.1.src_ok ?_
    rw [imageCommit_effect io r hl hw hk hs hv, imageFollows_head (h := s.hw.imagePassed l) hb hh,
      sendSym_alone _ _ _ (run_of_busy (h := s.hw.imagePassed l) hb) ht]
    have hstate : s.hw.slotState k = 2 := r.1.2.2.2.2.1
    exact ⟨rfl, rfl, hstate, ⟨_, List.mem_append_right _ (List.mem_singleton.2 rfl), rfl, rfl⟩, rfl, rfl, rfl, rfl⟩

end Sys2Proof.Machine
end

section
-- As the tests above: declarations in order, so that checking the one text stays within its memory.
set_option Elab.async false
/-!
PROOFS. The transfer of an image (O26).
-/

namespace Sys2Proof.Machine

/-! ## IMAGE_BEGIN (R264) -/

/-- A command that does not wait, whose streams the slot's descriptors carry. -/
theorem runNow_begins {h : Hw} {k code : Nat} {args input : List Byte} {ds : List Desc} {io : HostIo} {sp : CmdSpec}
    (r : SlotBegins h k code args) (hs : specOf code = some sp) (ha : sp.args args = true)
    (hg : h.streams k io (sp.inLen args) (sp.outLen args) = some (.ok (ds, input))) (f : Call0 → Hw → Nat × List Byte × Hw) :
    h.runNow (.slot k) code io f =
      (f ⟨.slot k, code, args, false, input⟩ h).2.2.endCmd (.slot k) ds
        (f ⟨.slot k, code, args, false, input⟩ h).1 (f ⟨.slot k, code, args, false, input⟩ h).2.1 [] := by
  unfold Hw.runNow
  rw [runCmd_begins r hs ha hg]
  rfl

/-- What IMAGE_BEGIN does with its arguments and its header. -/
def beginAct (c : Call0) (h : Hw) : Nat × List Byte × Hw :=
  let (st, h) := h.imageBegin (arg c.args 0 8) c.input
  (st, [], h)

theorem imageBegin_effect {h : Hw} {k : Nat} {args input : List Byte} {ds : List Desc} {io : HostIo} (r : SlotBegins h k 0x0201 args)
    (ha : args.length = 8) (hg : h.streams k io 256 0 = some (.ok (ds, input))) : effect (.imageBegin (.slot k) io) h =
      (h.imageBegin (arg args 0 8) input).2.endCmd (.slot k) ds (h.imageBegin (arg args 0 8) input).1 [] [] :=
  runNow_begins r rfl (by simp [isLen, ha]) hg beginAct

/-- A load, a reload, or a capture or restore that a full image waits for is open. -/
def Hw.loadBarred (h : Hw) (head : List Byte) : Prop :=
  h.img.load ≠ none ∨ h.img.bay ≠ none ∨ (imgField head 5 1 = 0 ∧ h.snapHolds = true)

theorem loadBarred_iff (h : Hw) (head : List Byte) :
    (h.img.load.isSome || h.img.bay.isSome || (imgField head 5 1 == 0 && h.snapHolds)) = true ↔ h.loadBarred head := by
  unfold Hw.loadBarred
  simp only [Bool.or_eq_true, Bool.and_eq_true, beq_iff_eq, Option.isSome_iff_ne_none, or_assoc]

theorem imageBegin_barred {h : Hw} {head : List Byte} (len : Nat) (hb : h.loadBarred head) : h.imageBegin len head = (stBusy, h) := by
  unfold Hw.imageBegin
  rw [if_pos ((loadBarred_iff h head).2 hb)]

section
variable {h : Hw} {head : List Byte} {len : Nat} (hb : ¬ h.loadBarred head)
include hb

theorem imageBegin_free : h.imageBegin len head =
    if imgField head 0x18 8 ≠ len then (stBadArgument, h)
    else if !h.identOk head then (stRefused, h)
    else if h.noStaging head len then (stNoResource, h)
    else (stOk, { h with img := { h.img with
      load := some ⟨imgField head 5 1, imgField head 9 1, len, head, [], .receiving, h.stagingOf head len⟩ } }) := by
  unfold Hw.imageBegin
  rw [if_neg fun hc => hb ((loadBarred_iff h head).1 hc)]

theorem imageBegin_otherLength (hl : imgField head 0x18 8 ≠ len) : h.imageBegin len head = (stBadArgument, h) := by
  rw [imageBegin_free hb, if_pos hl]

theorem imageBegin_unknown (hl : imgField head 0x18 8 = len) (hi : h.identOk head = false) : h.imageBegin len head = (stRefused, h) := by
  rw [imageBegin_free hb, if_neg (not_not_intro hl), hi]
  rfl

theorem imageBegin_noRoom (hl : imgField head 0x18 8 = len) (hi : h.identOk head = true) (hn : h.noStaging head len = true) :
    h.imageBegin len head = (stNoResource, h) := by
  rw [imageBegin_free hb, if_neg (not_not_intro hl), hi, hn]
  rfl

theorem imageBegin_opens (hl : imgField head 0x18 8 = len) (hi : h.identOk head = true) (hn : h.noStaging head len = false) :
    h.imageBegin len head = (stOk, { h with img := { h.img with
      load := some ⟨imgField head 5 1, imgField head 9 1, len, head, [], .receiving, h.stagingOf head len⟩ } }) := by
  rw [imageBegin_free hb, if_neg (not_not_intro hl), hi, hn]
  rfl

end

/-! ## IMAGE_BLOCK (R266) -/

theorem wakeFor_awake {h : Hw} (hp : h.pstate = 0) (array : Bool) : h.wakeFor array = (h, true) := by
  simp [Hw.wakeFor, hp]

section
variable {h : Hw} {k : Nat} {args : List Byte} (r : SlotBegins h k 0x0202 args) (ha : args.length = 8) (io : HostIo)
include r ha

/-- A block's own tests, on a module in RUN with its firmware ready. -/
theorem imageBlock_tests : effect (.imageBlock (.slot k) io) h =
    match h.img.load with
    | none => h.endCmd (.slot k) [] stRefused [] []
    | some l =>
      if arg args 0 8 % 65536 ≠ 0 ∨ l.length ≤ arg args 0 8 then h.endCmd (.slot k) [] stBadArgument [] []
      else match h.gather (.slot k) [] io (blockLen l.length (arg args 0 8)) 0 with
        | none => h
        | some (.error e) => h.endCmd (.slot k) [] e [] []
        | some (.ok (ds, bytes)) =>
          (h.imageBlock (arg args 0 8) bytes).endCmd (.slot k) ds stOk (bytesOf 4 (h.imageBlock (arg args 0 8) bytes).imgRecv) [] := by
  have hpk := pick_slot r
  obtain ⟨-, hm, hp, -, -, -, -, -, -, hb⟩ := r
  show execImageBlock h (.slot k) io = _
  unfold execImageBlock
  rw [hpk]
  dsimp only
  rw [hm, show isLen 8 args = true by simp [isLen, ha], wakeFor_awake hp, hb]
  rfl

theorem imageBlock_noLoad (hl : h.img.load = none) : effect (.imageBlock (.slot k) io) h = h.endCmd (.slot k) [] stRefused [] [] := by
  rw [imageBlock_tests r ha, hl]

theorem imageBlock_noBlock {l : ImgLoad} (hl : h.img.load = some l) (hn : arg args 0 8 % 65536 ≠ 0 ∨ l.length ≤ arg args 0 8) :
    effect (.imageBlock (.slot k) io) h = h.endCmd (.slot k) [] stBadArgument [] [] := by
  rw [imageBlock_tests r ha, hl]
  exact if_pos hn

theorem imageBlock_stored {l : ImgLoad} {input : List Byte} {ds : List Desc} (hl : h.img.load = some l)
    (h0 : arg args 0 8 % 65536 = 0) (hlt : arg args 0 8 < l.length)
    (hg : h.streams k io (blockLen l.length (arg args 0 8)) 0 = some (.ok (ds, input))) :
    effect (.imageBlock (.slot k) io) h =
      ({ h with img := { h.img with load := some { l with blocks := Store.set [] l.blocks (arg args 0 8 / 65536) input } } } : Hw).endCmd
        (.slot k) ds stOk (bytesOf 4 (Store.set [] l.blocks (arg args 0 8 / 65536) input).length) [] := by
  have hb : h.imageBlock (arg args 0 8) input =
      { h with img := { h.img with load := some { l with blocks := Store.set [] l.blocks (arg args 0 8 / 65536) input } } } := by
    unfold Hw.imageBlock
    rw [hl]
  have hg' : h.gather (.slot k) [] io (blockLen l.length (arg args 0 8)) 0 = some (.ok (ds, input)) := hg
  rw [imageBlock_tests r ha, hl]
  refine (if_neg (by omega)).trans ?_
  rw [hg', ← hb]
  show (h.imageBlock (arg args 0 8) input).endCmd (.slot k) ds stOk (bytesOf 4 (h.imageBlock (arg args 0 8) input).imgRecv) [] = _
  rw [hb]
  rfl

end

/-! ## IMAGE_COMMIT (R268) and LOAD_TIMEOUT (R267) -/

theorem commitAct_none {h : Hw} (c : Call0) (hl : h.img.load = none) : commitAct c h = (.done stRefused [] [], h.noteCommit stRefused) := by
  unfold commitAct
  rw [hl]

theorem commitAct_abandon {h : Hw} {c : Call0} {l : ImgLoad} (hl : h.img.load = some l) (ha : arg c.args 0 1 = 1) :
    commitAct c h = (.done stOk (fit 12 []) [], h.closeLoad.noteCommit stOk) := by
  unfold commitAct
  rw [hl]
  exact if_pos ha

theorem commitAct_held {h : Hw} {c : Call0} {l : ImgLoad} (hl : h.img.load = some l) (ha : arg c.args 0 1 = 0) (hk : l.kind = 0)
    (hs : h.snapHolds = true) : commitAct c h = (.done stBusy [] [], h) := by
  unfold commitAct
  rw [hl]
  refine (if_neg (by omega)).trans (if_pos ?_)
  rw [hk, hs]
  rfl

/-- The load closes with what its tests have found. -/
def Hw.loadFailed (h : Hw) (l : ImgLoad) : Hw :=
  let g : Hw := { h with img := { h.img with lastStatus := (h.verdict l).status, lastCheck := (h.verdict l).check } }
  (if (h.verdict l).check = 14 then g.raise evLatencyMismatch else g).closeLoad

theorem imageCommit_fails {h : Hw} {l : ImgLoad} (hv : (h.verdict l).status ≠ stOk) :
    h.imageCommit l = (h.verdict l, false, h.loadFailed l) := by
  unfold Hw.imageCommit
  extract_lets v g
  rw [if_pos (show v.status ≠ stOk from hv)]
  rfl

theorem loadFailed_fields (h : Hw) (l : ImgLoad) :
    (h.loadFailed l).img = { h.img with
      load := none, applyPending := false, lastStatus := (h.verdict l).status, lastCheck := (h.verdict l).check } ∧
    ((h.verdict l).check ≠ 14 → h.loadFailed l = { h with img := (h.loadFailed l).img }) ∧
    ((h.verdict l).check = 14 → Raised evLatencyMismatch 0 h (h.loadFailed l)) := by
  unfold Hw.loadFailed
  generalize h.verdict l = v
  dsimp only
  split
  · next hc => exact ⟨rfl, fun hn => absurd hc hn, fun _ => ⟨false, rfl⟩⟩
  · next hc => exact ⟨rfl, fun _ => rfl, fun h14 => absurd h14 hc⟩

theorem verdict_lacking (h : Hw) {l : ImgLoad} (hw : l.whole = none) : h.verdict l = { status := stIntegrity, check := 1 } := by
  unfold Hw.verdict
  rw [hw]

theorem reply_length (v : Verdict) : v.reply.length ≤ 224 := by
  simp only [Verdict.reply, List.length_append, bytesOf_length]
  decide

section
variable {s : State} {k : Nat} {io : HostIo}

/-- IMAGE_COMMIT that ends at once answers what its own rule gives. -/
theorem answers_of_commit {args reply : List Byte} {st : Nat} {mid : Hw} {P : Hw → List Byte → Prop}
    (r : SlotRuns s.hw k 0x0203 args) (ha : args.length = 1 ∧ arg args 0 1 ≤ 1)
    (hc : commitAct ⟨.slot k, 0x0203, args, false, []⟩ s.hw = (.done st reply [], mid)) (hst : st < 256) (hr : reply.length ≤ 224)
    (hP : P mid reply) : Answers (.imageCommit (.slot k) io) s k st P :=
  answers_of_endCmd (ds := []) (output := []) r.1.src_ok (by rw [imageCommit_runs io r ha, hc]; rfl) hst hr hP

end

theorem loadTimeout_receiving {h : Hw} {l : ImgLoad} (hl : h.img.load = some l) (hp : l.phase = .receiving) :
    effect .loadTimeout h = { h with img := { h.img with load := none, applyPending := false } } := by
  show execLoadTimeout h = _
  unfold execLoadTimeout
  rw [hl]
  exact if_pos hp

theorem loadTimeout_other {h : Hw} (hn : ∀ l, h.img.load = some l → l.phase ≠ .receiving) : effect .loadTimeout h = h := by
  show execLoadTimeout h = h
  unfold execLoadTimeout
  split
  · next l hl => exact if_neg (hn l hl)
  · rfl

/-- Settles O26: the tests of IMAGE_BEGIN in their order, a block that is stored, and the ends of a load. -/
theorem imageTransfer : Obligations.ImageTransfer := by
  unfold Obligations.ImageTransfer
  intro s k io args input ds
  refine ⟨fun ha r hg => ?_, fun l ha r hl => ?_, fun hl => ⟨fun ha r => ?_, fun r => ?_, ?_⟩, fun l hl =>
    ⟨fun r => ?_, fun r hk hs => ?_, fun r hs hv hlt => ?_, fun r hs hw => ?_, fun hp => ?_, fun hp => ?_⟩⟩
  · intro open' len
    have he := imageBegin_effect r ha hg
    refine ⟨fun hb => ?_, fun hb h1 => ?_, fun hb h1 h2 => ?_, fun hb h1 h2 h3 => ?_, fun hb h1 h2 h3 => ?_⟩
    · rw [imageBegin_barred _ hb] at he
      exact answers_of_endCmd r.src_ok he (by decide) (by decide) ⟨rfl, rfl⟩
    · rw [imageBegin_otherLength hb h1] at he
      exact answers_of_endCmd r.src_ok he (by decide) (by decide) ⟨rfl, rfl⟩
    · rw [imageBegin_unknown hb h1 h2] at he
      exact answers_of_endCmd r.src_ok he (by decide) (by decide) ⟨rfl, rfl⟩
    · rw [imageBegin_noRoom hb h1 h2 h3] at he
      exact answers_of_endCmd r.src_ok he (by decide) (by decide) ⟨rfl, rfl⟩
    · rw [imageBegin_opens hb h1 h2 h3] at he
      exact answers_of_endCmd r.src_ok he (by decide) (by decide) ⟨rfl, ⟨_, rfl, rfl, rfl, rfl, rfl, rfl, rfl⟩, rfl⟩
  · intro off
    refine ⟨fun hn => ?_, fun h0 hlt hg hne => ?_⟩
    · exact answers_of_endCmd r.src_ok (imageBlock_noBlock r ha io hl hn) (by decide) (by decide) ⟨rfl, rfl⟩
    · refine answers_of_endCmd r.src_ok (imageBlock_stored r ha io hl h0 hlt hg) (by decide) (by rw [bytesOf_length]; decide)
        ⟨_, rfl, Store.get_set_same [] l.blocks _ input, fun i hi => Store.get_set_ne [] [] l.blocks input hi, rfl, rfl, rfl⟩
  · exact answers_of_endCmd r.src_ok (imageBlock_noLoad r ha io hl) (by decide) (by decide) ⟨rfl, rfl⟩
  · exact answers_of_commit r (by decide) (commitAct_none _ hl) (by decide) (by decide) ⟨rfl, rfl⟩
  · exact exec_unchanged rfl (loadTimeout_other fun l h' => by rw [hl] at h'; cases h')
  · exact answers_of_commit r (by decide) (commitAct_abandon hl (show arg [1] 0 1 = 1 by decide)) (by decide) (by decide) ⟨rfl, rfl⟩
  · exact answers_of_commit r (by decide) (commitAct_held hl (show arg [0] 0 1 = 0 by decide) hk hs) (by decide) (by decide) ⟨rfl, rfl⟩
  · have hc := commitAct_loaded (c := ⟨.slot k, 0x0203, [0], false, []⟩) hl (show arg [0] 0 1 = 0 by decide) hs
    rw [imageCommit_fails hv] at hc
    exact answers_of_commit r (by decide) hc hlt (reply_length _) ⟨rfl, loadFailed_fields s.hw l⟩
  · have hv := verdict_lacking s.hw hw
    have hc := commitAct_loaded (c := ⟨.slot k, 0x0203, [0], false, []⟩) hl (show arg [0] 0 1 = 0 by decide) hs
    obtain ⟨himg, -, -⟩ := loadFailed_fields s.hw l
    rw [imageCommit_fails (by rw [hv]; decide)] at hc
    rw [hv] at hc himg
    exact answers_of_commit r (by decide) hc (show stIntegrity < 256 by decide) (reply_length _) ⟨by rw [himg], by rw [himg],
      show arg (Verdict.reply { status := stIntegrity, check := 1 }) 0 2 = 1 by decide⟩
  · exact does_of rfl (loadTimeout_receiving hl hp)
  · refine exec_unchanged rfl (loadTimeout_other fun l' h' => ?_)
    rw [hl] at h'
    obtain rfl := Option.some.inj h'
    exact hp

end Sys2Proof.Machine
end

section
-- As the tests above: declarations in order, so that checking the one text stays within its memory.
set_option Elab.async false
/-!
PROOFS. Changes of the performance level (O49).
-/

namespace Sys2Proof.Machine

/-! ## The clock source at a halt (R19), and what the PLL moves -/

/-- Only the word of the course clock, and the sequencer, have changed. -/
def ClkMoved (h g : Hw) : Prop := g = { h with regs := g.regs, seq := g.seq } ∧ ∀ a, a ≠ 0x44 → g.reg a = h.reg a

theorem ClkMoved.trans {h g k : Hw} (a : ClkMoved h g) (b : ClkMoved g k) : ClkMoved h k := by
  obtain ⟨ea, ra⟩ := a
  obtain ⟨eb, rb⟩ := b
  exact ⟨by rw [eb, ea], fun n hn => (rb n hn).trans (ra n hn)⟩

theorem clkMoved_updSeq (h : Hw) (f : Seq → Seq) : ClkMoved h (h.updSeq f) := ⟨rfl, fun _ _ => rfl⟩

theorem clkMoved_lockPll (h : Hw) : ClkMoved h h.lockPll := by
  obtain ⟨-, -, e, hreg⟩ := lockPll_fields h
  exact ⟨by rw [e], fun a ha => hreg a (by simpa using ha)⟩

theorem lockPll_seq (h : Hw) : h.lockPll.seq = h.seq := rfl

theorem lockPll_src (h : Hw) : h.lockPll.fget 0x44 1 0 = h.fget 0x44 1 0 := (lockPll_fields h).1

/-- Beside the sequencer, only the word of the course clock. -/
theorem ClkMoved.onlyRegs {h g : Hw} (a : ClkMoved h g) : OnlyRegs [0x44] h { g with seq := h.seq } := by
  obtain ⟨e, hreg⟩ := a
  exact ⟨by rw [e], fun n hn => hreg n (by simpa using hn)⟩

theorem applySrc_none {h : Hw} (hs : h.seq.srcPending = none) : h.applySrc = h := by
  unfold Hw.applySrc
  rw [hs]

theorem applySrc_some {h : Hw} {v : Nat} (hs : h.seq.srcPending = some v) :
    h.applySrc = ((h.updSeq fun s => { s with srcPending := none }).fset 0x44 1 0 v).lockPll := by
  unfold Hw.applySrc
  rw [hs]

theorem applySrc_seq (h : Hw) : h.applySrc.seq = { h.seq with srcPending := none } := by
  cases hs : h.seq.srcPending with
  | none => rw [applySrc_none hs, ← hs]
  | some v => rw [applySrc_some hs]; rfl

theorem clkMoved_applySrc (h : Hw) : ClkMoved h h.applySrc := by
  cases hs : h.seq.srcPending with
  | none => rw [applySrc_none hs]; exact ⟨rfl, fun _ _ => rfl⟩
  | some v =>
    rw [applySrc_some hs]
    have hset : ClkMoved h ((h.updSeq fun s => { s with srcPending := none }).fset 0x44 1 0 v) :=
      ⟨rfl, fun a ha => (reg_fset ..).trans (if_neg ha)⟩
    exact hset.trans (clkMoved_lockPll _)

theorem applySrc_src {h : Hw} {v : Nat} (hs : h.seq.srcPending = some v) (hv : v < 4) : h.applySrc.fget 0x44 1 0 = v := by
  rw [applySrc_some hs, lockPll_src, fget_fset_same _ _ _ _ _ (by omega)]
  exact Nat.mod_eq_of_lt hv

/-! ## LEVEL_LOCKED (R148 to R150) -/

/-- The level is in force, and its event is raised. -/
def Hw.levelIn (h : Hw) (c : LevelChg) : Hw := (h.updSeq fun s => { s with level := c.new, levelChg := none }).raise evLevelChanged

theorem levelIn_seq (h : Hw) (c : LevelChg) : (h.levelIn c).seq = { h.seq with level := c.new, levelChg := none } := rfl

section
variable {h : Hw} {c : LevelChg} (hc : h.seq.levelChg = some c) (us : Nat)
include hc

theorem levelLocked_held (hp : c.phase = 0) (hf : c.fromRunning = false) :
    effect (.levelLocked us) h = (((h.levelIn c).updSeq fun s => { s with run := .held }).applySrc).lockPll := by
  show execLevelLocked h us = _
  unfold execLevelLocked
  rw [hc]
  dsimp only
  rw [if_neg (by omega), hf]
  rfl

theorem levelLocked_running (hp : c.phase = 0) (hf : c.fromRunning = true) (hh : h.isHead = true) :
    effect (.levelLocked us) h =
      (((h.levelIn c).updSeq fun s => { s with
        run := if s.halts.isEmpty then .running else .halting
        gapUs := min 40 us, starting := some 2, goEff := false, goSent := true }).sendSym .frameGo (h.seq.frame.toNat % 1024)).lockPll := by
  show execLevelLocked h us = _
  unfold execLevelLocked
  rw [hc]
  dsimp only
  rw [if_neg (by omega), hf]
  exact congrArg Hw.lockPll (if_pos hh)

theorem levelLockTimeout_effect (hp : c.phase = 0) : effect .levelLockTimeout h =
    { h with seq := { h.seq with levelReq := c.old, levelChg := some { c with phase := 1 } } } := by
  show execLevelLockTimeout h = _
  unfold execLevelLockTimeout
  rw [hc]
  exact if_neg (by omega)

theorem levelReturnLocked_effect (ok : Bool) (hp : c.phase = 1) : effect (.levelReturnLocked ok) h =
    if ok then ((h.levelFailed c.old).updSeq fun s => { s with pllDead := s.pllDead || !ok }).lockPll
    else (h.levelFailed c.old).updSeq fun s => { s with pllDead := s.pllDead || !ok } := by
  show execLevelReturnLocked h ok = _
  unfold execLevelReturnLocked
  rw [hc]
  exact if_neg (by omega)

end

/-- A symbol that is sent adds itself, and what goes to the tree ports. -/
theorem sendSym_sends {h : Hw} (k : SymKind) (n : Nat) (hr : h.seq.run ≠ .empty) :
    (h.sendSym k n).seq = { h.seq with syms := h.seq.syms ++ [⟨k, n, h.devIndex, h.seq.clk + h.seq.horizon, h.seq.clk⟩] } ∧
      (h.sendSym k n).out = h.out ++ [.symbol k n h.seq.clk] ∧
      h.sendSym k n = { h with
        seq := { h.seq with syms := (h.sendSym k n).seq.syms }, out := (h.sendSym k n).out, ports := (h.sendSym k n).ports } ∧
      (h.sendSym k n).fault = h.fault := by
  rw [Hw.sendSym, if_neg hr]
  exact ⟨rfl, rfl, rfl, rfl⟩

theorem run_of_levelEnd (l : List PendHalt) : (if l.isEmpty then RunState.running else .halting) ≠ .empty := by
  split <;> decide

/-! ## LEVEL_RETURN_LOCKED (R151) -/

/-- The return to HELD, before the change of SRC. -/
def heldAgain (h : Hw) (old : Nat) : Hw := h.updSeq fun s => { s with
  run := .held, haltReason := 7, level := old, levelReq := old, levelChg := none, levelFail := true, halts := [] }

theorem levelFailed_fields (h : Hw) (old : Nat) :
    (h.levelFailed old).seq = { (heldAgain h old).seq with srcPending := none } ∧ ClkMoved h (h.levelFailed old) ∧
      ∀ v, h.seq.srcPending = some v → v < 4 → (h.levelFailed old).fget 0x44 1 0 = v :=
  ⟨applySrc_seq (heldAgain h old), (clkMoved_updSeq h _).trans (clkMoved_applySrc (heldAgain h old)),
    fun _ hs hv => applySrc_src (h := heldAgain h old) hs hv⟩

/-- The sequencer once the return has ended. -/
def returnedSeq (q : Seq) (c : LevelChg) (ok : Bool) : Seq :=
  { q with run := .held, haltReason := 7, level := c.old, levelReq := c.old, levelChg := none, levelFail := true, halts := []
           srcPending := none, pllDead := q.pllDead || !ok }

theorem levelReturnLocked_fields {h : Hw} {c : LevelChg} (hc : h.seq.levelChg = some c) (hp : c.phase = 1) (ok : Bool) :
    (effect (.levelReturnLocked ok) h).seq = returnedSeq h.seq c ok ∧ ClkMoved h (effect (.levelReturnLocked ok) h) ∧
      ∀ v, h.seq.srcPending = some v → v < 4 → (effect (.levelReturnLocked ok) h).fget 0x44 1 0 = v := by
  rw [levelReturnLocked_effect hc ok hp]
  obtain ⟨hseq, hclk, hsrc⟩ := levelFailed_fields h c.old
  generalize h.levelFailed c.old = g at *
  have hseq' : (g.updSeq fun s => { s with pllDead := s.pllDead || !ok }).seq = returnedSeq h.seq c ok := by
    show ({ g.seq with pllDead := g.seq.pllDead || !ok } : Seq) = _
    rw [hseq]
    rfl
  have hclk' := hclk.trans (clkMoved_updSeq g fun s => { s with pllDead := s.pllDead || !ok })
  have hsrc' : ∀ v, h.seq.srcPending = some v → v < 4 →
    (g.updSeq fun s => { s with pllDead := s.pllDead || !ok }).fget 0x44 1 0 = v := hsrc
  split
  · exact ⟨hseq', hclk'.trans (clkMoved_lockPll _), fun v hs hv => (lockPll_src _).trans (hsrc' v hs hv)⟩
  · exact ⟨hseq', hclk', hsrc'⟩

/-- A module that does not lock, with no change of SRC that waits, changes no register. -/
theorem levelReturnLocked_dead {h : Hw} {c : LevelChg} (hc : h.seq.levelChg = some c) (hp : c.phase = 1)
    (hs : h.seq.srcPending = none) : (effect (.levelReturnLocked false) h).regs = h.regs := by
  rw [levelReturnLocked_effect hc false hp, if_neg Bool.false_ne_true]
  show (heldAgain h c.old).applySrc.regs = _
  rw [applySrc_none (h := heldAgain h c.old) hs]
  rfl

/-! ## Throttle requests (R152) -/

theorem throttleRecover_sends {h : Hw} (hh : h.isHead = true) (ht : h.seq.throttled = true) :
    effect .throttleRecover h = h.sendSym .throttle 0 :=
  if_pos (by rw [hh, ht]; rfl)

theorem throttleRecover_idle {h : Hw} (ht : h.seq.throttled = false) : effect .throttleRecover h = h :=
  if_neg (by rw [ht]; exact Bool.false_ne_true)

/-- Settles O49: each end of a change of level, and the throttle symbols that are sent. -/
theorem levelChanges : Obligations.LevelChanges := by
  unfold Obligations.LevelChanges
  intro s
  refine ⟨fun c us hc hp => ⟨fun hf => ?_, fun hf hh => ?_, ?_⟩, fun c ok v hc hp hs hv => ?_, fun c ok hc hp hs => ?_, fun he => ?_,
    fun he => ?_, fun hh => ⟨fun ht he => ?_, fun ht => ?_⟩⟩
  · refine does_of rfl ?_
    rw [levelLocked_held hc us hp hf]
    generalize hk : (s.hw.levelIn c).updSeq (fun q => { q with run := .held }) = k
    have hmoved := (clkMoved_applySrc k).trans (clkMoved_lockPll k.applySrc)
    have hkseq : k.seq = { s.hw.seq with level := c.new, levelChg := none, run := .held } := by rw [← hk]; rfl
    have hsame : k = { s.hw with seq := k.seq, fault := k.fault } := by rw [← hk]; rfl
    have hraised : Raised evLevelChanged 0 s.hw k := by rw [← hk]; exact ⟨false, rfl⟩
    obtain ⟨p, hpath⟩ := hraised
    have hfault : k.applySrc.lockPll.fault = k.fault := by rw [hmoved.1]
    refine ⟨⟨p, by rw [hfault]; exact hpath⟩, ?_, fun v hs hv => ?_, fun hs => ?_, ?_, fun n hn => ?_⟩
    · rw [lockPll_seq, applySrc_seq, hkseq]
    · rw [lockPll_src, applySrc_src (by rw [hkseq]; exact hs) hv]
    · rw [lockPll_src, applySrc_none (by rw [hkseq]; exact hs), hsame]
      rfl
    · rw [hmoved.1, hsame]
    · refine (hmoved.2 n (by simpa using hn)).trans ?_
      rw [hsame]
      rfl
  · refine does_of rfl ?_
    rw [levelLocked_running hc us hp hf hh]
    generalize hk : (s.hw.levelIn c).updSeq (fun q => { q with
      run := if q.halts.isEmpty then .running else .halting
      gapUs := min 40 us, starting := some 2, goEff := false, goSent := true }) = k
    have hkseq : k.seq = { s.hw.seq with
      level := c.new, levelChg := none
      run := if s.hw.seq.halts.isEmpty then .running else .halting
      gapUs := min 40 us, starting := some 2, goEff := false, goSent := true } := by rw [← hk]; rfl
    have hout : k.out = s.hw.out := by rw [← hk]; rfl
    have hdev : k.devIndex = s.hw.devIndex := by rw [← hk]; rfl
    have hrun : k.seq.run ≠ .empty := by rw [hkseq]; exact run_of_levelEnd _
    obtain ⟨p, hpath⟩ : Raised evLevelChanged 0 s.hw k := by rw [← hk]; exact ⟨false, rfl⟩
    obtain ⟨hseq, ho, -, hfault⟩ := sendSym_sends .frameGo (s.hw.seq.frame.toNat % 1024) hrun
    generalize k.sendSym .frameGo (s.hw.seq.frame.toNat % 1024) = g at hseq ho hfault ⊢
    have hseq' : g.lockPll.seq = g.seq := rfl
    have hsyms : g.seq.syms = s.hw.seq.syms ++
        [⟨.frameGo, s.hw.seq.frame.toNat % 1024, s.hw.devIndex, s.hw.seq.clk + s.hw.seq.horizon, s.hw.seq.clk⟩] := by
      rw [hseq, hkseq, hdev]
    refine ⟨⟨p, ?_⟩, ⟨?_, ?_⟩, ?_⟩
    · show g.fault.path = _
      rw [hfault]
      exact hpath
    · show g.out = _
      rw [ho, hout, hkseq]
    · rw [hseq', hsyms]
    · rw [hseq', hseq, hkseq]
  · exact does_of rfl (levelLockTimeout_effect hc hp)
  · obtain ⟨hseq, hmoved, hsrc⟩ := levelReturnLocked_fields hc hp ok
    exact does_of rfl ⟨by rw [hseq]; rfl, by rw [hseq]; rfl, by rw [hseq]; rfl, by rw [hseq]; rfl, hsrc v hs hv, hmoved.onlyRegs⟩
  · obtain ⟨hseq, hmoved, -⟩ := levelReturnLocked_fields hc hp ok
    refine does_of rfl ⟨?_, hmoved.onlyRegs, fun hok => ?_⟩
    · rw [hseq, returnedSeq, ← hs]
    · rw [hok]
      exact levelReturnLocked_dead hc hp hs
  · exact exec_unchanged rfl (if_pos he)
  · obtain ⟨hseq, ho, hsame, -⟩ := sendSym_sends .throttle 1 he
    exact does_of rfl ⟨⟨ho, congrArg Seq.syms hseq⟩, hsame⟩
  · obtain ⟨hseq, ho, hsame, -⟩ := sendSym_sends .throttle 0 he
    refine does_of rfl ?_
    rw [throttleRecover_sends hh ht]
    exact ⟨⟨ho, congrArg Seq.syms hseq⟩, hsame⟩
  · exact exec_unchanged rfl (throttleRecover_idle ht)

end Sys2Proof.Machine
end

section
-- As the tests above: declarations in order, so that checking the one text stays within its memory.
set_option Elab.async false
/-!
PROOFS. What a configuration symbol does at its effect clock (O48).
-/

namespace Sys2Proof.Machine

/-! ## The symbol that takes effect (R127, R237) -/

/-- The symbols that stay on their way once one of this kind has taken effect. -/
def Seq.symsLeft (q : Seq) (k : SymKind) (origin arg : Nat) : List Sym :=
  match q.syms.find? fun x => x.kind == k && x.origin == origin && x.arg == arg with
  | some x => q.syms.erase x
  | none => q.syms

/-- When the symbol that takes effect was sent. -/
def Seq.symSent (q : Seq) (k : SymKind) (origin arg : Nat) : Nat :=
  match q.syms.find? fun x => x.kind == k && x.origin == origin && x.arg == arg with
  | some x => x.sent
  | none => q.clk - q.horizon

/-- The state in which the symbol has left those on their way. -/
def Hw.symLeft (h : Hw) (k : SymKind) (origin arg : Nat) : Hw := { h with seq := { h.seq with syms := h.seq.symsLeft k origin arg } }

theorem symbolNow_eq (h : Hw) (k : SymKind) (origin arg : Nat) : ∃ eff, eff ≤ h.seq.clk ∧
    h.symbolNow k origin arg = (h.symLeft k origin arg).applySym ⟨k, arg, origin, eff, h.seq.symSent k origin arg⟩ := by
  unfold Hw.symbolNow Hw.symLeft Seq.symsLeft Seq.symSent
  cases hf : h.seq.syms.find? fun x => x.kind == k && x.origin == origin && x.arg == arg with
  | none => exact ⟨_, le_refl _, rfl⟩
  | some x =>
    have hx := List.find?_some hf
    simp only [Bool.and_eq_true, beq_iff_eq] at hx
    obtain ⟨⟨hk, ho⟩, ha⟩ := hx
    obtain ⟨k', arg', origin', eff, sent⟩ := x
    subst hk ho ha
    exact ⟨_, min_le_right eff h.seq.clk, rfl⟩

/-! ## The symbols, kind by kind (Table 8.8) -/

theorem posThere_noStretch {q : Seq} (hl : q.stretchLog = []) (m n : Nat) : q.posThere m n = q.posHist.getD (q.horizon - 1) 0 := by
  simp [Seq.posThere, Seq.stretchesAt, hl]

theorem holdBack_eq (q : Seq) (hold : Nat) : q.holdBack hold = { q with pos := min q.pos hold, stalls := q.stalls + (q.pos - hold) } := by
  unfold Seq.holdBack
  split
  · next hlt => rw [Nat.min_eq_right (by omega)]
  · next hge => rw [Nat.min_eq_left (by omega), Nat.sub_eq_zero_of_le (by omega)]; rfl

theorem toldAllowance_eq (inFrame head : Bool) (m : RunMode) (f hz a : Nat) :
    (if !inFrame || head then a else if decide (m = .timed) && decide (f ≤ hz) then min f a else f) =
      if inFrame = true ∧ head = false then (if m = .timed ∧ f ≤ hz then min f a else f) else a := by
  cases inFrame <;> cases head <;> simp

section
variable (h : Hw) (origin arg : Nat)

theorem frameGo_effect : effect (.frameGo origin arg) h = { h with seq := { h.seq with
    syms := h.seq.symsLeft .frameGo origin arg, goEff := true, allowance :=
      if h.seq.inFrame = true ∧ h.isHead = false then
        (if h.seq.mode = .timed ∧ h.seq.fclk ≤ h.seq.horizon then min h.seq.fclk h.seq.allowance else h.seq.fclk)
      else h.seq.allowance } } := by
  obtain ⟨eff, -, e⟩ := symbolNow_eq h .frameGo origin arg
  refine e.trans ?_
  exact congrArg (fun a => { h with seq := { h.seq with
    syms := h.seq.symsLeft .frameGo origin arg, goEff := true, allowance := a } }) (toldAllowance_eq ..)

theorem release_effect : effect (.release origin arg) h = { h with seq := { h.seq with
    syms := h.seq.symsLeft .release origin arg
    stallReqs := h.seq.stallReqs.filter fun r => !(r.origin == origin && r.num == arg % 16) } } := by
  obtain ⟨eff, -, e⟩ := symbolNow_eq h .release origin arg
  exact e

section
variable {h origin} (ho : origin ≠ h.devIndex) (hf : h.seq.inFrame = true)
include ho hf

theorem ofOther (k : SymKind) : ¬ ((decide (origin = (h.symLeft k origin arg).devIndex) || !(h.symLeft k origin arg).seq.inFrame) = true) := by
  show ¬ ((decide (origin = h.devIndex) || !h.seq.inFrame) = true)
  simp [ho, hf]

theorem stallReq_effect : effect (.stallReq origin arg) h =
    let hold := min (h.seq.posThere h.devIndex origin + h.seq.horizon) h.seq.schedLen
    { h with seq := { h.seq with
      syms := h.seq.symsLeft .stallReq origin arg, pos := min h.seq.pos hold, stalls := h.seq.stalls + (h.seq.pos - hold)
      stallReqs := h.seq.stallReqs ++ [⟨origin, arg % 16, hold, none, h.seq.clk, false, false⟩] } } := by
  obtain ⟨eff, -, e⟩ := symbolNow_eq h .stallReq origin arg
  refine e.trans ((if_neg (ofOther arg ho hf .stallReq)).trans ?_)
  exact congrArg (fun q : Seq => { h with seq := { q with stallReqs := h.seq.stallReqs ++
    [(⟨origin, arg % 16, min (h.seq.posThere h.devIndex origin + h.seq.horizon) h.seq.schedLen, none, h.seq.clk, false, false⟩ :
      StallReq)] } })
    (holdBack_eq (h.symLeft .stallReq origin arg).seq _)

theorem stretch_effect : effect (.stretch origin arg) h = { h with seq := { h.seq with
    syms := h.seq.symsLeft .stretch origin arg, stretchDue := h.seq.stretchDue + 1, stretches := h.seq.stretches + 1
    noted := h.seq.noted + 1, stretchLog := (origin, h.seq.symSent .stretch origin arg) :: h.seq.stretchLog } } := by
  obtain ⟨eff, -, e⟩ := symbolNow_eq h .stretch origin arg
  exact e.trans (if_neg (ofOther arg ho hf .stretch))

end

theorem xtrig_effect (ha : arg % 256 < 0xFD) : effect (.xtrig origin arg) h = { h with
    seq := { h.seq with syms := h.seq.symsLeft .trigger origin arg }, acq := { h.acq with xnow := (arg % 256) :: h.acq.xnow } } := by
  obtain ⟨eff, -, e⟩ := symbolNow_eq h .trigger origin arg
  refine e.trans ?_
  show (h.symLeft .trigger origin arg).triggerSymbol origin (arg % 256) = _
  unfold Hw.triggerSymbol
  rw [if_neg (by omega), if_neg (by omega), if_neg (by omega)]
  rfl

section
variable {h} (hr : h.seq.run = .running ∨ h.seq.run = .halting)
include hr

theorem framesRun : (decide (h.seq.run = .running) || decide (h.seq.run = .halting)) = true := by
  rcases hr with e | e <;> rw [e] <;> rfl

theorem haltNow_effect (hs : h.seq.srcPending = none) : effect (.haltNow origin arg) h = { h with seq := { h.seq with
    syms := h.seq.symsLeft .haltNow origin arg, run := .stoppedMid, haltReason := arg % 16, inFrame := false
    halts := [], stallReqs := [], starting := none } } := by
  obtain ⟨eff, -, e⟩ := symbolNow_eq h .haltNow origin arg
  refine e.trans ((if_pos (framesRun hr)).trans ?_)
  exact applySrc_none hs

/-- A halt at the end of the frame, from a symbol of either kind. -/
theorem haltAtEnd_left (k : SymKind) (x : PendHalt) : (h.symLeft k origin arg).haltAtEnd x = { h with seq := { h.seq with
    syms := h.seq.symsLeft k origin arg, run := .halting, halts := h.seq.halts ++ [x] } } :=
  if_pos (framesRun hr)

theorem askLevel_running (l : Nat) (t : Bool) : h.askLevel l t = { h with seq := { h.seq with levelDue := some (l, t) } } := by
  unfold Hw.askLevel
  rcases hr with e | e <;> rw [e] <;> rfl

end

end

/-- The throttle is noted, and its event sets out. -/
theorem throttled_eq (h : Hw) : (h.updSeq fun s => { s with throttled := true }).raise evThermalThrottle =
    { h with
      seq := { h.seq with throttled := true }
      fault := { h.fault with path :=
        if h.pstate < 3 then h.fault.path ++ [⟨evThermalThrottle, 0, h.seq.frame, false, h.seq.ticks⟩] else h.fault.path } } := by
  have hp : (h.updSeq fun s => { s with throttled := true }).pstate = h.pstate := by
    unfold Hw.pstate Hw.fget Hw.reg
    rfl
  unfold Hw.raise Hw.raiseWith
  rw [hp]
  rfl

theorem symLeft_pstate (h : Hw) (k : SymKind) (origin arg : Nat) : (h.symLeft k origin arg).pstate = h.pstate := by
  unfold Hw.pstate Hw.fget Hw.reg
  rfl

theorem throttle_slower {h : Hw} {arg : Nat} (hr : h.seq.run = .running ∨ h.seq.run = .halting) (ha : arg % 2 = 1)
    (hl : h.seq.level < 3) (origin : Nat) : effect (.throttle origin arg) h =
      { h with
        seq := { h.seq with syms := h.seq.symsLeft .throttle origin arg, throttled := true, levelDue := some (h.seq.level + 1, true) }
        fault := { h.fault with path :=
          if h.pstate < 3 then h.fault.path ++ [⟨evThermalThrottle, 0, h.seq.frame, false, h.seq.ticks⟩] else h.fault.path } } := by
  obtain ⟨eff, -, e⟩ := symbolNow_eq h .throttle origin arg
  refine e.trans ?_
  have hd : decide (arg % 2 = 1) = true := decide_eq_true ha
  show (h.symLeft .throttle origin arg).throttle (decide (arg % 2 = 1)) = _
  rw [hd]
  unfold Hw.throttle
  rw [if_pos rfl, throttled_eq, symLeft_pstate]
  refine (if_pos hl).trans ((askLevel_running ?_ _ _).trans rfl)
  exact hr

/-! ## RUN_CTRL (R142, R143, R148) -/

/-- What a start under RUN_CTRL makes of the sequencer. -/
def Seq.started (q : Seq) (m : RunMode) (checked : Bool) : Seq :=
  { q with run := .running, mode := m, checked := checked, starting := some (if q.deferred then 1 else 0)
           goSent := m == .timed && q.goSent, goEff := m != .timed, levelDue := q.startDue checked }

theorem runStart_held {h : Hw} (hr : h.seq.run = .held) (m : RunMode) (checked : Bool) :
    h.runStart m checked = if checked then ({ h with seq := h.seq.started m checked } : Hw).clearHazards
      else { h with seq := h.seq.started m checked } := by
  have hm : (decide (m = .timed) && h.seq.goSent) = (m == .timed && h.seq.goSent) := by cases m <;> rfl
  unfold Hw.runStart
  rw [if_neg (not_not_intro hr)]
  unfold Hw.updSeq Seq.started
  rw [← hm]

section
variable {h : Hw} {origin arg : Nat}

theorem runCtrl_starts (n : Nat × RunMode) (hn : n ∈ [(0, RunMode.free), (1, .timed), (2, .step)])
    (ha : arg % 8 = n.1) : effect (.runCtrl origin arg) h = (h.symLeft .runCtrl origin arg).runStart n.2 (arg.testBit 5) := by
  obtain ⟨eff, -, e⟩ := symbolNow_eq h .runCtrl origin arg
  refine e.trans ?_
  show (h.symLeft .runCtrl origin arg).runCtrl ⟨.runCtrl, arg, origin, eff, h.seq.symSent .runCtrl origin arg⟩ = _
  unfold Hw.runCtrl
  dsimp only
  rw [ha]
  simp only [List.mem_cons, List.not_mem_nil, or_false] at hn
  rcases hn with rfl | rfl | rfl <;> rfl

theorem runCtrl_halts (ha : arg % 8 = 3) : ∃ eff, eff ≤ h.seq.clk ∧ effect (.runCtrl origin arg) h =
    (h.symLeft .runCtrl origin arg).haltAtEnd ⟨1, origin, h.seq.symSent .runCtrl origin arg, eff⟩ := by
  obtain ⟨eff, hle, e⟩ := symbolNow_eq h .runCtrl origin arg
  refine ⟨eff, hle, e.trans ?_⟩
  show (h.symLeft .runCtrl origin arg).runCtrl ⟨.runCtrl, arg, origin, eff, h.seq.symSent .runCtrl origin arg⟩ = _
  unfold Hw.runCtrl
  dsimp only
  rw [ha]
  rfl

theorem runCtrl_level (ha : arg % 8 = 4) : effect (.runCtrl origin arg) h =
    (h.symLeft .runCtrl origin arg).requestLevel (arg / 8 % 4) := by
  obtain ⟨eff, -, e⟩ := symbolNow_eq h .runCtrl origin arg
  refine e.trans ?_
  show (h.symLeft .runCtrl origin arg).runCtrl ⟨.runCtrl, arg, origin, eff, h.seq.symSent .runCtrl origin arg⟩ = _
  unfold Hw.runCtrl
  dsimp only
  rw [ha]
  rfl

end

theorem clearHazards_fields (h : Hw) : h.clearHazards.seq = h.seq ∧
    ∀ d, d < 2 → h.clearHazards.reg (seqA d 0x88) = 0 ∧ h.clearHazards.reg (seqA d 0x8C) = 0 := by
  unfold Hw.clearHazards
  refine ⟨by rw [(onlyRegs_clearRegs h _).1], fun d hd => ?_⟩
  rw [reg_clearRegs, reg_clearRegs, if_pos, if_pos]
  · exact ⟨rfl, rfl⟩
  all_goals interval_cases d <;> simp

/-- A start without checks changes the sequencer alone. -/
theorem runCtrl_unchecked {h : Hw} {origin arg : Nat} (hr : h.seq.run = .held) (n : Nat × RunMode)
    (hn : n ∈ [(0, RunMode.free), (1, .timed), (2, .step)]) (ha : arg % 8 = n.1) (hc : arg.testBit 5 = false) :
    effect (.runCtrl origin arg) h = { h with seq := (h.symLeft .runCtrl origin arg).seq.started n.2 false } := by
  rw [runCtrl_starts n hn ha, runStart_held (h := h.symLeft .runCtrl origin arg) hr, hc]
  rfl

/-- Settles O48: each symbol leaves those on their way and acts on the sequencer alone, but for what is named. -/
theorem symbolsTakeEffect : Obligations.SymbolsTakeEffect := by
  unfold Obligations.SymbolsTakeEffect
  intro s origin arg ho64 ha1024 hsrc
  have hw : (decide (origin < 64) && decide (arg < 1024)) = true := by simp [ho64, ha1024]
  refine ⟨does_of hw (frameGo_effect s.hw origin arg), posThere_noStretch, fun ho hf => ⟨?_, ?_⟩,
    does_of hw (release_effect s.hw origin arg), fun hr => ⟨?_, ?_, fun ha => ?_, fun ha hl => ?_⟩, fun ha => ?_, fun hr =>
    ⟨fun m hm ha hc => ?_, fun ha hc => ?_, fun ha => ?_⟩⟩
  · exact does_of hw (stallReq_effect arg ho hf)
  · exact does_of hw (stretch_effect arg ho hf)
  · exact does_of hw (haltNow_effect origin arg hr hsrc)
  · obtain ⟨eff, hle, e⟩ := symbolNow_eq s.hw .haltAtEnd origin arg
    refine does_of hw ?_
    have he : effect (.haltAtEnd origin arg) s.hw = _ := e.trans (haltAtEnd_left origin arg hr .haltAtEnd ⟨_, origin, _, eff⟩)
    rw [he]
    exact ⟨⟨_, rfl, rfl, hle, rfl⟩, rfl⟩
  · obtain ⟨eff, hle, e⟩ := runCtrl_halts (h := s.hw) (origin := origin) ha
    refine does_of hw ?_
    rw [e, haltAtEnd_left origin arg hr]
    exact ⟨⟨_, rfl, rfl, hle, rfl⟩, rfl⟩
  · refine does_of hw ?_
    rw [throttle_slower hr ha hl]
    exact ⟨⟨false, rfl⟩, rfl⟩
  · exact does_of hw (xtrig_effect s.hw origin arg ha)
  · obtain ⟨n, hn, rfl⟩ : ∃ n ∈ [(0, RunMode.free), (1, .timed), (2, .step)], m = n.swap := by
      simp only [List.zipIdx_cons, List.zipIdx_nil, List.mem_cons, List.not_mem_nil, or_false] at hm
      rcases hm with rfl | rfl | rfl
      · exact ⟨(0, .free), by decide, rfl⟩
      · exact ⟨(1, .timed), by decide, rfl⟩
      · exact ⟨(2, .step), by decide, rfl⟩
    exact does_of hw (runCtrl_unchecked hr n hn ha hc)
  · refine does_of hw ?_
    rw [runCtrl_starts (0, .free) (by decide) ha, runStart_held (h := s.hw.symLeft .runCtrl origin arg) hr, hc, if_pos rfl]
    obtain ⟨hseq, hcounts⟩ := clearHazards_fields
      ({ s.hw with seq := (s.hw.symLeft .runCtrl origin arg).seq.started .free true } : Hw)
    exact ⟨hseq, hcounts⟩
  · refine does_of hw ?_
    rw [runCtrl_level ha, requestLevel_held (h := s.hw.symLeft .runCtrl origin arg) hr]
    refine ⟨rfl, ?_, rfl, fun a hna => ?_⟩
    · exact bget_fset s.hw 0x44 0x44 6 6 6 0 (by omega)
    · exact (reg_fset s.hw 0x44 6 6 0 a).trans (if_neg (by simpa using hna))

end Sys2Proof.Machine
end

section
-- As the tests above: declarations in order, so that checking the one text stays within its memory.
set_option Elab.async false
/-!
PROOFS. Frame-go, stalls and stretches as this module sends them (O47).
-/

namespace Sys2Proof.Machine

/-! ## What sending a symbol does to the ports (R237) -/

theorem Store.get_map_cases {α : Type} (d : α) (m : Store α) (c : Nat → Bool) (f : α → α) (k : Nat) :
    Store.get d (m.map fun kv => if c kv.1 then (kv.1, f kv.2) else kv) k = Store.get d m k ∨
      c k = true ∧ Store.get d (m.map fun kv => if c kv.1 then (kv.1, f kv.2) else kv) k = f (Store.get d m k) := by
  cases hk : c k with
  | false => exact .inl (Store.get_map_of_key d m c f hk)
  | true =>
    induction m with
    | nil => exact .inl rfl
    | cons kv m ih =>
      obtain ⟨a, v⟩ := kv
      rw [List.map_cons]
      by_cases ha : a = k
      · rw [ha, hk]
        simp [Store.get]
      · have hskip : ∀ (w : α) (n : Store α), Store.get d ((a, w) :: n) k = Store.get d n k := fun w n => if_neg (Ne.symm ha)
        rw [show (if c (a, v).1 then ((a, v).1, f (a, v).2) else (a, v)) = (a, if c a then f v else v) by
          dsimp only; split <;> rfl, hskip, hskip]
        exact ih

/-- The symbol as it is sent. -/
def Hw.symOf (h : Hw) (k : SymKind) (n : Nat) : Sym := ⟨k, n, h.devIndex, h.seq.clk + h.seq.horizon, h.seq.clk⟩

/-- The symbol waits for its effect clock, is sent out, and waits at tree ports to be sent. -/
def Sent (k : SymKind) (n : Nat) (h g : Hw) : Prop :=
  g.seq.syms = h.seq.syms ++ [h.symOf k n] ∧ g.out = h.out ++ [.symbol k n h.seq.clk] ∧
    ∀ p, g.port p = h.port p ∨
      h.conf.treePorts.contains p = true ∧ g.port p = { h.port p with txSyms := (h.port p).txSyms ++ [h.symOf k n] }

theorem sendSym_port {h : Hw} (k : SymKind) (n : Nat) (hr : h.seq.run ≠ .empty) (p : Nat) :
    (h.sendSym k n).port p = h.port p ∨ h.conf.treePorts.contains p = true ∧
      (h.sendSym k n).port p = { h.port p with txSyms := (h.port p).txSyms ++ [h.symOf k n] } := by
  rw [Hw.sendSym, if_neg hr]
  exact Store.get_map_cases {} h.ports h.conf.treePorts.contains (fun pt => { pt with txSyms := pt.txSyms ++ [h.symOf k n] }) p

theorem sent_sendSym {h : Hw} (k : SymKind) (n : Nat) (hr : h.seq.run ≠ .empty) : Sent k n h (h.sendSym k n) := by
  obtain ⟨hseq, hout, -, -⟩ := sendSym_sends k n hr
  exact ⟨congrArg Seq.syms hseq, hout, sendSym_port k n hr⟩

/-- What is sent is sent by the clock of the sequencer. -/
theorem Sent.of_same {k : SymKind} {n : Nat} {h m g : Hw} (s : Sent k n m g) (hsyms : m.seq.syms = h.seq.syms)
    (hclk : m.seq.clk = h.seq.clk) (hhor : m.seq.horizon = h.seq.horizon)
    (he : m = { h with seq := m.seq, regs := m.regs, fault := m.fault, done := m.done }) : Sent k n h g := by
  obtain ⟨s1, s2, s3⟩ := s
  have hdev : m.devIndex = h.devIndex := by rw [he]
  have hsym : m.symOf k n = h.symOf k n := by rw [Hw.symOf, Hw.symOf, hclk, hhor, hdev]
  have hport : ∀ p, m.port p = h.port p := fun p => by rw [he]; rfl
  refine ⟨by rw [s1, hsyms, hsym], by rw [s2, hclk, he], fun p => ?_⟩
  have hp := s3 p
  rw [hsym, hport p, show m.conf = h.conf by rw [he]] at hp
  exact hp

/-! ## FRAME_GO_SEND (R137) -/

section
variable {h : Hw} (hh : h.isHead = true) (hg : h.seq.goSent = false) (hr : h.seq.run = .running) (hf : h.seq.inFrame = true)
  (hm : h.seq.mode ≠ .timed)
include hh hg hr hf hm

theorem frameGoSend_effect : effect .frameGoSend h =
    if h.seq.allowance ≤ h.seq.fclk + h.seq.horizon then
      (h.updSeq fun s => { s with goSent := true }).sendSym .frameGo ((h.seq.frame.toNat + 1) % 1024)
    else h := by
  show execFrameGoSend h = _
  unfold execFrameGoSend
  extract_lets s c send
  rw [if_neg (by simp [s, hh, hg, hr]), if_pos (show s.inFrame = true from hf), if_neg (show ¬ s.mode = .timed from hm)]

end

/-! ## WAIT_TEST (R130, R131, R190) -/

/-- Only registers and reports have changed. -/
def Noticed (h g : Hw) : Prop := g = { h with regs := g.regs, fault := g.fault }

theorem Noticed.trans {h g k : Hw} (a : Noticed h g) (b : Noticed g k) : Noticed h k := by
  unfold Noticed at *
  rw [b, a]

theorem noticed_count (h : Hw) (a : Nat) : Noticed h (h.count a) := rfl

theorem noticed_raise (h : Hw) (id : Nat) : Noticed h (h.raise id) := rfl

theorem reg_raise (h : Hw) (id a : Nat) : (h.raise id).reg a = h.reg a := by
  unfold Hw.reg Hw.raise Hw.raiseWith
  rfl

/-- What a wait that is not ready notes before its request: its count, its event, and a request that a refresh has delayed. -/
def Hw.waitNoted (h : Hw) (d : Nat) (qs : List Nat) : Hw :=
  let h := h.count (seqA d 0x48)
  let h := if h.bget (seqA d 0) 5 then h.raise (evWaitStall d) else h
  if (qs.any fun k => !h.queueReady d k && h.headDelayed d k) then (h.count (farA d 0x2C)).raise (evRefreshIntruded d) else h

theorem waitNoted_fields (h : Hw) (d : Nat) (qs : List Nat) : Noticed h (h.waitNoted d qs) ∧
    (h.waitNoted d qs).reg (seqA d 0x48) = (h.count (seqA d 0x48)).reg (seqA d 0x48) := by
  have hne : seqA d 0x48 ≠ farA d 0x2C := by unfold seqA farA dieBase; omega
  unfold Hw.waitNoted
  extract_lets g1 g2
  have h1 : Noticed h g1 := noticed_count h _
  have h2 : Noticed h g2 ∧ g2.reg (seqA d 0x48) = g1.reg (seqA d 0x48) := by
    unfold g2
    split
    · exact ⟨h1.trans (noticed_raise g1 _), reg_raise g1 _ _⟩
    · exact ⟨h1, rfl⟩
  clear_value g2
  split
  · obtain ⟨-, -, hreg⟩ := count_fields g2 (farA d 0x2C)
    exact ⟨(h2.1.trans (noticed_count g2 _)).trans (noticed_raise _ _), ((reg_raise _ _ _).trans (hreg _ hne)).trans h2.2⟩
  · exact h2

/-- The stall request of this module. -/
def Hw.waitAsks (h : Hw) (d w : Nat) : Hw :=
  let n := h.seq.reqNum % 16
  let r : StallReq := ⟨h.devIndex, n, min (h.seq.pos + h.seq.horizon) h.seq.schedLen, some (d, w), h.seq.clk, false, false⟩
  (h.updSeq fun q => { q with stallReqs := q.stallReqs ++ [r], reqNum := q.reqNum + 1 }).sendSym .stallReq n

/-- The test of a wait set, once the block is noted. -/
def Hw.waitTests (h : Hw) (d w : Nat) : Hw :=
  let qs := h.waitQueues d w
  let h := qs.foldl (fun h k => if h.queueEmpty d k then h.hazard d 7 0 none k else h) h
  if qs.all (h.queueReady d) then h else (h.waitNoted d qs).waitAsks d w

theorem waitTests_unchecked {h : Hw} (hc : h.seq.checked = false) (d w : Nat) :
    h.waitTests d w = if (h.waitQueues d w).all (h.queueReady d) then h else (h.waitNoted d (h.waitQueues d w)).waitAsks d w := by
  have hfold : (h.waitQueues d w).foldl (fun h k => if h.queueEmpty d k then h.hazard d 7 0 none k else h) h = h :=
    List.foldl_fixed' (fun k => by
      split
      · exact hazard_unchecked hc ..
      · rfl) _
  unfold Hw.waitTests
  extract_lets qs g
  rw [show g = h from hfold]

/-- The blocks that waits of this die have taken are forgotten. -/
def Hw.waitTested (h : Hw) (d : Nat) : Hw := h.updSeq fun q => { q with waitTaken := q.waitTaken.filter fun k => k / 256 != d }

theorem waitTested_ready (h : Hw) (d e : Nat) : (h.waitTested d).queueReady e = h.queueReady e := by
  funext k
  unfold Hw.queueReady Hw.waitTested Hw.updSeq Hw.qpair Hw.headResult
  rfl

theorem waitTested_queues (h : Hw) (d e w : Nat) : (h.waitTested d).waitQueues e w = h.waitQueues e w := by
  unfold Hw.waitQueues Hw.waitTested Hw.updSeq
  rfl

section
variable {h : Hw} {d : Nat} {sg : Seg} (hd : d < 2) (hx : h.execClock = true)
  (hs : h.segAt d h.seq.pos = some sg) (hk : sg.kind = 1) (hp : sg.pos = h.seq.pos) (hdone : h.done.contains (.waitTest d) = false)
include hd hx hs hk hp hdone

theorem waitTest_effect : effect (.waitTest d) h = ((h.waitTested d).waitTests d sg.wset).markDone (.waitTest d) := by
  have hdue : (h.execClock && decide (d < 2) && sg.kind == 1 && sg.pos == h.seq.pos) = true := by simp [hx, hd, hk, hp]
  show execWaitTest h d = _
  unfold execWaitTest
  rw [hs]
  dsimp only
  rw [once_due _ _ hdue hdone]
  rfl

end

theorem run_of_execClock {h : Hw} (hx : h.execClock = true) : h.seq.run ≠ .empty := fun he => by
  simp [Hw.execClock, he] at hx

/-- The request is sent as a symbol, and joins the requests. -/
theorem waitAsks_fields {h : Hw} (d w : Nat) (hr : h.seq.run ≠ .empty) : Sent .stallReq (h.seq.reqNum % 16) h (h.waitAsks d w) ∧
    (h.waitAsks d w).seq = { h.seq with
      syms := (h.waitAsks d w).seq.syms, reqNum := h.seq.reqNum + 1, stallReqs := h.seq.stallReqs ++
        [⟨h.devIndex, h.seq.reqNum % 16, min (h.seq.pos + h.seq.horizon) h.seq.schedLen, some (d, w), h.seq.clk, false, false⟩] } ∧
    ∀ a, (h.waitAsks d w).reg a = h.reg a := by
  unfold Hw.waitAsks
  extract_lets n r
  generalize hm : (h.updSeq fun q => { q with stallReqs := q.stallReqs ++ [r], reqNum := q.reqNum + 1 }) = m
  have hseq : m.seq = { h.seq with stallReqs := h.seq.stallReqs ++ [r], reqNum := h.seq.reqNum + 1 } := by rw [← hm]; rfl
  have he : m = { h with seq := m.seq, regs := m.regs, fault := m.fault, done := m.done } := by rw [← hm]; rfl
  have hrm : m.seq.run ≠ .empty := by rw [hseq]; exact hr
  obtain ⟨hs, -, -, -⟩ := sendSym_sends .stallReq n hrm
  refine ⟨(sent_sendSym .stallReq n hrm).of_same (by rw [hseq]) (by rw [hseq]) (by rw [hseq]) he, ?_, fun a => ?_⟩
  · rw [hs, hseq]
  · exact ((alarmed_sendSym m .stallReq n).reg a).trans (by rw [← hm]; rfl)

/-! ## Releases (R131, R134) -/

/-- A request of this module, as the release that it sends leaves it. -/
theorem sendReleases_one {h : Hw} {r : StallReq} {p : StallReq → Bool} (hl : h.seq.stallReqs = [r]) (ho : r.own.isSome = true)
    (hs : r.sent = false) : h.sendReleases p =
      if p r then (h.updSeq fun q => { q with stallReqs := [{ r with sent := true }] }).sendSym .release r.num else h := by
  unfold Hw.sendReleases
  extract_lets due rs mark g
  have hdue : due r = p r := by simp [due, ho, hs]
  have hmark : mark r = if p r then { r with sent := true } else r := by simp [mark, hdue]
  have hrs : rs = if p r then [r] else [] := by
    show h.seq.stallReqs.filter due = _
    rw [hl, List.filter_cons, hdue]
    split <;> rfl
  have hmarked : h.seq.stallReqs.map mark = [if p r then { r with sent := true } else r] := by
    rw [hl, ← hmark]
    rfl
  have hg : g = h.updSeq fun q => { q with stallReqs := [if p r then { r with sent := true } else r] } :=
    congrArg (fun l => h.updSeq fun q => { q with stallReqs := l }) hmarked
  rw [hrs, hg]
  cases p r with
  | true => rfl
  | false =>
    show { h with seq := { h.seq with stallReqs := [r] } } = h
    rw [← hl]

section
variable {h : Hw} {r : StallReq} {d w : Nat} (hl : h.seq.stallReqs = [r]) (ho : r.own = some (d, w)) (hs : r.sent = false)
include hl ho hs

theorem stallRelease_effect : effect .stallRelease h =
    if h.seq.inFrame then
      (if (h.waitQueues d w).all (h.queueReady d) then
        (h.updSeq fun q => { q with stallReqs := [{ r with sent := true }] }).sendSym .release r.num else h)
    else h := by
  have hready : h.reqReady r = (h.waitQueues d w).all (h.queueReady d) := by
    unfold Hw.reqReady
    rw [ho]
  show (if h.seq.inFrame then h.sendReleases h.reqReady else h) = _
  rw [sendReleases_one hl (by rw [ho]; rfl) hs, hready]

/-- The limit is reached by the one request, or by none. -/
theorem waitLimitReached_effect : effect .waitLimitReached h =
    if max 1 (h.reg (seqA d 0x30)).toNat ≤ h.seq.clk - r.t0 then
      ((h.updSeq fun q => { q with stallReqs := [{ r with sent := true }] }).sendSym .release r.num).raisePoison (evWaitTimeout d)
    else h := by
  have hexp : h.reqExpired r = decide (max 1 (h.reg (seqA d 0x30)).toNat ≤ h.seq.clk - r.t0) := by
    unfold Hw.reqExpired
    rw [ho]
  have hlist : (h.seq.stallReqs.filter fun x => !x.sent && h.reqExpired x) = if h.reqExpired r then [r] else [] := by
    rw [hl, List.filter_cons, hs]
    simp
  show execWaitLimitReached h = _
  unfold execWaitLimitReached
  extract_lets rs g
  rw [show rs = _ from hlist, show g = _ from sendReleases_one hl (by rw [ho]; rfl) hs, hexp]
  split
  · next ht =>
    rw [if_pos (of_decide_eq_true ht), List.foldl_cons, List.foldl_nil, ho]
  · next hf =>
    rw [if_neg fun hc => hf (decide_eq_true hc)]
    rfl

end

theorem sendSym_all (h : Hw) (k : SymKind) (n : Nat) : h.sendSym k n =
    { h with seq := (h.sendSym k n).seq, out := (h.sendSym k n).out, ports := (h.sendSym k n).ports } := by
  unfold Hw.sendSym
  split <;> rfl

/-- The release is on its way, and the request remembers it. -/
theorem released_fields {h : Hw} (r : StallReq) (hr : h.seq.run ≠ .empty) :
    let g := (h.updSeq fun q => { q with stallReqs := [{ r with sent := true }] }).sendSym .release r.num
    Sent .release r.num h g ∧ g.seq = { h.seq with syms := g.seq.syms, stallReqs := [{ r with sent := true }] } ∧
      g = { h with seq := g.seq, out := g.out, ports := g.ports } := by
  generalize hm : (h.updSeq fun q => { q with stallReqs := [{ r with sent := true }] }) = m
  intro g
  have hseq : m.seq = { h.seq with stallReqs := [{ r with sent := true }] } := by rw [← hm]; rfl
  have he : m = { h with seq := m.seq } := by rw [← hm]; rfl
  have hrm : m.seq.run ≠ .empty := by rw [hseq]; exact hr
  obtain ⟨hs, -, -, -⟩ := sendSym_sends .release r.num hrm
  refine ⟨(sent_sendSym .release r.num hrm).of_same (by rw [hseq]) (by rw [hseq]) (by rw [hseq]) ?_, ?_, ?_⟩
  · rw [he]
  · show (m.sendSym .release r.num).seq =
      { h.seq with syms := (m.sendSym .release r.num).seq.syms, stallReqs := [{ r with sent := true }] }
    rw [hs, hseq]
  · obtain ⟨q, rfl⟩ : ∃ q, m = { h with seq := q } := ⟨m.seq, he⟩
    exact sendSym_all _ _ _

/-! ## DROOP_DETECT (R140, R141) -/

/-- The guards' events. -/
def Hw.drooped (h : Hw) (d0 d1 : Bool) : Hw :=
  let h := if d0 then h.raise (evDroopStretch 0) else h
  if d1 then h.raise (evDroopStretch 1) else h

theorem pstate_raise (h : Hw) (id : Nat) : (h.raise id).pstate = h.pstate := (signals_raiseWith h id 0 false).pstate

theorem path_raise {h : Hw} (hp : h.pstate = 0) (id : Nat) :
    (h.raise id).fault.path = h.fault.path ++ [⟨id, 0, h.seq.frame, false, h.seq.ticks⟩] := by
  unfold Hw.raise Hw.raiseWith
  exact if_pos (by omega)

theorem raise_fields (h : Hw) (id : Nat) : h.raise id = { h with fault := { h.fault with path := (h.raise id).fault.path } } := rfl

theorem drooped_fields {h : Hw} (hp : h.pstate = 0) (d0 d1 : Bool) :
    (h.drooped d0 d1).fault.path = h.fault.path ++ (if d0 then [⟨evDroopStretch 0, 0, h.seq.frame, false, h.seq.ticks⟩] else []) ++
      (if d1 then [⟨evDroopStretch 1, 0, h.seq.frame, false, h.seq.ticks⟩] else []) ∧
    h.drooped d0 d1 = { h with fault := { h.fault with path := (h.drooped d0 d1).fault.path } } := by
  unfold Hw.drooped
  extract_lets g
  have hg : g.fault.path = h.fault.path ++ (if d0 then [⟨evDroopStretch 0, 0, h.seq.frame, false, h.seq.ticks⟩] else []) ∧
      g = { h with fault := { h.fault with path := g.fault.path } } ∧ g.pstate = 0 := by
    unfold g
    cases d0 with
    | false => exact ⟨(List.append_nil _).symm, rfl, hp⟩
    | true => exact ⟨path_raise hp _, rfl, (pstate_raise h _).trans hp⟩
  clear_value g
  obtain ⟨hpath, he, hp'⟩ := hg
  cases d1 with
  | false => exact ⟨hpath.trans (List.append_nil _).symm, he⟩
  | true =>
    have hseq : g.seq = h.seq := by rw [he]
    refine ⟨?_, ?_⟩
    · show (g.raise (evDroopStretch 1)).fault.path = _
      rw [path_raise hp', hpath, hseq]
      rfl
    · show g.raise (evDroopStretch 1) = _
      rw [raise_fields, he]
      rfl

/-- The stretch of this clock is due, and its events are raised. -/
def Hw.stretchSet (h : Hw) (d0 d1 : Bool) : Hw :=
  (h.drooped d0 d1).updSeq fun s => { s with stretchedNow := true, stretchDue := s.stretchDue + 1 }

theorem droopDetect_effect {h : Hw} {d0 d1 : Bool} (hd : d0 = true ∨ d1 = true) (ha : h.arrayClock = true) (hf : h.seq.inFrame = true)
    (hs : h.seq.stretchedNow = false) : effect (.droopDetect d0 d1) h = (h.stretchSet d0 d1).countStretch := by
  have hd' : (d0 || d1) = true := by simpa using hd
  have hseq : (h.drooped d0 d1).seq = h.seq := by
    unfold Hw.drooped
    cases d0 <;> cases d1 <;> rfl
  show execDroopDetect h d0 d1 = _
  unfold execDroopDetect
  rw [ha, hd']
  show (if (h.drooped d0 d1).seq.stretchedNow = true then _ else
    if ((h.drooped d0 d1).updSeq fun s => { s with stretchedNow := true, stretchDue := s.stretchDue + 1 }).seq.inFrame = true then _
      else _) = _
  rw [if_neg (by rw [hseq, hs]; exact Bool.false_ne_true), if_pos (by show (h.drooped d0 d1).seq.inFrame = true; rw [hseq, hf])]
  rfl

/-- The clocks of the last H in which this module has stretched, this one with them. -/
def Seq.lagNow (q : Seq) : List Nat := (q.clk :: q.lagClks).filter fun c => decide (q.clk < c + q.horizon)

/-- The stretch is counted and told to the others. -/
def Hw.stretchTold (h : Hw) : Hw :=
  (h.updSeq fun s => { s with
    stretches := s.stretches + 1, noted := s.noted + 1, lagClks := h.seq.lagNow, stretchLog := (h.devIndex, s.clk) :: s.stretchLog }).sendSym
    .stretch 0

theorem countStretch_eq (h : Hw) : h.countStretch =
    if h.seq.lagNow.length > 8 ∧ h.multi = true then h.stretchTold.raisePoison evDroopLag else h.stretchTold := by
  have hm : h.stretchTold.multi = h.multi := by
    unfold Hw.stretchTold Hw.sendSym
    split <;> rfl
  unfold Hw.countStretch
  extract_lets lag g g'
  rw [show g' = h.stretchTold from rfl, hm, show lag = h.seq.lagNow from rfl]
  simp only [Bool.and_eq_true, decide_eq_true_eq]

theorem stretchTold_fields {h : Hw} (hr : h.seq.run ≠ .empty) : Sent .stretch 0 h h.stretchTold ∧
    h.stretchTold.seq = { h.seq with
      stretches := h.seq.stretches + 1, noted := h.seq.noted + 1, lagClks := h.seq.lagNow
      stretchLog := (h.devIndex, h.seq.clk) :: h.seq.stretchLog, syms := h.stretchTold.seq.syms } ∧
    h.stretchTold = { h with seq := h.stretchTold.seq, out := h.stretchTold.out, ports := h.stretchTold.ports } := by
  unfold Hw.stretchTold
  generalize hq : (h.updSeq fun s => { s with
    stretches := s.stretches + 1, noted := s.noted + 1, lagClks := h.seq.lagNow, stretchLog := (h.devIndex, s.clk) :: s.stretchLog }) = m
  have hseq : m.seq = { h.seq with
      stretches := h.seq.stretches + 1, noted := h.seq.noted + 1, lagClks := h.seq.lagNow
      stretchLog := (h.devIndex, h.seq.clk) :: h.seq.stretchLog } := by rw [← hq]; rfl
  have he : m = { h with seq := m.seq } := by rw [← hq]; rfl
  clear hq
  have hrm : m.seq.run ≠ .empty := by rw [hseq]; exact hr
  obtain ⟨hs, -, -, -⟩ := sendSym_sends .stretch 0 hrm
  refine ⟨(sent_sendSym .stretch 0 hrm).of_same (by rw [hseq]) (by rw [hseq]) (by rw [hseq]) (by rw [he]), ?_, ?_⟩
  · rw [hs, hseq]
  · obtain ⟨q, rfl⟩ : ∃ q, m = { h with seq := q } := ⟨m.seq, he⟩
    exact sendSym_all _ _ _

theorem stretchSet_fields {h : Hw} (hp : h.pstate = 0) (d0 d1 : Bool) :
    (h.stretchSet d0 d1).seq = { h.seq with stretchedNow := true, stretchDue := h.seq.stretchDue + 1 } ∧
    (h.stretchSet d0 d1).fault.path = h.fault.path ++
      (if d0 then [⟨evDroopStretch 0, 0, h.seq.frame, false, h.seq.ticks⟩] else []) ++
      (if d1 then [⟨evDroopStretch 1, 0, h.seq.frame, false, h.seq.ticks⟩] else []) ∧
    h.stretchSet d0 d1 = { h with
      seq := (h.stretchSet d0 d1).seq, fault := { h.fault with path := (h.stretchSet d0 d1).fault.path } } := by
  obtain ⟨hpath, he⟩ := drooped_fields hp d0 d1
  unfold Hw.stretchSet
  generalize h.drooped d0 d1 = g at hpath he ⊢
  refine ⟨by rw [he]; rfl, hpath, ?_⟩
  show { g with seq := _ } = _
  rw [he]
  rfl

/-! ## The clauses (R127 to R141) -/

theorem pstate_of_arrayClock {h : Hw} (ha : h.arrayClock = true) : h.pstate = 0 := by
  simp only [Hw.arrayClock, Bool.and_eq_true, beq_iff_eq] at ha
  exact ha.1.1

theorem fget_count (h : Hw) (a : Nat) : (h.count a).fget a 31 0 = min (2 ^ 32 - 1) (h.fget a 31 0 + 1) := by
  refine (fget_fset_same h a 31 0 _ (by omega)).trans (Nat.mod_eq_of_lt ?_)
  unfold satAdd
  omega

/-- Settles O47: the symbols that this module sends, and what they leave of the sequencer. -/
theorem waitsAndStretch : Obligations.WaitsAndStretch := by
  unfold Obligations.WaitsAndStretch
  intro s
  refine ⟨fun hh hg hr hf hm => ⟨fun hle => ?_, fun hlt => ?_⟩, fun d sg hd hx hc hs hk hp hdone => ⟨fun hready => ?_, fun hready => ?_⟩,
    fun r d w hr hl ho hns => ⟨fun hf hready => ?_, fun hready => ?_, fun hlim => ?_, fun hlim => ?_⟩, fun d0 d1 hd hr ha hf hn =>
    ⟨fun hm hlag => ?_, fun hle => ?_⟩⟩
  · refine does_of rfl ?_
    rw [frameGoSend_effect hh hg hr hf hm, if_pos hle]
    have hrun : (s.hw.updSeq fun q => { q with goSent := true }).seq.run ≠ .empty := by
      show s.hw.seq.run ≠ .empty
      rw [hr]
      decide
    generalize hm : (s.hw.updSeq fun q => { q with goSent := true }) = m at hrun ⊢
    have hseq : m.seq = { s.hw.seq with goSent := true } := by rw [← hm]; rfl
    have he : m = { s.hw with seq := m.seq } := by rw [← hm]; rfl
    obtain ⟨hs, -, -, -⟩ := sendSym_sends .frameGo ((s.hw.seq.frame.toNat + 1) % 1024) hrun
    refine ⟨(sent_sendSym .frameGo _ hrun).of_same (by rw [hseq]) (by rw [hseq]) (by rw [hseq]) (by rw [he]), ?_, ?_⟩
    · rw [hs, hseq]
    · obtain ⟨q, rfl⟩ : ∃ q, m = { s.hw with seq := q } := ⟨m.seq, he⟩
      exact sendSym_all _ _ _
  · exact exec_unchanged rfl ((frameGoSend_effect hh hg hr hf hm).trans (if_neg (by omega)))
  · refine does_of (decide_eq_true hd) ?_
    rw [waitTest_effect hd hx hs hk hp hdone, waitTests_unchecked (h := s.hw.waitTested d) hc, waitTested_ready, waitTested_queues,
      if_pos hready]
    rfl
  · refine does_of (decide_eq_true hd) ?_
    rw [waitTest_effect hd hx hs hk hp hdone, waitTests_unchecked (h := s.hw.waitTested d) hc, waitTested_ready, waitTested_queues,
      if_neg (by rw [hready]; exact Bool.false_ne_true)]
    obtain ⟨hnoted, hcount⟩ := waitNoted_fields (s.hw.waitTested d) d (s.hw.waitQueues d sg.wset)
    generalize (s.hw.waitTested d).waitNoted d (s.hw.waitQueues d sg.wset) = m at hnoted hcount ⊢
    have hseq : m.seq = (s.hw.waitTested d).seq := by rw [hnoted]
    have hrun : m.seq.run ≠ .empty := by rw [hseq]; exact run_of_execClock hx
    obtain ⟨hsent, hasked, hregs⟩ := waitAsks_fields d sg.wset hrun
    generalize m.waitAsks d sg.wset = g at hsent hasked hregs ⊢
    have hmarks : m.done = s.hw.done := by rw [hnoted]; rfl
    have hsame : m = { s.hw with seq := m.seq, regs := m.regs, fault := m.fault, done := m.done } :=
      Eq.trans hnoted (by rw [hseq, hmarks]; rfl)
    have hsent' := hsent.of_same (h := s.hw) (by rw [hseq]; rfl) (by rw [hseq]; rfl) (by rw [hseq]; rfl) hsame
    refine ⟨?_, ?_, ?_⟩
    · rw [hseq] at hsent'
      exact hsent'
    · show g.seq = _
      rw [hasked, hseq, show m.devIndex = s.hw.devIndex by rw [hsame]]
      rfl
    · show fld (g.reg (seqA d 0x48)) 31 0 = _
      rw [hregs, hcount]
      exact fget_count (s.hw.waitTested d) _
  · refine does_of rfl ?_
    rw [stallRelease_effect hl ho hns, if_pos hf, if_pos hready]
    obtain ⟨h1, h2, h3⟩ := released_fields r hr
    exact ⟨⟨h1, by rw [h2]⟩, by rw [h2], h3⟩
  · refine exec_unchanged rfl ((stallRelease_effect hl ho hns).trans ?_)
    rw [hready]
    split <;> rfl
  · refine does_of rfl ?_
    rw [waitLimitReached_effect hl ho hns, if_pos hlim]
    obtain ⟨⟨h1, -, -⟩, h2, h3⟩ := released_fields r hr
    generalize (s.hw.updSeq fun q => { q with stallReqs := [{ r with sent := true }] }).sendSym .release r.num = m at h1 h2 h3 ⊢
    have hp : m.pstate = s.hw.pstate := by rw [h3]; rfl
    have hsig := signals_raisePoison m (evWaitTimeout d) 0
    refine ⟨?_, ?_, onPath_raisePoison _ _ hp⟩
    · rw [hsig.rest, h2]
    · refine (alarmed_raisePoison m (evWaitTimeout d) 0).syms _ ?_
      rw [h1]
      exact List.mem_append_right _ (List.mem_singleton.2 rfl)
  · exact exec_unchanged rfl ((waitLimitReached_effect hl ho hns).trans (if_neg (by omega)))
  · refine does_of rfl ?_
    obtain ⟨hseq, hpath, he⟩ := stretchSet_fields (pstate_of_arrayClock ha) d0 d1
    rw [droopDetect_effect hd ha hf hn]
    generalize s.hw.stretchSet d0 d1 = m at hseq hpath he ⊢
    have hlag' : m.seq.lagNow = s.hw.seq.lagNow := by rw [hseq]; rfl
    have hp : m.pstate = s.hw.pstate := by rw [he]; rfl
    have hmulti : m.multi = true := by rw [he]; exact hm
    have hrun : m.seq.run ≠ .empty := by rw [hseq]; exact hr
    obtain ⟨-, htold, hrest⟩ := stretchTold_fields hrun
    rw [countStretch_eq, hlag', if_pos ⟨hlag, hmulti⟩]
    generalize m.stretchTold = k at htold hrest ⊢
    have hpk : k.pstate = s.hw.pstate := by rw [hrest]; exact hp
    have hsig := signals_raisePoison k evDroopLag 0
    refine ⟨onPath_raisePoison _ _ hpk, ?_, ?_⟩
    · rw [hsig.rest, htold, hseq]
    · rw [hsig.rest, htold, hlag']
      rfl
  · refine does_of rfl ?_
    obtain ⟨hseq, hpath, he⟩ := stretchSet_fields (pstate_of_arrayClock ha) d0 d1
    rw [droopDetect_effect hd ha hf hn]
    generalize s.hw.stretchSet d0 d1 = m at hseq hpath he ⊢
    have hlag' : m.seq.lagNow = s.hw.seq.lagNow := by rw [hseq]; rfl
    have hno : ¬ (s.hw.seq.lagNow.length > 8 ∧ m.multi = true) := by
      rintro ⟨hlong, hmulti⟩
      rcases hle with h1 | h1
      · rw [he] at hmulti
        exact absurd (hmulti.symm.trans h1) (by decide)
      · exact absurd hlong (Nat.not_lt.2 h1)
    have hrun : m.seq.run ≠ .empty := by rw [hseq]; exact hr
    obtain ⟨hsent, htold, hrest⟩ := stretchTold_fields hrun
    rw [countStretch_eq, hlag', if_neg hno]
    generalize m.stretchTold = k at hsent htold hrest ⊢
    have hfault : k.fault = m.fault := by rw [hrest]
    refine ⟨hsent.of_same (by rw [hseq]) (by rw [hseq]) (by rw [hseq]) ?_, ?_, ?_, ?_⟩
    · rw [he]
    · rw [htold, hlag', hseq, show m.devIndex = s.hw.devIndex by rw [he]]
      rfl
    · rw [hfault, hpath]
    · rw [hfault, hrest, he]

end Sys2Proof.Machine
end

section
-- As the tests above: declarations in order, so that checking the one text stays within its memory.
set_option Elab.async false
/-!
PROOFS. The spare lane of a port, and the sleep of its directions (O52).
-/

namespace Sys2Proof.Machine

/-! ## What touches one port alone -/

/-- Every other port is as it was. -/
def OtherPorts (p : Nat) (h g : Hw) : Prop := ∀ q, q ≠ p → g.port q = h.port q

theorem OtherPorts.refl (p : Nat) (h : Hw) : OtherPorts p h h := fun _ _ => rfl

theorem OtherPorts.trans {p : Nat} {h g k : Hw} (a : OtherPorts p h g) (b : OtherPorts p g k) : OtherPorts p h k :=
  fun q hq => (b q hq).trans (a q hq)

theorem OtherPorts.of_same {p : Nat} {h g : Hw} (e : g.ports = h.ports) : OtherPorts p h g := fun q _ => by
  unfold Hw.port
  rw [e]

theorem port_raise (h : Hw) (id q : Nat) : (h.raise id).port q = h.port q := rfl

theorem otherPorts_raise (h : Hw) (p id : Nat) : OtherPorts p h (h.raise id) := .of_same rfl

theorem otherPorts_emit (h : Hw) (p : Nat) (o : Out) : OtherPorts p h (h.emit o) := .of_same rfl

theorem otherPorts_setReg (h : Hw) (p a : Nat) (v : Word32) : OtherPorts p h (h.setReg a v) := .of_same rfl

theorem otherPorts_updPort (h : Hw) (p : Nat) (f : EavePort → EavePort) : OtherPorts p h (h.updPort p f) := fun q hq => by
  rw [Hw.updPort, port_setPort, if_neg hq]

theorem OtherPorts.foldl {α : Type} {p : Nat} {f : Hw → α → Hw} (step : ∀ g x, OtherPorts p g (f g x)) (xs : List α) (h : Hw) :
    OtherPorts p h (xs.foldl f h) :=
  List.foldlRecOn (motive := OtherPorts p h) _ _ (.refl p h) fun g hg x _ => hg.trans (step g x)

theorem reg_updPort (h : Hw) (p : Nat) (f : EavePort → EavePort) (a : Nat) : (h.updPort p f).reg a = h.reg a := by
  unfold Hw.reg Hw.updPort Hw.setPort
  rfl

/-! ## COEFF_BLOCK leaves the other ports -/

theorem otherPorts_noteHeader (h : Hw) (p l : Nat) (ok : Bool) : OtherPorts p h (h.noteHeader p l ok) := by
  unfold Hw.noteHeader
  extract_lets x x' g
  have hg : OtherPorts p h g := otherPorts_updPort h p _
  clear_value g
  split
  · exact hg.trans (.of_same rfl)
  · split
    · exact hg.trans (.of_same rfl)
    · exact hg

theorem otherPorts_sendCoeff (h : Hw) (p l : Nat) : OtherPorts p h (h.sendCoeff p l) :=
  (otherPorts_updPort h p _).trans (otherPorts_emit _ p _)

/-- The taps of lane l and the statuses of its requests. -/
def Hw.tapsSet (h : Hw) (p l a b sa sb : Nat) : Hw :=
  (h.setTaps p l a b).updPort p fun pt => pt.setLane l { pt.lane l with statPre := sa, statPost := sb }

theorem otherPorts_tapsSet (h : Hw) (p l a b sa sb : Nat) : OtherPorts p h (h.tapsSet p l a b sa sb) :=
  (otherPorts_setReg h p _ _).trans (otherPorts_updPort _ p _)

theorem coeffRequest_cases (h : Hw) (p l : Nat) (w : Word64) :
    h.coeffRequest p l w = h ∨ ∃ a b sa sb, h.coeffRequest p l w = h.tapsSet p l a b sa sb := by
  unfold Hw.coeffRequest
  extract_lets t pre post x set preset rp rq
  split
  · split
    · exact .inr ⟨_, _, 1, 1, rfl⟩
    · exact .inl rfl
  · exact .inr ⟨_, _, _, _, rfl⟩

theorem otherPorts_coeffRequest (h : Hw) (p l : Nat) (w : Word64) : OtherPorts p h (h.coeffRequest p l w) := by
  rcases coeffRequest_cases h p l w with e | ⟨a, b, sa, sb, e⟩
  · rw [e]; exact .refl p h
  · rw [e]; exact otherPorts_tapsSet h p l a b sa sb

theorem otherPorts_mapRoles (h : Hw) (p : Nat) : OtherPorts p h (h.mapRoles p) := by
  unfold Hw.mapRoles
  extract_lets ready m g used k
  have hg : OtherPorts p h g := .foldl (fun g r => by
    dsimp only
    split
    · exact .of_same rfl
    · exact .of_same rfl) _ h
  clear_value g
  exact (hg.trans (.of_same rfl)).trans (otherPorts_updPort k p _)

theorem otherPorts_enterAlign (h : Hw) (p : Nat) : OtherPorts p h (h.enterAlign p) :=
  (otherPorts_mapRoles h p).trans (otherPorts_updPort _ p _)

theorem otherPorts_coeffBlock (h : Hw) (p l : Nat) (blk : BitVec 66) (accept : Bool) (want : BitVec 7) :
    OtherPorts p h (execCoeffBlock h p l blk accept want) := by
  unfold execCoeffBlock
  split
  · exact .refl p h
  · extract_lets pt spareLane
    split
    · exact .refl p h
    · split
      next hd w x hr =>
      extract_lets g lock g1 g2 g3 pt'
      have h0 : OtherPorts p h g := (otherPorts_updPort h p _).trans (otherPorts_noteHeader _ p l _)
      have h1 : OtherPorts p h g1 := h0.trans (otherPorts_updPort g p _)
      have h3 : OtherPorts p h g3 := ((h1.trans (otherPorts_updPort g1 p _)).trans (otherPorts_coeffRequest g2 p l w)).trans
        (otherPorts_sendCoeff _ p l)
      split
      · exact h1
      · split
        · split
          · exact h3.trans (otherPorts_enterAlign g3 p)
          · exact h3
        · exact h3.trans (otherPorts_updPort g3 p _)

/-! ## The spare lane (R247 to R249) -/

/-- The spare of a port has been compared. -/
def Hw.sparePassed (h : Hw) (p : Nat) (sp : Spare) : Hw := h.updPort p fun pt => { pt with spare := some { sp with passed := true } }

/-- The receive map of a port once lane 18 has taken the role. -/
def Hw.spareMapped (h : Hw) (p : Nat) (sp : Spare) : Hw := ((h.setRole p sp.role 18 false).noteErased p).eset p 4 21 21 1

/-- Lane 18 takes the role, before the event. -/
def Hw.spareIn (h : Hw) (p : Nat) (sp : Spare) : Hw :=
  (h.spareMapped p sp).updPort p fun pt => { pt with spare := none, txCtl := pt.txCtl ++ [⟨5, 2 + sp.role * 2 ^ 4, 0⟩] }

theorem spareMapped_role (h : Hw) (p : Nat) (sp : Spare) : (h.spareMapped p sp).reg (eaveA p (0x40 + 4 * sp.role)) = 18 := by
  unfold Hw.spareMapped Hw.noteErased
  rw [reg_eset_ne _ _ _ _ (by omega), reg_eset_ne _ _ _ _ (by omega)]
  exact reg_setReg_same h _ _

theorem spareMapped_used (h : Hw) (p : Nat) (sp : Spare) : (h.spareMapped p sp).bget (eaveA p 4) 21 = true := by
  unfold Hw.spareMapped
  rw [Hw.eset, bget_fset _ _ _ _ _ _ _ (by omega), if_pos ⟨rfl, by omega, by omega⟩]
  rfl

theorem spareMapped_port (h : Hw) (p : Nat) (sp : Spare) (q : Nat) : (h.spareMapped p sp).port q = h.port q :=
  (port_setReg _ _ _ q).trans ((port_setReg _ _ _ q).trans (port_setReg h _ _ q))

theorem spareMapped_work (h : Hw) {p : Nat} {sp : Spare} (hr : sp.role < 18) : PortWork p h (h.spareMapped p sp) :=
  ((portWork_setRole h p hr 18 false).trans (portWork_eset _ (by omega) 20 19 _)).trans (portWork_eset _ (by omega) 21 21 1)

theorem swapSpare_eq {h : Hw} {p : Nat} {sp : Spare} (hs : (h.port p).spare = some sp) (hp : sp.passed = true) :
    h.swapSpare p = (h.spareIn p sp).raise (evLaneSpared p) := by
  unfold Hw.swapSpare
  rw [hs]
  dsimp only
  rw [hp]
  rfl

theorem spareIn_fields (h : Hw) (p : Nat) {sp : Spare} (hr : sp.role < 18) :
    (h.spareIn p sp).reg (eaveA p (0x40 + 4 * sp.role)) = 18 ∧ (h.spareIn p sp).bget (eaveA p 4) 21 = true ∧
      (h.spareIn p sp).port p = { h.port p with spare := none, txCtl := (h.port p).txCtl ++ [⟨5, 2 + sp.role * 2 ^ 4, 0⟩] } ∧
      OtherPorts p h (h.spareIn p sp) ∧ PortWork p h (h.spareIn p sp) := by
  have hw := spareMapped_work h (p := p) hr
  have hrole := spareMapped_role h p sp
  have hbit := spareMapped_used h p sp
  have hport := spareMapped_port h p sp
  unfold Hw.spareIn
  generalize h.spareMapped p sp = g at hw hrole hbit hport ⊢
  refine ⟨(reg_updPort ..).trans hrole, (congrArg (bit · 21) (reg_updPort ..)).trans hbit, ?_,
    OtherPorts.trans (fun q _ => hport q) (otherPorts_updPort g p _), hw.trans (portWork_setPort g p _)⟩
  rw [port_updPort_same, hport]

section
variable {h : Hw} {p : Nat} {sp : Spare} (hs : (h.port p).spare = some sp)
include hs

theorem spareComparePass_effect (hr : sp.ready = true) (hm : 1024 ≤ sp.matched) : effect (.spareComparePass p) h =
    if h.carries p && h.busy then h.sparePassed p sp else ((h.sparePassed p sp).spareIn p { sp with passed := true }).raise (evLaneSpared p) := by
  have hswap := swapSpare_eq (h := h.sparePassed p sp) (p := p) (sp := { sp with passed := true }) (by
    unfold Hw.sparePassed
    rw [port_updPort_same]) rfl
  show execSpareComparePass h p = _
  unfold execSpareComparePass
  rw [hs]
  dsimp only
  refine (if_pos (by rw [hr, decide_eq_true hm]; rfl)).trans ?_
  rw [← hswap]
  rfl

theorem spareTimeout_effect (hp : sp.passed = false) : effect (.spareTimeout p) h =
    (h.updPort p fun pt => { pt with spare := none, spareDead := true }).raise (evSpareFailed p) := by
  show execSpareTimeout h p = _
  unfold execSpareTimeout
  rw [hs]
  dsimp only
  rw [hp]
  rfl

end

theorem otherPorts_spareComparePass (h : Hw) (p : Nat) : OtherPorts p h (execSpareComparePass h p) := by
  unfold execSpareComparePass
  split
  · next sp hs =>
    split
    · have hset : OtherPorts p h (h.sparePassed p sp) := otherPorts_updPort h p _
      have hswap := swapSpare_eq (h := h.sparePassed p sp) (p := p) (sp := { sp with passed := true }) (by
        unfold Hw.sparePassed
        rw [port_updPort_same]) rfl
      have hin : OtherPorts p (h.sparePassed p sp) ((h.sparePassed p sp).spareIn p { sp with passed := true }) :=
        OtherPorts.trans (fun q _ => spareMapped_port _ p _ q) (otherPorts_updPort _ p _)
      show OtherPorts p h (if _ then h.sparePassed p sp else (h.sparePassed p sp).swapSpare p)
      split
      · exact hset
      · rw [hswap]
        exact (hset.trans hin).trans (otherPorts_raise _ p _)
    · exact .refl p h
  · exact .refl p h

theorem otherPorts_spareTimeout (h : Hw) (p : Nat) : OtherPorts p h (execSpareTimeout h p) := by
  unfold execSpareTimeout
  split
  · split
    · exact .refl p h
    · exact (otherPorts_updPort h p _).trans (otherPorts_raise _ p _)
  · exact .refl p h

/-! ## Sleep and wake (R252, R253) -/

/-- A departure leaves the sleep request of the port. -/
theorem enterDetect_sleepCtrl (h : Hw) (p : Nat) : (h.enterDetect p).reg (eaveA p 0x108) = h.reg (eaveA p 0x108) := by
  have hroles : ∀ g : Hw, (g.ownRoles p).reg (eaveA p 0x108) = g.reg (eaveA p 0x108) := fun g =>
    (reg_foldl_setReg g (fun r => eaveA p (0x40 + 4 * r)) (fun r => BitVec.ofNat 32 (r + 0)) 18
      (fun i j e => by unfold eaveA at e; omega)).2 _ fun i _ => by unfold eaveA; omega
  have hlink : ∀ g : Hw, (g.unlinked p).reg (eaveA p 0x108) = g.reg (eaveA p 0x108) := fun g => by
    rw [Hw.unlinked, reg_setReg, if_neg (by unfold eaveA; omega), reg_eset_ne _ _ _ _ (by omega), reg_eset_ne _ _ _ _ (by omega),
      reg_setReg, if_neg (by unfold eaveA; omega), reg_eset_ne _ _ _ _ (by omega)]
  have hleft : (h.forgetLink p .detect).reg (eaveA p 0x108) = h.reg (eaveA p 0x108) := by
    rw [forgetLink_eq]
    have hrelocked := (reg_relock (((h.setPort p ((h.port p).departed .detect)).ownRoles p).unlinked p) p
      (a := eaveA p 0x108) (by unfold eaveA; omega)).trans ((hlink _).trans (hroles _))
    dsimp only
    split
    · exact ((told_reportPort _ p).reg _).trans hrelocked
    · exact hrelocked
  exact ((startTaps_reg (h.forgetLink p .detect) p none).2 _ (by omega)).trans hleft

/-- The coefficients that a direction leaves L-OFF with. -/
def Hw.keptTaps (h : Hw) (p : Nat) : List (Nat × Nat) := (h.port p).savedTaps.getD (h.tapsOf p)

theorem offWake_fields (h : Hw) (p : Nat) : PortWork p h (h.offWake p) ∧ ((h.offWake p).port p).state = .detect ∧
    ((h.offWake p).port p).savedTaps = some (h.keptTaps p) ∧ (h.offWake p).reg (eaveA p 0x108) = h.reg (eaveA p 0x108) := by
  obtain ⟨d, -⟩ := departs_enterDetect h p
  unfold Hw.offWake
  extract_lets kept
  rw [port_updPort_same, d.port, reg_updPort]
  exact ⟨d.work.trans (portWork_setPort _ p _), rfl, rfl, enterDetect_sleepCtrl h p⟩

theorem laneWakePort_work (h : Hw) (p : Nat) : PortWork p h (h.laneWakePort p) := by
  unfold Hw.laneWakePort
  extract_lets pt
  split
  · exact portWork_setPort h p _
  · split
    · exact (offWake_fields h p).1
    · exact .refl p h

/-- LANE_WAKE of a module in RUN or IDLE. -/
theorem laneWake_effect {h : Hw} {p : Nat} (hp : p < 12) (n : Nat) (hs : h.pstate < 2) : effect (.laneWake p n) h = h.laneWakePort p := by
  show execLaneWake h p n = _
  unfold execLaneWake
  rw [if_neg (by omega), if_neg (by omega)]
  exact if_neg (by simp only [Bool.and_eq_true, decide_eq_true_eq, not_and, (laneWakePort_work h p).pstate]; omega)

theorem applySleep_work (h : Hw) (p : Nat) : PortWork p h (h.applySleep p) := by
  unfold Hw.applySleep
  extract_lets pt r
  split
  · exact .refl p h
  · split
    · exact (offWake_fields h p).1
    · split
      · exact portWork_setPort h p _
      · split
        · exact .refl p h
        · exact portWork_setPort h p _

/-- The sleep request is written. -/
def Hw.sleepAsked (h : Hw) (p : Nat) (v : Word32) : Hw := h.setReg (eaveA p 0x108) (v &&& 3#32)

theorem sleepAsked_port (h : Hw) (p : Nat) (v : Word32) (q : Nat) : (h.sleepAsked p v).port q = h.port q := by
  unfold Hw.port Hw.sleepAsked Hw.setReg
  rfl

theorem sleepAsked_carries (h : Hw) (p : Nat) (v : Word32) : (h.sleepAsked p v).carries p = h.carries p := by
  unfold Hw.carries Hw.sleepAsked Hw.setReg
  rfl

theorem sleepCtrlWrite_effect (h : Hw) {p : Nat} (hp : p < 12) (v : Word32) :
    effect (.sleepCtrlWrite p v) h = (h.sleepAsked p v).applySleep p := by
  show execSleepCtrlWrite h p v = _
  exact if_neg (by omega)

theorem fld_low_mask (v : Word32) : fld (v &&& 3#32) 1 0 = fld v 1 0 := by
  unfold fld
  refine congrArg BitVec.toNat (BitVec.eq_of_getLsbD_eq fun i hi => ?_)
  obtain rfl | rfl : i = 0 ∨ i = 1 := by omega
  · simp
  · simp

theorem sleepAsked_level (h : Hw) (p : Nat) (v : Word32) : (h.sleepAsked p v).eget p 0x108 1 0 = fld v 1 0 := by
  unfold Hw.eget Hw.fget Hw.sleepAsked
  rw [reg_setReg_same]
  exact fld_low_mask v

theorem sleepAsked_taps (h : Hw) (p : Nat) (v : Word32) : (h.sleepAsked p v).keptTaps p = h.keptTaps p := by
  have htaps : (h.sleepAsked p v).tapsOf p = h.tapsOf p := by
    unfold Hw.tapsOf
    refine List.map_congr_left fun l _ => ?_
    unfold Hw.eget Hw.fget Hw.sleepAsked
    rw [reg_setReg, if_neg (by unfold eaveA; omega)]
  unfold Hw.keptTaps
  rw [htaps, sleepAsked_port]

section
variable {h : Hw} {p : Nat} (ha : (h.port p).state = .active) (hc : h.carries p = false)
include ha hc

/-- What a sleep request does on an ACTIVE port that carries no configuration. -/
theorem applySleep_active : h.applySleep p =
    if (h.port p).txSleep = 2 ∧ h.eget p 0x108 1 0 % 3 ≠ 2 then h.offWake p
    else if h.eget p 0x108 1 0 % 3 = 0 then h.updPort p EavePort.wakeTx
    else if (h.port p).txSleep = h.eget p 0x108 1 0 % 3 then h
    else h.updPort p fun pt => { pt.wakeTx with txCtl := pt.wakeTx.txCtl ++ [⟨5, 2 + h.eget p 0x108 1 0 % 3, 0⟩] } := by
  have hgo : ¬ ((decide ((h.port p).state ≠ .active) || h.carries p) = true) := by simp [ha, hc]
  unfold Hw.applySleep
  extract_lets pt r
  rw [if_neg hgo]
  simp only [Bool.and_eq_true, decide_eq_true_eq, bne_iff_ne]
  rfl

end

section
variable {h : Hw} {p : Nat} (hp : p < 12) (v : Word32) (ha : (h.port p).state = .active) (hc : h.carries p = false)
include hp ha hc

/-- SLEEP_CTRL_WRITE of an ACTIVE port that carries no configuration, by the level that the write asks for. -/
theorem sleepCtrlWrite_active : effect (.sleepCtrlWrite p v) h =
    if (h.port p).txSleep = 2 ∧ fld v 1 0 % 3 ≠ 2 then (h.sleepAsked p v).offWake p
    else if fld v 1 0 % 3 = 0 then (h.sleepAsked p v).updPort p EavePort.wakeTx
    else if (h.port p).txSleep = fld v 1 0 % 3 then h.sleepAsked p v
    else (h.sleepAsked p v).updPort p fun pt => { pt.wakeTx with txCtl := pt.wakeTx.txCtl ++ [⟨5, 2 + fld v 1 0 % 3, 0⟩] } := by
  rw [sleepCtrlWrite_effect h hp, applySleep_active (by rw [sleepAsked_port]; exact ha) (by rw [sleepAsked_carries]; exact hc),
    sleepAsked_level, sleepAsked_port]

end

theorem applySleep_idle {h : Hw} {p : Nat} (hn : (h.port p).state ≠ .active ∨ h.carries p = true) : h.applySleep p = h := by
  refine if_pos ?_
  rcases hn with e | e
  · simp [e]
  · simp [e]

theorem sleepAsked_reg (h : Hw) (p : Nat) (v : Word32) : (h.sleepAsked p v).reg (eaveA p 0x108) = v &&& 3 := reg_setReg_same h _ _

theorem spareComparePass_idle {h : Hw} {p : Nat} (hs : (h.port p).spare = none) : effect (.spareComparePass p) h = h := by
  show execSpareComparePass h p = h
  unfold execSpareComparePass
  rw [hs]

theorem spareTimeout_idle {h : Hw} {p : Nat} (hs : (h.port p).spare = none) : effect (.spareTimeout p) h = h := by
  show execSpareTimeout h p = h
  unfold execSpareTimeout
  rw [hs]

theorem raised_updPort (h : Hw) (p : Nat) (f : EavePort → EavePort) (id : Nat) : Raised id 0 h ((h.updPort p f).raise id) :=
  (portWork_setPort h p _).raised id

/-- Settles O52: the five lane commands, each at its own port. -/
theorem eaveLaneControl : Obligations.EaveLaneControl := by
  unfold Obligations.EaveLaneControl
  intro s p hp
  have hw : decide (p < 12) = true := decide_eq_true hp
  refine ⟨fun l head word accept want hl => ?_, ?_, ?_, fun v => ?_, fun n hn hps => ?_, fun sp hs hr => ⟨fun hrdy hm => ⟨fun hb => ?_,
    fun hb => ?_⟩, fun hnp => ?_⟩, fun hs => ⟨exec_unchanged hw (spareComparePass_idle hs), exec_unchanged hw (spareTimeout_idle hs)⟩,
    fun hps n hn => ⟨fun h1 => ?_, fun h2 => ?_, fun h0 => ?_⟩, fun v ha hc => ⟨fun h0 hne => ?_, fun hr h2 => ?_, fun hr hne hner => ?_,
    fun hr he => ?_⟩, fun v hi => ?_⟩
  · exact does_of (by simp [Instr.wellFormed, hp, hl]) (otherPorts_coeffBlock s.hw p l _ accept want)
  · exact does_of hw (otherPorts_spareComparePass s.hw p)
  · exact does_of hw (otherPorts_spareTimeout s.hw p)
  · refine does_of hw ?_
    rw [sleepCtrlWrite_effect _ hp]
    exact ((portWork_setReg s.hw (by omega) _).trans (applySleep_work (s.hw.sleepAsked p v) p)).2.1
  · refine does_of (by simp [Instr.wellFormed, hp, hn]) ?_
    rw [laneWake_effect hp n hps]
    exact (laneWakePort_work s.hw p).2.1
  · refine does_of hw ?_
    rw [spareComparePass_effect hs hrdy hm, hb, if_neg Bool.false_ne_true]
    obtain ⟨hrole, hbit, hport, hother, hwork⟩ := spareIn_fields (s.hw.sparePassed p sp) p (sp := { sp with passed := true }) hr
    have hset : (s.hw.sparePassed p sp).port p = { s.hw.port p with spare := some { sp with passed := true } } := port_updPort_same ..
    refine ⟨(reg_raise ..).trans hrole, (congrArg (bit · 21) (reg_raise ..)).trans hbit,
      ((portWork_setPort s.hw p _).trans hwork).raised _, ?_, ((otherPorts_updPort s.hw p _).trans hother).trans (otherPorts_raise _ p _)⟩
    exact (port_raise ..).trans (hport.trans (by rw [hset]))
  · refine does_of hw ?_
    rw [spareComparePass_effect hs hrdy hm, hb, if_pos rfl]
    exact ⟨port_updPort_same .., otherPorts_updPort s.hw p _, rfl⟩
  · refine does_of hw ?_
    rw [spareTimeout_effect hs hnp]
    exact ⟨(port_raise ..).trans (port_updPort_same ..), (otherPorts_updPort s.hw p _).trans (otherPorts_raise _ p _),
      raised_updPort .., rfl⟩
  · refine does_of (by simp [Instr.wellFormed, hp, hn]) ?_
    rw [laneWake_effect hp n (by omega), Hw.laneWakePort, if_pos h1]
    exact ⟨port_updPort_same .., otherPorts_updPort s.hw p _, rfl⟩
  · refine does_of (by simp [Instr.wellFormed, hp, hn]) ?_
    rw [laneWake_effect hp n (by omega), Hw.laneWakePort, if_neg (by omega), if_pos h2]
    obtain ⟨-, hst, hkept, -⟩ := offWake_fields s.hw p
    exact ⟨hst, hkept⟩
  · refine exec_unchanged (by simp [Instr.wellFormed, hp, hn]) ?_
    rw [laneWake_effect hp n (by omega), Hw.laneWakePort, if_neg (by omega), if_neg (by omega)]
  · refine does_of hw ?_
    rw [sleepCtrlWrite_active hp v ha hc, if_neg (by tauto), if_pos h0]
    exact ⟨port_updPort_same .., (otherPorts_setReg s.hw p _ _).trans (otherPorts_updPort _ p _),
      (reg_updPort ..).trans (sleepAsked_reg s.hw p v)⟩
  · refine does_of hw ?_
    rw [sleepCtrlWrite_active hp v ha hc, if_pos ⟨h2, hr⟩]
    obtain ⟨-, hst, hkept, hreg⟩ := offWake_fields (s.hw.sleepAsked p v) p
    exact ⟨hst, hkept.trans (congrArg some (sleepAsked_taps s.hw p v)), hreg.trans (sleepAsked_reg s.hw p v)⟩
  · refine does_of hw ?_
    rw [sleepCtrlWrite_active hp v ha hc, if_neg (by tauto), if_neg hr, if_neg hner]
    exact ⟨port_updPort_same .., (otherPorts_setReg s.hw p _ _).trans (otherPorts_updPort _ p _),
      (reg_updPort ..).trans (sleepAsked_reg s.hw p v)⟩
  · refine does_of hw ?_
    rw [sleepCtrlWrite_active hp v ha hc, if_neg (by rw [he]; tauto), if_neg hr, if_pos he]
    exact ⟨sleepAsked_port .., sleepAsked_reg s.hw p v⟩
  · refine does_of hw ?_
    rw [sleepCtrlWrite_effect _ hp, applySleep_idle (by rw [sleepAsked_port, sleepAsked_carries]; exact hi)]
    exact ⟨sleepAsked_reg s.hw p v, onlyRegs_setReg s.hw _ _⟩

end Sys2Proof.Machine
end

section
-- As the tests above: declarations in order, so that checking the one text stays within its memory.
set_option Elab.async false
/-!
PROOFS. A lane in TRAIN (O51).
-/

namespace Sys2Proof.Machine

/-! ## One lane of a port -/

theorem lane_setLane_same (pt : EavePort) {l : Nat} (hl : l < pt.lanes.length) (y : Lane) : (pt.setLane l y).lane l = y := by
  simp [EavePort.lane, EavePort.setLane, List.getD, hl]

theorem lane_setLane_ne (pt : EavePort) {k l : Nat} (hk : k ≠ l) (y : Lane) : (pt.setLane l y).lane k = pt.lane k := by
  simp [EavePort.lane, EavePort.setLane, List.getD, List.getElem?_set_ne (Ne.symm hk)]

theorem setLane_setLane (pt : EavePort) (l : Nat) (y z : Lane) : (pt.setLane l y).setLane l z = pt.setLane l z := by
  simp [EavePort.setLane]

theorem setLane_lane (pt : EavePort) {l : Nat} (hl : l < pt.lanes.length) : pt.setLane l (pt.lane l) = pt := by
  show { pt with lanes := pt.lanes.set l (pt.lanes.getD l {}) } = pt
  rw [List.getD_eq_getElem _ _ hl, List.set_getElem_self]

/-- From h to g lane l of port p has become y; the rest of the port and the other ports are as they were. -/
def LaneIs (p l : Nat) (y : Lane) (h g : Hw) : Prop := g.port p = (h.port p).setLane l y ∧ OtherPorts p h g

theorem laneIs_updPort {h : Hw} (p : Nat) {l : Nat} (f : Lane → Lane) :
    LaneIs p l (f ((h.port p).lane l)) h (h.updPort p fun pt => pt.setLane l (f (pt.lane l))) :=
  ⟨port_updPort_same .., otherPorts_updPort h p _⟩

section
variable {p l : Nat} {y z : Lane} {h g k : Hw}

theorem LaneIs.trans (a : LaneIs p l y h g) (b : LaneIs p l z g k) : LaneIs p l z h k :=
  ⟨by rw [b.1, a.1, setLane_setLane], a.2.trans b.2⟩

theorem LaneIs.of_ports (a : LaneIs p l y h g) (e : ∀ q, k.port q = g.port q) : LaneIs p l y h k :=
  ⟨(e p).trans a.1, fun q hq => (e q).trans (a.2 q hq)⟩

section
variable (a : LaneIs p l y h g)
include a

theorem LaneIs.lane (hl : l < (h.port p).lanes.length) : (g.port p).lane l = y := by rw [a.1, lane_setLane_same _ hl]

theorem LaneIs.other {n : Nat} (hn : n ≠ l) : (g.port p).lane n = (h.port p).lane n := by rw [a.1, lane_setLane_ne _ hn]

theorem LaneIs.length : (g.port p).lanes.length = (h.port p).lanes.length := by
  rw [a.1]
  simp [EavePort.setLane]

theorem LaneIs.state : (g.port p).state = (h.port p).state := by
  rw [a.1]
  rfl

/-- A further change of the same lane. -/
theorem LaneIs.upd (hl : l < (h.port p).lanes.length) (f : Lane → Lane) :
    LaneIs p l (f y) h (g.updPort p fun pt => pt.setLane l (f (pt.lane l))) := by
  have hf := laneIs_updPort (h := g) p (l := l) f
  rw [a.lane hl] at hf
  exact a.trans hf

end

end

/-! ## Block lock (R227) -/

/-- The headers that a lane remembers once the next one has come. -/
def Lane.headed (x : Lane) (ok : Bool) : Lane :=
  { x with hdrs := (ok :: x.hdrs).take 64, good := if ok then min 64 (x.good + 1) else 0 }

/-- Whether the lane has block lock then. -/
def Lane.locks (x : Lane) (was : Bool) : Bool :=
  decide ((x.hdrs.filter (!·)).length < 16) && (decide (x.good = 64) || was)

/-- The bit of a lane in LANE_LOCK, and the rest of what its header leaves. -/
theorem noteHeader_fields (h : Hw) (p : Nat) {l : Nat} (hl : l < 19) (ok : Bool) :
    LaneIs p l (((h.port p).lane l).headed ok) h (h.noteHeader p l ok) ∧
    (h.noteHeader p l ok).bget (eaveA p 0xC) l = (((h.port p).lane l).headed ok).locks (h.bget (eaveA p 0xC) l) ∧
    (h.noteHeader p l ok).out = h.out ∧
    ∀ a, a ≠ eaveA p 0xC → (h.noteHeader p l ok).reg a = h.reg a := by
  have hlane := laneIs_updPort (h := h) p (l := l) fun x => x.headed ok
  have hreg := reg_updPort h p fun pt => pt.setLane l ((pt.lane l).headed ok)
  have hout : (h.updPort p fun pt => pt.setLane l ((pt.lane l).headed ok)).out = h.out := rfl
  have he : h.noteHeader p l ok =
      (let g := h.updPort p fun pt => pt.setLane l ((pt.lane l).headed ok)
       let x := ((h.port p).lane l).headed ok
       if 16 ≤ (x.hdrs.filter (!·)).length then g.eset p 0xC l l 0 else if x.good = 64 then g.eset p 0xC l l 1 else g) := rfl
  rw [he]
  generalize h.updPort p (fun pt => pt.setLane l ((pt.lane l).headed ok)) = g at hlane hreg hout
  generalize ((h.port p).lane l).headed ok = x at hlane
  have hset : ∀ v, LaneIs p l x h (g.eset p 0xC l l v) ∧ (g.eset p 0xC l l v).out = h.out ∧
      ∀ a, a ≠ eaveA p 0xC → (g.eset p 0xC l l v).reg a = h.reg a := fun v =>
    ⟨hlane.of_ports fun q => port_setReg g _ _ q, hout, fun a ha => (reg_fset g _ l l v a).trans ((if_neg ha).trans (hreg a))⟩
  have hbit : ∀ v, (g.eset p 0xC l l v).bget (eaveA p 0xC) l = v.testBit 0 := fun v => by
    rw [Hw.eset, bget_fset _ _ _ _ _ _ _ (by omega), if_pos ⟨rfl, by omega, by omega⟩, Nat.sub_self]
  have hkept : g.bget (eaveA p 0xC) l = h.bget (eaveA p 0xC) l := congrArg (bit · l) (hreg _)
  unfold Lane.locks
  dsimp only
  split
  · next hbad =>
    obtain ⟨h1, h2, h3⟩ := hset 0
    exact ⟨h1, by rw [hbit, decide_eq_false (by omega)]; rfl, h2, h3⟩
  · next hbad =>
    rw [decide_eq_true (by omega : (x.hdrs.filter (!·)).length < 16), Bool.true_and]
    split
    · next hgood =>
      obtain ⟨h1, h2, h3⟩ := hset 1
      exact ⟨h1, by rw [hbit, decide_eq_true hgood]; rfl, h2, h3⟩
    · next hgood => exact ⟨hlane, by rw [hkept, decide_eq_false hgood]; rfl, hout, fun a _ => hreg a⟩

/-! ## COEFF_BLOCK up to the block's own content -/

/-- The block's header and payload are taken in, and the lane's readiness is noted. -/
def Hw.blockIn (h : Hw) (p l : Nat) (ok accept : Bool) (x : Lane) : Hw :=
  let g := (h.updPort p fun pt => pt.setLane l x).noteHeader p l ok
  g.updPort p fun pt => pt.setLane l { pt.lane l with ready := g.bget (eaveA p 0xC) l && accept }

/-- What a lane in TRAIN is after a block's header. -/
def Lane.heard (x : Lane) (ok accept was : Bool) : Lane := { x.headed ok with ready := (x.headed ok).locks was && accept }

theorem blockIn_fields (h : Hw) (p : Nat) {l : Nat} (hl : l < 19) (h19 : (h.port p).lanes.length = 19) (ok accept : Bool) (x : Lane) :
    LaneIs p l (x.heard ok accept (h.bget (eaveA p 0xC) l)) h (h.blockIn p l ok accept x) ∧
    (h.blockIn p l ok accept x).bget (eaveA p 0xC) l = (x.headed ok).locks (h.bget (eaveA p 0xC) l) ∧
    (h.blockIn p l ok accept x).out = h.out ∧
    ∀ a, a ≠ eaveA p 0xC → (h.blockIn p l ok accept x).reg a = h.reg a := by
  have hx : LaneIs p l x h (h.updPort p fun pt => pt.setLane l x) := laneIs_updPort (h := h) p fun _ => x
  have hreg := reg_updPort h p fun pt => pt.setLane l x
  have hout : (h.updPort p fun pt => pt.setLane l x).out = h.out := rfl
  unfold Hw.blockIn
  generalize h.updPort p (fun pt => pt.setLane l x) = k at hx hreg hout
  obtain ⟨n1, n2, n3, n4⟩ := noteHeader_fields k p hl ok
  rw [hx.lane (by omega)] at n1 n2
  rw [show k.bget (eaveA p 0xC) l = h.bget (eaveA p 0xC) l from congrArg (bit · l) (hreg _)] at n2
  generalize k.noteHeader p l ok = g at n1 n2 n3 n4
  have hlast := (hx.trans n1).upd (by omega) fun y => { y with ready := g.bget (eaveA p 0xC) l && accept }
  have hr := reg_updPort g p fun pt => pt.setLane l { pt.lane l with ready := g.bget (eaveA p 0xC) l && accept }
  dsimp only
  refine ⟨?_, (congrArg (bit · l) (hr _)).trans n2, n3.trans hout, fun a ha => (hr a).trans ((n4 a ha).trans (hreg a))⟩
  rw [n2] at hlast ⊢
  exact hlast

/-- The partner's half of a COEFF block is taken over. -/
def Lane.told (y : Lane) (w : Word64) (want : BitVec 7) : Lane :=
  { y with partnerReady := bit w 23, req := y.nextReq w want, seenPre := fld w 25 24, seenPost := fld w 27 26 }

/-- The answer to a COEFF block, before ALIGN. -/
def Hw.answered (h : Hw) (p l : Nat) (w : Word64) (want : BitVec 7) : Hw :=
  ((h.updPort p fun pt => pt.setLane l ((pt.lane l).told w want)).coeffRequest p l w).sendCoeff p l

/-! ## The requests of a COEFF block (R215, R224) -/

theorem fld_eq (w : Word64) (hi lo : Nat) : fld w hi lo = w.toNat / 2 ^ lo % 2 ^ (hi + 1 - lo) := by
  rw [fld, BitVec.extractLsb'_toNat, Nat.shiftRight_eq_div_pow]

/-- A block without a request sets the taps that stand. -/
theorem coeffRequest_none (h : Hw) (p l : Nat) {w : Word64} (hw : fld w 22 16 = 0) : h.coeffRequest p l w =
    h.tapsSet p l (h.fget (eaveA p (0x200 + 4 * l)) 3 0) (h.fget (eaveA p (0x200 + 4 * l)) 12 8) 0 0 := by
  rw [fld_eq] at hw
  have hset : fld w 22 20 = 0 := by rw [fld_eq]; omega
  have hpre : fld w 17 16 = 0 := by rw [fld_eq]; omega
  have hpost : fld w 19 18 = 0 := by rw [fld_eq]; omega
  unfold Hw.coeffRequest
  rw [hset, hpre, hpost]
  rfl

theorem coeffRequest_preset {h : Hw} {p l n : Nat} {w : Word64} (hn : n < 5) (hw : fld w 22 20 = n + 1)
    (h0 : ((h.port p).lane l).statPre = 0) (h1 : ((h.port p).lane l).statPost = 0) : h.coeffRequest p l w =
    h.tapsSet p l (presetTaps n).1 (presetTaps n).2 1 1 := by
  unfold Hw.coeffRequest
  extract_lets t pre post x set preset rp rq
  have hp : preset = n + 1 := hw
  rw [if_pos (by omega), if_pos ⟨h0, h1⟩, hp]
  rfl

theorem tapsSet_fields (h : Hw) (p l a b sa sb : Nat) :
    LaneIs p l { (h.port p).lane l with statPre := sa, statPost := sb } h (h.tapsSet p l a b sa sb) ∧
    (h.tapsSet p l a b sa sb).out = h.out ∧
    (∀ c, c ≠ eaveA p (0x200 + 4 * l) → (h.tapsSet p l a b sa sb).reg c = h.reg c) ∧
    (a < 16 → b < 32 → (h.tapsSet p l a b sa sb).fget (eaveA p (0x200 + 4 * l)) 3 0 = a ∧
      (h.tapsSet p l a b sa sb).fget (eaveA p (0x200 + 4 * l)) 12 8 = b) := by
  have hlane := laneIs_updPort (h := h.setTaps p l a b) p (l := l) fun y => { y with statPre := sa, statPost := sb }
  have hports : ∀ q, (h.setTaps p l a b).port q = h.port q := fun q => port_setReg h _ _ q
  have hreg : ∀ c, (h.tapsSet p l a b sa sb).reg c = (h.setTaps p l a b).reg c := fun c => reg_updPort _ p _ c
  refine ⟨⟨?_, fun q hq => (hlane.2 q hq).trans (hports q)⟩, rfl, fun c hc => (hreg c).trans ?_, fun ha hb => ?_⟩
  · have h1 := hlane.1
    rw [hports p] at h1
    exact h1
  · exact (reg_setReg ..).trans (if_neg hc)
  · have hword : (h.tapsSet p l a b sa sb).reg (eaveA p (0x200 + 4 * l)) = BitVec.ofNat 32 (a + 2 ^ 8 * b + 2 ^ 16 * (64 - a - b)) :=
      (hreg _).trans (reg_setReg_same h _ _)
    unfold Hw.fget
    rw [hword]
    unfold fld
    rw [BitVec.extractLsb'_toNat, BitVec.extractLsb'_toNat, BitVec.toNat_ofNat, Nat.shiftRight_eq_div_pow, Nat.shiftRight_eq_div_pow]
    constructor <;> omega

/-- The statuses that a block leaves on a lane, and what it makes of the taps. -/
structure Obeys (p l : Nat) (w : Word64) (y : Lane) (h g : Hw) (sa sb : Nat) : Prop where
  lane : LaneIs p l { y with statPre := sa, statPost := sb } h g
  out : g.out = h.out
  reg : ∀ c, c ≠ eaveA p (0x200 + 4 * l) → g.reg c = h.reg c
  quiet : fld w 22 16 = 0 → sa = 0 ∧ sb = 0 ∧ g.fget (eaveA p (0x200 + 4 * l)) 3 0 = h.fget (eaveA p (0x200 + 4 * l)) 3 0 ∧
    g.fget (eaveA p (0x200 + 4 * l)) 12 8 = h.fget (eaveA p (0x200 + 4 * l)) 12 8
  preset : ∀ n, n < 5 → fld w 22 20 = n + 1 → y.statPre = 0 → y.statPost = 0 → sa = 1 ∧ sb = 1 ∧
    (g.fget (eaveA p (0x200 + 4 * l)) 3 0, g.fget (eaveA p (0x200 + 4 * l)) 12 8) = presetTaps n

theorem presetTaps_lt : ∀ n, n < 5 → (presetTaps n).1 < 16 ∧ (presetTaps n).2 < 32 := by decide

theorem obeys_coeffRequest (h : Hw) {p l : Nat} (w : Word64) (hl : l < (h.port p).lanes.length) :
    ∃ sa sb, Obeys p l w ((h.port p).lane l) h (h.coeffRequest p l w) sa sb := by
  by_cases hq : fld w 22 16 = 0
  · obtain ⟨t1, t2, t3, t4⟩ := tapsSet_fields h p l (h.fget (eaveA p (0x200 + 4 * l)) 3 0) (h.fget (eaveA p (0x200 + 4 * l)) 12 8) 0 0
    obtain ⟨t5, t6⟩ := t4 (fld_lt ..) (fld_lt ..)
    rw [coeffRequest_none h p l hq]
    refine ⟨0, 0, t1, t2, t3, fun _ => ⟨rfl, rfl, t5, t6⟩, fun n hn hw => ?_⟩
    rw [fld_eq] at hq hw
    omega
  · by_cases hset : ∃ n, n < 5 ∧ fld w 22 20 = n + 1 ∧ ((h.port p).lane l).statPre = 0 ∧ ((h.port p).lane l).statPost = 0
    · obtain ⟨n, hn, hw, h0, h1⟩ := hset
      obtain ⟨t1, t2, t3, t4⟩ := tapsSet_fields h p l (presetTaps n).1 (presetTaps n).2 1 1
      obtain ⟨t5, t6⟩ := t4 (presetTaps_lt n hn).1 (presetTaps_lt n hn).2
      rw [coeffRequest_preset hn hw h0 h1]
      refine ⟨1, 1, t1, t2, t3, fun hz => absurd hz hq, fun m _ hm _ _ => ⟨rfl, rfl, ?_⟩⟩
      obtain rfl : m = n := by omega
      rw [t5, t6]
    · have hno : ∀ n, n < 5 → fld w 22 20 = n + 1 → ((h.port p).lane l).statPre = 0 → ((h.port p).lane l).statPost = 0 → False :=
        fun n hn hw h0 h1 => hset ⟨n, hn, hw, h0, h1⟩
      rcases coeffRequest_cases h p l w with e | ⟨a, b, sa, sb, e⟩
      · rw [e]
        refine ⟨((h.port p).lane l).statPre, ((h.port p).lane l).statPost, ⟨(setLane_lane _ hl).symm, .refl p h⟩, rfl,
          fun _ _ => rfl, fun hz => absurd hz hq, fun n hn hw h0 h1 => (hno n hn hw h0 h1).elim⟩
      · rw [e]
        obtain ⟨t1, t2, t3, -⟩ := tapsSet_fields h p l a b sa sb
        exact ⟨sa, sb, t1, t2, t3, fun hz => absurd hz hq, fun n hn hw h0 h1 => (hno n hn hw h0 h1).elim⟩

/-- The lane after its answer: its requests are obeyed and its partner's half is taken over. -/
def Lane.replied (y : Lane) (w : Word64) (want : BitVec 7) (sa sb : Nat) (scr : BitVec 59) : Lane :=
  { y.told w want with statPre := sa, statPost := sb, scr := scr }

theorem answered_fields (h : Hw) {p l : Nat} (w : Word64) (want : BitVec 7) (hl : l < (h.port p).lanes.length) :
    ∃ sa sb scr b, LaneIs p l (((h.port p).lane l).replied w want sa sb scr) h (h.answered p l w want) ∧
      (h.answered p l w want).out = h.out ++ [.laneBlock p l b] ∧
      (∀ c, c ≠ eaveA p (0x200 + 4 * l) → (h.answered p l w want).reg c = h.reg c) ∧
      (fld w 22 16 = 0 → sa = 0 ∧ sb = 0 ∧
        (h.answered p l w want).fget (eaveA p (0x200 + 4 * l)) 3 0 = h.fget (eaveA p (0x200 + 4 * l)) 3 0 ∧
        (h.answered p l w want).fget (eaveA p (0x200 + 4 * l)) 12 8 = h.fget (eaveA p (0x200 + 4 * l)) 12 8) ∧
      ∀ n, n < 5 → fld w 22 20 = n + 1 → ((h.port p).lane l).statPre = 0 → ((h.port p).lane l).statPost = 0 → sa = 1 ∧ sb = 1 ∧
        ((h.answered p l w want).fget (eaveA p (0x200 + 4 * l)) 3 0,
          (h.answered p l w want).fget (eaveA p (0x200 + 4 * l)) 12 8) = presetTaps n := by
  have htold := laneIs_updPort (h := h) p (l := l) fun y => y.told w want
  have hreg := reg_updPort h p fun pt => pt.setLane l ((pt.lane l).told w want)
  have hout : (h.updPort p fun pt => pt.setLane l ((pt.lane l).told w want)).out = h.out := rfl
  unfold Hw.answered
  generalize h.updPort p (fun pt => pt.setLane l ((pt.lane l).told w want)) = g at htold hreg hout ⊢
  obtain ⟨sa, sb, o⟩ := obeys_coeffRequest g w (by rw [htold.length]; exact hl)
  generalize g.coeffRequest p l w = k at o ⊢
  rw [htold.lane hl] at o
  have hobeyed := htold.trans o.lane
  have hk := hobeyed.lane hl
  obtain ⟨b, y, hblock⟩ : ∃ b y, ((k.port p).lane l).block true (k.coeffWord p l) = (b, y) := ⟨_, _, rfl⟩
  have hy : y = { (k.port p).lane l with scr := y.scr } := by
    rw [← (Prod.mk.inj hblock).2]
  have hsend : k.sendCoeff p l = (k.updPort p fun pt => pt.setLane l y).emit (.laneBlock p l b) := by
    unfold Hw.sendCoeff
    rw [hblock]
  have hlast := hobeyed.trans (laneIs_updPort (h := k) p (l := l) fun _ => y)
  have hreg' : ∀ c, (k.sendCoeff p l).reg c = k.reg c := fun c => by
    rw [hsend]
    exact (reg_emit ..).trans (reg_updPort k p _ c)
  have hf : ∀ c hi lo, (k.sendCoeff p l).fget c hi lo = k.fget c hi lo := fun c hi lo => congrArg (fld · hi lo) (hreg' c)
  have hg : ∀ c hi lo, g.fget c hi lo = h.fget c hi lo := fun c hi lo => congrArg (fld · hi lo) (hreg c)
  refine ⟨sa, sb, y.scr, b, ?_, ?_, fun c hc => (hreg' c).trans ((o.reg c hc).trans (hreg c)), fun hz => ?_, fun n hn hw h0 h1 => ?_⟩
  · have hz : y = ((h.port p).lane l).replied w want sa sb y.scr := hy.trans (by rw [hk]; rfl)
    rw [hsend, ← hz]
    exact hlast.of_ports fun q => rfl
  · rw [hsend]
    show k.out ++ _ = _
    rw [o.out, hout]
  · rw [hf, hf, ← hg, ← hg (eaveA p (0x200 + 4 * l)) 12 8]
    exact o.quiet hz
  · rw [hf, hf]
    exact o.preset n hn hw h0 h1

/-! ## ALIGN is entered (R221) -/

/-- LANE_LOCK, the taps and what has been sent out stay. -/
def AlignKeeps (p : Nat) (h g : Hw) : Prop := g.out = h.out ∧ ∀ o, o = 0xC ∨ 0x200 ≤ o → g.reg (eaveA p o) = h.reg (eaveA p o)

theorem AlignKeeps.refl (p : Nat) (h : Hw) : AlignKeeps p h h := ⟨rfl, fun _ _ => rfl⟩

theorem AlignKeeps.trans {p : Nat} {h g k : Hw} (a : AlignKeeps p h g) (b : AlignKeeps p g k) : AlignKeeps p h k :=
  ⟨b.1.trans a.1, fun o ho => (b.2 o ho).trans (a.2 o ho)⟩

theorem alignKeeps_setReg (h : Hw) (p : Nat) {o : Nat} (ho : o ≠ 0xC) (hlt : o < 0x200) (v : Word32) :
    AlignKeeps p h (h.setReg (eaveA p o) v) :=
  ⟨rfl, fun n hn => (reg_setReg ..).trans (if_neg (by unfold eaveA; omega))⟩

theorem alignKeeps_raise (h : Hw) (p id : Nat) : AlignKeeps p h (h.raise id) := ⟨rfl, fun _ _ => reg_raise ..⟩

theorem alignKeeps_updPort (h : Hw) (p : Nat) (f : EavePort → EavePort) : AlignKeeps p h (h.updPort p f) := ⟨rfl, fun _ _ => reg_updPort ..⟩

theorem alignKeeps_mapRoles (h : Hw) (p : Nat) : AlignKeeps p h (h.mapRoles p) := by
  unfold Hw.mapRoles
  extract_lets ready m g used k
  have hg : AlignKeeps p h g := List.foldlRecOn (motive := AlignKeeps p h) _ _ (.refl p h) fun k hk r hr => by
    have hrole : AlignKeeps p k (k.setRole p r (m.getD r (r, false)).1 (m.getD r (r, false)).2) :=
      alignKeeps_setReg k p (by omega) (by have := List.mem_range.1 hr; omega) _
    dsimp only
    split
    · exact ((hk.trans hrole).trans (alignKeeps_raise _ p _)).trans (alignKeeps_setReg _ p (by omega) (by omega) _)
    · exact hk.trans hrole
  clear_value g
  exact ((hg.trans (alignKeeps_setReg g p (by omega) (by omega) _)).trans (alignKeeps_setReg _ p (by omega) (by omega) _)).trans
    (alignKeeps_updPort k p _)

theorem alignKeeps_enterAlign (h : Hw) (p : Nat) : AlignKeeps p h (h.enterAlign p) :=
  (alignKeeps_mapRoles h p).trans (alignKeeps_updPort _ p _)

theorem readyLanes_congr {a b : EavePort} (e : a.lanes = b.lanes) : a.readyLanes = b.readyLanes := by
  unfold EavePort.readyLanes EavePort.lane
  rw [e]

theorem partnerLanes_congr {a b : EavePort} (e : a.lanes = b.lanes) : a.partnerLanes = b.partnerLanes := by
  unfold EavePort.partnerLanes EavePort.lane
  rw [e]

/-! ## COEFF_BLOCK in TRAIN -/

/-- An answered block, as the rule of TRAIN goes on (R220). -/
def Hw.trained (h : Hw) (p : Nat) : Hw :=
  if (h.port p).readyLanes.length = 19 ∧ (h.port p).partnerLanes.length = 19 then h.enterAlign p else h

theorem unheeded_iff (lock : Bool) (hd a b l : Nat) : (!lock || hd != 2 || a != 0xC5 || b != l) = true ↔
    ¬ (lock = true ∧ hd = 2 ∧ a = 0xC5 ∧ b = l) := by
  cases lock <;> simp [or_assoc, imp_iff_not_or]

theorem coeffBlock_train {h : Hw} {p l : Nat} {blk : BitVec 66} {hd : Nat} {w : Word64} {x : Lane} (hp : p < 12) (hl : l < 19)
    (hps : h.pstate = 0) (hst : (h.port p).state = .train) (h19 : (h.port p).lanes.length = 19)
    (hrx : ((h.port p).lane l).receive blk = (hd, w, x)) (accept : Bool) (want : BitVec 7) :
    execCoeffBlock h p l blk accept want =
      if (h.blockIn p l (hd == 1 || hd == 2) accept x).bget (eaveA p 0xC) l = true ∧ hd = 2 ∧ fld w 7 0 = 0xC5 ∧ fld w 12 8 = l then
        ((h.blockIn p l (hd == 1 || hd == 2) accept x).answered p l w want).trained p
      else h.blockIn p l (hd == 1 || hd == 2) accept x := by
  have hruns : h.portRuns p = true := by simp [Hw.portRuns, hps]
  obtain ⟨hlane, -, -, -⟩ := blockIn_fields h p hl h19 (hd == 1 || hd == 2) accept x
  have hstate := hlane.state.trans hst
  have hlen : l < ((h.blockIn p l (hd == 1 || hd == 2) accept x).port p).lanes.length := by rw [hlane.length]; omega
  obtain ⟨_, _, _, _, ⟨hanswered, -⟩, -⟩ := answered_fields (h.blockIn p l (hd == 1 || hd == 2) accept x) w want hlen
  have hlock : ((h.updPort p fun pt => pt.setLane l x).noteHeader p l (hd == 1 || hd == 2)).bget (eaveA p 0xC) l =
      (h.blockIn p l (hd == 1 || hd == 2) accept x).bget (eaveA p 0xC) l := congrArg (bit · l) (reg_updPort _ p _ _).symm
  have hpt : (((h.blockIn p l (hd == 1 || hd == 2) accept x).answered p l w want).port p).state = .train := by
    rw [hanswered]
    exact hstate
  unfold execCoeffBlock
  rw [if_neg (by omega)]
  extract_lets pt spareLane
  rw [if_neg (by simp [pt, hst, hruns]), hrx]
  dsimp only
  by_cases hgo : (h.blockIn p l (hd == 1 || hd == 2) accept x).bget (eaveA p 0xC) l = true ∧ hd = 2 ∧ fld w 7 0 = 0xC5 ∧ fld w 12 8 = l
  · rw [if_pos hgo]
    refine (if_neg ?_).trans ((if_pos hpt).trans rfl)
    rw [hlock, unheeded_iff]
    exact not_not_intro hgo
  · rw [if_neg hgo]
    refine if_pos ?_
    rw [hlock, unheeded_iff]
    exact hgo

theorem trained_fields {h : Hw} {p : Nat} (hst : (h.port p).state = .train) :
    ((h.trained p).port p).lanes = (h.port p).lanes ∧ AlignKeeps p h (h.trained p) ∧ OtherPorts p h (h.trained p) ∧
    ((h.trained p).port p).state =
      if ((h.trained p).port p).readyLanes.length = 19 ∧ ((h.trained p).port p).partnerLanes.length = 19 then .align else .train := by
  obtain ⟨hstate, hlanes⟩ := enterAlign_port h p
  unfold Hw.trained
  split
  · next hall =>
    rw [readyLanes_congr hlanes, partnerLanes_congr hlanes, if_pos hall]
    exact ⟨hlanes, alignKeeps_enterAlign h p, otherPorts_enterAlign h p, hstate⟩
  · exact ⟨rfl, .refl p h, .refl p h, hst⟩

/-- Settles O51: block lock, then what a locked lane makes of its block. -/
theorem eaveLanes : Obligations.EaveLanes := by
  unfold Obligations.EaveLanes
  intro s p hp pt others l head word accept want hd w x hl hps hst h19 hrx taps ok bad good lock others'
  have hwf : (Instr.coeffBlock p l head word accept want).wellFormed = true := by simp [Instr.wellFormed, hp, hl]
  have hx : x = { pt.lane l with descr := x.descr } := by
    have hrec : x = ((pt.lane l).receive (word ++ head)).2.2 := by rw [hrx]
    rw [hrec]
    rfl
  have htaps : eaveA p (0x200 + 4 * l) ≠ eaveA p 0xC := by unfold eaveA; omega
  have he := coeffBlock_train (blk := word ++ head) hp hl hps hst h19 hrx accept want
  obtain ⟨hlane, hbit, hout, hreg⟩ := blockIn_fields s.hw p hl h19 (hd == 1 || hd == 2) accept x
  have hlock : (x.headed (hd == 1 || hd == 2)).locks (s.hw.bget (eaveA p 0xC) l) = lock := by rw [hx]; rfl
  have hheard : x.heard (hd == 1 || hd == 2) accept (s.hw.bget (eaveA p 0xC) l) =
      { x with hdrs := (ok :: (pt.lane l).hdrs).take 64, good := good, ready := lock && accept } := by
    rw [← hlock, hx]
    rfl
  rw [hlock] at hbit
  rw [hheard] at hlane
  generalize s.hw.blockIn p l (hd == 1 || hd == 2) accept x = g at he hlane hbit hout hreg
  have hothers : others' g := ⟨hlane.2, fun k hk => hlane.other hk⟩
  have hl' : l < pt.lanes.length := by omega
  refine ⟨fun hno => ?_, fun hyes hd2 h5 hlw => ?_, fun hyes hbad => ?_⟩
  · refine does_of hwf (P := fun g => _) ?_
    rw [show effect (.coeffBlock p l head word accept want) s.hw = _ from he, hbit, hno, if_neg (by simp)]
    exact ⟨hbit.trans hno, hothers, (hlane.lane hl').trans (by rw [hno]; rfl), hout, hreg _ htaps⟩
  · refine does_of hwf (P := fun g => _) ?_
    rw [show effect (.coeffBlock p l head word accept want) s.hw = _ from he, hbit, hyes, if_pos ⟨rfl, hd2, h5, hlw⟩]
    obtain ⟨sa, sb, scr, b, alane, aout, areg, aquiet, apreset⟩ := answered_fields g w want (by rw [hlane.length]; exact hl')
    rw [hlane.lane hl'] at alane apreset
    have hall := hlane.trans alane
    generalize g.answered p l w want = k at alane aout areg aquiet apreset hall
    obtain ⟨tlanes, ⟨tout, treg⟩, tothers, tstate⟩ := trained_fields (hall.state.trans hst)
    have hy : ((k.trained p).port p).lane l = _ := (congrArg (fun ls : List Lane => ls.getD l {}) tlanes).trans (hall.lane hl')
    have htr : ∀ hi lo, (k.trained p).fget taps hi lo = k.fget taps hi lo := fun hi lo => congrArg (fld · hi lo) (treg _ (.inr (by omega)))
    have hgr : ∀ hi lo, g.fget taps hi lo = s.hw.fget taps hi lo := fun hi lo => congrArg (fld · hi lo) (hreg _ htaps)
    rw [hx] at hy
    refine ⟨by rw [hy, hyes]; rfl, by rw [hy]; rfl, ?_, by rw [hy]; rfl, by rw [hy]; rfl, by rw [hy]; rfl, ⟨b, ?_⟩, fun hz => ?_,
      fun n hn hw h0 h1 => ?_, tstate, ⟨hall.2.trans tothers, fun m hm => ?_⟩⟩
    · exact (congrArg (bit · l) ((treg 0xC (.inl rfl)).trans (areg _ htaps.symm))).trans (hbit.trans hyes)
    · rw [tout, aout, hout]
    · obtain ⟨q1, q2, q3, q4⟩ := aquiet hz
      rw [htr, htr, q3, q4, hgr, hgr, hy, q1, q2]
      exact ⟨rfl, rfl, rfl, rfl⟩
    · obtain ⟨q1, q2, q3⟩ := apreset n hn hw h0 h1
      rw [htr, htr, q3, hy, q1, q2]
      exact ⟨rfl, rfl, rfl⟩
    · exact (congrArg (fun ls : List Lane => ls.getD m {}) tlanes).trans (hall.other hm)
  · refine does_of hwf (P := fun g => _) ?_
    rw [show effect (.coeffBlock p l head word accept want) s.hw = _ from he, if_neg (by tauto)]
    exact ⟨by rw [hlane.lane hl', hyes]; rfl, hlane.state.trans hst, hbit.trans hyes, hothers, hout, hreg _ htaps⟩

end Sys2Proof.Machine
end

section
-- As the tests above: declarations in order, so that checking the one text stays within its memory.
set_option Elab.async false
/-!
PROOFS. The frame tick (R28, R122, R136 to R150, Table 5.12): what its parts pass on to the next frame, the path that a frame plan
resolves to, and the boundary, the halt and the first tick after them (O46).
-/

namespace Sys2Proof.Machine

/-! ## What the parts of a tick pass on -/

/-- The fields of the sequencer that the end of a frame and the actions of its boundary leave alone. -/
def Seq.core (q : Seq) : RunState × (Word64 × Word64) × (Nat × Nat) × (Word64 × Nat) × (List PendHalt × Nat) × Option (Nat × Bool) ×
    List (List Seg) :=
  (q.run, (q.dev, q.devNext), (q.alt, q.altNext), (q.frame, q.schedLen), (q.halts, q.clk), q.levelDue, q.path)

/-- A part of the tick leaves the core of the sequencer, the frame plans, the pending RWF values, the capture and LAST_FRAME. -/
structure TickKeeps (h g : Hw) : Prop where
  core : g.seq.core = h.seq.core
  plan : g.plan = h.plan
  ptable : g.ptable = h.ptable
  rwf : g.rwf = h.rwf
  capture : g.snap.capture = h.snap.capture
  last : ∀ d, d < 2 → g.reg (seqA d 0x40) = h.reg (seqA d 0x40)

theorem TickKeeps.refl (h : Hw) : TickKeeps h h := ⟨rfl, rfl, rfl, rfl, rfl, fun _ _ => rfl⟩

theorem TickKeeps.trans {h g k : Hw} (a : TickKeeps h g) (b : TickKeeps g k) : TickKeeps h k :=
  ⟨b.core.trans a.core, b.plan.trans a.plan, b.ptable.trans a.ptable, b.rwf.trans a.rwf, b.capture.trans a.capture,
    fun d hd => (b.last d hd).trans (a.last d hd)⟩

theorem TickKeeps.foldl {α : Type} (f : Hw → α → Hw) (l : List α) (hf : ∀ h, ∀ x ∈ l, TickKeeps h (f h x)) (h : Hw) :
    TickKeeps h (l.foldl f h) := by
  induction l generalizing h with
  | nil => exact .refl h
  | cons x l ih =>
    exact (hf h x List.mem_cons_self).trans (ih (fun h y hy => hf h y (List.mem_cons_of_mem _ hy)) _)

theorem tickKeeps_setReg (h : Hw) {a : Nat} (v : Word32) (ha : ∀ d, d < 2 → a ≠ seqA d 0x40) : TickKeeps h (h.setReg a v) :=
  ⟨rfl, rfl, rfl, rfl, rfl, fun d hd => (reg_setReg ..).trans (if_neg (Ne.symm (ha d hd)))⟩

theorem tickKeeps_updSeq (h : Hw) {f : Seq → Seq} (hf : (f h.seq).core = h.seq.core) : TickKeeps h (h.updSeq f) :=
  ⟨hf, rfl, rfl, rfl, rfl, fun _ _ => rfl⟩

theorem tickKeeps_raise (h : Hw) (id : Nat) : TickKeeps h (h.raise id) := ⟨rfl, rfl, rfl, rfl, rfl, fun _ _ => rfl⟩

theorem Signals.tickKeeps {h g : Hw} (s : Signals h g) : TickKeeps h g := by
  rw [s.rest]
  exact ⟨rfl, rfl, rfl, rfl, rfl, fun _ _ => rfl⟩

theorem tickKeeps_applySrc (h : Hw) : TickKeeps h h.applySrc := by
  cases hs : h.seq.srcPending with
  | none => rw [applySrc_none hs]; exact .refl h
  | some v =>
    have hne : ∀ d, d < 2 → 0x44 ≠ seqA d 0x40 := fun d _ => by simp only [seqA, dieBase]; omega
    rw [applySrc_some hs]
    exact ((tickKeeps_updSeq h rfl).trans (tickKeeps_setReg _ _ hne)).trans (tickKeeps_setReg _ _ hne)

/-! ## The end of a frame -/

theorem tickKeeps_missPoints (h : Hw) (n : Nat) : TickKeeps h (h.missPoints n) := by
  have hne : ∀ e, e < 2 → ∀ d, d < 2 → seqA e 0x54 ≠ seqA d 0x40 := fun e he d hd => by simp only [seqA, dieBase]; omega
  exact ((tickKeeps_setReg h _ (hne 0 (by omega))).trans (tickKeeps_setReg _ _ (hne 1 (by omega)))).trans
    (.foldl _ _ (fun h _ _ => tickKeeps_raise h _) _)

theorem seq_missPoints (h : Hw) (n : Nat) : (h.missPoints n).seq = h.seq := by
  unfold Hw.missPoints
  generalize hm : (h.bump (seqA 0 0x54) 31 0 n).bump (seqA 1 0x54) 31 0 n = m
  have hs : m.seq = h.seq := by rw [← hm]; rfl
  clear hm
  dsimp only
  rw [← hs]
  generalize List.range n = l
  induction l generalizing m with
  | nil => rfl
  | cons x l ih => exact ih (m.raise evTickMissed) hs

theorem tickKeeps_skipPoints (h : Hw) (m : Nat) : TickKeeps h (h.skipPoints m) :=
  (tickKeeps_missPoints h (h.pointsAhead h.seq.gridNext h.seq.gridPeriod m)).trans
    (tickKeeps_updSeq _ (f := fun s => { s with
      gridNext := s.gridNext + h.pointsAhead h.seq.gridNext h.seq.gridPeriod m * s.gridPeriod }) rfl)

theorem seq_skipPoints (h : Hw) (m : Nat) : (h.skipPoints m).seq = { h.seq with gridNext := (h.skipPoints m).seq.gridNext } := by
  unfold Hw.skipPoints Hw.updSeq
  dsimp only
  rw [seq_missPoints]

theorem noteLate_keeps (h : Hw) : TickKeeps h h.noteLate ∧ h.noteLate.seq = h.seq := by
  unfold Hw.noteLate
  split
  · exact ⟨.refl h, rfl⟩
  · have hne : ∀ n, n < 3 → ∀ e d, e < 2 → d < 2 → seqA e (0x48 + 4 * n) ≠ seqA d 0x40 :=
      fun n hn e d he hd => by simp only [seqA, dieBase]; omega
    have hcount : ∀ n id, n < 3 →
        TickKeeps h (((h.count (seqA 0 (0x48 + 4 * n))).count (seqA 1 (0x48 + 4 * n))).raise id) := fun n id hn =>
      ((tickKeeps_setReg h _ fun d => hne n hn 0 d (by omega)).trans
        (tickKeeps_setReg _ _ fun d => hne n hn 1 d (by omega))).trans (tickKeeps_raise _ _)
    by_cases hm : h.seq.mode = .timed
    · rw [if_pos hm]
      exact ⟨hcount 2 _ (by omega), rfl⟩
    · rw [if_neg hm]
      exact ⟨hcount 1 _ (by omega), rfl⟩

theorem timeA_ne_last (o : Nat) (ho : o < 0x10000) : ∀ d, d < 2 → timeA o ≠ seqA d 0x40 := fun d _ => by
  simp only [timeA, seqA, dieBase]; omega

theorem noteGrid_keeps (h : Hw) : TickKeeps h h.noteGrid ∧ h.noteGrid.seq = { h.seq with gridNext := h.noteGrid.seq.gridNext } := by
  unfold Hw.noteGrid
  split
  · exact ⟨.refl h, rfl⟩
  · extract_lets late err m k
    have hk : TickKeeps h k := (tickKeeps_setReg h _ (timeA_ne_last _ (by omega))).trans (tickKeeps_updSeq _ rfl)
    have hs : k.seq = { h.seq with gridNext := k.seq.gridNext } := rfl
    clear_value k
    split
    · refine ⟨hk.trans (tickKeeps_skipPoints ..), ?_⟩
      rw [seq_skipPoints, hs]
    · exact ⟨hk, hs⟩

/-- LAST_FRAME of a frame (Table 5.12). -/
def Seq.lastFrame (q : Seq) : Word32 :=
  BitVec.ofNat 32 (min 0xFFFFF q.stalls + 2 ^ 20 * min 63 (q.stretches - q.noted) + 2 ^ 26 * q.gapUs)

/-- A part of the tick leaves what `TickKeeps` names, but for LAST_FRAME, which both dies have recorded. -/
structure TickRecords (h g : Hw) : Prop where
  core : g.seq.core = h.seq.core
  plan : g.plan = h.plan
  ptable : g.ptable = h.ptable
  rwf : g.rwf = h.rwf
  capture : g.snap.capture = h.snap.capture
  last : ∀ d, d < 2 → g.reg (seqA d 0x40) = h.seq.lastFrame

theorem TickRecords.trans {h g k : Hw} (a : TickRecords h g) (b : TickKeeps g k) : TickRecords h k :=
  ⟨b.core.trans a.core, b.plan.trans a.plan, b.ptable.trans a.ptable, b.rwf.trans a.rwf, b.capture.trans a.capture,
    fun d hd => (b.last d hd).trans (a.last d hd)⟩

theorem recordFrame_reg (h : Hw) (d : Nat) (hd : d < 2) : h.recordFrame.reg (seqA d 0x40) = h.seq.lastFrame := by
  have h44 : ∀ e, e < 2 → seqA d 0x40 ≠ seqA e 0x44 := fun e he => by simp only [seqA, dieBase]; omega
  unfold Hw.recordFrame
  simp only [List.foldl_cons, List.foldl_nil]
  rw [reg_setReg, if_neg (h44 1 (by omega)), reg_setReg]
  by_cases h1 : d = 1
  · rw [h1, if_pos rfl]; rfl
  · obtain rfl : d = 0 := by omega
    rw [if_neg (by decide), reg_setReg, if_neg (h44 0 (by omega)), reg_setReg_same]; rfl

theorem recordFrame_eq (h : Hw) : h.recordFrame = { h with regs := h.recordFrame.regs } := rfl

theorem recorded (h : Hw) : TickRecords h h.noteLate.noteGrid.recordFrame := by
  obtain ⟨klate, slate⟩ := noteLate_keeps h
  obtain ⟨kgrid, sgrid⟩ := noteGrid_keeps h.noteLate
  have k := klate.trans kgrid
  have hlast : h.noteLate.noteGrid.seq.lastFrame = h.seq.lastFrame := by rw [sgrid, slate]; rfl
  generalize h.noteLate.noteGrid = m at k hlast
  refine ⟨?_, ?_, ?_, ?_, ?_, fun d hd => (recordFrame_reg _ d hd).trans hlast⟩ <;> rw [recordFrame_eq]
  exacts [k.core, k.plan, k.ptable, k.rwf, k.capture]

theorem tickKeeps_notePoison (h : Hw) : TickKeeps h h.notePoison := by
  have hne : ∀ o, o < 0x10000 → ∀ d, d < 2 → faultA o ≠ seqA d 0x40 := fun o ho d hd => by
    simp only [faultA, seqA, dieBase]; omega
  unfold Hw.notePoison
  extract_lets a
  split
  · exact tickKeeps_setReg h (a := faultA 0x614) _ (hne 0x614 (by omega))
  · have hmark : ∀ (m : Hw) (v : Word64) (t : OpTag), TickKeeps m ((m.setReg64 (faultA 0x60C) v).markDone t) := fun m v t =>
      ((tickKeeps_setReg m _ (hne 0x60C (by omega))).trans (tickKeeps_setReg _ _ (hne (0x60C + 4) (by omega)))).trans
        (TickKeeps.mk rfl rfl rfl rfl rfl fun _ _ => rfl)
    exact (tickKeeps_setReg h _ (hne 0x614 (by omega))).trans (hmark _ _ _)

theorem tickKeeps_flushRmw (h : Hw) (T : Nat) (p : LoftRmw → Bool) : TickKeeps h (h.flushRmw T p) := by
  have hold : ∀ (m : Hw) (r : LoftRmw), TickKeeps m ((m.holdLoft T r.addr).setLoft T r.addr (decEncode r.merged)) := fun m r => by
    unfold Hw.holdLoft
    dsimp only
    split <;> exact ⟨rfl, rfl, rfl, rfl, rfl, fun _ _ => rfl⟩
  have hset : ∀ (m : Hw) (k : Truss), TickKeeps m (m.setTruss T k) := fun m k => ⟨rfl, rfl, rfl, rfl, rfl, fun _ _ => rfl⟩
  exact (TickKeeps.foldl _ _ (fun m r _ => hold m r) h).trans (hset _ _)

theorem tickKeeps_bankCommit (h : Hw) (B : Nat) (p : BankRmw → Bool) : TickKeeps h (h.bankCommit B p) := by
  have hold : ∀ (m : Hw) (a : Nat) (v : Word64), TickKeeps m ((m.holdBank B a).setBankWord B a v) := fun m a v => by
    unfold Hw.holdBank
    dsimp only
    split <;> exact ⟨rfl, rfl, rfl, rfl, rfl, fun _ _ => rfl⟩
  have hset : ∀ (m : Hw) (k : Bank), TickKeeps m (m.setBank B k) := fun m k => ⟨rfl, rfl, rfl, rfl, rfl, fun _ _ => rfl⟩
  refine (TickKeeps.foldl _ _ (fun m r _ => ?_) h).trans (hset _ _)
  cases r.old with
  | none => exact .refl m
  | some o => exact hold ..

theorem tickKeeps_commitAll (h : Hw) : TickKeeps h h.commitAll := by
  unfold Hw.commitAll
  extract_lets m
  have hm : TickKeeps h m := ⟨rfl, rfl, rfl, rfl, rfl, fun _ _ => rfl⟩
  clear_value m
  exact (hm.trans (.foldl _ _ (fun k T _ => tickKeeps_flushRmw k T _) _)).trans
    (.foldl _ _ (fun k B _ => tickKeeps_bankCommit k B _) _)

theorem endFrame_records (h : Hw) : TickRecords h h.endFrame := by
  have hrec := recorded h
  unfold Hw.endFrame
  dsimp only
  generalize h.noteLate.noteGrid.recordFrame = m at hrec
  have hpoison : TickKeeps m (if m.seq.poisoned then m.notePoison else m) := by
    split
    · exact tickKeeps_notePoison m
    · exact .refl m
  exact ((hrec.trans hpoison).trans (tickKeeps_commitAll _)).trans (tickKeeps_updSeq _ rfl)

theorem tickKeeps_bankHandOvers (h : Hw) (tick : Bool) : TickKeeps h (h.bankHandOvers tick) := by
  refine TickKeeps.foldl _ _ (fun m kv hkv => ?_) h
  have hin := (List.mem_filter.1 hkv).2
  have hne : ∀ d, d < 2 → kv.1 ≠ seqA d 0x40 := fun d hd he => by
    simp only [he, bankA, seqA, dieBase, Bool.and_eq_true, Bool.or_eq_true, decide_eq_true_eq] at hin
    omega
  split
  · exact (tickKeeps_setReg m _ hne).trans (tickKeeps_setReg _ _ hne)
  · exact .refl m

/-- The frame that ends is accounted for before its boundary or its halt. -/
def Hw.ended (h : Hw) : Hw := h.endFrame.noteTick.bankHandOvers true

theorem ended_records (h : Hw) : TickRecords h h.ended := by
  unfold Hw.ended
  have hend := endFrame_records h
  generalize h.endFrame = m at hend
  exact (hend.trans (tickKeeps_updSeq m rfl)).trans
    ((TickKeeps.mk rfl rfl rfl rfl rfl fun _ _ => rfl : TickKeeps (m.updSeq fun s => { s with tagClk := 0 }) m.noteTick).trans
      (tickKeeps_bankHandOvers _ true))

end Sys2Proof.Machine
end

section
-- As the tests above: declarations in order, so that checking the one text stays within its memory.
set_option Elab.async false
/-!
PROOFS. The boundary of a frame tick and the frame that begins (R28, R122, R126): actions 2 to 5, and the path of either die (O46).
-/

namespace Sys2Proof.Machine

/-! ## Action 4: pending RWF values, bay reloads and spare lanes -/

/-- LAST_FRAME has no RWF bit. -/
theorem lastFrame_noRwf : ∀ d, d < 2 → (regRowAt (seqA d 0x40)).all (fun r => r.rwf == 0) = true := by decide +kernel

theorem tickKeeps_rwfSet (h : Hw) (a : Nat) (v : Option Word32) :
    TickKeeps h (match regRowAt a, v with
      | some r, some v => h.setReg a ((h.reg a &&& ~~~ r.rwf) ||| (v &&& r.rwf))
      | _, _ => h) := by
  cases hr : regRowAt a with
  | none => exact .refl h
  | some r =>
    cases v with
    | none => exact .refl h
    | some v =>
      refine ⟨rfl, rfl, rfl, rfl, rfl, fun d hd => ?_⟩
      by_cases ha : a = seqA d 0x40
      · have hz := lastFrame_noRwf d hd
        rw [← ha, hr] at hz
        rw [← ha]
        refine (reg_setReg_same ..).trans ?_
        rw [show r.rwf = 0 from beq_iff_eq.1 hz]
        show (h.reg a &&& ~~~ 0#32) ||| (v &&& 0#32) = h.reg a
        simp only [BitVec.not_zero, BitVec.and_allOnes, BitVec.and_zero, BitVec.or_zero]
      · exact (reg_setReg ..).trans (if_neg (Ne.symm ha))

theorem tickKeeps_applyRwf (h : Hw) : TickKeeps { h with rwf := [] } h.applyRwf := by
  have k : TickKeeps h (h.rwf.foldl (fun h kv => match regRowAt kv.1, kv.2 with
      | some r, some v => h.setReg kv.1 ((h.reg kv.1 &&& ~~~ r.rwf) ||| (v &&& r.rwf))
      | _, _ => h) h) := .foldl _ _ (fun m kv _ => tickKeeps_rwfSet m kv.1 kv.2) h
  exact ⟨k.core, k.plan, k.ptable, rfl, k.capture, k.last⟩

theorem tickKeeps_setBayPhase (h : Hw) (B ph : Nat) : TickKeeps h (h.setBayPhase B ph) :=
  tickKeeps_setReg h _ fun d _ => by simp only [trussA, seqA, dieBase]; omega

theorem tickKeeps_setReload (h : Hw) (r : Option BayReload) : TickKeeps h (h.setReload r) := ⟨rfl, rfl, rfl, rfl, rfl, fun _ _ => rfl⟩

theorem tickKeeps_execBayIsolation (h : Hw) : TickKeeps h (execBayIsolation h true) := by
  unfold execBayIsolation
  split
  · split
    · unfold Hw.isolate
      extract_lets sets other held m
      have hm : TickKeeps h m := ⟨rfl, rfl, rfl, rfl, rfl, fun _ _ => rfl⟩
      clear_value m
      exact (hm.trans (tickKeeps_setBayPhase ..)).trans (tickKeeps_setReload ..)
    · exact .refl h
  · exact .refl h

theorem tickKeeps_preOwner (h : Hw) (r : BayReload) (o : Nat) : TickKeeps h (h.preOwner r o) := by
  refine TickKeeps.foldl _ _ (fun m j hj => tickKeeps_setReg m _ fun d hd => ?_) h
  have hj : j < 64 := List.mem_range.1 (List.mem_filter.1 hj).1
  simp only [bankA, seqA, dieBase]
  omega

theorem tickKeeps_execBayInitStart (h : Hw) : TickKeeps h (execBayInitStart h true) := by
  unfold execBayInitStart
  split
  · split
    · exact ((tickKeeps_setBayPhase ..).trans (tickKeeps_preOwner ..)).trans (tickKeeps_setReload ..)
    · exact .refl h
  · exact .refl h

theorem tickKeeps_clearSlates (h : Hw) (d : Nat) (l : List Nat) : TickKeeps h (l.foldl (fun h t =>
    h.setTruss (trussIx d t) { h.truss (trussIx d t) with slate := [] }) h) :=
  .foldl _ _ (fun m t _ => (TickKeeps.mk rfl rfl rfl rfl rfl fun _ _ => rfl :
    TickKeeps m (m.setTruss (trussIx d t) { m.truss (trussIx d t) with slate := [] }))) h

theorem tickKeeps_unmark (h : Hw) (B d : Nat) : TickKeeps h ((List.range 16).foldl (fun h k =>
    let a := scrubA d (0x40 + 4 * k)
    if h.bget a 31 && bayOf (h.fget a 8 0) == B % 16 then h.setReg a 0 else h) h) := by
  refine .foldl _ _ (fun m i hi => ?_) h
  have hi := List.mem_range.1 hi
  extract_lets a
  split
  · exact tickKeeps_setReg m _ fun e _ => by
      show scrubA d (0x40 + 4 * i) ≠ seqA e 0x40
      simp only [scrubA, seqA, dieBase]
      omega
  · exact .refl m

theorem tickKeeps_execBayActivation (h : Hw) : TickKeeps h (execBayActivation h true) := by
  unfold execBayActivation
  split
  next r _ =>
    split
    · have hover : ∀ m : Hw, TickKeeps m (({ m with snap := { m.snap with bayGen := m.snap.bayGen + 1 } } : Hw).raise
          (evBayActivated r.bay)) := fun m => ⟨rfl, rfl, rfl, rfl, rfl, fun _ _ => rfl⟩
      exact ((tickKeeps_clearSlates h (r.bay / 16) (bayTrusses (r.bay % 16))).trans
        (tickKeeps_unmark _ r.bay (r.bay / 16))).trans
          (((tickKeeps_setBayPhase _ r.bay 0).trans (tickKeeps_setReload _ none)).trans (hover _))
    · exact .refl h
  · exact .refl h

theorem tickKeeps_bayAtTick (h : Hw) : TickKeeps h h.bayAtTick :=
  ((tickKeeps_execBayIsolation h).trans (tickKeeps_execBayInitStart _)).trans (tickKeeps_execBayActivation _)

theorem eaveA_ne_last (p o : Nat) : ∀ d, d < 2 → eaveA p o ≠ seqA d 0x40 := fun d _ => by
  simp only [eaveA, seqA, dieBase]; omega

theorem tickKeeps_updPort (h : Hw) (p : Nat) (f : EavePort → EavePort) : TickKeeps h (h.updPort p f) :=
  ⟨rfl, rfl, rfl, rfl, rfl, fun _ _ => rfl⟩

theorem tickKeeps_noteErased (h : Hw) (p : Nat) : TickKeeps h (h.noteErased p) := tickKeeps_setReg h _ (eaveA_ne_last _ _)

theorem tickKeeps_setRole (h : Hw) (p r lane : Nat) (e : Bool) : TickKeeps h (h.setRole p r lane e) :=
  tickKeeps_setReg h _ (eaveA_ne_last _ _)

theorem tickKeeps_swapSpares (h : Hw) : TickKeeps h h.swapSpares := by
  refine .foldl _ _ (fun m p _ => ?_) h
  unfold Hw.swapSpare
  split
  next s _ =>
    split
    · exact .refl m
    · exact ((((tickKeeps_setRole m p s.role 18 false).trans (tickKeeps_noteErased _ p)).trans
        (tickKeeps_setReg _ _ (eaveA_ne_last p 4))).trans (tickKeeps_updPort _ p _)).trans (tickKeeps_raise _ _)
  · exact .refl m

theorem tickKeeps_newContents (h : Hw) : TickKeeps { h with rwf := [] } h.newContents :=
  ((tickKeeps_applyRwf h).trans (tickKeeps_bayAtTick _)).trans (tickKeeps_swapSpares _)

/-! ## Action 6: the frame plans resolve (R122) -/

/-- The path that die d's plan resolves to with a vector and a select, empty on PLAN_FAULT. -/
def Hw.pathOf (h : Hw) (d : Nat) (dev : Word64) (alt : Nat) : List Seg :=
  let r := resolve (fun b => Store.get 0 h.plan (d * 256 + b)) (fun e => Store.get 0 h.ptable (d * 16 + e)) dev alt 1024 0 0
  if r.runaway || decide (h.seq.schedLen < r.len) then [] else r.segs

/-- Die d has put path `l` into its place, with its packets and its event beside it. -/
structure Resolves (d : Nat) (l : List Seg) (h g : Hw) : Prop where
  seq : g.seq = { h.seq with path := h.seq.path.set d l, syms := g.seq.syms, poisoned := g.seq.poisoned }
  rest : g = { h with seq := g.seq, trace := g.trace, fault := g.fault, ports := g.ports, out := g.out }

theorem foldl_offer_eq (src : Nat) (l : List (BitVec 128)) (h : Hw) :
    l.foldl (fun h p => h.offer src p) h = { h with trace := (l.foldl (fun h p => h.offer src p) h).trace } := by
  induction l generalizing h with
  | nil => rfl
  | cons p l ih =>
    rw [List.foldl_cons, ih]
    unfold Hw.offer
    split <;> rfl

theorem resolveDie_resolves (h : Hw) (d : Nat) : Resolves d (h.pathOf d h.seq.dev h.seq.alt) h (h.resolveDie d) := by
  unfold Hw.resolveDie
  extract_lets r fault m k
  have hm : m = { h with seq := m.seq } ∧ m.seq = { h.seq with path := h.seq.path.set d (h.pathOf d h.seq.dev h.seq.alt) } := ⟨rfl, rfl⟩
  have hk : k = { m with trace := k.trace } := foldl_offer_eq ..
  clear_value m k
  obtain ⟨hm, hseq⟩ := hm
  have hks : k.seq = m.seq := by rw [hk]
  split
  · have hsig := signals_raisePoison k (evPlanFault d) 0
    generalize k.raisePoison (evPlanFault d) = g at hsig ⊢
    refine ⟨?_, ?_⟩
    · rw [hsig.rest, hks, hseq]
    · rw [hsig.rest, hk, hm]
  · exact ⟨by rw [hks, hseq], by rw [hk, hm]⟩

/-! ## Action 6: the frame begins -/

/-- The frame that begins, before its plans resolve. -/
def Hw.opened (h : Hw) : Hw :=
  let h := h.updSeq fun s => { s with
    inFrame := true, fclk := 0, pos := 0, stalls := 0, stretches := s.noted
    goSent := false, goEff := false, stallReqs := [], posHist := [], waitTaken := []
    starting := none }
  let h : Hw := { h with ports := Store.mapVals {} (EavePort.tickSlots (h.seq.frame.toNat % 16)) h.ports }
  let h := h.updSeq fun s => { s with allowance := h.firstAllowance }
  { h with
    trusses := Store.mapVals {} tickTruss h.trusses, banks := Store.mapVals {} tickBank h.banks
    portWords := [], bridgeErr := [], probeIn := [], done := keepMarks h.done }

theorem keepMarks_idem (l : List OpTag) : keepMarks (keepMarks l) = keepMarks l := by
  unfold keepMarks
  rw [List.filter_filter]
  exact List.filter_congr fun _ _ => Bool.and_self _

/-- A frame of the core of `h` has begun: its clock and position are 0, its paths are those of the plans of `h`, and no register
beside LAST_FRAME's is spoken of. -/
structure FrameBegun (h g : Hw) : Prop where
  inFrame : g.seq.inFrame = true
  pos : g.seq.pos = 0
  fclk : g.seq.fclk = 0
  starting : g.seq.starting = none
  rwf : g.rwf = h.rwf
  marks : keepMarks g.done = g.done
  dev : g.seq.dev = h.seq.dev
  alt : g.seq.alt = h.seq.alt
  frame : g.seq.frame = h.seq.frame
  run : g.seq.run = h.seq.run
  path : h.seq.path.length = 2 → ∀ d, d < 2 → g.seq.path.getD d [] = h.pathOf d h.seq.dev h.seq.alt
  last : ∀ d, d < 2 → g.reg (seqA d 0x40) = h.reg (seqA d 0x40)

theorem opened_fields (h : Hw) : h.opened.seq.inFrame = true ∧ h.opened.seq.pos = 0 ∧ h.opened.seq.fclk = 0 ∧
    h.opened.seq.starting = none ∧ h.opened.done = keepMarks h.done ∧ TickKeeps h h.opened :=
  ⟨rfl, rfl, rfl, rfl, rfl, rfl, rfl, rfl, rfl, rfl, fun _ _ => rfl⟩

theorem pathOf_congr {h g : Hw} (d : Nat) (dev : Word64) (alt : Nat) (hp : g.plan = h.plan) (ht : g.ptable = h.ptable)
    (hs : g.seq.schedLen = h.seq.schedLen) : g.pathOf d dev alt = h.pathOf d dev alt := by
  unfold Hw.pathOf
  rw [hp, ht, hs]

theorem beginFrame_begun (h : Hw) : FrameBegun h h.beginFrame := by
  rw [show h.beginFrame = (h.opened.resolveDie 0).resolveDie 1 from rfl]
  obtain ⟨hin, hpos, hclk, hst, hdone, hkeep⟩ := opened_fields h
  generalize h.opened = m at hin hpos hclk hst hdone hkeep
  obtain ⟨core, hplan, hptable, hrwf, -, hlast⟩ := hkeep
  simp only [Seq.core, Prod.mk.injEq] at core
  obtain ⟨hrun, ⟨hdev, -⟩, ⟨halt, -⟩, ⟨hframe, hlen⟩, -, -, hpath⟩ := core
  obtain ⟨seq0, rest0⟩ := resolveDie_resolves m 0
  generalize m.resolveDie 0 = k at seq0 rest0
  have hp1 : k.pathOf 1 k.seq.dev k.seq.alt = m.pathOf 1 m.seq.dev m.seq.alt := by
    rw [seq0]
    exact pathOf_congr 1 _ _ (by rw [rest0]) (by rw [rest0]) (by rw [seq0])
  obtain ⟨seq1, rest1⟩ := resolveDie_resolves k 1
  generalize k.resolveDie 1 = g at seq1 rest1
  have hp : ∀ d, h.pathOf d h.seq.dev h.seq.alt = m.pathOf d m.seq.dev m.seq.alt := fun d => by
    rw [hdev, halt]
    exact (pathOf_congr d _ _ hplan hptable hlen).symm
  refine ⟨?_, ?_, ?_, ?_, ?_, ?_, ?_, ?_, ?_, ?_, fun h2 d hd => ?_, fun d hd => ?_⟩
  · rw [seq1, seq0]; exact hin
  · rw [seq1, seq0]; exact hpos
  · rw [seq1, seq0]; exact hclk
  · rw [seq1, seq0]; exact hst
  · rw [rest1, rest0]; exact hrwf
  · rw [rest1, rest0]
    show keepMarks m.done = m.done
    rw [hdone, keepMarks_idem]
  · rw [seq1, seq0]; exact hdev
  · rw [seq1, seq0]; exact halt
  · rw [seq1, seq0]; exact hframe
  · rw [seq1, seq0]; exact hrun
  · rw [hp, seq1, hp1, seq0, hpath]
    match h.seq.path, h2 with
    | [a, b], _ =>
      obtain rfl | rfl : d = 0 ∨ d = 1 := by omega
      · rfl
      · rfl
  · rw [← hlast d hd, rest1, rest0]
    rfl

/-! ## The boundary (R28, actions 2 to 6) -/

/-- With no capture and no level change that waits, the boundary begins the frame of the values that wait. -/
structure NextBegun (h g : Hw) (v : Word64) (a : Nat) (n : Word64) : Prop where
  inFrame : g.seq.inFrame = true
  pos : g.seq.pos = 0
  fclk : g.seq.fclk = 0
  starting : g.seq.starting = none
  rwf : g.rwf = []
  marks : keepMarks g.done = g.done
  dev : g.seq.dev = v
  alt : g.seq.alt = a
  frame : g.seq.frame = n
  run : g.seq.run = h.seq.run
  path : h.seq.path.length = 2 → ∀ d, d < 2 → g.seq.path.getD d [] = h.pathOf d v a
  last : ∀ d, d < 2 → g.reg (seqA d 0x40) = h.reg (seqA d 0x40)

theorem goOn_begins {h : Hw} (hl : h.seq.levelDue = none) : ∃ m, TickKeeps h m ∧ h.goOn = m.beginFrame := by
  refine ⟨h.stampDue, ?_, ?_⟩
  · unfold Hw.stampDue
    split
    · exact ⟨rfl, rfl, rfl, rfl, rfl, fun _ _ => rfl⟩
    · exact .refl h
  · have hs : h.stampDue.seq.levelDue = none := by
      unfold Hw.stampDue
      split <;> exact hl
    unfold Hw.goOn
    dsimp only
    rw [hs]

/-- The frame of a state `m` that differs from `h` by its latched values and frame number. -/
theorem goOn_next {h m : Hw} {dev : Word64} {alt : Nat} {frame : Word64}
    (hk : TickKeeps { h with seq := { h.seq with dev := dev, alt := alt, frame := frame }, rwf := [] } m)
    (hl : h.seq.levelDue = none) : NextBegun h m.goOn dev alt frame := by
  have hlm : m.seq.levelDue = none := by
    have hc := hk.core
    simp only [Seq.core, Prod.mk.injEq] at hc
    exact hc.2.2.2.2.2.1.trans hl
  obtain ⟨k, hmk, hgo⟩ := goOn_begins hlm
  rw [hgo]
  obtain ⟨core, hplan, hptable, hrwf, -, hlast⟩ := hk.trans hmk
  have hb := beginFrame_begun k
  generalize k.beginFrame = g at hb
  simp only [Seq.core, Prod.mk.injEq] at core
  obtain ⟨hrun, ⟨hdev, -⟩, ⟨halt, -⟩, ⟨hframe, hlen⟩, -, -, hpath⟩ := core
  refine ⟨hb.inFrame, hb.pos, hb.fclk, hb.starting, hb.rwf.trans hrwf, hb.marks, hb.dev.trans hdev, hb.alt.trans halt,
    hb.frame.trans hframe, hb.run.trans hrun, fun h2 d hd => ?_, fun d hd => (hb.last d hd).trans (hlast d hd)⟩
  rw [hb.path (by rw [hpath]; exact h2) d hd, hdev, halt]
  exact pathOf_congr d dev alt hplan hptable hlen

end Sys2Proof.Machine
end

section
-- As the tests above: declarations in order, so that checking the one text stays within its memory.
set_option Elab.async false
/-!
PROOFS. FRAME_TICK (R28, R126, R136, R149, R150, R240, R255): the tick that ends a frame, the first tick of a start or after a gap, and
the halt that either finds due (O46).
-/

namespace Sys2Proof.Machine

/-! ## The boundary -/

/-- The state whose frame the boundary of `h` begins. -/
def Hw.latched (h : Hw) : Hw :=
  { h with seq := { h.seq with dev := h.seq.devNext, alt := h.seq.altNext, frame := h.seq.frame + 1 }, rwf := [] }

theorem boundary_keeps {h : Hw} (hc : h.snap.capture = none) : TickKeeps h.latched h.boundary := by
  have hpoint : h.latchVector.pointAtTick h.seq.frame.toNat = h.latchVector := by
    have hcl : h.latchVector.snap.capture = none := hc
    unfold Hw.pointAtTick
    rw [hcl]
  have hk := tickKeeps_newContents h.latchVector
  unfold Hw.boundary
  rw [hpoint]
  generalize h.latchVector.newContents = m at hk
  obtain ⟨core, hplan, hptable, hrwf, hcap, hlast⟩ := hk
  refine ⟨?_, hplan, hptable, hrwf, hcap, hlast⟩
  simp only [Seq.core, Prod.mk.injEq] at core ⊢
  obtain ⟨hrun, hdev, halt, ⟨hframe, hlen⟩, hrest⟩ := core
  exact ⟨hrun, hdev, halt, ⟨congrArg (· + 1) hframe, hlen⟩, hrest⟩

/-- The fields of the core, each by itself. -/
theorem core_eq {p q : Seq} (h : p.core = q.core) : p.run = q.run ∧ p.dev = q.dev ∧ p.devNext = q.devNext ∧ p.alt = q.alt ∧
    p.altNext = q.altNext ∧ p.frame = q.frame ∧ p.schedLen = q.schedLen ∧ p.halts = q.halts ∧ p.clk = q.clk ∧
    p.levelDue = q.levelDue ∧ p.path = q.path := by
  simpa only [Seq.core, Prod.mk.injEq, and_assoc] using h

/-! ## Halts (R28, R240) -/

/-- The configuration is held at a boundary. -/
structure Holds (h g : Hw) (reason : Nat) (deferred : Bool) : Prop where
  run : g.seq.run = .held
  reason : g.seq.haltReason = reason
  inFrame : g.seq.inFrame = false
  deferred : g.seq.deferred = deferred
  starting : g.seq.starting = none
  halts : g.seq.halts = []
  frame : g.seq.frame = h.seq.frame
  dev : g.seq.dev = h.seq.dev
  devNext : g.seq.devNext = h.seq.devNext
  rwf : g.rwf = h.rwf
  last : ∀ d, d < 2 → g.reg (seqA d 0x40) = h.reg (seqA d 0x40)

theorem holdAt_holds (h : Hw) (reason : Nat) (deferred : Bool) : Holds h (h.holdAt reason deferred) reason deferred := by
  unfold Hw.holdAt
  generalize hm : (h.updSeq fun s => { s with
    run := .held, haltReason := reason, inFrame := false, deferred := deferred, halts := [], goEff := false, goSent := false
    starting := none }) = m
  have hseq : m.seq = { h.seq with
      run := .held, haltReason := reason, inFrame := false, deferred := deferred, halts := [], goEff := false, goSent := false
      starting := none } := by rw [← hm]; rfl
  have hrest : m.rwf = h.rwf ∧ ∀ d, m.reg (seqA d 0x40) = h.reg (seqA d 0x40) := by rw [← hm]; exact ⟨rfl, fun _ => rfl⟩
  clear hm
  have hsrc := applySrc_seq m
  have hkeep := tickKeeps_applySrc m
  rw [hseq] at hsrc
  refine ⟨?_, ?_, ?_, ?_, ?_, ?_, ?_, ?_, ?_, hkeep.rwf.trans hrest.1, fun d hd => (hkeep.last d hd).trans (hrest.2 d)⟩ <;> rw [hsrc]

theorem dueHalt_none {h : Hw} (hx : ∀ x ∈ h.seq.halts, h.seq.clk < x.eff) : haltReasonOf h.dueHalts = none := by
  have hd : h.dueHalts = [] := List.filter_eq_nil_iff.2 fun x hm => by
    have := hx x hm
    simp only [decide_eq_true_eq]
    omega
  rw [hd]
  rfl

theorem dueHalt_one {h : Hw} {x : PendHalt} (hx : h.seq.halts = [x]) (he : x.eff ≤ h.seq.clk) :
    haltReasonOf h.dueHalts = some x.reason := by
  have hd : h.dueHalts = [x] := by
    unfold Hw.dueHalts
    rw [hx]
    simp only [List.filter_cons, List.filter_nil, he, decide_true, if_true]
  rw [hd]
  rfl

theorem dueHalts_congr {h g : Hw} (hh : g.seq.halts = h.seq.halts) (hc : g.seq.clk = h.seq.clk) : g.dueHalts = h.dueHalts := by
  unfold Hw.dueHalts
  rw [hh, hc]

/-! ## The tick that ends a frame -/

theorem tickDue_true {h : Hw} (hf : h.seq.inFrame = true) (hr : h.seq.run = .running ∨ h.seq.run = .halting) (hg : h.seq.goEff = true)
    (ha : h.seq.allowance ≤ h.seq.fclk)
    (hp : h.seq.schedLen + h.endWindow < h.seq.pos ∨ h.seq.pos = h.seq.schedLen + h.endWindow ∧ h.kindNow = .exec) :
    h.tickDue = true := by
  have hpos : (decide (h.seq.schedLen + h.endWindow < h.seq.pos) ||
      (decide (h.seq.schedLen + h.endWindow ≤ h.seq.pos) && h.kindNow == .exec)) = true := by
    rcases hp with hp | ⟨hp, hk⟩
    · rw [decide_eq_true hp, Bool.true_or]
    · rw [decide_eq_true hp.ge, hk, Bool.or_comm]
      rfl
  unfold Hw.tickDue
  rw [hf, hg, decide_eq_true ha]
  rcases hr with hr | hr <;> rw [hr] <;> simpa using hpos

theorem tickDue_false {h : Hw} (hw : h.seq.inFrame = false ∨ (h.seq.goEff = false ∧ h.isMember = false) ∨
    h.seq.fclk < h.seq.allowance ∨ h.seq.pos < h.seq.schedLen + h.endWindow) : h.tickDue = false := by
  unfold Hw.tickDue
  rcases hw with hf | ⟨hg, hm⟩ | ha | hp
  · rw [hf]; rfl
  · have hcut : h.cutOff = false := by
      unfold Hw.cutOff
      rw [hm]
      rfl
    rw [hg, hcut]
    simp
  · rw [decide_eq_false (by omega : ¬h.seq.allowance ≤ h.seq.fclk)]
    simp
  · rw [decide_eq_false (by omega : ¬h.seq.schedLen + h.endWindow < h.seq.pos),
      decide_eq_false (by omega : ¬h.seq.schedLen + h.endWindow ≤ h.seq.pos)]
    simp

theorem tick_eq (h : Hw) : h.tick = match haltReasonOf h.dueHalts with
    | some r => h.ended.holdAt r
    | none => if h.seq.mode = .step && h.seq.stepCount == 1 then h.ended.holdAt 2 else h.ended.boundary.goOn := rfl

theorem tick_halts {h : Hw} {r : Nat} (hr : haltReasonOf h.dueHalts = some r) : h.tick = h.ended.holdAt r := by
  rw [tick_eq, hr]

theorem tick_lastStep {h : Hw} (hr : haltReasonOf h.dueHalts = none) (hm : h.seq.mode = .step) (hs : h.seq.stepCount = 1) :
    h.tick = h.ended.holdAt 2 := by
  rw [tick_eq, hr, hm, hs]
  rfl

theorem tick_goesOn {h : Hw} (hr : haltReasonOf h.dueHalts = none) (hs : ¬(h.seq.mode = .step ∧ h.seq.stepCount = 1)) :
    h.tick = h.ended.boundary.goOn := by
  rw [tick_eq, hr]
  refine if_neg fun hc => hs ?_
  simpa using hc

theorem execFrameTick_tick {h : Hw} (hs : h.seq.starting = none) : execFrameTick h = if h.tickDue then h.tick else h := by
  unfold execFrameTick
  rw [hs]

/-- A frame that ends is recorded and its configuration held. -/
theorem ended_holds (h : Hw) (r : Nat) : let g := h.ended.holdAt r
    (g.seq.run = .held ∧ g.seq.haltReason = r ∧ g.seq.inFrame = false ∧ g.seq.deferred = true ∧ g.seq.halts = [] ∧
      g.seq.frame = h.seq.frame ∧ g.seq.dev = h.seq.dev ∧ g.seq.devNext = h.seq.devNext ∧ g.rwf = h.rwf) ∧
    ∀ d, d < 2 → g.reg (seqA d 0x40) = h.seq.lastFrame := by
  intro g
  have hrec := ended_records h
  have hh : Holds h.ended g r true := holdAt_holds ..
  generalize h.ended = m at hrec hh
  clear_value g
  obtain ⟨-, hdev, hnext, -, -, hframe, -⟩ := core_eq hrec.core
  exact ⟨⟨hh.run, hh.reason, hh.inFrame, hh.deferred, hh.halts, hh.frame.trans hframe, hh.dev.trans hdev, hh.devNext.trans hnext,
    hh.rwf.trans hrec.rwf⟩, fun d hd => (hh.last d hd).trans (hrec.last d hd)⟩

/-- What `begins` of the statement says, by the parts of `NextBegun`. -/
theorem NextBegun.told {h g : Hw} {v : Word64} {a : Nat} {n : Word64} (b : NextBegun h g v a n) (hp : h.seq.path.length = 2) :
    g.seq.inFrame = true ∧ g.seq.pos = 0 ∧ g.seq.fclk = 0 ∧ g.seq.starting = none ∧ g.rwf = [] ∧ keepMarks g.done = g.done ∧
      g.seq.dev = v ∧ g.seq.alt = a ∧ ∀ d, d < 2 → g.seq.path.getD d [] = h.pathOf d v a :=
  ⟨b.inFrame, b.pos, b.fclk, b.starting, b.rwf, b.marks, b.dev, b.alt, b.path hp⟩

/-- The boundary of a state that keeps the core of `h` begins the next frame of `h`. -/
theorem boundary_next {h m k : Hw} (hcore : m.seq.core = h.seq.core) (hplan : m.plan = h.plan) (hptable : m.ptable = h.ptable)
    (hc : m.snap.capture = none) (hl : h.seq.levelDue = none) (hk : TickKeeps m.boundary k) :
    ∃ b, NextBegun b k.goOn h.seq.devNext h.seq.altNext (h.seq.frame + 1) ∧ b.seq.path = h.seq.path ∧ b.seq.run = h.seq.run ∧
      (∀ d v a, b.pathOf d v a = h.pathOf d v a) ∧ ∀ d, b.reg (seqA d 0x40) = m.reg (seqA d 0x40) := by
  obtain ⟨hrun, -, hdev, -, halt, hframe, hlen, -, -, hlev, hpath⟩ := core_eq hcore
  refine ⟨m, goOn_next ?_ (hlev.trans hl), hpath, hrun, fun d v a => pathOf_congr d v a hplan hptable hlen, fun _ => rfl⟩
  rw [← hdev, ← halt, ← hframe]
  exact (boundary_keeps hc).trans hk

/-! ## The first tick (R28, R143, R149, R150, R240) -/

theorem tickKeeps_firstGrid (h : Hw) : TickKeeps h h.firstGrid := by
  unfold Hw.firstGrid
  split
  · exact .refl h
  · exact (tickKeeps_setReg h _ (timeA_ne_last _ (by omega))).trans (tickKeeps_updSeq _ rfl)

theorem tickKeeps_countStretch (h : Hw) : TickKeeps h h.countStretch := by
  have htold : TickKeeps h h.stretchTold := by
    unfold Hw.stretchTold
    exact (tickKeeps_updSeq h rfl).trans (signals_sendSym ..).tickKeeps
  rw [countStretch_eq]
  split
  · exact htold.trans (signals_raisePoison ..).tickKeeps
  · exact htold

theorem tickKeeps_tellStretch (h : Hw) : TickKeeps h h.tellStretch := by
  unfold Hw.tellStretch
  split
  · exact tickKeeps_countStretch h
  · exact .refl h

theorem tickKeeps_noteTick (h : Hw) : TickKeeps h h.noteTick := ⟨rfl, rfl, rfl, rfl, rfl, fun _ _ => rfl⟩

theorem tickKeeps_dropGroups (h : Hw) : TickKeeps h h.dropGroups := ⟨rfl, rfl, rfl, rfl, rfl, fun _ _ => rfl⟩

/-- The state in which the first tick of a start finds its boundary. -/
def Hw.atFirst (h : Hw) : Hw := (h.settleStretch.firstGrid.noteTick.bankHandOvers true).dropGroups.tellStretch

theorem tickKeeps_settleStretch (h : Hw) : TickKeeps h h.settleStretch := tickKeeps_updSeq h rfl

theorem tickKeeps_atFirst (h : Hw) : TickKeeps h h.atFirst :=
  (((((tickKeeps_settleStretch h).trans (tickKeeps_firstGrid _)).trans (tickKeeps_noteTick _)).trans
    (tickKeeps_bankHandOvers _ true)).trans (tickKeeps_dropGroups _)).trans (tickKeeps_tellStretch _)

theorem tickKeeps_unpoison (h : Hw) : TickKeeps h h.unpoison := tickKeeps_updSeq h rfl

theorem firstTick_eq {h : Hw} {k : Nat} (hk : k ≠ 2) : h.firstTick k = match haltReasonOf h.settleStretch.dueHalts with
    | some r => h.settleStretch.holdAt r (k == 1)
    | none => if k = 1 then h.atFirst.boundary.unpoison.goOn else h.atFirst.newContents.unpoison.goOn := if_neg hk

theorem settled_reason (h : Hw) : haltReasonOf h.settleStretch.dueHalts = haltReasonOf h.dueHalts := rfl

theorem firstTick_again {h : Hw} (hr : haltReasonOf h.dueHalts = none) : h.firstTick 1 = h.atFirst.boundary.unpoison.goOn := by
  rw [firstTick_eq (by decide), settled_reason, hr]
  exact if_pos rfl

theorem firstTick_fresh {h : Hw} (hr : haltReasonOf h.dueHalts = none) : h.firstTick 0 = h.atFirst.newContents.unpoison.goOn := by
  rw [firstTick_eq (by decide), settled_reason, hr]
  exact if_neg (by decide)

theorem firstTick_halts {h : Hw} {k r : Nat} (hk : k ≠ 2) (hr : haltReasonOf h.dueHalts = some r) :
    h.firstTick k = h.settleStretch.holdAt r (k == 1) := by
  rw [firstTick_eq hk, settled_reason, hr]

/-- The state in which the first tick after a gap begins its frame. -/
def Hw.afterGap (h : Hw) : Hw :=
  let h := h.settleStretch
  (if h.seq.mode = .timed then h.skipPoints (max h.seq.schedLen h.seq.horizon) else h).tellStretch

theorem tickKeeps_afterGap (h : Hw) : TickKeeps h h.afterGap := by
  unfold Hw.afterGap
  extract_lets m
  have hm : TickKeeps h m := tickKeeps_settleStretch h
  clear_value m
  have hskip : TickKeeps m (if m.seq.mode = .timed then m.skipPoints (max m.seq.schedLen m.seq.horizon) else m) := by
    split
    · exact tickKeeps_skipPoints ..
    · exact .refl m
  exact (hm.trans hskip).trans (tickKeeps_tellStretch _)

theorem firstTick_gap (h : Hw) : h.firstTick 2 =
    h.afterGap.beginFrame.updSeq fun s => { s with stretches := s.stretches + h.settleStretch.seq.stretches } := by
  unfold Hw.firstTick Hw.afterGap
  exact if_pos rfl

theorem execFrameTick_first {h : Hw} {k : Nat} (hs : h.seq.starting = some k) (hr : h.seq.run = .running ∨ h.seq.run = .halting)
    (hg : h.seq.goEff = true) : execFrameTick h = h.firstTick k := by
  unfold execFrameTick
  rw [hs]
  dsimp only
  rw [if_pos (by simpa using hr), if_pos hg]

/-- A start whose halt is due, cut off from frame-go or not, is held again. -/
theorem execFrameTick_heldAgain {h : Hw} {k r : Nat} (hk : k < 2) (hs : h.seq.starting = some k)
    (hrun : h.seq.run = .running ∨ h.seq.run = .halting) (hr : haltReasonOf h.dueHalts = some r)
    (hg : h.seq.goEff = true ∨ h.cutOff = true) : ∃ m, TickKeeps h m ∧ execFrameTick h = m.holdAt r (k == 1) := by
  by_cases hge : h.seq.goEff = true
  · refine ⟨h.settleStretch, tickKeeps_settleStretch h, ?_⟩
    rw [execFrameTick_first hs hrun hge, firstTick_halts (by omega) hr]
  · refine ⟨h, .refl h, ?_⟩
    unfold execFrameTick
    rw [hs]
    dsimp only
    rw [if_pos (by simpa using hrun), if_neg hge, hg.resolve_left hge, hr]

/-- Settles O46: the tick goes through the end of its frame, whose parts keep the core of the sequencer, and then begins the next frame
or holds; the first tick does the same without a frame that ends. -/
theorem frameTicks : Obligations.FrameTicks := by
  unfold Obligations.FrameTicks
  intro s hcap hlev hpath q begins holds records
  refine ⟨fun hst hf hr hg ha hp => ?_, fun hg hr => ⟨fun hx => ⟨fun hst => ?_, fun hst => ?_⟩, fun hst => ?_⟩,
    fun x k hr hst hk hx he hg => ?_, fun hst hw => ?_⟩
  · have hex : effect .frameTick s.hw = s.hw.tick := by
      refine (execFrameTick_tick hst).trans (if_pos ?_)
      exact tickDue_true hf hr hg ha hp
    refine ⟨fun hx hm => does_of rfl ?_, fun x hx he => does_of rfl ?_, fun hx hm hs => does_of rfl ?_⟩
    · rw [hex, tick_goesOn (dueHalt_none hx) hm]
      obtain ⟨core, hplan, hptable, -, hc, hlast⟩ := ended_records s.hw
      generalize s.hw.ended = m at core hplan hptable hc hlast
      obtain ⟨b, hb, hbp, hbr, hpo, hbl⟩ := boundary_next core hplan hptable (hc.trans hcap) hlev (.refl _)
      generalize m.boundary.goOn = g at hb
      obtain ⟨h1, h2, h3, h4, h5, h6, h7, h8, h9⟩ := hb.told (by rw [hbp]; exact hpath)
      exact ⟨⟨h1, h2, h3, h4, h5, h6, h7, h8, fun d hd => (h9 d hd).trans (hpo ..)⟩, hb.frame, hb.run.trans hbr,
        fun d hd => ((hb.last d hd).trans (hbl d)).trans (hlast d hd)⟩
    · rw [hex, tick_halts (dueHalt_one hx he)]
      exact ended_holds s.hw x.reason
    · rw [hex, tick_lastStep (dueHalt_none hx) hm hs]
      exact ended_holds s.hw 2
  · have hex : effect .frameTick s.hw = s.hw.atFirst.newContents.unpoison.goOn :=
      (execFrameTick_first hst hr hg).trans (firstTick_fresh (dueHalt_none hx))
    refine does_of rfl ?_
    rw [hex]
    obtain ⟨core, hplan, hptable, -, -, -⟩ := tickKeeps_atFirst s.hw
    have hnew := (tickKeeps_newContents s.hw.atFirst).trans (tickKeeps_unpoison _)
    generalize s.hw.atFirst = m at core hplan hptable hnew
    obtain ⟨-, hdev, -, halt, -, hframe, hlen, -, -, hl, hp⟩ := core_eq core
    have hb : NextBegun m _ s.hw.seq.dev s.hw.seq.alt s.hw.seq.frame := goOn_next (by
      rw [← hdev, ← halt, ← hframe]
      exact hnew) (hl.trans hlev)
    generalize m.newContents.unpoison.goOn = g at hb
    obtain ⟨h1, h2, h3, h4, h5, h6, h7, h8, h9⟩ := hb.told (by rw [hp]; exact hpath)
    exact ⟨⟨h1, h2, h3, h4, h5, h6, h7, h8, fun d hd => (h9 d hd).trans (pathOf_congr d _ _ hplan hptable hlen)⟩, hb.frame⟩
  · have hex : effect .frameTick s.hw = s.hw.atFirst.boundary.unpoison.goOn :=
      (execFrameTick_first hst hr hg).trans (firstTick_again (dueHalt_none hx))
    refine does_of rfl ?_
    rw [hex]
    obtain ⟨core, hplan, hptable, -, hc, -⟩ := tickKeeps_atFirst s.hw
    generalize s.hw.atFirst = m at core hplan hptable hc
    obtain ⟨b, hb, hbp, -, hpo, -⟩ := boundary_next core hplan hptable (hc.trans hcap) hlev (tickKeeps_unpoison _)
    generalize m.boundary.unpoison.goOn = g at hb
    obtain ⟨h1, h2, h3, h4, h5, h6, h7, h8, h9⟩ := hb.told (by rw [hbp]; exact hpath)
    exact ⟨⟨h1, h2, h3, h4, h5, h6, h7, h8, fun d hd => (h9 d hd).trans (hpo ..)⟩, hb.frame⟩
  · have hex : effect .frameTick s.hw = _ := (execFrameTick_first hst hr hg).trans (firstTick_gap s.hw)
    refine does_of rfl ?_
    rw [hex]
    obtain ⟨core, -, -, hrwf, -, -⟩ := tickKeeps_afterGap s.hw
    obtain ⟨-, hdev, -, halt, -, hframe, -⟩ := core_eq core
    have hb := beginFrame_begun s.hw.afterGap
    generalize s.hw.afterGap = m at hdev halt hframe hrwf hb
    generalize m.beginFrame = g at hb
    exact ⟨hb.inFrame, hb.pos, hb.fclk, hb.starting, hb.dev.trans hdev, hb.alt.trans halt, hb.frame.trans hframe, hb.rwf.trans hrwf⟩
  · obtain ⟨m, hm, hex⟩ := execFrameTick_heldAgain hk hst hr (dueHalt_one hx he) hg
    refine does_of rfl ?_
    rw [show effect .frameTick s.hw = _ from hex]
    have hh := holdAt_holds m x.reason (k == 1)
    generalize m.holdAt x.reason (k == 1) = g at hh
    obtain ⟨-, -, -, -, -, hframe, -⟩ := core_eq hm.core
    exact ⟨hh.run, hh.reason, hh.inFrame, hh.deferred, hh.starting, hh.halts, hh.frame.trans hframe, hh.rwf.trans hm.rwf⟩
  · refine exec_unchanged rfl ((execFrameTick_tick hst).trans (if_neg ?_))
    rw [tickDue_false hw]
    decide

end Sys2Proof.Machine
end

section
-- As the tests above: declarations in order, so that checking the one text stays within its memory.
set_option Elab.async false
/-!
PROOFS. Snapshots, taken and drained (R372 to R380): the words of an area touch far memory alone, the point writes its registers last,
and a drain changes nothing but far memory, its registers, its planes and the event path (O23).
-/

namespace Sys2Proof.Machine

/-! ## The words of an area -/

/-- Far memory alone has changed, with the write-backs of its words. -/
def FarOnly (h g : Hw) : Prop := g = { h with farMem := g.farMem, farWb := g.farWb }

theorem FarOnly.refl (h : Hw) : FarOnly h h := rfl

theorem FarOnly.trans {h g k : Hw} (a : FarOnly h g) (b : FarOnly g k) : FarOnly h k := by
  unfold FarOnly at *
  rw [b, a]

theorem FarOnly.foldl {α : Type} {f : Hw → α → Hw} (step : ∀ g x, FarOnly g (f g x)) (xs : List α) (h : Hw) : FarOnly h (xs.foldl f h) :=
  List.foldlRecOn (motive := FarOnly h) _ _ (.refl h) fun g hg x _ => hg.trans (step g x)

theorem FarOnly.reg {h g : Hw} (w : FarOnly h g) (a : Nat) : g.reg a = h.reg a := by
  rw [w]
  rfl

theorem farOnly_areaWord (h : Hw) (d base off : Nat) (v : Word64) : FarOnly h (h.areaWord d base off v) := rfl

theorem farOnly_areaBytes (h : Hw) (d base off : Nat) (bs : List Byte) : FarOnly h (h.areaBytes d base off bs) :=
  .foldl (fun g _ => farOnly_areaWord g ..) _ _

theorem farOnly_areaValid (h : Hw) (d base : Nat) (bits : List (Nat × Bool)) : FarOnly h (h.areaValid d base bits) :=
  .foldl (fun g _ => farOnly_areaWord g ..) _ _

theorem farOnly_dropFar (h : Hw) (p : Nat → Bool) : FarOnly h (h.dropFar p) := rfl

theorem farOnly_writeSnapDesc (h : Hw) (c : Capture) (ar : SnapArea) (frame : Nat) (dev : Word64) (d : Nat) :
    FarOnly h (h.writeSnapDesc c ar frame dev d) := by
  unfold Hw.writeSnapDesc
  extract_lets b m k k1 k2 k3
  have hm : FarOnly h m := .foldl (fun g _ => farOnly_areaWord g ..) _ _
  have hk : FarOnly m k := ((farOnly_areaWord ..).trans (farOnly_areaWord ..)).trans (farOnly_areaWord ..)
  have h1 : FarOnly k k1 := farOnly_areaWord ..
  have h2 : FarOnly k1 k2 := farOnly_areaWord ..
  have h3 : FarOnly k2 k3 := farOnly_areaBytes ..
  clear_value m k k1 k2 k3
  exact ((((hm.trans hk).trans h1).trans h2).trans h3).trans (farOnly_areaBytes ..)

/-! ## The point (R372, R376, R377) -/

/-- What a capture notes at its point. -/
def Hw.atPoint (h : Hw) (c : Capture) (alt : Nat) : Capture :=
  { c with point := some h.seq.padClk, alt := alt, quiet := h.snapQuiet, poisoned := h.seq.poisoned, drained := [false, false]
           damage := [0, 0] }

/-- The registers of a point that is taken: SNAP_STAT, SNAP_LEFT of both dies and those of the slot. -/
def Hw.pointRegs (h : Hw) (c : Capture) (ar : SnapArea) (frame : Nat) : Hw :=
  let h := h.setReg snapStatA (BitVec.ofNat 32 (1 + 2 * c.slot))
  let h := [0, 1].foldl (fun h d =>
    h.setReg (hubA (0x204 + 4 * d)) (BitVec.ofNat 32 (areaMib ar.far (h.designMib d)))) h
  let h := h.setReg (snapSlotA c.slot 0) (BitVec.ofNat 32 (1 + (if ar.far then 2 else 0) + 4 + snapFlags c * 16))
  (h.setReg (snapSlotA c.slot 4) (BitVec.ofNat 32 c.id)).setReg64 (snapSlotA c.slot 8) (BitVec.ofNat 64 frame)

theorem takePoint_eq {h : Hw} {c : Capture} {ar : SnapArea} (hc : h.snap.capture = some c) (ha : h.snapArea c.slot = some ar)
    (frame : Nat) (dev : Word64) (alt : Nat) : ∃ m, FarOnly { h with snap := { h.snap with
        capture := some (h.atPoint c alt), loftPlane := [], bankPlane := [], pages := [] } } m ∧
      h.takePoint frame dev alt = m.pointRegs (h.atPoint c alt) ar frame := by
  unfold Hw.takePoint
  rw [hc]
  dsimp only
  rw [ha]
  exact ⟨_, (farOnly_writeSnapDesc _ (h.atPoint c alt) ar frame dev 0).trans
    (farOnly_writeSnapDesc _ (h.atPoint c alt) ar frame dev 1), rfl⟩

theorem regsSet_pointRegs (h : Hw) (c : Capture) (ar : SnapArea) (frame : Nat) : RegsSet h (h.pointRegs c ar frame) := by
  unfold Hw.pointRegs
  extract_lets m k j
  have hm : RegsSet h m := regsSet_setReg ..
  have hk : RegsSet m k := .foldl (fun g _ => regsSet_setReg g ..) _ _
  have hj : RegsSet k j := regsSet_setReg ..
  clear_value m k j
  exact (((((hm.trans hk).trans hj).trans (regsSet_setReg ..)).trans (regsSet_setReg ..)).trans (regsSet_setReg ..))

theorem snapFlags_lt (c : Capture) : snapFlags c < 4 := by
  unfold snapFlags
  split <;> split <;> decide

/-- STATE in SNAP_SLOT_k.CFG of a capture that has begun. -/
theorem fld_capturing (far : Bool) {n : Nat} (hn : n < 4) :
    fld (BitVec.ofNat 32 (1 + (if far then 2 else 0) + 4 + n * 16)) 3 2 = 1 := by
  cases far <;> interval_cases n <;> decide

theorem pointRegs_fields (h : Hw) (c : Capture) (ar : SnapArea) (frame : Nat) (hs : c.slot < 16) :
    (h.pointRegs c ar frame).reg snapStatA = BitVec.ofNat 32 (1 + 2 * c.slot) ∧ (h.pointRegs c ar frame).areaState c.slot = 1 ∧
      (h.pointRegs c ar frame).reg (snapSlotA c.slot 4) = BitVec.ofNat 32 c.id ∧
      (h.pointRegs c ar frame).reg64 (snapSlotA c.slot 8) = BitVec.ofNat 64 frame := by
  have hstat : ∀ o, snapStatA ≠ snapSlotA c.slot o := fun o => by unfold snapStatA snapSlotA hubA; omega
  have hleft : ∀ d, d < 2 → snapStatA ≠ hubA (0x204 + 4 * d) := fun d _ => by unfold snapStatA hubA; omega
  have hslot : ∀ o o' : Nat, o ≠ o' → snapSlotA c.slot o ≠ snapSlotA c.slot o' := fun o o' _ => by unfold snapSlotA hubA; omega
  have hword : ∀ o, snapSlotA c.slot o + 4 = snapSlotA c.slot (o + 4) := fun o => by unfold snapSlotA hubA; omega
  unfold Hw.pointRegs
  extract_lets m k j
  have hmr : m.reg snapStatA = BitVec.ofNat 32 (1 + 2 * c.slot) := reg_setReg_same ..
  have hkr : k.reg snapStatA = m.reg snapStatA := by
    simp only [k, List.foldl_cons, List.foldl_nil]
    rw [reg_setReg, if_neg (hleft 1 (by omega)), reg_setReg, if_neg (hleft 0 (by omega))]
  have hjr : j.reg snapStatA = k.reg snapStatA := (reg_setReg ..).trans (if_neg (hstat 0))
  have hjs : j.reg (snapSlotA c.slot 0) = BitVec.ofNat 32 (1 + (if ar.far then 2 else 0) + 4 + snapFlags c * 16) := reg_setReg_same ..
  clear_value m k j
  refine ⟨?_, ?_, ?_, reg64_setReg64 ..⟩
  · unfold Hw.setReg64
    rw [hword, reg_setReg, if_neg (hstat _), reg_setReg, if_neg (hstat _), reg_setReg, if_neg (hstat _), hjr, hkr, hmr]
  · unfold Hw.areaState Hw.fget Hw.setReg64
    rw [hword, reg_setReg, if_neg (hslot _ _ (by decide)), reg_setReg, if_neg (hslot _ _ (by decide)), reg_setReg,
      if_neg (hslot _ _ (by decide)), hjs, fld_capturing ar.far (snapFlags_lt c)]
  · unfold Hw.setReg64
    rw [hword, reg_setReg, if_neg (hslot _ _ (by decide)), reg_setReg, if_neg (hslot _ _ (by decide)), reg_setReg_same]

/-! ## SNAP_TAKE (R376) -/

/-- What SNAP_TAKE performs on a module whose tests it has begun. -/
def takeAct (c : Call0) (h : Hw) : Res × Hw :=
  if c.share then memberShare c (fun ops => h.takeTest (arg ops 0 1)) (fun _ h => h) h
  else
    let f := arg c.args 8 8
    let t := h.takeTest (arg c.args 0 1)
    let ended := h.seq.run = .running && f != 0 && h.frameEnded f
    let own := if t ≠ stBusy && ended then stRefused else t
    h.crewRun c (h.crew c) own (c.args.take 1) takeDo

theorem snapTake_runs {h : Hw} {k : Nat} {args : List Byte} (io : HostIo) (r : SlotRuns h k 0x0406 args)
    (ha : args.length = 16 ∧ arg args 0 1 < 16 ∧ arg args 1 3 = 0) : effect (.snapTake (.slot k) io) h =
      finishRes (takeAct ⟨.slot k, 0x0406, args, false, []⟩ h).2 ⟨.slot k, 0x0406, args, false, []⟩ []
        (takeAct ⟨.slot k, 0x0406, args, false, []⟩ h).1 :=
  runCmd_slot r rfl (by simp [isLen, ha]) rfl rfl io takeAct

/-- Alone, a module takes the snapshot when its tests pass, and else ends with their status. -/
theorem takeAct_alone {h : Hw} {k : Nat} {args : List Byte} (hm : h.conf.members = [])
    (hr : h.seq.run ≠ .running ∨ h.frameEnded (arg args 8 8) = false ∨ h.takeTest (arg args 0 1) = stBusy) :
    takeAct ⟨.slot k, 0x0406, args, false, []⟩ h = if h.takeTest (arg args 0 1) = stOk then takeDo ⟨.slot k, 0x0406, args, false, []⟩ h
      else (.done (h.takeTest (arg args 0 1)) [] [], h) := by
  have hown : (if (h.takeTest (arg args 0 1) ≠ stBusy && ((h.seq.run = .running && arg args 8 8 != 0 && h.frameEnded (arg args 8 8)) : Bool))
      then stRefused else h.takeTest (arg args 0 1)) = h.takeTest (arg args 0 1) := by
    refine if_neg ?_
    rcases hr with hr | hr | hr <;> simp [hr]
  unfold takeAct
  rw [if_neg Bool.false_ne_true]
  dsimp only
  rw [crew_alone _ hm, crewRun_alone]
  simp only [hown]

theorem answers_of_take {s : State} {k st : Nat} {io : HostIo} {args reply : List Byte} {mid : Hw} {P : Hw → List Byte → Prop}
    (r : SlotRuns s.hw k 0x0406 args) (ha : args.length = 16 ∧ arg args 0 1 < 16 ∧ arg args 1 3 = 0)
    (hc : takeAct ⟨.slot k, 0x0406, args, false, []⟩ s.hw = (.done st reply [], mid)) (hst : st < 256) (hr : reply.length ≤ 224)
    (hP : P mid reply) : Answers (.snapTake (.slot k) io) s k st P :=
  answers_of_endCmd (ds := []) (output := []) r.1.src_ok (by rw [snapTake_runs io r ha, hc]; rfl) hst hr hP

/-- A test that fails ends the command and changes nothing. -/
theorem answers_of_takeTest {s : State} {k st : Nat} {io : HostIo} {args : List Byte} (r : SlotRuns s.hw k 0x0406 args)
    (ha : args.length = 16 ∧ arg args 0 1 < 16 ∧ arg args 1 3 = 0) (hm : s.hw.conf.members = [])
    (ht : s.hw.takeTest (arg args 0 1) = st) (hne : st ≠ stOk) (hst : st < 256)
    (hr : s.hw.seq.run ≠ .running ∨ s.hw.frameEnded (arg args 8 8) = false ∨ s.hw.takeTest (arg args 0 1) = stBusy) :
    Answers (.snapTake (.slot k) io) s k st fun m r => m = s.hw ∧ r = [] :=
  answers_of_take r ha (by rw [takeAct_alone hm hr, ht, if_neg hne]) hst (by decide) ⟨rfl, rfl⟩

theorem takeDo_alone {h : Hw} {k : Nat} {args : List Byte} (hm : h.conf.members = []) (ht : h.takeTest (arg args 0 1) = stOk) (f : Nat)
    (hf : (if h.seq.run = .held then h.lastFrame else if arg args 8 8 = 0 then h.firstAfterMs else arg args 8 8) = f)
    (he : h.seq.run ≠ .running ∨ h.frameEnded f = false) : takeDo ⟨.slot k, 0x0406, args, false, []⟩ h =
      (.done stOk (bytesOf 8 f) [], h.beginCapture (arg args 0 1) (arg args 4 4) f) := by
  unfold takeDo
  dsimp only
  rw [if_neg (by rw [ht]; exact fun e => e rfl), hf, if_neg (by rcases he with he | he <;> simp [he]), crew_alone _ hm]
  rfl

/-- The capture that a command begins, before its point. -/
def newCapture (slot id frame : Nat) : Capture :=
  { slot := slot, id := id, frame := frame, point := none, drained := [false, false], reported := [], failed := false, alt := 0
    quiet := false, poisoned := false, damage := [0, 0] }

/-- A capture has been scheduled. -/
def Hw.captureSet (h : Hw) (slot id frame : Nat) : Hw := { h with snap := { h.snap with capture := some (newCapture slot id frame) } }

theorem beginCapture_running {h : Hw} (hr : h.seq.run = .running) (slot id frame : Nat) :
    h.beginCapture slot id frame = h.captureSet slot id frame := by
  unfold Hw.beginCapture
  dsimp only
  rw [hr]
  rfl

/-- In HELD the point is taken at once. -/
theorem beginCapture_held {h : Hw} {ar : SnapArea} (hr : h.seq.run = .held) (slot id : Nat) (ha : h.snapArea slot = some ar) :
    ∃ m, ∃ c : Capture, c.slot = slot ∧ c.id = id ∧ c.point = some h.seq.padClk ∧ c.drained = [false, false] ∧
      FarOnly { h with snap := { h.snap with capture := some c, loftPlane := [], bankPlane := [], pages := [] } } m ∧
      h.beginCapture slot id h.lastFrame = m.pointRegs c ar (h.seq.frame.toNat + natBit h.seq.deferred) := by
  have hb : h.beginCapture slot id h.lastFrame = (h.captureSet slot id h.lastFrame).pointInHeld := by
    unfold Hw.beginCapture
    dsimp only
    rw [if_pos (by rw [hr]; exact (Bool.true_and _).trans (beq_self_eq_true _))]
    rfl
  have htake : ∀ frame dev alt, ∃ m, ∃ c : Capture, c.slot = slot ∧ c.id = id ∧ c.point = some h.seq.padClk ∧
      c.drained = [false, false] ∧
      FarOnly { h with snap := { h.snap with capture := some c, loftPlane := [], bankPlane := [], pages := [] } } m ∧
      (h.captureSet slot id h.lastFrame).takePoint frame dev alt = m.pointRegs c ar frame := fun frame dev alt => by
    obtain ⟨m, hm, he⟩ := takePoint_eq (h := h.captureSet slot id h.lastFrame) (c := newCapture slot id h.lastFrame) rfl ha frame dev alt
    exact ⟨m, _, rfl, rfl, rfl, rfl, hm, he⟩
  have hfr : (h.captureSet slot id h.lastFrame).seq = h.seq := rfl
  rw [hb]
  unfold Hw.pointInHeld
  rw [hfr]
  by_cases hd : h.seq.deferred = true
  · rw [if_pos hd, hd]
    exact htake ..
  · rw [if_neg hd, Bool.eq_false_iff.2 hd]
    exact htake ..

/-! ## The drain (R378 to R380) -/

/-- A drain in progress: far memory, registers beside the power state's, the capture's damage and the event path have changed. -/
structure Drains (h g : Hw) : Prop where
  rest : g = { h with
    regs := g.regs, farMem := g.farMem, farWb := g.farWb, snap := { h.snap with capture := g.snap.capture }
    fault := { h.fault with path := g.fault.path } }
  path : ∃ l, g.fault.path = h.fault.path ++ l
  goes : ∀ c, h.snap.capture = some c → c.slot < 16 →
    (∃ dm, g.snap.capture = some { c with damage := dm }) ∧ g.reg (powerA 0) = h.reg (powerA 0)

theorem Drains.trans {h g k : Hw} (a : Drains h g) (b : Drains g k) : Drains h k := by
  obtain ⟨l, hl⟩ := a.path
  obtain ⟨l', hl'⟩ := b.path
  refine ⟨by rw [b.rest, a.rest], ⟨l ++ l', by rw [hl', hl, List.append_assoc]⟩, fun c hc hs => ?_⟩
  obtain ⟨⟨dm, hg⟩, hp⟩ := a.goes c hc hs
  obtain ⟨⟨dm', hk⟩, hp'⟩ := b.goes _ hg hs
  exact ⟨⟨dm', hk⟩, hp'.trans hp⟩

theorem FarOnly.drains {h g : Hw} (a : FarOnly h g) : Drains h g := by
  rw [a]
  exact ⟨rfl, ⟨[], (List.append_nil _).symm⟩, fun c hc _ => ⟨⟨c.damage, hc⟩, rfl⟩⟩

theorem Drains.refl (h : Hw) : Drains h h := (FarOnly.refl h).drains

theorem Drains.foldl {α : Type} {f : Hw → α → Hw} (step : ∀ g x, Drains g (f g x)) (xs : List α) (h : Hw) : Drains h (xs.foldl f h) :=
  List.foldlRecOn (motive := Drains h) _ _ (.refl h) fun g hg x _ => hg.trans (step g x)

theorem drains_setReg (h : Hw) {a : Nat} (v : Word32) (ha : ∀ c, h.snap.capture = some c → c.slot < 16 → a ≠ powerA 0) :
    Drains h (h.setReg a v) :=
  ⟨rfl, ⟨[], (List.append_nil _).symm⟩, fun c hc hs =>
    ⟨⟨c.damage, hc⟩, (reg_setReg ..).trans (if_neg (Ne.symm (ha c hc hs)))⟩⟩

theorem drains_raise (h : Hw) (id : Nat) : Drains h (h.raise id) := by
  refine ⟨rfl, ?_, fun c hc _ => ⟨⟨c.damage, hc⟩, rfl⟩⟩
  unfold Hw.raise Hw.raiseWith
  dsimp only
  split
  · exact ⟨_, rfl⟩
  · exact ⟨[], (List.append_nil _).symm⟩

theorem drains_noteDamage {h : Hw} {c : Capture} (hc : h.snap.capture = some c) (d base : Nat) : Drains h (h.noteDamage c d base) := by
  unfold Hw.noteDamage
  extract_lets n q m k
  have hm : Drains h m := ⟨rfl, ⟨[], (List.append_nil _).symm⟩, fun c' hc' _ => by
    obtain rfl : c = c' := Option.some.inj (hc.symm.trans hc')
    exact ⟨⟨_, rfl⟩, rfl⟩⟩
  have hmc : m.snap.capture = some { c with damage := c.damage.set d n } := rfl
  have hk : FarOnly m k := farOnly_areaWord ..
  clear_value m k
  have hj := farOnly_areaWord k d base 0x60 (BitVec.ofNat 64 (n % 2 ^ 32))
  generalize k.areaWord d base 0x60 (BitVec.ofNat 64 (n % 2 ^ 32)) = j at hj
  have hjc : j.snap.capture = some { c with damage := c.damage.set d n } := by rw [hj, hk]; exact hmc
  refine ((hm.trans (hk.trans hj).drains).trans (drains_setReg j _ fun c' hc' hs => ?_)).trans (drains_raise _ _)
  obtain rfl : { c with damage := c.damage.set d n } = c' := Option.some.inj (hjc.symm.trans hc')
  have hs : c.slot < 16 := hs
  unfold snapSlotA hubA powerA
  omega

theorem drains_drainWord (h : Hw) (d base off : Nat) (w : Word78) : Drains h (h.drainWord d base off w) := by
  unfold Hw.drainWord
  split
  next c _ hc => exact (farOnly_areaWord h d base off 0).drains.trans (drains_noteDamage (h := h.areaWord d base off 0) hc d base)
  next => exact .refl h
  next => exact (farOnly_areaWord h d base off _).drains

theorem drains_drainLofts (h : Hw) (d base : Nat) : Drains h (h.drainLofts d base) :=
  (farOnly_dropFar h _).drains.trans (.foldl (fun g _ => drains_drainWord g ..) _ _)

theorem drains_drainBanks (h : Hw) (d base : Nat) : Drains h (h.drainBanks d base) := by
  unfold Hw.drainBanks
  extract_lets keys old m vkeys
  have hm : Drains h m := (farOnly_dropFar h _).drains.trans (.foldl (fun g _ => drains_drainWord g ..) _ _)
  clear_value m
  exact hm.trans ((farOnly_dropFar m _).drains.trans (.foldl (fun g _ => (farOnly_areaWord g ..).drains) _ _))

theorem drains_drainFar (h : Hw) (d base : Nat) : Drains h (h.drainFar d base) := by
  unfold Hw.drainFar
  extract_lets words marked src a0 m k j
  have hm : Drains h m := (farOnly_dropFar h _).drains
  have hk : Drains m k := .foldl (fun g x => by
    split
    · exact drains_drainWord g ..
    · exact .refl g) _ _
  have hj : Drains k j := .foldl (fun g _ => (farOnly_areaWord g ..).drains) _ _
  clear_value m k j
  exact ((hm.trans hk).trans hj).trans (farOnly_areaValid ..).drains

/-- The drain of one die, before it is noted. -/
def Hw.drainMem (h : Hw) (ar : SnapArea) (d : Nat) : Hw :=
  let b := ar.base.getD d 0
  let h := (h.drainLofts d b).drainBanks d b
  let h := if ar.far then h.drainFar d b else h
  h.setReg (hubA (0x204 + 4 * d)) 0

theorem drains_drainMem (h : Hw) (ar : SnapArea) {d : Nat} (hd : d < 2) : Drains h (h.drainMem ar d) := by
  unfold Hw.drainMem
  extract_lets b m k
  have hm : Drains h m := (drains_drainLofts ..).trans (drains_drainBanks ..)
  have hk : Drains m k := by
    show Drains m (if ar.far then m.drainFar d b else m)
    split
    · exact drains_drainFar ..
    · exact .refl m
  clear_value m k
  exact (hm.trans hk).trans (drains_setReg k 0 fun _ _ _ => by unfold hubA powerA; omega)

/-- A die's drain has ended: as `Drains`, and the capture has noted it. -/
theorem drainDie_drained {h : Hw} {c : Capture} (hc : h.snap.capture = some c) (hs : c.slot < 16) (ar : SnapArea) {d : Nat} (hd : d < 2) :
    ∃ m, Drains h m ∧ ∃ dm, m.snap.capture = some { c with damage := dm } ∧ m.reg (powerA 0) = h.reg (powerA 0) ∧
      h.drainDie ar d = { m with snap := { m.snap with capture := some { c with damage := dm, drained := c.drained.set d true } } } := by
  have hdr := drains_drainMem h ar hd
  have heq : h.drainDie ar d = match (h.drainMem ar d).snap.capture with
    | some c => { h.drainMem ar d with
        snap := { (h.drainMem ar d).snap with capture := some { c with drained := c.drained.set d true } } }
    | none => h.drainMem ar d := rfl
  rw [heq]
  generalize h.drainMem ar d = m at hdr
  obtain ⟨⟨dm, hm⟩, hp⟩ := hdr.goes c hc hs
  refine ⟨m, hdr, dm, hm, hp, ?_⟩
  rw [hm]

/-- Both dies have drained. -/
structure BothDrained (h g : Hw) (c : Capture) : Prop where
  rest : g = { h with
    regs := g.regs, farMem := g.farMem, farWb := g.farWb, snap := { h.snap with capture := g.snap.capture }
    fault := { h.fault with path := g.fault.path } }
  path : ∃ l, g.fault.path = h.fault.path ++ l
  capture : ∃ dm, g.snap.capture = some { c with damage := dm, drained := [true, true] }
  power : g.reg (powerA 0) = h.reg (powerA 0)

theorem bothDrained {h : Hw} {c : Capture} (hc : h.snap.capture = some c) (hs : c.slot < 16) (hl : c.drained.length = 2)
    (ar : SnapArea) : BothDrained h ((h.drainDie ar 0).drainDie ar 1) c := by
  obtain ⟨m0, hm0, dm0, -, hp0, he0⟩ := drainDie_drained hc hs ar (d := 0) (by omega)
  rw [he0]
  generalize hk : ({ m0 with
    snap := { m0.snap with capture := some { c with damage := dm0, drained := c.drained.set 0 true } } } : Hw) = k
  have hkc : k.snap.capture = some { c with damage := dm0, drained := c.drained.set 0 true } := by rw [← hk]
  have hkr : k = { m0 with snap := { m0.snap with capture := k.snap.capture } } := by rw [← hk]
  have hkp : k.reg (powerA 0) = m0.reg (powerA 0) := by rw [hkr]; rfl
  clear hk
  obtain ⟨m1, hm1, dm1, -, hp1, he1⟩ := drainDie_drained hkc hs ar (d := 1) (by omega)
  obtain ⟨l0, hl0⟩ := hm0.path
  obtain ⟨l1, hl1⟩ := hm1.path
  have hset : (c.drained.set 0 true).set 1 true = [true, true] := by
    match c.drained, hl with
    | [_, _], _ => rfl
  rw [he1]
  refine ⟨?_, ⟨l0 ++ l1, ?_⟩, ⟨dm1, ?_⟩, ?_⟩
  · rw [hm1.rest, hkr, hm0.rest]
  · rw [← List.append_assoc, ← hl0, show m0.fault = k.fault by rw [hkr]]
    exact hl1
  · rw [← hset]
  · exact hp1.trans (hkp.trans hp0)

theorem setAreaState_split {h : Hw} {k : Nat} {ar : SnapArea} (ha : h.snapArea k = some ar) (state : Nat) :
    ∃ m, FarOnly h m ∧ FarOnly (m.fset (snapSlotA k 0) 3 2 state) (h.setAreaState k state) := by
  unfold Hw.setAreaState
  rw [ha]
  exact ⟨_, farOnly_areaWord h 0 _ _ _, farOnly_areaWord ..⟩

/-- What the end of a capture leaves of its registers, and that nothing beside them, far memory and the planes has changed. -/
theorem endCapture_fields {h : Hw} {c : Capture} {ar : SnapArea} (hs : c.slot < 16) (ha : h.snapArea c.slot = some ar) {state : Nat}
    (hst : state < 4) : (h.endCapture c state).snap.capture = none ∧ (h.endCapture c state).areaState c.slot = state ∧
      (h.endCapture c state).reg snapStatA = BitVec.ofNat 32 (2 * c.slot) ∧
      (h.endCapture c state).reg (powerA 0) = h.reg (powerA 0) ∧
      h.endCapture c state = { h with
        regs := (h.endCapture c state).regs, farMem := (h.endCapture c state).farMem, farWb := (h.endCapture c state).farWb
        snap := (h.endCapture c state).snap } := by
  obtain ⟨m, hm, hk⟩ := setAreaState_split ha state
  unfold Hw.endCapture
  generalize h.setAreaState c.slot state = k at hk
  have hslot : ∀ a, a = snapStatA ∨ a = hubA 0x204 ∨ a = hubA 0x208 ∨ a = hubA 0x20C → snapSlotA c.slot 0 ≠ a := fun a h => by
    rcases h with rfl | rfl | rfl | rfl <;> (unfold snapSlotA; simp only [snapStatA, hubA]; omega)
  have hpow : ∀ a, a = snapStatA ∨ a = hubA 0x204 ∨ a = hubA 0x208 ∨ a = hubA 0x20C ∨ a = snapSlotA c.slot 0 → powerA 0 ≠ a :=
    fun a h => by rcases h with rfl | rfl | rfl | rfl | rfl <;> simp only [snapStatA, hubA, powerA, snapSlotA] <;> omega
  have hkslot : k.fget (snapSlotA c.slot 0) 3 2 = state := by
    unfold Hw.fget
    rw [hk.reg]
    exact (fget_fset_same m _ _ _ _ (by decide)).trans (Nat.mod_eq_of_lt hst)
  have hkpow : k.reg (powerA 0) = h.reg (powerA 0) := by
    rw [hk.reg]
    exact ((reg_fset ..).trans (if_neg (hpow _ (by simp)))).trans (hm.reg _)
  have hkr : k = { h with regs := k.regs, farMem := k.farMem, farWb := k.farWb } := by
    rw [hk, hm]
    rfl
  clear hk
  extract_lets k' j i q
  have hjs : j.reg snapStatA = BitVec.ofNat 32 (2 * c.slot) := by
    simp only [j, Hw.clearRegs, List.foldl_cons, List.foldl_nil]
    rw [reg_setReg, if_neg (by decide), reg_setReg, if_neg (by decide), reg_setReg_same]
  have hjo : ∀ a, a ≠ snapStatA → a ≠ hubA 0x204 → a ≠ hubA 0x208 → j.reg a = k.reg a := fun a h0 h1 h2 => by
    simp only [j, Hw.clearRegs, List.foldl_cons, List.foldl_nil]
    rw [reg_setReg, if_neg h2, reg_setReg, if_neg h1, reg_setReg, if_neg h0]
  have hjr : RegsSet k j := (regsSet_setReg ..).trans (regsSet_clearRegs ..)
  have hir : RegsSet j i := by
    show RegsSet j (if state = 2 then j.bump (hubA 0x20C) 15 0 else j.bump (hubA 0x20C) 31 16)
    split <;> exact regsSet_setReg ..
  have hio : ∀ a, a ≠ hubA 0x20C → i.reg a = j.reg a := fun a h0 => by
    show (if state = 2 then j.bump (hubA 0x20C) 15 0 else j.bump (hubA 0x20C) 31 16).reg a = _
    split <;> exact (reg_setReg ..).trans (if_neg h0)
  clear_value i j
  refine ⟨rfl, ?_, ?_, ?_, ?_⟩
  · show fld (i.reg (snapSlotA c.slot 0)) 3 2 = state
    rw [hio _ (hslot _ (by simp)), hjo _ (hslot _ (by simp)) (hslot _ (by simp)) (hslot _ (by simp))]
    exact hkslot
  · exact (hio _ (by decide)).trans hjs
  · exact (hio _ (by decide)).trans ((hjo _ (by decide) (by decide) (by decide)).trans hkpow)
  · rw [hir, hjr, hkr]

/-- SNAP_DRAIN_DONE of a module without members: the capture ends as its point was met or missed. -/
theorem snapDrainDone_effect {h : Hw} {c : Capture} {ar : SnapArea} {p : Nat} (hc : h.snap.capture = some c) (hp : c.point = some p)
    (hs : c.slot < 16) (ha : h.snapArea c.slot = some ar) (hd : c.drained.all id = false) (hw : ar.far = false ∨ h.preWrites p = false)
    (hm : h.conf.members = []) (hi : h.isMember = false) (hl : c.drained.length = 2) : ∃ m c', BothDrained h m c ∧ c'.slot = c.slot ∧
      effect .snapDrainDone h = if c.failed then m.endCapture c' 3 else (m.endCapture c' 2).raise evSnapDone := by
  have hb := bothDrained hc hs hl ar
  have hex : effect .snapDrainDone h = ((h.drainDie ar 0).drainDie ar 1).snapFinish := by
    show execSnapDrainDone h = _
    unfold execSnapDrainDone
    rw [hc]
    dsimp only
    rw [ha, hp]
    dsimp only
    rw [hd]
    refine if_neg ?_
    rcases hw with hw | hw <;> simp [hw]
  rw [hex]
  generalize (h.drainDie ar 0).drainDie ar 1 = m at hb
  obtain ⟨dm, hmc⟩ := hb.capture
  have hconf : m.conf = h.conf := by rw [hb.rest]
  have hmem : m.isMember = false := by rw [← hi, hb.rest]; rfl
  refine ⟨m, _, hb, rfl, ?_⟩
  unfold Hw.snapFinish
  rw [hmc]
  dsimp only
  rw [hp, hmem, hconf, hm]
  rfl

end Sys2Proof.Machine
end

section
-- As the tests above: declarations in order, so that checking the one text stays within its memory.
set_option Elab.async false
/-!
PROOFS. Snapshots, restored (R382, R383), and the three commands as the statement has them (O23).
-/

namespace Sys2Proof.Machine

/-! ## The steps of a restore -/

theorem areaRead_congr {h g : Hw} (hf : g.farMem = h.farMem) (d base off : Nat) : g.areaRead d base off = h.areaRead d base off := by
  unfold Hw.areaRead Hw.farWord
  rw [hf]

/-- A restore that performs its next step. -/
def Hw.restoring (h : Hw) (k n : Nat) : Hw := { h with snap := { h.snap with restore := some (k, n) } }

theorem restoreNext_step {h : Hw} {k n : Nat} {ar : SnapArea} (hr : h.snap.restore = some (k, n)) (ha : h.snapArea k = some ar) :
    h.restoreNext = (h.restoring k (n + 1)).restoreStep ar n := by
  have hk : (h.restoring k (n + 1)).snapArea k = some ar := ha
  unfold Hw.restoreNext
  rw [hr]
  show (match (h.restoring k (n + 1)).snapArea k with
    | some ar => (h.restoring k (n + 1)).restoreStep ar n
    | none => (h.restoring k (n + 1)).restoreEnd) = _
  rw [hk]

/-- The memories alone have changed, and far memory only where the area holds its DESIGN region. -/
structure MemsBack (far : Bool) (h g : Hw) : Prop where
  rest : g = { h with
    lofts := g.lofts, bankMem := g.bankMem, bankValid := g.bankValid, farMem := g.farMem, farValid := g.farValid, farWb := g.farWb }
  farMem : far = false → g.farMem = h.farMem

theorem MemsBack.trans {far : Bool} {h g k : Hw} (a : MemsBack far h g) (b : MemsBack far g k) : MemsBack far h k :=
  ⟨by rw [b.rest, a.rest], fun e => (b.farMem e).trans (a.farMem e)⟩

theorem memsBack_restoreDie (h : Hw) (ar : SnapArea) (d : Nat) : MemsBack ar.far h (h.restoreDie ar d) := by
  unfold Hw.restoreDie
  extract_lets b lofts bm bits bv g words ws vs k
  have hg : MemsBack ar.far h g := ⟨rfl, fun _ => rfl⟩
  have hk : MemsBack ar.far g k := by
    cases hf : ar.far with
    | false =>
      have he : k = g := if_pos (by rw [hf]; rfl)
      rw [he]
      exact ⟨rfl, fun _ => rfl⟩
    | true =>
      have he : k = { g with farMem := k.farMem, farValid := k.farValid, farWb := k.farWb } := by
        simp only [k, hf, Bool.not_true, Bool.false_eq_true, if_false]
      exact ⟨by rw [he], fun e => absurd e (by decide)⟩
  clear_value g k
  exact hg.trans hk

theorem regsSet_restoreOut (h : Hw) (ar : SnapArea) (d : Nat) : RegsSet h (h.restoreOut ar d) :=
  .foldl (fun g _ => regsSet_setReg g ..) _ _

/-- The module in the state of Table 9.7, before SNAP_STAT shows it. -/
def Hw.restoreStopped (h : Hw) (k : Nat) : Hw :=
  ({ h.allBanks 1 with ioOut := [], done := keepMarks h.done, scrubSince := [], scrubSlots := []
                       snap := { h.snap with restore := some (k, 2) } } : Hw).updSeq fun s => { s with
    run := .empty, inFrame := false, poisoned := false, halts := [], stallReqs := [], syms := [], caps := []
    starting := none }

theorem restoreBegin_eq {h : Hw} {k : Nat} {ar : SnapArea} (ha : h.snapArea k = some ar) :
    h.restoreBegin k = (h.restoreStopped k).fset snapStatA 5 5 1 := by
  unfold Hw.restoreBegin
  rw [ha]
  rfl

/-- What is left of a state when a restore begins. -/
structure Stopped (k : Nat) (h g : Hw) : Prop where
  run : g.seq.run = .empty
  inFrame : g.seq.inFrame = false
  banks : ∀ d j, d < 2 → j < 64 → g.fget (bankA d (4 * j)) 2 0 = 1
  rest : g = { h with
    regs := g.regs, seq := g.seq, ioOut := [], done := keepMarks h.done, scrubSince := [], scrubSlots := []
    snap := { h.snap with restore := some (k, 2) } }

theorem stopped_restoreStopped (h : Hw) (k : Nat) : Stopped k h (h.restoreStopped k) := by
  have hbank : ∀ d j, d < 2 → j < 64 → (h.allBanks 1).fget (bankA d (4 * j)) 2 0 = 1 := fun d j hd hj => by
    rw [Hw.fget, reg_allBanks h 1 hd hj]
    decide
  have hregs := regsSet_allBanks h 1
  unfold Hw.restoreStopped
  generalize h.allBanks 1 = m at hbank hregs
  refine ⟨rfl, rfl, hbank, ?_⟩
  rw [hregs]
  rfl

/-- What the first step finds and leaves (Table 9.7). -/
theorem restoreBegin_stopped {h : Hw} {k : Nat} {ar : SnapArea} (ha : h.snapArea k = some ar) :
    Stopped k h (h.restoreBegin k) ∧ (h.restoreBegin k).bget snapStatA 5 = true := by
  have hs := stopped_restoreStopped h k
  rw [restoreBegin_eq ha]
  generalize h.restoreStopped k = q at hs
  refine ⟨⟨hs.run, hs.inFrame, fun d j hd hj => ?_, ?_⟩, (bget_fset _ _ _ _ _ _ _ (by decide)).trans (if_pos ⟨rfl, by decide, by decide⟩)⟩
  · have hne : bankA d (4 * j) ≠ snapStatA := by unfold bankA dieBase snapStatA hubA; omega
    rw [Hw.fget, reg_fset, if_neg hne]
    exact hs.banks d j hd hj
  · rw [show q.fset snapStatA 5 5 1 = { q with regs := (q.fset snapStatA 5 5 1).regs } from rfl, hs.rest]

/-- The frame number, the vector and the select of an area are in force. -/
structure Renumbered (b : Nat) (h g : Hw) : Prop where
  seq : g.seq = { h.seq with
    frame := h.areaRead 0 b 8, dev := h.areaRead 0 b 0x10, devNext := h.areaRead 0 b 0x10, alt := fld (h.areaRead 0 b 0x18) 3 0
    altNext := fld (h.areaRead 0 b 0x18) 3 0, deferred := false }
  rest : g = { h with regs := g.regs, seq := g.seq }

theorem restoreNumbers_renumbered (h : Hw) (ar : SnapArea) : Renumbered (ar.base.getD 0 0) h (h.restoreNumbers ar) := by
  unfold Hw.restoreNumbers
  extract_lets b dev alt
  have hr : RegsSet h ((h.restoreOut ar 0).restoreOut ar 1) := (regsSet_restoreOut h ar 0).trans (regsSet_restoreOut _ ar 1)
  generalize (h.restoreOut ar 0).restoreOut ar 1 = m at hr
  refine ⟨?_, ?_⟩
  · rw [hr]
    rfl
  · rw [hr]
    rfl

theorem clearCalls_gone (h : Hw) : h.clearCalls.calls.slots = [] ∧ h.clearCalls.calls.results = [] ∧
    h.clearCalls = { h with regs := h.clearCalls.regs, calls := h.clearCalls.calls } := by
  obtain ⟨l, hl⟩ := clearCalls_regs h
  refine ⟨?_, ?_, ?_⟩ <;> rw [hl] <;> rfl

theorem syncIfOn_restored (h : Hw) : h.syncIfOn 3 = { h with regs := (h.syncIfOn 3).regs, trace := (h.syncIfOn 3).trace } ∧
    ∀ a, a ≠ traceA 0x34 → (h.syncIfOn 3).reg a = h.reg a := by
  unfold Hw.syncIfOn
  split
  · have st := staged_stageSync h (r := 3) (by decide)
    exact ⟨st.rest, fun a ha => st.reg a (by simpa using ha)⟩
  · exact ⟨rfl, fun _ _ => rfl⟩

/-- The restore has ended (R383, steps 6 and 7). -/
structure RestoreEnded (h g : Hw) : Prop where
  seq : g.seq = { h.seq with run := .held, haltReason := 0 }
  banks : ∀ d j, d < 2 → j < 64 → g.reg (bankA d (4 * j)) = 0
  shown : g.bget snapStatA 5 = false
  rest : g = { h with regs := g.regs, trace := g.trace, seq := g.seq, snap := { h.snap with restore := none } }

/-- The module is HELD again, before SNAP_STAT shows it. -/
def Hw.restoreHeld (h : Hw) : Hw :=
  ({ h.allBanks 0 with snap := { h.snap with restore := none } } : Hw).updSeq fun s => { s with run := .held, haltReason := 0 }

theorem restoreEnd_eq (h : Hw) : h.restoreEnd = (h.restoreHeld.fset snapStatA 5 5 0).syncIfOn 3 := rfl

theorem restoreHeld_fields (h : Hw) : h.restoreHeld.seq = { h.seq with run := .held, haltReason := 0 } ∧
    (∀ d j, d < 2 → j < 64 → h.restoreHeld.reg (bankA d (4 * j)) = 0) ∧
    h.restoreHeld = { h with regs := h.restoreHeld.regs, seq := h.restoreHeld.seq, snap := { h.snap with restore := none } } := by
  have hbank : ∀ d j, d < 2 → j < 64 → (h.allBanks 0).reg (bankA d (4 * j)) = 0 := fun d j hd hj => reg_allBanks h 0 hd hj
  have hregs := regsSet_allBanks h 0
  unfold Hw.restoreHeld
  generalize h.allBanks 0 = m at hbank hregs
  refine ⟨?_, hbank, ?_⟩ <;> rw [hregs] <;> rfl

theorem restoreEnd_ended (h : Hw) : RestoreEnded h h.restoreEnd := by
  obtain ⟨hqs, hqb, hqh⟩ := restoreHeld_fields h
  rw [restoreEnd_eq]
  generalize h.restoreHeld = q at hqs hqb hqh
  generalize hf : q.fset snapStatA 5 5 0 = f
  have hfs : f = { q with regs := f.regs } := by rw [← hf]; rfl
  have hfb : f.bget snapStatA 5 = false := by
    rw [← hf, bget_fset _ _ _ _ _ _ _ (by decide), if_pos ⟨rfl, by decide, by decide⟩]
    rfl
  have hfr : ∀ d j, d < 2 → j < 64 → f.reg (bankA d (4 * j)) = 0 := fun d j hd hj => by
    have hne : bankA d (4 * j) ≠ snapStatA := by unfold bankA dieBase snapStatA hubA; omega
    rw [← hf, reg_fset, if_neg hne, hqb d j hd hj]
  clear hf
  obtain ⟨hrest, hreg⟩ := syncIfOn_restored f
  generalize f.syncIfOn 3 = g at hrest hreg
  refine ⟨?_, fun d j hd hj => ?_, ?_, ?_⟩
  · rw [hrest, hfs]
    exact hqs
  · rw [hreg _ (by unfold bankA dieBase traceA; omega), hfr d j hd hj]
  · rw [bget_congr (hreg _ (by decide)), hfb]
  · rw [hrest, hfs, hqh]

/-! ## The whole restore -/

/-- What five further steps leave of a state in which a restore has begun. -/
structure Restored (ar : SnapArea) (h m : Hw) : Prop where
  seq : m.seq = { h.seq with
    run := .held, haltReason := 0, frame := m.areaRead 0 (ar.base.getD 0 0) 8, dev := m.areaRead 0 (ar.base.getD 0 0) 0x10
    devNext := m.areaRead 0 (ar.base.getD 0 0) 0x10, alt := fld (m.areaRead 0 (ar.base.getD 0 0) 0x18) 3 0
    altNext := fld (m.areaRead 0 (ar.base.getD 0 0) 0x18) 3 0, deferred := false }
  banks : ∀ d j, d < 2 → j < 64 → m.reg (bankA d (4 * j)) = 0
  shown : m.bget snapStatA 5 = false
  trusses : m.trusses = []
  bankCmds : m.banks = []
  qpairs : m.qpairs = []
  slots : m.calls.slots = []
  results : m.calls.results = []
  farMem : ar.far = false → m.farMem = h.farMem
  rows : m.rows = h.rows
  bundles : m.bundles = h.bundles
  plan : m.plan = h.plan
  snap : m.snap = { h.snap with restore := none }

/-- The array's memories that no step of a restore writes after the second. -/
def Hw.coursePart (h : Hw) : Store Truss × Store Bank × Store Row × Store Bundle × Store Word64 :=
  (h.trusses, h.banks, h.rows, h.bundles, h.plan)

theorem snapArea_of_snap {h g : Hw} {r : Option (Nat × Nat)} (hs : g.snap = { h.snap with restore := r }) (k : Nat) :
    g.snapArea k = h.snapArea k := by
  unfold Hw.snapArea
  rw [hs]

/-- Step 2 clears the array. -/
theorem restoreNext_clears {h : Hw} {k : Nat} {ar : SnapArea} (hr : h.snap.restore = some (k, 2)) (ha : h.snapArea k = some ar) :
    h.restoreNext.snap = { h.snap with restore := some (k, 3) } ∧ h.restoreNext.seq = h.seq ∧ h.restoreNext.farMem = h.farMem ∧
      h.restoreNext.coursePart = ([], [], h.rows, h.bundles, h.plan) := by
  rw [restoreNext_step hr ha]
  exact ⟨rfl, rfl, rfl, rfl⟩

/-- Step 3 brings the memories back. -/
theorem restoreNext_memories {h : Hw} {k : Nat} {ar : SnapArea} (hr : h.snap.restore = some (k, 3)) (ha : h.snapArea k = some ar) :
    h.restoreNext.snap = { h.snap with restore := some (k, 4) } ∧ h.restoreNext.seq = h.seq ∧
      (ar.far = false → h.restoreNext.farMem = h.farMem) ∧ h.restoreNext.coursePart = h.coursePart := by
  rw [restoreNext_step hr ha]
  have hm : MemsBack ar.far (h.restoring k 4) ((h.restoring k 4).restoreStep ar 3) :=
    (memsBack_restoreDie _ ar 0).trans (memsBack_restoreDie _ ar 1)
  generalize (h.restoring k 4).restoreStep ar 3 = g at hm
  exact ⟨by rw [hm.rest]; rfl, by rw [hm.rest]; rfl, hm.farMem, by rw [hm.rest]; rfl⟩

/-- Step 4 brings the numbers back. -/
theorem restoreNext_numbers {h : Hw} {k : Nat} {ar : SnapArea} (hr : h.snap.restore = some (k, 4)) (ha : h.snapArea k = some ar) :
    h.restoreNext.snap = { h.snap with restore := some (k, 5) } ∧ h.restoreNext.farMem = h.farMem ∧
      h.restoreNext.coursePart = h.coursePart ∧ h.restoreNext.seq = { h.seq with
        frame := h.areaRead 0 (ar.base.getD 0 0) 8, dev := h.areaRead 0 (ar.base.getD 0 0) 0x10
        devNext := h.areaRead 0 (ar.base.getD 0 0) 0x10, alt := fld (h.areaRead 0 (ar.base.getD 0 0) 0x18) 3 0
        altNext := fld (h.areaRead 0 (ar.base.getD 0 0) 0x18) 3 0, deferred := false } := by
  rw [restoreNext_step hr ha]
  have hm : Renumbered (ar.base.getD 0 0) (h.restoring k 5) ((h.restoring k 5).restoreStep ar 4) := restoreNumbers_renumbered _ ar
  generalize (h.restoring k 5).restoreStep ar 4 = g at hm
  exact ⟨by rw [hm.rest]; rfl, by rw [hm.rest]; rfl, by rw [hm.rest]; rfl, hm.seq⟩

/-- Step 5 empties the queues and cancels every call. -/
theorem restoreNext_queues {h : Hw} {k : Nat} {ar : SnapArea} (hr : h.snap.restore = some (k, 5)) (ha : h.snapArea k = some ar) :
    h.restoreNext.snap = { h.snap with restore := some (k, 6) } ∧ h.restoreNext.farMem = h.farMem ∧
      h.restoreNext.coursePart = h.coursePart ∧ h.restoreNext.seq = h.seq ∧ h.restoreNext.qpairs = [] ∧
      h.restoreNext.calls.slots = [] ∧ h.restoreNext.calls.results = [] := by
  rw [restoreNext_step hr ha]
  obtain ⟨hs, hres, hm⟩ := clearCalls_gone ({ h.restoring k 6 with qpairs := [] })
  rw [show (h.restoring k 6).restoreStep ar 5 = ({ h.restoring k 6 with qpairs := [] } : Hw).clearCalls from rfl]
  generalize ({ h.restoring k 6 with qpairs := [] } : Hw).clearCalls = g at hs hres hm
  exact ⟨by rw [hm]; rfl, by rw [hm]; rfl, by rw [hm]; rfl, by rw [hm]; rfl, by rw [hm], hs, hres⟩

/-- Steps 6 and 7 end the restore. -/
theorem restoreNext_ends {h : Hw} {k : Nat} {ar : SnapArea} (hr : h.snap.restore = some (k, 6)) (ha : h.snapArea k = some ar) :
    h.restoreNext.snap = { h.snap with restore := none } ∧ h.restoreNext.farMem = h.farMem ∧
      h.restoreNext.coursePart = h.coursePart ∧ h.restoreNext.seq = { h.seq with run := .held, haltReason := 0 } ∧
      h.restoreNext.qpairs = h.qpairs ∧ h.restoreNext.calls = h.calls ∧
      (∀ d j, d < 2 → j < 64 → h.restoreNext.reg (bankA d (4 * j)) = 0) ∧ h.restoreNext.bget snapStatA 5 = false := by
  rw [restoreNext_step hr ha]
  have hm : RestoreEnded (h.restoring k 7) ((h.restoring k 7).restoreStep ar 6) := restoreEnd_ended _
  generalize (h.restoring k 7).restoreStep ar 6 = g at hm
  exact ⟨by rw [hm.rest]; rfl, by rw [hm.rest]; rfl, by rw [hm.rest]; rfl, hm.seq, by rw [hm.rest]; rfl, by rw [hm.rest]; rfl,
    hm.banks, hm.shown⟩

theorem restored_of_begun {h : Hw} {k : Nat} {ar : SnapArea} (hr : h.snap.restore = some (k, 2)) (ha : h.snapArea k = some ar) :
    Restored ar h (Nat.iterate Hw.restoreNext 5 h) := by
  rw [show Nat.iterate Hw.restoreNext 5 h = h.restoreNext.restoreNext.restoreNext.restoreNext.restoreNext from rfl]
  obtain ⟨s1, q1, f1, p1⟩ := restoreNext_clears hr ha
  generalize h.restoreNext = g1 at s1 q1 f1 p1 ⊢
  obtain ⟨s2, q2, f2, p2⟩ := restoreNext_memories (h := g1) (by rw [s1]) ((snapArea_of_snap s1 k).trans ha)
  rw [s1] at s2
  generalize g1.restoreNext = g2 at s2 q2 f2 p2 ⊢
  obtain ⟨s3, f3, p3, q3⟩ := restoreNext_numbers (h := g2) (by rw [s2]) ((snapArea_of_snap s2 k).trans ha)
  rw [s2] at s3
  generalize g2.restoreNext = g3 at s3 f3 p3 q3 ⊢
  obtain ⟨s4, f4, p4, q4, hq4, hs4, hr4⟩ := restoreNext_queues (h := g3) (by rw [s3]) ((snapArea_of_snap s3 k).trans ha)
  rw [s3] at s4
  generalize g3.restoreNext = g4 at s4 f4 p4 q4 hq4 hs4 hr4 ⊢
  obtain ⟨s5, f5, p5, q5, hq5, hc5, hbanks, hshown⟩ := restoreNext_ends (h := g4) (by rw [s4]) ((snapArea_of_snap s4 k).trans ha)
  rw [s4] at s5
  generalize g4.restoreNext = g5 at s5 f5 p5 q5 hq5 hc5 hbanks hshown ⊢
  have hfar : g5.farMem = g2.farMem := f5.trans (f4.trans f3)
  have hread : ∀ o, g2.areaRead 0 (ar.base.getD 0 0) o = g5.areaRead 0 (ar.base.getD 0 0) o := fun o => areaRead_congr hfar.symm ..
  have part := p5.trans (p4.trans (p3.trans (p2.trans p1)))
  simp only [Hw.coursePart, Prod.mk.injEq] at part
  obtain ⟨ht, hb, hrows, hbundles, hplan⟩ := part
  refine ⟨?_, hbanks, hshown, ht, hb, hq5.trans hq4, by rw [hc5, hs4], by rw [hc5, hr4],
    fun e => hfar.trans ((f2 e).trans f1), hrows, hbundles, hplan, s5⟩
  rw [q5, q4, q3, q2, q1, hread, hread, hread]

/-! ## SNAP_RESTORE -/

/-- What SNAP_RESTORE performs on a module whose tests it has begun. -/
def restoreAct (c : Call0) (h : Hw) : Res × Hw :=
  if c.share then restoreShare c h
  else
    let k := arg c.args 0 1
    let id := (h.reg (snapSlotA k 4)).toNat
    let frame := (h.reg64 (snapSlotA k 8)).toNat
    h.crewRun c (h.crew c) (h.restoreTest k id frame) (c.args.take 1 ++ bytesOf 4 id ++ bytesOf 8 frame) restoreDo

/-- The tests of SNAP_RESTORE with the ID and FRAME of the area itself. -/
def Hw.ownRestoreTest (h : Hw) (k : Nat) : Nat :=
  h.restoreTest k (h.reg (snapSlotA k 4)).toNat (h.reg64 (snapSlotA k 8)).toNat

theorem snapRestore_runs {h : Hw} {k : Nat} {x : BitVec 8} (io : HostIo) (r : SlotRuns h k 0x0407 [x]) (hx : x.toNat < 16) :
    effect (.snapRestore (.slot k) io) h =
      finishRes (restoreAct ⟨.slot k, 0x0407, [x], false, []⟩ h).2 ⟨.slot k, 0x0407, [x], false, []⟩ []
        (restoreAct ⟨.slot k, 0x0407, [x], false, []⟩ h).1 :=
  runCmd_slot r rfl (by simp [isLen, arg, ofBytes, hx]) rfl rfl io restoreAct

theorem restoreAct_alone {h : Hw} {k : Nat} {x : BitVec 8} (hm : h.conf.members = []) :
    restoreAct ⟨.slot k, 0x0407, [x], false, []⟩ h = if h.ownRestoreTest x.toNat = stOk
      then (.wait 1 stOk [] [], h.restoreBegin x.toNat) else (.done (h.ownRestoreTest x.toNat) [] [], h) := by
  have hx : arg [x] 0 1 = x.toNat := by simp [arg, ofBytes]
  unfold restoreAct
  rw [if_neg Bool.false_ne_true]
  dsimp only
  rw [crew_alone _ hm, crewRun_alone, hx]
  unfold restoreDo
  dsimp only
  rw [crew_alone _ hm, hx]
  rfl

end Sys2Proof.Machine
end

section
-- As the tests above: declarations in order, so that checking the one text stays within its memory.
set_option Elab.async false
/-!
PROOFS. SNAP_TAKE, SNAP_DRAIN_DONE and SNAP_RESTORE as the statement has them (O23).
-/

namespace Sys2Proof.Machine

section
variable {s : State} {k : Nat} {io : HostIo}

/-- The tests of a module in EMPTY. -/
theorem takeTest_empty {h : Hw} (hc : h.snap.capture = none) (hr : h.seq.run = .empty) (slot : Nat) :
    h.takeTest slot = if h.img.applyPending || h.snap.restore.isSome then stNotReady else stRefused := by
  unfold Hw.takeTest
  rw [hc, hr]
  cases h.img.applyPending || h.snap.restore.isSome <;> rfl

/-- The tests of a module in HELD or RUNNING, by its slot's area. -/
theorem takeTest_ready {h : Hw} (hc : h.snap.capture = none) (hr : h.seq.run = .held ∨ h.seq.run = .running) (slot : Nat) :
    (h.snapArea slot = none → h.takeTest slot = stNoResource) ∧
      (∀ ar, h.snapArea slot = some ar → h.areaState slot ≠ 3 → h.takeTest slot = stOk) := by
  have hne : ¬((h.seq.run = .empty && (h.img.applyPending || h.snap.restore.isSome)) = true) := by
    rcases hr with hr | hr <;> rw [hr] <;> simp
  have hok : ¬((!(h.seq.run = .running || h.seq.run = .held)) = true) := by rcases hr with hr | hr <;> rw [hr] <;> simp
  unfold Hw.takeTest
  rw [hc, if_neg (by simp), if_neg hne, if_neg hok]
  refine ⟨fun ha => ?_, fun ar ha hs => ?_⟩
  · rw [ha]
    rfl
  · rw [ha, if_neg (by simpa using hs)]
    rfl

theorem snapTake_held {args : List Byte} (ha : args.length = 16 ∧ arg args 0 1 < 16 ∧ arg args 1 3 = 0)
    (hm : s.hw.conf.members = []) (r : SlotRuns s.hw k 0x0406 args) (hc : s.hw.snap.capture = none) (hr : s.hw.seq.run = .held)
    {ar : SnapArea} (har : s.hw.snapArea (arg args 0 1) = some ar) (hst : s.hw.areaState (arg args 0 1) ≠ 3) :
    Answers (.snapTake (.slot k) io) s k stOk fun m r => r = bytesOf 8 s.hw.lastFrame ∧
      (∃ c, m.snap.capture = some c ∧ c.slot = arg args 0 1 ∧ c.id = arg args 4 4 ∧ c.point = some s.hw.seq.padClk ∧
        c.drained = [false, false]) ∧
      m.reg snapStatA = BitVec.ofNat 32 (1 + 2 * arg args 0 1) ∧ m.areaState (arg args 0 1) = 1 ∧
      m.reg (snapSlotA (arg args 0 1) 4) = BitVec.ofNat 32 (arg args 4 4) ∧
      m.reg64 (snapSlotA (arg args 0 1) 8) = BitVec.ofNat 64 (s.hw.seq.frame.toNat + natBit s.hw.seq.deferred) ∧
      m = { s.hw with regs := m.regs, farMem := m.farMem, farWb := m.farWb, snap := m.snap } := by
  have ht := (takeTest_ready hc (.inl hr) (arg args 0 1)).2 ar har hst
  have hnr : s.hw.seq.run ≠ .running := by rw [hr]; decide
  have hact := (takeAct_alone (k := k) hm (.inl hnr)).trans
    ((if_pos ht).trans (takeDo_alone hm ht s.hw.lastFrame (if_pos hr) (.inl hnr)))
  obtain ⟨m, c, hslot, hid, hpoint, hdrained, hfar, hb⟩ := beginCapture_held hr (arg args 0 1) (arg args 4 4) har
  have hlt : c.slot < 16 := by rw [hslot]; exact ha.2.1
  obtain ⟨hstat, hstate, hidr, hfr⟩ := pointRegs_fields m c ar (s.hw.seq.frame.toNat + natBit s.hw.seq.deferred) hlt
  have hregs := regsSet_pointRegs m c ar (s.hw.seq.frame.toNat + natBit s.hw.seq.deferred)
  rw [hb] at hact
  generalize m.pointRegs c ar (s.hw.seq.frame.toNat + natBit s.hw.seq.deferred) = g at hact hstat hstate hidr hfr hregs
  rw [hslot] at hstat hstate hidr hfr
  rw [hid] at hidr
  refine answers_of_take r ha hact (by decide) (by rw [bytesOf_length]; decide)
    ⟨rfl, ⟨c, ?_, hslot, hid, hpoint, hdrained⟩, hstat, hstate, hidr, hfr, ?_⟩
  · rw [hregs, hfar]
  · rw [hregs, hfar]

theorem snapTake_running {args : List Byte} (ha : args.length = 16 ∧ arg args 0 1 < 16 ∧ arg args 1 3 = 0)
    (hm : s.hw.conf.members = []) (r : SlotRuns s.hw k 0x0406 args) (hc : s.hw.snap.capture = none) (hr : s.hw.seq.run = .running)
    {ar : SnapArea} (har : s.hw.snapArea (arg args 0 1) = some ar) (hst : s.hw.areaState (arg args 0 1) ≠ 3)
    (hf : arg args 8 8 ≠ 0) (hl : s.hw.seq.frame.toNat ≤ arg args 8 8) :
    Answers (.snapTake (.slot k) io) s k stOk fun m r => r = bytesOf 8 (arg args 8 8) ∧
      (∃ c, m.snap.capture = some c ∧ c.slot = arg args 0 1 ∧ c.id = arg args 4 4 ∧ c.frame = arg args 8 8 ∧ c.point = none) ∧
      m = { s.hw with snap := { s.hw.snap with capture := m.snap.capture } } := by
  have ht := (takeTest_ready hc (.inr hr) (arg args 0 1)).2 ar har hst
  have hne : s.hw.frameEnded (arg args 8 8) = false := decide_eq_false (by omega)
  have hact := (takeAct_alone (k := k) hm (.inr (.inl hne))).trans ((if_pos ht).trans (takeDo_alone hm ht (arg args 8 8)
    ((if_neg (by rw [hr]; decide)).trans (if_neg hf)) (.inr hne)))
  rw [beginCapture_running hr] at hact
  exact answers_of_take r ha hact (by decide) (by rw [bytesOf_length]; decide) ⟨rfl, ⟨_, rfl, rfl, rfl, rfl, rfl⟩, rfl⟩

/-- A restore that begins waits in its slot. -/
theorem snapRestore_begins {x : BitVec 8} (hx : x.toNat < 16) (r : SlotRuns s.hw k 0x0407 [x])
    (hm : s.hw.conf.members = []) (ht : s.hw.ownRestoreTest x.toNat = stOk) :
    ∃ w, effect (.snapRestore (.slot k) io) s.hw = { s.hw.restoreBegin x.toNat with
        host := { (s.hw.restoreBegin x.toNat).host with waits := (s.hw.restoreBegin x.toNat).host.waits ++ [w] } } ∧
      w.src = .slot k ∧ w.code = 0x0407 := by
  rw [snapRestore_runs io r hx, restoreAct_alone hm, if_pos ht]
  exact park_fields _ ⟨.slot k, 0x0407, [x], false, []⟩ []

theorem snapRestore_answers {x : BitVec 8} {st : Nat} (hx : x.toNat < 16) (r : SlotRuns s.hw k 0x0407 [x])
    (hm : s.hw.conf.members = []) (ht : s.hw.ownRestoreTest x.toNat = st) (hne : st ≠ stOk) (hst : st < 256) :
    Answers (.snapRestore (.slot k) io) s k st fun m r => m = s.hw ∧ r = [] := by
  refine answers_of_endCmd (ds := []) (output := []) (mid := s.hw) (reply := []) r.1.src_ok ?_ hst (by decide) ⟨rfl, rfl⟩
  rw [snapRestore_runs io r hx, restoreAct_alone hm, ht, if_neg hne]
  rfl

/-- Outside HELD and STOPPED_MID nothing is restored (Table 9.7). -/
theorem ownRestoreTest_other {h : Hw} (h1 : h.seq.run ≠ .held) (h2 : h.seq.run ≠ .stoppedMid) (x : Nat) :
    h.ownRestoreTest x = if h.seq.run = .empty then stNotReady else stRefused := by
  unfold Hw.ownRestoreTest Hw.restoreTest
  by_cases he : h.seq.run = .empty
  · rw [if_pos he, if_pos he]
  · rw [if_neg he, if_neg he, if_pos (by simp [h1, h2])]

end

/-- No restore goes on where the tests of one pass. -/
theorem restore_of_test {h : Hw} {x : Nat} (ht : h.ownRestoreTest x = stOk) : h.snap.restore = none := by
  by_contra hr
  have hholds : h.snapHolds = true := by
    unfold Hw.snapHolds
    rw [Option.isSome_iff_ne_none.2 hr, Bool.or_true]
  unfold Hw.ownRestoreTest Hw.restoreTest at ht
  rw [hholds] at ht
  revert ht
  split
  · decide
  · split
    · decide
    · rw [Bool.true_or, if_pos rfl]
      decide

/-- Settles O23: a module alone takes, drains and restores its own area, each in the steps that the lemmas above give. -/
theorem snapshots : Obligations.Snapshots := by
  unfold Obligations.Snapshots
  refine ⟨fun s k io args hlen harg hzero hm r => ?_, fun s => ⟨fun c ar p hc hp hs ha hd hw hm hi hl => ?_,
    fun k io x ar hx r hm ha ht => ?_, fun k io x hx r hm h1 h2 => ?_⟩⟩
  · have ha : args.length = 16 ∧ arg args 0 1 < 16 ∧ arg args 1 3 = 0 := ⟨hlen, harg, hzero⟩
    refine ⟨fun hc => ?_, fun hc hr => ?_, fun hc hr har => ?_, fun hc hr ⟨ar, har⟩ hst => ?_, fun hc hr ⟨ar, har⟩ hst hf hl => ?_⟩
    · have hb : s.hw.takeTest (arg args 0 1) = stBusy := if_pos (Option.isSome_iff_ne_none.2 hc)
      exact answers_of_takeTest r ha hm hb (by decide) (by decide) (.inr (.inr hb))
    · refine answers_of_takeTest r ha hm (takeTest_empty hc hr _) ?_ ?_ (.inl (by rw [hr]; decide))
      · split <;> decide
      · split <;> decide
    · exact answers_of_takeTest r ha hm ((takeTest_ready hc (.inl hr) _).1 har) (by decide) (by decide) (.inl (by rw [hr]; decide))
    · exact snapTake_held ha hm r hc hr har hst
    · exact snapTake_running ha hm r hc hr har hst hf hl
  · obtain ⟨m, c', hb, hslot, hex⟩ := snapDrainDone_effect hc hp hs ha hd hw hm hi hl
    refine does_of rfl ?_
    rw [hex]
    have hma : m.snapArea c'.slot = some ar := by
      rw [hslot, ← ha]
      unfold Hw.snapArea
      rw [hb.rest]
    have hlt : c'.slot < 16 := by rw [hslot]; exact hs
    cases hf : c.failed with
    | true =>
      obtain ⟨h1, h2, h3, h4, h5⟩ := endCapture_fields hlt hma (state := 3) (by decide)
      rw [if_pos rfl]
      generalize m.endCapture c' 3 = g at h1 h2 h3 h4 h5 ⊢
      rw [hslot] at h2 h3
      refine ⟨h1, h2, h3, fun e => absurd e (by decide), ?_⟩
      rw [h5, hb.rest]
    | false =>
      obtain ⟨h1, h2, h3, h4, h5⟩ := endCapture_fields hlt hma (state := 2) (by decide)
      rw [if_neg Bool.false_ne_true]
      generalize m.endCapture c' 2 = g at h1 h2 h3 h4 h5 ⊢
      rw [hslot] at h2 h3
      refine ⟨h1, h2, h3, fun _ hlt => ?_, ?_⟩
      · obtain ⟨l, hl⟩ := hb.path
        have hpw : g.pstate < 3 := by
          unfold Hw.pstate
          rw [fget_congr (h4.trans hb.power)]
          exact hlt
        refine ⟨l, ?_⟩
        unfold Hw.raise Hw.raiseWith
        rw [← hl]
        dsimp only
        rw [if_pos hpw, show g.fault = m.fault by rw [h5], show g.seq = s.hw.seq by rw [h5, hb.rest]]
      · have hr : g.raise evSnapDone = { g with fault := { g.fault with path := (g.raise evSnapDone).fault.path } } := rfl
        rw [hr, h5, hb.rest]
  · obtain ⟨w, hex, hsrc, hcode⟩ := snapRestore_begins (io := io) hx r hm ht
    obtain ⟨hbegun, hshown⟩ := restoreBegin_stopped ha
    have hnone := restore_of_test (h := s.hw) (x := x.toNat) ht
    refine does_of r.1.src_ok ?_
    rw [hex]
    generalize s.hw.restoreBegin x.toNat = b at hbegun hshown ⊢
    generalize hg : ({ b with host := { b.host with waits := b.host.waits ++ [w] } } : Hw) = g
    have hgb : g = { b with host := { b.host with waits := b.host.waits ++ [w] } } := hg.symm
    clear hg
    have hsnap : g.snap = { s.hw.snap with restore := some (x.toNat, 2) } := by rw [hgb, hbegun.rest]
    have hbegan := restored_of_begun (h := g) (k := x.toNat) (ar := ar) (by rw [hsnap]) ((snapArea_of_snap hsnap _).trans ha)
    generalize Nat.iterate Hw.restoreNext 5 g = m at hbegan
    have hslots : g.host.slots = s.hw.host.slots := by rw [hgb, hbegun.rest]
    have hstate : g.slotState k = 2 := by
      rw [slotState_of_bytes (h := s.hw) fun o _ => slotByte_congr hslots k o]
      exact r.1.2.2.2.2.1
    have hpart : (g.lofts, g.bankMem, g.farMem, g.rows) = (s.hw.lofts, s.hw.bankMem, s.hw.farMem, s.hw.rows) := by
      rw [hgb, hbegun.rest]
    have hpart' : (g.bundles, g.plan) = (s.hw.bundles, s.hw.plan) := by rw [hgb, hbegun.rest]
    simp only [Prod.mk.injEq] at hpart hpart'
    obtain ⟨h1, h2, h3, h4⟩ := hpart
    have hseq : g.seq = b.seq := by rw [hgb]
    refine ⟨hstate, ⟨w, ?_, hsrc, hcode⟩, by rw [hseq]; exact hbegun.run, ?_, fun d j hd hj => ?_, h1, h2, h3, h4,
      by rw [hbegan.seq], by rw [hbegan.seq], by rw [hbegan.seq], by rw [hbegan.seq], by rw [hbegan.seq], by rw [hbegan.seq],
      by rw [hbegan.seq], ?_, by rw [hbegan.seq], hbegan.banks, hbegan.trusses, hbegan.bankCmds, hbegan.qpairs, hbegan.slots, hbegan.results,
      fun e => (hbegan.farMem e).trans h3, hbegan.shown, hbegan.rows.trans h4, hbegan.bundles.trans hpart'.1, hbegan.plan.trans hpart'.2, ?_⟩
    · rw [hgb]
      exact List.mem_append_right _ (List.mem_singleton.2 rfl)
    · rw [hgb]
      exact hshown
    · rw [hgb]
      exact hbegun.banks d j hd hj
    · rw [hbegan.seq]
      show g.seq.inFrame = false
      rw [hseq]
      exact hbegun.inFrame
    · rw [hbegan.snap, hsnap, ← hnone]
  · have ht := ownRestoreTest_other h1 h2 x.toNat
    refine snapRestore_answers hx r hm ht ?_ ?_
    · split <;> decide
    · split <;> decide

end Sys2Proof.Machine
end

section
-- As the tests above: declarations in order, so that checking the one text stays within its memory.
set_option Elab.async false
/-!
PROOFS. Measurements of network time (R295 to R300): what an accepted, a refused and a stepped measurement leaves (O55).
-/

namespace Sys2Proof.Machine

/-! ## The fields of TIME.STAT -/

theorem fget_setTStat (h : Hw) {n hi lo : Nat} (b : Bool) (hn : n < 32) (ho : hi < n ∨ n < lo) :
    (h.setTStat n b).fget (timeA 0x10) hi lo = h.fget (timeA 0x10) hi lo := by
  unfold Hw.setTStat Hw.fget
  rw [reg_setReg_same, fld_setBit_other _ _ hn ho]

theorem bget_setTStat (h : Hw) {n i : Nat} (b : Bool) (hn : n < 32) :
    (h.setTStat n b).bget (timeA 0x10) i = if i = n then b else h.bget (timeA 0x10) i := by
  unfold Hw.setTStat Hw.bget
  rw [reg_setReg_same, bit_setBit _ _ _ _ hn]

theorem reg_setTStat (h : Hw) (n : Nat) (b : Bool) {a : Nat} (ha : a ≠ timeA 0x10) : (h.setTStat n b).reg a = h.reg a :=
  (reg_setReg ..).trans (if_neg ha)

theorem onlyRegs_setTStat (h : Hw) (n : Nat) (b : Bool) : OnlyRegs [timeA 0x10] h (h.setTStat n b) := onlyRegs_setReg ..

theorem timeA_inj {a b : Nat} (h : a ≠ b) : timeA a ≠ timeA b := by unfold timeA; omega

theorem timeA_ne_power (o : Nat) (ho : o < 0x10000) : powerA 0 ≠ timeA o := by unfold powerA timeA; omega

/-! ## Generators that wait for nothing -/

theorem foldl_same {α : Type} {f : Hw → α → Hw} (l : List α) {h : Hw} (hf : ∀ x ∈ l, f h x = h) : l.foldl f h = h := by
  induction l with
  | nil => rfl
  | cons x l ih =>
    rw [List.foldl_cons, hf x List.mem_cons_self]
    exact ih fun y hy => hf y (List.mem_cons_of_mem _ hy)

/-- With no generator armed a step serves no instant. -/
theorem allTe_idle {h : Hw} (ha : ∀ k, k < 32 → (h.te k).armed = false) : h.allTe Hw.teLate = h := by
  refine foldl_same _ fun k hk => ?_
  have hk : k < 32 := List.mem_range.1 (List.mem_reverse.1 hk)
  have hd : h.teDue k = false := by
    unfold Hw.teDue
    rw [ha k hk]
    rfl
  unfold Hw.teLate
  rw [hd]
  rfl

theorem stepTime_idle {h : Hw} (ha : ∀ k, k < 32 → (h.te k).armed = false) (new : Nat) :
    h.stepTime new = { h with time := { h.time with
      now := new, ppsSec := new / unitsPerSec, servo := { h.time.servo with left := 0 } } } :=
  allTe_idle (h := { h with time := { h.time with
    now := new, ppsSec := new / unitsPerSec, servo := { h.time.servo with left := 0 } } }) ha

/-! ## What a measurement leaves -/

/-- A counter of the time unit has counted once. -/
def TimeCounted (h g : Hw) (o : Nat) : Prop := g.fget (timeA o) 31 0 = min (2 ^ 32 - 1) (h.fget (timeA o) 31 0 + 1)

/-- STATUS after an accepted measurement (R299). -/
def statusAfter (st : Nat) (l : List Nat) (a : Nat) : Nat :=
  if st = 1 then (if l.length = 16 ∧ l.all (fun x => decide (x ≤ 100 * nsUnits)) = true then 2 else 1)
  else if st = 2 then (if 100 * nsUnits < a then 1 else 2) else 1

/-- A measurement has been accepted. -/
def Accepted (off : Int) (h g : Hw) : Prop :=
  let l := (off.natAbs :: h.time.last16).take 16
  TimeCounted h g 0x30 ∧ g.time.last16 = l ∧ g.time.refused = 0 ∧ g.time.first = false ∧ g.tStatus = statusAfter h.tStatus l off.natAbs

/-- An offset is being slewed away. -/
def Slews (off : Int) (h g : Hw) : Prop :=
  g.time.now = h.time.now ∧ g.time.servo.left = off.natAbs * 10 ^ 9 ∧ g.time.servo.slew.natAbs ≤ 100000 ∧ g.time.servo.rate.natAbs ≤ 200000

/-- An offset has been stepped over. -/
def Stepped (off : Int) (h g : Hw) : Prop :=
  g.time.now = ((h.time.now : Int) + off).toNat ∧ g.time.servo.left = 0 ∧ TimeCounted h g 0x38 ∧ OnPath evTimeStepped h g

/-- What the sources of a measurement leave as it was, so that it is treated as it would have been before. -/
structure Treats (m h : Hw) : Prop where
  strict : m.strictTime = h.strictTime
  limit : m.jumpLimit = h.jumpLimit
  status : m.tStatus = h.tStatus
  time : m.time.now = h.time.now ∧ m.time.last16 = h.time.last16 ∧ m.time.refused = h.time.refused ∧ m.time.first = h.time.first ∧
    m.time.te = h.time.te
  count : ∀ o, o = 0x30 ∨ o = 0x34 ∨ o = 0x38 ∨ o = 0x40 → m.reg (timeA o) = h.reg (timeA o)
  pstate : m.pstate = h.pstate
  path : m.fault.path = h.fault.path
  seq : m.seq = h.seq

/-- A state whose registers and time alone differ, with STAT's phase and status, treats measurements as before. -/
theorem treats_of {m h : Hw} (hm : m = { h with regs := m.regs, time := m.time })
    (htime : m.time.now = h.time.now ∧ m.time.last16 = h.time.last16 ∧ m.time.refused = h.time.refused ∧
      m.time.first = h.time.first ∧ m.time.te = h.time.te)
    (hreg : ∀ a, a ≠ timeA 0x10 → a ≠ timeA 0x20 → a ≠ timeA 0x24 → a ≠ timeA 0x28 → m.reg a = h.reg a)
    (hphase : m.tPhase = h.tPhase) (hstatus : m.tStatus = h.tStatus) : Treats m h := by
  have hseq : m.seq = h.seq := by rw [hm]
  have hhead : m.isHead = h.isHead := by rw [hm]; rfl
  have hwaits : m.startWaits = h.startWaits := by rw [hm]; rfl
  have hsent : ∀ f, m.startSent f = h.startSent f := fun f => by rw [hm]; rfl
  have hframes : m.framesOn = h.framesOn := by rw [hm]; rfl
  refine ⟨?_, ?_, hstatus, htime, fun o ho => ?_, fget_congr (hreg _ ?_ ?_ ?_ ?_) 2 0, by rw [hm], hseq⟩
  · unfold Hw.strictTime
    rw [hphase, hhead, hwaits, hsent, hframes, hseq]
  · unfold Hw.jumpLimit
    rw [hreg _ (timeA_inj (by decide)) (timeA_inj (by decide)) (timeA_inj (by decide)) (timeA_inj (by decide))]
  · rcases ho with rfl | rfl | rfl | rfl <;>
      exact hreg _ (timeA_inj (by decide)) (timeA_inj (by decide)) (timeA_inj (by decide)) (timeA_inj (by decide))
  all_goals exact timeA_ne_power _ (by decide)

theorem TimeCounted.of_treats {m h g : Hw} (t : Treats m h) {o : Nat} (ho : o = 0x30 ∨ o = 0x34 ∨ o = 0x38 ∨ o = 0x40) (c : TimeCounted m g o) :
    TimeCounted h g o := by
  unfold TimeCounted at *
  rw [c, fget_congr (t.count o ho)]

theorem Accepted.of_treats {m h g : Hw} {off : Int} (t : Treats m h) (a : Accepted off m g) : Accepted off h g := by
  obtain ⟨hc, hl, hr, hf, hs⟩ := a
  rw [t.time.2.1] at hl hs
  rw [t.status] at hs
  exact ⟨hc.of_treats t (.inl rfl), hl, hr, hf, hs⟩

theorem OnPath.of_treats {m h g : Hw} {id : Nat} (t : Treats m h) (p : OnPath id m g) : OnPath id h g := fun hlt => p (by rw [t.pstate]; exact hlt)

theorem Raised.of_treats {m h g : Hw} {id : Nat} {d : Word32} (t : Treats m h) (p : Raised id d m g) : Raised id d h g := by
  obtain ⟨b, hb⟩ := p
  rw [t.pstate, t.path, t.seq] at hb
  exact ⟨b, hb⟩

/-- What a measurement of the selected source does (R296, R297). -/
def Measured (off : Int) (h g : Hw) : Prop :=
  (h.strictTime = true → ¬ h.jumpLimit < off.natAbs → Accepted off h g ∧ Slews off h g) ∧
  (h.strictTime = true → h.jumpLimit < off.natAbs → TimeCounted h g 0x34 ∧ g.time.refused = h.time.refused + 1 ∧
    g.time.now = h.time.now ∧ g.time.last16 = h.time.last16 ∧ (h.time.refused = 0 → Raised evTimeJumpRefused 0 h g)) ∧
  (h.strictTime = false → h.time.first = true ∨ h.jumpLimit < off.natAbs → Accepted off h g ∧ Stepped off h g) ∧
  (h.strictTime = false → h.time.first = false → ¬ h.jumpLimit < off.natAbs → Accepted off h g ∧ Slews off h g)

theorem Measured.of_treats {m h g : Hw} {off : Int} (t : Treats m h) (w : Measured off m g) : Measured off h g := by
  obtain ⟨hslew, hrefuse, hstep, hfree⟩ := w
  rw [t.strict, t.limit] at hslew hrefuse hstep hfree
  obtain ⟨hnow, hl, hr, hf, -⟩ := t.time
  unfold Slews at hslew hfree
  rw [hnow] at hslew hfree
  unfold Stepped at hstep
  rw [hnow, hf] at hstep
  rw [hf] at hfree
  rw [hnow, hl, hr] at hrefuse
  refine ⟨fun a b => (hslew a b).imp (·.of_treats t) id, fun a b => ?_, fun a b => ?_, fun a b c => (hfree a b c).imp (·.of_treats t) id⟩
  · obtain ⟨h1, h2, h3, h4, h5⟩ := hrefuse a b
    exact ⟨h1.of_treats t (.inr (.inl rfl)), h2, h3, h4, fun e => (h5 e).of_treats t⟩
  · obtain ⟨h1, h2, h3, h4, h5⟩ := hstep a b
    exact ⟨h1.of_treats t, h2, h3, h4.of_treats t (.inr (.inr (.inl rfl))), h5.of_treats t⟩

/-! ## The parts of a measurement -/

theorem correctRate_fields (h : Hw) : h.correctRate = { h with free := h.free + 1, time := h.correctRate.time } ∧
    h.correctRate.time = { h.time with servo := h.correctRate.time.servo } ∧ h.correctRate.time.servo.rate.natAbs ≤ 200000 := by
  refine ⟨rfl, rfl, ?_⟩
  show ((((Config.freeValue h.free).toNat % 400001 : Nat) : Int) - 200000).natAbs ≤ 200000
  omega

/-- The list of a measurement that is accepted. -/
def Hw.listed (h : Hw) (l : List Nat) : Hw := { h with time := { h.time with last16 := l, refused := 0, first := false } }

/-- The acceptance of a measurement before STATUS moves. -/
def Hw.counted (h : Hw) (off : Int) : Hw :=
  (h.correctRate.count (timeA 0x30)).listed ((off.natAbs :: (h.correctRate.count (timeA 0x30)).time.last16).take 16)

/-- STATUS moves as an accepted measurement bids (R299). -/
def Hw.statusMoved (h : Hw) (l : List Nat) (a : Nat) : Hw :=
  match h.tStatus with
  | 1 =>
    if l.length = 16 ∧ l.all (fun x => decide (x ≤ 100 * nsUnits)) then
      (h.fset (timeA 0x10) 1 0 2).raise evTimeLocked
    else h
  | 2 => if a > 100 * nsUnits then h.fset (timeA 0x10) 1 0 1 else h
  | _ => h.fset (timeA 0x10) 1 0 1

theorem acceptMeasure_eq (h : Hw) (off : Int) : h.acceptMeasure off =
    (h.counted off).statusMoved ((off.natAbs :: (h.correctRate.count (timeA 0x30)).time.last16).take 16) off.natAbs := rfl

/-- What a part of a measurement leaves: every other register, STAT's further fields, the domains and their offsets. -/
structure TimeKeeps (h g : Hw) : Prop where
  reg : ∀ a, a ≠ timeA 0x10 → a ≠ timeA 0x30 → a ≠ timeA 0x34 → a ≠ timeA 0x38 → g.reg a = h.reg a
  bits : ∀ n, 1 < n → n < 32 → g.bget (timeA 0x10) n = h.bget (timeA 0x10) n
  fields : ∀ hi lo, 1 < lo → hi < 32 → g.fget (timeA 0x10) hi lo = h.fget (timeA 0x10) hi lo
  rest : g = { h with regs := g.regs, free := g.free, time := g.time, fault := { h.fault with path := g.fault.path } }
  time : g.time.te = h.time.te ∧ g.time.offs = h.time.offs ∧ g.time.best = h.time.best ∧ g.time.utc = h.time.utc
  path : ∃ l, g.fault.path = h.fault.path ++ l

theorem TimeKeeps.refl (h : Hw) : TimeKeeps h h :=
  ⟨fun _ _ _ _ _ => rfl, fun _ _ _ => rfl, fun _ _ _ _ => rfl, rfl, ⟨rfl, rfl, rfl, rfl⟩, [], (List.append_nil _).symm⟩

theorem TimeKeeps.trans {h g k : Hw} (a : TimeKeeps h g) (b : TimeKeeps g k) : TimeKeeps h k := by
  obtain ⟨l, hl⟩ := a.path
  obtain ⟨l', hl'⟩ := b.path
  obtain ⟨a1, a2, a3, a4⟩ := a.time
  obtain ⟨b1, b2, b3, b4⟩ := b.time
  exact ⟨fun x h1 h2 h3 h4 => (b.reg x h1 h2 h3 h4).trans (a.reg x h1 h2 h3 h4), fun n h1 h2 => (b.bits n h1 h2).trans (a.bits n h1 h2),
    fun hi lo h1 h2 => (b.fields hi lo h1 h2).trans (a.fields hi lo h1 h2), by rw [b.rest, a.rest],
    ⟨b1.trans a1, b2.trans a2, b3.trans a3, b4.trans a4⟩, l ++ l', by rw [hl', hl, List.append_assoc]⟩

theorem TimeKeeps.pstate {h g : Hw} (a : TimeKeeps h g) : g.pstate = h.pstate :=
  fget_congr (a.reg _ (timeA_ne_power _ (by decide)) (timeA_ne_power _ (by decide)) (timeA_ne_power _ (by decide))
    (timeA_ne_power _ (by decide))) 2 0

theorem timeKeeps_count (h : Hw) {o : Nat} (ho : o = 0x30 ∨ o = 0x34 ∨ o = 0x38) : TimeKeeps h (h.count (timeA o)) := by
  have hreg : ∀ a, a ≠ timeA o → (h.count (timeA o)).reg a = h.reg a := fun a ha => (reg_fset ..).trans (if_neg ha)
  have hne : timeA 0x10 ≠ timeA o := timeA_inj (by rcases ho with rfl | rfl | rfl <;> decide)
  refine ⟨fun a _ h1 h2 h3 => hreg a ?_, fun n _ _ => bget_congr (hreg _ hne) n, fun hi lo _ _ => fget_congr (hreg _ hne) hi lo, rfl,
    ⟨rfl, rfl, rfl, rfl⟩, [], (List.append_nil _).symm⟩
  rcases ho with rfl | rfl | rfl
  · exact h1
  · exact h2
  · exact h3

theorem timeKeeps_raise (h : Hw) (id : Nat) : TimeKeeps h (h.raise id) := by
  refine ⟨fun _ _ _ _ _ => rfl, fun _ _ _ => rfl, fun _ _ _ _ => rfl, rfl, ⟨rfl, rfl, rfl, rfl⟩, ?_⟩
  unfold Hw.raise Hw.raiseWith
  dsimp only
  split
  · exact ⟨_, rfl⟩
  · exact ⟨[], (List.append_nil _).symm⟩

theorem timeKeeps_time (h : Hw) {t : TimeSt} (ht : t.te = h.time.te ∧ t.offs = h.time.offs ∧ t.best = h.time.best ∧ t.utc = h.time.utc) :
    TimeKeeps h { h with time := t } :=
  ⟨fun _ _ _ _ _ => rfl, fun _ _ _ => rfl, fun _ _ _ _ => rfl, rfl, ht, [], (List.append_nil _).symm⟩

theorem timeKeeps_free (h : Hw) (n : Nat) : TimeKeeps h { h with free := n } :=
  ⟨fun _ _ _ _ _ => rfl, fun _ _ _ => rfl, fun _ _ _ _ => rfl, rfl, ⟨rfl, rfl, rfl, rfl⟩, [], (List.append_nil _).symm⟩

/-- STATUS alone is set. -/
theorem timeKeeps_status (h : Hw) (v : Nat) : TimeKeeps h (h.fset (timeA 0x10) 1 0 v) := by
  refine ⟨fun a ha _ _ _ => (reg_fset ..).trans (if_neg ha), fun n h1 h2 => ?_, fun hi lo h1 h2 => ?_, rfl,
    ⟨rfl, rfl, rfl, rfl⟩, [], (List.append_nil _).symm⟩
  · rw [bget_fset _ _ _ _ _ _ _ h2, if_neg (by omega)]
  · exact fget_fset_ne h (timeA 0x10) (timeA 0x10) hi lo 1 0 v h2 (.inr (.inr h1))

theorem status_fset (h : Hw) {v : Nat} (hv : v < 4) : (h.fset (timeA 0x10) 1 0 v).tStatus = v :=
  (fget_fset_same h (timeA 0x10) 1 0 v (by decide)).trans (Nat.mod_eq_of_lt hv)

theorem timeKeeps_correctRate (h : Hw) : TimeKeeps h h.correctRate := by
  obtain ⟨h1, h2, -⟩ := correctRate_fields h
  rw [h1]
  exact (timeKeeps_free h (h.free + 1)).trans (timeKeeps_time _ (by rw [h2]; exact ⟨rfl, rfl, rfl, rfl⟩))

theorem timeKeeps_listed (h : Hw) (l : List Nat) : TimeKeeps h (h.listed l) := timeKeeps_time h ⟨rfl, rfl, rfl, rfl⟩

theorem statusMoved_fields (h : Hw) (l : List Nat) (a : Nat) : TimeKeeps h (h.statusMoved l a) ∧ (h.statusMoved l a).time = h.time ∧
    (∀ x, x ≠ timeA 0x10 → (h.statusMoved l a).reg x = h.reg x) ∧ (h.statusMoved l a).tStatus = statusAfter h.tStatus l a := by
  have hset : ∀ v, v < 4 → TimeKeeps h (h.fset (timeA 0x10) 1 0 v) ∧ (h.fset (timeA 0x10) 1 0 v).time = h.time ∧
      (∀ x, x ≠ timeA 0x10 → (h.fset (timeA 0x10) 1 0 v).reg x = h.reg x) ∧ (h.fset (timeA 0x10) 1 0 v).tStatus = v := fun v hv =>
    ⟨timeKeeps_status h v, rfl, fun x hx => (reg_fset ..).trans (if_neg hx), status_fset h hv⟩
  unfold Hw.statusMoved statusAfter
  split
  next e =>
    rw [if_pos e]
    split
    · obtain ⟨h1, h2, h3, h4⟩ := hset 2 (by decide)
      exact ⟨h1.trans (timeKeeps_raise _ _), h2, h3, h4⟩
    · exact ⟨.refl h, rfl, fun _ _ => rfl, e⟩
  next e =>
    rw [if_neg (show ¬h.tStatus = 1 by omega), if_pos e]
    by_cases ha : a > 100 * nsUnits
    · rw [if_pos ha, if_pos ha]
      exact hset 1 (by decide)
    · rw [if_neg ha, if_neg ha]
      exact ⟨.refl h, rfl, fun _ _ => rfl, e⟩
  next h1 h2 =>
    rw [if_neg h1, if_neg h2]
    exact hset 1 (by decide)

/-- An accepted measurement (R296, R299). -/
theorem acceptMeasure_accepted (h : Hw) (off : Int) : TimeKeeps h (h.acceptMeasure off) ∧ Accepted off h (h.acceptMeasure off) ∧
    (h.acceptMeasure off).time.now = h.time.now ∧ (h.acceptMeasure off).time.servo.rate.natAbs ≤ 200000 ∧
    (h.acceptMeasure off).reg (timeA 0x38) = h.reg (timeA 0x38) := by
  obtain ⟨hr1, hr2, hr3⟩ := correctRate_fields h
  have hkr := timeKeeps_correctRate h
  rw [acceptMeasure_eq, Hw.counted]
  have hregs : ∀ a, h.correctRate.reg a = h.reg a := fun a => by rw [hr1]; rfl
  generalize h.correctRate = r at hr1 hr2 hr3 hkr hregs ⊢
  have hkc := timeKeeps_count r (o := 0x30) (.inl rfl)
  have hcount : TimeCounted h (r.count (timeA 0x30)) 0x30 := (fget_count r _).trans (by rw [fget_congr (hregs _)])
  have hct : (r.count (timeA 0x30)).time = r.time := rfl
  have hco : ∀ a, a ≠ timeA 0x30 → (r.count (timeA 0x30)).reg a = h.reg a := fun a ha =>
    ((reg_fset ..).trans (if_neg ha)).trans (hregs a)
  generalize r.count (timeA 0x30) = c at hkc hcount hct hco ⊢
  have hcl : c.time.last16 = h.time.last16 := by rw [hct, hr2]
  rw [hcl]
  generalize hL : (off.natAbs :: h.time.last16).take 16 = L
  have hkl := timeKeeps_listed c L
  have htl : (c.listed L).time = { c.time with last16 := L, refused := 0, first := false } := rfl
  have hrl : ∀ a, (c.listed L).reg a = c.reg a := fun _ => rfl
  generalize c.listed L = m at hkl htl hrl ⊢
  obtain ⟨hks, hts, hrs, hst⟩ := statusMoved_fields m L off.natAbs
  generalize m.statusMoved L off.natAbs = g at hks hts hrs hst
  have hms : m.tStatus = h.tStatus := fget_congr ((hrl _).trans (hco _ (timeA_inj (by decide)))) 1 0
  refine ⟨((hkr.trans hkc).trans hkl).trans hks, ⟨?_, ?_, ?_, ?_, ?_⟩, ?_, ?_, ?_⟩
  · unfold TimeCounted at hcount ⊢
    rw [fget_congr ((hrs _ (timeA_inj (by decide))).trans (hrl _)), hcount]
  · rw [hts, htl, hL]
  · rw [hts, htl]
  · rw [hts, htl]
  · rw [hst, hms, hL]
  · rw [hts, htl, hct, hr2]
  · rw [hts, htl, hct]
    exact hr3
  · exact (hrs _ (timeA_inj (by decide))).trans ((hrl _).trans (hco _ (timeA_inj (by decide))))

/-- An offset that is slewed away (R296). -/
theorem slewTo_fields (h : Hw) (off : Int) : TimeKeeps h (h.slewTo off) ∧ (∀ a, (h.slewTo off).reg a = h.reg a) ∧
    (h.slewTo off).time = { h.time with servo := (h.slewTo off).time.servo } ∧
    (h.slewTo off).time.servo.left = off.natAbs * 10 ^ 9 ∧ (h.slewTo off).time.servo.slew.natAbs ≤ 100000 ∧
    (h.slewTo off).time.servo.rate = h.time.servo.rate := by
  have heq : h.slewTo off = { ({ h with free := h.free + 1 } : Hw) with time := (h.slewTo off).time } := rfl
  refine ⟨?_, fun _ => rfl, rfl, rfl, ?_, rfl⟩
  · rw [heq]
    exact (timeKeeps_free h (h.free + 1)).trans (timeKeeps_time _ ⟨rfl, rfl, rfl, rfl⟩)
  · show (off.sign * (((Config.freeValue h.free).toNat % 100000 + 1 : Nat) : Int)).natAbs ≤ 100000
    rw [Int.natAbs_mul, Int.natAbs_natCast]
    have hs : off.sign.natAbs ≤ 1 := by
      rw [Int.natAbs_sign]
      split <;> decide
    calc off.sign.natAbs * ((Config.freeValue h.free).toNat % 100000 + 1)
        ≤ 1 * ((Config.freeValue h.free).toNat % 100000 + 1) := Nat.mul_le_mul_right _ hs
      _ ≤ 100000 := by omega

/-- A step that is counted (R297). -/
theorem countedStep_fields {h : Hw} (ha : ∀ k, k < 32 → (h.te k).armed = false) (off : Int) : TimeKeeps h (h.countedStep off) ∧
    Stepped off h (h.countedStep off) ∧ (∀ a, a ≠ timeA 0x38 → (h.countedStep off).reg a = h.reg a) ∧
    (h.countedStep off).time.last16 = h.time.last16 ∧ (h.countedStep off).time.refused = h.time.refused ∧
    (h.countedStep off).time.first = h.time.first := by
  unfold Hw.countedStep
  have hkc := timeKeeps_count h (o := 0x38) (.inr (.inr rfl))
  have hcount : TimeCounted h (h.count (timeA 0x38)) 0x38 := fget_count ..
  have hct : (h.count (timeA 0x38)).time = h.time := rfl
  have hco : ∀ a, a ≠ timeA 0x38 → (h.count (timeA 0x38)).reg a = h.reg a := fun a ha => (reg_fset ..).trans (if_neg ha)
  generalize h.count (timeA 0x38) = c at hkc hcount hct hco
  have hkr := timeKeeps_raise c evTimeStepped
  have hon : OnPath evTimeStepped h (c.raise evTimeStepped) := onPath_raised hkc.pstate (Signals.refl _)
  have hrt : (c.raise evTimeStepped).time = h.time := hct
  have hrr : ∀ a, (c.raise evTimeStepped).reg a = c.reg a := fun _ => rfl
  generalize c.raise evTimeStepped = m at hkr hon hrt hrr
  have hm : ∀ k, k < 32 → (m.te k).armed = false := fun k hk => by
    unfold Hw.te
    rw [hrt]
    exact ha k hk
  rw [Hw.applyStep, stepTime_idle hm]
  have hkt := timeKeeps_time m (t := { m.time with
      now := ((m.time.now : Int) + off).toNat, ppsSec := ((m.time.now : Int) + off).toNat / unitsPerSec
      servo := { m.time.servo with left := 0 } }) ⟨rfl, rfl, rfl, rfl⟩
  refine ⟨(hkc.trans hkr).trans hkt, ⟨?_, rfl, ?_, hon⟩, fun a h1 => (hrr a).trans (hco a h1), ?_, ?_, ?_⟩
  · rw [← hrt]
  · unfold TimeCounted at hcount ⊢
    rw [← hcount]
    exact fget_congr (hrr _) 31 0
  · rw [← hrt]
  · rw [← hrt]
  · rw [← hrt]

end Sys2Proof.Machine
end

section
-- As the tests above: declarations in order, so that checking the one text stays within its memory.
set_option Elab.async false
/-!
PROOFS. The sources of network time (R290 to R302): one measurement, the domains and their masters, and the commands of the statement
(O55).
-/

namespace Sys2Proof.Machine

/-! ## One measurement (R296, R297) -/

/-- HOLDOVER, from LOCKING or LOCKED (R299). -/
theorem holdover_fields (h : Hw) : TimeKeeps h h.holdover ∧ h.holdover.time.now = h.time.now ∧
    h.holdover.time.last16 = h.time.last16 ∧ h.holdover.time.refused = h.time.refused ∧
    (∀ a, a ≠ timeA 0x10 → h.holdover.reg a = h.reg a) ∧
    (h.tStatus = 1 ∨ h.tStatus = 2 → h.holdover.tStatus = 3 ∧ Raised evTimeHoldover 0 h h.holdover) := by
  unfold Hw.holdover
  split
  next hs =>
    have hk := timeKeeps_status h 3
    have hst := status_fset h (v := 3) (by decide)
    have htime : (h.fset (timeA 0x10) 1 0 3).time = h.time := rfl
    have hreg : ∀ a, a ≠ timeA 0x10 → (h.fset (timeA 0x10) 1 0 3).reg a = h.reg a := fun a ha => (reg_fset ..).trans (if_neg ha)
    have hseq : (h.fset (timeA 0x10) 1 0 3).seq = h.seq := rfl
    have hpath : (h.fset (timeA 0x10) 1 0 3).fault = h.fault := rfl
    generalize h.fset (timeA 0x10) 1 0 3 = m at hk hst htime hreg hseq hpath
    have hkr := timeKeeps_raise m evTimeHoldover
    have hraised : Raised evTimeHoldover 0 h (m.raise evTimeHoldover) := ⟨false, by
      unfold Hw.raise Hw.raiseWith
      dsimp only
      rw [hk.pstate, hseq, hpath]⟩
    have hrs : (m.raise evTimeHoldover).tStatus = m.tStatus := rfl
    have hrt : (m.raise evTimeHoldover).time = m.time := rfl
    have hrr : ∀ a, (m.raise evTimeHoldover).reg a = m.reg a := fun _ => rfl
    generalize m.raise evTimeHoldover = r at hkr hraised hrs hrt hrr
    have hkt := timeKeeps_time r (t := { r.time with uncertBase := h.uncert, holdLen := 0 }) ⟨rfl, rfl, rfl, rfl⟩
    refine ⟨(hk.trans hkr).trans hkt, ?_, ?_, ?_, fun a ha => (hrr a).trans (hreg a ha), fun _ => ⟨hrs.trans hst, hraised⟩⟩
    · show r.time.now = _; rw [hrt, htime]
    · show r.time.last16 = _; rw [hrt, htime]
    · show r.time.refused = _; rw [hrt, htime]
  next hs => exact ⟨.refl h, rfl, rfl, rfl, fun _ _ => rfl, fun e => absurd e hs⟩

/-- A measurement that R296 refuses. -/
def Hw.refuse (h : Hw) : Hw :=
  let n := h.time.refused + 1
  let h := h.count (timeA 0x34)
  let h := { h with time := { h.time with refused := n } }
  let h := if n = 1 then h.raise evTimeJumpRefused else h
  if n = 16 then h.holdover else h

theorem refuse_fields (h : Hw) : TimeKeeps h h.refuse ∧ TimeCounted h h.refuse 0x34 ∧ h.refuse.time.refused = h.time.refused + 1 ∧
    h.refuse.time.now = h.time.now ∧ h.refuse.time.last16 = h.time.last16 ∧
    (h.time.refused = 0 → Raised evTimeJumpRefused 0 h h.refuse) := by
  unfold Hw.refuse
  dsimp only
  have hkc := timeKeeps_count h (o := 0x34) (.inr (.inl rfl))
  have hcount : TimeCounted h (h.count (timeA 0x34)) 0x34 := fget_count ..
  have hct : (h.count (timeA 0x34)).time = h.time := rfl
  have hcs : (h.count (timeA 0x34)).seq = h.seq := rfl
  have hcf : (h.count (timeA 0x34)).fault = h.fault := rfl
  generalize h.count (timeA 0x34) = c at hkc hcount hct hcs hcf
  have hkt := timeKeeps_time c (t := { c.time with refused := h.time.refused + 1 }) ⟨rfl, rfl, rfl, rfl⟩
  generalize hm : ({ c with time := { c.time with refused := h.time.refused + 1 } } : Hw) = m at hkt
  have hmt : m.time = { h.time with refused := h.time.refused + 1 } := by rw [← hm, ← hct]
  have hmr : ∀ a, m.reg a = c.reg a := fun a => by rw [← hm]; rfl
  have hms : m.seq = h.seq := by rw [← hm]; exact hcs
  have hmf : m.fault = h.fault := by rw [← hm]; exact hcf
  clear hm
  have hk := hkc.trans hkt
  have hmc : TimeCounted h m 0x34 := by
    unfold TimeCounted at hcount ⊢
    rw [fget_congr (hmr _), hcount]
  by_cases h1 : h.time.refused + 1 = 1
  · rw [if_pos h1, if_neg (by omega)]
    refine ⟨hk.trans (timeKeeps_raise _ _), hmc, ?_, ?_, ?_, fun _ => ⟨false, ?_⟩⟩
    · show m.time.refused = _; rw [hmt]
    · show m.time.now = _; rw [hmt]
    · show m.time.last16 = _; rw [hmt]
    · unfold Hw.raise Hw.raiseWith
      dsimp only
      rw [hk.pstate, hms, hmf]
  · rw [if_neg h1]
    have hno : h.time.refused = 0 → Raised evTimeJumpRefused 0 h (if h.time.refused + 1 = 16 then m.holdover else m) :=
      fun e => absurd (by omega) h1
    refine ⟨?_, ?_, ?_, ?_, ?_, hno⟩ <;> by_cases h16 : h.time.refused + 1 = 16 <;> simp only [h16, if_true, if_false]
    · exact hk.trans (holdover_fields m).1
    · exact hk
    · unfold TimeCounted at hmc ⊢
      rw [fget_congr ((holdover_fields m).2.2.2.2.1 _ (timeA_inj (by decide))), hmc]
    · exact hmc
    · rw [(holdover_fields m).2.2.2.1, hmt, h16]
    · rw [hmt]
    · rw [(holdover_fields m).2.1, hmt]
    · rw [hmt]
    · rw [(holdover_fields m).2.2.1, hmt]
    · rw [hmt]

theorem measure_eq (h : Hw) (off : Int) : h.measure off =
    if h.strictTime then (if !decide (off.natAbs > h.jumpLimit) then (h.acceptMeasure off).slewTo off else h.refuse)
    else if h.time.first || decide (off.natAbs > h.jumpLimit) then (h.acceptMeasure off).countedStep off
    else (h.acceptMeasure off).slewTo off := rfl

theorem accepted_slews (h : Hw) (off : Int) : TimeKeeps h ((h.acceptMeasure off).slewTo off) ∧
    Accepted off h ((h.acceptMeasure off).slewTo off) ∧ Slews off h ((h.acceptMeasure off).slewTo off) := by
  obtain ⟨hk, ⟨a1, a2, a3, a4, a5⟩, hnow, hrate, -⟩ := acceptMeasure_accepted h off
  generalize h.acceptMeasure off = m at hk a1 a2 a3 a4 a5 hnow hrate
  obtain ⟨hks, hsr, hst, hleft, hslew, hsrate⟩ := slewTo_fields m off
  generalize m.slewTo off = g at hks hsr hst hleft hslew hsrate
  refine ⟨hk.trans hks, ⟨?_, ?_, ?_, ?_, ?_⟩, ?_, hleft, hslew, by rw [hsrate]; exact hrate⟩
  · unfold TimeCounted at a1 ⊢
    rw [fget_congr (hsr _), a1]
  · rw [hst]; exact a2
  · rw [hst]; exact a3
  · rw [hst]; exact a4
  · exact (fget_congr (hsr _) 1 0).trans a5
  · rw [hst]; exact hnow

theorem accepted_steps {h : Hw} (ha : ∀ k, k < 32 → (h.te k).armed = false) (off : Int) :
    TimeKeeps h ((h.acceptMeasure off).countedStep off) ∧ Accepted off h ((h.acceptMeasure off).countedStep off) ∧
      Stepped off h ((h.acceptMeasure off).countedStep off) := by
  obtain ⟨hk, ⟨a1, a2, a3, a4, a5⟩, hnow, -, h38⟩ := acceptMeasure_accepted h off
  generalize h.acceptMeasure off = m at hk a1 a2 a3 a4 a5 hnow h38
  have hma : ∀ k, k < 32 → (m.te k).armed = false := fun k hk' => by
    unfold Hw.te
    rw [hk.time.1]
    exact ha k hk'
  obtain ⟨hks, ⟨s1, s2, s3, s4⟩, hsr, hl, hr, hf⟩ := countedStep_fields hma off
  generalize m.countedStep off = g at hks s1 s2 s3 s4 hsr hl hr hf
  refine ⟨hk.trans hks, ⟨?_, hl.trans a2, hr.trans a3, hf.trans a4, (fget_congr (hsr _ (timeA_inj (by decide))) 1 0).trans a5⟩,
    ⟨by rw [s1, hnow], s2, ?_, fun hlt => s4 (by rw [hk.pstate]; exact hlt)⟩⟩
  · unfold TimeCounted at a1 ⊢
    rw [fget_congr (hsr _ (timeA_inj (by decide))), a1]
  · unfold TimeCounted at s3 ⊢
    rw [s3, fget_congr h38]

/-- A measurement of the selected source, with no generator armed. -/
theorem measure_measured {h : Hw} (ha : ∀ k, k < 32 → (h.te k).armed = false) (off : Int) :
    TimeKeeps h (h.measure off) ∧ Measured off h (h.measure off) := by
  obtain ⟨ks, hs⟩ := accepted_slews h off
  obtain ⟨kt, ht⟩ := accepted_steps ha off
  obtain ⟨kr, hr⟩ := refuse_fields h
  rw [measure_eq]
  cases hstrict : h.strictTime with
  | true =>
    by_cases hbig : h.jumpLimit < off.natAbs
    · have e : (!decide (off.natAbs > h.jumpLimit)) = false := by rw [decide_eq_true hbig]; rfl
      rw [if_pos rfl, e, if_neg Bool.false_ne_true]
      exact ⟨kr, fun _ hn => absurd hbig hn, fun _ _ => hr, fun e => absurd (hstrict.symm.trans e) (by decide),
        fun e => absurd (hstrict.symm.trans e) (by decide)⟩
    · have e : (!decide (off.natAbs > h.jumpLimit)) = true := by rw [decide_eq_false hbig]; rfl
      rw [if_pos rfl, e, if_pos rfl]
      exact ⟨ks, fun _ _ => hs, fun _ hb => absurd hb hbig, fun e => absurd (hstrict.symm.trans e) (by decide),
        fun e => absurd (hstrict.symm.trans e) (by decide)⟩
  | false =>
    rw [if_neg Bool.false_ne_true]
    by_cases hstep : h.time.first = true ∨ h.jumpLimit < off.natAbs
    · rw [if_pos (by simpa using hstep)]
      refine ⟨kt, fun e => absurd (hstrict.symm.trans e) (by decide), fun e => absurd (hstrict.symm.trans e) (by decide), fun _ _ => ht,
        fun _ hf hb => absurd hstep ?_⟩
      rw [hf]
      exact fun e => e.elim (by decide) hb
    · rw [if_neg (by simpa using hstep)]
      exact ⟨ks, fun e => absurd (hstrict.symm.trans e) (by decide), fun e => absurd (hstrict.symm.trans e) (by decide),
        fun _ hb => absurd hb hstep, fun _ _ _ => hs⟩

end Sys2Proof.Machine
end

section
-- As the tests above: declarations in order, so that checking the one text stays within its memory.
set_option Elab.async false
/-!
PROOFS. The domains of network time and their masters (R292, R294, R297), the 1PPS and 10 MHz inputs (R290, R300), and the sources'
commands as the statement has them (O55).
-/

namespace Sys2Proof.Machine

/-! ## Domains and their masters -/

theorem domainOf_lt {h : Hw} {n : BitVec 8} {d : Nat} (hd : h.domainOf n = some d) : d < 2 := by
  have hm := List.mem_of_find?_eq_some hd
  simp only [List.mem_cons, List.not_mem_nil, or_false] at hm
  omega

theorem reg_setOffset (h : Hw) (d : Nat) (off : Int) (a : Nat) : (h.setOffset d off).reg a =
    if a = timeA (0x20 + 4 * d) then offsetReg off else h.reg a := reg_setReg h (timeA (0x20 + 4 * d)) a (offsetReg off)

theorem setOffset_fields (h : Hw) (d : Nat) (off : Int) :
    (h.setOffset d off).reg (timeA (0x20 + 4 * d)) = offsetReg off ∧ (h.setOffset d off).time = { h.time with offs := h.time.offs.set d off } ∧
      OnlyRegs [timeA (0x20 + 4 * d)] h { h.setOffset d off with time := h.time } :=
  ⟨(reg_setOffset ..).trans (if_pos rfl), rfl, onlyRegs_setReg ..⟩

theorem treats_setOffset (h : Hw) {d : Nat} (hd : d < 2) (off : Int) : Treats (h.setOffset d off) h := by
  have hreg : ∀ a, a ≠ timeA (0x20 + 4 * d) → (h.setOffset d off).reg a = h.reg a := fun a ha =>
    (reg_setOffset ..).trans (if_neg ha)
  have h10 : timeA 0x10 ≠ timeA (0x20 + 4 * d) := timeA_inj (by omega)
  refine treats_of rfl ⟨rfl, rfl, rfl, rfl, rfl⟩ (fun a _ h1 h2 _ => hreg a ?_) (fget_congr (hreg _ h10) 3 2) (fget_congr (hreg _ h10) 1 0)
  obtain rfl | rfl : d = 0 ∨ d = 1 := by omega
  · exact h1
  · exact h2

/-- Another domain is selected: what R297 says of it, and what stays. -/
structure Switched (d : Nat) (h g : Hw) : Prop where
  domain : g.tDomain = d
  count : TimeCounted h g 0x40
  event : OnPath evTimeDomainSwitched h g
  utc : g.reg (timeA 0x28) = utcReg (h.time.utc.getD d none)
  bits : ∀ n, 4 < n → n < 32 → g.bget (timeA 0x10) n = h.bget (timeA 0x10) n
  masters : g.time.best = h.time.best ∧ g.time.utc = h.time.utc

theorem selectDomain_switched (h : Hw) {d : Nat} (hd : d < 2) : Switched d h (h.selectDomain d) ∧ (h.selectDomain d).time = h.time ∧
    (h.selectDomain d).pstate = h.pstate := by
  unfold Hw.selectDomain
  have hm : (h.fset (timeA 0x10) 4 4 d).tDomain = d :=
    (fget_fset_same h (timeA 0x10) 4 4 d (by decide)).trans (Nat.mod_eq_of_lt hd)
  have hmb : ∀ n, 4 < n → n < 32 → (h.fset (timeA 0x10) 4 4 d).bget (timeA 0x10) n = h.bget (timeA 0x10) n := fun n h1 h2 => by
    rw [bget_fset _ _ _ _ _ _ _ h2, if_neg (by omega)]
  have hmr : ∀ a, a ≠ timeA 0x10 → (h.fset (timeA 0x10) 4 4 d).reg a = h.reg a := fun a ha => (reg_fset ..).trans (if_neg ha)
  have hmt : (h.fset (timeA 0x10) 4 4 d).time = h.time := rfl
  generalize h.fset (timeA 0x10) 4 4 d = m at hm hmb hmr hmt
  have hc : TimeCounted h (m.count (timeA 0x40)) 0x40 := (fget_count m _).trans (by rw [fget_congr (hmr _ (timeA_inj (by decide)))])
  have hcr : ∀ a, a ≠ timeA 0x40 → (m.count (timeA 0x40)).reg a = m.reg a := fun a ha => (reg_fset ..).trans (if_neg ha)
  have hct : (m.count (timeA 0x40)).time = m.time := rfl
  generalize m.count (timeA 0x40) = c at hc hcr hct
  have hcp : c.pstate = h.pstate := fget_congr ((hcr _ (timeA_ne_power _ (by decide))).trans (hmr _ (timeA_ne_power _ (by decide)))) 2 0
  have hon : OnPath evTimeDomainSwitched h (c.raise evTimeDomainSwitched) := onPath_raised hcp (Signals.refl _)
  have hrr : ∀ a, (c.raise evTimeDomainSwitched).reg a = c.reg a := fun _ => rfl
  have hrt : (c.raise evTimeDomainSwitched).time = c.time := rfl
  generalize c.raise evTimeDomainSwitched = r at hon hrr hrt
  have htime : r.time = h.time := hrt.trans (hct.trans hmt)
  have hreg : ∀ a, a ≠ timeA 0x28 → (r.setReg (timeA 0x28) (utcReg (r.time.utc.getD d none))).reg a = c.reg a := fun a ha =>
    ((reg_setReg ..).trans (if_neg ha)).trans (hrr a)
  have hstat : (r.setReg (timeA 0x28) (utcReg (r.time.utc.getD d none))).reg (timeA 0x10) = m.reg (timeA 0x10) :=
    (hreg _ (timeA_inj (by decide))).trans (hcr _ (timeA_inj (by decide)))
  refine ⟨⟨(fget_congr hstat 4 4).trans hm, ?_, hon, ?_, fun n h1 h2 => (bget_congr hstat n).trans (hmb n h1 h2), ?_⟩, htime,
    (fget_congr (hreg _ (timeA_ne_power _ (by decide))) 2 0).trans hcp⟩
  · unfold TimeCounted at hc ⊢
    rw [fget_congr (hreg _ (timeA_inj (by decide))), hc]
  · rw [reg_setReg_same, htime]
  · exact ⟨congrArg TimeSt.best htime, congrArg TimeSt.utc htime⟩

theorem switchDomain_switched {h : Hw} (ha : ∀ k, k < 32 → (h.te k).armed = false) {d : Nat} (hd : d < 2) :
    Switched d h (h.switchDomain d) := by
  obtain ⟨hs, ht, hp⟩ := selectDomain_switched h hd
  unfold Hw.switchDomain
  dsimp only
  generalize h.selectDomain d = m at hs ht hp
  split
  · have hma : ∀ k, k < 32 → (m.te k).armed = false := fun k hk => by
      unfold Hw.te
      rw [ht]
      exact ha k hk
    obtain ⟨hk, -, hreg, -, -, -⟩ := countedStep_fields hma (m.time.offs.getD d 0)
    generalize m.countedStep (m.time.offs.getD d 0) = g at hk hreg
    refine ⟨?_, ?_, fun hlt => ?_, ?_, fun n h1 h2 => ?_, ?_⟩
    · exact (hk.fields 4 4 (by decide) (by decide)).trans hs.domain
    · exact (fget_congr (hreg _ (timeA_inj (by decide))) 31 0).trans hs.count
    · obtain ⟨l, hl⟩ := hk.path
      obtain ⟨e, he, hid⟩ := hs.event hlt
      exact ⟨e, by rw [hl]; exact List.mem_append_left _ he, hid⟩
    · exact (hreg _ (timeA_inj (by decide))).trans hs.utc
    · exact (hk.bits n (by omega) h2).trans (hs.bits n h1 h2)
    · exact ⟨hk.time.2.2.1.trans hs.masters.1, hk.time.2.2.2.trans hs.masters.2⟩
  · exact hs

theorem getD_set_same {α : Type} {l : List α} {n : Nat} (hn : n < l.length) (x y : α) : (l.set n x).getD n y = x := by
  simp [List.getD_eq_getElem?_getD, hn]

/-! ## PTP_MESSAGE (R292 to R297) -/

section
variable {h : Hw} {x : PtpMsg} {d : Nat}

theorem execPtpMessage_passed (ha : h.tArmed = true)
    (hx : h.ptpHeard x = false ∨ h.domainOf x.domain = none ∨ x.body = .unsupported ∨ x.body = .notPtp) : execPtpMessage h x = h := by
  unfold execPtpMessage
  split
  · rfl
  next hb =>
    have hn : x.body ≠ .notPtp := fun e => hb (by rw [e]; simp)
    rw [ha, if_neg (by decide)]
    rcases hx with hx | hx | hx | hx
    · rw [hx]
    · rw [hx]
      cases h.ptpHeard x <;> rfl
    · rw [hx]
      cases h.ptpHeard x <;> cases h.domainOf x.domain <;> rfl
    · exact absurd hx hn

theorem execPtpMessage_heard (hp : h.pstate < 2) (ha : h.tArmed = true) (hh : h.ptpHeard x = true) (hd : h.domainOf x.domain = some d)
    (hb : x.body ≠ .notPtp) : execPtpMessage h x = match x.body with
      | .announce a utc =>
        if !h.winsDomain d a then h else
        let h := h.takeMaster d a utc
        if h.bget (timeA 0x14) 0 || h.strictTime || h.tValid h.tDomain || h.tDomain = d then h else h.switchDomain d
      | .exchange x =>
        if (h.time.best.getD d none).all (fun b => b.sender != x.sender) || !h.ptpMech x then h else
        let off := h.ptpOffset x
        let h := h.setOffset d off
        if h.bget (timeA 0x14) 0 || h.tDomain != d || !h.tValid d then h else h.measure off
      | _ => h := by
  have hn : ¬((h.pstate ≥ 2 || x.body == .notPtp) = true) := by simp [hb, hp]
  unfold execPtpMessage
  rw [if_neg hn, ha, if_neg (by decide), hh, hd] <;> rfl

/-- An exchange of the domain's best master, by the mechanism selected. -/
def Hw.knows (h : Hw) (d : Nat) (e : PtpExchange) : Bool := (h.time.best.getD d none).any (fun b => b.sender == e.sender) && h.ptpMech e

theorem knows_eq (h : Hw) (d : Nat) (e : PtpExchange) :
    ((h.time.best.getD d none).all (fun b => b.sender != e.sender) || !h.ptpMech e) = !h.knows d e := by
  unfold Hw.knows
  cases h.time.best.getD d none with
  | none => simp
  | some b => simp [bne]

theorem ptp_exchange (hp : h.pstate < 2) (ha : h.tArmed = true) (hh : h.ptpHeard x = true) (hd : h.domainOf x.domain = some d)
    {e : PtpExchange} (hb : x.body = .exchange e) : execPtpMessage h x = if !h.knows d e then h else
      if (h.setOffset d (h.ptpOffset e)).bget (timeA 0x14) 0 || (h.setOffset d (h.ptpOffset e)).tDomain != d ||
        !(h.setOffset d (h.ptpOffset e)).tValid d then h.setOffset d (h.ptpOffset e)
      else (h.setOffset d (h.ptpOffset e)).measure (h.ptpOffset e) := by
  rw [execPtpMessage_heard hp ha hh hd (by rw [hb]; exact fun c => nomatch c), hb]
  dsimp only
  rw [knows_eq]

theorem setOffset_stat (h : Hw) {d : Nat} (off : Int) : (h.setOffset d off).bget (timeA 0x14) 0 = h.bget (timeA 0x14) 0 ∧
    (h.setOffset d off).tDomain = h.tDomain ∧ ∀ i, (h.setOffset d off).tValid i = h.tValid i := by
  have hreg : ∀ o, o < 0x20 → (h.setOffset d off).reg (timeA o) = h.reg (timeA o) := fun o ho =>
    (reg_setOffset ..).trans (if_neg (timeA_inj (by omega)))
  exact ⟨bget_congr (hreg _ (by decide)) 0, fget_congr (hreg _ (by decide)) 4 4, fun i => bget_congr (hreg _ (by decide)) _⟩

/-- An exchange that is no measurement is noted. -/
theorem ptp_noted (hp : h.pstate < 2) (ha : h.tArmed = true) (hh : h.ptpHeard x = true) (hd : h.domainOf x.domain = some d)
    {e : PtpExchange} (hb : x.body = .exchange e) (hk : h.knows d e = true)
    (ho : h.tDomain ≠ d ∨ ¬h.bget (timeA 0x14) 0 = false) : execPtpMessage h x = h.setOffset d (h.ptpOffset e) := by
  obtain ⟨h1, h2, h3⟩ := setOffset_stat h (d := d) (h.ptpOffset e)
  rw [ptp_exchange hp ha hh hd hb, hk, h1, h2, h3]
  rcases ho with ho | ho <;> simp [ho]

/-- An exchange of the selected, valid domain is measured. -/
theorem ptp_measured (hp : h.pstate < 2) (ha : h.tArmed = true) (hh : h.ptpHeard x = true) (hd : h.domainOf x.domain = some d)
    {e : PtpExchange} (hb : x.body = .exchange e) (hk : h.knows d e = true) (ho : h.tDomain = d) (hv : h.tValid d = true)
    (hs : h.bget (timeA 0x14) 0 = false) : execPtpMessage h x = (h.setOffset d (h.ptpOffset e)).measure (h.ptpOffset e) := by
  obtain ⟨h1, h2, h3⟩ := setOffset_stat h (d := d) (h.ptpOffset e)
  rw [ptp_exchange hp ha hh hd hb, hk, h1, h2, h3, ho, hv, hs]
  simp

/-! ### An Announce (R289, R294) -/

/-- The best master of domain d has announced itself. -/
structure Mastered (d : Nat) (a : PtpMaster) (utc : Option (BitVec 16)) (h g : Hw) : Prop where
  valid : g.tValid d = true
  others : ∀ n, n ≠ 6 + d → g.bget (timeA 0x10) n = h.bget (timeA 0x10) n
  fields : ∀ hi lo, hi < 6 → g.fget (timeA 0x10) hi lo = h.fget (timeA 0x10) hi lo
  time : g.time = { h.time with best := h.time.best.set d (some a), utc := h.time.utc.set d utc, offs := g.time.offs }
  shown : h.tDomain = d → g.reg (timeA 0x28) = utcReg utc
  only : OnlyRegs [timeA 0x10, timeA 0x28, timeA (0x20 + 4 * d)] h { g with time := h.time }

/-- The Announce before UTC_OFFSET. -/
theorem takeMaster_eq (h : Hw) (d : Nat) (a : PtpMaster) (utc : Option (BitVec 16)) : ∃ m : Hw,
    (m = h ∨ m = h.setOffset d 0) ∧ h.takeMaster d a utc =
      (let k : Hw := { m.setTStat (6 + d) true with
        time := { m.time with best := m.time.best.set d (some a), utc := m.time.utc.set d utc } }
      if k.tDomain = d then k.setReg (timeA 0x28) (utcReg utc) else k) := by
  unfold Hw.takeMaster
  cases hb : h.time.best.getD d none with
  | none => exact ⟨_, .inr rfl, rfl⟩
  | some b =>
    by_cases hs : b.sender = a.sender
    · exact ⟨h, .inl rfl, by simp only [hs, if_true]; rfl⟩
    · exact ⟨_, .inr rfl, by simp only [hs, if_false]; rfl⟩

theorem takeMaster_mastered (h : Hw) {d : Nat} (hd : d < 2) (a : PtpMaster) (utc : Option (BitVec 16)) :
    Mastered d a utc h (h.takeMaster d a utc) := by
  obtain ⟨m, hm, heq⟩ := takeMaster_eq h d a utc
  rw [heq]
  clear heq
  have hmr : ∀ x, x ≠ timeA (0x20 + 4 * d) → m.reg x = h.reg x := fun x hx => by
    rcases hm with rfl | rfl
    · rfl
    · exact (reg_setOffset ..).trans (if_neg hx)
  have hmt : m.time = { h.time with offs := m.time.offs } := by rcases hm with rfl | rfl <;> rfl
  have hmh : m = { h with regs := m.regs, time := m.time } := by rcases hm with rfl | rfl <;> rfl
  clear hm
  have hd10 : timeA 0x10 ≠ timeA (0x20 + 4 * d) := timeA_inj (by omega)
  have hqb : ∀ n, (m.setTStat (6 + d) true).bget (timeA 0x10) n = if n = 6 + d then true else h.bget (timeA 0x10) n := fun n => by
    rw [bget_setTStat m true (by omega), bget_congr (hmr _ hd10)]
  have hqf : ∀ hi lo, hi < 6 → (m.setTStat (6 + d) true).fget (timeA 0x10) hi lo = h.fget (timeA 0x10) hi lo := fun hi lo hlt =>
    (fget_setTStat m true (by omega) (.inl (by omega))).trans (fget_congr (hmr _ hd10) hi lo)
  have hqr : ∀ x, x ≠ timeA 0x10 → x ≠ timeA (0x20 + 4 * d) → (m.setTStat (6 + d) true).reg x = h.reg x := fun x h1 h2 =>
    (reg_setTStat m _ _ h1).trans (hmr x h2)
  have hqh : m.setTStat (6 + d) true = { m with regs := (m.setTStat (6 + d) true).regs } := rfl
  generalize m.setTStat (6 + d) true = q at hqb hqf hqr hqh ⊢
  generalize hk : ({ q with time := { m.time with best := m.time.best.set d (some a), utc := m.time.utc.set d utc } } : Hw) = k
  have hkr : ∀ x, k.reg x = q.reg x := fun x => by rw [← hk]; rfl
  have hkt : k.time = { h.time with best := h.time.best.set d (some a), utc := h.time.utc.set d utc, offs := k.time.offs } := by
    rw [← hk, hmt]
  have hkh : k = { h with regs := k.regs, time := k.time } := by rw [← hk, hqh, hmh]
  clear hk
  have hkd : k.tDomain = h.tDomain := (fget_congr (hkr _) 4 4).trans (hqf 4 4 (by decide))
  have hvalid : k.tValid d = true := (bget_congr (hkr _) (6 + d)).trans ((hqb _).trans (if_pos rfl))
  have hothers : ∀ n, n ≠ 6 + d → k.bget (timeA 0x10) n = h.bget (timeA 0x10) n := fun n hn =>
    (bget_congr (hkr _) n).trans ((hqb n).trans (if_neg hn))
  have hfields : ∀ hi lo, hi < 6 → k.fget (timeA 0x10) hi lo = h.fget (timeA 0x10) hi lo := fun hi lo hlt =>
    (fget_congr (hkr _) hi lo).trans (hqf hi lo hlt)
  have honly : OnlyRegs [timeA 0x10, timeA 0x28, timeA (0x20 + 4 * d)] h { k with time := h.time } := by
    refine ⟨by rw [hkh], fun x hx => (hkr x).trans (hqr x ?_ ?_)⟩
    · exact fun e => hx (by rw [e]; simp)
    · exact fun e => hx (by rw [e]; simp)
  dsimp only
  rw [hkd]
  split
  next he =>
    have hr : ∀ x, x ≠ timeA 0x28 → (k.setReg (timeA 0x28) (utcReg utc)).reg x = k.reg x := fun x hx =>
      (reg_setReg ..).trans (if_neg hx)
    refine ⟨(bget_congr (hr _ (timeA_inj (by decide))) (6 + d)).trans hvalid,
      fun n hn => (bget_congr (hr _ (timeA_inj (by decide))) n).trans (hothers n hn),
      fun hi lo hlt => (fget_congr (hr _ (timeA_inj (by decide))) hi lo).trans (hfields hi lo hlt), hkt, fun _ => reg_setReg_same .., ?_⟩
    refine ⟨by rw [show k.setReg (timeA 0x28) (utcReg utc) = { k with regs := (k.setReg (timeA 0x28) (utcReg utc)).regs } from rfl, hkh],
      fun x hx => (hr x fun e => hx (by rw [e]; simp)).trans (honly.2 x hx)⟩
  next he => exact ⟨hvalid, hothers, hfields, hkt, fun e => absurd e he, honly⟩

theorem Mastered.treats {h g : Hw} {d : Nat} {a : PtpMaster} {utc : Option (BitVec 16)} (w : Mastered d a utc h g) (hd : d < 2) :
    Treats g h := by
  refine treats_of ?_ ?_ (fun x h1 h2 h3 h4 => w.only.2 x ?_) (w.fields 3 2 (by decide)) (w.fields 1 0 (by decide))
  · have hr := congrArg (fun k : Hw => { k with time := g.time }) w.only.1
    exact hr
  · rw [w.time]
    exact ⟨rfl, rfl, rfl, rfl, rfl⟩
  · obtain rfl | rfl : d = 0 ∨ d = 1 := by omega
    · simp [h1, h2, h4]
    · simp [h1, h3, h4]

theorem ptp_announce (hp : h.pstate < 2) (ha : h.tArmed = true) (hh : h.ptpHeard x = true) (hd : h.domainOf x.domain = some d)
    {a : PtpMaster} {utc : Option (BitVec 16)} (hb : x.body = .announce a utc) : execPtpMessage h x =
      if !h.winsDomain d a then h else
        if (h.takeMaster d a utc).bget (timeA 0x14) 0 || (h.takeMaster d a utc).strictTime ||
          (h.takeMaster d a utc).tValid (h.takeMaster d a utc).tDomain || (h.takeMaster d a utc).tDomain = d then h.takeMaster d a utc
        else (h.takeMaster d a utc).switchDomain d := by
  rw [execPtpMessage_heard hp ha hh hd (by rw [hb]; exact fun c => nomatch c), hb]

end

end Sys2Proof.Machine
end

section
-- As the tests above: declarations in order, so that checking the one text stays within its memory.
set_option Elab.async false
/-!
PROOFS. The commands of the time sources (R290, R294, R295, R297, R300), and the statement about them (O55).
-/

namespace Sys2Proof.Machine

section
variable {h : Hw}

/-! ## An Announce that wins its domain -/

/-- Whether a domain that announces its best master is selected then. -/
def Hw.takesOver (h : Hw) : Prop :=
  h.bget (timeA 0x14) 0 = false ∧ h.strictTime = false ∧ h.tValid h.tDomain = false

theorem announce_wins {x : PtpMsg} {d : Nat} {a : PtpMaster} {utc : Option (BitVec 16)} (hp : h.pstate < 2) (ha : h.tArmed = true)
    (hh : h.ptpHeard x = true) (hd : h.domainOf x.domain = some d) (hb : x.body = .announce a utc) (hw : h.winsDomain d a = true) :
    Mastered d a utc h (h.takeMaster d a utc) ∧
      (h.tDomain = d ∨ ¬h.takesOver → execPtpMessage h x = h.takeMaster d a utc) ∧
      (h.tDomain ≠ d → h.takesOver → execPtpMessage h x = (h.takeMaster d a utc).switchDomain d) := by
  have hlt := domainOf_lt hd
  have hm := takeMaster_mastered h hlt a utc
  rw [ptp_announce hp ha hh hd hb, hw]
  generalize h.takeMaster d a utc = m at hm ⊢
  have hdom : m.tDomain = h.tDomain := hm.fields 4 4 (by decide)
  have hstrict := (hm.treats hlt).strict
  have hsrc : m.bget (timeA 0x14) 0 = h.bget (timeA 0x14) 0 := bget_congr (hm.only.2 _ (by
    have h1 : timeA 0x14 ≠ timeA 0x10 := timeA_inj (by decide)
    have h2 : timeA 0x14 ≠ timeA 0x28 := timeA_inj (by decide)
    have h3 : timeA 0x14 ≠ timeA (0x20 + 4 * d) := timeA_inj (by omega)
    simp [h1, h2, h3])) 0
  rw [hdom, hsrc, hstrict]
  refine ⟨hm, fun e => ?_, fun hne ht => ?_⟩
  · by_cases hself : h.tDomain = d
    · rw [decide_eq_true hself, Bool.or_true]
      rfl
    · have hv : m.tValid h.tDomain = h.tValid h.tDomain := hm.others _ (by omega)
      have ht := e.resolve_left hself
      rw [hv]
      refine (if_neg (by decide)).trans (if_pos ?_)
      by_contra hc
      simp only [Bool.or_eq_true, not_or, Bool.not_eq_true] at hc
      obtain ⟨⟨⟨h1, h2⟩, h3⟩, -⟩ := hc
      exact ht ⟨h1, h2, h3⟩
  · have hv : m.tValid h.tDomain = h.tValid h.tDomain := hm.others _ (by omega)
    obtain ⟨h1, h2, h3⟩ := ht
    rw [hv, h1, h2, h3, decide_eq_false hne]
    rfl

/-! ## A domain that loses its master -/

theorem dropMaster_fields (h : Hw) {d : Nat} (hd : d < 2) : Treats (h.dropMaster d) h ∧ (h.dropMaster d).tValid d = false ∧
    (∀ n, n ≠ 6 + d → (h.dropMaster d).bget (timeA 0x10) n = h.bget (timeA 0x10) n) ∧ (h.dropMaster d).tDomain = h.tDomain ∧
    (h.dropMaster d).bget (timeA 0x14) 0 = h.bget (timeA 0x14) 0 := by
  have hqb : ∀ n, (h.setTStat (6 + d) false).bget (timeA 0x10) n = if n = 6 + d then false else h.bget (timeA 0x10) n := fun n =>
    bget_setTStat h false (by omega)
  have hqf : ∀ hi lo, hi < 6 → (h.setTStat (6 + d) false).fget (timeA 0x10) hi lo = h.fget (timeA 0x10) hi lo := fun hi lo hlt =>
    fget_setTStat h false (by omega) (.inl (by omega))
  have hqr : ∀ x, x ≠ timeA 0x10 → (h.setTStat (6 + d) false).reg x = h.reg x := fun x h1 => reg_setTStat h _ _ h1
  have hqh : h.setTStat (6 + d) false = { h with regs := (h.setTStat (6 + d) false).regs } := rfl
  unfold Hw.dropMaster
  dsimp only
  generalize h.setTStat (6 + d) false = q at hqb hqf hqr hqh ⊢
  have hqt : q.time = h.time := by rw [hqh]
  generalize hk : ({ q with time := { q.time with best := q.time.best.set d none, utc := q.time.utc.set d none } } : Hw) = k
  have hkr : ∀ x, k.reg x = q.reg x := fun x => by rw [← hk]; rfl
  have hkt : k.time = { h.time with best := k.time.best, utc := k.time.utc } := by rw [← hk, ← hqt]
  have hkh : k = { h with regs := k.regs, time := k.time } := by rw [← hk, hqh]
  clear hk
  refine ⟨treats_of hkh ?_ (fun a h1 _ _ _ => (hkr a).trans (hqr a h1)) ((fget_congr (hkr _) 3 2).trans (hqf 3 2 (by decide)))
    ((fget_congr (hkr _) 1 0).trans (hqf 1 0 (by decide))), ?_, fun n hn => ?_, ?_, ?_⟩
  · rw [hkt]
    exact ⟨rfl, rfl, rfl, rfl, rfl⟩
  · exact (bget_congr (hkr _) (6 + d)).trans ((hqb _).trans (if_pos rfl))
  · exact (bget_congr (hkr _) n).trans ((hqb n).trans (if_neg hn))
  · exact (fget_congr (hkr _) 4 4).trans (hqf 4 4 (by decide))
  · exact bget_congr ((hkr _).trans (hqr _ (timeA_inj (by decide)))) 0

/-- HOLDOVER has begun. -/
def Holdover (h g : Hw) : Prop := g.tStatus = 3 ∧ Raised evTimeHoldover 0 h g ∧ g.time.now = h.time.now

theorem holdover_of_treats {m : Hw} (t : Treats m h) (hl : h.tStatus = 1 ∨ h.tStatus = 2) : Holdover h m.holdover := by
  obtain ⟨-, hnow, -, -, -, hs⟩ := holdover_fields m
  obtain ⟨h1, h2⟩ := hs (by rw [t.status]; exact hl)
  exact ⟨h1, h2.of_treats t, hnow.trans t.time.1⟩

theorem announceTimeout_eq {d : Nat} (hp : h.pstate < 2) (hd : d < 2) (hv : h.tValid d = true) (hs : h.bget (timeA 0x14) 0 = false)
    (ht : h.tDomain = d) : execAnnounceTimeout h d =
      if !h.strictTime && h.tValid (1 - d) then (h.dropMaster d).switchDomain (1 - d) else (h.dropMaster d).holdover := by
  obtain ⟨htr, -, hothers, hdom, hsrc⟩ := dropMaster_fields h hd
  have hbad : ¬((decide (d ≥ 2) || decide (h.pstate ≥ 3) || !h.tValid d) = true) := by
    rw [hv, decide_eq_false (by omega : ¬d ≥ 2), decide_eq_false (by omega : ¬h.pstate ≥ 3)]
    decide
  unfold execAnnounceTimeout
  rw [if_neg hbad]
  generalize h.dropMaster d = m at htr hothers hdom hsrc ⊢
  have hgo : ¬((m.bget (timeA 0x14) 0 || m.tDomain != d || decide (2 ≤ m.pstate)) = true) := by
    rw [hsrc, hs, hdom, ht, htr.pstate, decide_eq_false (by omega : ¬2 ≤ h.pstate)]
    simp
  unfold Hw.masterLost
  rw [if_neg hgo, htr.strict, show m.tValid (1 - d) = h.tValid (1 - d) from hothers _ (by omega)]

theorem announceTimeout_told {d : Nat} (hp : h.pstate < 2) (ha : ∀ k, k < 32 → (h.te k).armed = false) (hd : d < 2)
    (hv : h.tValid d = true) (hs : h.bget (timeA 0x14) 0 = false) (ht : h.tDomain = d) :
    (execAnnounceTimeout h d).tValid d = false ∧
      (h.strictTime = false → h.tValid (1 - d) = true → (execAnnounceTimeout h d).tDomain = 1 - d ∧
        TimeCounted h (execAnnounceTimeout h d) 0x40 ∧ OnPath evTimeDomainSwitched h (execAnnounceTimeout h d)) ∧
      (h.strictTime = true ∨ h.tValid (1 - d) = false → h.tStatus = 1 ∨ h.tStatus = 2 → Holdover h (execAnnounceTimeout h d)) := by
  obtain ⟨htr, hvalid, -, -, -⟩ := dropMaster_fields h hd
  rw [announceTimeout_eq hp hd hv hs ht]
  generalize h.dropMaster d = m at htr hvalid ⊢
  by_cases hsw : h.strictTime = false ∧ h.tValid (1 - d) = true
  · have hma : ∀ k, k < 32 → (m.te k).armed = false := fun k hk => by
      unfold Hw.te
      rw [htr.time.2.2.2.2]
      exact ha k hk
    have hw := switchDomain_switched hma (d := 1 - d) (by omega)
    have hc : (!h.strictTime && h.tValid (1 - d)) = true := by rw [hsw.1, hsw.2]; rfl
    rw [if_pos hc]
    generalize m.switchDomain (1 - d) = g at hw
    refine ⟨?_, fun _ _ => ⟨hw.domain, ?_, hw.event.of_treats htr⟩, fun e => ?_⟩
    · exact (hw.bits _ (by omega) (by omega)).trans hvalid
    · exact hw.count.of_treats htr (.inr (.inr (.inr rfl)))
    · exact absurd e (by simp [hsw])
  · have hc : ¬((!h.strictTime && h.tValid (1 - d)) = true) := by simpa using hsw
    rw [if_neg hc]
    refine ⟨?_, fun h1 h2 => absurd ⟨h1, h2⟩ hsw, fun _ hl => holdover_of_treats htr hl⟩
    exact ((holdover_fields m).1.bits _ (by omega) (by omega)).trans hvalid

/-! ## The 1PPS input (R300) -/

theorem treats_setPps (h : Hw) (b : Bool) : Treats (h.setTStat 9 b) h :=
  treats_of rfl ⟨rfl, rfl, rfl, rfl, rfl⟩ (fun _ h1 _ _ _ => reg_setTStat h _ _ h1) (fget_setTStat h b (by decide) (.inl (by decide)))
    (fget_setTStat h b (by decide) (.inl (by decide)))

theorem setPps_source (h : Hw) (b : Bool) : (h.setTStat 9 b).bget (timeA 0x14) 0 = h.bget (timeA 0x14) 0 ∧
    (h.setTStat 9 b).tArmed = h.tArmed ∧ (h.setTStat 9 b).bget (timeA 0x10) 9 = b :=
  ⟨bget_congr (reg_setTStat h _ _ (timeA_inj (by decide))) 0, (bget_setTStat h b (by decide)).trans (if_neg (by decide)),
    (bget_setTStat h b (by decide)).trans (if_pos rfl)⟩

theorem ppsEdge_eq (hp : h.pstate < 2) (ha : h.tArmed = true) (sub : Nat) : execPpsEdge h sub =
    if h.bget (timeA 0x14) 0 then (h.setTStat 9 true).measure
      ((((h.time.now + sub % courseUnits h.seq.level + unitsPerSec / 2) / unitsPerSec * unitsPerSec : Nat) : Int) -
        ((h.time.now + sub % courseUnits h.seq.level : Nat) : Int))
    else h.setTStat 9 true := by
  obtain ⟨h1, h2, -⟩ := setPps_source h true
  have ht := treats_setPps h true
  unfold execPpsEdge
  rw [if_neg (by omega)]
  dsimp only
  rw [h1, h2, ha, ht.pstate, ht.time.1, ht.seq]
  have hne : h.pstate ≠ 2 := by omega
  cases h.bget (timeA 0x14) 0 <;> simp [hne]

theorem ppsTimeout_eq (hp : h.pstate < 2) : execPpsTimeout h =
    if h.bget (timeA 0x14) 0 then (h.setTStat 9 false).holdover else h.setTStat 9 false := by
  obtain ⟨h1, -, -⟩ := setPps_source h false
  unfold execPpsTimeout
  rw [if_neg (by omega)]
  dsimp only
  rw [h1]

/-! ## The 10 MHz input and the phases (R290, R295) -/

theorem phaseNormal_told (hs : h.tStatus = 2) (hp : h.tPhase = 0 ∨ h.tPhase = 3) : (execPhaseNormal h).tPhase = 1 ∧
    (execPhaseNormal h).time.first = true ∧ OnlyRegs [timeA 0x10] h { execPhaseNormal h with time := h.time } := by
  unfold execPhaseNormal
  rw [if_pos ⟨hs, hp⟩]
  exact ⟨fget_fset_same h (timeA 0x10) 3 2 1 (by decide), rfl, onlyRegs_fset ..⟩

theorem ref10mLoss_told (h : Hw) : (execRef10mLoss h).time = { h.time with ref10m := false } ∧
    (execRef10mLoss h).bget (timeA 0x10) 8 = false ∧ (h.bget (timeA 0x10) 8 = true → Raised evRefLost 0 h (execRef10mLoss h)) := by
  have hexec : execRef10mLoss h = if h.bget (timeA 0x10) 8
      then (({ h with time := { h.time with ref10m := false } } : Hw).setTStat 8 false).raise evRefLost
      else { h with time := { h.time with ref10m := false } } := rfl
  rw [hexec]
  generalize hm : ({ h with time := { h.time with ref10m := false } } : Hw) = m
  have hmt : m.time = { h.time with ref10m := false } := by rw [← hm]
  have hmr : ∀ a, m.reg a = h.reg a := fun a => by rw [← hm]; rfl
  have hmf : m.fault = h.fault ∧ m.seq = h.seq := by rw [← hm]; exact ⟨rfl, rfl⟩
  clear hm
  split
  · have hq := bget_setTStat m (n := 8) (i := 8) false (by decide)
    have hqp : (m.setTStat 8 false).pstate = h.pstate :=
      fget_congr ((reg_setTStat m _ _ (timeA_ne_power _ (by decide))).trans (hmr _)) 2 0
    have hqt : (m.setTStat 8 false).time = m.time ∧ (m.setTStat 8 false).fault = m.fault ∧ (m.setTStat 8 false).seq = m.seq :=
      ⟨rfl, rfl, rfl⟩
    generalize m.setTStat 8 false = q at hq hqp hqt
    refine ⟨hqt.1.trans hmt, hq, fun _ => ⟨false, ?_⟩⟩
    unfold Hw.raise Hw.raiseWith
    dsimp only
    rw [hqp, hqt.2.1, hqt.2.2, hmf.1, hmf.2]
  next hb => exact ⟨hmt, (bget_congr (hmr _) 8).trans (Bool.eq_false_iff.2 hb), fun e => absurd e hb⟩

theorem ref10mReturn_told (h : Hw) : (execRef10mReturn h).time = { h.time with ref10m := true } ∧
    (h.bget (timeA 0x14) 22 = true → (execRef10mReturn h).bget (timeA 0x10) 8 = true) ∧
    OnlyRegs [timeA 0x10] h { execRef10mReturn h with time := h.time } := by
  have hexec : execRef10mReturn h = if h.bget (timeA 0x14) 22
      then ({ h with time := { h.time with ref10m := true } } : Hw).setTStat 8 true
      else { h with time := { h.time with ref10m := true } } := rfl
  rw [hexec]
  split
  · exact ⟨rfl, fun _ => bget_setTStat _ true (by decide), onlyRegs_setTStat h 8 true⟩
  next hb => exact ⟨rfl, fun e => absurd e hb, rfl, fun _ _ => rfl⟩

end

/-- Settles O55: each source's command comes down to one measurement, one change of a domain's master, or one bit of STAT. -/
theorem timeSources : Obligations.TimeSources := by
  unfold Obligations.TimeSources
  intro s hp ha hte hoffs t ptp counted accepted measured holds locked
  refine ⟨fun x d hh hd => ⟨fun e hb => ⟨fun hk => ?_, fun hk ho => ?_, fun hk ho hv hs => ?_⟩,
    fun a utc hb => ⟨fun hw => ?_, fun hw hl1 hl2 => ?_⟩⟩, fun x hx => ?_, fun sub => ?_, ?_, fun d hd hv hs ht => ?_,
    fun hv hd hst hs => ?_, fun hs hph => ?_, ?_, ?_⟩
  · refine exec_unchanged rfl ((ptp_exchange hp ha hh hd hb).trans (if_pos ?_))
    rw [show s.hw.knows d e = false from hk]
    rfl
  · refine does_of rfl ?_
    rw [show effect (.ptpMessage x) s.hw = _ from ptp_noted hp ha hh hd hb hk ho]
    exact setOffset_fields s.hw d (s.hw.ptpOffset e)
  · have hlt := domainOf_lt hd
    refine does_of rfl ?_
    rw [show effect (.ptpMessage x) s.hw = _ from ptp_measured hp ha hh hd hb hk ho hv hs]
    have htr := treats_setOffset s.hw hlt (s.hw.ptpOffset e)
    obtain ⟨hreg, htime, -⟩ := setOffset_fields s.hw d (s.hw.ptpOffset e)
    generalize s.hw.setOffset d (s.hw.ptpOffset e) = m at htr hreg htime
    have hma : ∀ k, k < 32 → (m.te k).armed = false := fun k hk => by
      unfold Hw.te
      rw [htr.time.2.2.2.2]
      exact hte k hk
    obtain ⟨hkeep, hmeas⟩ := measure_measured hma (s.hw.ptpOffset e)
    generalize m.measure (s.hw.ptpOffset e) = g at hkeep hmeas
    refine ⟨hmeas.of_treats htr, ?_, ?_⟩
    · exact (hkeep.reg _ (timeA_inj (by omega)) (timeA_inj (by omega)) (timeA_inj (by omega)) (timeA_inj (by omega))).trans hreg
    · rw [hkeep.time.2.1, htime]
      exact getD_set_same (by rw [hoffs]; exact hlt) _ _
  · refine exec_unchanged rfl ((ptp_announce hp ha hh hd hb).trans (if_pos ?_))
    rw [hw]
    rfl
  · have hlt := domainOf_lt hd
    obtain ⟨hm, hstay, hover⟩ := announce_wins hp ha hh hd hb hw
    have htr := hm.treats hlt
    generalize s.hw.takeMaster d a utc = m at hm hstay hover htr
    have hbest : m.time.best.getD d none = some a ∧ m.time.utc.getD d none = utc := by
      rw [hm.time]
      exact ⟨getD_set_same (by rw [hl1]; exact hlt) _ _, getD_set_same (by rw [hl2]; exact hlt) _ _⟩
    refine does_of rfl ?_
    by_cases hsel : s.hw.tDomain ≠ d ∧ s.hw.takesOver
    · rw [show effect (.ptpMessage x) s.hw = _ from hover hsel.1 hsel.2]
      have hma : ∀ k, k < 32 → (m.te k).armed = false := fun k hk => by
        unfold Hw.te
        rw [htr.time.2.2.2.2]
        exact hte k hk
      have hsw := switchDomain_switched hma hlt
      generalize m.switchDomain d = g at hsw
      refine ⟨(hsw.bits _ (by omega) (by omega)).trans hm.valid, ?_, ?_, fun _ => ⟨hsw.domain, hsw.utc.trans ?_⟩, fun e => absurd e hsel.1⟩
      · rw [hsw.masters.1]
        exact hbest.1
      · rw [hsw.masters.2]
        exact hbest.2
      · rw [hbest.2]
        rfl
    · have hself : s.hw.tDomain = d ∨ ¬s.hw.takesOver := by
        by_cases hd' : s.hw.tDomain = d
        · exact .inl hd'
        · exact .inr fun e => hsel ⟨hd', e⟩
      rw [show effect (.ptpMessage x) s.hw = _ from hstay hself]
      refine ⟨hm.valid, hbest.1, hbest.2, fun e => ?_, fun e => ⟨hm.only, by rw [hm.time]⟩⟩
      have hd' : s.hw.tDomain = d := by
        by_contra hne
        exact hsel ⟨hne, e.resolve_left hne⟩
      exact ⟨(hm.fields 4 4 (by decide)).trans hd', hm.shown hd'⟩
  · exact exec_unchanged rfl (execPtpMessage_passed ha hx)
  · refine does_of rfl ?_
    rw [show effect (.ppsEdge sub) s.hw = _ from ppsEdge_eq hp ha sub]
    have htr := treats_setPps s.hw true
    obtain ⟨-, -, hbit⟩ := setPps_source s.hw true
    have honly := onlyRegs_setTStat s.hw 9 true
    generalize s.hw.setTStat 9 true = m at htr hbit honly
    split
    next hs =>
      have hma : ∀ k, k < 32 → (m.te k).armed = false := fun k hk => by
        unfold Hw.te
        rw [htr.time.2.2.2.2]
        exact hte k hk
      obtain ⟨hkeep, hmeas⟩ := measure_measured hma
        ((((s.hw.time.now + sub % courseUnits s.hw.seq.level + unitsPerSec / 2) / unitsPerSec * unitsPerSec : Nat) : Int) -
          ((s.hw.time.now + sub % courseUnits s.hw.seq.level : Nat) : Int))
      exact ⟨(hkeep.bits 9 (by decide) (by decide)).trans hbit, fun e => absurd (hs.symm.trans e) (by decide),
        fun _ => hmeas.of_treats htr⟩
    next hs => exact ⟨hbit, fun _ => honly, fun e => absurd (Bool.eq_false_iff.2 hs) e⟩
  · refine does_of rfl ?_
    rw [show effect .ppsTimeout s.hw = _ from ppsTimeout_eq hp]
    have htr := treats_setPps s.hw false
    obtain ⟨-, -, hbit⟩ := setPps_source s.hw false
    have honly := onlyRegs_setTStat s.hw 9 false
    generalize s.hw.setTStat 9 false = m at htr hbit honly
    split
    next hs =>
      exact ⟨((holdover_fields m).1.bits 9 (by decide) (by decide)).trans hbit, fun e => absurd (hs.symm.trans e) (by decide),
        fun _ hl => holdover_of_treats htr hl⟩
    next hs => exact ⟨hbit, fun _ => honly, fun e => absurd (Bool.eq_false_iff.2 hs) e⟩
  · exact does_of (decide_eq_true hd) (announceTimeout_told hp hte hd hv hs ht)
  · have hex : effect .primaryReturn s.hw = s.hw.switchDomain 0 := by
      refine if_pos ?_
      rw [decide_eq_true hp, hv, hd, hst, show s.hw.bget (timeA 0x14) 0 = false from hs]
      rfl
    refine does_of rfl ?_
    rw [hex]
    have hsw := switchDomain_switched hte (d := 0) (by decide)
    exact ⟨hsw.domain, hsw.count, hsw.event⟩
  · exact does_of rfl (phaseNormal_told hs hph)
  · exact does_of rfl (ref10mLoss_told s.hw)
  · exact does_of rfl (ref10mReturn_told s.hw)

end Sys2Proof.Machine
end

section
-- As the tests above: declarations in order, so that checking the one text stays within its memory.
set_option Elab.async false
/-!
PROOFS. Timed events (R301, R305 to R310): generators that fire, pins, the write of a generator's registers, the 1PPS output and the
capture units (O56).
-/

namespace Sys2Proof.Machine

/-! ## Generators and pins -/

theorem te_setTe (h : Hw) (k : Nat) (t : TeSt) (j : Nat) : (h.setTe k t).te j = if j = k then t else h.te j := Store.get_set ..

/-- What a generator's action changes: time, the outputs and the marks, and no register. -/
structure PinWork (h g : Hw) : Prop where
  rest : g = { h with time := g.time, out := g.out }
  time : g.time = { h.time with te := g.time.te, tePins := g.time.tePins }
  out : ∃ o, g.out = h.out ++ o

theorem PinWork.refl (h : Hw) : PinWork h h := ⟨rfl, rfl, [], (List.append_nil _).symm⟩

theorem PinWork.trans {h g k : Hw} (a : PinWork h g) (b : PinWork g k) : PinWork h k := by
  obtain ⟨l, hl⟩ := a.out
  obtain ⟨l', hl'⟩ := b.out
  exact ⟨by rw [b.rest, a.rest], by rw [b.time, a.time], l ++ l', by rw [hl', hl, List.append_assoc]⟩

theorem PinWork.foldl {α : Type} {f : Hw → α → Hw} (step : ∀ g x, PinWork g (f g x)) (xs : List α) (h : Hw) : PinWork h (xs.foldl f h) :=
  List.foldlRecOn (motive := PinWork h) _ _ (.refl h) fun g hg x _ => hg.trans (step g x)

theorem PinWork.reg {h g : Hw} (w : PinWork h g) (a : Nat) : g.reg a = h.reg a := by
  rw [w.rest]
  rfl

theorem PinWork.drives {h g : Hw} (w : PinWork h g) (n : Nat) : g.pinDrives n = h.pinDrives n ∧ g.pinDelay n = h.pinDelay n := by
  rw [w.rest]
  exact ⟨rfl, rfl⟩

theorem pinWork_setTe (h : Hw) (k : Nat) (t : TeSt) : PinWork h (h.setTe k t) := ⟨rfl, rfl, [], (List.append_nil _).symm⟩

theorem pinEdge_eq (h : Hw) (n : Nat) (v : Bool) (t : Nat) : h.pinEdge n v t =
    { h with out := h.out ++ if h.pinDrives n then [.edge n v (t + h.pinDelay n)] else [] } := by
  unfold Hw.pinEdge
  split
  · rfl
  · rw [List.append_nil]

/-- A pin that a generator drives takes its value, with an edge when it drives. -/
theorem tePut_fields (h : Hw) (p : Nat) (v : Bool) (t : Nat) : PinWork h (h.tePut p v t) ∧ (∀ j, (h.tePut p v t).te j = h.te j) ∧
    Store.get false (h.tePut p v t).time.tePins p = v ∧
    (h.tePut p v t).out = h.out ++ if h.pinDrives p then [.edge p v (t + h.pinDelay p)] else [] := by
  have heq : h.tePut p v t = { h with
      time := { h.time with tePins := Store.set false h.time.tePins p v }
      out := h.out ++ if h.pinDrives p then [.edge p v (t + h.pinDelay p)] else [] } := pinEdge_eq ..
  rw [heq]
  exact ⟨⟨rfl, rfl, _, rfl⟩, fun _ => rfl, Store.get_set_same .., rfl⟩

/-- The end of a pulse changes nothing of its generator but the pulse. -/
theorem teFall_fields (h : Hw) (t k : Nat) : PinWork h (h.teFall t k) ∧
    ∀ j, ((h.teFall t k).te j).armed = (h.te j).armed ∧ ((h.teFall t k).te j).next = (h.te j).next := by
  unfold Hw.teFall
  split
  next e p hf =>
    split
    · have hs := pinWork_setTe h k { h.te k with fall := none }
      have hte : ∀ j, ((h.setTe k { h.te k with fall := none }).te j).armed = (h.te j).armed ∧
          ((h.setTe k { h.te k with fall := none }).te j).next = (h.te j).next := fun j => by
        rw [te_setTe]
        split
        next e => rw [e]; exact ⟨rfl, rfl⟩
        next => exact ⟨rfl, rfl⟩
      generalize h.setTe k { h.te k with fall := none } = m at hs hte
      dsimp only
      split
      · obtain ⟨h1, h2, -, -⟩ := tePut_fields m p false (m.atRun e)
        exact ⟨hs.trans h1, fun j => by rw [h2]; exact hte j⟩
      · exact ⟨hs, hte⟩
    · exact ⟨.refl h, fun _ => ⟨rfl, rfl⟩⟩
  · exact ⟨.refl h, fun _ => ⟨rfl, rfl⟩⟩

theorem allTe_fall (h : Hw) (t : Nat) : PinWork h (h.allTe fun h j => h.teFall t j) ∧
    ∀ j, ((h.allTe fun h j => h.teFall t j).te j).armed = (h.te j).armed ∧
      ((h.allTe fun h j => h.teFall t j).te j).next = (h.te j).next := by
  unfold Hw.allTe
  generalize (List.range 32).reverse = l
  induction l generalizing h with
  | nil => exact ⟨.refl h, fun _ => ⟨rfl, rfl⟩⟩
  | cons k l ih =>
    obtain ⟨h1, h2⟩ := teFall_fields h t k
    obtain ⟨h3, h4⟩ := ih (h.teFall t k)
    exact ⟨h1.trans h3, fun j => ⟨(h4 j).1.trans (h2 j).1, (h4 j).2.trans (h2 j).2⟩⟩

/-- Pulses that end later are left alone. -/
theorem allTe_noFall {h : Hw} {t : Nat} (hf : ∀ j e q, j < 32 → (h.te j).fall = some (e, q) → t < h.atRun e) :
    (h.allTe fun h j => h.teFall t j) = h := by
  refine foldl_same _ fun j hj => ?_
  have hj : j < 32 := List.mem_range.1 (List.mem_reverse.1 hj)
  unfold Hw.teFall
  split
  next e p he => exact if_neg (by have := hf j e p hj he; omega)
  next => rfl

/-! ## A generator that fires (R305, R306) -/

/-- Generator k has fired, before its pin is touched: its state is `n`, and FIRED shows. -/
structure Fires (k : Nat) (n : TeSt) (h g : Hw) : Prop where
  te : ∀ j, g.te j = if j = k then n else h.te j
  fired : bit g.time.fired k = true
  shown : g.bget (teA k 0x1C) 1 = true
  only : OnlyRegs [teA k 0x1C] h { g with time := h.time, out := h.out, done := h.done }
  clock : g.time.now = h.time.now ∧ g.time.run = h.time.run
  out : g.out = h.out

theorem teA_inj {k o k' o' : Nat} (ho : o < 32) (ho' : o' < 32) (hne : k ≠ k' ∨ o ≠ o') : teA k o ≠ teA k' o' := by
  unfold teA timeA
  omega

/-- Generator k fires with a next state, up to its W1C bit. -/
def Hw.firing (h : Hw) (k : Nat) (n : TeSt) : Hw := ((h.setTe k n).noteFired k).setW1c (teA k 0x1C) 1

theorem fires_firing (h : Hw) {k : Nat} (hk : k < 32) (n : TeSt) : Fires k n h (h.firing k n) := by
  have h1 : (h.setTe k n).time = { h.time with te := (h.setTe k n).time.te } := rfl
  have h2 : h.setTe k n = { h with time := (h.setTe k n).time } := rfl
  have h3 := te_setTe h k n
  unfold Hw.firing
  generalize h.setTe k n = m at h1 h2 h3
  have q1 : (m.noteFired k).time.te = m.time.te ∧ (m.noteFired k).time.now = m.time.now ∧ (m.noteFired k).time.run = m.time.run :=
    ⟨rfl, rfl, rfl⟩
  have q2 : bit (m.noteFired k).time.fired k = true := (bit_setBit m.time.fired k k true hk).trans (if_pos rfl)
  have q3 : m.noteFired k = { m with time := (m.noteFired k).time } := rfl
  generalize m.noteFired k = q at q1 q2 q3
  have hb : (q.setW1c (teA k 0x1C) 1).bget (teA k 0x1C) 1 = true := by
    show bit ((q.setReg (teA k 0x1C) (setBit (q.reg (teA k 0x1C)) 1 true)).reg (teA k 0x1C)) 1 = true
    rw [reg_setReg_same, bit_setBit _ _ _ _ (by decide), if_pos rfl]
  have hr : ∀ a, a ≠ teA k 0x1C → (q.setW1c (teA k 0x1C) 1).reg a = q.reg a := fun a ha =>
    (reg_setReg q (teA k 0x1C) a (setBit (q.reg (teA k 0x1C)) 1 true)).trans (if_neg ha)
  have he : q.setW1c (teA k 0x1C) 1 = { q with regs := (q.setW1c (teA k 0x1C) 1).regs, done := (q.setW1c (teA k 0x1C) 1).done } := rfl
  generalize q.setW1c (teA k 0x1C) 1 = g at hb hr he
  have ht : g.time = q.time := by rw [he]
  refine ⟨fun j => ?_, by rw [ht]; exact q2, hb, ⟨by rw [he, q3, h2], fun a ha => ?_⟩, ⟨?_, ?_⟩, ?_⟩
  · rw [← h3]
    unfold Hw.te
    rw [ht, q1.1]
  · refine (hr a (by simpa using ha)).trans ?_
    rw [q3, h2]
    rfl
  · rw [ht, q1.2.1, h1]
  · rw [ht, q1.2.2, h1]
  · rw [he, q3, h2]

theorem Fires.keeps {k : Nat} {n : TeSt} {h g : Hw} (f : Fires k n h g) {a : Nat} (ha : a ≠ teA k 0x1C) : g.reg a = h.reg a :=
  f.only.2 a (by simpa using ha)

/-- The action of a generator that names a pin: PULSE, SET or CLEAR. -/
def Hw.pinAct (h : Hw) (k op t : Nat) : Hw :=
  match op with
  | 0 => (h.setTe k { h.te k with fall := some (h.runAt (t + max 1 (h.fget (teA k 0) 31 16) * bitTime), h.tePin k) }).tePut (h.tePin k)
      true t
  | 1 => h.tePut (h.tePin k) true t
  | _ => h.tePut (h.tePin k) false t

theorem teAct_unnamed {h : Hw} {k n t : Nat} (hn : (h.setW1c (teA k 0x1C) 1).teNames k = false) :
    h.teAct k n t = h.setW1c (teA k 0x1C) 1 := by
  unfold Hw.teAct
  dsimp only
  rw [hn]
  rfl

theorem teAct_named {h g : Hw} {k n t op : Nat} (hg : h.setW1c (teA k 0x1C) 1 = g) (hn : g.teNames k = true) (ho : op < 3)
    (hop : (g.allTe fun h j => h.teFall t j).fget (teA k 0) 4 3 = op) :
    h.teAct k n t = (g.allTe fun h j => h.teFall t j).pinAct k op t := by
  subst hg
  unfold Hw.teAct Hw.pinAct
  dsimp only
  rw [hn, hop]
  interval_cases op <;> rfl

/-- What the action leaves of the pin, of the outputs and of the generators. -/
theorem pinAct_fields (h : Hw) {k op : Nat} (t : Nat) {v : Bool} (hv : (op, v) ∈ [(0, true), (1, true), (2, false)]) :
    PinWork h (h.pinAct k op t) ∧ Store.get false (h.pinAct k op t).time.tePins (h.tePin k) = v ∧
      (h.pinAct k op t).out = h.out ++ (if h.pinDrives (h.tePin k) then [.edge (h.tePin k) v (t + h.pinDelay (h.tePin k))] else []) ∧
      (∀ j, (h.pinAct k op t).te j = if op = 0 ∧ j = k
        then { h.te k with fall := some (h.runAt (t + max 1 (h.fget (teA k 0) 31 16) * bitTime), h.tePin k) } else h.te j) := by
  have hput : ∀ w, PinWork h (h.tePut (h.tePin k) w t) ∧ (∀ j, (h.tePut (h.tePin k) w t).te j = h.te j) ∧
      Store.get false (h.tePut (h.tePin k) w t).time.tePins (h.tePin k) = w ∧
      (h.tePut (h.tePin k) w t).out = h.out ++ if h.pinDrives (h.tePin k) then [.edge (h.tePin k) w (t + h.pinDelay (h.tePin k))] else [] :=
    fun w => tePut_fields h (h.tePin k) w t
  simp only [List.mem_cons, Prod.mk.injEq, List.not_mem_nil, or_false] at hv
  rcases hv with ⟨rfl, rfl⟩ | ⟨rfl, rfl⟩ | ⟨rfl, rfl⟩
  · unfold Hw.pinAct
    dsimp only
    have hs := pinWork_setTe h k { h.te k with fall := some (h.runAt (t + max 1 (h.fget (teA k 0) 31 16) * bitTime), h.tePin k) }
    have hte := te_setTe h k { h.te k with fall := some (h.runAt (t + max 1 (h.fget (teA k 0) 31 16) * bitTime), h.tePin k) }
    have hout : (h.setTe k { h.te k with fall := some (h.runAt (t + max 1 (h.fget (teA k 0) 31 16) * bitTime), h.tePin k) }).out = h.out := rfl
    generalize h.setTe k { h.te k with fall := some (h.runAt (t + max 1 (h.fget (teA k 0) 31 16) * bitTime), h.tePin k) } = m at hs hte hout
    obtain ⟨h1, h2, h3, h4⟩ := tePut_fields m (h.tePin k) true t
    rw [(hs.drives _).1, (hs.drives _).2, hout] at h4
    exact ⟨hs.trans h1, h3, h4, fun j => (h2 j).trans ((hte j).trans (by simp))⟩
  · obtain ⟨h1, h2, h3, h4⟩ := hput true
    exact ⟨h1, h3, h4, fun j => by rw [if_neg (by simp)]; exact h2 j⟩
  · obtain ⟨h1, h2, h3, h4⟩ := hput false
    exact ⟨h1, h3, h4, fun j => by rw [if_neg (by simp)]; exact h2 j⟩

/-- The state of a generator after its instant. -/
def Hw.teNext (h : Hw) (k : Nat) : TeSt :=
  if h.teMode k = 0 then { h.te k with armed := false } else { h.te k with next := (h.te k).next + h.tePeriod k }

theorem teFire_due {h : Hw} {k : Nat} (hd : h.teDue k = true) :
    h.teFire k = ((h.setTe k (h.teNext k)).noteFired k).teAct k 1 (boundaryNear (h.te k).next) := by
  unfold Hw.teFire
  exact if_pos hd

theorem fire_unnamed {h : Hw} {k : Nat} (hk : k < 32) (hd : h.teDue k = true) (hn : h.teNames k = false) :
    h.teFire k = h.firing k (h.teNext k) := by
  have hf := fires_firing h hk (h.teNext k)
  have hn' : (h.firing k (h.teNext k)).teNames k = false := by
    rw [← hn]
    unfold Hw.teNames Hw.tePin
    rw [bget_congr (hf.keeps (teA_inj (by decide) (by decide) (.inr (by decide)))),
      fget_congr (hf.keeps (teA_inj (by decide) (by decide) (.inr (by decide))))]
  rw [teFire_due hd]
  exact teAct_unnamed hn'

/-- A generator that names a pin: its firing, then the pulses that end by then, then its action. -/
theorem fire_named {h : Hw} {k op : Nat} (hk : k < 32) (hd : h.teDue k = true) (hn : h.teNames k = true) (ho : op < 3)
    (hop : h.fget (teA k 0) 4 3 = op) : h.teFire k =
      ((h.firing k (h.teNext k)).allTe fun q j => q.teFall (boundaryNear (h.te k).next) j).pinAct k op (boundaryNear (h.te k).next) := by
  have hf := fires_firing h hk (h.teNext k)
  obtain ⟨hw, -⟩ := allTe_fall (h.firing k (h.teNext k)) (boundaryNear (h.te k).next)
  have h0 : (h.firing k (h.teNext k)).reg (teA k 0) = h.reg (teA k 0) := hf.keeps (teA_inj (by decide) (by decide) (.inr (by decide)))
  rw [teFire_due hd]
  have hg : ((h.setTe k (h.teNext k)).noteFired k).setW1c (teA k 0x1C) 1 = h.firing k (h.teNext k) := rfl
  generalize h.firing k (h.teNext k) = g at hf hw h0 hg ⊢
  generalize boundaryNear (h.te k).next = t at hw ⊢
  have hn' : g.teNames k = true := by
    rw [← hn]
    unfold Hw.teNames Hw.tePin
    rw [bget_congr h0, fget_congr h0]
  have hop' : (g.allTe fun h j => h.teFall t j).fget (teA k 0) 4 3 = op := (fget_congr ((hw.reg _).trans h0) 4 3).trans hop
  exact teAct_named hg hn' ho hop'

end Sys2Proof.Machine
end

section
-- As the tests above: declarations in order, so that checking the one text stays within its memory.
set_option Elab.async false
/-!
PROOFS. Timed events, continued: what a firing leaves, the write of a generator's registers, the 1PPS output and the capture
units (O56).
-/

namespace Sys2Proof.Machine

/-! ## The instant of a time mode -/

/-- A generator's mark and its registers after its firing, whatever its pin does afterwards. -/
theorem Fires.noted {k : Nat} {n : TeSt} {h m g : Hw} (f : Fires k n h m) (w : PinWork m g) :
    bit g.time.fired k = true ∧ g.bget (teA k 0x1C) 1 = true ∧
      OnlyRegs [teA k 0x1C] h { g with time := h.time, out := h.out, done := h.done } := by
  refine ⟨by rw [w.time]; exact f.fired, (bget_congr (w.reg _) 1).trans f.shown, ?_⟩
  have he : ({ g with time := h.time, out := h.out, done := h.done } : Hw) =
      { m with time := h.time, out := h.out, done := h.done } := by rw [w.rest]
  rw [he]
  exact f.only

theorem Fires.pins {k : Nat} {n : TeSt} {h g : Hw} (f : Fires k n h g) (hk : k < 32) (p : Nat) :
    g.pinDrives p = h.pinDrives p ∧ g.pinDelay p = h.pinDelay p := by
  have hsnap : g.snap = h.snap := (congrArg Hw.snap f.only.1 :)
  have hreg : ∀ o, g.reg (userioA o) = h.reg (userioA o) := fun o => f.keeps (by unfold userioA teA timeA; omega)
  have hlatch : g.reg (powerA 0x28) = h.reg (powerA 0x28) := f.keeps (by unfold powerA teA timeA; omega)
  unfold Hw.pinDrives Hw.pinDelay
  rw [hsnap, bget_congr (hreg _), bget_congr (hreg _), bget_congr hlatch, fget_congr (hreg _), fget_congr (hreg _)]
  exact ⟨rfl, rfl⟩

theorem PinWork.runAt {h g : Hw} (w : PinWork h g) (t : Nat) : g.runAt t = h.runAt t := by
  unfold Hw.runAt
  rw [w.time]

theorem Fires.runAt {k : Nat} {n : TeSt} {h g : Hw} (f : Fires k n h g) (t : Nat) : g.runAt t = h.runAt t := by
  unfold Hw.runAt
  rw [f.clock.1, f.clock.2]

theorem Fires.atRun {k : Nat} {n : TeSt} {h g : Hw} (f : Fires k n h g) (t : Nat) : g.atRun t = h.atRun t := by
  unfold Hw.atRun
  rw [f.clock.1, f.clock.2]

theorem teNext_fall (h : Hw) (k : Nat) : (h.teNext k).fall = (h.te k).fall := by
  unfold Hw.teNext
  split <;> rfl

/-- A generator that names a pin fires with PULSE, SET or CLEAR. -/
theorem fire_pin {h : Hw} {k op : Nat} {v : Bool} (hk : k < 32) (hd : h.teDue k = true) (hn : h.teNames k = true)
    (hv : (op, v) ∈ [(0, true), (1, true), (2, false)]) (hop : h.fget (teA k 0) 4 3 = op) :
    let at' := boundaryNear (h.te k).next
    let edge := if h.pinDrives (h.tePin k) then [Out.edge (h.tePin k) v (at' + h.pinDelay (h.tePin k))] else []
    ∃ m, Fires k (h.teNext k) h m ∧ PinWork m (h.teFire k) ∧ Store.get false (h.teFire k).time.tePins (h.tePin k) = v ∧
      (∃ o, (h.teFire k).out = h.out ++ o ++ edge) ∧
      ((h.teFire k).te k).armed = (h.teNext k).armed ∧ ((h.teFire k).te k).next = (h.teNext k).next ∧
      (op = 0 → ((h.teFire k).te k).fall = some (h.runAt (at' + max 1 (h.fget (teA k 0) 31 16) * bitTime), h.tePin k)) ∧
      ((∀ j e q, j < 32 → (h.te j).fall = some (e, q) → at' < h.atRun e) →
        (∀ j, j ≠ k → (h.teFire k).te j = h.te j) ∧ (h.teFire k).out = h.out ++ edge ∧ (op ≠ 0 → (h.teFire k).te k = h.teNext k)) := by
  intro at' edge
  have ho : op < 3 := by
    simp only [List.mem_cons, Prod.mk.injEq, List.not_mem_nil, or_false] at hv
    omega
  have hf := fires_firing h hk (h.teNext k)
  rw [fire_named hk hd hn ho hop]
  generalize h.firing k (h.teNext k) = m at hf ⊢
  obtain ⟨hw, hte⟩ := allTe_fall m at'
  have hlater : (∀ j e q, j < 32 → (h.te j).fall = some (e, q) → at' < h.atRun e) → (m.allTe fun q j => q.teFall at' j) = m :=
    fun hl => allTe_noFall fun j e q hj he => by
      have he' : (h.te j).fall = some (e, q) := by
        rw [hf.te] at he
        split at he
        next ejk => rw [ejk, ← teNext_fall]; exact he
        next => exact he
      rw [hf.atRun]
      exact hl j e q hj he'
  have hq0 : (m.allTe fun q j => q.teFall at' j).reg (teA k 0) = h.reg (teA k 0) :=
    (hw.reg _).trans (hf.keeps (teA_inj (by decide) (by decide) (.inr (by decide))))
  generalize (m.allTe fun q j => q.teFall at' j) = q at hw hte hlater hq0 ⊢
  have hpin : q.tePin k = h.tePin k := fget_congr hq0 14 5
  obtain ⟨h1, h2, h3, h4⟩ := pinAct_fields q at' hv
  rw [hpin, (hw.drives _).1, (hw.drives _).2, (hf.pins hk _).1, (hf.pins hk _).2] at h3
  rw [hpin] at h2 h4
  have hrun : ∀ t, q.runAt t = h.runAt t := fun t => (hw.runAt t).trans (hf.runAt t)
  have hmk : m.te k = h.teNext k := (hf.te k).trans (if_pos rfl)
  have hkk := h4 k
  rw [hrun, fget_congr hq0] at hkk
  generalize q.pinAct k op at' = g at h1 h2 h3 h4 hkk ⊢
  obtain ⟨o, hout⟩ := hw.out
  have hsame : (g.te k).armed = (q.te k).armed ∧ (g.te k).next = (q.te k).next := by
    rw [hkk]
    split <;> exact ⟨rfl, rfl⟩
  refine ⟨m, hf, hw.trans h1, h2, ⟨o, ?_⟩, ?_, ?_, fun e => ?_, fun hl => ?_⟩
  · rw [h3, hout, hf.out]
  · rw [hsame.1, (hte k).1, hmk]
  · rw [hsame.2, (hte k).2, hmk]
  · rw [hkk, if_pos ⟨e, rfl⟩]
  · have hqm := hlater hl
    refine ⟨fun j hj => ?_, ?_, fun hne => ?_⟩
    · rw [h4, if_neg (fun c => hj c.2), hqm, hf.te, if_neg hj]
    · rw [h3, hqm, hf.out]
    · rw [h4, if_neg (fun c => hne c.1), hqm, hmk]

/-! ## The position of a frame mode -/

theorem teDue_of_frameDue {h : Hw} {k : Nat} (hd : h.teFrameDue k = true) : h.teDue k = false := by
  unfold Hw.teFrameDue at hd
  unfold Hw.teDue
  simp only [Bool.and_eq_true, decide_eq_true_eq] at hd
  have hm : ¬h.teMode k < 2 := by omega
  rw [decide_eq_false hm]
  simp

/-- A frame-mode generator whose position executes sets out on the I/O path, once. -/
theorem fire_frame {h : Hw} {k : Nat} (hk : k < 32) (hd : h.teFrameDue k = true) :
    bit (h.teFire k).time.fired k = true ∧ (∀ j, j ≠ k → (h.teFire k).te j = h.te j) ∧
      (h.teFire k).te k = { h.te k with armed := h.teMode k == 3 } ∧ (h.teFire k).time.tePath = h.time.tePath ++ [(20, k)] ∧
      h.teFire k = { h with time := (h.teFire k).time, done := (h.teFire k).done } ∧ (h.teFire k).teFrameDue k = false := by
  have heq : h.teFire k = { ((h.setTe k { h.te k with armed := h.teMode k == 3 }).noteFired k) with
      time := { ((h.setTe k { h.te k with armed := h.teMode k == 3 }).noteFired k).time with tePath := h.time.tePath ++ [(20, k)] }
      done := .teFrame k :: h.done } := by
    unfold Hw.teFire
    rw [if_neg (by rw [teDue_of_frameDue hd]; decide), if_pos hd]
    rfl
  have hte : ∀ j, (h.teFire k).te j = if j = k then { h.te k with armed := h.teMode k == 3 } else h.te j := fun j => by
    rw [heq]
    exact te_setTe ..
  have hdone : (h.teFire k).done.contains (.teFrame k) = true := by
    rw [heq]
    exact List.contains_iff_mem.2 List.mem_cons_self
  refine ⟨?_, fun j hj => (hte j).trans (if_neg hj), (hte k).trans (if_pos rfl), by rw [heq], by rw [heq]; rfl, ?_⟩
  · rw [heq]
    exact (bit_setBit h.time.fired k k true hk).trans (if_pos rfl)
  · unfold Hw.teFrameDue
    rw [hdone]
    simp

theorem fire_idle {h : Hw} {k : Nat} (hd : h.teDue k = false) (hf : h.teFrameDue k = false) : h.teFire k = h := by
  unfold Hw.teFire
  rw [if_neg (by rw [hd]; decide), if_neg (by rw [hf]; decide)]

/-! ## The write of a generator's registers (Table 10.8) -/

theorem pinNamed_self {h : Hw} {k : Nat} (hk : k < 32) (hn : h.teNames k = true) : h.pinNamed (h.tePin k) = true :=
  List.any_eq_true.2 ⟨k, List.mem_range.2 hk, by rw [hn, beq_self_eq_true]; rfl⟩

/-- Whether a write of word o of a generator leaves the names of pins as they are: it is beside CTRL, or disables a generator that
names none. -/
def Hw.leavesNames (h : Hw) (k o : Nat) (v : Word32) : Prop := o ≠ 0 ∨ (o = 0 ∧ bit v 0 = false ∧ h.teNames k = false)

/-- The fields of word o of generator k that a host may write. -/
def teMask (k o : Nat) : Word32 := (regRowAt (teA k o)).elim 0 (·.rw)

theorem bit_teMask {k : Nat} (hk : k < 32) : bit (teMask k 0) 0 = true :=
  List.all_eq_true.1 (show ((List.range 32).all fun k => bit (teMask k 0) 0) = true by decide +kernel) k (List.mem_range.2 hk)

/-- Word o of generator k with a write merged in. -/
def Hw.teWritten (h : Hw) (k o : Nat) (v : Word32) : Hw :=
  h.setReg (teA k o) ((h.reg (teA k o) &&& ~~~ teMask k o) ||| (v &&& teMask k o))

theorem names_written {h : Hw} {k o : Nat} (ho : o < 0x1C) (hne : o ≠ 0) (v : Word32) (j : Nat) :
    (h.teWritten k o v).teNames j = h.teNames j ∧ (h.teWritten k o v).tePin j = h.tePin j := by
  have h0 : (h.teWritten k o v).reg (teA j 0) = h.reg (teA j 0) :=
    (reg_setReg h (teA k o) _ _).trans (if_neg (teA_inj (by decide) (by omega) (.inr (Ne.symm hne))))
  unfold Hw.teNames Hw.tePin
  rw [bget_congr h0, fget_congr h0]
  exact ⟨rfl, rfl⟩

theorem disabled_written {h : Hw} {k : Nat} (hk : k < 32) {v : Word32} (hv : bit v 0 = false) :
    (h.teWritten k 0 v).bget (teA k 0) 0 = false := by
  unfold Hw.teWritten
  rw [bget_setReg, if_pos rfl, bit_or, bit_and, bit_and, bit_not _ (by decide), bit_teMask hk, hv]
  simp

theorem rearm_eq {h : Hw} {k o : Nat} (hk : k < 32) (ho : o < 0x1C) (h4 : o % 4 = 0) {v : Word32} (hl : h.leavesNames k o v) :
    execTeRearm h k o v = (h.teWritten k o v).teArm k := by
  have hbad : ¬((decide (k ≥ 32) || decide (o ≥ 0x1C) || o % 4 != 0) = true) := by
    rw [decide_eq_false (by omega), decide_eq_false (by omega), h4]
    decide
  have hfirst : ((h.teWritten k o v).teNames k && !h.pinNamed (if o = 0 then fld (v &&& teMask k o) 14 5 else h.tePin k)) = false := by
    rcases hl with hne | ⟨rfl, hv, -⟩
    · rw [if_neg hne, (names_written ho hne v k).1]
      cases hn : h.teNames k with
      | false => rfl
      | true => rw [pinNamed_self hk hn]; rfl
    · unfold Hw.teNames
      rw [disabled_written hk hv]
      rfl
  have hsecond : (h.teNames k && !(h.teWritten k o v).pinNamed (h.tePin k)) = false := by
    rcases hl with hne | ⟨-, -, hn⟩
    · cases hn : h.teNames k with
      | false => rfl
      | true =>
        have hp := names_written (h := h) (k := k) ho hne v k
        rw [← hp.2, pinNamed_self hk (hp.1.trans hn)]
        rfl
    · rw [hn]
      rfl
  unfold execTeRearm
  rw [if_neg hbad]
  extract_lets m oldPin oldNamed newPin held wasNamed g src g1 t src' g2
  have h1 : g1 = g := if_neg (by rw [show (g.teNames k && !wasNamed) = false from hfirst]; decide)
  have h2 : g2 = g1 := if_neg (by
    rw [show (oldNamed && !g1.pinNamed oldPin) = false by rw [h1]; exact hsecond]
    decide)
  rw [h2, h1]
  rfl

/-- What re-arming leaves of a generator that is enabled, by its mode. -/
theorem teArm_fields (g : Hw) (k : Nat) : g.teArm k = g.setTe k ((g.teArm k).te k) ∧
    (g.teArm k).te k = { g.te k with armed := ((g.teArm k).te k).armed, next := ((g.teArm k).te k).next } ∧
    (g.bget (teA k 0) 0 = false → (g.teArm k).te k = { g.te k with armed := false }) ∧
    (g.bget (teA k 0) 0 = true →
      (g.teMode k = 0 → ((g.teArm k).te k).armed = decide (g.time.now ≤ g.teAt k) ∧ ((g.teArm k).te k).next = g.teAt k) ∧
      (g.teMode k = 1 → ((g.teArm k).te k).armed = true ∧
        ((g.teArm k).te k).next = firstFrom (g.teAt k) (g.tePeriod k) g.time.now) ∧
      (g.teMode k = 2 → ((g.teArm k).te k).armed = (!g.posPassed (g.teFrame k) (g.tePos k)) ∧
        ((g.teArm k).te k).next = g.teFrame k)) := by
  have hset : ∀ t, (g.setTe k t).te k = t := fun t => (te_setTe g k t k).trans (if_pos rfl)
  cases he : g.bget (teA k 0) 0 with
  | false =>
    have heq : g.teArm k = g.setTe k { g.te k with armed := false } := by
      unfold Hw.teArm
      rw [he]
      rfl
    rw [heq, hset]
    exact ⟨rfl, rfl, fun _ => rfl, fun h => absurd h (by decide)⟩
  | true =>
    have heq : g.teArm k = g.setTe k (match g.teMode k with
      | 0 => { g.te k with armed := decide (g.time.now ≤ g.teAt k), next := g.teAt k }
      | 1 => { g.te k with armed := true, next := firstFrom (g.teAt k) (g.tePeriod k) g.time.now }
      | 2 => { g.te k with armed := !g.posPassed (g.teFrame k) (g.tePos k), next := g.teFrame k }
      | _ => { g.te k with armed := true, next := g.teFrame k }) := by
      unfold Hw.teArm
      rw [he]
      rw [if_neg (show ¬((!true) = true) by decide)]
      generalize g.teMode k = n
      match n with
      | 0 | 1 | 2 | _ + 3 => rfl
    rw [heq, hset]
    refine ⟨rfl, by split <;> rfl, fun h => absurd h (by decide), fun _ => ⟨fun e => ?_, fun e => ?_, fun e => ?_⟩⟩ <;>
      · rw [e]
        exact ⟨rfl, rfl⟩

/-- The first instant of a series that does not lie before a time. -/
theorem firstFrom_spec (base lo : Nat) {step : Nat} (hs : 0 < step) : lo ≤ firstFrom base step lo ∧
    ∃ n, firstFrom base step lo = base + n * step ∧ (n = 0 ∨ firstFrom base step lo < lo + step) := by
  unfold firstFrom
  split
  next h => exact ⟨h, 0, by omega, .inl rfl⟩
  next h =>
    have h1 := Nat.div_add_mod (lo - base + step - 1) step
    have h2 := Nat.mod_lt (lo - base + step - 1) hs
    rw [Nat.mul_comm] at h1
    exact ⟨by omega, _, rfl, .inr (by omega)⟩

/-- The registers and the other generators after the write of a generator's word. -/
theorem rearm_written {h : Hw} {k o : Nat} (v : Word32) (t : TeSt) :
    let g := (h.teWritten k o v).setTe k t
    g.reg (teA k o) = ((h.reg (teA k o) &&& ~~~ teMask k o) ||| (v &&& teMask k o)) ∧ (∀ j, j ≠ k → g.te j = h.te j) ∧
      OnlyRegs [teA k o] h { g with time := h.time } :=
  ⟨reg_setReg_same h (teA k o) _, fun j hj => (te_setTe _ k t j).trans (if_neg hj), onlyRegs_setReg h (teA k o) _⟩

/-! ## The 1PPS output (R301) -/

theorem ppsOut_eq {h : Hw} (hs : h.time.ppsSec < h.time.now / unitsPerSec) : execPpsOut h =
    if h.bget (timeA 0x2C) 0 then
      { h with
        time := { h.time with
          ppsSec := h.time.now / unitsPerSec
          ppsFall := some (h.runAt (h.time.now / unitsPerSec * unitsPerSec + h.ppsWidth)) }
        out := h.out ++ [.edge 512 true (boundaryNear (h.time.now / unitsPerSec * unitsPerSec))] }
    else { h with time := { h.time with ppsSec := h.time.now / unitsPerSec } } := by
  unfold execPpsOut
  exact if_pos hs

/-! ## Captures (R309, R310) -/

theorem tcBuf_setTc (h : Hw) (k : Nat) (l : List CapRec) (j : Nat) : (h.setTc k l).tcBuf j = if j = k then l else h.tcBuf j :=
  Store.get_set ..

/-- A field of two bits as its bits. -/
theorem watches_iff (c : Word32) (falling : Bool) :
    fld c 2 1 / (if falling then 2 else 1) % 2 = 1 ↔ (if falling then bit c 2 else bit c 1) = true := by
  unfold fld bit
  have e : (c.extractLsb' 1 (2 + 1 - 1)).toNat = c.toNat / 2 % 4 := by
    rw [BitVec.extractLsb'_toNat, Nat.shiftRight_eq_div_pow]
  rw [e]
  cases falling
  · rw [if_neg Bool.false_ne_true, if_neg Bool.false_ne_true, BitVec.getLsbD, Nat.testBit_eq_decide_div_mod_eq, decide_eq_true_eq]
    omega
  · rw [if_pos rfl, if_pos rfl, BitVec.getLsbD, Nat.testBit_eq_decide_div_mod_eq, decide_eq_true_eq]
    omega

/-- A watched edge of an enabled capture unit. -/
theorem captureEdge_eq {h : Hw} {k : Nat} {falling : Bool} (sub : Nat) (hk : k < 32) (he : bit (h.reg (tcA k 0)) 0 = true)
    (hp : fld (h.reg (tcA k 0)) 12 3 ≤ 512) (hs : h.pstate < 3)
    (hw : (if falling then bit (h.reg (tcA k 0)) 2 else bit (h.reg (tcA k 0)) 1) = true) :
    execCaptureEdge h k falling sub =
      if (h.tcBuf k).length ≥ 16 then ((h.bump (tcA k 4) 15 8).count (timeA 0x44)).raise (evCaptureOverflow k)
      else h.setTc k (h.tcBuf k ++ [⟨boundaryAfter (h.time.now + sub % courseUnits h.seq.level - (bitTime - 1)) -
        h.pinDelay (fld (h.reg (tcA k 0)) 12 3), falling⟩]) := by
  have hsel := (watches_iff _ falling).2 hw
  unfold execCaptureEdge
  dsimp only
  rw [if_neg]
  rw [decide_eq_false (by omega), he, decide_eq_false (by omega), decide_eq_false (by omega), hsel]
  decide

/-- A counter of a byte is one higher, and saturates. -/
theorem fget_bump_byte (h : Hw) (a : Nat) : (h.bump a 15 8).fget a 15 8 = min 255 (h.fget a 15 8 + 1) := by
  refine (fget_fset_same h a 15 8 _ (by omega)).trans (Nat.mod_eq_of_lt ?_)
  unfold satAdd
  omega

/-- The overflow of a capture unit: its count, the count of all units, and its event. -/
theorem overflow_fields (h : Hw) (k : Nat) :
    let g := ((h.bump (tcA k 4) 15 8).count (timeA 0x44)).raise (evCaptureOverflow k)
    g.time = h.time ∧ Raised (evCaptureOverflow k) 0 h g ∧ g.fget (tcA k 4) 15 8 = min 255 (h.fget (tcA k 4) 15 8 + 1) := by
  intro g
  have hreg : ∀ a, a ≠ tcA k 4 → a ≠ timeA 0x44 → ((h.bump (tcA k 4) 15 8).count (timeA 0x44)).reg a = h.reg a := fun a h1 h2 =>
    (reg_setReg _ (timeA 0x44) a _).trans ((if_neg h2).trans ((reg_setReg h (tcA k 4) a _).trans (if_neg h1)))
  have hps : ((h.bump (tcA k 4) 15 8).count (timeA 0x44)).pstate = h.pstate :=
    fget_congr (hreg _ (by unfold powerA tcA timeA; omega) (by decide)) 2 0
  have hown : ((h.bump (tcA k 4) 15 8).count (timeA 0x44)).reg (tcA k 4) = (h.bump (tcA k 4) 15 8).reg (tcA k 4) :=
    (reg_setReg _ (timeA 0x44) _ _).trans (if_neg (by unfold tcA timeA; omega))
  obtain ⟨p, hp⟩ := raised_raise ((h.bump (tcA k 4) 15 8).count (timeA 0x44)) (evCaptureOverflow k)
  rw [hps] at hp
  exact ⟨rfl, ⟨p, hp⟩, (fget_congr ((reg_raise ..).trans hown) 15 8).trans (fget_bump_byte h _)⟩

theorem captureFlush_eq (h : Hw) {k : Nat} {v : Word32} (hk : k < 32) (hv : bit v 13 = true) :
    execCaptureFlush h k v = (h.setReg (tcA k 0) (v &&& 0x1FFF)).setTc k [] := by
  unfold execCaptureFlush Hw.writeTcCtrl
  rw [decide_eq_true hk, hv]
  rfl

/-- The place of a capture record's fourth word. -/
theorem recordWord {k : Nat} (hk : k < 32) :
    tcA k 0x1C ≠ 0x400 ∧ tcA k 0x1C ≠ 0x404 ∧ wordIndex (tcA k 0x1C) ≠ 0 ∧ recordUnit (tcA k 0x1C) = some k :=
  of_decide_eq_true (List.all_eq_true.1 (show ((List.range 32).all fun k => decide (tcA k 0x1C ≠ 0x400 ∧ tcA k 0x1C ≠ 0x404 ∧
    wordIndex (tcA k 0x1C) ≠ 0 ∧ recordUnit (tcA k 0x1C) = some k)) = true by decide +kernel) k (List.mem_range.2 hk))

/-- The read of a record's fourth word takes the oldest record away, and may use up what an earlier read has captured. -/
theorem captureRecordRead_fields (h : Hw) {k : Nat} (hk : k < 32) :
    ∃ c, execCaptureRecordRead h k = ({ h with captured := c } : Hw).tcPop k := by
  obtain ⟨h400, h404, hidx, hunit⟩ := recordWord hk
  unfold execCaptureRecordRead Hw.readWord
  rw [if_pos hk, if_neg h400, if_neg hidx, hunit, if_neg h404]
  dsimp only
  split
  · exact ⟨_, rfl⟩
  · exact ⟨h.captured, rfl⟩

/-! ## O56 -/

/-- The write of a word beside CTRL of an enabled generator (Table 10.8). -/
theorem rearm_beside {h : Hw} {k o : Nat} (hk : k < 32) (ho : o < 0x1C) (h4 : o % 4 = 0) (hne : o ≠ 0)
    (he : h.bget (teA k 0) 0 = true) (v : Word32) :
    ∃ w t, execTeRearm h k o v = w.setTe k t ∧ w = h.teWritten k o v ∧ (execTeRearm h k o v).te k = t ∧
      t = { h.te k with armed := t.armed, next := t.next } ∧
      (h.teMode k = 0 → t.armed = decide (h.time.now ≤ w.teAt k) ∧ t.next = w.teAt k) ∧
      (h.teMode k = 1 → t.armed = true ∧ h.time.now ≤ t.next ∧ ∃ n, t.next = w.teAt k + n * w.tePeriod k ∧
        (n = 0 ∨ t.next < h.time.now + w.tePeriod k)) ∧
      (h.teMode k = 2 → t.armed = (!w.posPassed (w.teFrame k) (w.tePos k)) ∧ t.next = w.teFrame k) := by
  have h0 : (h.teWritten k o v).reg (teA k 0) = h.reg (teA k 0) :=
    (reg_setReg h (teA k o) _ _).trans (if_neg (teA_inj (by decide) (by omega) (.inr (Ne.symm hne))))
  have hnow : (h.teWritten k o v).time = h.time := rfl
  have hte : (h.teWritten k o v).te k = h.te k := rfl
  rw [rearm_eq hk ho h4 (.inl hne)]
  refine ⟨_, _, (teArm_fields _ k).1, rfl, rfl, ?_⟩
  obtain ⟨-, hrest, -, hmodes⟩ := teArm_fields (h.teWritten k o v) k
  obtain ⟨m0, m1, m2⟩ := hmodes ((bget_congr h0 0).trans he)
  have hmode : (h.teWritten k o v).teMode k = h.teMode k := fget_congr h0 2 1
  rw [hmode, hnow] at m0 m1
  rw [hmode] at m2
  generalize h.teWritten k o v = w at *
  rw [hte] at hrest
  refine ⟨hrest, m0, fun e => ?_, m2⟩
  obtain ⟨ha, hn⟩ := m1 e
  obtain ⟨h1, n, h2, h3⟩ := firstFrom_spec (w.teAt k) h.time.now (step := w.tePeriod k) (by unfold Hw.tePeriod; omega)
  rw [hn]
  exact ⟨ha, h1, n, h2, h3⟩

/-- Settles O56. A firing goes through its mark, the pulses that end by then and its action; a write re-arms through the registers as
they are then, and leaves the names of pins. -/
theorem timedEvents : Obligations.TimedEvents := by
  intro s k hk
  refine ⟨fun hd => ⟨fun hn => ?_, fun hn p hp hop => ?_⟩, fun hd => ?_, fun hd hf => ?_, fun o v ho h4 => ⟨fun hne he => ?_,
    fun hz hv hn => ?_⟩, ⟨fun hs => ?_, fun hs => ?_⟩, fun falling sub => ?_, fun v hv => ?_, ?_⟩
  · refine does_of (decide_eq_true hk) ?_
    rw [show effect (.timeEventFire k) s.hw = s.hw.firing k (s.hw.teNext k) from (if_pos hk).trans (fire_unnamed hk hd hn)]
    have hf := fires_firing s.hw hk (s.hw.teNext k)
    exact ⟨hf.noted (.refl _), (hf.te k).trans (if_pos rfl), fun j hj => (hf.te j).trans (if_neg hj), hf.out⟩
  · obtain ⟨op, v⟩ := p
    refine does_of (decide_eq_true hk) ?_
    rw [show effect (.timeEventFire k) s.hw = s.hw.teFire k from if_pos hk]
    obtain ⟨m, hf, hw, h1, h2, h3, h4, h5, h6⟩ := fire_pin hk hd hn hp hop
    exact ⟨hf.noted hw, h1, h2, h3, h4, h5, h6⟩
  · refine does_of (decide_eq_true hk) ?_
    rw [show effect (.timeEventFire k) s.hw = s.hw.teFire k from if_pos hk]
    exact fire_frame hk hd
  · exact exec_unchanged (decide_eq_true hk) ((if_pos hk).trans (fire_idle hd hf))
  · refine does_of (i := .teRearm k o v) (by simp [Instr.wellFormed, hk, h4]; omega) ?_
    obtain ⟨w, t, heq, rfl, ht, hrest⟩ := rearm_beside hk ho h4 hne he v
    have hw := rearm_written (h := s.hw) (k := k) (o := o) v t
    rw [show effect (.teRearm k o v) s.hw = (s.hw.teWritten k o v).setTe k t from heq]
    rw [heq] at ht
    rw [ht]
    exact ⟨hw, hrest⟩
  · subst hz
    refine does_of (i := .teRearm k 0 v) (by simp [Instr.wellFormed, hk]) ?_
    have heq := rearm_eq hk ho h4 (h := s.hw) (v := v) (.inr ⟨rfl, hv, hn⟩)
    obtain ⟨hset, -, hoff, -⟩ := teArm_fields (s.hw.teWritten k 0 v) k
    have ht := hoff (disabled_written hk hv)
    rw [ht] at hset
    rw [show effect (.teRearm k 0 v) s.hw = _ from heq.trans hset]
    exact ⟨rearm_written v _, (te_setTe ..).trans (if_pos rfl)⟩
  · refine does_of rfl ?_
    rw [show effect .ppsOut s.hw = _ from ppsOut_eq hs]
    refine ⟨fun he => ?_, fun he => ?_⟩
    · rw [if_pos he]
      exact ⟨rfl, rfl⟩
    · rw [if_neg (by rw [he]; decide)]
  · exact exec_unchanged rfl (if_neg (by omega))
  · intro c pin rec' he hp hs hw
    have heq : effect (.captureEdge k falling sub) s.hw = _ := captureEdge_eq (h := s.hw) sub hk he hp hs hw
    refine ⟨fun hl => does_of (decide_eq_true hk) ?_, fun hl => does_of (decide_eq_true hk) ?_⟩
    · rw [heq, if_neg (by omega)]
      exact ⟨(tcBuf_setTc ..).trans (if_pos rfl), fun j hj => (tcBuf_setTc ..).trans (if_neg hj), rfl⟩
    · rw [heq, if_pos hl]
      exact overflow_fields s.hw k
  · refine does_of (decide_eq_true hk) ?_
    rw [show effect (.captureFlush k v) s.hw = _ from captureFlush_eq s.hw hk hv]
    exact ⟨(tcBuf_setTc ..).trans (if_pos rfl), reg_setReg_same s.hw (tcA k 0) _, fun j hj => (tcBuf_setTc ..).trans (if_neg hj),
      onlyRegs_setReg s.hw (tcA k 0) _⟩
  · refine does_of (decide_eq_true hk) ?_
    obtain ⟨c, hc⟩ := captureRecordRead_fields s.hw hk
    rw [show effect (.captureRecordRead k) s.hw = _ from hc]
    exact ⟨(tcBuf_setTc ..).trans (if_pos rfl), fun j hj => (tcBuf_setTc ..).trans (if_neg hj), rfl⟩

end Sys2Proof.Machine
end

section
-- As the tests above: declarations in order, so that checking the one text stays within its memory.
set_option Elab.async false
/-!
PROOFS. The marker that is the last block set before an announced sleep is received and not remembered (O54).
-/

namespace Sys2Proof.Machine

/-- Port 0 is ACTIVE, and its partner sleeps after one more block set (R252). -/
def lastBeforeSleep : Hw := { ports := [(0, { state := .active, rxSleepAfter := some (1, 1) })] }

/-- The headers and the payloads of a marker on every lane. -/
def markerHeads : List (BitVec 2) := List.replicate 19 2
def markerWords : List Word64 := List.replicate 19 0xE6

/-- What a received set is, when it is a marker. -/
def RxSet.markerWord : RxSet → Option Word64
  | .marker w => some w
  | _ => none

theorem lastBeforeSleep_marker : ((lastBeforeSleep.rxSet 0 (setBlocks markerHeads markerWords)).1.markerWord).isSome = true := by
  decide +kernel

theorem lastBeforeSleep_port : (((lastBeforeSleep.rxSet 0 (setBlocks markerHeads markerWords)).2.port 0).state = .active ∧
    ((lastBeforeSleep.rxSet 0 (setBlocks markerHeads markerWords)).2.port 0).rxSleep = 1 ∧
    ((lastBeforeSleep.rxSet 0 (setBlocks markerHeads markerWords)).2.port 0).mSent = [] ∧
    ((lastBeforeSleep.rxSet 0 (setBlocks markerHeads markerWords)).2.port 0).sinceRx = 1) := by
  decide +kernel

theorem markerWord_eq {r : RxSet} {w : Word64} (e : r.markerWord = some w) : r = .marker w := by
  cases r with
  | marker x => exact congrArg RxSet.marker (Option.some.inj e)
  | data _ => cases e
  | control _ => cases e
  | bad => cases e

/-- A marker on an ACTIVE port whose direction sleeps from then on goes no further than its reception. -/
theorem execMarker_asleep {h g : Hw} {p part : Nat} {blks : List (BitVec 66)} {w : Word64} (ho : h.rxOpen p = true)
    (hr : h.rxSet p blks = (.marker w, g)) (ha : (g.port p).state = .active) (hs : (g.port p).rxSleep = 1) :
    execMarker h p blks part = g := by
  unfold execMarker
  rw [ho, hr, if_neg (show ¬((!true) = true) by decide)]
  dsimp only
  have hclosed : g.rxOpen p = false := by
    unfold Hw.rxOpen
    rw [hs]
    simp
  rw [if_neg (show ¬(g.port p).state = .align by rw [ha]; decide), hclosed, if_pos (show (!false) = true by decide)]

/-- Refutes O54: the marker is the sixteenth block set after the partner's announcement of a sleep. With it the direction goes to sleep, and
the marker is not remembered: the count of block sets since the last marker reads 1, where the statement asks for 0. -/
theorem not_eaveSending : ¬ Obligations.EaveSending := by
  unfold Obligations.EaveSending
  intro h
  obtain ⟨hm, -⟩ := h ⟨[], lastBeforeSleep⟩ 0 (by decide)
  have ho : lastBeforeSleep.rxOpen 0 = true := by decide +kernel
  obtain ⟨ha, hs, hsent, hsince⟩ := lastBeforeSleep_port
  obtain ⟨w, hw⟩ := Option.isSome_iff_exists.1 lastBeforeSleep_marker
  have hr := markerWord_eq hw
  generalize hx : lastBeforeSleep.rxSet 0 (setBlocks markerHeads markerWords) = x at *
  obtain ⟨r, g⟩ := x
  dsimp only at hr ha hs hsent hsince
  subst hr
  have hnone : ∀ m ∈ (g.port 0).mSent, m.1 % 4096 ≠ fld w 43 32 := by
    rw [hsent]
    exact fun m hm => absurd hm List.not_mem_nil
  obtain ⟨hport, -⟩ := ((hm markerHeads markerWords 0 w g rfl rfl ho hx ha).1 hnone).of_effect
  have he := execMarker_asleep (part := 0) ho hx ha hs
  rw [show effect (.marker 0 markerHeads markerWords 0) lastBeforeSleep =
    execMarker lastBeforeSleep 0 (setBlocks markerHeads markerWords) 0 from rfl, he] at hport
  have hzero : (g.port 0).sinceRx = 0 := congrArg EavePort.sinceRx hport
  omega

end Sys2Proof.Machine
end

section
-- As the tests above: declarations in order, so that checking the one text stays within its memory.
set_option Elab.async false
/-!
PROOFS. The block sets that a port receives (R231 to R242): what reception leaves alone, the symbols that a set carries, and each type
of control block set (O53).
-/

namespace Sys2Proof.Machine

/-! ## What reception leaves alone -/

/-- The power state and the module's number are the same. -/
def SameModule (h g : Hw) : Prop := g.pstate = h.pstate ∧ g.devIndex = h.devIndex

theorem SameModule.refl (h : Hw) : SameModule h h := ⟨rfl, rfl⟩

theorem SameModule.trans {h g k : Hw} (a : SameModule h g) (b : SameModule g k) : SameModule h k := ⟨b.1.trans a.1, b.2.trans a.2⟩

theorem SameModule.foldl {α : Type} {f : Hw → α → Hw} (step : ∀ g x, SameModule g (f g x)) (xs : List α) (h : Hw) :
    SameModule h (xs.foldl f h) :=
  List.foldlRecOn (motive := SameModule h) _ _ (.refl h) fun g hg x _ => hg.trans (step g x)

theorem LinkWork.same {h g : Hw} (w : LinkWork h g) : SameModule h g := ⟨w.pstate, by rw [w.1]⟩

theorem Signals.same {h g : Hw} (s : Signals h g) : SameModule h g := ⟨s.pstate, by rw [s.rest]⟩

theorem same_raise (h : Hw) (id : Nat) : SameModule h (h.raise id) := (signals_raiseWith h id 0 false).same

theorem same_ecount (h : Hw) (p n : Nat) : SameModule h (h.ecount p n) := (linkWork_setReg h _ (eaveA_not_power p _)).same

theorem same_ecountBy (h : Hw) (p n k : Nat) : SameModule h (h.ecount p n k) := (linkWork_setReg h _ (eaveA_not_power p _)).same

theorem same_partnerLost (h : Hw) (p : Nat) : SameModule h (h.partnerLost p) := by
  cases hc : h.carries p with
  | false =>
    rw [partnerLost_idle hc]
    exact (linkWork_enterDetect h p).same.trans (same_raise ..)
  | true =>
    rw [partnerLost_carried hc]
    have hb : ∀ cut busy, SameModule h (((h.enterDetect p).breakAt p cut busy).cutClock cut busy) := fun cut busy => by
      have h1 : SameModule (h.enterDetect p) ((h.enterDetect p).breakAt p cut busy) :=
        ⟨fget_congr (breakAt_reg ..) 2 0, breakAt_devIndex ..⟩
      refine ((linkWork_enterDetect h p).same.trans h1).trans ?_
      obtain ⟨hrest, hreg⟩ := cutClock_only ((h.enterDetect p).breakAt p cut busy) cut busy
      exact ⟨fget_congr (hreg _ (by decide)) 2 0, by rw [hrest]⟩
    split
    · exact (((hb _ _).trans (signals_sendHaltAtEnd ..).same).trans (signals_raisePoison ..).same).trans (same_raise ..)
    · exact ((hb _ _).trans (same_raise ..)).trans (same_raise ..)

theorem same_eraseRole (h : Hw) (p r : Nat) : SameModule h (h.eraseRole p r) := by
  unfold Hw.eraseRole
  split
  · exact .refl h
  · have h1 : SameModule h ((((h.setRole p r (h.roleLane p r) true).noteErased p).raise (evLaneErased p)).ecount p 7) :=
      (((linkWork_setRole h p r _ true).same.trans (linkWork_eset _ p 4 20 19 _).same).trans (same_raise ..)).trans (same_ecount ..)
    dsimp only
    split
    · exact h1.trans (same_partnerLost ..)
    · unfold Hw.startSpare
      dsimp only
      split
      · exact h1.trans (linkWork_updPort ..).same
      · exact h1

theorem same_eraseLane (h : Hw) (p l : Nat) : SameModule h (h.eraseLane p l) := by
  unfold Hw.eraseLane
  split
  · exact same_eraseRole ..
  · exact .refl h

theorem same_updPort (h : Hw) (p : Nat) (f : EavePort → EavePort) : SameModule h (h.updPort p f) := (linkWork_updPort h p f).same

theorem same_eset (h : Hw) (p o hi lo v : Nat) : SameModule h (h.eset p o hi lo v) := (linkWork_eset h p o hi lo v).same

theorem same_noteHeader (h : Hw) (p l : Nat) (ok : Bool) : SameModule h (h.noteHeader p l ok) := by
  unfold Hw.noteHeader
  extract_lets x y g
  have hg : SameModule h g := same_updPort h p _
  clear_value g
  split
  · exact hg.trans (same_eset g p 0xC l l 0)
  · split
    · exact hg.trans (same_eset g p 0xC l l 1)
    · exact hg

theorem same_noteHeaders (h : Hw) (p : Nat) (hs : List Nat) (major : Option Nat) : SameModule h (h.noteHeaders p hs major) :=
  .foldl (fun g l => by
    dsimp only
    split
    · exact (same_noteHeader ..).trans (same_eraseLane ..)
    · exact same_noteHeader ..) _ h

theorem same_noteCorrected (h : Hw) (p r : Nat) : SameModule h (h.noteCorrected p r) := by
  unfold Hw.noteCorrected
  dsimp only
  split
  · exact ((same_ecount ..).trans (linkWork_updPort ..).same).trans (same_eraseRole ..)
  · exact (same_ecount ..).trans (linkWork_updPort ..).same

theorem same_badSet (h : Hw) (p : Nat) : SameModule h (h.badSet p) := by
  unfold Hw.badSet
  extract_lets g m pt
  have hm : SameModule h m := ((same_ecount h p 1).trans (same_raise _ (evEaveUncorrectable p))).trans (same_updPort g p _)
  clear_value m
  split
  · exact hm.trans (same_partnerLost m p)
  · exact hm

/-- A block set with a majority header, once its roles' words are known. -/
def Hw.decoded (g : Hw) (p m : Nat) (w18 : Word64) (res : Option (List Word64) × List Nat) : RxSet × Hw :=
  let g := res.2.foldl (fun h r => h.noteCorrected p r) g
  match res.1 with
  | none => (.bad, g.badSet p)
  | some ws =>
    let v := payloadOf ws
    if !crcOk v || (m = 1 && fld v 3 0 > 9) then (.bad, g.badSet p)
    else
      let h := (g.updPort p fun pt => { pt with badRun := 0 }).compareSpare p w18 ws
      (if m = 1 then .data v else .control v, h)

theorem same_sound (k : Hw) (p : Nat) (w18 : Word64) (ws : List Word64) :
    SameModule k ((k.updPort p fun pt => { pt with badRun := 0 }).compareSpare p w18 ws) := by
  have h1 := same_updPort k p fun pt => { pt with badRun := 0 }
  generalize k.updPort p (fun pt => { pt with badRun := 0 }) = m at h1
  exact h1.trans (same_updPort m p _)

theorem same_decoded (g : Hw) (p m : Nat) (w18 : Word64) (res : Option (List Word64) × List Nat) :
    SameModule g (g.decoded p m w18 res).2 := by
  unfold Hw.decoded
  extract_lets k
  have hk : SameModule g k := .foldl (fun g r => same_noteCorrected g p r) res.2 g
  clear_value k
  split
  · exact hk.trans (same_badSet k p)
  · next ws _ =>
    extract_lets v l
    have hl : SameModule k l := same_sound k p w18 ws
    clear_value v l
    split
    · exact hk.trans (same_badSet k p)
    · exact hk.trans hl

theorem same_rxSet (h : Hw) (p : Nat) (blks : List (BitVec 66)) : SameModule h (h.rxSet p blks).2 := by
  unfold Hw.rxSet
  extract_lets pt rx h1 h2 erased live at' nd nc major codes g1 g2
  have hs : SameModule h h2 := (same_updPort h p _).trans (same_updPort h1 p EavePort.nearRxSleep)
  have hg1 : SameModule h g1 := (hs.trans (same_updPort h2 p _)).trans (same_noteHeaders _ p _ _)
  have hg2 : SameModule h g2 := hs.trans (same_noteHeaders h2 p _ major)
  clear_value g1 g2 major
  split
  · exact hg1
  · cases major with
    | none => exact hg2.trans (same_badSet g2 p)
    | some m => exact hg2.trans (same_decoded g2 p m _ (rsDecodeSet erased _))

end Sys2Proof.Machine
end

section
-- As the tests above: declarations in order, so that checking the one text stays within its memory.
set_option Elab.async false
/-!
PROOFS. The symbols and the groups of a received block set, and the control block sets of each type (O53).
-/

namespace Sys2Proof.Machine

/-! ## Work at one port alone -/

/-- From h to g port p has become x, and nothing else has changed. -/
structure PortIs (p : Nat) (x : EavePort) (h g : Hw) : Prop where
  own : g.port p = x
  others : ∀ q, q ≠ p → g.port q = h.port q
  rest : g = { h with ports := g.ports }

theorem PortIs.trans {p : Nat} {x y : EavePort} {h g k : Hw} (a : PortIs p x h g) (b : PortIs p y g k) : PortIs p y h k :=
  ⟨b.own, fun q hq => (b.others q hq).trans (a.others q hq), by rw [b.rest, a.rest]⟩

theorem PortIs.rest_trans {p q : Nat} {x y : EavePort} {h g k : Hw} (a : PortIs p x h g) (b : PortIs q y g k) : k = { h with ports := k.ports } := by
  rw [b.rest, a.rest]

theorem portIs_refl (h : Hw) (p : Nat) : PortIs p (h.port p) h h := ⟨rfl, fun _ _ => rfl, rfl⟩

theorem portIs_updPort (h : Hw) (p : Nat) (f : EavePort → EavePort) : PortIs p (f (h.port p)) h (h.updPort p f) :=
  ⟨port_updPort_same h p f, otherPorts_updPort h p f, rfl⟩

theorem PortIs.upd {p : Nat} {x : EavePort} {h g : Hw} (a : PortIs p x h g) (f : EavePort → EavePort) : PortIs p (f x) h (g.updPort p f) := by
  have b := portIs_updPort g p f
  rw [a.own] at b
  exact a.trans b

/-! ## Fields of a payload -/

theorem fld_part (v : BitVec 1024) {s n hi lo : Nat} (h : hi < n) (hl : lo ≤ hi) :
    fld (v.extractLsb' s n) hi lo = fld v (s + hi) (s + lo) := by
  unfold fld
  rw [show s + hi + 1 - (s + lo) = hi + 1 - lo by omega]
  refine congrArg BitVec.toNat (BitVec.eq_of_getLsbD_eq fun i hi' => ?_)
  rw [BitVec.getLsbD_extractLsb', BitVec.getLsbD_extractLsb', BitVec.getLsbD_extractLsb', decide_eq_true hi',
    decide_eq_true (show lo + i < n by omega), Nat.add_assoc]
  simp

/-! ## The symbols of a block set (R237 to R239) -/

section
variable {g : Hw} {p : Nat} {v : BitVec 1024}

/-- The symbol entries of a payload that are not IDLE. -/
def symEntries (v : BitVec 1024) : List Word32 := ([v.extractLsb' 32 32, v.extractLsb' 64 32]).filter fun e => fld e 3 0 != 0

theorem entry_kinds (v : BitVec 1024) : fld (v.extractLsb' 32 32) 3 0 = fld v 35 32 ∧ fld (v.extractLsb' 64 32) 3 0 = fld v 67 64 :=
  ⟨fld_part v (by decide) (by decide), fld_part v (by decide) (by decide)⟩

theorem symEntries_idle (h0 : fld v 35 32 = 0) (h1 : fld v 67 64 = 0) : symEntries v = [] := by
  unfold symEntries
  rw [List.filter_cons, List.filter_cons, (entry_kinds v).1, (entry_kinds v).2, h0, h1]
  rfl

theorem symEntries_one (h0 : fld v 35 32 ≠ 0) (h1 : fld v 67 64 = 0) : symEntries v = [v.extractLsb' 32 32] := by
  unfold symEntries
  rw [List.filter_cons, List.filter_cons, (entry_kinds v).1, (entry_kinds v).2, h1, if_pos (bne_iff_ne.2 h0)]
  rfl

/-- The SSEQ that a port expects next, after a payload. -/
def Hw.sseqNoted (g : Hw) (p : Nat) (v : BitVec 1024) : Hw :=
  g.updPort p fun pt => { pt with sseqRx := (fld v 31 24 + (symEntries v).length) % 256 }

theorem takeSymbols_next (hs : fld v 31 24 = (g.port p).sseqRx) :
    g.takeSymbols p v = (symEntries v).foldl (fun h e => h.takeSymbol p e) (g.sseqNoted p v) := by
  unfold Hw.takeSymbols
  dsimp only
  rw [← hs, if_pos (show (fld v 31 24 + 256 - fld v 31 24) % 256 = 0 by omega)]
  rfl

theorem takeSymbols_gap (hs : (fld v 31 24 + 256 - (g.port p).sseqRx) % 256 ≠ 0) :
    g.takeSymbols p v = (symEntries v).foldl (fun h e => h.takeSymbol p e)
      (((g.ecount p 2 ((fld v 31 24 + 256 - (g.port p).sseqRx) % 256)).raisePoison (evSymbolLost p)).sseqNoted p v) := by
  unfold Hw.takeSymbols
  dsimp only
  rw [if_neg hs]
  rfl

theorem sseq_lt (v : BitVec 1024) : fld v 31 24 < 256 := fld_lt v 31 24

theorem sseqNoted_portIs (g : Hw) (p : Nat) (v : BitVec 1024) :
    PortIs p { g.port p with sseqRx := (fld v 31 24 + (symEntries v).length) % 256 } g (g.sseqNoted p v) :=
  portIs_updPort g p fun pt => { pt with sseqRx := (fld v 31 24 + (symEntries v).length) % 256 }

/-- A payload without symbols, with the next SSEQ. -/
theorem takeSymbols_idle (hs : fld v 31 24 = (g.port p).sseqRx) (hi : fld v 35 32 = 0 ∧ fld v 67 64 = 0) :
    PortIs p (g.port p) g (g.takeSymbols p v) := by
  have h := sseqNoted_portIs g p v
  rw [takeSymbols_next hs, symEntries_idle hi.1 hi.2]
  rw [symEntries_idle hi.1 hi.2, List.length_nil, Nat.add_zero, Nat.mod_eq_of_lt (sseq_lt v), hs] at h
  exact h

theorem symOfCode_ne {n : Nat} {k : SymKind} (h : symOfCode n = some k) : n ≠ 0 := by
  rintro rfl
  have h0 : symOfCode 0 = none := rfl
  rw [h0] at h
  cases h

/-- A symbol that goes on along the tree, by port. -/
theorem onward_port (m : Store EavePort) (c : Nat → Bool) (f : EavePort → EavePort) (q : Nat) :
    Store.get {} (m.map fun kv => if c kv.1 then (kv.1, f kv.2) else kv) q = Store.get {} m q ∨
      (c q = true ∧ Store.get {} (m.map fun kv => if c kv.1 then (kv.1, f kv.2) else kv) q = f (Store.get {} m q)) := by
  cases hc : c q with
  | false => exact .inl (Store.get_map_of_key _ m c f hc)
  | true =>
    induction m with
    | nil => exact .inl rfl
    | cons kv m ih =>
      obtain ⟨a, x⟩ := kv
      rw [List.map_cons]
      by_cases ha : q = a
      · subst ha
        rw [hc]
        exact .inr ⟨rfl, by simp [Store.get]⟩
      · have hskip : ∀ (w : EavePort) (n : Store EavePort), Store.get {} ((a, w) :: n) q = Store.get {} n q := fun w n => if_neg ha
        split
        · rw [hskip, hskip]
          exact ih
        · rw [hskip, hskip]
          exact ih

/-- The ports of the tree but one, changed. -/
def Hw.treeOnward (h : Hw) (p : Nat) (f : EavePort → EavePort) : Store EavePort :=
  h.ports.map fun kv => if kv.1 ≠ p && h.conf.treePorts.contains kv.1 then (kv.1, f kv.2) else kv

theorem treeOnward_port (h : Hw) (p : Nat) (f : EavePort → EavePort) {g : Hw} (e : g.ports = h.treeOnward p f) :
    g.port p = h.port p ∧
      ∀ q, q ≠ p → g.port q = h.port q ∨ (h.conf.treePorts.contains q = true ∧ g.port q = f (h.port q)) := by
  have hport : ∀ q, g.port q = Store.get {} (h.treeOnward p f) q := fun q => by
    unfold Hw.port
    rw [e]
  refine ⟨(hport p).trans (Store.get_map_of_key {} h.ports (fun a => a ≠ p && h.conf.treePorts.contains a) f (by simp)), fun q _ => ?_⟩
  rw [hport]
  refine (onward_port h.ports (fun a => a ≠ p && h.conf.treePorts.contains a) f q).imp id fun ⟨hc, he⟩ => ⟨?_, he⟩
  simp only [Bool.and_eq_true] at hc
  exact hc.2

/-- The symbol of an entry, with its effect clock. -/
def entrySym (g : Hw) (k : SymKind) (e : Word32) : Sym :=
  ⟨k, fld e 31 22, fld e 21 16, (effectClock g.seq.horizon g.seq.clk (fld e 13 4)).1,
    (effectClock g.seq.horizon g.seq.clk (fld e 13 4)).1 - g.seq.horizon⟩

/-- The symbol of an entry waits, and travels on. -/
def Hw.symTaken (g : Hw) (p : Nat) (k : SymKind) (e : Word32) : Hw :=
  { g with
    seq := { g.seq with syms := g.seq.syms ++ [entrySym g k e] }
    ports := g.treeOnward p fun pt => { pt with txSyms := pt.txSyms ++ [entrySym g k e] } }

theorem takeSymbol_eq {k : SymKind} {e : Word32} (hk : symOfCode (fld e 3 0) = some k) : g.takeSymbol p e =
    let h := g.realign k (fld e 13 4)
    if (effectClock h.seq.horizon h.seq.clk (fld e 13 4)).2 then ((h.symTaken p k e).ecount p 2).poison else h.symTaken p k e := by
  unfold Hw.takeSymbol
  rw [hk]
  rfl

theorem realign_idle {k : SymKind} (e : Nat) (hn : k ≠ .frameGo ∨ g.seq.realign = false ∨ g.isMember = false) : g.realign k e = g := by
  unfold Hw.realign
  refine if_neg ?_
  rintro h
  simp only [Bool.and_eq_true, beq_iff_eq] at h
  obtain ⟨⟨h1, h2⟩, h3⟩ := h
  rcases hn with hn | hn | hn
  · exact hn h2
  · rw [hn] at h1
    exact absurd h1 (by decide)
  · rw [hn] at h3
    exact absurd h3 (by decide)

/-- The clock count of a member is set anew. -/
def Hw.realigned (g : Hw) (clk : Nat) : Hw := { g with seq := { g.seq with realign := false, clk } }

theorem realign_eq {e : Nat} (hr : g.seq.realign = true) (hm : g.isMember = true) : g.realign .frameGo e =
    g.realigned (alignedClock g.seq.clk g.seq.horizon g.conf.distance e) := by
  unfold Hw.realign
  refine if_pos ?_
  rw [hr, hm]
  rfl

/-- The clock count that a FRAME_GO tells a member (R238). -/
theorem alignedClock_spec (clk horizon distance e : Nat) :
    (alignedClock clk horizon distance e + horizon) % 1024 = (e + distance) % 1024 ∧
      (512 ≤ clk → alignedClock clk horizon distance e ≤ clk + 512) ∧ clk ≤ alignedClock clk horizon distance e + 512 := by
  have hwant : ((e + 1024 - horizon % 1024 + distance) % 1024 + horizon) % 1024 = (e + distance) % 1024 := by omega
  unfold alignedClock
  dsimp only
  generalize (e + 1024 - horizon % 1024 + distance) % 1024 = want at hwant ⊢
  have hahead : (clk + (want + 1024 - clk % 1024) % 1024) % 1024 = want % 1024 := by omega
  have hlt : (want + 1024 - clk % 1024) % 1024 < 1024 := Nat.mod_lt _ (by decide)
  generalize (want + 1024 - clk % 1024) % 1024 = ahead at hahead hlt ⊢
  split
  next h =>
    simp only [Bool.or_eq_true, decide_eq_true_eq] at h
    omega
  next h =>
    simp only [Bool.or_eq_true, decide_eq_true_eq, not_or] at h
    omega

end

end Sys2Proof.Machine
end

section
-- As the tests above: declarations in order, so that checking the one text stays within its memory.
set_option Elab.async false
/-!
PROOFS. Received data block sets, and the control block sets of each type (O53).
-/

namespace Sys2Proof.Machine

/-! ## Data block sets (R233, R235, R238, R239) -/

section
variable {g : Hw} {p : Nat} {v : BitVec 1024}

/-- The slot groups of a data payload. -/
def dataGroups (v : BitVec 1024) : List Group :=
  (List.range (fld v 3 0)).map fun n => ⟨fld v 23 20, fld v 19 4 + n, v.extractLsb' (96 + 96 * n) 96⟩

theorem PortIs.groups {x : EavePort} {h m : Hw} (a : PortIs p x h m) (v : BitVec 1024) :
    PortIs p { x with rxGroups := x.rxGroups ++ dataGroups v } h (m.takeGroups p v) :=
  a.upd fun pt => { pt with rxGroups := pt.rxGroups ++ dataGroups v }

theorem dataSet_idle (hs : fld v 31 24 = (g.port p).sseqRx) (hi : fld v 35 32 = 0 ∧ fld v 67 64 = 0) :
    PortIs p { g.port p with rxGroups := (g.port p).rxGroups ++ dataGroups v } g ((g.takeSymbols p v).takeGroups p v) :=
  (takeSymbols_idle hs hi).groups v

/-- The symbol of a payload's first entry (Table 8.7). -/
def payloadSym (g : Hw) (k : SymKind) (v : BitVec 1024) : Sym :=
  ⟨k, fld v 63 54, fld v 53 48, (effectClock g.seq.horizon g.seq.clk (fld v 45 36)).1,
    (effectClock g.seq.horizon g.seq.clk (fld v 45 36)).1 - g.seq.horizon⟩

theorem entry_fields (v : BitVec 1024) : fld (v.extractLsb' 32 32) 31 22 = fld v 63 54 ∧ fld (v.extractLsb' 32 32) 21 16 = fld v 53 48 ∧
    fld (v.extractLsb' 32 32) 13 4 = fld v 45 36 :=
  ⟨fld_part v (by decide) (by decide), fld_part v (by decide) (by decide), fld_part v (by decide) (by decide)⟩

/-- The one symbol of a payload, after its SSEQ has been noted. -/
theorem takeSymbols_one {k : SymKind} (hs : fld v 31 24 = (g.port p).sseqRx) (hk : symOfCode (fld v 35 32) = some k)
    (h1 : fld v 67 64 = 0) : g.takeSymbols p v = (g.sseqNoted p v).takeSymbol p (v.extractLsb' 32 32) := by
  rw [takeSymbols_next hs, symEntries_one (symOfCode_ne hk) h1]
  rfl

theorem sseqNoted_one {k : SymKind} (hs : fld v 31 24 = (g.port p).sseqRx) (hk : symOfCode (fld v 35 32) = some k) (h1 : fld v 67 64 = 0) :
    PortIs p { g.port p with sseqRx := ((g.port p).sseqRx + 1) % 256 } g (g.sseqNoted p v) := by
  have h := sseqNoted_portIs g p v
  rw [symEntries_one (symOfCode_ne hk) h1, List.length_singleton, hs] at h
  exact h

/-- A data block set with one symbol that is not late and re-aligns nothing. -/
theorem dataSet_symbol {k : SymKind} (hs : fld v 31 24 = (g.port p).sseqRx) (hk : symOfCode (fld v 35 32) = some k) (h1 : fld v 67 64 = 0)
    (hn : k ≠ .frameGo ∨ g.seq.realign = false ∨ g.isMember = false)
    (hl : (effectClock g.seq.horizon g.seq.clk (fld v 45 36)).2 = false) :
    let t := (g.takeSymbols p v).takeGroups p v
    let y := payloadSym g k v
    t.seq = { g.seq with syms := g.seq.syms ++ [y] } ∧
      (∀ q, q ≠ p → t.port q = g.port q ∨
        g.conf.treePorts.contains q = true ∧ t.port q = { g.port q with txSyms := (g.port q).txSyms ++ [y] }) ∧
      t.port p = { g.port p with rxGroups := (g.port p).rxGroups ++ dataGroups v, sseqRx := ((g.port p).sseqRx + 1) % 256 } ∧
      t = { g with ports := t.ports, seq := t.seq } := by
  obtain ⟨e1, e2, e3⟩ := entry_fields v
  have hm := sseqNoted_one hs hk h1
  rw [takeSymbols_one hs hk h1]
  generalize g.sseqNoted p v = m at hm ⊢
  have hseq : m.seq = g.seq := by rw [hm.rest]
  have hconf : m.conf = g.conf := by rw [hm.rest]
  have hmem : m.isMember = g.isMember := by rw [hm.rest]; rfl
  have hy : entrySym m k (v.extractLsb' 32 32) = payloadSym g k v := by
    unfold entrySym payloadSym
    rw [hseq, e1, e2, e3]
  rw [takeSymbol_eq (by rw [(entry_kinds v).1]; exact hk), realign_idle _ (by rw [hseq, hmem]; exact hn)]
  dsimp only
  rw [hseq, e3, hl, if_neg Bool.false_ne_true]
  have ht := treeOnward_port m p (fun pt => { pt with txSyms := pt.txSyms ++ [payloadSym g k v] })
    (g := m.symTaken p k (v.extractLsb' 32 32)) (by rw [← hy]; rfl)
  have hsyms : (m.symTaken p k (v.extractLsb' 32 32)).seq = { g.seq with syms := g.seq.syms ++ [payloadSym g k v] } := by
    rw [← hy, ← hseq]
    rfl
  have hrest : m.symTaken p k (v.extractLsb' 32 32) = { g with
      ports := (m.symTaken p k (v.extractLsb' 32 32)).ports, seq := (m.symTaken p k (v.extractLsb' 32 32)).seq } := by
    rw [show m.symTaken p k (v.extractLsb' 32 32) = { m with
      ports := (m.symTaken p k (v.extractLsb' 32 32)).ports, seq := (m.symTaken p k (v.extractLsb' 32 32)).seq } from rfl, hm.rest]
  generalize m.symTaken p k (v.extractLsb' 32 32) = n at ht hsyms hrest ⊢
  have hgr := (portIs_refl n p).groups v
  generalize n.takeGroups p v = t at hgr ⊢
  have htseq : t.seq = n.seq := by rw [hgr.rest]
  refine ⟨htseq.trans hsyms, fun q hq => ?_, ?_, by rw [hgr.rest, hrest]⟩
  · rw [hgr.others q hq, ← hm.others q hq, ← hconf]
    exact ht.2 q hq
  · rw [hgr.own, ht.1, hm.own]

/-- Symbols that are sent and events that are raised leave the clock count, and whether a re-alignment is awaited. -/
theorem Signals.clock {h k : Hw} (s : Signals h k) : k.seq.clk = h.seq.clk ∧ k.seq.realign = h.seq.realign ∧ k.seq.horizon = h.seq.horizon := by
  rw [s.rest]
  exact ⟨rfl, rfl, rfl⟩

theorem symbolTaken_clock (h : Hw) (p : Nat) (k : SymKind) (e : Word32) (late : Bool) :
    (if late then ((h.symTaken p k e).ecount p 2).poison else h.symTaken p k e).seq.realign = h.seq.realign ∧
      (if late then ((h.symTaken p k e).ecount p 2).poison else h.symTaken p k e).seq.clk = h.seq.clk := by
  have hn : (h.symTaken p k e).seq.realign = h.seq.realign ∧ (h.symTaken p k e).seq.clk = h.seq.clk := ⟨rfl, rfl⟩
  generalize h.symTaken p k e = n at hn ⊢
  cases late with
  | false => exact hn
  | true =>
    obtain ⟨d1, d2, -⟩ := (signals_poison (n.ecount p 2)).clock
    exact ⟨d2.trans hn.1, d1.trans hn.2⟩

/-- The first FRAME_GO of a member after a level-change gap. -/
theorem dataSet_realign (hs : fld v 31 24 = (g.port p).sseqRx) (hk : symOfCode (fld v 35 32) = some .frameGo) (h1 : fld v 67 64 = 0)
    (hr : g.seq.realign = true) (hmem : g.isMember = true) :
    ((g.takeSymbols p v).takeGroups p v).seq.realign = false ∧
      ((g.takeSymbols p v).takeGroups p v).seq.clk = alignedClock g.seq.clk g.seq.horizon g.conf.distance (fld v 45 36) := by
  obtain ⟨-, -, e3⟩ := entry_fields v
  have hm := sseqNoted_one hs hk h1
  rw [takeSymbols_one hs hk h1]
  generalize g.sseqNoted p v = m at hm ⊢
  have hseq : m.seq = g.seq := by rw [hm.rest]
  have hconf : m.conf = g.conf := by rw [hm.rest]
  have hmem' : m.isMember = true := by rw [hm.rest]; exact hmem
  rw [takeSymbol_eq (by rw [(entry_kinds v).1]; exact hk), realign_eq (by rw [hseq]; exact hr) hmem', hseq, hconf, e3]
  have hgr : ∀ k : Hw, (k.takeGroups p v).seq = k.seq := fun _ => rfl
  rw [hgr]
  exact symbolTaken_clock (m.realigned _) p .frameGo _ _

theorem fget_ecount (h : Hw) (p n k : Nat) :
    (h.ecount p n k).fget (eaveA p (0x20 + 4 * n)) 31 0 = min (2 ^ 32 - 1) (h.fget (eaveA p (0x20 + 4 * n)) 31 0 + k) := by
  refine (fget_fset_same h _ 31 0 _ (by omega)).trans (Nat.mod_eq_of_lt ?_)
  unfold satAdd
  omega

theorem Signals.reg {h k : Hw} (s : Signals h k) (a : Nat) : k.reg a = h.reg a := by
  rw [s.rest]
  rfl

/-- Lost symbols: the gap in the SSEQ is counted and raised. -/
theorem dataSet_gap (hp : g.pstate < 3) (hlt : (g.port p).sseqRx < 256) (hne : fld v 31 24 ≠ (g.port p).sseqRx)
    (hi : fld v 35 32 = 0 ∧ fld v 67 64 = 0) :
    let t := (g.takeSymbols p v).takeGroups p v
    (t.port p).rxGroups = (g.port p).rxGroups ++ dataGroups v ∧ (t.port p).sseqRx = fld v 31 24 ∧
      t.fget (eaveA p 0x28) 31 0 = min (2 ^ 32 - 1) (g.fget (eaveA p 0x28) 31 0 + (fld v 31 24 + 256 - (g.port p).sseqRx) % 256) ∧
      ∃ e ∈ t.fault.path, e.id = evSymbolLost p := by
  have hsseq := sseq_lt v
  rw [takeSymbols_gap (by omega), symEntries_idle hi.1 hi.2, List.foldl_nil]
  have hcount := fget_ecount g p 2 ((fld v 31 24 + 256 - (g.port p).sseqRx) % 256)
  have hport : ∀ q, (g.ecount p 2 ((fld v 31 24 + 256 - (g.port p).sseqRx) % 256)).port q = g.port q := fun _ => rfl
  have hps := (same_ecountBy g p 2 ((fld v 31 24 + 256 - (g.port p).sseqRx) % 256)).1
  generalize g.ecount p 2 ((fld v 31 24 + 256 - (g.port p).sseqRx) % 256) = m at hcount hport hps ⊢
  have hsig := signals_raisePoison m (evSymbolLost p) 0
  obtain ⟨e, he, hid⟩ := onPath_raisePoison (evSymbolLost p) 0 hps hp
  have hown := hsig.port p
  generalize m.raisePoison (evSymbolLost p) = n at hsig he hown ⊢
  have ht := (sseqNoted_portIs n p v).groups v
  rw [symEntries_idle hi.1 hi.2, List.length_nil, Nat.add_zero, Nat.mod_eq_of_lt hsseq] at ht
  generalize (n.sseqNoted p v).takeGroups p v = t at ht ⊢
  have hreg : t.reg (eaveA p 0x28) = m.reg (eaveA p 0x28) := by
    rw [ht.rest]
    exact hsig.reg _
  have hpath : t.fault = n.fault := by rw [ht.rest]
  rw [hport] at hown
  refine ⟨?_, by rw [ht.own], (fget_congr hreg 31 0).trans hcount, e, hpath ▸ he, hid⟩
  rw [ht.own, hown]

end

end Sys2Proof.Machine
end

section
-- As the tests above: declarations in order, so that checking the one text stays within its memory.
set_option Elab.async false
/-!
PROOFS. The control block sets of each type (R230, R241, R242, R247, R252), and O53.
-/

namespace Sys2Proof.Machine

section
variable {h g : Hw} {p : Nat} {v : BitVec 1024} {blks : List (BitVec 66)}

theorem rxControl_takes {ty : Nat} {ok : BitVec 1024 → Bool} {f : BitVec 1024 → Hw → Hw} (ho : h.rxOpen p = true)
    (hr : h.rxSet p blks = (.control v, g)) (ht : ctlType v = ty) (hok : ok v = true) :
    h.rxControl p blks ty ok f = f v (g.takeSymbols p v) := by
  unfold Hw.rxControl
  rw [ho, hr, if_neg (show ¬((!true) = true) by decide)]
  dsimp only
  rw [ht, hok, if_pos (by simp)]

/-- A DATA_BLOCK_SET of a data payload, and of an IDLE one. -/
theorem dataBlockSet_data (ho : h.rxOpen p = true) (hr : h.rxSet p blks = (.data v, g)) :
    execDataBlockSet h p blks = (g.takeSymbols p v).takeGroups p v := by
  unfold execDataBlockSet
  rw [ho, hr, if_neg (show ¬((!true) = true) by decide)]

theorem dataBlockSet_idle (ho : h.rxOpen p = true) (hr : h.rxSet p blks = (.control v, g)) (ht : ctlType v = 0) :
    execDataBlockSet h p blks = g.takeSymbols p v := by
  unfold execDataBlockSet
  rw [ho, hr, if_neg (show ¬((!true) = true) by decide)]
  dsimp only
  rw [if_pos ht]

/-! ## CAPTURE (R126, R241) -/

/-- The capture values of a payload, with their effect clock. -/
def capOf (g : Hw) (v : BitVec 1024) : CapSym :=
  ⟨if bit v 12 then some (v.extractLsb' 96 64) else none, if bit v 13 then some (fld v 11 8) else none,
    (effectClock g.seq.horizon g.seq.clk (fld v 23 14)).1⟩

/-- Capture values wait, and travel on. -/
def Hw.capTaken (g : Hw) (p : Nat) (c : CapSym) : Hw :=
  { g with
    seq := { g.seq with caps := g.seq.caps ++ [c] }
    ports := g.treeOnward p fun pt => { pt with txCaps := pt.txCaps ++ [c] } }

theorem execCapture_takes (ho : h.rxOpen p = true) (hr : h.rxSet p blks = (.control v, g)) (ht : ctlType v = 2)
    (hs : (g.takeSymbols p v).seq = g.seq) (hl : (effectClock g.seq.horizon g.seq.clk (fld v 23 14)).2 = false) :
    execCapture h p blks = (g.takeSymbols p v).capTaken p (capOf g v) := by
  unfold execCapture
  rw [rxControl_takes ho hr ht rfl]
  dsimp only
  rw [hs, hl, if_neg Bool.false_ne_true]
  unfold Hw.capTaken
  rw [hs]
  rfl

theorem capTaken_fields {m : Hw} (hm : PortIs p (g.port p) g m) (c : CapSym) :
    let t := m.capTaken p c
    t.seq = { g.seq with caps := g.seq.caps ++ [c] } ∧
      (∀ q, q ≠ p → t.port q = g.port q ∨
        g.conf.treePorts.contains q = true ∧ t.port q = { g.port q with txCaps := (g.port q).txCaps ++ [c] }) ∧
      t.port p = g.port p ∧ t = { g with ports := t.ports, seq := t.seq } := by
  have hseq : m.seq = g.seq := by rw [hm.rest]
  have hconf : m.conf = g.conf := by rw [hm.rest]
  have ht := treeOnward_port m p (fun pt => { pt with txCaps := pt.txCaps ++ [c] }) (g := m.capTaken p c) rfl
  have hc : (m.capTaken p c).seq = { g.seq with caps := g.seq.caps ++ [c] } := by
    rw [← hseq]
    rfl
  have hrest : m.capTaken p c = { g with ports := (m.capTaken p c).ports, seq := (m.capTaken p c).seq } := by
    rw [show m.capTaken p c = { m with ports := (m.capTaken p c).ports, seq := (m.capTaken p c).seq } from rfl, hm.rest]
  generalize m.capTaken p c = t at ht hc hrest
  refine ⟨hc, fun q hq => ?_, ht.1.trans hm.own, hrest⟩
  rw [← hm.others q hq, ← hconf]
  exact ht.2 q hq

/-! ## LINK_ID (R230, R442) -/

theorem noteKnown_fields (h : Hw) (before : List Nat) : OnlyRegs [hostifA 0x80] h (h.noteKnown before) ∧
    ∀ n, n ≠ 0 → (h.noteKnown before).bget (hostifA 0x80) n = h.bget (hostifA 0x80) n := by
  unfold Hw.noteKnown
  split
  · refine ⟨onlyRegs_fset h (hostifA 0x80) 0 0 0, fun n hn => ?_⟩
    by_cases hlt : n < 32
    · rw [bget_fset _ _ _ _ _ _ _ hlt, if_neg (by omega)]
    · unfold Hw.bget bit
      rw [BitVec.getLsbD_of_ge _ _ (by omega), BitVec.getLsbD_of_ge _ _ (by omega)]
  · exact ⟨(OnlyRegs.refl h).mono (by simp), fun _ _ => rfl⟩

/-- A port whose partner has named itself begins to calibrate, once it is deskewed and has named itself too. -/
theorem alignDone_portIs (h : Hw) (p : Nat) (hs : (h.port p).linkIdSeen = true) :
    let begins := (h.port p).state = .align ∧ (h.port p).deskewed = true ∧ (h.port p).linkIdSent = true
    PortIs p { h.port p with
      state := if begins then .calibrate else (h.port p).state
      samples := if begins then [] else (h.port p).samples } h (h.alignDone p) := by
  intro begins
  have hc : ((h.port p).state = .align && (h.port p).deskewed && (h.port p).linkIdSeen && (h.port p).linkIdSent) = true ↔ begins := by
    simp only [Bool.and_eq_true, decide_eq_true_eq, hs, and_assoc, true_and, begins]
  unfold Hw.alignDone
  dsimp only
  by_cases hb : begins
  · rw [if_pos (hc.2 hb), if_pos hb, if_pos hb]
    exact portIs_updPort h p fun pt => { pt with state := .calibrate, samples := [] }
  · rw [if_neg (mt hc.1 hb), if_neg hb, if_neg hb]
    exact portIs_refl h p

/-- What a LINK_ID names, in the link status of its port. -/
def linkNamed (v : BitVec 1024) : Nat := fld v 21 16 + 2 ^ 6 * fld v 99 96 + 2 ^ 10

theorem linkNamed_lt (v : BitVec 1024) : linkNamed v < 2 ^ 11 := by
  have h1 : fld v 21 16 < 64 := fld_lt v 21 16
  have h2 : fld v 99 96 < 16 := fld_lt v 99 96
  unfold linkNamed
  omega

/-- The port of a LINK_ID, before it is tested whether calibration begins. -/
def EavePort.partnered (pt : EavePort) (v : BitVec 1024) : EavePort :=
  { pt with linkIdSeen := true, partnerIdent := fld v 15 8, partnerConfig := v.extractLsb' 100 64 }

/-- A LINK_ID after the symbols of its block set. -/
def Hw.linkIdTaken (m : Hw) (p : Nat) (v : BitVec 1024) : Hw :=
  (((((m.eset p 4 18 8 (linkNamed v)).noteKnown m.known).updPort p fun pt => pt.partnered v).alignDone p).reportPort p)

theorem execLinkId_takes (ho : h.rxOpen p = true) (hr : h.rxSet p blks = (.control v, g)) (ht : ctlType v = 6) :
    execLinkId h p blks = (g.takeSymbols p v).linkIdTaken p v := by
  unfold execLinkId
  rw [rxControl_takes ho hr ht rfl]
  rfl

theorem linkIdTaken_fields {m : Hw} (hm : PortIs p (g.port p) g m) :
    let t := m.linkIdTaken p v
    let pt := g.port p
    t.fget (eaveA p 4) 18 8 = linkNamed v ∧
      (let begins := pt.state = .align ∧ pt.deskewed = true ∧ pt.linkIdSent = true
       Queued { pt with
        linkIdSeen := true, partnerIdent := fld v 15 8, partnerConfig := v.extractLsb' 100 64
        state := if begins then .calibrate else pt.state, samples := if begins then [] else pt.samples } (t.port p)) ∧
      (∀ q, q ≠ p → Queued (g.port q) (t.port q)) ∧ (∀ n, n ≠ 0 → t.bget (hostifA 0x80) n = g.bget (hostifA 0x80) n) ∧
      OnlyRegs [eaveA p 4, hostifA 0x80] g { t with ports := g.ports, out := g.out } := by
  have hmreg : ∀ a, m.reg a = g.reg a := fun a => by
    rw [hm.rest]
    rfl
  have hk : eaveA p 4 ≠ hostifA 0x80 := by
    unfold eaveA hostifA
    omega
  unfold Hw.linkIdTaken
  have a1 : OnlyRegs [eaveA p 4] m (m.eset p 4 18 8 (linkNamed v)) := onlyRegs_fset m (eaveA p 4) 18 8 _
  have a2 : (m.eset p 4 18 8 (linkNamed v)).fget (eaveA p 4) 18 8 = linkNamed v :=
    (fget_fset_same m (eaveA p 4) 18 8 _ (by omega)).trans (Nat.mod_eq_of_lt (linkNamed_lt v))
  generalize m.eset p 4 18 8 (linkNamed v) = n1 at a1 a2 ⊢
  obtain ⟨b1, b2⟩ := noteKnown_fields n1 m.known
  generalize n1.noteKnown m.known = n2 at b1 b2 ⊢
  have hport : n2.port p = g.port p := ((OnlyRegs.port b1 p).trans (OnlyRegs.port a1 p)).trans hm.own
  have c1 := portIs_updPort n2 p fun pt => pt.partnered v
  generalize (n2.updPort p fun pt => pt.partnered v) = n3 at c1 ⊢
  have d1 := alignDone_portIs n3 p (by rw [c1.own]; rfl)
  rw [c1.own, hport] at d1
  have e1 := c1.trans d1
  generalize n3.alignDone p = n4 at e1 ⊢
  have t1 := told_reportPort n4 p
  generalize n4.reportPort p = t at t1 ⊢
  have hreg : ∀ a, t.reg a = n2.reg a := fun a => (t1.reg a).trans (by rw [e1.rest]; rfl)
  refine ⟨?_, ?_, fun q hq => ?_, fun n hn => ?_, ?_, fun a ha => ?_⟩
  · rw [fget_congr ((hreg _).trans (b1.2 _ (by simpa using hk))) 18 8]
    exact a2
  · have hq := t1.2 p
    rw [e1.own] at hq
    exact hq
  · have hq' := t1.2 q
    rw [e1.others q hq, OnlyRegs.port b1, OnlyRegs.port a1, hm.others q hq] at hq'
    exact hq'
  · rw [bget_congr (hreg _), b2 n hn, bget_congr (a1.2 _ (by simpa using hk.symm)), bget_congr (hmreg _)]
  · rw [t1.1, e1.rest, b1.1, a1.1, hm.rest]
  · simp only [List.mem_cons, List.not_mem_nil, or_false, not_or] at ha
    exact (hreg a).trans ((b1.2 a (by simpa using ha.2)).trans ((a1.2 a (by simpa using ha.1)).trans (hmreg a)))

/-! ## LANE and ACK (R242, R247, R252) -/

theorem execAck_takes (ho : h.rxOpen p = true) (hr : h.rxSet p blks = (.control v, g)) (ht : ctlType v = 4)
    (hm : PortIs p (g.port p) g (g.takeSymbols p v)) (hs : ∃ m ∈ (g.port p).unacked, m.seq = fld v 15 8 ∧ m.sent = true) :
    PortIs p { g.port p with unacked := ackList (fld v 15 8) (g.port p).unacked } g (execAck h p blks) := by
  unfold execAck
  rw [rxControl_takes ho hr ht rfl]
  obtain ⟨m, hmem, hseq, hsent⟩ := hs
  have hany : ((g.port p).unacked.any fun m => m.seq = fld v 15 8 && m.sent) = true :=
    List.any_eq_true.2 ⟨m, hmem, by rw [hseq, hsent]; simp⟩
  have hu := hm.upd fun pt =>
    if pt.unacked.any fun m => m.seq = fld v 15 8 && m.sent then { pt with unacked := ackList (fld v 15 8) pt.unacked } else pt
  rw [hany, if_pos rfl] at hu
  exact hu

/-- Lane 18 as COEFF blocks start on it. -/
def EavePort.spareAsked (pt : EavePort) (r : Nat) : EavePort :=
  { pt with
    txSpare := some (r, true)
    lanes := pt.lanes.set 18 { pt.lane 18 with idle := false, partnerReady := false, statPre := 0, statPost := 0 } }

theorem execSpareReq_takes (ho : h.rxOpen p = true) (hr : h.rxSet p blks = (.control v, g)) (ht : ctlType v = 5) (hop : laneOp v = 1)
    (hlt : fld v 16 12 < 18) : execSpareReq h p blks =
      (((g.takeSymbols p v).setTaps p 18 4 8).updPort p fun pt => pt.spareAsked (fld v 16 12)).sendCoeff p 18 := by
  unfold execSpareReq
  rw [rxControl_takes ho hr ht (by rw [hop, decide_eq_true hlt]; rfl)]
  rfl

theorem spareReq_fields {m : Hw} (hm : PortIs p (g.port p) g m) (r : Nat) :
    let t := ((m.setTaps p 18 4 8).updPort p fun pt => pt.spareAsked r).sendCoeff p 18
    (t.port p).txSpare = some (r, true) ∧ (∃ b, t.out = g.out ++ [.laneBlock p 18 b]) ∧ (∀ q, q ≠ p → t.port q = g.port q) ∧
      t.reg (eaveA p (0x200 + 4 * 18)) = BitVec.ofNat 32 (4 + 2 ^ 8 * 8 + 2 ^ 16 * 52) := by
  have a1 : ∀ q, (m.setTaps p 18 4 8).port q = m.port q := fun q => port_setReg m _ _ q
  have hout : ∀ a w, (m.setReg a w).out = m.out := fun _ _ => rfl
  have a2 : (m.setTaps p 18 4 8).reg (eaveA p (0x200 + 4 * 18)) = BitVec.ofNat 32 (4 + 2 ^ 8 * 8 + 2 ^ 16 * 52) :=
    reg_setReg_same m (eaveA p (0x200 + 4 * 18)) (BitVec.ofNat 32 (4 + 2 ^ 8 * 8 + 2 ^ 16 * (64 - 4 - 8)))
  have a3 : (m.setTaps p 18 4 8).out = g.out := by
    rw [show (m.setTaps p 18 4 8).out = m.out from hout _ _, hm.rest]
  generalize m.setTaps p 18 4 8 = n at a1 a2 a3 ⊢
  have b1 := portIs_updPort n p fun pt => pt.spareAsked r
  generalize (n.updPort p fun pt => pt.spareAsked r) = k at b1 ⊢
  have c1 := otherPorts_sendCoeff k p 18
  have c2 : ∃ b x, k.sendCoeff p 18 = (k.updPort p fun pt => pt.setLane 18 x).emit (.laneBlock p 18 b) := ⟨_, _, rfl⟩
  obtain ⟨b, x, c2⟩ := c2
  have c3 := port_updPort_same k p fun pt => pt.setLane 18 x
  have hkout : k.out = n.out := by rw [b1.rest]
  have hkreg : k.reg (eaveA p (0x200 + 4 * 18)) = n.reg (eaveA p (0x200 + 4 * 18)) := by
    rw [b1.rest]
    rfl
  refine ⟨?_, ⟨b, ?_⟩, fun q hq => ?_, ?_⟩
  · rw [c2]
    refine (congrArg EavePort.txSpare c3).trans ?_
    show (k.port p).txSpare = _
    rw [b1.own]
    rfl
  · rw [c2, ← a3, ← hkout]
    rfl
  · rw [c1 q hq, b1.others q hq, a1, hm.others q hq]
  · rw [c2, ← a2, ← hkreg]
    rfl

/-- The lane of role r is at electrical idle, and lane 18 carries the role. -/
def EavePort.spareSwapped (pt : EavePort) (r : Nat) : EavePort :=
  let l := pt.txRole.getD r r
  { pt with txSpare := none, txRole := pt.txRole.set r 18, lanes := pt.lanes.set l { pt.lane l with idle := true } }

theorem execSpareDone_takes (ho : h.rxOpen p = true) (hr : h.rxSet p blks = (.control v, g)) (ht : ctlType v = 5) (hop : laneOp v = 2)
    (hlt : fld v 16 12 < 18) (hm : PortIs p (g.port p) g (g.takeSymbols p v)) :
    PortIs p ((g.port p).spareSwapped (fld v 16 12)) g (execSpareDone h p blks) := by
  unfold execSpareDone
  rw [rxControl_takes ho hr ht (by rw [hop, decide_eq_true hlt]; rfl)]
  exact hm.upd fun pt => pt.spareSwapped (fld v 16 12)

theorem execLaneQuiet_takes (ho : h.rxOpen p = true) (hr : h.rxSet p blks = (.control v, g)) (ht : ctlType v = 5)
    (hop : laneOp v = 3 ∨ laneOp v = 4) (hm : PortIs p (g.port p) g (g.takeSymbols p v)) :
    PortIs p { g.port p with rxSleepAfter := some (16, laneOp v - 2) } g (execLaneQuiet h p blks) := by
  unfold execLaneQuiet
  rw [rxControl_takes ho hr ht (by rcases hop with e | e <;> rw [e] <;> rfl)]
  exact hm.upd fun pt => { pt with rxSleepAfter := some (16, laneOp v - 2) }

/-! ## MSG (R242) -/

/-- A message fragment in sequence has been taken, and is to be acknowledged. -/
def EavePort.msgTaken (pt : EavePort) : EavePort := { pt with mseqRx := (pt.mseqRx + 1) % 256, ackDue := true }

theorem takeMsg_eq (ho : h.rxOpen p = true) (hr : h.rxSet p blks = (.control v, g)) (ht : ctlType v = 3)
    (hm : PortIs p (g.port p) g (g.takeSymbols p v)) (hs : fld v 15 8 = (g.port p).mseqRx) :
    ∃ t, PortIs p (g.port p).msgTaken g t ∧ h.takeMsg p blks =
      if (msgBody v).dst ≠ h.devIndex then
        ((t.msgPorts (msgBody v).dst).foldl (fun h q => if q = p then h else h.queueMsg q (msgBody v) none) t, false)
      else (t, (msgBody v).last) := by
  refine ⟨_, hm.upd EavePort.msgTaken, ?_⟩
  unfold Hw.takeMsg
  rw [ho, hr, if_neg (show ¬((!true) = true) by decide)]
  dsimp only
  rw [if_neg (not_not_intro ht), hm.own, if_neg (not_not_intro hs)]
  rfl

/-- A fragment for another module goes on to the other tree port. -/
theorem execMsg_onward {q : Nat} (hp : p < 12) {meaning : LinkMsg} (ho : h.rxOpen p = true) (hr : h.rxSet p blks = (.control v, g))
    (ht : ctlType v = 3) (hm : PortIs p (g.port p) g (g.takeSymbols p v)) (hs : fld v 15 8 = (g.port p).mseqRx)
    (hd : (msgBody v).dst ≠ h.devIndex) (hq : q ≠ p) (hmem : g.isMember = true) (hb : g.conf.branches = [p, q]) :
    let t := execMsg h p blks meaning
    t.port p = (g.port p).msgTaken ∧
      t.port q = { g.port q with unacked := (g.port q).unacked ++ [⟨(g.port q).mseqTx, msgBody v, 0, false, none⟩]
                                 mseqTx := ((g.port q).mseqTx + 1) % 256 } ∧
      (∀ r, r ≠ p → r ≠ q → t.port r = g.port r) ∧ t = { g with ports := t.ports } := by
  obtain ⟨m, hport, htake⟩ := takeMsg_eq ho hr ht hm hs
  have hways : m.msgPorts (msgBody v).dst = [p, q] := by
    have e1 : m.conf = g.conf := by rw [hport.rest]
    have e2 : m.isMember = true := by rw [hport.rest]; exact hmem
    unfold Hw.msgPorts
    rw [e1, hb, e2]
    rfl
  have heq : execMsg h p blks meaning = m.queueMsg q (msgBody v) none := by
    unfold execMsg
    rw [if_neg (by omega), htake, if_pos hd, hways, List.foldl_cons, List.foldl_cons, List.foldl_nil, if_pos rfl, if_neg hq]
    rfl
  have hqm := portIs_updPort m q fun pt => { pt with
    unacked := pt.unacked ++ [⟨pt.mseqTx, msgBody v, 0, false, none⟩], mseqTx := (pt.mseqTx + 1) % 256 }
  rw [heq]
  refine ⟨?_, ?_, fun r h1 h2 => ?_, ?_⟩
  · exact (hqm.others p (Ne.symm hq)).trans hport.own
  · refine hqm.own.trans ?_
    rw [hport.others q hq]
  · exact (hqm.others r h2).trans (hport.others r h1)
  · exact hport.rest_trans hqm

/-- A fragment for this module is taken; the last one of a command lets it wait to begin. -/
theorem execMsg_here (hp : p < 12) {meaning : LinkMsg} (ho : h.rxOpen p = true) (hr : h.rxSet p blks = (.control v, g))
    (ht : ctlType v = 3) (hm : PortIs p (g.port p) g (g.takeSymbols p v)) (hs : fld v 15 8 = (g.port p).mseqRx)
    (hd : (msgBody v).dst = h.devIndex) : ∃ t, PortIs p (g.port p).msgTaken g t ∧
      execMsg h p blks meaning = if (msgBody v).last then t.applyMsg p meaning else t := by
  obtain ⟨m, hport, htake⟩ := takeMsg_eq ho hr ht hm hs
  refine ⟨m, hport, ?_⟩
  unfold execMsg
  rw [if_neg (by omega), htake, if_neg (not_not_intro hd)]

end

/-! ## O53 -/

theorem PortIs.withHost {p : Nat} {x : EavePort} {h g : Hw} (a : PortIs p x h g) (y : HostSt) :
    ({ g with host := y } : Hw) = { h with ports := g.ports, host := y } := by
  rw [a.rest]

/-- A block set that changes its port alone. -/
theorem does_portIs {i : Instr} {s : State} {g : Hw} {p : Nat} {x : EavePort} (w : i.wellFormed = true) (a : PortIs p x g (effect i s.hw)) :
    Does i s fun t => t.port p = x ∧ (∀ q, q ≠ p → t.port q = g.port q) ∧ t = { g with ports := t.ports } :=
  does_of w ⟨a.own, a.others, a.rest⟩

/-- Settles O53. Each block set is taken through its symbols, which a payload without any leaves at the port as it was, and then through what
its type does. -/
theorem eaveBlockSets : Obligations.EaveBlockSets := by
  intro s p blks v g hlen ho
  have hopen := ho
  simp only [Hw.rxOpen, Bool.and_eq_true, decide_eq_true_eq] at hopen
  obtain ⟨⟨⟨hp, -⟩, -⟩, hruns⟩ := hopen
  have hps : s.hw.pstate < 3 := by
    simp only [Hw.portRuns, Bool.or_eq_true, Bool.and_eq_true, beq_iff_eq, decide_eq_true_eq] at hruns
    omega
  have hw : (decide (p < 12) && decide (blks.length = 19)) = true := by rw [decide_eq_true hp, decide_eq_true hlen]; rfl
  refine ⟨fun hr => ?_, fun hr hi hs => ?_⟩
  · have heff : effect (.dataBlockSet p blks) s.hw = (g.takeSymbols p v).takeGroups p v := dataBlockSet_data ho hr
    have hsame := same_rxSet s.hw p blks
    rw [hr] at hsame
    refine ⟨fun hs => ⟨fun hi => ?_, fun k hk h1 hn hl => ?_, fun hk h1 hre hmem => ?_⟩, fun hlt hne hi => ?_⟩
    · exact does_portIs hw (heff ▸ dataSet_idle hs hi)
    · exact does_of hw (heff ▸ dataSet_symbol hs hk h1 hn hl)
    · refine does_of hw ?_
      obtain ⟨h1, h2⟩ := dataSet_realign hs hk h1 hre hmem
      have hh : ((g.takeSymbols p v).takeGroups p v).seq.clk = _ := h2
      rw [heff, hh]
      exact ⟨h1, alignedClock_spec ..⟩
    · exact does_of hw (heff ▸ dataSet_gap (hsame.1 ▸ hps) hlt hne hi)
  · have hm := takeSymbols_idle hs hi
    refine ⟨fun ht => ?_, fun ht => ?_, fun ht hl => ?_, fun ht hsent => ?_, fun ht hop hlt => ?_, fun ht hop hlt => ?_,
      fun ht hop => ?_, fun meaning hok ht hseq => ⟨fun q hd hq hmem hb => ?_, fun hd => ?_⟩⟩
    · exact does_portIs hw (show PortIs p (id (g.port p)) g (execDataBlockSet s.hw p blks) from dataBlockSet_idle ho hr ht ▸ hm)
    · refine does_of hw ?_
      rw [show effect (.linkId p blks) s.hw = _ from execLinkId_takes ho hr ht]
      exact linkIdTaken_fields hm
    · refine does_of hw ?_
      have hseq : (g.takeSymbols p v).seq = g.seq := by rw [hm.rest]
      rw [show effect (.capture p blks) s.hw = _ from execCapture_takes ho hr ht hseq hl]
      exact capTaken_fields hm _
    · exact does_portIs hw (execAck_takes ho hr ht hm hsent)
    · refine does_of hw ?_
      rw [show effect (.spareReq p blks) s.hw = _ from execSpareReq_takes ho hr ht hop hlt]
      exact spareReq_fields hm _
    · exact does_portIs hw (execSpareDone_takes ho hr ht hop hlt hm)
    · exact does_portIs hw (execLaneQuiet_takes ho hr ht hop hm)
    · exact does_of (i := .msg p blks meaning) (by simp [Instr.wellFormed, hp, hlen, hok])
        (execMsg_onward hp ho hr ht hm hseq hd hq hmem hb)
    · obtain ⟨t, hport, heq⟩ := execMsg_here (meaning := meaning) hp ho hr ht hm hseq hd
      have hwm : (Instr.msg p blks meaning).wellFormed = true := by simp [Instr.wellFormed, hp, hlen, hok]
      refine ⟨fun hlast => ?_, fun o sl code conf args input hmeans hlast => ?_⟩
      · rw [hlast, if_neg Bool.false_ne_true] at heq
        exact does_portIs hwm (show PortIs p _ g (execMsg s.hw p blks meaning) from heq ▸ hport)
      · rw [hlast, if_pos rfl, hmeans] at heq
        subst hmeans
        refine does_of hwm ?_
        rw [show effect (.msg p blks (.command o sl code conf args input)) s.hw = _ from heq]
        have hhost : t.host = g.host := by rw [hport.rest]
        refine ⟨?_, hport.own, hport.others, ?_⟩
        · rw [← hhost]
          rfl
        · unfold Hw.applyMsg
          dsimp only
          rw [hhost]
          exact hport.withHost _

end Sys2Proof.Machine
end

section
-- As the tests above: declarations in order, so that checking the one text stays within its memory.
set_option Elab.async false
/-!
PROOFS. The transport of commands (R438, R441 to R443): the slot that the MP takes, the way to another module, and how a command is
forwarded, held or ended (O58).
-/

namespace Sys2Proof.Machine

/-! ## A slot's state -/

/-- From h to g slot k has taken state v, and slots alone have changed. -/
structure SlotSet (k v : Nat) (h g : Hw) : Prop where
  state : g.slotState k = v
  bytes : ∀ j o, 256 * j + o ≠ 256 * k + 9 → g.slotByte j o = h.slotByte j o
  rest : g = { h with host := { h.host with slots := g.host.slots } }

theorem slotSet_setSlotState (h : Hw) (k : Nat) {v : Nat} (hv : v < 256) : SlotSet k v h (h.setSlotState k v) := by
  refine ⟨?_, fun j o hne => ?_, rfl⟩
  · unfold Hw.slotState Hw.setSlotState
    rw [slotByte_setSlotBytes, if_pos (by simp), Nat.sub_self]
    exact (BitVec.toNat_ofNat ..).trans (Nat.mod_eq_of_lt hv)
  · unfold Hw.setSlotState
    rw [slotByte_setSlotBytes, if_neg]
    rw [List.length_singleton]
    omega

theorem SlotSet.others {k v : Nat} {h g : Hw} (s : SlotSet k v h g) : ∀ j o, j ≠ k → o < 256 → g.slotByte j o = h.slotByte j o :=
  fun j o hj ho => s.bytes j o (by omega)

/-- A field beside the state is as it was. -/
theorem SlotSet.field {k v : Nat} {h g : Hw} (s : SlotSet k v h g) {o n : Nat} (hb : o + n ≤ 9 ∨ 10 ≤ o) :
    g.slotField k o n = h.slotField k o n := slotField_congr fun i hi => s.bytes k (o + i) (by omega)

theorem SlotSet.args {k v : Nat} {h g : Hw} (s : SlotSet k v h g) : g.slotArgs k = h.slotArgs k := by
  unfold Hw.slotArgs
  rw [s.field (.inl (by decide))]
  exact List.map_congr_left fun i _ => s.bytes k (0x20 + i) (by omega)

theorem SlotSet.header {k v : Nat} {h g : Hw} (s : SlotSet k v h g) : g.headerOk k = h.headerOk k := by
  unfold Hw.headerOk
  rw [s.field (.inl (by decide)), s.field (.inr (by decide)), s.field (.inr (by decide)), s.field (.inl (by decide)),
    s.field (.inl (by decide)), s.field (.inl (by decide)), s.field (.inr (by decide))]

/-- A completion after the slot's state has changed is one of the slot as it was. -/
theorem SlotSet.done {k v status : Nat} {h m : Hw} (s : SlotSet k v h m) (hs : status < 256) :
    SlotDone h (m.completeSlot k status []) k status [] ∧
      (∀ j o, j ≠ k → o < 256 → (m.completeSlot k status []).slotByte j o = h.slotByte j o) ∧
      (m.completeSlot k status []).host.waits = h.host.waits := by
  obtain ⟨h1, h2, h3, h4, h5⟩ := completeSlot_done m k status [] hs (by decide)
  refine ⟨⟨h1, h2, h3, h4, h5.trans (by rw [s.field (.inr (by decide))])⟩, fun j o hj ho => ?_, ?_⟩
  · rw [completeSlot_slotByte_ne m k status [] hj ho, s.others j o hj ho]
  · rw [completeSlot_only, s.rest]

/-- The same without a change of state before. -/
theorem slotSet_self (h : Hw) (k : Nat) : SlotSet k (h.slotState k) h h := ⟨rfl, fun _ _ _ => rfl, rfl⟩

theorem completeSlot_ring (h : Hw) (k status : Nat) : (h.completeSlot k status []).host.ring = h.host.ring := by
  rw [completeSlot_only]

/-! ## The way to another module (R442, R443, R252) -/

/-- Ports whose transmit directions are not in L-OFF are woken at once. -/
theorem wakePorts_awake (ps : List Nat) (h : Hw) (hs : ∀ p ∈ ps, (h.port p).txSleep ≠ 2) :
    h.wakePorts ps = { h with ports := (h.wakePorts ps).ports } ∧ (∀ q, q ∉ ps → (h.wakePorts ps).port q = h.port q) ∧
      ∀ q, ((h.wakePorts ps).port q).state = (h.port q).state := by
  induction ps generalizing h with
  | nil => exact ⟨rfl, fun _ _ => rfl, fun _ => rfl⟩
  | cons p ps ih =>
    have hcons : h.wakePorts (p :: ps) = (h.updPort p EavePort.wakeTx).wakePorts ps := by
      unfold Hw.wakePorts
      rw [List.foldl_cons, if_neg (hs p List.mem_cons_self)]
    rw [hcons]
    have h1 := portIs_updPort h p EavePort.wakeTx
    generalize h.updPort p EavePort.wakeTx = m at h1
    have hport : ∀ q, m.port q = if q = p then (h.port p).wakeTx else h.port q := fun q => by
      split
      next e => rw [e, h1.own]
      next e => exact h1.others q e
    obtain ⟨h2, h3, h4⟩ := ih m fun q hq => by
      rw [hport]
      split
      · exact (by decide : (0 : Nat) ≠ 2)
      · exact hs q (List.mem_cons_of_mem _ hq)
    generalize m.wakePorts ps = g at h2 h3 h4
    refine ⟨by rw [h2, h1.rest], fun q hq => ?_, fun q => ?_⟩
    · rw [List.mem_cons, not_or] at hq
      rw [h3 q hq.2, hport, if_neg hq.1]
    · rw [h4, hport]
      split
      next e => rw [e]; rfl
      next => rfl

/-- What the way to a module depends on: the links and their states, discovery and the configuration. -/
structure SameWay (h g : Hw) : Prop where
  regs : ∀ a, g.reg a = h.reg a
  state : ∀ q, (g.port q).state = (h.port q).state
  index : g.devIndex = h.devIndex
  conf : g.conf = h.conf
  topo : g.host.topo = h.host.topo
  link : g.host.linkUp = h.host.linkUp

theorem SameWay.trans {h g k : Hw} (a : SameWay h g) (b : SameWay g k) : SameWay h k :=
  ⟨fun x => (b.regs x).trans (a.regs x), fun q => (b.state q).trans (a.state q), b.index.trans a.index, b.conf.trans a.conf,
    b.topo.trans a.topo, b.link.trans a.link⟩

section
variable {h g : Hw} (w : SameWay h g)
include w

theorem SameWay.ports : g.allPorts = h.allPorts := by
  unfold Hw.allPorts Hw.ownPorts
  rw [w.topo]
  congr 1
  refine List.filterMap_congr fun p _ => ?_
  rw [bget_congr (w.regs _)]
  unfold Hw.eget
  rw [fget_congr (w.regs _), fget_congr (w.regs _), w.index, w.state]

theorem SameWay.paths : g.paths = h.paths := by
  unfold Hw.paths
  rw [w.ports, w.index]

theorem SameWay.head : g.isHead = h.isHead ∧ g.isMember = h.isMember := by
  unfold Hw.isHead Hw.isMember
  rw [w.conf, w.index]
  exact ⟨rfl, rfl⟩

theorem SameWay.active (d : Nat) : g.pathActive d = h.pathActive d := by
  unfold Hw.pathActive Hw.linkActive
  rw [w.conf, w.head.1, w.paths, w.ports]

theorem SameWay.msgPorts (d : Nat) : g.msgPorts d = h.msgPorts d := by
  unfold Hw.msgPorts
  rw [w.conf, w.head.2, w.paths]

theorem SameWay.known : g.known = h.known := by
  unfold Hw.known Hw.heads Hw.found
  rw [w.conf, w.head.1, w.ports, w.index]

theorem SameWay.settled : g.settled = h.settled := bget_congr (w.regs _) 0

theorem SameWay.forwards : g.forwards = h.forwards := by
  unfold Hw.forwards
  rw [w.link, w.head.2]

end

theorem SlotSet.way {k v : Nat} {h g : Hw} (s : SlotSet k v h g) : SameWay h g := by
  rw [s.rest]
  exact ⟨fun _ => rfl, fun _ => rfl, rfl, rfl, rfl, rfl⟩

/-- The ports on the way to module d are woken. -/
theorem wakePath_fields (h : Hw) (d : Nat) (hs : ∀ p ∈ h.msgPorts d, (h.port p).txSleep ≠ 2) :
    h.wakePath d = { h with ports := (h.wakePath d).ports } ∧ (∀ q, q ∉ h.msgPorts d → (h.wakePath d).port q = h.port q) ∧
      SameWay h (h.wakePath d) := by
  obtain ⟨h1, h2, h3⟩ := wakePorts_awake ((h.msgPorts d).filter fun p => (h.port p).txSleep != 0) h fun p hp =>
    hs p (List.mem_filter.1 hp).1
  refine ⟨h1, fun q hq => h2 q fun hm => hq (List.mem_filter.1 hm).1, ?_⟩
  unfold Hw.wakePath
  generalize h.wakePorts ((h.msgPorts d).filter fun p => (h.port p).txSleep != 0) = g at h1 h3
  exact ⟨fun _ => by rw [h1]; rfl, h3, by rw [h1], by rw [h1], by rw [h1], by rw [h1]⟩

/-! ## Forwarding (R441, R443, R453, R455) -/

theorem out_sendMsg_code (h : Hw) (dst : Nat) (m : LinkMsg) (code : Nat) : (h.sendMsg dst m code).out = h.out ++ [.message dst m] := by
  unfold Hw.sendMsg
  refine List.foldlRecOn (motive := fun g : Hw => g.out = h.out ++ [.message dst m]) _ _ ?_ fun g hg p _ => ?_
  · rfl
  · exact (out_sendOn g p dst code m).trans hg

/-- Whether a command without descriptors passes the tests of the module that has the slot. -/
def Fits (sp : CmdSpec) (code : Nat) (a : List Byte) : Prop :=
  sp.args a = true ∧ (code = 0x0202 ∨ (sp.inLen a = 0 ∧ sp.outLen a = 0))

/-- The state of a slot whose command has been forwarded, before the message. -/
def Hw.forwarding (h : Hw) (k : Nat) : Hw :=
  { h.setSlotState k 4 with host := { (h.setSlotState k 4).host with
      waits := (h.setSlotState k 4).host.waits ++ [⟨.slot k, forwardedCode + h.slotField k 0 2, [], [], [h.slotField k 4 1], 1, none⟩] } }

section
variable {h : Hw} {k : Nat} {io : HostIo} {sp : CmdSpec} (hsp : specOf (h.slotField k 0 2) = some sp) (hd : h.slotField k 0x18 2 = 0)
include hsp hd

theorem forward_fits (hf : Fits sp (h.slotField k 0 2) (h.slotArgs k)) : h.forward k io =
    (h.forwarding k).sendMsg (h.slotField k 4 1) (.command h.devIndex k (h.slotField k 0 2) false (h.slotArgs k) []) (h.slotField k 0 2) := by
  have hstream : (if h.slotField k 0 2 = 0x0202 then h.blockStream k io
      else h.streams k io (sp.inLen (h.slotArgs k)) (sp.outLen (h.slotArgs k))) = some (.ok ([], [])) := by
    split
    · unfold Hw.blockStream
      exact if_pos hd
    next hne =>
      obtain ⟨hi, hout⟩ := hf.2.resolve_left hne
      rw [hi, hout]
      exact streams_none hd io
  unfold Hw.forward
  dsimp only
  rw [hsp]
  dsimp only
  rw [hf.1, if_neg (show ¬((!true) = true) by decide), hstream]
  rfl

theorem forward_misfits (hf : ¬Fits sp (h.slotField k 0 2) (h.slotArgs k)) : h.forward k io = h.completeSlot k stBadArgument [] := by
  unfold Hw.forward
  dsimp only
  rw [hsp]
  dsimp only
  cases ha : sp.args (h.slotArgs k) with
  | false => exact if_pos rfl
  | true =>
    have hno : ¬(h.slotField k 0 2 = 0x0202 ∨ (sp.inLen (h.slotArgs k) = 0 ∧ sp.outLen (h.slotArgs k) = 0)) := fun hc => hf ⟨ha, hc⟩
    rw [not_or] at hno
    have hstream : h.streams k io (sp.inLen (h.slotArgs k)) (sp.outLen (h.slotArgs k)) = some (.error stBadArgument) := by
      unfold Hw.streams
      rw [if_pos hd, if_neg]
      simp only [Bool.and_eq_true, decide_eq_true_eq]
      exact hno.2
    rw [if_neg (show ¬((!true) = true) by decide), if_neg hno.1, hstream]

end

/-- What forwarding leaves: the slot waits, and the command is sent. -/
theorem forwarded_fields (h : Hw) (k dst : Nat) (m : LinkMsg) (code : Nat) :
    let g := (h.forwarding k).sendMsg dst m code
    g.slotState k = 4 ∧ (∀ j o, j ≠ k → o < 256 → g.slotByte j o = h.slotByte j o) ∧ g.out = h.out ++ [.message dst m] ∧
      g.host.waits = h.host.waits ++ [⟨.slot k, forwardedCode + h.slotField k 0 2, [], [], [h.slotField k 4 1], 1, none⟩] ∧
      g.host.ring = h.host.ring := by
  intro g
  have hset := slotSet_setSlotState h k (v := 4) (by decide)
  have hhost : g.host = (h.forwarding k).host := (congrArg Hw.host (told_sendMsg (h.forwarding k) dst m code).1 :)
  have hslots : g.host.slots = (h.setSlotState k 4).host.slots := by rw [hhost]; rfl
  refine ⟨?_, fun j o hj ho => ?_, out_sendMsg_code .., ?_, ?_⟩
  · exact (congrArg BitVec.toNat (slotByte_congr hslots k 9)).trans hset.state
  · exact (slotByte_congr hslots j o).trans (hset.others j o hj ho)
  · rw [hhost]
    rfl
  · rw [hhost]
    rfl

end Sys2Proof.Machine
end

section
-- As the tests above: declarations in order, so that checking the one text stays within its memory.
set_option Elab.async false
/-!
PROOFS. The slot that the MP takes, held commands, and their timeouts; O58.
-/

namespace Sys2Proof.Machine

/-! ## MBX_TAKE (R438) -/

/-- The rings that remain once the first slot has been taken. -/
def Hw.ringed (h : Hw) (rest : List Nat) : Hw := { h with host := { h.host with ring := rest } }

theorem way_ringed (h : Hw) (rest : List Nat) : SameWay h (h.ringed rest) := ⟨fun _ => rfl, fun _ => rfl, rfl, rfl, rfl, rfl⟩

theorem mbxTake_eq {h : Hw} {k : Nat} {rest : List Nat} (io : HostIo) (hr : h.host.ring = k :: rest) (hready : h.host.ready = true)
    (hsw : h.host.fwSwitch = false) (hp : h.pstate < 3) : execMbxTake h io =
      let m := (h.ringed rest).setSlotState k 2
      if (specOf (m.slotField k 0 2)).isNone then m.completeSlot k stBadCommand []
      else if !m.headerOk k then m.completeSlot k stBadArgument []
      else m.route k io := by
  unfold execMbxTake
  rw [hr]
  dsimp only
  rw [if_neg (by rw [hready, hsw, decide_eq_false (by omega)]; decide)]
  rfl

section
variable {m : Hw} {k : Nat} {io : HostIo}

theorem route_own (ht : m.slotField k 4 1 = m.devIndex) (hm : m.isMember = false) : m.route k io = m.setSlotState k 2 := by
  unfold Hw.route
  dsimp only
  rw [if_pos ht, hm, Bool.false_and, if_neg Bool.false_ne_true]

theorem route_down (ht : m.slotField k 4 1 ≠ m.devIndex) (hf : m.forwards = false) :
    m.route k io = m.completeSlot k stDeviceAbsent [] := by
  unfold Hw.route
  dsimp only
  rw [if_neg ht, hf, if_pos (show (!false) = true by decide)]

theorem route_unknown (ht : m.slotField k 4 1 ≠ m.devIndex) (hf : m.forwards = true) (hk : m.known.contains (m.slotField k 4 1) = false) :
    m.route k io = if m.settled then m.completeSlot k stDeviceAbsent [] else m.setSlotState k 3 := by
  unfold Hw.route
  dsimp only
  rw [if_neg ht, hf, if_neg (show ¬((!true) = true) by decide), hk, if_neg Bool.false_ne_true]

theorem route_known (ht : m.slotField k 4 1 ≠ m.devIndex) (hf : m.forwards = true) (hk : m.known.contains (m.slotField k 4 1) = true) :
    m.route k io = if (m.wakePath (m.slotField k 4 1)).pathActive (m.slotField k 4 1)
      then (m.wakePath (m.slotField k 4 1)).forward k io else (m.wakePath (m.slotField k 4 1)).setSlotState k 3 := by
  unfold Hw.route
  dsimp only
  rw [if_neg ht, hf, if_neg (show ¬((!true) = true) by decide), hk, if_pos rfl]

end

/-- From h to g slot k has been taken, with the rings that remain: it stands in a state, and ports alone have changed besides. -/
structure Stays (k v : Nat) (rest : List Nat) (ps : List Nat) (h g : Hw) : Prop where
  ring : g.host.ring = rest
  state : g.slotState k = v
  others : ∀ j o, j ≠ k → o < 256 → g.slotByte j o = h.slotByte j o
  rest : g = { h with host := { h.host with slots := g.host.slots, ring := rest }, ports := g.ports }
  port : ∀ p, p ∉ ps → g.port p = h.port p

/-- A slot that has been taken takes another state, after ports have changed. -/
theorem stays_of {k v v' : Nat} {rest ps : List Nat} {h m w g : Hw} (a : SlotSet k v (h.ringed rest) m)
    (hw : w = { m with ports := w.ports }) (hports : ∀ q, q ∉ ps → w.port q = m.port q) (b : SlotSet k v' w g) : Stays k v' rest ps h g := by
  have hwb : ∀ j o, w.slotByte j o = m.slotByte j o := fun j o => slotByte_congr (by rw [hw]) j o
  have hhost : g.host = { w.host with slots := g.host.slots } := by
    rw [b.rest]
  have hwh : w.host = m.host := by rw [hw]
  have hmh : m.host = { (h.ringed rest).host with slots := m.host.slots } := by rw [a.rest]
  refine ⟨?_, b.state, fun j o hj ho => ?_, ?_, fun p hp => ?_⟩
  · rw [hhost, hwh, hmh]
    rfl
  · rw [b.others j o hj ho, hwb, a.others j o hj ho]
    rfl
  · rw [b.rest, hw, a.rest]
    rfl
  · have h1 : g.port p = w.port p := by rw [b.rest]; rfl
    have h2 : m.port p = h.port p := by rw [a.rest]; rfl
    rw [h1, hports p hp, h2]

/-! ## Held commands (R443, R459) -/

/-- A held command of a slot, whose target has become known and whose way is ACTIVE. -/
theorem heldForward_eq {h : Hw} {k : Nat} {io : HostIo} (hk : k < 8) (hs : h.slotState k = 3) (ht : h.slotField k 4 1 ≠ h.devIndex)
    (hknown : h.known.contains (h.slotField k 4 1) = true)
    (ha : (h.wakePath (h.slotField k 4 1)).pathActive (h.slotField k 4 1) = true) :
    execHeldForward h k io = (h.wakePath (h.slotField k 4 1)).forward k io := by
  unfold execHeldForward
  dsimp only
  rw [if_pos (by rw [decide_eq_true hk, hs, bne_iff_ne.2 ht, hknown]; rfl), if_pos ha]

theorem heldCommandTimeout_slot {h : Hw} {k : Nat} (hk : k < 8) (hs : h.slotState k = 3) :
    execHeldCommandTimeout h k = h.endCmd (.slot k) [] stDeviceAbsent [] [] := by
  unfold execHeldCommandTimeout
  rw [if_pos hk, hs, if_pos (by decide)]
  rfl

/-- A command that came over a link waits no longer. -/
def Hw.unforwarded (h : Hw) (c : FwdCmd) : Hw :=
  { h.dropWaits (.link c.origin c.slot) with host := { (h.dropWaits (.link c.origin c.slot)).host with
    fwd := (h.dropWaits (.link c.origin c.slot)).host.fwd.filter fun x => !(x.origin == c.origin && x.slot == c.slot) } }

/-- A CONFIG_FORM that came over a link is answered. -/
theorem heldCommandTimeout_form {h : Hw} {n : Nat} {c : FwdCmd} (hn : 8 ≤ n) (hc : h.heldForm n = some c) :
    let g := execHeldCommandTimeout h n
    g.out = h.out ++ [.message c.origin (.reply c.slot h.devIndex stDeviceAbsent [] [])] ∧
      (∀ x ∈ g.host.fwd, ¬(x.origin = c.origin ∧ x.slot = c.slot)) ∧ g.regs = h.regs ∧ g.host.slots = h.host.slots := by
  intro g
  obtain ⟨code, hg⟩ : ∃ code, g = (h.unforwarded c).sendMsg c.origin (.reply c.slot (h.unforwarded c).devIndex stDeviceAbsent [] []) code := by
    show ∃ code, execHeldCommandTimeout h n = _
    unfold execHeldCommandTimeout
    rw [if_neg (by omega), hc]
    exact ⟨_, rfl⟩
  obtain ⟨h1, h2, h3, h4, hfwd⟩ : (h.unforwarded c).out = h.out ∧ (h.unforwarded c).regs = h.regs ∧
      (h.unforwarded c).host.slots = h.host.slots ∧ (h.unforwarded c).devIndex = h.devIndex ∧
      (h.unforwarded c).host.fwd = h.host.fwd.filter (fun x => !(x.origin == c.origin && x.slot == c.slot)) := ⟨rfl, rfl, rfl, rfl, rfl⟩
  generalize h.unforwarded c = m at h1 h2 h3 h4 hfwd hg
  have ht := told_sendMsg m c.origin (.reply c.slot m.devIndex stDeviceAbsent [] []) code
  have hout := out_sendMsg_code m c.origin (.reply c.slot m.devIndex stDeviceAbsent [] []) code
  rw [← hg] at ht hout
  have hhost : g.host = m.host := (congrArg Hw.host ht.1 :)
  have hregs : g.regs = m.regs := (congrArg Hw.regs ht.1 :)
  refine ⟨by rw [hout, h1, h4], fun x hx => ?_, hregs.trans h2, by rw [hhost, h3]⟩
  rw [hhost, hfwd, List.mem_filter] at hx
  obtain ⟨-, hx⟩ := hx
  rintro ⟨e1, e2⟩
  rw [e1, e2, beq_self_eq_true, beq_self_eq_true] at hx
  exact absurd hx (by decide)

theorem descBmeTimeout_eq {h : Hw} {k : Nat} (hr : h.readsList k = true) (hb : h.bme = false) :
    execDescBmeTimeout h k = h.endCmd (.slot k) [] stTimeout [] [] := by
  unfold execDescBmeTimeout Hw.dmaOn
  rw [hr, hb, if_pos (by simp)]
  rfl

theorem hostReadTimeout_eq {h : Hw} {k : Nat} (hr : h.readsList k = true) : execHostReadTimeout h k =
    if h.outputWaits k then h else h.endCmd (.slot k) [] stTimeout [] [] := by
  unfold execHostReadTimeout
  rw [hr]
  cases h.outputWaits k <;> rfl

/-! ## DISCOVERY_SETTLED (R442) -/

/-- A slot holds a command for a module that is not known. -/
def Hw.unknownHeld (h : Hw) (k : Nat) : Prop :=
  h.slotState k = 3 ∧ h.slotField k 4 1 ≠ h.devIndex ∧ h.known.contains (h.slotField k 4 1) = false

/-- What the end of slots leaves: each of those in ks that was held for an unknown module is DONE, the others are as they were. -/
structure UnknownEnded (ks : List Nat) (h g : Hw) : Prop where
  way : SameWay h g
  ended : ∀ k ∈ ks, h.unknownHeld k → SlotDone h g k stDeviceAbsent []
  kept : ∀ k o, o < 256 → k ∉ ks ∨ ¬h.unknownHeld k → g.slotByte k o = h.slotByte k o

theorem completeSlot_way (h : Hw) (k status : Nat) (reply : List Byte) : SameWay h (h.completeSlot k status reply) := by
  rw [completeSlot_only]
  exact ⟨fun _ => rfl, fun _ => rfl, rfl, rfl, rfl, rfl⟩

theorem unknownHeld_congr {h g : Hw} (w : SameWay h g) {k : Nat} (e : ∀ o, o < 256 → g.slotByte k o = h.slotByte k o) :
    g.unknownHeld k ↔ h.unknownHeld k := by
  have hf : g.slotField k 4 1 = h.slotField k 4 1 := slotField_congr fun i hi => e _ (by omega)
  unfold Hw.unknownHeld
  rw [slotState_of_bytes e, hf, w.known, w.index]

theorem slotDone_congr {h m g : Hw} {k status : Nat} {reply : List Byte} (e : ∀ o, o < 256 → m.slotByte k o = h.slotByte k o)
    (d : SlotDone m g k status reply) : SlotDone h g k status reply := by
  obtain ⟨h1, h2, h3, h4, h5⟩ := d
  exact ⟨h1, h2, h3, h4, h5.trans (by rw [slotField_congr fun i hi => e _ (by omega)])⟩

theorem SlotDone.of_same {h m g : Hw} {k status : Nat} {reply : List Byte} (d : SlotDone h m k status reply)
    (e : ∀ o, o < 256 → g.slotByte k o = m.slotByte k o) : SlotDone h g k status reply := by
  obtain ⟨h1, h2, h3, h4, h5⟩ := d
  exact ⟨(slotState_of_bytes e).trans h1, by rw [e _ (by decide), h2], by rw [e _ (by decide), h3],
    fun i hi => (e _ (by omega)).trans (h4 i hi), (slotField_congr fun i hi => e _ (by omega)).trans h5⟩

/-- One step of the end of held commands. -/
def Hw.endHeld (h : Hw) (k : Nat) : Hw :=
  if h.slotState k == 3 && h.slotField k 4 1 != h.devIndex && !h.known.contains (h.slotField k 4 1)
  then h.completeSlot k stDeviceAbsent [] else h

theorem endHeld_cases (h : Hw) (k : Nat) : (h.unknownHeld k ∧ h.endHeld k = h.completeSlot k stDeviceAbsent []) ∨
    (¬h.unknownHeld k ∧ h.endHeld k = h) := by
  have hc : (h.slotState k == 3 && h.slotField k 4 1 != h.devIndex && !h.known.contains (h.slotField k 4 1)) = true ↔ h.unknownHeld k := by
    simp only [Hw.unknownHeld, Bool.and_eq_true, beq_iff_eq, bne_iff_ne, Bool.not_eq_true', and_assoc]
  unfold Hw.endHeld
  by_cases hu : h.unknownHeld k
  · exact .inl ⟨hu, if_pos (hc.2 hu)⟩
  · exact .inr ⟨hu, if_neg (mt hc.1 hu)⟩

theorem unknownEnded_foldl (ks : List Nat) (hn : ks.Nodup) (h : Hw) : UnknownEnded ks h (ks.foldl Hw.endHeld h) := by
  induction ks generalizing h with
  | nil => exact ⟨⟨fun _ => rfl, fun _ => rfl, rfl, rfl, rfl, rfl⟩, fun _ hk => absurd hk List.not_mem_nil, fun _ _ _ _ => rfl⟩
  | cons k ks ih =>
    rw [List.nodup_cons] at hn
    obtain ⟨hk, hn⟩ := hn
    rw [List.foldl_cons]
    rcases endHeld_cases h k with ⟨hu, e⟩ | ⟨hu, e⟩
    · rw [e]
      have hw := completeSlot_way h k stDeviceAbsent []
      have hb : ∀ j o, j ≠ k → o < 256 → (h.completeSlot k stDeviceAbsent []).slotByte j o = h.slotByte j o := fun j o hj ho =>
        completeSlot_slotByte_ne h k stDeviceAbsent [] hj ho
      have hd := completeSlot_done h k stDeviceAbsent [] (by decide) (by decide)
      generalize h.completeSlot k stDeviceAbsent [] = m at hw hb hd
      obtain ⟨w, he, hkept⟩ := ih hn m
      refine ⟨hw.trans w, fun j hj hju => ?_, fun j o ho hj => ?_⟩
      · by_cases hjk : j = k
        · subst hjk
          exact hd.of_same fun o ho => hkept j o ho (.inl hk)
        · exact slotDone_congr (fun o ho => hb j o hjk ho)
            (he j ((List.mem_cons.1 hj).resolve_left hjk) ((unknownHeld_congr hw fun o ho => hb j o hjk ho).2 hju))
      · have hjk : j ≠ k := by
          rintro rfl
          exact hj.elim (fun hm => hm List.mem_cons_self) fun hm => hm hu
        rw [hkept j o ho (hj.imp (fun hm => fun hm' => hm (List.mem_cons_of_mem _ hm'))
          (mt (unknownHeld_congr hw fun o ho => hb j o hjk ho).1)), hb j o hjk ho]
    · rw [e]
      obtain ⟨w, he, hkept⟩ := ih hn h
      refine ⟨w, fun j hj hju => ?_, fun j o ho hj => hkept j o ho (hj.imp (fun hm hm' => hm (List.mem_cons_of_mem _ hm')) id)⟩
      rcases List.mem_cons.1 hj with rfl | hj
      · exact absurd hju hu
      · exact he j hj hju

/-- DISCOVERY_SETTLED once every port has started and none trains. -/
theorem discoverySettled_eq {h : Hw} (hr : h.host.ready = true) (hp : ∀ p, p < 12 → (h.port p).started = true ∧ (h.port p).state ≠ .train ∧
    (h.port p).state ≠ .align ∧ (h.port p).state ≠ .calibrate) (ht : ∀ x ∈ h.host.topo, x.training = true → h.known.contains x.device = false) :
    execDiscoverySettled h = (List.range 8).foldl Hw.endHeld (h.fset (hostifA 0x80) 0 0 1) := by
  have hports : ((List.range 12).all fun p => (h.port p).started &&
      !((h.port p).state == .train || (h.port p).state == .align || (h.port p).state == .calibrate)) = true :=
    List.all_eq_true.2 fun p hm => by
      obtain ⟨h1, h2, h3, h4⟩ := hp p (List.mem_range.1 hm)
      rw [h1, beq_eq_false_iff_ne.2 h2, beq_eq_false_iff_ne.2 h3, beq_eq_false_iff_ne.2 h4]
      rfl
  have htopo : (h.host.topo.any fun t => t.training && h.known.contains t.device) = false :=
    List.any_eq_false.2 fun x hx hc => by
      rw [Bool.and_eq_true] at hc
      rw [ht x hx hc.1] at hc
      exact absurd hc.2 (by decide)
  unfold execDiscoverySettled
  dsimp only
  rw [hr, hports, htopo, if_pos (by decide)]
  rfl

theorem way_settling (h : Hw) : (∀ j o, (h.fset (hostifA 0x80) 0 0 1).slotByte j o = h.slotByte j o) ∧
    (h.fset (hostifA 0x80) 0 0 1).known = h.known ∧ (h.fset (hostifA 0x80) 0 0 1).devIndex = h.devIndex ∧
    (h.fset (hostifA 0x80) 0 0 1).settled = true := by
  have hreg : ∀ p, (h.fset (hostifA 0x80) 0 0 1).reg (eaveA p 4) = h.reg (eaveA p 4) := fun p =>
    (reg_fset h (hostifA 0x80) 0 0 1 (eaveA p 4)).trans (if_neg (by unfold eaveA hostifA; omega))
  have hset : (h.fset (hostifA 0x80) 0 0 1).settled = true := (bget_fset h (hostifA 0x80) (hostifA 0x80) 0 0 0 1 (by decide)).trans rfl
  have hrest : (h.fset (hostifA 0x80) 0 0 1) = { h with regs := (h.fset (hostifA 0x80) 0 0 1).regs } := rfl
  generalize h.fset (hostifA 0x80) 0 0 1 = g at hreg hset hrest ⊢
  have hall : g.allPorts = h.allPorts := by
    unfold Hw.allPorts Hw.ownPorts
    rw [show g.host = h.host by rw [hrest]]
    congr 1
    refine List.filterMap_congr fun p _ => ?_
    rw [bget_congr (hreg p)]
    unfold Hw.eget
    rw [fget_congr (hreg p), fget_congr (hreg p), show g.devIndex = h.devIndex by rw [hrest], show g.port p = h.port p by rw [hrest]; rfl]
  refine ⟨fun j o => by rw [hrest]; rfl, ?_, by rw [hrest], hset⟩
  unfold Hw.known Hw.heads Hw.found Hw.isHead
  rw [hall, show g.conf = h.conf by rw [hrest], show g.devIndex = h.devIndex by rw [hrest]]

/-! ## O58 -/

section
variable {h m : Hw} {k v : Nat} {io : HostIo}

/-- A slot whose state is v forwards its command over a way that is awake. -/
theorem forward_awake {sp : CmdSpec} (a : SlotSet k v h m) (hsp : specOf (h.slotField k 0 2) = some sp)
    (hd : h.slotField k 0x18 2 = 0) (hs : ∀ p ∈ h.msgPorts (h.slotField k 4 1), (h.port p).txSleep ≠ 2) :
    let g := (m.wakePath (h.slotField k 4 1)).forward k io
    g.host.ring = h.host.ring ∧
      (Fits sp (h.slotField k 0 2) (h.slotArgs k) → g.slotState k = 4 ∧ (∀ j o, j ≠ k → o < 256 → g.slotByte j o = h.slotByte j o) ∧
        g.out = h.out ++ [.message (h.slotField k 4 1)
          (.command h.devIndex k (h.slotField k 0 2) false (h.slotArgs k) [])] ∧
        g.host.waits = h.host.waits ++ [⟨.slot k, forwardedCode + h.slotField k 0 2, [], [], [h.slotField k 4 1], 1, none⟩]) ∧
      (¬Fits sp (h.slotField k 0 2) (h.slotArgs k) → SlotDone h g k stBadArgument [] ∧
        (∀ j o, j ≠ k → o < 256 → g.slotByte j o = h.slotByte j o) ∧ g.host.waits = h.host.waits) := by
  have hport : ∀ p, m.port p = h.port p := fun p => by
    rw [a.rest]
    rfl
  obtain ⟨w1, -, w3⟩ := wakePath_fields m (h.slotField k 4 1) fun p hp => by
    rw [hport]
    exact hs p (a.way.msgPorts _ ▸ hp)
  generalize m.wakePath (h.slotField k 4 1) = w at w1 w3
  have hset : SlotSet k v { h with ports := w.ports } w := by
    refine ⟨?_, fun j o hne => ?_, by rw [w1, a.rest]⟩
    · exact (congrArg BitVec.toNat (slotByte_congr (by rw [w1]) k 9)).trans a.state
    · exact (slotByte_congr (by rw [w1]) j o).trans (a.bytes j o hne)
  have hcode : w.slotField k 0 2 = h.slotField k 0 2 := hset.field (.inl (by decide))
  have ht : w.slotField k 4 1 = h.slotField k 4 1 := hset.field (.inl (by decide))
  have hdesc : w.slotField k 0x18 2 = 0 := (hset.field (.inr (by decide))).trans hd
  have hargs : w.slotArgs k = h.slotArgs k := hset.args
  have hhost : w.host = { h.host with slots := w.host.slots } := by
    rw [hset.rest]
  have hout : w.out = h.out := by rw [hset.rest]
  have hdev : w.devIndex = h.devIndex := by rw [hset.rest]
  by_cases hf : Fits sp (h.slotField k 0 2) (h.slotArgs k)
  · have heq := forward_fits (h := w) (io := io) (by rw [hcode]; exact hsp) hdesc (by rw [hcode, hargs]; exact hf)
    rw [hcode, ht, hargs, hdev] at heq
    obtain ⟨f1, f2, f3, f4, f5⟩ := forwarded_fields w k (h.slotField k 4 1)
      (.command h.devIndex k (h.slotField k 0 2) false (h.slotArgs k) []) (h.slotField k 0 2)
    rw [← heq] at f1 f2 f3 f4 f5
    refine ⟨by rw [f5, hhost], fun _ => ⟨f1, fun j o hj ho => (f2 j o hj ho).trans (hset.others j o hj ho), by rw [f3, hout], ?_⟩,
      fun hn => absurd hf hn⟩
    rw [f4, hcode, ht, hhost]
  · have heq := forward_misfits (h := w) (io := io) (by rw [hcode]; exact hsp) hdesc (by rw [hcode, hargs]; exact hf)
    obtain ⟨d1, d2, d3⟩ := hset.done (status := stBadArgument) (by decide)
    refine ⟨?_, fun hn => absurd hn hf, fun _ => ?_⟩
    · rw [heq, completeSlot_ring, hhost]
    · rw [heq]
      exact ⟨d1, d2, d3⟩

end

theorem ringed_slots (h : Hw) (rest : List Nat) (k : Nat) : (∀ o n, (h.ringed rest).slotField k o n = h.slotField k o n) ∧
    (h.ringed rest).slotArgs k = h.slotArgs k ∧ ∀ j o, (h.ringed rest).slotByte j o = h.slotByte j o :=
  ⟨fun _ _ => rfl, rfl, fun _ _ => rfl⟩

/-- The same of a slot that has just been taken. -/
theorem forward_ringed {h m : Hw} {k v : Nat} {rest : List Nat} {sp : CmdSpec} (io : HostIo) (a : SlotSet k v (h.ringed rest) m)
    (hsp : specOf (h.slotField k 0 2) = some sp) (hd : h.slotField k 0x18 2 = 0)
    (hs : ∀ p ∈ h.msgPorts (h.slotField k 4 1), (h.port p).txSleep ≠ 2) :
    let g := (m.wakePath (h.slotField k 4 1)).forward k io
    g.host.ring = rest ∧
      (Fits sp (h.slotField k 0 2) (h.slotArgs k) → g.slotState k = 4 ∧ (∀ j o, j ≠ k → o < 256 → g.slotByte j o = h.slotByte j o) ∧
        g.out = h.out ++ [.message (h.slotField k 4 1)
          (.command h.devIndex k (h.slotField k 0 2) false (h.slotArgs k) [])] ∧
        g.host.waits = h.host.waits ++ [⟨.slot k, forwardedCode + h.slotField k 0 2, [], [], [h.slotField k 4 1], 1, none⟩]) ∧
      (¬Fits sp (h.slotField k 0 2) (h.slotArgs k) → SlotDone h g k stBadArgument [] ∧
        (∀ j o, j ≠ k → o < 256 → g.slotByte j o = h.slotByte j o) ∧ g.host.waits = h.host.waits) := by
  intro g
  obtain ⟨e1, e2, e3⟩ := ringed_slots h rest k
  have ew := way_ringed h rest
  have ehost : (h.ringed rest).host.ring = rest ∧ (h.ringed rest).host.waits = h.host.waits ∧ (h.ringed rest).out = h.out := ⟨rfl, rfl, rfl⟩
  have eport : ∀ p, (h.ringed rest).port p = h.port p := fun _ => rfl
  generalize h.ringed rest = r at a e1 e2 e3 ew ehost eport
  have hf := forward_awake (io := io) (sp := sp) a (by rw [e1]; exact hsp) (by rw [e1]; exact hd)
    (by rw [e1, ew.msgPorts]; exact fun p hp => eport p ▸ hs p hp)
  simp only [e1, e2, e3, ew.index, ehost.1, ehost.2.1, ehost.2.2] at hf
  obtain ⟨f1, f2, f3⟩ := hf
  refine ⟨f1, f2, fun hn => ?_⟩
  obtain ⟨d1, d2, d3⟩ := f3 hn
  exact ⟨slotDone_congr (fun o _ => e3 k o) d1, d2, d3⟩

/-- What the header of the slot that was rung first leads to (R438, R442, R443). -/
theorem mbxTake_fields {h : Hw} {k : Nat} {rest : List Nat} (io : HostIo) (hr : h.host.ring = k :: rest) (hready : h.host.ready = true)
    (hsw : h.host.fwSwitch = false) (hp : h.pstate < 3) (hm : h.isMember = false) :
    let code := h.slotField k 0 2
    let t := h.slotField k 4 1
    let way := h.msgPorts t
    let ends := fun (g : Hw) (status : Nat) => g.host.ring = rest ∧ SlotDone h g k status [] ∧
      (∀ j o, j ≠ k → o < 256 → g.slotByte j o = h.slotByte j o) ∧ g.host.waits = h.host.waits
    let g := execMbxTake h io
    (specOf code = none → ends g stBadCommand) ∧
      (specOf code ≠ none → h.headerOk k = false → ends g stBadArgument) ∧
      ∀ sp, specOf code = some sp → h.headerOk k = true →
        (t = h.devIndex → Stays k 2 rest [] h g) ∧
        (h.slotField k 0x18 2 = 0 ∧ t ≠ h.devIndex ∧ h.known.contains t = true ∧ (∀ p ∈ way, (h.port p).txSleep ≠ 2) →
          h.host.linkUp = true → (h.pathActive t = false → Stays k 3 rest way h g) ∧
          (h.pathActive t = true → g.host.ring = rest ∧
            (Fits sp code (h.slotArgs k) → g.slotState k = 4 ∧ (∀ j o, j ≠ k → o < 256 → g.slotByte j o = h.slotByte j o) ∧
              g.out = h.out ++ [.message t (.command h.devIndex k code false (h.slotArgs k) [])] ∧
              g.host.waits = h.host.waits ++ [⟨.slot k, forwardedCode + code, [], [], [t], 1, none⟩]) ∧
            (¬Fits sp code (h.slotArgs k) → SlotDone h g k stBadArgument [] ∧
              (∀ j o, j ≠ k → o < 256 → g.slotByte j o = h.slotByte j o) ∧ g.host.waits = h.host.waits))) ∧
        (t ≠ h.devIndex → h.host.linkUp = false → ends g stDeviceAbsent) ∧
        (t ≠ h.devIndex → h.host.linkUp = true → h.known.contains t = false →
          (h.settled = true → ends g stDeviceAbsent) ∧ (h.settled = false → Stays k 3 rest [] h g)) := by
  intro code t way ends g
  have hg : g = _ := mbxTake_eq io hr hready hsw hp
  have hset := slotSet_setSlotState (h.ringed rest) k (v := 2) (by decide)
  dsimp only at hg
  generalize (h.ringed rest).setSlotState k 2 = m at hg hset
  have hcode : m.slotField k 0 2 = code := hset.field (.inl (by decide))
  have ht : m.slotField k 4 1 = t := hset.field (.inl (by decide))
  have hhead : m.headerOk k = h.headerOk k := hset.header
  have hway := (way_ringed h rest).trans hset.way
  have hring : m.host.ring = rest := by
    rw [hset.rest]
    rfl
  have hdone : ∀ status, status < 256 → ends (m.completeSlot k status []) status := fun status hs =>
    ⟨(completeSlot_ring m k status).trans hring, hset.done hs⟩
  have hmember : m.isMember = false := hway.head.2.trans hm
  rw [hcode, hhead] at hg
  refine ⟨fun hno => ?_, fun hsome hbad => ?_, fun sp hsp hok => ?_⟩
  · rw [hno] at hg
    exact hg ▸ hdone _ (by decide)
  · rw [if_neg (by rw [Option.isNone_iff_eq_none]; exact hsome), hbad] at hg
    exact hg ▸ hdone _ (by decide)
  rw [hsp, hok] at hg
  have hroute : g = m.route k io := hg
  have hfwd : ∀ b, h.host.linkUp = b → m.forwards = b := fun b hb => by
    rw [hway.forwards]
    unfold Hw.forwards
    rw [hb, hm]
    cases b <;> rfl
  refine ⟨fun hown => ?_, fun ⟨hd, hne, hknown, hsleep⟩ hup => ?_, fun hne hdown => ?_, fun hne hup hunk => ?_⟩
  · rw [hroute, route_own (by rw [ht, hway.index]; exact hown) hmember]
    exact stays_of hset rfl (fun _ _ => rfl) (slotSet_setSlotState m k (by decide))
  · have hports : m.msgPorts t = h.msgPorts t := hway.msgPorts t
    obtain ⟨w1, w2, w3⟩ := wakePath_fields m t fun p hp => by
      rw [hports] at hp
      rw [show m.port p = h.port p by rw [hset.rest]; rfl]
      exact hsleep p hp
    have hactive : (m.wakePath t).pathActive t = h.pathActive t := (hway.trans w3).active t
    have heq := route_known (io := io) (by rw [ht, hway.index]; exact hne) (hfwd true hup) (by rw [ht, hway.known]; exact hknown)
    rw [ht, hactive, ← hroute] at heq
    refine ⟨fun hp => ?_, fun hp => ?_⟩
    · rw [heq, hp, if_neg Bool.false_ne_true]
      exact stays_of hset w1 (fun q hq => w2 q (by rw [hports]; exact hq)) (slotSet_setSlotState _ k (by decide))
    · rw [hp, if_pos rfl] at heq
      rw [heq]
      exact forward_ringed io hset hsp hd hsleep
  · rw [hroute, route_down (by rw [ht, hway.index]; exact hne) (hfwd false hdown)]
    exact hdone _ (by decide)
  · have heq := route_unknown (io := io) (by rw [ht, hway.index]; exact hne) (hfwd true hup) (by rw [ht, hway.known]; exact hunk)
    rw [hway.settled, ← hroute] at heq
    refine ⟨fun hs => ?_, fun hs => ?_⟩
    · rw [heq, hs, if_pos rfl]
      exact hdone _ (by decide)
    · rw [heq, hs, if_neg Bool.false_ne_true]
      exact stays_of hset rfl (fun _ _ => rfl) (slotSet_setSlotState m k (by decide))

/-- Settles O58. Taking a slot changes its state alone; the way to another module is woken without a change of its links, and then the
command is forwarded, held or ended. -/
theorem mailboxTransport : Obligations.MailboxTransport := by
  intro s k io hk
  refine ⟨fun rest hr hready hsw hp hm => ?_, fun sp hsp hs hdirect ha => ?_, fun hs => ?_, fun n c hn hlt hc => ?_,
    fun hr => ⟨fun hb => ?_, fun ho => ?_, fun ho => ?_⟩, fun hready hports htopo => ?_⟩
  · obtain ⟨h1, h2, h3⟩ := mbxTake_fields io hr hready hsw hp hm
    refine ⟨fun hno => does_of rfl (h1 hno), fun hsome hbad => does_of rfl (h2 hsome hbad), fun sp hsp hok => ?_⟩
    obtain ⟨g1, g2, g3, g4⟩ := h3 sp hsp hok
    have stay : ∀ {v ps}, Stays k v rest ps s.hw (execMbxTake s.hw io) → Does (.mbxTake io) s fun g => g.host.ring = rest ∧
        g.slotState k = v ∧ (∀ j o, j ≠ k → o < 256 → g.slotByte j o = s.hw.slotByte j o) ∧
        g = { s.hw with host := { s.hw.host with slots := g.host.slots, ring := rest }, ports := g.ports } ∧
        ∀ p, p ∉ ps → g.port p = s.hw.port p := fun st => does_of rfl ⟨st.ring, st.state, st.others, st.rest, st.port⟩
    refine ⟨fun ht => stay (g1 ht), fun hd hup => ?_, fun hne hdown => does_of rfl (g3 hne hdown), fun hne hup hunk => ?_⟩
    · obtain ⟨d1, d2⟩ := g2 hd hup
      refine ⟨fun ha => stay (d1 ha), fun ha => ?_⟩
      obtain ⟨e1, e2, e3⟩ := d2 ha
      exact ⟨fun hf => does_of rfl ⟨e1, e2 hf⟩, fun hf => does_of rfl ⟨e1, e3 hf⟩⟩
    · obtain ⟨d1, d2⟩ := g4 hne hup hunk
      exact ⟨fun hset => does_of rfl (d1 hset), fun hset => stay (d2 hset)⟩
  · obtain ⟨hd, hne, hknown, hsleep⟩ := hdirect
    obtain ⟨-, -, w3⟩ := wakePath_fields s.hw _ hsleep
    have heff : effect (.heldForward k io) s.hw = _ := heldForward_eq (io := io) hk hs hne hknown ((w3.active _).trans ha)
    obtain ⟨-, f1, f2⟩ := forward_awake (io := io) (slotSet_self s.hw k) hsp hd hsleep
    rw [← heff] at f1 f2
    refine ⟨fun hf => does_of (decide_eq_true hk) (f1 hf), fun hf => does_of (decide_eq_true hk) ?_⟩
    obtain ⟨a1, a2, -⟩ := f2 hf
    exact ⟨a1, a2⟩
  · refine does_of (i := .heldCommandTimeout k) (decide_eq_true (by omega)) ?_
    rw [show effect (.heldCommandTimeout k) s.hw = _ from heldCommandTimeout_slot hk hs]
    exact ⟨endCmd_done s.hw k stDeviceAbsent [] [] [] (by decide) (by decide), endCmd_onlySlot ..⟩
  · exact does_of (i := .heldCommandTimeout n) (decide_eq_true hlt) (heldCommandTimeout_form hn hc)
  · refine does_of (decide_eq_true hk) ?_
    rw [show effect (.descBmeTimeout k) s.hw = _ from descBmeTimeout_eq hr hb]
    exact ⟨endCmd_done s.hw k stTimeout [] [] [] (by decide) (by decide), endCmd_onlySlot ..⟩
  · refine does_of (decide_eq_true hk) ?_
    rw [show effect (.hostReadTimeout k) s.hw = _ from hostReadTimeout_eq hr, ho, if_neg Bool.false_ne_true]
    exact ⟨endCmd_done s.hw k stTimeout [] [] [] (by decide) (by decide), endCmd_onlySlot ..⟩
  · refine exec_unchanged (decide_eq_true hk) ?_
    rw [show effect (.hostReadTimeout k) s.hw = _ from hostReadTimeout_eq hr, ho, if_pos rfl]
  · refine does_of rfl ?_
    rw [show effect .discoverySettled s.hw = _ from discoverySettled_eq hready hports htopo]
    obtain ⟨hb, hknown, hindex, hset⟩ := way_settling s.hw
    generalize s.hw.fset (hostifA 0x80) 0 0 1 = m at hb hknown hindex hset ⊢
    have hu := unknownEnded_foldl (List.range 8) List.nodup_range m
    generalize (List.range 8).foldl Hw.endHeld m = g at hu ⊢
    have hheld : ∀ j, m.unknownHeld j ↔ s.hw.unknownHeld j := fun j => by
      unfold Hw.unknownHeld
      rw [slotState_of_bytes fun o _ => hb j o, slotField_congr fun i _ => hb j _, hknown, hindex]
    refine ⟨hu.way.settled.trans hset, fun j hj hst => ⟨fun hne hunk => ?_, fun hkeep o ho => ?_⟩⟩
    · exact slotDone_congr (fun o _ => hb j o) (hu.ended j (List.mem_range.2 hj) ((hheld j).2 ⟨hst, hne, hunk⟩))
    · refine (hu.kept j o ho (.inr fun hx => ?_)).trans (hb j o)
      obtain ⟨-, h2, h3⟩ := (hheld j).1 hx
      rcases hkeep with e | e
      · exact h2 e
      · rw [e] at h3
        cases h3

end Sys2Proof.Machine
end

section
-- As the tests above: declarations in order, so that checking the one text stays within its memory.
set_option Elab.async false
/-!
PROOFS. The number of a trace source that offers a packet has no bound in the address of its count of refused packets (O20).
-/

namespace Sys2Proof.Machine

/-- A source far beyond the four of the trace unit: word 0x1C of the POWER block stands where its count of refused packets would. -/
def sourceBeyond : Nat := (powerA 0x1C - traceA 0x20) / 4

/-- An entry to DOZE is asked for, wake source 1 is enabled, 0xFFFF wakes and no ended entry are counted, and a packet waits of the source
beyond the four, which refuses packets until a frame's first. -/
def offeredBeyond : Hw :=
  { regs := [(traceA 0, 1), (powerA 0x14, 1), (powerA 0x1C, 0xFFFF)]
    power := { powered := true, goal := some 2 }
    trace := { offers := [⟨sourceBeyond, 0⟩], resync := List.replicate (sourceBeyond + 1) true } }

/-- Wake source 1 arrives at the end of the first step. -/
def firstStepCut : EntryCut := ⟨1, 1, 0, ⟨[], none⟩⟩

/-- The first step flushes the trace: the refused packet carries the count of wakes over into that of ended entries, which then counts
this one. -/
theorem endedEntries_offeredBeyond :
    (effect (.enterDoze (some firstStepCut)) offeredBeyond).fget (powerA 0x1C) 31 16 = 2 := by
  decide +kernel

/-- Refutes O20: the entry to DOZE refuses a packet of a trace source beyond the four, whose count of refused packets lies in the word
that counts ended entries. The entry that a wake source ends adds 2 to that count, where the statement asks for 1. -/
theorem not_lowPower : ¬ Obligations.LowPower := by
  unfold Obligations.LowPower
  intro h
  obtain ⟨-, hstates⟩ := h
  obtain ⟨-, hentries, -⟩ := hstates ⟨[], offeredBeyond⟩ rfl (by decide)
  obtain ⟨-, hdoze, -⟩ := hentries (by decide) (by decide) rfl rfl
  obtain ⟨-, hcut⟩ := hdoze 2 rfl (by decide) (by decide +kernel)
  obtain ⟨-, -, -, hcount⟩ := ((hcut firstStepCut).1 (by decide +kernel) (by decide) (by decide)).of_effect
  rw [endedEntries_offeredBeyond] at hcount
  exact absurd hcount (by decide +kernel)

end Sys2Proof.Machine
end
